-- ==== Sys2Proof/Word.lean ====
section
/-! DEFINITION. The word type of the device (R8, R9: registers are 32-bit words) and its plainest arithmetic. -/

namespace Sys2Proof

/-- R9: a register or memory word. -/
abbrev Word := BitVec 32

/-- A word from a natural number, modulo 2^32. -/
abbrev Word.of (n : Nat) : Word := BitVec.ofNat 32 n

end Sys2Proof
end

