-- ==== Sys2Proof/Syntax.lean ====
section
/-! DEFINITION. The commands the device takes from outside, with their operands. -/

namespace Sys2Proof

/-- R34: who makes a register access. -/
inductive Requester where
  | core (c : Nat)
  | debug
  | host
  deriving DecidableEq, Repr

/-- R72, R87: a command packet as the device reads it. Queues 0-3 are the host's, 4 is Q4. -/
structure Pkt where
  queue : Nat := 0
  /-- R88: UID of the requesting node, Q4 only -/
  uid : Nat := 0
  /-- R428: the packet came over a Splice link, Q4 only -/
  splice : Bool := false
  tag : Nat := 0
  /-- word 0 [23:19] -/
  rsvd : Nat := 0
  signed : Bool := false
  noReply : Bool := false
  fence : Bool := false
  opcode : Nat := 0
  seq : Nat := 0
  /-- word 1 [15:0], in bytes -/
  len : Nat := 0
  ctxLo : Word := 0
  ctxHi : Word := 0
  params : List Word := []
  /-- R72: the trailer length in bytes, of a SIGNED packet -/
  trailer : Nat := 0
  /-- R461: the trailer's words -/
  sig : List Word := []
  /-- R58: how often its host queue had been enabled when the packet was fetched -/
  gen : Nat := 0
  /-- R431: the packet's application cycle has come (queue 5: it came as an M_CMD) -/
  mir : Bool := false
  deriving DecidableEq, Repr

/-- R453: what the boot ROM and the loader found: a way the boot chain ends. -/
inductive BootChain where
  /-- loader and firmware started from these banks: bank and signing slot of loader, of firmware, versions and SVNs,
  whether a bank chosen second was used,
  body digests, and the code of the last image refused (0 none) -/
  | started (ldrBank fwBank ldrSlot fwSlot ldrVersion ldrSvn fwSvn : Nat) (fallback : Bool) (ldrDigest fwDigest fwVersion : Nat) (fail : Nat)
  /-- the flash could not be read (R47) -/
  | flashRead
  /-- neither bank of a type is valid; the code of R451 of the last image refused -/
  | imageAuth (fail : Nat)
  deriving DecidableEq, Repr

/-- R56, R494: one reading of the junction and rail monitors. -/
structure Health where
  /-- junction, signed, 1/4 degree Celsius -/
  junction : Int := 0
  /-- rails 0-8: deviation from nominal in 0.01 %, and millivolts -/
  rails : List (Int × Nat) := []
  /-- bit r: rail r is outside its operating range (R512) -/
  outside : Nat := 0
  deriving DecidableEq, Repr

/-- R387, R388: a CAN data frame as a controller receives it; a base identifier stands in bits [28:18] of `id`. -/
structure CanFrame where
  ide : Bool := false
  id : Nat := 0
  fdf : Bool := false
  brs : Bool := false
  esi : Bool := false
  dlc : Nat := 0
  /-- bytes -/
  data : List Nat := []
  /-- R393: device time of its start of frame; in CAN_FRAME_RX the CTL_CLK tick of that edge -/
  ts : Nat := 0
  deriving DecidableEq, Repr

/-- R382: what ISO 11898-1 does to the counts for an error that ends no transmission: REC by 1, REC by 8, or TEC by 8, for a transmitter's
errors in its own error or overload flag. -/
inductive CanErr where
  | rec1 | rec8 | tec8
  deriving DecidableEq, Repr

/-- R424: the header of a Splice frame as received: the link, whether its CRC is good, and its fields. -/
structure SplFrame where
  link : Nat := 0
  crcOk : Bool := true
  dst : Nat := 0
  src : Nat := 0
  schema : Nat := 0
  mseq : Nat := 0
  deriving DecidableEq, Repr

/-- R437, R440-R442: what a CONTROL frame tells of the partner. -/
structure LashControl where
  /-- LASH_STATE code -/
  state : Nat := 0
  schema : Nat := 0
  prefer : Bool := false
  uid : Nat := 0
  /-- IMAGE_ID of its active application image -/
  image : Option Nat := none
  /-- the ACTIVE detaches its partner; it brings its partner up; the switch cycle it has given -/
  detach : Bool := false
  snapshot : Bool := false
  switchCyc : Option Nat := none
  /-- R440: a partner in SYNCING has loaded the image of static state -/
  loaded : Bool := false
  deriving DecidableEq, Repr

/-- R430: a mirrored input, with the value and instant that the ACTIVE had. -/
inductive MirItem where
  | adc (core entry : Nat) (word : Word) (ts : Nat)
  | enc (n : Nat) (pos : Int) (err : Bool)
  | cap (n : Nat) (rising : Bool) (ts : Nat)
  | gpio (pin : Nat) (level : Bool)
  | can (c : Nat) (f : CanFrame)
  | tick (mask : Nat)
  | trip (gen : Nat) (sto : Bool)
  | sto (group : Nat) (safe : Bool)
  | img (i : Nat) (v : Word)
  deriving DecidableEq, Repr

/-- R432: a recipe's state in a delta. -/
structure RcpDelta where
  st : Nat := 0
  cause : Nat := 0
  step : Nat := 0
  sync : Nat := 0
  tau : Int := 0
  applied : Bool := false
  wait : Option Nat := none
  pausedAt : Nat := 0
  late : Nat := 0
  split : Nat := 0
  deriving DecidableEq, Repr

/-- R432: program state in a delta: n and the bank status, words of the process image, n, forces as (id, type, low, high), recipes. -/
structure ProgDelta where
  n : Option Nat := none
  /-- bank status: 0 EMPTY, 1 STOPPED, 2 RUNNING, 3 CHANGING -/
  st : Nat := 0
  words : List (Nat × Word) := []
  forces : List (Nat × Nat × Nat × Nat) := []
  recipes : List (Nat × RcpDelta) := []
  /-- R441: commits that wait for their transfer point: the cycle that their period ends with, their RE_ARM words, their image words -/
  waits : List (Nat × Nat × List (Nat × Word)) := []
  deriving DecidableEq, Repr

/-- R440 phase 1: a part of the image of static state. -/
inductive SnapPart where
  /-- configuration words and cam tables, from an address -/
  | words (addr : Nat) (ws : List Word)
  /-- the program images in the active and in the spare bank -/
  | program (ws : List Word)
  | spare (ws : List Word)
  | recipe (n : Nat) (ws : List Word)
  /-- the schedule image in a bank, and whether that bank is the one in use -/
  | schedule (inUse : Bool) (ws : List Word)
  deriving DecidableEq, Repr

/-- R440 phase 3: what seeds one unit. -/
inductive Seed where
  /-- a slot: the input cycle of the sample that seeds it, its state, its 64 words, its limit set, its model block -/
  | slot (n cyc st : Nat) (mem limits model : List Word)
  /-- an axis: the cycle at whose start it is seeded, its words, its position and motion -/
  | axis (n cyc : Nat) (mem : List Word) (p v a : Int)
  deriving DecidableEq, Repr
/-- The commands of the block: one constructor per row of spec/opcode_table.json, in its order. -/
inductive Instr where
  /-- R41 POR_ASSERT: PORn is held low for at least the filter time, so a power-on reset is asserted and every pin goes to its pre-arm state. -/
  | porAssert (lowNs : Nat)
  /-- R41 SYS_RESETN_ASSERT: SYS_RESETn is held low for at least the filter time, so a pin reset is asserted. -/
  | sysResetnAssert (lowNs : Nat)
  /-- R41 SUPPLY_UNDER_VOLTAGE: An under-voltage on VDD_CORE, VDD_SRAM or VDD_IO asserts a power-on reset. -/
  | supplyUnderVoltage
  /-- R42 DEBUG_RESET_REQUEST: The debug port requests a reset while debug is unlocked, which asserts a DBG reset. -/
  | debugResetRequest
  /-- R45 RESET_RELEASE: Reset is released, cause bits are kept, and the start-up stages begin, including the Sluice self-test and the enabling of the ADC reference. -/
  | resetRelease (bootIf pcieRefsel : Bool)
  /-- R36 XTAL_OK: The crystal oscillator becomes stable after reset release and XTAL_OK is set. -/
  | xtalOk
  /-- R36 PLL_LOCK: The system PLL locks, the five derived clocks start together, STAGE becomes ROM and the PCIe PLL is enabled. -/
  | pllLock
  /-- R37 SERDES_PLL_LOCK: A SerDes PLL locks after being enabled. -/
  | serdesPllLock (pll : Nat)
  /-- R38 SERDES_PLL_UNLOCK: A SerDes PLL loses lock; the device sets the PLL's unlock bit, and the links on that PLL go down without a reset. -/
  | serdesPllUnlock (pll : Nat)
  /-- R39 CRYSTAL_LOSS: XIN shows no edge for 1 µs; the device raises the clock-monitor trip on every PWM generator and schedules a PLL_LOSS reset. -/
  | crystalLoss
  /-- R39 PLL_LOSS_OF_LOCK: The system PLL loses lock; PWM outputs go to trip level within 20 ns and a PLL_LOSS reset follows 1 µs later. -/
  | pllLossOfLock
  /-- R39 PLL_LOSS_RESET: The 1 µs delay after a loss of lock or crystal ends and the internal PLL_LOSS reset is asserted. -/
  | pllLossReset
  /-- R38 CROSS_MONITOR_WINDOW: A 320-period window of the Sluice oscillator ends and the CTL_CLK count is judged; a count out of range puts the Sluice in its safe state. -/
  | crossMonitorWindow (count : Nat)
  /-- R453 BOOT_CHAIN_DONE: The boot ROM and the loader finish choosing, copying and verifying the loader and firmware banks, and either start firmware, enter RECOVERY or halt. -/
  | bootChainDone (r : BootChain)
  /-- R45 DRAM_TRAIN_DONE: LPDDR4X training on both channels completes, or fails with ERR DRAM_TRAIN. -/
  | dramTrainDone (ok : Bool)
  /-- R45 FW_INIT_DONE: Firmware initialisation completes: READY is set, RING_CAP is written, forces lost at reset are recorded, and ADC self-calibration starts. -/
  | fwInitDone
  /-- R46 RING_JOIN_TIMEOUT: Each 1.5 s spent in RING_JOIN posts an event record and sets ERR to 0x06. -/
  | ringJoinTimeout
  /-- R53 SYS_WDOG_KICK_WRITE: A write to SYS_WDOG_KICK restarts the watchdog count when it carries the key, and sets CFG_REJECT otherwise. -/
  | sysWdogKickWrite (v : Word)
  /-- R53 SYS_WDOG_CTRL_WRITE: A write to SYS_WDOG_CTRL sets EN and TIMEOUT, and is refused once EN is set. -/
  | sysWdogCtrlWrite (v : Word)
  /-- R53 WDOG_WARN: The watchdog count reaches half of TIMEOUT and WDOG_WARN is set. -/
  | wdogWarn
  /-- R53 WDOG_TIMEOUT: The watchdog count reaches TIMEOUT and a watchdog reset is asserted. -/
  | wdogTimeout
  /-- R54 SYS_SWRST_WRITE: A write of the key to SYS_SWRST asserts a software reset; any other value sets CFG_REJECT. -/
  | sysSwrstWrite (v : Word)
  /-- R52 SYS_ARM_WRITE: A write of 1 to OUTEN arms the outputs from FW_RUN onward; before FW_RUN it sets ARM_REFUSED. -/
  | sysArmWrite (v : Word)
  /-- R28 REGISTER_WRITE: A write to a register with no behaviour of its own; RWL fields are judged field by field, STG fields go to staging, and byte or half-word accesses are ignored. -/
  | registerWrite (r : Requester) (addr size : Nat) (v : Word)
  /-- R31 BLK_COMMIT_WRITE: The commit key is written to BLK_COMMIT, so a commit starts for the units selected by the mask, or is refused. -/
  | blkCommitWrite (base : Nat) (v : Word)
  /-- R33 COMMIT_ABANDON: A selected unit has not reached its safe point within 1 ms, so its commit is abandoned, CMT_LATE is set and a record is posted. -/
  | commitAbandon (base : Nat)
  /-- R34 PAIR_LO_READ: A read of a _LO register returns the low word and copies the matching high word into the requester's read holding register; for a FIFO pair it removes the head entry. -/
  | pairLoRead (r : Requester) (addr size : Nat)
  /-- R102 PAIR_HI_READ: A read of a _HI register returns the read holding register, and sets PAIR_ORDER when the pair order was broken. -/
  | pairHiRead (r : Requester) (addr size : Nat)
  /-- R102 PAIR_LO_WRITE: A write to a _LO register stores the low word in the write holding register. -/
  | pairLoWrite (r : Requester) (addr : Nat) (v : Word)
  /-- R102 PAIR_HI_WRITE: A write to a _HI register combines with the held low word and applies the 64-bit value, such as a time step or an encoder preset. -/
  | pairHiWrite (r : Requester) (addr : Nat) (v : Word)
  /-- R68 QNSQ_TAIL_WRITE: The host writes a submission doorbell; units are made available, or the queue stops with ERR DOORBELL. -/
  | qnsqTailWrite (n : Nat) (v : Word)
  /-- R71 QNCQ_HEAD_WRITE: The host advances the completion doorbell, which frees room for replies that are waiting. -/
  | qncqHeadWrite (n : Nat) (v : Word)
  /-- R61 QNCTL_WRITE: A write to EN enables a queue, or starts to drain and disable it, following the queue state table. -/
  | qnctlWrite (n : Nat) (v : Word)
  /-- R81 PACKET_FETCH: A complete packet is fetched by queue priority, SQ_HEAD advances, and the packet is checked in order before its opcode is started. -/
  | packetFetch (n : Nat) (mem : List (Nat × List Word)) (dmaError : Bool)
  /-- R462 SIGNATURE_VERIFY_DONE: The SEC block completes verifying a SIGNED packet's trailer; SEC_CMD_CTR is stored and the packet continues, or it is answered AUTH_FAILED. -/
  | signatureVerifyDone
  /-- R71 REPLY_POST: A reply entry is written to the completion ring once there is room for it; a queue whose last reply drains goes to DISABLED. -/
  | replyPost (n : Nat) (dmaError : Bool)
  /-- R84 QUEUE_COAL_TIMEOUT: QnCOAL TIME passes since the first unsignalled reply, and the queue's MSI-X vector is sent. -/
  | queueCoalTimeout (n : Nat)
  /-- R58 PCIE_LINK_DOWN: The PCIe link goes down; all host queues are disabled, unposted replies are discarded and the acquisition stream stops. -/
  | pcieLinkDown
  /-- R58 FUNCTION_LEVEL_RESET: The host issues a function level reset; this has the same effect on queues and the stream as a link going down. -/
  | functionLevelReset
  /-- R58 D3HOT_ENTRY: The function is placed in D3hot; this has the same effect on queues and the stream as a link going down. -/
  | d3hotEntry
  /-- R63 STAT_HEARTBEAT: Every 1 ms while READY is set, firmware increments STAT_HEARTBEAT. -/
  | statHeartbeat
  /-- R56 SYS_NOP: The command does nothing and is answered DONE. -/
  | sysNop (p : Pkt)
  /-- R56 SYS_INFO: The command returns identity, versions, UID and the fitted memory sizes. -/
  | sysInfo (p : Pkt)
  /-- R55 SYS_RESET: The command is answered DONE and schedules a software reset 1 ms after the reply is posted. -/
  | sysReset (p : Pkt)
  /-- R55 SYS_RESET_TAKES_EFFECT: The 1 ms after the SYS_RESET reply passes and the software reset is asserted. -/
  | sysResetTakesEffect
  /-- R55 SYS_ARM: The command sets OUTEN, or is answered NOT_PERMITTED before FW_RUN. -/
  | sysArm (p : Pkt)
  /-- R55 SYS_BOOT_STATUS: The command returns the boot, reset-cause, clock and reset-count registers. -/
  | sysBootStatus (p : Pkt)
  /-- R486 SYS_POWER_STATE: The command requests RUN, IDLE or STANDBY; a STANDBY request is answered after wake, or refused with STANDBY_DENIED or WAKE_PENDING. -/
  | sysPowerState (p : Pkt)
  /-- R486 SYS_WAKE_CONFIG: The command writes the wake enables and polarities. -/
  | sysWakeConfig (p : Pkt)
  /-- R56 SYS_REMOTE_PERMIT: The command sets and stores the mask of opcode groups that remote packets on Q4 may use. -/
  | sysRemotePermit (p : Pkt)
  /-- R56 SYS_HEALTH: The command returns junction and rail readings and the out-of-range history, and clears that history on request. -/
  | sysHealth (p : Pkt) (h : Health)
  /-- R421 SLUICE_STATUS: The command returns the Sluice state, nonce, configuration, faults, channel and connection status, and counters. -/
  | sluiceStatus (p : Pkt)
  /-- R421 SLUICE_REQUEST: The command relays a mailbox request to the Sluice and answers with the Sluice's result. -/
  | sluiceRequest (p : Pkt)
  /-- R115 TIME_CONFIG: The command writes the time source, servo, ring-port, asymmetry and PTP settings. -/
  | timeConfig (p : Pkt)
  /-- R115 TIME_READ: The command returns device time, time state, offset, link delays, rate and PTP port states. -/
  | timeRead (p : Pkt) (ports : Nat)
  /-- R93 TIME_SRC_WRITE: SEL is written; the time state goes to FREE, ACQUIRE or HOLDOVER depending on whether the named source is present. -/
  | timeSrcWrite (v : Word)
  /-- R529 PTP_OFFSET_WRITE: Firmware writes a PTP offset sample to TIME_EXT_OFFSET; the sample keeps its source present and, when that source is active, drives the servo. -/
  | ptpOffsetWrite (v : Word)
  /-- R91 TIME_SOURCE_LOST: The active source's loss condition expires, such as 3 ring cycles or 2,000 ms without a sample, and the time state goes to HOLDOVER. -/
  | timeSourceLost (src : Nat)
  /-- R93 HOLD_LIMIT_EXPIRY: HOLD_LIMIT seconds pass in HOLDOVER; the device moves to the fallback source, or to FREE. -/
  | holdLimitExpiry
  /-- R98 CMP_FIRE: Device time reaches a compare unit's instant; the unit pulses its routed destinations and, if periodic, advances its instant. -/
  | cmpFire (n : Nat)
  /-- R99 CMPN_CTRL_WRITE: A compare unit is enabled or disabled; an instant already in the past is handled as after a step, and a period too short is refused. -/
  | cmpnCtrlWrite (n : Nat) (v : Word)
  /-- R100 CAP_EDGE: A filtered edge at a capture input is stamped and pushed into the FIFO, or discarded on overflow, and pulses its ADC and acquisition routes. -/
  | capEdge (n : Nat) (rising : Bool) (samples : Nat)
  /-- R109 ETH_FRAME_SENT: A transmit descriptor's frame has been sent; OWN is cleared, and with TS_REQ the stamp is pushed into the timestamp queue. -/
  | ethFrameSent (port : Nat) (ok : Bool) (stamp : Nat)
  /-- R112 ETH_FRAME_RX: A frame is received into the next receive descriptor, with stamp, truncation and overflow handling. -/
  | ethFrameRx (port len : Nat) (data : List Word) (bad : Bool) (stamp : Nat)
  /-- R114 ETH_MDIO_GO: GO is written in ETHp_MDIO to start a Clause 22 MDIO access. -/
  | ethMdioGo (port : Nat) (v : Word)
  /-- R114 ETH_MDIO_DONE: An MDIO access completes; GO clears and read data is available. -/
  | ethMdioDone (port data : Nat)
  /-- R124 ADC_SWTRIG_WRITE: A write to ADC_SWTRIG issues a software trigger to each armed core that selects it. -/
  | adcSwtrigWrite (v : Word)
  /-- R129 ADC_RESULT: A sequence entry's conversion completes; the corrected result goes to slots, FIFO, acquisition and window comparator, and after the last entry the pass ends. -/
  | adcResult (c raw : Nat)
  /-- R130 ADC_FIFO_READ: A read of ADCc_FIFO removes the head result and latches its sample instant, or returns the empty value. -/
  | adcFifoRead (c : Nat)
  /-- R118 ADC_REF_WRITE: The reference select is written; a change clears REF_SETTLED and CAL_VALID, and a write is refused while any core is armed or calibrating. -/
  | adcRefWrite (v : Word)
  /-- R118 REF_SETTLED: The settling time of the selected reference passes and REF_SETTLED is set. -/
  | refSettled
  /-- R126 ADC_ARM_WRITE: ARM of a core is written; writing 0 stops further passes after the running pass ends. -/
  | adcArmWrite (c : Nat) (v : Word)
  /-- R121 CAL_GO: Core code starts self-calibration of a disarmed core, which clears CAL_VALID and sets CAL_BUSY. -/
  | calGo (c : Nat)
  /-- R121 ADC_CAL_DONE: A core's 18 ms calibration ends; it writes new factors and sets CAL_VALID, or keeps the old factors and posts a failure record. -/
  | adcCalDone (c : Nat) (factors : Option (Nat × Nat × List Nat))
  /-- R516 AVDD_LOW: AVDD falls below 4.6 V and REF_SETTLED is cleared. -/
  | avddLow
  /-- R516 AVDD_RETURN: AVDD rises above 4.7 V and the reference settling restarts. -/
  | avddReturn
  /-- R135 ADC_CONFIG: The command disarms, sets the reference, triggers, watermark and comparators, then arms the masked cores. -/
  | adcConfig (p : Pkt)
  /-- R135 ADC_CALIBRATE: The command starts calibration of the masked cores and answers DONE when all of them finish. -/
  | adcCalibrate (p : Pkt)
  /-- R135 ADC_SEQUENCE: The command writes and commits a core's sequence list. -/
  | adcSequence (p : Pkt)
  /-- R136 ADC_READ: The command returns the last pass or FIFO entries, optionally after triggering and waiting for a pass. -/
  | adcRead (p : Pkt)
  /-- R148 SLOT_SAMPLE: A released slot issues and is evaluated under its state; supervision, queued requests and the output write are applied. -/
  | slotSample (n : Nat) (late : Nat)
  /-- R171 FB_TMO_EXPIRY: No feedback arrives for FB_TMO µs, so the slot is released with not-fresh feedback. -/
  | fbTmoExpiry (n : Nat)
  /-- R158 SLOT_REQUEST_TIMEOUT: A queued slot state request has not taken effect within 100 ms and is answered TIMEOUT. -/
  | slotRequestTimeout (n k : Nat)
  /-- R147 SNAPSHOT_TICK: While the ring is not running, device time reaches a 20 µs grid instant and the slot input snapshot is taken. -/
  | snapshotTick
  /-- R158 SLOT_REQ_OPEN: LOOP_SLOTn_CTRL.REQ = OPEN queues an open request for the slot. -/
  | slotReqOpen (n : Nat)
  /-- R158 SLOT_REQ_CLOSE: LOOP_SLOTn_CTRL.REQ = CLOSE queues a close request. -/
  | slotReqClose (n : Nat)
  /-- R158 SLOT_REQ_OBSERVER: LOOP_SLOTn_CTRL.REQ = OBSERVER queues an observer request. -/
  | slotReqObserver (n : Nat)
  /-- R158 SLOT_REQ_SAFE: LOOP_SLOTn_CTRL.REQ = SAFE puts the slot in SAFE at once. -/
  | slotReqSafe (n : Nat)
  /-- R158 SLOT_REQ_RELEASE: LOOP_SLOTn_CTRL.REQ = RELEASE queues a release to IDLE. -/
  | slotReqRelease (n : Nat)
  /-- R191 INJ_GO: Core code writes GO to start an injector step or sweep point on its slot. -/
  | injGo (i : Nat)
  /-- R167 LOOP_CONFIG: The command writes a slot's configuration words and stages and commits its limits. -/
  | loopConfig (p : Pkt)
  /-- R156 LOOP_OPEN: The command queues a move to OPEN at the next sample. -/
  | loopOpen (p : Pkt)
  /-- R159 LOOP_CLOSE: The command queues a bumpless close, checked at acceptance and at the sample where it takes effect. -/
  | loopClose (p : Pkt)
  /-- R168 LOOP_COEF_WRITE: The command writes the compiled coefficients, ORDER and CRC to a slot in IDLE or OPEN. -/
  | loopCoefWrite (p : Pkt)
  /-- R167 LOOP_SETPOINT: The command writes SP_REG and RAMP_RATE. -/
  | loopSetpoint (p : Pkt)
  /-- R167 LOOP_MANUAL: The command sets the manual output of a slot in OPEN. -/
  | loopManual (p : Pkt)
  /-- R167 LOOP_READ: The command returns the slot's state, signals, flags and states. -/
  | loopRead (p : Pkt)
  /-- R167 LOOP_OBSERVER: The command binds or loads a model block and, unless BIND_ONLY is set, queues entry into OBSERVER. -/
  | loopObserver (p : Pkt)
  /-- R158 LOOP_SAFE: The command puts the slot in SAFE at once, writing SAFE_VAL without waiting for a sample. -/
  | loopSafe (p : Pkt)
  /-- R192 LOOP_SUPERVISE: The command writes the slot's supervision words. -/
  | loopSupervise (p : Pkt)
  /-- R187 LOOP_STEP: The command starts a step injection and answers with the recorded samples. -/
  | loopStep (p : Pkt)
  /-- R186 LOOP_SWEEP: The command runs a sine sweep over P points and answers with the gain of each point. -/
  | loopSweep (p : Pkt)
  /-- R167 LOOP_RELEASE: The command queues a return of the slot to IDLE from OPEN. -/
  | loopRelease (p : Pkt)
  /-- R167 LOOP_STICKY_CLEAR: The command clears the masked bits of the slot's sticky flags. -/
  | loopStickyClear (p : Pkt)
  /-- R201 PWM_BOUNDARY: A generator's period boundary: pending commits apply, shadow fields transfer under LOADMASK, and a stop takes effect. -/
  | pwmBoundary (g : Nat)
  /-- R196 PWM_SAMPLE_POINT: The counter reaches PERIOD − LEAD; encoders are latched and the selecting ADC cores are triggered. -/
  | pwmSamplePoint (g : Nat)
  /-- R198 PWM_EN_WRITE: EN is written: 1 starts the counter or cancels a stop, 0 sets STOPPING until the next boundary. -/
  | pwmEnWrite (g : Nat) (b : Bool)
  /-- R198 PWM_START_WRITE: A write to PWM_START0 or PWM_START1 starts the named generators on one tick. -/
  | pwmStartWrite (k : Nat) (v : Word)
  /-- R203 LOADNOW: LOADNOW is set so that the next boundary transfers every written field. -/
  | loadnow (g : Nat)
  /-- R210 TRIP_CLR: TRIP_CLR is written; the trip latch clears unless a selected source is active. -/
  | tripClr (g : Nat)
  /-- R207 TRIP_PIN_ASSERT: A filtered trip pin reaches its active level and latches every generator that selects it. -/
  | tripPinAssert (k samples : Nat)
  /-- R207 TRIP_PIN_DEASSERT: A filtered trip pin returns to its inactive level, so the source becomes inactive. -/
  | tripPinDeassert (k samples : Nat)
  /-- R211 CORE_DEBUG_HALT: A core halts in debug mode and trips the generators that have DBG_EN set and name it. -/
  | coreDebugHalt (c : Nat)
  /-- R211 CORE_DEBUG_RESUME: The halted core resumes, so its debug-halt trip source becomes inactive. -/
  | coreDebugResume (c : Nat)
  /-- R214 PWM_CONFIG: The command stages and commits a generator's configuration, or writes the trip-pin settings. -/
  | pwmConfig (p : Pkt)
  /-- R214 PWM_DUTY: The command writes the masked shadow fields in one cycle, optionally with LOADNOW. -/
  | pwmDuty (p : Pkt)
  /-- R210 PWM_TRIP_CLEAR: The command clears a generator's trip latch, or is answered TRIP_ACTIVE. -/
  | pwmTripClear (p : Pkt)
  /-- R214 PWM_ENABLE: The command starts the masked generators on one tick, or stops them at their boundaries. -/
  | pwmEnable (p : Pkt)
  /-- R216 GPIO_SET_WRITE: A write to GPIO_SET sets the GPIO_OUT bits written 1, changing the pins in one cycle. -/
  | gpioSetWrite (k : Nat) (v : Word)
  /-- R216 GPIO_CLR_WRITE: A write to GPIO_CLR clears the GPIO_OUT bits written 1. -/
  | gpioClrWrite (k : Nat) (v : Word)
  /-- R216 GPIO_INPUT_CHANGE: A pin's filtered input level changes, updating GPIO_IN and its interrupt line. -/
  | gpioInputChange (n : Nat) (level : Bool) (samples : Nat)
  /-- R217 OUT_MISMATCH: A checked output's read-back level has differed from the driven level for 1 µs, so GPIO_MISM and OUT_MISMATCH are set. -/
  | outMismatch (n : Nat)
  /-- R219 GPIO_CONFIG: The command writes GPIO_CFG words for a range of pins. -/
  | gpioConfig (p : Pkt)
  /-- R219 GPIO_WRITE: The command sets the masked output pins to the given levels. -/
  | gpioWrite (p : Pkt)
  /-- R219 GPIO_READ: The command returns the input, output and mismatch words. -/
  | gpioRead (p : Pkt)
  /-- R223 SERVO_BOUNDARY: An axis servo boundary: the set-point is computed and published, and following error and limits are evaluated. -/
  | servoBoundary (k : Nat)
  /-- R226 AXIS_REQ_PUSH: REQ = PUSH appends the move descriptor to the axis queue. -/
  | axisReqPush (n : Nat)
  /-- R229 AXIS_REQ_STOP: REQ = STOP makes a normal stop. -/
  | axisReqStop (n : Nat)
  /-- R229 AXIS_REQ_QUICK_STOP: REQ = QUICK_STOP makes a quick stop. -/
  | axisReqQuickStop (n : Nat)
  /-- R242 AXIS_REQ_ENABLE: REQ = ENABLE enables the axis. -/
  | axisReqEnable (n : Nat)
  /-- R242 AXIS_REQ_DISABLE: REQ = DISABLE disables the axis. -/
  | axisReqDisable (n : Nat)
  /-- R232 AXIS_REQ_GEAR: REQ = GEAR engages gearing to the master from the parameter words. -/
  | axisReqGear (n : Nat)
  /-- R233 AXIS_REQ_CAM: REQ = CAM engages the cam table from the parameter words. -/
  | axisReqCam (n : Nat)
  /-- R235 AXIS_REQ_TRIM: REQ = TRIM adds TRIM_DELTA to TRIM_LEFT. -/
  | axisReqTrim (n : Nat)
  /-- R246 AXIS_CONFIG: The command writes the axis words and stages and commits the limit set. -/
  | axisConfig (p : Pkt)
  /-- R226 AXIS_MOVE: The command queues a move, or with ABORT_REPLACE discards the queue and re-plans the move. -/
  | axisMove (p : Pkt)
  /-- R229 AXIS_STOP: The command discards the queue and stops the axis, normally or quickly. -/
  | axisStop (p : Pkt)
  /-- R242 AXIS_ENABLE: The command enables or disables the axis under the state table. -/
  | axisEnable (p : Pkt)
  /-- R232 AXIS_GEAR: The command couples the axis to a master by a ratio. -/
  | axisGear (p : Pkt)
  /-- R233 AXIS_CAM: The command couples the axis to a master through a cam table. -/
  | axisCam (p : Pkt)
  /-- R236 CAM_TABLE_WRITE: The command writes points of a cam table that no CAMMING axis uses. -/
  | camTableWrite (p : Pkt)
  /-- R235 AXIS_PHASE_TRIM: The command adds a signed trim amount to TRIM_LEFT. -/
  | axisPhaseTrim (p : Pkt)
  /-- R246 AXIS_READ: The command returns the axis state, position, velocity, actual position, following error and trim. -/
  | axisRead (p : Pkt)
  /-- R246 AXIS_STEP_TABLE: The command writes a microstep speed table or MS_TAB. -/
  | axisStepTable (p : Pkt)
  /-- R247 ENC_EDGE: Accepted edges of A or B change the encoder count, or raise ILLEGAL. -/
  | encEdge (n : Nat) (a b : Bool) (samples : Nat)
  /-- R249 ENC_INDEX: An index edge stores ZPOS, sets ZSEEN and may clear the count. -/
  | encIndex (n : Nat) (level : Bool) (samples : Nat)
  /-- R251 SSI_TRANSFER_DONE: An SSI transfer completes; the value is decoded and checked, the count is updated, and class-A slots reading it are released. -/
  | ssiTransferDone (n raw : Nat) (lineLow : Bool)
  /-- R252 ENC_ERR_CLR: A write of 1 to ERR_CLR clears the encoder's error bit. -/
  | encErrClr (n : Nat)
  /-- R252 ENC_ERR_HOLD_EXPIRY: No error occurs for ERR_HOLD × 10 µs, so ERR clears. -/
  | encErrHoldExpiry (n : Nat)
  /-- R254 ENC_CONFIG: The command disables the encoder, writes its settings, loads a preset and enables it, in that order. -/
  | encConfig (p : Pkt)
  /-- R254 ENC_READ: The command returns the encoder configuration, status, count, latch, index position and latch time. -/
  | encRead (p : Pkt)
  /-- R259 RING_CYCLE_START: A ring cycle starts at this node, driving bank switches, PWM sync, ADC triggers, encoder latches and servo boundaries. -/
  | ringCycleStart
  /-- R271 SEGMENT_LATCH: At the last FAB_CLK before the next cycle, the node latches the data of its owned segments, writing complete or NULL segments, and produces its Sluice safety segment. -/
  | segmentLatch
  /-- R263 REFERENCE_FRAME_TX: The master sends the reference frame on both ports at cycle start. -/
  | referenceFrameTx
  /-- R268 BIGHT_FRAME_TX: The master sends the bight frame BIGHT_OFF after cycle start, with default segments and its own writes. -/
  | bightFrameTx
  /-- R262 REFERENCE_FRAME_RX: A reference frame arrives at a port; it is stamped, a link-delay sample and an offset sample are formed, it is judged and rewritten on forwarding, or at the master it is measured on return. -/
  | referenceFrameRx (port : Nat) (ws : List Word) (stamp : Nat)
  /-- R269 SEGMENT_RX: A segment of the bight frame passes this node; valid copies are extracted, owned segments and ANSWERs are written, and safety copies go to the Sluice. -/
  | segmentRx (port seg id len : Nat) (ws : List Word)
  /-- R270 EXTRACTION_END: The end of the bight frame is reached; extraction ends and ring-ticked slots without feedback, tasks and event line 8 are released. -/
  | extractionEnd
  /-- R278 FRAME_FORWARD: A received frame is CRC-checked and forwarded, or turned back, after its span and source are checked by the slot guardian. -/
  | frameForward (port len : Nat) (ws : List Word) (t0 : Nat)
  /-- R276 MESSAGE_FRAME_TX: In an owned acyclic slot, queued message frames that fit are sent, including image blocks and Q4 replies. -/
  | messageFrameTx (slot : Nat)
  /-- R277 MESSAGE_FRAME_RX: A good message frame addressed to this node is accepted or discarded; a remote command packet enters Q4 and an image block is collected. -/
  | messageFrameRx (port len : Nat) (ws : List Word) (stamp : Nat)
  /-- R287 RING_RUN_WRITE: RUN is set, sending the node into CLAIM, or cleared, sending it to DOWN. -/
  | ringRunWrite (v : Word)
  /-- R291 CLAIM_FRAME_RX: A claim frame arrives; it is forwarded or removed, a lower claim makes the candidate withdraw, and a third round completed makes it master. -/
  | claimFrameRx (port : Nat) (ws : List Word)
  /-- R290 CLAIM_TIMEOUT: 100 µs pass after a claim was sent, so the next claim round is sent. -/
  | claimTimeout
  /-- R287 REF_LOSS_TIMEOUT: 256 consecutive cycles pass with no good reference frame, and the node returns to CLAIM. -/
  | refLossTimeout
  /-- R298 MASTER_TAKEOVER: A backup reaches t_miss without a reference frame, sends the cycle's frames and becomes master. -/
  | masterTakeover
  /-- R306 RING_LINK_DOWN: A ring port's link goes down and the node turns frames back out of its other port. -/
  | ringLinkDown (port : Nat)
  /-- R307 RING_LINK_UP: A ring port's link comes up. -/
  | ringLinkUp (port : Nat) (h1 : Bool)
  /-- R307 TURN_BACK_STOP: At a cycle start that is a multiple of 4,096, with the link stable for 1 ms, the node stops turning frames back. -/
  | turnBackStop (port : Nat)
  /-- R309 NODE_ABSENT: A node goes WDOG cycles without a valid copy of any segment it owns and becomes absent. -/
  | nodeAbsent (n : Nat)
  /-- R315 RING_SCHEDULE_LOAD: The command loads a schedule image in chunks, and stores it or applies it by distribution. -/
  | ringScheduleLoad (p : Pkt)
  /-- R315 RING_START: The command sets the ports and generation and sets RUN. -/
  | ringStart (p : Pkt)
  /-- R315 RING_STOP: The command clears RUN. -/
  | ringStop (p : Pkt)
  /-- R315 RING_STATUS: The command returns the ring state, master, breaks, versions, laps and offset. -/
  | ringStatus (p : Pkt)
  /-- R315 RING_COUNTERS: The command returns the port and ring counters. -/
  | ringCounters (p : Pkt)
  /-- R315 RING_STATION: The command returns the UID, presence and rank of a station. -/
  | ringStation (p : Pkt)
  /-- R315 RING_MASTER_RANK: The command sets and stores this node's master rank. -/
  | ringMasterRank (p : Pkt)
  /-- R321 CREATE: The scheduler operation creates a task in its domain and places it in the ready queue. -/
  | create (c : Nat) (arg0 : Word)
  /-- R321 SIGNAL: The scheduler operation sets flag bits of a task and may make it ready. -/
  | signal (c : Nat) (arg0 arg1 : Word)
  /-- R321 WAIT: The scheduler operation returns the matched bits, or blocks the current task with a time-out. -/
  | wait (c : Nat) (arg0 arg1 : Word) (nowait forever : Bool)
  /-- R321 YIELD: The scheduler operation puts the current task at the tail of its level. -/
  | yield (c : Nat)
  /-- R321 SLEEP: The scheduler operation blocks the current task for a duration. -/
  | sleep (c : Nat) (arg1 : Word) (forever : Bool)
  /-- R321 EXIT: The scheduler operation frees the current task and its core. -/
  | exit (c : Nat)
  /-- R319 SCHED_DISP_READ: A read of SCHED_DISPc switches the core to the task offered. -/
  | schedDispRead (c : Nat)
  /-- R327 SCHED_PF_READ: In prefetch-slot mode, a read of SCHED_PFc switches the core to the task named. -/
  | schedPfRead (c : Nat)
  /-- R324 SCHED_EVENT_LINE: A pulse on a bound event line signals its task bit. -/
  | schedEventLine (e : Nat)
  /-- R323 SCHED_TIMEOUT: A WAIT time-out expires and the task becomes ready with status TIMEOUT. -/
  | schedTimeout (t : Nat)
  /-- R323 SCHED_SLEEP_EXPIRY: A SLEEP duration expires and the task becomes ready. -/
  | schedSleepExpiry (t : Nat)
  /-- R326 QMEM_UE: An uncorrectable queue-memory error puts the scheduler into fall-back. -/
  | qmemUe (offset : Nat)
  /-- R330 RELEASE_POINT: A release point copies task inputs, writes system words, applies forces and touch maps, and releases due tasks; a pending on-line change takes place here. -/
  | releasePoint (late : List Nat)
  /-- R333 TASK_COMMIT: A task ends an execution by committing its output buffer for its period. -/
  | taskCommit (t : Nat) (outs : List Word) (rearm us : Nat)
  /-- R333 TRANSFER_POINT: The start of a period's end cycle minus OUT_LEAD is reached; committed outputs are copied into the image, applying forces, station rules and re-arming, and overruns are found. -/
  | transferPoint (late : List Nat)
  /-- R350 PROG_CHANGE_TIMEOUT: MAX_WAIT passes without a change instant, so the on-line change is abandoned. -/
  | progChangeTimeout
  /-- R361 PROG_LOAD: The command loads and verifies a program image into the spare bank, or into the active bank when none is held. -/
  | progLoad (p : Pkt)
  /-- R353 PROG_RUN: The command starts or stops the program's tasks. -/
  | progRun (p : Pkt)
  /-- R340 PROG_FORCE: The command forces variables from the next release point and drives FORCE_IND. -/
  | progForce (p : Pkt)
  /-- R341 PROG_RELEASE: The command releases forces at the next release point. -/
  | progRelease (p : Pkt)
  /-- R350 PROG_CHANGE: The command switches to the spare program at the change instant. -/
  | progChange (p : Pkt)
  /-- R361 PROG_READ_VAR: The command reads variables at one release point. -/
  | progReadVar (p : Pkt)
  /-- R361 PROG_WRITE_VAR: The command writes variables at the next release point. -/
  | progWriteVar (p : Pkt)
  /-- R362 PROG_STATUS: The command returns program, task and node status, and clears sticky bits on request. -/
  | progStatus (p : Pkt)
  /-- R339 PROG_RE_ARM: The command requests that stations be re-armed at the next transfer point. -/
  | progReArm (p : Pkt)
  /-- R356 RECIPE_BOUNDARY: A ring-cycle boundary applies the due steps of each running recipe, and handles wait time-outs and pause, resume and abort. -/
  | recipeBoundary (late : List Nat)
  /-- R363 RECIPE_LOAD: The command stores a recipe and checks its CRC and fields. -/
  | recipeLoad (p : Pkt)
  /-- R363 RECIPE_START: The command starts a recipe at a step at the next boundary. -/
  | recipeStart (p : Pkt)
  /-- R360 RECIPE_PAUSE: The command pauses a running recipe at the next boundary. -/
  | recipePause (p : Pkt)
  /-- R360 RECIPE_RESUME: The command resumes a paused recipe at the next boundary. -/
  | recipeResume (p : Pkt)
  /-- R360 RECIPE_ABORT: The command aborts a recipe and runs its abort chain. -/
  | recipeAbort (p : Pkt)
  /-- R363 RECIPE_STATUS: The command returns the recipe's state, step, clocks and counts. -/
  | recipeStatus (p : Pkt)
  /-- R363 RECIPE_DELETE: The command removes a recipe that is not running. -/
  | recipeDelete (p : Pkt)
  /-- R365 ACQ_VALUE: A tapped value enters a channel; windows are reduced and closed into records, triggers are evaluated, and intake loss is counted. -/
  | acqValue (sig edge : Nat)
  /-- R375 SPILLWAY_CHECK: On each whole millisecond the backlog is checked and a Spillway step is taken or undone, with a SPILLWAY record. -/
  | spillwayCheck
  /-- R374 POSTTRIG_END: POST µs after the trigger pass, so CAPTURE_END is written and the engine enters DRAIN. -/
  | posttrigEnd
  /-- R374 DRAIN_DONE: All capture records are delivered; CAPTURE_DONE is set and the engine enters HOLDOFF or IDLE. -/
  | drainDone
  /-- R374 HOLDOFF_EXPIRY: HOLDOFF µs pass, so the engine re-arms to PRETRIG. -/
  | holdoffExpiry
  /-- R370 BUFFER_HANDOVER: A host buffer is full, 1 ms old, at capture end or at stop; it is handed over with its BUFFER fields and vector 5. -/
  | bufferHandover (n : Nat)
  /-- R381 ACQ_CHANNEL: The command binds channels or image taps. -/
  | acqChannel (p : Pkt)
  /-- R381 ACQ_TRIGGER: The command configures the trigger units and their combination. -/
  | acqTrigger (p : Pkt)
  /-- R374 ACQ_ARM: The command arms the engine in STREAM or CAPTURE mode. -/
  | acqArm (p : Pkt)
  /-- R374 ACQ_STOP: The command stops the engine, closing windows as SHORT records. -/
  | acqStop (p : Pkt)
  /-- R370 ACQ_STREAM: The command lends host buffers, or returns handed-over buffers with RELEASE. -/
  | acqStream (p : Pkt)
  /-- R381 ACQ_STATUS: The command returns state, backlog, losses, trigger time and SPILL values. -/
  | acqStatus (p : Pkt)
  /-- R379 ACQ_MEASURE: The command computes measurements on one channel of the last capture. -/
  | acqMeasure (p : Pkt)
  /-- R385 CAN_MODE_WRITE: MODE is written, taking the controller to CONFIG or out of it into SYNC. -/
  | canModeWrite (c mode : Nat)
  /-- R385 CAN_BUS_IDLE: 11 consecutive recessive bits end SYNC and the controller becomes ERROR_ACTIVE. -/
  | canBusIdle (c : Nat)
  /-- R388 CAN_FRAME_RX: A received data frame becomes valid and is stored in a matching object, or counted as matching none. -/
  | canFrameRx (c : Nat) (f : CanFrame)
  /-- R390 CAN_TXREQ_WRITE: TXREQ of a transmit object is set, making its frame pending. -/
  | canTxreqWrite (c k : Nat) (v : Word)
  /-- R391 CAN_TX_END: A transmission ends with DONE, ARB_LOST, ERROR, ABORTED or BUS_OFF, updating error counters and state. -/
  | canTxEnd (c m res lec inc ts : Nat) (tdcv : Option Nat)
  /-- R392 CAN_TXABORT_WRITE: A write to TXABORT cancels a pending frame that has not begun. -/
  | canTxabortWrite (c k : Nat) (v : Word) (onBus : Option Nat)
  /-- R385 RECOVER: RECOVER is written, starting recovery from BUS_OFF. -/
  | recover (c : Nat)
  /-- R385 CAN_RECOVERY_DONE: 128 occurrences of 11 recessive bits complete recovery, returning the controller to ERROR_ACTIVE. -/
  | canRecoveryDone (c : Nat)
  /-- R389 CAN_NEW_CLEAR: OBJ_STAT is written with NEW and a matching SEQ, clearing NEW and LOST. -/
  | canNewClear (c m : Nat) (v : Word)
  /-- R396 CAN_CONFIG: The command takes the controller to CONFIG, writes its timing and applies MODE. -/
  | canConfig (p : Pkt)
  /-- R396 CAN_OBJECT: The command writes a message object's configuration, ID and mask. -/
  | canObject (p : Pkt)
  /-- R396 CAN_TRANSMIT: The command writes data and sets TXREQ. -/
  | canTransmit (p : Pkt)
  /-- R396 CAN_RECEIVE: The command reads objects consistently and optionally clears NEW. -/
  | canReceive (p : Pkt)
  /-- R396 CAN_STATUS: The command returns the controller status and counters, and clears them on request. -/
  | canStatus (p : Pkt)
  /-- R407 SLUICE_CYCLE: A sequencer cycle samples the safe inputs and evaluates faults, demands, reset events and test pulses for every channel. -/
  | sluiceCycle (sin fb diag : Nat)
  /-- R400 SLUICE_SELF_TEST_DONE: The Sluice self-test ends, and the Sluice enters SAFE or FAULT. -/
  | sluiceSelfTestDone (code : Nat)
  /-- R399 VDD_SAFE_FAULT: VDD_SAFE leaves 3.0–3.6 V, raising a Sluice fault, and below 2.7 V the Sluice is held in reset. -/
  | vddSafeFault (below27 : Bool)
  /-- R412 SF_WATCHDOG: A connection's per-port timer expires, raising a WATCHDOG connection fault. -/
  | sfWatchdog (j port : Nat)
  /-- R415 STO_REQ7_WRITE: The write to STO_REQ7 submits the mailbox request, checked for nonce, CHECK, state and parameters. -/
  | stoReq7Write (v : Word)
  /-- R416 CONFIG_WRITE: The Sluice request writes words of the staging configuration. -/
  | configWrite
  /-- R418 CONFIG_COMMIT: The Sluice request checks and activates the staged safety configuration. -/
  | configCommit
  /-- R416 ARM: The Sluice request moves the Sluice from SAFE to ARMED. -/
  | arm
  /-- R416 DISARM: The Sluice request returns the Sluice to SAFE. -/
  | disarm
  /-- R406 RESET: The Sluice request is the reset event for channels with RST_SRC 1. -/
  | reset
  /-- R416 DEMAND: The Sluice request places a request demand on the named channels. -/
  | demand
  /-- R416 RELEASE: The Sluice request ends the request demand on the named channels. -/
  | release
  /-- R416 CLEAR_FAULT: The Sluice request clears faults of the Sluice, channels, inputs and connections whose conditions are gone. -/
  | clearFault
  /-- R416 TEST_NOW: The Sluice request makes a test of each named ON channel due now. -/
  | testNow
  /-- R422 SPLICE_LINK_CHANGE: A Splice link goes up or down with the block lock of its lanes. -/
  | spliceLinkChange (l : Nat) (up : Bool)
  /-- R426 SPLICE_TIME_FRAME: A TIME frame is exchanged every 1 µs and yields the Splice offset sample. -/
  | spliceTimeFrame (f : SplFrame) (offset : Int) (hops : Nat) (uids : List Nat)
  /-- R427 SIGNAL_FRAME_RX: A SIGNAL frame brings a partner's converter result, which is held for delivery or discarded as late. -/
  | signalFrameRx (f : SplFrame) (core : Nat) (word : Word) (ts : Nat)
  /-- R427 SIGNAL_DELIVERY: The fixed delivery instant is reached and the held result goes to the SPLICE-fed slots. -/
  | signalDelivery
  /-- R428 SPLICE_COMMAND_RX: A COMMAND frame carries a packet into this device's Q4. -/
  | spliceCommandRx (f : SplFrame) (ws : List Word)
  /-- R428 SPLICE_REPLY_RX: A REPLY frame returns a reply to the requesting device. -/
  | spliceReplyRx (f : SplFrame) (ws : List Word) (stamp : Nat)
  /-- R437 CONTROL_FRAME_RX: A CONTROL frame reports the partner's state and schema and drives pairing in SEEKING. -/
  | controlFrameRx (f : SplFrame) (c : LashControl)
  /-- R431 M_CMD_RX: The STANDBY receives a mirrored command, checks it for its application cycle and returns its status. -/
  | mCmdRx (f : SplFrame) (c : Nat) (p : Pkt) (status : Nat)
  /-- R430 M_INPUT_RX: The STANDBY receives a mirrored input value or event with its input cycle. -/
  | mInputRx (f : SplFrame) (c : Nat) (item : MirItem)
  /-- R432 DELTA_RX: The STANDBY receives delta pages and applies them at the next release point while PROG_MATCH is set. -/
  | deltaRx (f : SplFrame) (d : ProgDelta) (last : Bool)
  /-- R440 SNAP_RX: SNAP frames load the static-state image into the standby. -/
  | snapRx (f : SplFrame) (part : SnapPart) (last : Bool)
  /-- R440 SEED_RX: A SEED frame seeds a slot of the standby at its first sample in phase 3. -/
  | seedRx (f : SplFrame) (seed : Seed)
  /-- R436 DIGEST_SEND: 1 µs after a cycle start the device computes D(k) and sends it in a DIGEST frame. -/
  | digestSend
  /-- R436 DIGEST_DUE: 2 µs after a cycle start the partner's digest is judged, counting BAD_RUN, finding divergence, or deciding takeover. -/
  | digestDue (rx : List (Nat × List Word))
  /-- R437 LONE_TMO_EXPIRY: LONE_TMO passes in SEEKING with no partner and no pair segment, so the device becomes ACTIVE alone. -/
  | loneTmoExpiry
  /-- R440 SNAPSHOT_TIMEOUT: 500 ms pass without the standby reaching STANDBY, so LASH_SNAPSHOT answers TIMEOUT and the device is LOST. -/
  | snapshotTimeout
  /-- R445 LASH_CONFIG: The command sets the pair configuration, or detaches the partner. -/
  | lashConfig (p : Pkt)
  /-- R445 LASH_STATUS: The command returns the pair state, digests and counters. -/
  | lashStatus (p : Pkt)
  /-- R441 LASH_SWITCH: The command makes a planned exchange of roles at a cycle after every task is idle. -/
  | lashSwitch (p : Pkt)
  /-- R440 LASH_SNAPSHOT: The command brings a partner up as STANDBY. -/
  | lashSnapshot (p : Pkt)
  /-- R445 SPLICE_CONFIG: The command sets the link enables, routes and exports. -/
  | spliceConfig (p : Pkt)
  /-- R445 SPLICE_STATUS: The command returns the link state, counters and UIDs. -/
  | spliceStatus (p : Pkt)
  /-- R466 HASH: SEC_OP_CTRL GO with OP HASH starts a SHA-384 of the range. -/
  | hash (r : Requester)
  /-- R466 VERIFY: SEC_OP_CTRL GO with OP VERIFY starts verification of the image at the range. -/
  | verify (r : Requester)
  /-- R466 ATTEST: SEC_OP_CTRL GO with OP ATTEST starts building a report from the nonce. -/
  | attest (r : Requester)
  /-- R466 SEC_OP_DONE: A SEC operation completes; RESULT and the digest registers are written. -/
  | secOpDone
  /-- R460 ATTEST_REPORT_DONE: The attestation report's signatures are complete and SEC_ATTEST answers DONE. -/
  | attestReportDone
  /-- R467 SEC_ATTEST: The command signs an attestation report or reads the held one. -/
  | secAttest (p : Pkt)
  /-- R467 SEC_CERT_READ: The command reads a device certificate. -/
  | secCertRead (p : Pkt)
  /-- R455 SEC_IMAGE_WRITE: The command receives an image, verifies it and writes it to the bank that is not running. -/
  | secImageWrite (p : Pkt)
  /-- R464 SEC_KEY_REVOKE: The command revokes an OTP key slot. -/
  | secKeyRevoke (p : Pkt)
  /-- R465 SEC_DEBUG_CHALLENGE: The command draws a debug challenge. -/
  | secDebugChallenge (p : Pkt)
  /-- R465 SEC_DEBUG_UNLOCK: The command unlocks debug at level 1 or 2 against the challenge. -/
  | secDebugUnlock (p : Pkt)
  /-- R465 DEBUG_CHALLENGE_EXPIRY: 10 minutes pass and the debug challenge is no longer valid. -/
  | debugChallengeExpiry
  /-- R456 SEC_ROLLBACK: The command advances the anti-rollback counter by blowing fuses. -/
  | secRollback (p : Pkt)
  /-- R469 IRQ_EDGE: An interrupt line edge sets PEND, joins a coalescing group, and delivers to a core or to the host. -/
  | irqEdge (n : Nat) (level : Option Bool)
  /-- R471 IRQ_CLAIM: A read of IRQ_CLAIM claims the highest-priority deliverable source. -/
  | irqClaim (t : Nat)
  /-- R472 IRQ_COMPLETE: A write to IRQ_COMPLETE takes a source out of service, and re-pends a level source that is still high. -/
  | irqComplete (t : Nat) (v : Word)
  /-- R468 IRQ_PEND_WRITE: A write of 1 to IRQ_PENDk sets PEND as an edge. -/
  | irqPendWrite (k : Nat) (v : Word)
  /-- R475 IRQ_GROUP_TIMEOUT: TIME µs pass since the first held edge and the group fires. -/
  | irqGroupTimeout (g : Nat)
  /-- R478 PWR_REQ_RUN: PWR_CTRL REQ = RUN returns the device from IDLE to RUN. -/
  | pwrReqRun
  /-- R478 PWR_REQ_IDLE: PWR_CTRL REQ = IDLE moves the device to IDLE. -/
  | pwrReqIdle
  /-- R479 PWR_REQ_STANDBY: PWR_CTRL REQ = STANDBY begins entry or is refused, and arms the wake latches. -/
  | pwrReqStandby
  /-- R480 STANDBY_GATE: All cores reach WFI and the domains are gated at the gating instant. -/
  | standbyGate
  /-- R480 STANDBY_ENTRY_TIMEOUT: A core fails to reach WFI within 100 µs, so the entry is abandoned. -/
  | standbyEntryTimeout
  /-- R483 WAKE_LATCH: An enabled wake latch is set in STANDBY and the wake sequence restores RUN. -/
  | wakeLatch (w : Nat)
  /-- R489 RECORD_WRITE: EVREC writes the next queued record to MRAM every 2 µs, advancing HEAD and TAIL. -/
  | recordWrite
  /-- R489 EVREC_WR_GO: Core code writes EVREC_WR_GO and submits a record. -/
  | evrecWrGo (r : Requester) (v : Word)
  /-- R494 LIFETIME_SAMPLE: Each second, junction and rail readings are binned into the lifetime histograms and the operating seconds advance. -/
  | lifetimeSample (h : Health)
  /-- R494 LIFETIME_FLUSH: The lifetime values are written to the alternate MRAM copy every 60 s, at non-POR resets and on STANDBY entry. -/
  | lifetimeFlush
  /-- R492 TIME_SYNC: Every 3,600 operating seconds a TIME_SYNC record with device time is written. -/
  | timeSync
  /-- R497 MRAM_REFRESH_SLICE: A slice of MRAM is read and rewritten through ECC, and a completed pass increments REFRESH_PASSES. -/
  | mramRefreshSlice (percent : Nat) (ended : Bool) (ecc : Option (Nat × Bool))
  /-- R499 REC_READ: The command returns valid records from a sequence number. -/
  | recRead (p : Pkt)
  /-- R493 REC_CLEAR: The command clears the recorder when HEAD equals UPTO, writing a CLEAR record. -/
  | recClear (p : Pkt)
  /-- R499 REC_HEAD: The command returns HEAD, TAIL, EPOCH, drops and operating seconds. -/
  | recHead (p : Pkt)
  /-- R499 LIFE_READ: The command returns the lifetime copy or the clear history. -/
  | lifeRead (p : Pkt)
  /-- R499 REC_WRITE: The command writes a host event record. -/
  | recWrite (p : Pkt)
  /-- R500 TOUCH_SCAN: Every SCAN_MS the touch channels are measured, baselines are updated, and press or release events are raised. -/
  | touchScan (counts : List Nat)
  /-- R501 TK_STUCK: A key pressed for STUCK seconds is released by force and its baseline is reloaded. -/
  | tkStuck (n : Nat)
  /-- R503 HP_PIN_CHANGE: A raw detect pin changes; a removal drops HPEN at once and holds the affected slots, and an insertion starts debounce. -/
  | hpPinChange (n : Nat) (level : Bool)
  /-- R503 HP_DEBOUNCE_EXPIRY: The pin holds for DEB ms, so insertion or removal is confirmed. -/
  | hpDebounceExpiry (n : Nat)
  /-- R503 HP_POWER_DELAY_EXPIRY: PWR_DLY passes with AUTO_PWR set, so HPEN goes high. -/
  | hpPowerDelayExpiry (n : Nat)
  /-- R503 JOIN_FAIL: JOIN_TMO passes in POWERED without the node becoming present. -/
  | joinFail (n : Nat)
  /-- R508 TOUCH_CONFIG: The command writes a touch channel's configuration. -/
  | touchConfig (p : Pkt)
  /-- R508 TOUCH_STATUS: The command returns key states and measurements. -/
  | touchStatus (p : Pkt)
  /-- R508 HOTPLUG_CONFIG: The command writes a connector's configuration. -/
  | hotplugConfig (p : Pkt)
  /-- R508 HOTPLUG_STATUS: The command returns the connector states. -/
  | hotplugStatus (p : Pkt)
  /-- R508 HOTPLUG_POWER: The command turns HPEN on in DELAY, or off. -/
  | hotplugPower (p : Pkt)
  /-- R441 LASH_SWITCH_TIMEOUT: MAX_WAIT passes without a release point at which every task of the ACTIVE is idle, so LASH_SWITCH is answered TIMEOUT and nothing changes. -/
  | lashSwitchTimeout
  /-- R136 ADC_READ_TIMEOUT: No pass that started at or after an ADC_READ software trigger has ended within 1 ms, so the command is answered TIMEOUT. -/
  | adcReadTimeout (p : Pkt)
  /-- R396 CAN_CONFIG_TIMEOUT: No bus idle comes within 10 ms of a CAN_CONFIG, so it is answered TIMEOUT with nothing changed. -/
  | canConfigTimeout (c : Nat)
  /-- R421 SLUICE_REQUEST_TIMEOUT: The Sluice gives no result within 1 ms of a relayed SLUICE_REQUEST, so the command is answered TIMEOUT. -/
  | sluiceRequestTimeout
  /-- R361 PROG_IMAGE_VERIFIED: Verification of a loaded program image completes, and the image is placed in the spare or active bank; the final DONE or AUTH_FAILED follows the earlier ACCEPTED. -/
  | progImageVerified
  /-- R467 IMAGE_WRITE_DONE: An image received by SEC_IMAGE_WRITE has been verified and written to the flash bank that is not running, up to 30 s later, and the final reply is posted. -/
  | imageWriteDone
  /-- R373 ACQ_TIME_TRIGGER: In PRETRIG, device time reaches TRGt_TIME of a TIME-kind trigger unit, which pulses once per arm and can fire the trigger. -/
  | acqTimeTrigger (t : Nat)
  /-- R385 CAN_BUS_ERROR: A CAN controller detects a bus error while receiving (stuff, form, CRC, ACK or bit error), which updates REC, LEC and ERRCNT and can move it to ERROR_PASSIVE. -/
  | canBusError (c lec : Nat) (e : CanErr)
  /-- R382 REMOTE_FRAME_RX: A received remote frame is acknowledged, stored nowhere, and sets RTR_RX. -/
  | remoteFrameRx (c : Nat)
  /-- R439 UNCORRECTABLE_ECC_ERROR: An uncorrectable ECC error in loop memory, cam tables, program memory, the scheduler task table or LPDDR4X makes the ACTIVE resign, or leads through firmware to a watchdog reset. -/
  | uncorrectableEccError (mem : Nat)
  /-- R63 FIRMWARE_FATAL: Firmware stops serving the queues after an internal fault; FATAL is set, vector 4 is raised, a record is posted and RESIGN follows in a pair. -/
  | firmwareFatal (code : Nat)
  /-- R57 PCIE_LINK_UP: The PCI Express link completes training and comes up, so the host can enumerate the device and read the status window. -/
  | pcieLinkUp
  /-- R84 MSIX_UNMASK: The host clears the mask of an MSI-X vector whose pending bit is set, and the pending message is sent. -/
  | msixUnmask (v : Nat)
  /-- R399 VDD_SAFE_RESTORED: VDD_SAFE returns into range after a loss, releasing the Sluice from its reset so that its self-test starts again. -/
  | vddSafeRestored
  deriving DecidableEq, Repr

end Sys2Proof
end

