-- ==== Sys2Proof/WellFormed.lean ====
section
/-! DEFINITION. Which commands are well formed: the ranges of their operands, as the spec gives the units, the registers and
the fields of packets and frames. Every command has a meaning, well formed or not: one that names a unit which does not
exist changes nothing. -/

namespace Sys2Proof

/-- R34: cores 0-7, the debug port, the host. -/
def Requester.wf (r : Requester) : Bool :=
  match r with
  | .core c => decide (c < 8)
  | .debug => true
  | .host => true

/-- R9, R24: an access is of 1, 2 or 4 bytes. -/
def accessSize (n : Nat) : Bool := n = 1 || n = 2 || n = 4

/-- R72: every field of a packet fits its bits; LEN is in whole words and the parameters are there. -/
def Pkt.wf (p : Pkt) : Bool :=
  decide (p.queue < 5) && decide (p.uid < 2 ^ 64) && decide (p.tag < 1024) && decide (p.rsvd < 32) && decide (p.opcode < 65536) &&
  decide (p.seq < 65536) && decide (p.len < 65536) && decide (p.params.length * 4 = p.len) && decide (p.trailer < 65536) && !p.mir

/-- R424: the fields of a Splice frame's header fit their bits. -/
def SplFrame.wf (f : SplFrame) : Bool :=
  decide (f.link < 2) && decide (f.dst < 4) && decide (f.src < 4) && decide (f.schema < 256) && decide (f.mseq < 2 ^ 24)

/-- R387: the fields of a CAN frame fit their bits. -/
def CanFrame.wf (f : CanFrame) : Bool :=
  decide (f.id < 2 ^ 29) && decide (f.dlc < 16) && decide (f.data.length ≤ 64) && f.data.all (fun x => decide (x < 256))

/-- R56: nine rails. -/
def Health.wf (h : Health) : Bool := decide (h.rails.length = 9) && decide (h.outside < 512)

/-- R430: the unit that a mirrored input names exists. -/
def MirItem.wf (x : MirItem) : Bool :=
  match x with
  | .adc c k _ _ => decide (c < 8) && decide (k < 16)
  | .enc n _ _ => decide (n < 16)
  | .cap n _ _ => decide (n < 32)
  | .gpio n _ => decide (n < 64)
  | .can c f => decide (c < 4) && f.wf
  | .tick m => decide (m < 65536)
  | .trip g _ => decide (g < 48)
  | .sto k _ => decide (k < 12)
  | .img i _ => decide (i < 262144)

/-- The command's operands lie in their ranges. -/
def Instr.wf (i : Instr) : Bool :=
  match i with
  | .porAssert _ => true
  | .sysResetnAssert _ => true
  | .supplyUnderVoltage => true
  | .debugResetRequest => true
  | .resetRelease _ _ => true
  | .xtalOk => true
  | .pllLock => true
  | .serdesPllLock pll => decide (pll < 3)
  | .serdesPllUnlock pll => decide (pll < 3)
  | .crystalLoss => true
  | .pllLossOfLock => true
  | .pllLossReset => true
  | .crossMonitorWindow _ => true
  | .bootChainDone _ => true
  | .dramTrainDone _ => true
  | .fwInitDone => true
  | .ringJoinTimeout => true
  | .sysWdogKickWrite _ => true
  | .sysWdogCtrlWrite _ => true
  | .wdogWarn => true
  | .wdogTimeout => true
  | .sysSwrstWrite _ => true
  | .sysArmWrite _ => true
  | .registerWrite r addr size _ => r.wf && decide (addr < 2 ^ 40) && accessSize size
  | .blkCommitWrite base _ => decide (0x20000000 ≤ base) && decide (base < 0x20130000)
  | .commitAbandon base => decide (0x20000000 ≤ base) && decide (base < 0x20130000)
  | .pairLoRead r addr size => r.wf && decide (addr < 2 ^ 40) && decide (addr % size = 0) && accessSize size
  | .pairHiRead r addr size => r.wf && decide (addr < 2 ^ 40) && decide (addr % size = 0) && accessSize size
  | .pairLoWrite r addr _ => r.wf && decide (addr < 2 ^ 40) && decide (addr % 4 = 0)
  | .pairHiWrite r addr _ => r.wf && decide (addr < 2 ^ 40) && decide (addr % 4 = 0)
  | .qnsqTailWrite n _ => decide (n < 4)
  | .qncqHeadWrite n _ => decide (n < 4)
  | .qnctlWrite n _ => decide (n < 4)
  | .packetFetch n mem _ => decide (n < 5) && mem.all (fun e => decide (e.1 < 4))
  | .signatureVerifyDone => true
  | .replyPost n _ => decide (n < 5)
  | .queueCoalTimeout n => decide (n < 4)
  | .pcieLinkDown => true
  | .functionLevelReset => true
  | .d3hotEntry => true
  | .statHeartbeat => true
  | .sysNop p => p.wf
  | .sysInfo p => p.wf
  | .sysReset p => p.wf
  | .sysResetTakesEffect => true
  | .sysArm p => p.wf
  | .sysBootStatus p => p.wf
  | .sysPowerState p => p.wf
  | .sysWakeConfig p => p.wf
  | .sysRemotePermit p => p.wf
  | .sysHealth p h => p.wf && h.wf
  | .sluiceStatus p => p.wf
  | .sluiceRequest p => p.wf
  | .timeConfig p => p.wf
  | .timeRead p _ => p.wf
  | .timeSrcWrite _ => true
  | .ptpOffsetWrite _ => true
  | .timeSourceLost src => decide (src < 5)
  | .holdLimitExpiry => true
  | .cmpFire n => decide (n < 32)
  | .cmpnCtrlWrite n _ => decide (n < 32)
  | .capEdge n _ samples => decide (n < 32) && decide (1 ≤ samples)
  | .ethFrameSent port _ _ => decide (port < 2)
  | .ethFrameRx port len _ _ _ => decide (port < 2) && decide (len < 16384)
  | .ethMdioGo port _ => decide (port < 2)
  | .ethMdioDone port data => decide (port < 2) && decide (data < 65536)
  | .adcSwtrigWrite _ => true
  | .adcResult c raw => decide (c < 8) && decide (raw < 2 ^ 20)
  | .adcFifoRead c => decide (c < 8)
  | .adcRefWrite _ => true
  | .refSettled => true
  | .adcArmWrite c _ => decide (c < 8)
  | .calGo c => decide (c < 8)
  | .adcCalDone c _ => decide (c < 8)
  | .avddLow => true
  | .avddReturn => true
  | .adcConfig p => p.wf
  | .adcCalibrate p => p.wf
  | .adcSequence p => p.wf
  | .adcRead p => p.wf
  | .slotSample n _ => decide (n < 512)
  | .fbTmoExpiry n => decide (n < 512)
  | .slotRequestTimeout n _ => decide (n < 512)
  | .snapshotTick => true
  | .slotReqOpen n => decide (n < 512)
  | .slotReqClose n => decide (n < 512)
  | .slotReqObserver n => decide (n < 512)
  | .slotReqSafe n => decide (n < 512)
  | .slotReqRelease n => decide (n < 512)
  | .injGo i => decide (i < 4)
  | .loopConfig p => p.wf
  | .loopOpen p => p.wf
  | .loopClose p => p.wf
  | .loopCoefWrite p => p.wf
  | .loopSetpoint p => p.wf
  | .loopManual p => p.wf
  | .loopRead p => p.wf
  | .loopObserver p => p.wf
  | .loopSafe p => p.wf
  | .loopSupervise p => p.wf
  | .loopStep p => p.wf
  | .loopSweep p => p.wf
  | .loopRelease p => p.wf
  | .loopStickyClear p => p.wf
  | .pwmBoundary g => decide (g < 48)
  | .pwmSamplePoint g => decide (g < 48)
  | .pwmEnWrite g _ => decide (g < 48)
  | .pwmStartWrite k _ => decide (k < 2)
  | .loadnow g => decide (g < 48)
  | .tripClr g => decide (g < 48)
  | .tripPinAssert k _ => decide (k < 16)
  | .tripPinDeassert k _ => decide (k < 16)
  | .coreDebugHalt c => decide (c < 8)
  | .coreDebugResume c => decide (c < 8)
  | .pwmConfig p => p.wf
  | .pwmDuty p => p.wf
  | .pwmTripClear p => p.wf
  | .pwmEnable p => p.wf
  | .gpioSetWrite k _ => decide (k < 2)
  | .gpioClrWrite k _ => decide (k < 2)
  | .gpioInputChange n _ _ => decide (n < 64)
  | .outMismatch n => decide (n < 64)
  | .gpioConfig p => p.wf
  | .gpioWrite p => p.wf
  | .gpioRead p => p.wf
  | .servoBoundary k => decide (k < 1125899906842624)
  | .axisReqPush n => decide (n < 96)
  | .axisReqStop n => decide (n < 96)
  | .axisReqQuickStop n => decide (n < 96)
  | .axisReqEnable n => decide (n < 96)
  | .axisReqDisable n => decide (n < 96)
  | .axisReqGear n => decide (n < 96)
  | .axisReqCam n => decide (n < 96)
  | .axisReqTrim n => decide (n < 96)
  | .axisConfig p => p.wf
  | .axisMove p => p.wf
  | .axisStop p => p.wf
  | .axisEnable p => p.wf
  | .axisGear p => p.wf
  | .axisCam p => p.wf
  | .camTableWrite p => p.wf
  | .axisPhaseTrim p => p.wf
  | .axisRead p => p.wf
  | .axisStepTable p => p.wf
  | .encEdge n _ _ samples => decide (n < 16) && decide (0 < samples)
  | .encIndex n _ samples => decide (n < 16) && decide (0 < samples)
  | .ssiTransferDone n _ _ => decide (n < 16)
  | .encErrClr n => decide (n < 16)
  | .encErrHoldExpiry n => decide (n < 16)
  | .encConfig p => p.wf
  | .encRead p => p.wf
  | .ringCycleStart => true
  | .segmentLatch => true
  | .referenceFrameTx => true
  | .bightFrameTx => true
  | .referenceFrameRx port _ _ => decide (port < 2)
  | .segmentRx port seg id len _ => decide (port < 2) && decide (seg < 512) && decide (id < 4294967296) && decide (len < 65536)
  | .extractionEnd => true
  | .frameForward port len _ _ => decide (port < 2) && decide (len < 65536)
  | .messageFrameTx slot => decide (slot < 256)
  | .messageFrameRx port len _ _ => decide (port < 2) && decide (len < 65536)
  | .ringRunWrite _ => true
  | .claimFrameRx port _ => decide (port < 2)
  | .claimTimeout => true
  | .refLossTimeout => true
  | .masterTakeover => true
  | .ringLinkDown port => decide (port < 2)
  | .ringLinkUp port _ => decide (port < 2)
  | .turnBackStop port => decide (port < 2)
  | .nodeAbsent n => decide (n < 128)
  | .ringScheduleLoad p => p.wf
  | .ringStart p => p.wf
  | .ringStop p => p.wf
  | .ringStatus p => p.wf
  | .ringCounters p => p.wf
  | .ringStation p => p.wf
  | .ringMasterRank p => p.wf
  | .create c _ => decide (c < 8)
  | .signal c _ _ => decide (c < 8)
  | .wait c _ _ _ _ => decide (c < 8)
  | .yield c => decide (c < 8)
  | .sleep c _ _ => decide (c < 8)
  | .exit c => decide (c < 8)
  | .schedDispRead c => decide (c < 8)
  | .schedPfRead c => decide (c < 8)
  | .schedEventLine e => decide (e < 16)
  | .schedTimeout t => decide (t < 256)
  | .schedSleepExpiry t => decide (t < 256)
  | .qmemUe offset => decide (offset < 4294967296)
  | .releasePoint _ => true
  | .taskCommit t _ _ _ => decide (t < 256)
  | .transferPoint _ => true
  | .progChangeTimeout => true
  | .progLoad p => p.wf
  | .progRun p => p.wf
  | .progForce p => p.wf
  | .progRelease p => p.wf
  | .progChange p => p.wf
  | .progReadVar p => p.wf
  | .progWriteVar p => p.wf
  | .progStatus p => p.wf
  | .progReArm p => p.wf
  | .recipeBoundary _ => true
  | .recipeLoad p => p.wf
  | .recipeStart p => p.wf
  | .recipePause p => p.wf
  | .recipeResume p => p.wf
  | .recipeAbort p => p.wf
  | .recipeStatus p => p.wf
  | .recipeDelete p => p.wf
  | .acqValue sig edge => decide (sig < 8192) && decide (edge < 2)
  | .spillwayCheck => true
  | .posttrigEnd => true
  | .drainDone => true
  | .holdoffExpiry => true
  | .bufferHandover n => decide (n < 64)
  | .acqChannel p => p.wf
  | .acqTrigger p => p.wf
  | .acqArm p => p.wf
  | .acqStop p => p.wf
  | .acqStream p => p.wf
  | .acqStatus p => p.wf
  | .acqMeasure p => p.wf
  | .canModeWrite c mode => decide (c < 4) && decide (mode < 4)
  | .canBusIdle c => decide (c < 4)
  | .canFrameRx c f => decide (c < 4) && f.wf
  | .canTxreqWrite c k _ => decide (c < 4) && decide (k < 4)
  | .canTxEnd c m res lec _ _ _ => decide (c < 4) && decide (m < 128) && decide (res < 8) && decide (lec < 8)
  | .canTxabortWrite c k _ _ => decide (c < 4) && decide (k < 4)
  | .recover c => decide (c < 4)
  | .canRecoveryDone c => decide (c < 4)
  | .canNewClear c m _ => decide (c < 4) && decide (m < 128)
  | .canConfig p => p.wf
  | .canObject p => p.wf
  | .canTransmit p => p.wf
  | .canReceive p => p.wf
  | .canStatus p => p.wf
  | .sluiceCycle sin fb _ => decide (sin < 65536) && decide (fb < 4096)
  | .sluiceSelfTestDone _ => true
  | .vddSafeFault _ => true
  | .sfWatchdog j port => decide (j < 16) && decide (port < 2)
  | .stoReq7Write _ => true
  | .configWrite => true
  | .configCommit => true
  | .arm => true
  | .disarm => true
  | .reset => true
  | .demand => true
  | .release => true
  | .clearFault => true
  | .testNow => true
  | .spliceLinkChange l _ => decide (l < 2)
  | .spliceTimeFrame f _ hops _ => f.wf && decide (hops < 4)
  | .signalFrameRx f core _ _ => f.wf && decide (core < 8)
  | .signalDelivery => true
  | .spliceCommandRx f _ => f.wf
  | .spliceReplyRx f _ _ => f.wf
  | .controlFrameRx f _ => f.wf
  | .mCmdRx f c p _ => f.wf && decide (c < 4294967296) && p.wf
  | .mInputRx f c item => f.wf && decide (c < 4294967296) && item.wf
  | .deltaRx f _ _ => f.wf
  | .snapRx f _ _ => f.wf
  | .seedRx f _ => f.wf
  | .digestSend => true
  | .digestDue _ => true
  | .loneTmoExpiry => true
  | .snapshotTimeout => true
  | .lashConfig p => p.wf
  | .lashStatus p => p.wf
  | .lashSwitch p => p.wf
  | .lashSnapshot p => p.wf
  | .spliceConfig p => p.wf
  | .spliceStatus p => p.wf
  | .hash r => r.wf
  | .verify r => r.wf
  | .attest r => r.wf
  | .secOpDone => true
  | .attestReportDone => true
  | .secAttest p => p.wf
  | .secCertRead p => p.wf
  | .secImageWrite p => p.wf
  | .secKeyRevoke p => p.wf
  | .secDebugChallenge p => p.wf
  | .secDebugUnlock p => p.wf
  | .debugChallengeExpiry => true
  | .secRollback p => p.wf
  | .irqEdge n _ => decide (n < 384)
  | .irqClaim t => decide (t < 9)
  | .irqComplete t _ => decide (t < 9)
  | .irqPendWrite k _ => decide (k < 12)
  | .irqGroupTimeout g => decide (g < 32)
  | .pwrReqRun => true
  | .pwrReqIdle => true
  | .pwrReqStandby => true
  | .standbyGate => true
  | .standbyEntryTimeout => true
  | .wakeLatch w => decide (w < 32)
  | .recordWrite => true
  | .evrecWrGo r _ => r.wf
  | .lifetimeSample h => h.wf
  | .lifetimeFlush => true
  | .timeSync => true
  | .mramRefreshSlice percent _ _ => decide (percent < 101)
  | .recRead p => p.wf
  | .recClear p => p.wf
  | .recHead p => p.wf
  | .lifeRead p => p.wf
  | .recWrite p => p.wf
  | .touchScan _ => true
  | .tkStuck n => decide (n < 24)
  | .hpPinChange n _ => decide (n < 16)
  | .hpDebounceExpiry n => decide (n < 16)
  | .hpPowerDelayExpiry n => decide (n < 16)
  | .joinFail n => decide (n < 16)
  | .touchConfig p => p.wf
  | .touchStatus p => p.wf
  | .hotplugConfig p => p.wf
  | .hotplugStatus p => p.wf
  | .hotplugPower p => p.wf
  | .lashSwitchTimeout => true
  | .adcReadTimeout p => p.wf
  | .canConfigTimeout c => decide (c < 4)
  | .sluiceRequestTimeout => true
  | .progImageVerified => true
  | .imageWriteDone => true
  | .acqTimeTrigger t => decide (t < 4)
  | .canBusError c lec _ => decide (c < 4) && decide (lec < 8)
  | .remoteFrameRx c => decide (c < 4)
  | .uncorrectableEccError mem => decide (mem < 5)
  | .firmwareFatal code => decide (code < 65536)
  | .pcieLinkUp => true
  | .msixUnmask v => decide (v < 64)
  | .vddSafeRestored => true

end Sys2Proof
end

