-- ==== Sys2Proof/Decode.lean ====
section
/-! DEFINITION. The commands that a word of bits spells. The rows of spec/opcode_table.json give no bits, so no word spells
one. -/

namespace Sys2Proof

/-- The command that a word of `nbits` bits spells; the table gives no row any bits. -/
def decodeTableWord (_nbits _w : Nat) : Option Instr := none

end Sys2Proof
end

