-- ==== Sys2Proof/Config.lean ====
section
/-! DEFINITION. The values the spec leaves open: opaque constants that no proof can see the value of. Each is
named in a row of notes/assumptions/. -/

namespace Sys2Proof.Config

/-- A free value: applied to the plain counter `State.free` that the step advances with every use. -/
opaque freeNat : Nat → Nat

/-- R41: whether a reset pin's low pulse between 0.5 and 1 microsecond is seen. -/
opaque freeBool : Nat → Bool


/-- R56: silicon revision, 8 bits. -/
opaque siliconRevision : Nat

/-- R57: the PCI vendor ID, 16 bits: the manual calls it Delgenor's and gives no number. -/
opaque pciVendor : Nat

/-- R56: fitted LPDDR4X in MiB, less 2. The manual says up to 8 GiB, and a stream buffer of 1 MiB fits in half of it (R368). -/
opaque dramAbove : Fin 8191

/-- R56: fitted LPDDR4X in MiB, 2 to 8,192 (log entry 30). -/
def dramMiB : Nat := 2 + dramAbove.val

/-- R56: xSPI flash size in MiB. -/
opaque flashMiB : Nat

/-- R56, R442: mirror schema of the running firmware, 8 bits. -/
opaque mirrorSchema : Nat

/-- R510, R517: whether the system builder supplies I/O bank `n` at 1.8 V. -/
opaque bank18 : Nat → Bool

/-- R225: what the planner answers to a request: a jerk, in 2^-32 count per period cubed, and the whole numbers of periods of ten
segments, three of a first deceleration and the seven of the profile. The manual states what a plan has to meet and not which of
the plans that meet it the planner takes; an answer that does not meet it is not followed (log entry 32). -/
opaque planSegs : List Int → Int × List Nat

/-- R227: how far short of a move's target, in 2^-32 count, a reversal turns back. -/
opaque planTurn : List Int → Nat

/-- R230: what output 1 or 2 of an axis reads where it does not exist. -/
opaque noCoil : Nat → Nat → Int

/-- R446, R449, R451: SHA-384 (FIPS 180-4) of the first `bytes` bytes of a list of words. The manual names the standard and
does not restate it. -/
opaque sha384 : List Nat → Nat → Nat

/-- R451: whether an RSASSA-PSS signature (RFC 8017) of a digest verifies under a key block. -/
opaque rsaVerify : List Nat → List Nat → List Nat → Bool

/-- R451: whether an SLH-DSA-SHA2-192s signature (FIPS 205) of a digest verifies under a key block. -/
opaque slhVerify : List Nat → List Nat → List Nat → Bool

/-- R460: word `i` of the two signatures that the identity keys make over a digest. -/
opaque identitySign : List Nat → Nat → Nat

/-- R425: whether the next frame of a link, after the number it has sent, leaves on lane 0 where lane 0 may carry it. -/
opaque shortOnLane0 : Nat → Nat → Bool

end Sys2Proof.Config
end

