-- ==== Sys2Proof/Machine/State.lean ====
section
/-! DEFINITION. The state of the DG8512 as plain data. Every register of the register maps lives in the one
store of words; what the spec gives the device beside its registers stands in one structure per block. -/

namespace Sys2Proof.Machine

/-- A register field: the address of its word and its bits. -/
structure Fld where
  addr : Nat
  hi : Nat
  lo : Nat
  deriving DecidableEq, Repr

/-- R11: the access types. -/
inductive Acc where
  | ro | rw | wo | w1c | w1s | rwl | stg
  deriving DecidableEq, Repr

/-- One field of a register row: bits, access, reset value. -/
structure RegField where
  hi : Nat
  lo : Nat
  acc : Acc
  rst : Nat
  deriving DecidableEq, Repr

/-- One row of a register map: offset, strides and counts of its indices, fields. -/
structure RegRow where
  off : Nat
  dims : List (Nat × Nat)
  fields : List RegField
  deriving DecidableEq, Repr

/-- The words of the device: (address, word), addresses strictly rising, no entry at its default. -/
abbrev Store := List (Nat × Word)

/-- Why a command stops the machine. -/
inductive Fault where
  /-- R24, R25: a core's load or store outside the address map, or to another core's TCM from a domain other than 0;
  raised by a register or pair access command. Safe: the exception is the core's, the device's state does not change. -/
  | accessFault (addr : Nat)
  deriving DecidableEq, Repr

/-- Why a command has no meaning. -/
inductive Refusal where
  /-- A command whose meaning the model does not hold, by its mnemonic. Safe: the machine stops. -/
  | notModelled (mnemonic : String)
  deriving DecidableEq, Repr

/-- R34: the read holding register of one requester in one block: high word, and the pair it came from. -/
structure PairRead where
  hi : Word := 0
  tag : Nat := 0
  deriving DecidableEq, Repr

/-- R102: the write holding register of one requester in one block. -/
structure PairWrite where
  lo : Word := 0
  tag : Nat := 0
  deriving DecidableEq, Repr

/-- R31, R33: a commit of one unit that waits for its safe point. -/
structure Commit where
  base : Nat
  unit : Nat
  /-- CTL_CLK tick of the key write -/
  since : Nat
  /-- the packet answered when the commit is made or abandoned -/
  pkt : Option Pkt := none
  deriving DecidableEq, Repr

/-- Reset and clock machinery (02_reset_and_startup). -/
structure SysInt where
  /-- 1 bit, R41: reset is asserted (from a reset's assertion to RESET_RELEASE) -/
  inReset : Bool := false
  /-- 1 bit, R39: the PLL_LOSS reset comes 1 us after the loss -/
  pllLossPending : Bool := false
  /-- 1 bit, R39: the crystal has stopped and has not come back -/
  xtalGone : Bool := false
  /-- 1 bit, R43: the reset that is asserted includes a power-on reset -/
  porSeen : Bool := false
  /-- 1 bit, R44: the cycle in which the reset was asserted is not over -/
  sameCycle : Bool := false
  /-- 1 bit, R55: the software reset scheduled by SYS_RESET -/
  swResetPending : Bool := false
  /-- Nat, R53: milliseconds counted by the system watchdog as far as an event has shown them -/
  wdogMs : Nat := 0
  /-- 1 bit, R47: boot has halted -/
  bootHalted : Bool := false
  /-- 1 bit, R45: the ROM has verified the boot chain -/
  bootDone : Bool := false
  /-- 1 bit, R46: RING_JOIN_TIMEOUT has been recorded since RING_JOIN began -/
  joinTimedOut : Bool := false
  /-- R56: highest junction reading since power-on, signed, 1/4 degree; none before the first -/
  tjMax : Option Int := none
  /-- 9 bit, R56: rails outside their range since power-on or the last CLEAR -/
  railHist : Nat := 0
  /-- 32 bit, R56, R449: VERSION of the running loader -/
  ldrVersion : Nat := 0
  /-- Nat, R342: forces active before the last reset, recorded at FW_INIT -/
  forcesLost : Nat := 0
  deriving DecidableEq, Repr

/-- R74: a reply that waits to be posted, or was posted. -/
structure Reply where
  queue : Nat
  uid : Nat
  tag : Nat
  status : Nat
  last : Bool
  /-- R76: refused with TAG_BUSY -/
  dup : Bool
  /-- the packet was refused before it took a tag, so that its reply frees none -/
  noTag : Bool := false
  /-- R74: the result words; TIME, CONTEXT and SEQ -/
  res : List Nat
  time : Nat
  ctxLo : Word
  ctxHi : Word
  seq : Nat
  /-- R428: it answers a packet that came over a Splice link -/
  splice : Bool := false
  deriving DecidableEq, Repr

/-- R79: a packet that was fetched and has not ended. -/
structure Flight where
  uid : Nat := 0
  tag : Nat := 0
  seq : Nat := 0
  noReply : Bool := false
  fence : Bool := false
  /-- R79: the units it acts on -/
  units : List Nat := []
  /-- it joins a queue of the unit's own, which keeps the order -/
  joins : Bool := false
  /-- it has started and joined that queue -/
  started : Bool := false
  /-- 16 bit, R56: the opcode groups that remote packets might use when it was fetched -/
  permit : Nat := 0
  /-- its final status stands; the reply may still wait to be posted -/
  ended : Bool := false
  deriving DecidableEq, Repr

/-- A host queue's state beside its registers (R61, R65-R79). Index 4 is Q4 (R87). -/
structure QInt where
  /-- 16 bit, R73: the expected sequence number -/
  expSeq : Nat := 0
  /-- 1 bit, R67: the phase of the next reply unit -/
  phase : Bool := true
  /-- 15 bit, R71: index of the next completion unit the device writes -/
  cqTail : Nat := 0
  /-- list, R71: replies that wait for room, oldest first -/
  held : List Reply := []
  /-- list, R66, R74: the words of the entries in the completion ring (Q4: of the last reply sent), oldest first -/
  posted : List (List Nat) := []
  /-- Nat, R84: replies posted since the last message -/
  unsignalled : Nat := 0
  /-- list, R76, R79: packets fetched and not ended, in ring order; those that ask for a reply occupy their tags -/
  flight : List Flight := []
  /-- Nat, R58: how often the queue has been enabled since the last reset -/
  gen : Nat := 0
  deriving DecidableEq, Repr

/-- HOSTIF beside its registers (03_host_commands). -/
structure HostInt where
  /-- table by queue 0-4, R61, R87 -/
  queues : List (Nat × QInt) := []
  /-- list, R462: signed packets whose trailer was verified, as (queue, tag, sequence number), with key class*4+slot -/
  verified : List (Nat × Nat × Nat × Nat) := []
  /-- 64 bit, R59, R84: mask bits of the MSI-X table (PRESUMED set at reset, as PCI Express has it, log entry 6) -/
  msixMask : Nat := 0xFFFF_FFFF_FFFF_FFFF
  /-- table by 4 * vector + word, R59: address and data words of the MSI-X table -/
  msixTab : List (Nat × Nat) := []
  /-- 64 bit, R59: the MSI-X pending bit array -/
  msixPend : Nat := 0
  /-- table by vector, R84: messages sent -/
  msixSent : List (Nat × Nat) := []
  /-- list of at most 16, R88: remote packets that arrived and are not yet fetched -/
  q4wait : List Pkt := []
  /-- 1 bit, R57: the PCI Express link is up -/
  linkUp : Bool := false
  /-- 4 bit, 6 bit, R57: generation 1-3 and width 1, 2, 4 that the link has trained to, as link status shows them; 0 while it is down -/
  linkSpeed : Nat := 0
  linkWidth : Nat := 0
  /-- table by offset, R57: the configuration words that the host programs (log entry 110) -/
  pci : List (Nat × Nat) := []
  deriving DecidableEq, Repr

/-- A record in the recorder's queue (R487, R489). -/
structure Rec where
  code : Nat
  source : Nat
  dataLo : Nat
  dataHi : Nat
  sev : Nat
  /-- R487: SAFETY flag -/
  safety : Bool := false
  /-- R487: EXT flag -/
  ext : Bool := false
  /-- R493: a clear, with the packet and UPTO -/
  clear : Option (Pkt × Nat × Nat) := none
  /-- R499: the REC_WRITE packet to answer once the record is written -/
  answer : Option Pkt := none
  /-- Nat, R489: the CTL_CLK tick at which it was posted -/
  cycle : Nat := 0
  deriving DecidableEq, Repr

/-- EVREC beside its registers (20_recorder_and_lifetime). -/
structure EvInt where
  /-- list of at most 64, R489: records posted and not yet written -/
  queue : List Rec := []
  /-- 1 bit, R489: a record was lost since the last one written -/
  dropped : Bool := false
  /-- table by block base + unit, R28: device time of the last run-locked record plus 1 -/
  lockRec : List (Nat × Nat) := []
  /-- Nat, R494: the lifetime copy (0 or 1) that the next flush writes -/
  nextCopy : Nat := 0
  /-- Nat, R491: the CTL_CLK tick at which the operating seconds advanced last -/
  secTick : Nat := 0
  /-- 1 bit, R492: 3,600 operating seconds have passed and the TIME_SYNC record is due -/
  syncDue : Bool := false
  /-- 1 bit, R494: 60 operating seconds have passed and the flush of the lifetime values is due -/
  flushDue : Bool := false
  deriving DecidableEq, Repr

/-- IRQ beside its registers (19_interrupts_and_power). -/
structure IrqInt where
  /-- 384 bit, R469: the lines before INV -/
  raw : Nat := 0
  /-- 384 bit, R475: grouped sources that a firing has released -/
  released : Nat := 0
  /-- list, R486: the SYS_POWER_STATE packets answered after wake -/
  pwrPkts : List Pkt := []
  /-- table by group, 64 bit, R475: device time of the first edge held -/
  heldAt : List (Nat × Nat) := []
  /-- 64 bit, R486: device time of the gating instant -/
  gateTime : Nat := 0
  /-- 1 bit, R482: the wake latches sense -/
  sensing : Bool := false
  deriving DecidableEq, Repr

/-- OTP (R446): never changed by a reset. All zero on a part just made is a DESIGN CHOICE (log entry 4). -/
structure OtpInt where
  /-- 64 bit, R446: device UID, OTP 0x000 -/
  uid : Nat := 0
  /-- 32 bit, R446: subsystem ID and vendor, OTP 0x008 -/
  subsystem : Nat := 0
  /-- 3 bit, R446: OWNER_LOCK, DBG_DIS, RECOVERY_DIS, OTP 0x00C -/
  cfg : Nat := 0
  /-- table by slot class * 4 + slot, 384 bit each, R446: key-pair hashes, OTP 0x010-0x18F; 0 is not provisioned -/
  hashes : List (Nat × Nat) := []
  /-- 8 bit, R446: revoked slots, OTP 0x190 (two of three fuses) -/
  revoked : Nat := 0
  /-- 8 bit, R446: the anti-rollback thermometer, OTP 0x1A8 -/
  rbCtr : Nat := 0
  /-- 320 bit and 640 bit, R446, R457: the wrapped identity seeds, OTP 0x1C8 and 0x1F0 -/
  seedRsa : Nat := 0
  seedSlh : Nat := 0
  deriving DecidableEq, Repr

/-- MRAM configuration (R43): survives every reset and every loss of power, but for the permit mask (R56). All zero on
a part just made is a DESIGN CHOICE (log entry 4). -/
structure MramInt where
  /-- 40 bit, R497: the operating second at which the last refresh pass ended -/
  passSec : Nat := 0
  /-- 16 bit, R56, R87: opcode groups that remote packets may use; 0 after power-on -/
  permit : Nat := 0
  /-- 32 bit, R462: SEC_CMD_CTR as stored -/
  cmdCtr : Nat := 0
  /-- list of words, R295, R315: the schedule image that RING_SCHEDULE_LOAD stored; empty where there is none -/
  schedImage : List Nat := []
  /-- 4 bit, R315: the rank that RING_MASTER_RANK stored -/
  rank : Option Nat := none
  /-- table by slot class * 4 + slot, 109 words each, R447: the key store -/
  keyStore : List (Nat × List Nat) := []
  /-- bytes, R458: the two certificates -/
  certRsa : List Nat := []
  certSlh : List Nat := []
  /-- list of words, R417: the safety configuration; empty where there is none -/
  safety : List Nat := []
  /-- list of words, R445: what LASH_CONFIG stored; none where there is nothing -/
  lash : Option (List Nat) := none
  /-- three words, R445: what SPLICE_CONFIG stored -/
  splice : Option (List Nat) := none
  /-- table by bank (0 L0, 1 L1, 2 F0, 3 F1, 4 K, 5 C0, 6 C1), R452, R455: the images that the device has written to the
  flash outside it -/
  flash : List (Nat × List Nat) := []
  deriving DecidableEq, Repr

/-- R115: the PTP settings of TIME_CONFIG words 7-13. -/
structure PtpCfg where
  domain : Nat := 0
  transport : Nat := 0
  p2p : Bool := false
  priority1 : Nat := 0
  priority2 : Nat := 0
  clockClass : Nat := 0
  intervals : Nat := 0
  deriving DecidableEq, Repr

/-- R109: an entry of a plant port's transmit time-stamp queue. -/
structure TxStamp where
  ns : Nat
  tag : Nat
  deriving DecidableEq, Repr

/-- TIME and ETH beside their registers (04_timebase). -/
structure TimeInt where
  /-- 64 bit, R89: device time, whole nanoseconds -/
  ns : Nat := 0
  /-- 32 bit, R89: device time, fraction in 2^-32 ns -/
  frac : Nat := 0
  /-- Nat, R92: CTL_CLK ticks since reset -/
  tick : Nat := 0
  /-- Nat, R92: tick of the previous offset sample -/
  lastTick : Nat := 0
  /-- signed, R92: the frequency term F, 2^-32 ns per tick -/
  servoF : Int := 0
  /-- 1 bit, R92: the next sample is a first sample -/
  first : Bool := true
  /-- Nat, R93: consecutive samples within LOCK_THRESH -/
  lockRun : Nat := 0
  /-- Nat, R93: consecutive samples beyond LOSS_THRESH -/
  lossRun : Nat := 0
  /-- R529: a sample of PTP_ETH0, of PTP_ETH1 arrived within the last 2,000 ms -/
  ptp0 : Bool := false
  ptp1 : Bool := false
  /-- R529: a valid reference frame arrived within the last 3 cycles -/
  ringSeen : Bool := false
  /-- 32 bit, R98: one-shot compare units that have fired since they were enabled -/
  fired : Nat := 0
  /-- Nat, R98: tick of the last compare pulse, plus 1; 16 bit, 8 bit and 8 bit: tick groups, event lines and ADC cores pulsed on it -/
  cmpTick : Nat := 0
  cmpTg : Nat := 0
  cmpSched : Nat := 0
  cmpAdc : Nat := 0
  /-- table by compare unit, R97: the CTL_CLK tick on which a late one-shot unit fires -/
  cmpDue : List (Nat × Nat) := []
  /-- list, R89, R96: the ticks at which device time was stepped or its rate changed in the last second, oldest first, each with the
  device time, in 2^-32 ns, and what a tick added, until then -/
  marks : List (Nat × Nat × Nat) := []
  /-- table by input, R101: the 4-entry FIFO of a capture input, oldest first, as (stamp, rising) -/
  capFifo : List (Nat × List (Nat × Bool)) := []
  /-- table by input, R364: the last qualifying edge, as (stamp, rising) -/
  capLast : List (Nat × (Nat × Bool)) := []
  /-- table by input, R97: the CTL_CLK tick of that edge, plus 1 -/
  capTick : List (Nat × Nat) := []
  /-- table by input, R145: edges that capture inputs have stamped -/
  capCount : List (Nat × Nat) := []
  /-- table by port, R109: the 16-entry transmit time-stamp queue, oldest first -/
  tsq : List (Nat × List TxStamp) := []
  /-- Nat, R147, R330: the multiple of 20 microseconds at which the last snapshot, the last release point fell while the ring did not
  run, plus 1 -/
  snapGrid : Nat := 0
  relGrid : Nat := 0
  /-- Nat, R375: the whole millisecond of the last check of the Spillway, plus 1 -/
  spillGrid : Nat := 0
  /-- R115: PTP settings -/
  ptp : PtpCfg := {}
  deriving DecidableEq, Repr

/-- R128: a result word with its sample instant, and how many results its entry has delivered. -/
structure AdcRes where
  word : Nat := 0
  ts : Nat := 0
  /-- R169: when it arrived, as slot samples counted from 1; 0 where none has arrived -/
  seq : Nat := 0
  deriving DecidableEq, Repr

/-- One converter core beside its registers (05_adc). -/
structure AdcCore where
  /-- 1 bit, R124: a pass runs -/
  running : Bool := false
  /-- 4 bit, R123: the entry being converted -/
  entry : Nat := 0
  /-- 64 bit, R123: sample instant of entry 0 of the pass -/
  h0 : Nat := 0
  /-- 64 bit, R123: sample instant of the entry being converted -/
  hk : Nat := 0
  /-- R124: the ADC_CLK edge, as a CTL_CLK tick, that took the trigger of the pass -/
  edge : Nat := 0
  /-- R119, R128: REFNS and UNCAL at a sample instant after which the reference or the factors have changed -/
  hkFlags : Option (Bool × Bool) := none
  /-- list, R131: result words of the pass so far -/
  pass : List Nat := []
  /-- 1 bit, R128: OVR of the next result word -/
  ovr : Bool := false
  /-- list of at most 64, R130: FIFO, oldest first, as (result word, sample instant) -/
  fifo : List (Nat × Nat) := []
  /-- 5 bit, R136: LEN of the last pass -/
  lastLen : Nat := 0
  /-- table by comparator, R132: run of consecutive hits -/
  winRun : List (Nat × Nat) := []
  /-- table by entry, R129: the result last delivered -/
  last : List (Nat × AdcRes) := []
  /-- R125: a trigger on the ADC_CLK edge on which the running pass ends: the edge, and with the PWM trigger the sample instant of
  entry 0 -/
  next : Option (Nat × Option Nat) := none
  deriving DecidableEq, Repr

/-- R136: an ADC_READ with TRIGGER that waits for a pass. -/
structure AdcWait where
  pkt : Pkt
  core : Nat
  /-- the trigger was lost under R125 -/
  lost : Bool
  /-- a pass that started at or after the trigger runs -/
  started : Bool
  deriving DecidableEq, Repr

/-- ADC beside its registers. -/
structure AdcInt where
  /-- table by core -/
  cores : List (Nat × AdcCore) := []
  /-- R118, R530: the selected reference is settling -/
  settling : Bool := true
  /-- R135: ADC_CALIBRATE packets with the cores not yet finished -/
  calWait : List (Pkt × Nat) := []
  /-- R135: the ADC_CONFIG packets that wait for passes to end, oldest first -/
  cfgWait : List Pkt := []
  /-- R136: ADC_READ packets that wait for a pass -/
  readWait : List AdcWait := []
  deriving DecidableEq, Repr

/-- R158: a state request of a slot that waits for a sample; the code is that of REQ. -/
structure SlotReq where
  kind : Nat
  pkt : Option Pkt := none
  /-- R167: USE_MANUAL -/
  manual : Bool := false
  /-- R158: device time at which it has waited 100 ms -/
  tmo : Nat := 0
  /-- R431: the application cycle of a mirrored request, and the device time at which it starts -/
  cyc : Option (Nat × Nat) := none
  deriving DecidableEq, Repr

/-- R143, R169: what a slot last saw of one feedback source. -/
structure FbSeen where
  /-- a segment and FRESH of its most recent copy with NULL clear -/
  ring : Option (Nat × Nat) := none
  /-- an encoder and the count latched for the previous sample -/
  enc : Option (Nat × Int) := none
  deriving DecidableEq, Repr

/-- A loop slot beside slot memory and its registers (06_loop_engine, 07_loop_supervision). -/
structure SlotInt where
  /-- 1 bit: a request was accepted since reset; the slots that ticks, trips and owners are looked for among -/
  used : Bool := false
  /-- R139: CTL_CLK tick of the last release -/
  relAt : Option Nat := none
  /-- R431: input cycle of the last release -/
  inCyc : Nat := 0
  /-- 1 bit, R171: released with not-fresh feedback -/
  stale : Bool := false
  /-- list of at most 4, R158: waiting requests, oldest first -/
  reqs : List SlotReq := []
  /-- 1 bit, R176: OBSERVER is a ride-through -/
  riding : Bool := false
  /-- 1 bit, R180: SAFE is still ramping -/
  ramping : Bool := false
  /-- 1 bit, R170: a fresh sample since the slot left IDLE -/
  anyFresh : Bool := false
  /-- R169: when the slot last evaluated in OPEN, CLOSED or OBSERVER, and its last sample, as slot samples counted from 1 -/
  evalSeq : Nat := 0
  lastSeq : Nat := 0
  /-- R169: what the slot last saw of its feedback, and of the source FB2_SEL of its model block names -/
  fb1 : FbSeen := {}
  fb2 : FbSeen := {}
  /-- R250: the encoder count and error bit latched at the tick -/
  latch : Option (Int × Bool) := none
  /-- R150, R250: the same of an encoder that FB2_SEL of its model block names -/
  latch2 : Option (Int × Bool) := none
  /-- R145: pulse count at the previous sample -/
  pulsePrev : Option Int := none
  /-- R145: pulse count when the slot entered CLOSED -/
  pulseClosed : Int := 0
  /-- R145, R185: set-point of the previous sample, before injection -/
  spPrev : Int := 0
  /-- R156: LOOP_MANUAL value for the next sample; R431: of a mirrored one, the application cycle -/
  manualNext : Option Int := none
  manualCyc : Option Nat := none
  /-- list, R431: mirrored LOOP_SAFE commands that wait for the first sample of their application cycle, as (c, its start, packet) -/
  safeReqs : List (Nat × Nat × Pkt) := []
  /-- R160: held output to preload from at the first sample in CLOSED -/
  preload : Option Int := none
  /-- Nat, R152: samples since the last observer evaluation -/
  obsCnt : Nat := 0
  /-- R152: tick of the last observer evaluation -/
  obsAt : Option Nat := none
  /-- R153: the value last written to TGT2 -/
  obsOut2 : Int := 0
  /-- R185: the part of u_out in OPEN that an injector has added -/
  openInj : Int := 0
  /-- 1 bit, R504: HPENn of a connector the slot depends on went low -/
  hpHold : Bool := false
  /-- 1 bit, R241: a range detection reported by an axis -/
  feDet : Bool := false
  /-- R146, R170: 64-bit feedback of the last fresh sample in ERR_MODE POSITION -/
  posLast : Int := 0
  deriving DecidableEq, Repr

/-- R147: the snapshot of the sources a slot reads from outside its own tick path. -/
structure SlotSnap where
  /-- the words of slot memory, axes and process image as they stood -/
  words : Store := []
  /-- table by axis: coil currents A and B, R237 -/
  coils : List (Nat × (Int × Int)) := []
  deriving DecidableEq, Repr

/-- An injector beside its registers (R185-R192). -/
structure InjInt where
  /-- the LOOP_STEP or LOOP_SWEEP packet; none for core code -/
  pkt : Option Pkt := none
  /-- Nat, R187: samples since the injector was armed -/
  n : Nat := 0
  /-- Nat, R186: whole periods still to skip -/
  settle : Nat := 0
  /-- Nat, R192: index of the running point, points P, accumulation periods M -/
  point : Nat := 0
  points : Nat := 0
  m : Nat := 0
  incStart : Nat := 0
  incStop : Nat := 0
  /-- R192: 16 bytes per finished point -/
  results : List Nat := []
  deriving DecidableEq, Repr

/-- LOOP beside its registers. -/
structure LoopInt where
  /-- table by slot -/
  slots : List (Nat × SlotInt) := []
  /-- list, R139: released slots that wait to issue on pipeline P0, and on P1 -/
  q0 : List Nat := []
  q1 : List Nat := []
  /-- R147 -/
  snap : SlotSnap := {}
  /-- table by injector -/
  inj : List (Nat × InjInt) := []
  /-- R169: slot samples made since reset -/
  seq : Nat := 0
  /-- 1 bit, R495: SAT_ACC, SAT_STATE, SAT_OUT or SAT_RATE has engaged in the sample being evaluated -/
  satNow : Bool := false
  deriving DecidableEq, Repr

/-- R200, R203: what stood before a write to a shadow field, or to LOADNOW. -/
structure ShadowOld where
  /-- 3 bit: 0-4 as WRITTEN numbers the fields, 5 LOADNOW -/
  field : Nat := 0
  /-- the CTL_CLK tick of the write -/
  tick : Nat := 0
  /-- 32 bit: the shadow value, or LOADNOW, before it -/
  old : Nat := 0
  /-- 1 bit: the field's bit of WRITTEN before it -/
  written : Bool := false
  deriving DecidableEq, Repr

/-- A PWM generator beside its registers (08_pwm). -/
structure PwmGen where
  /-- 1 bit, R210: a trip was cleared and the outputs keep their trip levels until the next boundary -/
  held : Bool := false
  /-- list, R17, R200, R203: the writes since the cut-off of the next boundary, oldest first, with what stood before each -/
  late : List ShadowOld := []
  /-- 8 bit, R196, R197: ADC cores whose acquisition start has been made, or jumped over, in this period -/
  missed : Nat := 0
  /-- 1 bit, R197: the sample point of this period has been made, or passed over -/
  spGone : Bool := false
  /-- 24 bit, R193: period position at tick `posTick` -/
  pos : Nat := 0
  /-- R193: the CTL_CLK tick at which the position was `pos` -/
  posTick : Nat := 0
  /-- R195: where an interval in which output A is active at `posTick` began, in 1/32 tick of CTL_CLK -/
  beganA : Nat := 0
  /-- R195: the same of output B -/
  beganB : Nat := 0
  /-- 1 bit each, R195: outputs A and B were at their active levels already when this part of the period began -/
  onA : Bool := false
  onB : Bool := false
  /-- R202: device time of the last SHADOW_STALE record plus 1 -/
  staleRec : Nat := 0
  deriving DecidableEq, Repr

/-- PWM beside its registers. -/
structure PwmInt where
  /-- table by generator -/
  gens : List (Nat × PwmGen) := []
  /-- 8 bit, R211: cores halted in debug mode -/
  halted : Nat := 0
  /-- 1 bit, R39, R206: the clock monitor asserts its trip -/
  clkTrip : Bool := false
  /-- list, R75, R199: PWM_ENABLE packets with EN = 0, oldest first, each with the generators that have still to stop -/
  stops : List (Pkt × Nat) := []
  /-- 64 bit, R154, R215: levels that loop slots give their pins -/
  loopPins : Nat := 0
  /-- table by compare unit, R98, R215: the CTL_CLK tick until which the unit's pulse on its pin is high -/
  pulses : List (Nat × Nat) := []
  /-- 64 bit, R216, R477: GPIO pins that the device drove when STANDBY began -/
  heldDrive : Nat := 0
  /-- 64 bit, R216, R477: the levels that it drove then -/
  heldLevel : Nat := 0
  deriving DecidableEq, Repr

/-- R226, R246: a queued move: AXIS_MOVE words 1-8. -/
structure Move where
  id : Nat := 0
  neg : Bool := false
  stop : Bool := false
  abort : Bool := false
  rel : Bool := false
  target : Int := 0
  vmax : Nat := 0
  amax : Nat := 0
  dmax : Nat := 0
  jmax : Nat := 0
  deriving DecidableEq, Repr

/-- R225-R229: a plan that an axis follows, and how many periods it has run. -/
structure Plan where
  /-- unreduced target -/
  target : Int := 0
  /-- joint velocity at the target -/
  vEnd : Int := 0
  /-- list, R225: periods and jerk of ten segments, three of a first deceleration and the seven of the profile; empty where none
  meets the rule -/
  segs : List (Nat × Int) := []
  /-- R227: at a reversal, the target that no point may pass: whether it lies in the positive direction, and the target -/
  side : Option (Bool × Int) := none
  /-- periods run -/
  k : Nat := 0
  /-- R227: the joint with the next move has been planned -/
  looked : Bool := false
  /-- R227: the queue was empty when the joint would have been planned -/
  missed : Bool := false
  deriving DecidableEq, Repr

/-- R232, R233: the parameters that a GEAR or CAM request took effect with. -/
structure Engage where
  /-- 0 encoder, 1 axis -/
  kind : Nat := 0
  mstr : Nat := 0
  num : Int := 1
  den : Nat := 1
  tol : Nat := 0
  tab : Nat := 0
  mcyc : Nat := 1
  lift : Int := 0
  rate : Nat := 0
  deriving DecidableEq, Repr

/-- R223: a request accepted for the next boundary: REQ code, its words (those of the command after the axis), packet.
A GEAR or CAM request of core code has no words: it reads the parameter words when it takes effect. -/
structure AxReq where
  code : Nat
  words : List Nat := []
  pkt : Option Pkt := none
  /-- signed: CTL_CLK tick at which it was accepted -/
  tick : Int := 0
  /-- R359: a recipe's move -/
  recipe : Bool := false
  deriving DecidableEq, Repr

/-- An axis beside its registers (09_motion). -/
structure AxisInt where
  /-- signed, R221: unreduced position, in 2^-32 count -/
  p : Int := 0
  /-- signed 64 bit, R220 -/
  v : Int := 0
  a : Int := 0
  /-- list of at most 16, R226 -/
  queue : List Move := []
  /-- R226: the running move -/
  move : Option Move := none
  plan : Plan := {}
  /-- 1 bit, R229: the stop is a quick stop -/
  quick : Bool := false
  /-- R232, R233: what the axis is coupled to -/
  eng : Engage := {}
  /-- R232, R233: position of the master at engagement and at the previous period, unreduced -/
  m0 : Int := 0
  mPrev : Int := 0
  /-- R232, R233 -/
  s0 : Int := 0
  /-- signed, R235: applied trim, in 2^-16 count -/
  trim : Int := 0
  /-- table by encoder, R233: counts at the axis's last boundary -/
  encPrev : List (Nat × Int) := []
  /-- list, R240: set-points published, newest first, at most 16 -/
  history : List Int := []
  /-- Nat, R241: consecutive periods beyond FE_LIM -/
  feCount : Nat := 0
  /-- Nat, R237: periods with v and a 0 -/
  still : Nat := 0
  /-- R237: coil currents A and B -/
  coilA : Int := 0
  coilB : Int := 0
  /-- 1 bit, R242: the group's safe state has stopped the axis and it follows the actual position -/
  stoStop : Bool := false
  /-- list, R223: requests accepted for the next boundary -/
  reqs : List AxReq := []
  /-- R240: FRESH of the ring copy last used for the following error -/
  ringFresh : Option Nat := none
  deriving DecidableEq, Repr

/-- An encoder interface beside its registers (R247-R252). -/
structure EncInt where
  /-- R248: accepted levels of A, B and Z -/
  a : Bool := false
  b : Bool := false
  z : Bool := false
  /-- R251: value of the last good transfer since EN went to 1 -/
  vPrev : Option Nat := none
  /-- R251: a transfer has ended and its TM time ends at this device time -/
  tmEnd : Option Nat := none
  /-- R252: device time of the last error -/
  errAt : Nat := 0
  deriving DecidableEq, Repr

/-- MOTION beside its registers. -/
structure MotionInt where
  /-- table by axis -/
  axes : List (Nat × AxisInt) := []
  /-- table by encoder -/
  encs : List (Nat × EncInt) := []
  deriving DecidableEq, Repr

/-- R269: what a node last took for a segment. -/
structure SegRx where
  /-- data words of the last valid copy with NULL clear -/
  data : List Nat := []
  /-- R269: a valid copy was taken in this cycle -/
  taken : Bool := false
  /-- R169: FRESH of the most recent copy with NULL clear -/
  fresh : Option Nat := none
  /-- R338: the copy of the most recent ended cycle was fresh -/
  current : Bool := false
  /-- the copy taken in this cycle is fresh -/
  now : Bool := false
  deriving DecidableEq, Repr

/-- R271: a segment that this node owns. -/
structure SegTx where
  /-- words as the producers have delivered them, by word -/
  words : List (Nat × Nat) := []
  /-- list, R272: slots and tasks (512 + task) that are due and have not delivered -/
  due : List Nat := []
  /-- words latched for the running cycle -/
  latched : List Nat := []
  /-- 1 bit, R271: latched incomplete -/
  null : Bool := true
  /-- 8 bit, R271: FRESH -/
  fresh : Nat := 0
  deriving DecidableEq, Repr

/-- R309: a node's presence. -/
structure NodeInt where
  /-- Nat: cycles since the last valid copy of a segment it owns -/
  since : Nat := 0
  known : Bool := false
  present : Bool := false
  /-- a valid copy arrived in this cycle -/
  seen : Bool := false
  deriving DecidableEq, Repr

/-- R280, R281: a schedule image as the device keeps it in a bank: header, tables and this device's map entries. -/
structure Sched where
  proto : Nat := 0
  gen : Nat := 0
  id : Nat := 0
  cycleNs : Nat := 0
  nseg : Nat := 0
  nslot : Nat := 0
  nnodes : Nat := 0
  bightLen : Nat := 0
  bightOff : Nat := 0
  lapNs : Nat := 0
  compNs : Nat := 0
  guardNs : Nat := 0
  wdog : Nat := 0
  reqCap : Nat := 0
  /-- (UID, RANK, NODE) -/
  nodes : List (Nat × Nat × Nat) := []
  /-- (LEN, VER, KIND, OWNER, PAIR, OFFSET) -/
  segs : List (Nat × Nat × Nat × Nat × Nat × Nat) := []
  /-- (MAXLEN, OWNER, START, END) -/
  slots : List (Nat × Nat × Nat × Nat) := []
  /-- (COUNT, FIRST, DIR, SEG, INDEX) -/
  maps : List (Nat × Nat × Nat × Nat × Nat) := []
  /-- this device's node number -/
  node : Nat := 0
  /-- the words of the whole image, for distribution -/
  image : List Nat := []
  deriving DecidableEq, Repr

/-- RING beside its registers (10, 11). Ports: 0 HA, 1 HB. -/
structure RingInt where
  /-- table by bank 0, 1, R283 -/
  banks : List (Nat × Option Sched) := []
  /-- 1 bit: the schedule of the bank in use is in force -/
  inForce : Bool := false
  /-- table by segment -/
  rx : List (Nat × SegRx) := []
  tx : List (Nat × SegTx) := []
  /-- table by node -/
  nodes : List (Nat × NodeInt) := []
  /-- R270: extraction of this cycle has ended -/
  ended : Bool := true
  /-- R330: the release point of this cycle has come -/
  released : Bool := true
  /-- 1 bit, R291: the next cycle is cycle 0 of a new master -/
  newMaster : Bool := false
  /-- Nat, R287: consecutive cycles without a good reference frame -/
  refMiss : Nat := 0
  /-- a good reference frame of this cycle has arrived, on HA, on HB -/
  refHA : Bool := false
  refHB : Bool := false
  /-- 2 bit, R307: ports on which a good frame of this cycle has arrived -/
  goodOn : Nat := 0
  /-- 2 bit, R307: ports that stopped turning frames back at the start of this cycle -/
  resumed : Nat := 0
  /-- table by port, R307: device time at which the link came up, plus 1; 0 while it is down -/
  upSince : List (Nat × Nat) := []
  /-- Nat, R304: consecutive cycles in bound; consecutive cycles without a sample -/
  inBound : Nat := 0
  noSample : Nat := 0
  /-- 1 bit: the servo has taken a sample in this cycle -/
  sampled : Bool := false
  /-- R104: the offset of this cycle at the port that is not preferred, 1/16 ns -/
  alt : Option Int := none
  /-- table by port, R264: sums of link-delay samples, twice the sample, 1/16 ns, newest first, at most 16 -/
  linkSamples : List (Nat × List Int) := []
  /-- table by port, R263, R264: transmit and receive stamps of reference frames, as (CYCLE, 1/16 ns), newest first -/
  tTx : List (Nat × List (Nat × Nat)) := []
  tRx : List (Nat × List (Nat × Nat)) := []
  /-- 8 bit, R289: ROUND of the claim sent; 2 bit, R290: ports on which it is still out -/
  claimRound : Nat := 0
  claimOut : Nat := 0
  /-- 1 bit, R291: a lower claim was received since CLAIM was entered -/
  claimLower : Bool := false
  /-- table by port, R299: MASTER_UID and HOP of the last good reference frame, plus 1 each -/
  refLast : List (Nat × (Nat × Nat)) := []
  /-- table by port, R299: the last reference frame was judged under case (a), and its cycle -/
  refCaseA : List (Nat × Option Nat) := []
  /-- list, R300: masters whose reference frames this cycle has brought, as (MASTER_RANK, MASTER_UID) -/
  masters : List (Nat × Nat) := []
  /-- R300: the only master whose frames the node admits -/
  admitted : Option (Nat × Nat) := none
  /-- 1 bit, R299: the reference frame of this cycle differed in MASTER_UID: no message frame -/
  noMsg : Bool := false
  /-- list of at most 16, R312: (RING_RX_VER, RING_RX_CAP) of past cycles, newest first -/
  capHist : List (Nat × Nat) := []
  /-- 1 bit, R313: the record of this schedule, or of this BOOTSTRAP, was posted -/
  capRec : Bool := false
  /-- R284: device time of the last LAP_OVER record plus 1 -/
  lapRec : Nat := 0
  /-- 1 bit, R283: a committed bank change waits -/
  switchPend : Bool := false
  /-- R294, R295: the image being received: SCHED_ID, NBLOCKS, IMG_LEN, SWITCH_CYC, blocks held by index -/
  blkId : Nat := 0
  blkCount : Nat := 0
  blkLen : Nat := 0
  blkSwitch : Nat := 0
  blks : List (Nat × List Nat) := []
  /-- R295: the image the master distributes, as words; empty while it distributes none; its SWITCH_CYC -/
  distImg : List Nat := []
  distSwitch : Nat := 0
  /-- R295: the cycle C0 in which the first block may leave -/
  distFrom : Nat := 0
  /-- Nat, R295, R296: the next block to send: of the distribution (two passes), of the repeat -/
  distNext : Nat := 0
  repNext : Nat := 0
  /-- the RING_SCHEDULE_LOAD packet answered at SWITCH_CYC -/
  loadPkt : Option Pkt := none
  /-- R315: chunks of a RING_SCHEDULE_LOAD held, as words -/
  chunk : List Nat := []
  /-- table by node, R277: SEQ of the last message accepted from it, plus 1 -/
  msgSeq : List (Nat × Nat) := []
  /-- 16 bit, R275: SEQ of the next message the device itself makes -/
  txSeq : Nat := 0
  /-- list: the frames that the last sending or forwarding command put out, as (port, bytes) -/
  out : List (Nat × List Nat) := []
  deriving DecidableEq, Repr

/-- R317: the states of a task. -/
inductive TaskSt where
  | free | ready | running | waiting | sleeping
  deriving DecidableEq, Repr

/-- R316, R317: a row of the task table. -/
structure Task where
  st : TaskSt := .free
  /-- 5 bit, 0 most urgent -/
  prio : Nat := 0
  /-- 8 bit, cores that may run it -/
  affinity : Nat := 0
  /-- 32 bit -/
  flags : Nat := 0
  /-- 32 bit, wait mask -/
  mask : Nat := 0
  /-- R323: device time at which the time-out or the duration expires; none with FOREVER -/
  deadline : Option Nat := none
  /-- 4 bit, R322: status of the blocking operation, for the dispatch -/
  status : Nat := 0
  /-- 32 bit, R322: matched bits, for the dispatch -/
  matched : Nat := 0
  deriving DecidableEq, Repr

/-- SCHED beside its registers (12_scheduler). -/
structure SchedInt where
  /-- table by task number 0-255, R317: the task table -/
  tasks : List (Nat × Task) := []
  /-- table by priority, R317: the queue memory, each level's ready tasks in order -/
  levels : List (Nat × List Nat) := []
  deriving DecidableEq, Repr

/-- R341: a force: variable, type, value. -/
structure Force where
  varId : Nat
  ty : Nat
  lo : Nat
  hi : Nat
  deriving DecidableEq, Repr

/-- R344: an entry of the task table. -/
structure PTask where
  event : Bool := false
  affinity : Nat := 0
  prio : Nat := 0
  num : Nat := 0
  phase : Nat := 0
  period : Nat := 0
  /-- words 2 and 3: triggers -/
  trg2 : Nat := 0
  trg3 : Nat := 0
  trgVar : Nat := 0
  inCount : Nat := 0
  inFirst : Nat := 0
  outCount : Nat := 0
  outFirst : Nat := 0
  entry : Nat := 0
  deriving DecidableEq, Repr

/-- R346: an entry of the variable table. -/
structure PVar where
  id : Nat
  bit : Nat
  word : Nat
  kind : Nat
  ty : Nat
  deriving DecidableEq, Repr

/-- R343-R347: a program image body. -/
structure PImage where
  id : Nat := 0
  outLead : Nat := 0
  words : Nat := 0
  tasks : List PTask := []
  /-- (FIRST, COUNT) -/
  ranges : List (Nat × Nat) := []
  /-- (FIRST, COUNT, OWNER, KIND) -/
  areas : List (Nat × Nat × Nat × Nat) := []
  vars : List PVar := []
  /-- (SEG, NODE) -/
  stns : List (Nat × Nat) := []
  /-- (WORD, VALUE) -/
  inits : List (Nat × Nat) := []
  codeOff : Nat := 0
  codeLen : Nat := 0
  dataLen : Nat := 0
  /-- R459: the measurement of the image -/
  meas : List Nat := []
  /-- list of words: the image as it was loaded -/
  body : List Nat := []
  deriving DecidableEq, Repr

/-- R333: a period of a task that has not reached its transfer point. -/
structure PPeriod where
  /-- the transfer point is the one before release point `at` -/
  due : Nat := 0
  /-- output words committed for it, as (image word, value); none while the task has not committed -/
  outs : Option (List (Nat × Nat)) := none
  /-- 128 bit, R339: RE_ARM words of that commit -/
  rearm : Nat := 0
  deriving DecidableEq, Repr

/-- A task of the running program (R329-R335). -/
structure PTaskInt where
  /-- 1 bit: still executing -/
  executing : Bool := false
  /-- list, oldest first -/
  periods : List PPeriod := []
  /-- input buffer, R332 -/
  inputs : List Nat := []
  /-- R330: triggers merged since the last release, as words 2 and 3 of the task's entry -/
  trg2 : Nat := 0
  trg3 : Nat := 0
  /-- 1 bit, R337: overrun in the previous period -/
  overrun : Bool := false
  /-- 32 bit, R362 -/
  overruns : Nat := 0
  skips : Nat := 0
  lastUs : Nat := 0
  maxUs : Nat := 0
  deriving DecidableEq, Repr

/-- R336, R339: a station of the program. -/
structure StnInt where
  armed : Bool := false
  suppress : Nat := 0
  deriving DecidableEq, Repr

/-- R360: a request to a recipe that waits for a boundary: 1 start, 2 pause, 3 resume, 4 abort by command, 5 by
ACTION_FAIL, 6 by TIMEOUT; the first step of a start; the packet answered. -/
structure RcpReq where
  code : Nat
  step : Nat := 0
  pkt : Option Pkt := none
  deriving DecidableEq, Repr

/-- R354-R360: a recipe. -/
structure Recipe where
  /-- 0 EMPTY, 1 READY, 2 RUNNING, 3 PAUSED, 4 DONE, 5 ABORTED -/
  st : Nat := 0
  cause : Nat := 0
  /-- header words and steps of eight words -/
  words : List Nat := []
  /-- chunks of a RECIPE_LOAD held -/
  chunk : List Nat := []
  step : Nat := 0
  /-- device time of S -/
  sync : Nat := 0
  /-- signed, ns from S to the start of the current step -/
  tau : Int := 0
  /-- the current step's actions have been applied -/
  applied : Bool := false
  /-- R358: device time at which the wait began; none outside WAIT -/
  wait : Option Nat := none
  /-- R358: the condition held at the last release point -/
  met : Bool := false
  /-- R360: device time of the pause -/
  pausedAt : Nat := 0
  late : Nat := 0
  split : Nat := 0
  conflict : Bool := false
  /-- requests for the next boundary, oldest first -/
  reqs : List RcpReq := []
  deriving DecidableEq, Repr

/-- The program unit (13_program_and_recipes). -/
structure ProgInt where
  /-- list of at most 1,024, R341: forces in force -/
  forces : List Force := []
  /-- 0 EMPTY, 1 STOPPED, 2 RUNNING, 3 CHANGING -/
  st : Nat := 0
  active : Option PImage := none
  spare : Option PImage := none
  /-- chunks of a PROG_LOAD held, as words; and the images being verified, each with the packet that ended it -/
  chunk : List Nat := []
  loads : List (Pkt × List Nat) := []
  /-- Nat, R330: release points since PROG_RUN; none before the first -/
  n : Option Nat := none
  /-- table by task -/
  tasks : List (Nat × PTaskInt) := []
  /-- table by node -/
  stns : List (Nat × StnInt) := []
  /-- R362 -/
  overrun : Bool := false
  imageLate : Bool := false
  /-- R350: pending change: packet, RELEASE_AFFECTED_FORCES, release points still to pass -/
  change : Option (Pkt × Bool × Nat) := none
  /-- device time at which MAX_WAIT has passed -/
  changeBy : Nat := 0
  /-- R350: outputs of the old program's tasks still to be transferred -/
  kept : List PPeriod := []
  /-- Nat, R330: release points since reset; the one after which the last transfer point came -/
  points : Nat := 0
  lastXfer : Nat := 0
  /-- R353: PROG_RUN packet answered at the first release -/
  runPkt : Option Pkt := none
  /-- R361: PROG_WRITE_VAR, PROG_READ_VAR, PROG_FORCE and PROG_RELEASE commands of the next release point, in order -/
  atRelease : List Pkt := []
  /-- R330: triggers that fired since the last release point, as words 2 and 3 of a task's entry -/
  ev2 : Nat := 0
  ev3 : Nat := 0
  /-- R339: nodes that PROG_RE_ARM has named, and the packets answered at the transfer point -/
  rearm : Nat := 0
  rearmPkt : List Pkt := []
  /-- R353: destined segments go NULL after a stop with ZERO -/
  zero : Bool := false
  /-- list, R335: segments that go NULL at the latch before a release point, as (release point, segment) -/
  nullAt : List (Nat × Nat) := []
  /-- list, R333: image words transferred whose latch is a later one, as (release point that the latch precedes, word, value before) -/
  early : List (Nat × Nat × Nat) := []
  /-- table by recipe -/
  recipes : List (Nat × Recipe) := []
  /-- R330: presence bits at the last release point, for TRG_PRES -/
  present : Nat := 0
  /-- list, R432: pages of 1,024 image words that commits have changed since the last delta -/
  dirty : List Nat := []
  /-- 1 bit, R341: FORCE_IND is driven active -/
  forceInd : Bool := false
  deriving DecidableEq, Repr

/-- R368: a record in the stream buffer. -/
structure AcqRec where
  words : List Nat
  /-- 64 bit, its stamp -/
  ts : Nat := 0
  /-- 64 bit, R368: its offset in the stream -/
  off : Nat := 0
  /-- channel and LAST of a data record that holds LAST -/
  last : Option (Nat × Int) := none
  deriving DecidableEq, Repr

/-- R365: the open window of a channel. -/
structure AcqChan where
  count : Nat := 0
  min : Int := 0
  max : Int := 0
  sum : Int := 0
  last : Int := 0
  ts : Nat := 0
  /-- 4 bit, R377: SPILL under which the window runs -/
  spill : Nat := 0
  /-- R366: values lost since the last record -/
  intake : Bool := false
  /-- R368: a value of the window carried REFNS, UNCAL or OVR -/
  src : Bool := false
  deriving DecidableEq, Repr

/-- R373: a trigger unit beside its registers. -/
structure AcqUnit where
  /-- LEVEL, WINDOW, PATTERN: the last value meets the condition -/
  level : Bool := false
  /-- pulses: the output is true before this device time, in units of half a nanosecond -/
  pulseEnd : Nat := 0
  /-- EDGE: the value has been beyond A - B (A + B) since the last fire -/
  armed : Bool := false
  /-- TIME: it has pulsed since the arm -/
  timed : Bool := false
  deriving DecidableEq, Repr

/-- R370: a host buffer that the host has lent. -/
structure AcqBuf where
  addr : Nat
  size : Nat
  /-- handed over and not released -/
  handed : Bool := false
  /-- what the device wrote into it -/
  words : List Nat := []
  deriving DecidableEq, Repr

/-- ACQ beside its registers (14_acquisition). -/
structure AcqInt where
  /-- list, R368: records in the stream buffer and not yet delivered, oldest first -/
  recs : List AcqRec := []
  /-- table by channel -/
  chans : List (Nat × AcqChan) := []
  /-- table by trigger unit -/
  units : List (Nat × AcqUnit) := []
  /-- list of at most 64, R370: host buffers -/
  bufs : List AcqBuf := []
  /-- index of the buffer to fill next; sequence number of the next buffer -/
  fill : Nat := 0
  bufSeq : Nat := 0
  /-- R372: records lost since the last one written: first stamp, last stamp, count -/
  gap : Option (Nat × Nat × Nat) := none
  /-- list, R376: Spillway steps in force, oldest first, as channels -/
  steps : List (List Nat) := []
  /-- R375: backlog at the previous check; R376: checks below 25 % since the 10 ms period began -/
  prevBack : Nat := 0
  lowRun : Option Nat := none
  /-- R374: captures completed since the arm -/
  captures : Nat := 0
  /-- R374: ACQ_STOP without DISCARD: the backlog drains before IDLE -/
  stopping : Bool := false
  /-- 1 bit, R372, R374: delivery has stopped until the next ACQ_STREAM SET -/
  halted : Bool := false
  /-- list, R366: values that wait in the shared intake queue, and those that a channel took in the last 8 FAB_CLK cycles, as (FAB_CLK
  cycle at which the engine takes the value, channel) -/
  intake : List (Nat × Nat) := []
  /-- R374: device time at which HOLDOFF has passed since everything was delivered -/
  holdEnd : Nat := 0
  /-- list, records of the capture that runs; R379: those of the last completed capture, with its trigger instant -/
  capRecs : List AcqRec := []
  capture : Option (List AcqRec × Nat) := none
  deriving DecidableEq, Repr

/-- A CAN controller beside its registers (15_can). -/
structure CanInt where
  /-- table by transmit object, R390: CTL_CLK tick at which its TXREQ was set -/
  reqAt : List (Nat × Nat) := []
  /-- list, R392: objects whose frame is on the bus and whose abort was written -/
  aborting : List Nat := []
  /-- 1 bit, R385: MODE = CONFIG waits for the next bus idle -/
  leaving : Bool := false
  /-- 2 bit: the mode that it leaves -/
  left : Nat := 0
  /-- R396: CAN_CONFIG packets that wait for the next bus idle, oldest first, with the device time at which they time out -/
  cfg : List (Pkt × Nat) := []
  deriving DecidableEq, Repr

/-- R403-R405: a safe input of the Sluice. -/
structure SinInt where
  /-- consecutive samples that show the other level -/
  run : Nat := 0
  /-- cycles for which the filtered state has been high, held at 40,001 -/
  high : Nat := 0
  /-- input fault: 0 none, 1 DISCREPANCY, 2 STUCK_HIGH, 3 CROSS -/
  code : Nat := 0
  deriving DecidableEq, Repr

/-- R407, R408: an STO channel beside its registers. -/
structure StoCh where
  /-- cycles since the output last changed -/
  since : Nat := 0
  /-- consecutive samples in which the readback differs -/
  bad : Nat := 0
  /-- cycles of the test interval; the test is due -/
  timer : Nat := 0
  due : Bool := false
  /-- cycles of the running test pulse, and the readback at its last sample -/
  pulse : Nat := 0
  pulseFb : Bool := false
  deriving DecidableEq, Repr

/-- R410-R412: a receive connection of the Sluice beside its registers. -/
structure SfConn where
  /-- 16 bit: the demand bits in force, and those of a frame confirmed since the last cycle -/
  bits : Nat := 0
  coming : Option Nat := none
  /-- the last confirmed number -/
  last : Option Nat := none
  /-- copies that wait for the other port's, as (port, SEQ, SAFE_BITS, ring cycle) -/
  wait : List (Nat × Nat × Nat × Nat) := []
  /-- consecutive confirmed frames, for a WATCHDOG fault -/
  good : Nat := 0
  /-- 1 bit each, R411, R412: the faults MISMATCH and WATCHDOG that are in force -/
  mis : Bool := false
  wd : Bool := false
  /-- R412: CTL_CLK tick of the last confirmation, which restarted both timers -/
  started : Nat := 0
  deriving DecidableEq, Repr

/-- The Sluice beside its registers (16_sluice_safe_torque_off). -/
structure StoInt where
  /-- list of 78 words, R417: the active configuration; empty where none is held -/
  cfg : List Nat := []
  /-- list of 78 words, R416: the staging copy -/
  staging : List Nat := []
  /-- list of 8 words, R415: the mailbox -/
  mail : List Nat := []
  /-- R415: the request that is being checked, and the packet it came with -/
  req : Option (List Nat × Option Pkt) := none
  /-- R421: SLUICE_REQUEST packets that wait for the mailbox -/
  waiting : List Pkt := []
  /-- list, R421: SLUICE_REQUEST packets without a result yet, oldest first, each with the device time at which it times out -/
  expiry : List (Pkt × Nat) := []
  /-- 12 bit, R416: request demands; reset events of requests since the last cycle -/
  demand : Nat := 0
  resets : Nat := 0
  /-- tables by input, channel, connection -/
  sins : List (Nat × SinInt) := []
  chs : List (Nat × StoCh) := []
  conns : List (Nat × SfConn) := []
  /-- table by pair, R404: cycles for which the filtered states have differed -/
  disc : List (Nat × Nat) := []
  /-- 16 bit, R405: the last samples; inputs whose last sample may show a cross-fault -/
  prev : Nat := 0
  cross : Nat := 0
  /-- R405: the output that is low now, the next one to pulse, cycles since the last pulse -/
  tpoLow : Option Nat := none
  tpoNext : Nat := 0
  tpoCnt : Nat := 0
  /-- 16 bit, R413: SEQ of the next safety segment -/
  txSeq : Nat := 0
  /-- 1 bit, R402: the self-test that runs follows a CLEAR_FAULT -/
  clearing : Bool := false
  /-- 1 bit, R399: VDD_SAFE is below 2.7 V; it is outside 3.0-3.6 V -/
  held : Bool := false
  vddBad : Bool := false
  deriving DecidableEq, Repr

/-- R427: a partner's result that is held for its delivery instant. -/
structure SigHeld where
  at' : Nat := 0
  key : Nat := 0
  word : Nat := 0
  ts : Nat := 0
  deriving DecidableEq, Repr

/-- Splice links beside their registers (17). -/
structure SpliceInt where
  /-- table by (partner * 8 + core) * 16 + entry, R143: results of partners -/
  res : List (Nat × AdcRes) := []
  /-- list by delivery instant, R427 -/
  sigs : List SigHeld := []
  /-- 1 bit, R529: the link towards the group's time root is up and its TIME frames arrive -/
  timeUp : Bool := false
  /-- list: the frames that have left, oldest first, as the link and the frame's words from header to CRC, each with its lane -/
  out : List ((Nat × List Nat) × Nat) := []
  deriving DecidableEq, Repr

/-- R435: the records that a digest covers. -/
structure Dig where
  /-- the ring cycle -/
  k : Nat := 0
  /-- list by slot 0-511: its record -/
  slots : List (List Nat) := []
  /-- list by digest word 0-7: the records of its axes -/
  axes : List (List Nat) := []
  deriving DecidableEq, Repr

/-- The Lashing beside its registers (17). -/
structure LashInt where
  /-- 4 bit, R437: LASH_STATE of the partner as last told; 0 none -/
  partner : Nat := 0
  /-- 1 bit, the partner's PREFER; IMAGE_ID of its active program -/
  prefer : Bool := false
  image : Option Nat := none
  /-- device time of the last CONTROL frame plus 1 -/
  seen : Nat := 0
  /-- 1 bit, R433: level of LASH_ACT -/
  act : Bool := false
  /-- 24 bit, R424: MSEQ last sent; last accepted plus 1 -/
  seqTx : Nat := 0
  seqRx : Option Nat := none
  /-- R431: commands that wait for their application cycle, as (c, packet) -/
  cmds : List (Nat × Pkt) := []
  /-- device time at which LASH_STATE took its value -/
  since : Nat := 0
  /-- lists, R440, R441: LASH_SNAPSHOT, LASH_SWITCH under way, oldest first, each with the device time at which it times out; the
  switch cycle -/
  snapPkt : List (Pkt × Nat) := []
  switchPkt : List (Pkt × Nat) := []
  switchCyc : Option Nat := none
  /-- 1 bit, R438: the takeover is decided and waits for the latch -/
  takeover : Bool := false
  /-- 1 bit, R439: RESIGN is set in every digest -/
  resign : Bool := false
  /-- list, R435: what the digests of the last two cycle starts cover, newest first -/
  digs : List Dig := []
  /-- R431: while a mirrored command takes effect, its application cycle and the device time at which that starts -/
  appCyc : Option (Nat × Nat) := none
  /-- R431: while a mirrored input acts, its input cycle -/
  inCyc : Option Nat := none
  /-- list, R440: mirrored inputs held until the image is loaded, oldest first, with their input cycles -/
  inputs : List (Nat × MirItem) := []
  /-- 12 bit, R430: STO groups in safe state on the ACTIVE, as told -/
  sto : Nat := 0
  /-- R438: the cycle in which the first bad digest was found -/
  firstBad : Option Nat := none
  /-- list of at most 2, R438: cycles that brought a valid copy of a pair segment, newest first -/
  pairCyc : List Nat := []
  /-- R432: frames of a delta; a delta that is whole and waits for a release point -/
  deltaIn : List ProgDelta := []
  delta : List ProgDelta := []
  /-- R432: whole millisecond of device time of the last delta sent -/
  deltaMs : Nat := 0
  /-- list, R440: parts of the snapshot held; 1 bit: it is loaded; the ring cycle in which it was -/
  snap : List SnapPart := []
  loaded : Bool := false
  loadCyc : Nat := 0
  /-- list of units seeded, slots 0-511 and axes 512 + n -/
  seeded : List Nat := []
  /-- R440 phase 4: consecutive good, equal digests -/
  equal : Nat := 0
  /-- R440 at the ACTIVE: the image of static state has been sent; S1; the units seeded, slots 0-511 and axes 512 + n -/
  snapSent : Bool := false
  seedCyc : Option Nat := none
  seedSent : List Nat := []
  deriving DecidableEq, Repr
/-- SEC beside its registers (18_security). -/
structure SecInt where
  /-- list, R462: signed packets that wait for their verification, oldest first -/
  sigWait : List Pkt := []
  /-- R467: chunks of a SEC_IMAGE_WRITE held, as words; its TYPE -/
  chunk : List Nat := []
  chunkType : Nat := 0
  /-- list, R467: the images being verified and written, one after another, the oldest first: packet, TYPE, words -/
  writes : List (Pkt × Nat × List Nat) := []
  /-- R460: the SEC_ATTEST that is being signed; the words that both signatures cover, gathered at the start -/
  attPkt : Option Pkt := none
  attWords : List Nat := []
  /-- 1 bit, R460: a report is being signed -/
  attBusy : Bool := false
  /-- list of words, R460: the last report; empty where none is held -/
  report : List Nat := []
  /-- eight words, R465: the debug challenge that is valid; none -/
  challenge : Option (List Nat) := none
  /-- device time, R465: the end of the challenge's ten minutes -/
  challengeEnd : Nat := 0
  /-- 1 bit, R466: an operation of SEC_OP_CTRL runs: 1 HASH, 2 VERIFY, 3 ATTEST -/
  op : Option Nat := none
  /-- R466, R515: bank of the core-code image last written -/
  coreBank : Nat := 0
  deriving DecidableEq, Repr
/-- OPIO beside its registers (21_operator_inputs). -/
structure OpioInt where
  /-- table by touch channel, R500: the run counter -/
  run : List (Nat × Nat) := []
  /-- 16 bit, R503: levels of the detect pins before POL; high at reset, so that PIN reads its reset value (log entry 90) -/
  raw : Nat := 0xFFFF
  /-- table by connector, R503: the CTL_CLK tick at which HPENn rose last, plus 1 -/
  rose : List (Nat × Nat) := []
  deriving DecidableEq, Repr

/-- The whole device: every register, every piece of state beside the registers, and the waiting commands. -/
structure State where
  /-- R9, R12, R24: every register of the register maps, active and staged copy, and the words of the memories; what an unlisted address reads as is its reset word -/
  words : Store := []
  /-- the MODEL's own counter of free values used (DESIGN CHOICE, log entry 1) -/
  free : Nat := 0
  /-- R11, R28: the value that the last read command returned to its requester -/
  answer : Nat := 0
  /-- R34: read holding registers, by block * 16 + requester -/
  pairRd : List (Nat × PairRead) := []
  /-- R34, R102: write holding registers, by block * 16 + requester -/
  pairWr : List (Nat × PairWrite) := []
  /-- R31-R33: commits that wait for their safe point -/
  commits : List Commit := []
  /-- 02: reset and clock machinery -/
  sys : SysInt := {}
  /-- 03: host queues beside their registers -/
  host : HostInt := {}
  /-- 20: event recorder beside its registers -/
  ev : EvInt := {}
  /-- 19: interrupt controller and power beside its registers -/
  irq : IrqInt := {}
  /-- 04: timebase and plant Ethernet beside their registers -/
  time : TimeInt := {}
  /-- 18 R446: one-time programmable memory -/
  otp : OtpInt := {}
  /-- 02 R43: configuration held in MRAM -/
  mram : MramInt := {}
  /-- 05: converter cores beside their registers -/
  adc : AdcInt := {}
  /-- 12: task table and queue memory -/
  sched : SchedInt := {}
  /-- 08: generators and pins beside their registers -/
  pwm : PwmInt := {}
  /-- 06, 07: slots, pipelines, snapshot, injectors beside their registers -/
  loop : LoopInt := {}
  /-- 09: axes and encoders beside their registers -/
  motion : MotionInt := {}
  /-- 10, 11: Hawser ring beside its registers -/
  ring : RingInt := {}
  /-- 13: program tasks, banks, forces, image -/
  prog : ProgInt := {}
  /-- 17: Splice links beside their registers -/
  splice : SpliceInt := {}
  /-- 17: the Lashing beside its registers -/
  lash : LashInt := {}
  /-- 18: SEC beside its registers -/
  sec : SecInt := {}
  /-- 15: CAN controllers beside their registers, by controller -/
  can : List (Nat × CanInt) := []
  /-- 16: the Sluice beside its registers -/
  sto : StoInt := {}
  /-- 14: acquisition engine beside its registers -/
  acq : AcqInt := {}
  /-- 21: touch channels and connectors beside their registers -/
  opio : OpioInt := {}
  /-- the commands that wait, first in, first out -/
  pending : List Instr := []
  deriving DecidableEq, Repr

/-- The device right after a power-on reset has been released (R12, R42, R45 at +0): every register at its reset
value (no word listed), the Sluice self-test running and the internal ADC reference settling. -/
def State.reset : State := {}

end Sys2Proof.Machine
end

