-- ==== Sys2Proof/Machine/Regs.lean ====
section
/-! DEFINITION. Where every register field of the register maps of spec/ lies: one name per field, in the
manual's spelling (register, underscore, field), answering its address and its bits. Written from the
register tables by script; the rule in each docstring is the rule that gives the table. -/

namespace Sys2Proof.Machine.F
open Sys2Proof.Machine

/-- R27: a field of the common registers of the block at base `b`. -/
def BLK_CLKEN (b : Nat) : Fld := ⟨b + 0x004, 0, 0⟩
/-- R27: CMT_PEND of BLK_STAT of the block at base `b`. -/
def BLK_CMT_PEND (b : Nat) : Fld := ⟨b + 0x008, 0, 0⟩
/-- R27: the whole BLK_STICKY of the block at base `b`. -/
def BLK_STICKY (b : Nat) : Fld := ⟨b + 0x00C, 31, 0⟩
/-- R27: PAIR_ORDER of the block at base `b`. -/
def BLK_PAIR_ORDER (b : Nat) : Fld := ⟨b + 0x00C, 2, 2⟩
/-- R27: CMT_LATE of the block at base `b`. -/
def BLK_CMT_LATE (b : Nat) : Fld := ⟨b + 0x00C, 1, 1⟩
/-- R27: CFG_REJECT of the block at base `b`. -/
def BLK_CFG_REJECT (b : Nat) : Fld := ⟨b + 0x00C, 0, 0⟩
/-- R27: BLK_IRQEN of the block at base `b`. -/
def BLK_IRQEN (b : Nat) : Fld := ⟨b + 0x010, 31, 0⟩
/-- R27: BLK_CMT_MASK`n` of the block at base `b`. -/
def BLK_CMT_MASK (b n : Nat) : Fld := ⟨b + 0x020 + 4 * n, 31, 0⟩

/-- R54: [12], W1C. -/
def SYS_BLK_STICKY_ARM_REFUSED : Fld := ⟨0x2000000c, 12, 12⟩
/-- R54: [11], W1C. -/
def SYS_BLK_STICKY_WDOG_WARN : Fld := ⟨0x2000000c, 11, 11⟩
/-- R54: [10], W1C. -/
def SYS_BLK_STICKY_SDS_PCIE_UNLOCK : Fld := ⟨0x2000000c, 10, 10⟩
/-- R54: [9], W1C. -/
def SYS_BLK_STICKY_SDS_H1_UNLOCK : Fld := ⟨0x2000000c, 9, 9⟩
/-- R54: [8], W1C. -/
def SYS_BLK_STICKY_SDS_H10_UNLOCK : Fld := ⟨0x2000000c, 8, 8⟩
/-- R54: [23:16], RO. -/
def SYS_RESET_CAUSE_FIRST : Fld := ⟨0x20000060, 23, 16⟩
/-- R54: [5], W1C. -/
def SYS_RESET_CAUSE_DBG : Fld := ⟨0x20000060, 5, 5⟩
/-- R54: [4], W1C. -/
def SYS_RESET_CAUSE_PLL_LOSS : Fld := ⟨0x20000060, 4, 4⟩
/-- R54: [3], W1C. -/
def SYS_RESET_CAUSE_SWRST : Fld := ⟨0x20000060, 3, 3⟩
/-- R54: [2], W1C. -/
def SYS_RESET_CAUSE_WDOG : Fld := ⟨0x20000060, 2, 2⟩
/-- R54: [1], W1C. -/
def SYS_RESET_CAUSE_PIN : Fld := ⟨0x20000060, 1, 1⟩
/-- R54: [0], W1C. -/
def SYS_RESET_CAUSE_POR : Fld := ⟨0x20000060, 0, 0⟩
/-- R54: [15:8], RO. -/
def SYS_BOOT_STAT_ERR : Fld := ⟨0x20000064, 15, 8⟩
/-- R54: [7:0], RO. -/
def SYS_BOOT_STAT_STAGE : Fld := ⟨0x20000064, 7, 0⟩
/-- R54: [5], RO. -/
def SYS_CLK_STAT_PCIE_REF : Fld := ⟨0x20000068, 5, 5⟩
/-- R54: [4], RO. -/
def SYS_CLK_STAT_SDS_PCIE_LOCK : Fld := ⟨0x20000068, 4, 4⟩
/-- R54: [3], RO. -/
def SYS_CLK_STAT_SDS_H1_LOCK : Fld := ⟨0x20000068, 3, 3⟩
/-- R54: [2], RO. -/
def SYS_CLK_STAT_SDS_H10_LOCK : Fld := ⟨0x20000068, 2, 2⟩
/-- R54: [1], RO. -/
def SYS_CLK_STAT_PLL_LOCK : Fld := ⟨0x20000068, 1, 1⟩
/-- R54: [0], RO. -/
def SYS_CLK_STAT_XTAL_OK : Fld := ⟨0x20000068, 0, 0⟩
/-- R54: [31], W1S. -/
def SYS_WDOG_CTRL_EN : Fld := ⟨0x20000070, 31, 31⟩
/-- R54: [15:0], RW. -/
def SYS_WDOG_CTRL_TIMEOUT : Fld := ⟨0x20000070, 15, 0⟩
/-- R54: [31:0], WO. -/
def SYS_WDOG_KICK_KEY : Fld := ⟨0x20000074, 31, 0⟩
/-- R54: [31:0], WO. -/
def SYS_SWRST_KEY : Fld := ⟨0x20000078, 31, 0⟩
/-- R54: [0], W1S. -/
def SYS_ARM_OUTEN : Fld := ⟨0x2000007c, 0, 0⟩
/-- R54: [1], RO. -/
def SYS_STRAP_BOOT_IF : Fld := ⟨0x20000080, 1, 1⟩
/-- R54: [0], RO. -/
def SYS_STRAP_PCIE_REFSEL : Fld := ⟨0x20000080, 0, 0⟩
/-- R54: [31:0], RO. -/
def SYS_RESET_COUNT_COUNT : Fld := ⟨0x20000084, 31, 0⟩
/-- R61: [31:12], RWL. -/
def Q_SQ_BASE_LO_BASE (i : Nat) : Fld := ⟨0x20111000 + 0x40 * i, 31, 12⟩
/-- R61: [31:0], RWL. -/
def Q_SQ_BASE_HI_BASE (i : Nat) : Fld := ⟨0x20111004 + 0x40 * i, 31, 0⟩
/-- R61: [12:8], RWL. -/
def Q_SIZE_CQ_LOG (i : Nat) : Fld := ⟨0x20111010 + 0x40 * i, 12, 8⟩
/-- R61: [4:0], RWL. -/
def Q_SIZE_SQ_LOG (i : Nat) : Fld := ⟨0x20111010 + 0x40 * i, 4, 0⟩
/-- R61: [31:16], RW. -/
def Q_COAL_TIME (i : Nat) : Fld := ⟨0x20111014 + 0x40 * i, 31, 16⟩
/-- R61: [7:0], RW. -/
def Q_COAL_COUNT (i : Nat) : Fld := ⟨0x20111014 + 0x40 * i, 7, 0⟩
/-- R61: [0], RW. -/
def Q_CTL_EN (i : Nat) : Fld := ⟨0x20111018 + 0x40 * i, 0, 0⟩
/-- R61: [13:0], RW. -/
def Q_SQ_TAIL_TAIL (i : Nat) : Fld := ⟨0x2011101c + 0x40 * i, 13, 0⟩
/-- R61: [14:0], RW. -/
def Q_CQ_HEAD_HEAD (i : Nat) : Fld := ⟨0x20111020 + 0x40 * i, 14, 0⟩
/-- R61: [31:18], RO. -/
def Q_STAT_SQ_HEAD (i : Nat) : Fld := ⟨0x20111024 + 0x40 * i, 31, 18⟩
/-- R61: [17], W1C. -/
def Q_STAT_CFG_REJ (i : Nat) : Fld := ⟨0x20111024 + 0x40 * i, 17, 17⟩
/-- R61: [16:10], RO. -/
def Q_STAT_INFLIGHT (i : Nat) : Fld := ⟨0x20111024 + 0x40 * i, 16, 10⟩
/-- R61: [7:4], RO. -/
def Q_STAT_ERR (i : Nat) : Fld := ⟨0x20111024 + 0x40 * i, 7, 4⟩
/-- R61: [2:0], RO. -/
def Q_STAT_STATE (i : Nat) : Fld := ⟨0x20111024 + 0x40 * i, 2, 0⟩
/-- R61: [31:0], RO. -/
def Q_NR_ERR_COUNT (i : Nat) : Fld := ⟨0x20111028 + 0x40 * i, 31, 0⟩
/-- R61: [20:19], RO. -/
def STAT_BOOT_ROLE : Fld := ⟨0x20112000, 20, 19⟩
/-- R61: [18], RO. -/
def STAT_BOOT_FATAL : Fld := ⟨0x20112000, 18, 18⟩
/-- R61: [17], RO. -/
def STAT_BOOT_READY : Fld := ⟨0x20112000, 17, 17⟩
/-- R61: [15:8], RO. -/
def STAT_BOOT_ERR : Fld := ⟨0x20112000, 15, 8⟩
/-- R61: [7:0], RO. -/
def STAT_BOOT_STAGE : Fld := ⟨0x20112000, 7, 0⟩
/-- R61: [31:0], RO. -/
def STAT_HEARTBEAT_COUNT : Fld := ⟨0x20112008, 31, 0⟩
/-- R61: [31:24], RO. -/
def STAT_FW_VERSION_MAJOR : Fld := ⟨0x2011200c, 31, 24⟩
/-- R61: [23:16], RO. -/
def STAT_FW_VERSION_MINOR : Fld := ⟨0x2011200c, 23, 16⟩
/-- R61: [15:0], RO. -/
def STAT_FW_VERSION_BUILD : Fld := ⟨0x2011200c, 15, 0⟩
/-- R61: [31:0], RO. -/
def STAT_UID_LO_UID : Fld := ⟨0x20112010, 31, 0⟩
/-- R61: [31:0], RO. -/
def STAT_UID_HI_UID : Fld := ⟨0x20112014, 31, 0⟩
/-- R61: [31:0], RO. -/
def STAT_TIME_LO_TIME : Fld := ⟨0x20112018, 31, 0⟩
/-- R61: [31:0], RO. -/
def STAT_TIME_HI_TIME : Fld := ⟨0x2011201c, 31, 0⟩
/-- R113: [13:12], RO. -/
def TIME_BLK_STAT_STATE : Fld := ⟨0x20040008, 13, 12⟩
/-- R113: [10:8], RO. -/
def TIME_BLK_STAT_ACTIVE_SRC : Fld := ⟨0x20040008, 10, 8⟩
/-- R113: [13], W1C. -/
def TIME_BLK_STICKY_CMP_LATE : Fld := ⟨0x2004000c, 13, 13⟩
/-- R113: [12], W1C. -/
def TIME_BLK_STICKY_CAP_OVR : Fld := ⟨0x2004000c, 12, 12⟩
/-- R113: [11], W1C. -/
def TIME_BLK_STICKY_CMP_MISSED : Fld := ⟨0x2004000c, 11, 11⟩
/-- R113: [10], W1C. -/
def TIME_BLK_STICKY_SRC_LOST : Fld := ⟨0x2004000c, 10, 10⟩
/-- R113: [9], W1C. -/
def TIME_BLK_STICKY_LOCK_LOST : Fld := ⟨0x2004000c, 9, 9⟩
/-- R113: [8], W1C. -/
def TIME_BLK_STICKY_STEPPED : Fld := ⟨0x2004000c, 8, 8⟩
/-- R113: [31:0], RO. -/
def TIME_NOW_LO_NS : Fld := ⟨0x20040100, 31, 0⟩
/-- R113: [31:0], RO. -/
def TIME_NOW_HI_NS : Fld := ⟨0x20040104, 31, 0⟩
/-- R113: [31:24], RW. -/
def TIME_SRC_HOLD_LIMIT : Fld := ⟨0x20040108, 31, 24⟩
/-- R113: [10:8], RW. -/
def TIME_SRC_FALLBACK : Fld := ⟨0x20040108, 10, 8⟩
/-- R113: [2:0], RW. -/
def TIME_SRC_SEL : Fld := ⟨0x20040108, 2, 0⟩
/-- R113: [31:16], RW. -/
def TIME_SERVO_STEP_THRESH : Fld := ⟨0x2004010c, 31, 16⟩
/-- R113: [15:8], RW. -/
def TIME_SERVO_LOCK_THRESH : Fld := ⟨0x2004010c, 15, 8⟩
/-- R113: [7:4], RW. -/
def TIME_SERVO_KI_SHIFT : Fld := ⟨0x2004010c, 7, 4⟩
/-- R113: [3:0], RW. -/
def TIME_SERVO_KP_SHIFT : Fld := ⟨0x2004010c, 3, 0⟩
/-- R113: [31:0], RW. -/
def TIME_RATE_RATE : Fld := ⟨0x20040110, 31, 0⟩
/-- R113: [31:0], RO. -/
def TIME_OFFSET_OFFSET : Fld := ⟨0x20040114, 31, 0⟩
/-- R113: [31:0], WO. -/
def TIME_EXT_OFFSET_OFFSET : Fld := ⟨0x20040118, 31, 0⟩
/-- R113: [31:0], WO. -/
def TIME_STEP_LO_STEP : Fld := ⟨0x20040120, 31, 0⟩
/-- R113: [31:0], WO. -/
def TIME_STEP_HI_STEP : Fld := ⟨0x20040124, 31, 0⟩
/-- R113: [0], RW. -/
def TIME_RING_PORT_PREF : Fld := ⟨0x20040128, 0, 0⟩
/-- R113: [23:0], RO. -/
def TIME_LINK_HA_LINK_DELAY : Fld := ⟨0x20040130, 23, 0⟩
/-- R113: [23:0], RO. -/
def TIME_LINK_HB_LINK_DELAY : Fld := ⟨0x20040134, 23, 0⟩
/-- R113: [31:0], RW. -/
def TIME_ASYM_HA_ASYM : Fld := ⟨0x20040138, 31, 0⟩
/-- R113: [31:0], RW. -/
def TIME_ASYM_HB_ASYM : Fld := ⟨0x2004013c, 31, 0⟩
/-- R113: [1], RWL. -/
def CMP_CTRL_PERIODIC (i : Nat) : Fld := ⟨0x20040400 + 0x20 * i, 1, 1⟩
/-- R113: [0], RW. -/
def CMP_CTRL_EN (i : Nat) : Fld := ⟨0x20040400 + 0x20 * i, 0, 0⟩
/-- R113: [31:0], RWL. -/
def CMP_TIME_LO_NS (i : Nat) : Fld := ⟨0x20040404 + 0x20 * i, 31, 0⟩
/-- R113: [31:0], RWL. -/
def CMP_TIME_HI_NS (i : Nat) : Fld := ⟨0x20040408 + 0x20 * i, 31, 0⟩
/-- R113: [31:0], RWL. -/
def CMP_PERIOD_NS (i : Nat) : Fld := ⟨0x2004040c + 0x20 * i, 31, 0⟩
/-- R113: [31:24], RW. -/
def CMP_ROUTE_SCHED (i : Nat) : Fld := ⟨0x20040410 + 0x20 * i, 31, 24⟩
/-- R113: [23:8], RW. -/
def CMP_ROUTE_TG (i : Nat) : Fld := ⟨0x20040410 + 0x20 * i, 23, 8⟩
/-- R113: [7:0], RW. -/
def CMP_ROUTE_ADC (i : Nat) : Fld := ⟨0x20040410 + 0x20 * i, 7, 0⟩
/-- R113: [23], RW. -/
def CMP_AUX_ACQ (i : Nat) : Fld := ⟨0x20040414 + 0x20 * i, 23, 23⟩
/-- R113: [22], RW. -/
def CMP_AUX_GPIO_EN (i : Nat) : Fld := ⟨0x20040414 + 0x20 * i, 22, 22⟩
/-- R113: [21:16], RW. -/
def CMP_AUX_PIN (i : Nat) : Fld := ⟨0x20040414 + 0x20 * i, 21, 16⟩
/-- R113: [15:0], RW. -/
def CMP_AUX_WIDTH (i : Nat) : Fld := ⟨0x20040414 + 0x20 * i, 15, 0⟩
/-- R113: [31:16], RO. -/
def CMP_STAT_MISSED (i : Nat) : Fld := ⟨0x20040418 + 0x20 * i, 31, 16⟩
/-- R113: [0], RO. -/
def CMP_STAT_LATE (i : Nat) : Fld := ⟨0x20040418 + 0x20 * i, 0, 0⟩
/-- R113: [31:24], RWL. -/
def CAP_CTRL_FILTER (i : Nat) : Fld := ⟨0x20040900 + 0x10 * i, 31, 24⟩
/-- R113: [23:16], RW. -/
def CAP_CTRL_ADC (i : Nat) : Fld := ⟨0x20040900 + 0x10 * i, 23, 16⟩
/-- R113: [9], RW. -/
def CAP_CTRL_ACQ (i : Nat) : Fld := ⟨0x20040900 + 0x10 * i, 9, 9⟩
/-- R113: [2:1], RWL. -/
def CAP_CTRL_EDGE (i : Nat) : Fld := ⟨0x20040900 + 0x10 * i, 2, 1⟩
/-- R113: [0], RW. -/
def CAP_CTRL_EN (i : Nat) : Fld := ⟨0x20040900 + 0x10 * i, 0, 0⟩
/-- R113: [31:0], RO. -/
def CAP_TS_LO_NS (i : Nat) : Fld := ⟨0x20040904 + 0x10 * i, 31, 0⟩
/-- R113: [31:0], RO. -/
def CAP_TS_HI_NS (i : Nat) : Fld := ⟨0x20040908 + 0x10 * i, 31, 0⟩
/-- R113: [31:16], RO. -/
def CAP_STAT_OVR_COUNT (i : Nat) : Fld := ⟨0x2004090c + 0x10 * i, 31, 16⟩
/-- R113: [8], W1C. -/
def CAP_STAT_OVR (i : Nat) : Fld := ⟨0x2004090c + 0x10 * i, 8, 8⟩
/-- R113: [7], RO. -/
def CAP_STAT_HEAD_RISE (i : Nat) : Fld := ⟨0x2004090c + 0x10 * i, 7, 7⟩
/-- R113: [2:0], RO. -/
def CAP_STAT_LEVEL (i : Nat) : Fld := ⟨0x2004090c + 0x10 * i, 2, 0⟩
/-- R114: [11], W1C. -/
def ETH_BLK_STICKY_RX_OVF1 : Fld := ⟨0x200b000c, 11, 11⟩
/-- R114: [10], W1C. -/
def ETH_BLK_STICKY_RX_OVF0 : Fld := ⟨0x200b000c, 10, 10⟩
/-- R114: [9], W1C. -/
def ETH_BLK_STICKY_TSQ_OVF1 : Fld := ⟨0x200b000c, 9, 9⟩
/-- R114: [8], W1C. -/
def ETH_BLK_STICKY_TSQ_OVF0 : Fld := ⟨0x200b000c, 8, 8⟩
/-- R114: [7], RWL. -/
def ETH_CTRL_RXDLY (i : Nat) : Fld := ⟨0x200b0100 + 0x80 * i, 7, 7⟩
/-- R114: [6], RWL. -/
def ETH_CTRL_TXDLY (i : Nat) : Fld := ⟨0x200b0100 + 0x80 * i, 6, 6⟩
/-- R114: [5], RWL. -/
def ETH_CTRL_RX_TS_EN (i : Nat) : Fld := ⟨0x200b0100 + 0x80 * i, 5, 5⟩
/-- R114: [4], RWL. -/
def ETH_CTRL_PROMISC (i : Nat) : Fld := ⟨0x200b0100 + 0x80 * i, 4, 4⟩
/-- R114: [3], RWL. -/
def ETH_CTRL_FULL_DUP (i : Nat) : Fld := ⟨0x200b0100 + 0x80 * i, 3, 3⟩
/-- R114: [2:1], RWL. -/
def ETH_CTRL_SPEED (i : Nat) : Fld := ⟨0x200b0100 + 0x80 * i, 2, 1⟩
/-- R114: [0], RW. -/
def ETH_CTRL_EN (i : Nat) : Fld := ⟨0x200b0100 + 0x80 * i, 0, 0⟩
/-- R114: [31], W1S. -/
def ETH_MDIO_GO (i : Nat) : Fld := ⟨0x200b0104 + 0x80 * i, 31, 31⟩
/-- R114: [30], RW. -/
def ETH_MDIO_READ (i : Nat) : Fld := ⟨0x200b0104 + 0x80 * i, 30, 30⟩
/-- R114: [29:25], RW. -/
def ETH_MDIO_PHYAD (i : Nat) : Fld := ⟨0x200b0104 + 0x80 * i, 29, 25⟩
/-- R114: [24:20], RW. -/
def ETH_MDIO_REGAD (i : Nat) : Fld := ⟨0x200b0104 + 0x80 * i, 24, 20⟩
/-- R114: [15:0], RW. -/
def ETH_MDIO_DATA (i : Nat) : Fld := ⟨0x200b0104 + 0x80 * i, 15, 0⟩
/-- R114: [31:0], RWL. -/
def ETH_ADDR0_MAC (i : Nat) : Fld := ⟨0x200b0108 + 0x80 * i, 31, 0⟩
/-- R114: [31:0], RWL. -/
def ETH_ADDR1_MAC (i : Nat) : Fld := ⟨0x200b010c + 0x80 * i, 31, 0⟩
/-- R114: [31:0], RWL. -/
def ETH_TX_BASE_BASE (i : Nat) : Fld := ⟨0x200b0110 + 0x80 * i, 31, 0⟩
/-- R114: [31:0], RWL. -/
def ETH_RX_BASE_BASE (i : Nat) : Fld := ⟨0x200b0114 + 0x80 * i, 31, 0⟩
/-- R114: [15:8], RWL. -/
def ETH_RING_SIZE_RX_LOG (i : Nat) : Fld := ⟨0x200b0118 + 0x80 * i, 15, 8⟩
/-- R114: [7:0], RWL. -/
def ETH_RING_SIZE_TX_LOG (i : Nat) : Fld := ⟨0x200b0118 + 0x80 * i, 7, 0⟩
/-- R114: [25:16], RO. -/
def ETH_TX_IDX_HEAD (i : Nat) : Fld := ⟨0x200b011c + 0x80 * i, 25, 16⟩
/-- R114: [9:0], RW. -/
def ETH_TX_IDX_TAIL (i : Nat) : Fld := ⟨0x200b011c + 0x80 * i, 9, 0⟩
/-- R114: [25:16], RO. -/
def ETH_RX_IDX_HEAD (i : Nat) : Fld := ⟨0x200b0120 + 0x80 * i, 25, 16⟩
/-- R114: [9:0], RW. -/
def ETH_RX_IDX_TAIL (i : Nat) : Fld := ⟨0x200b0120 + 0x80 * i, 9, 0⟩
/-- R114: [31:16], RW. -/
def ETH_LAT_RX_LAT (i : Nat) : Fld := ⟨0x200b0124 + 0x80 * i, 31, 16⟩
/-- R114: [15:0], RW. -/
def ETH_LAT_TX_LAT (i : Nat) : Fld := ⟨0x200b0124 + 0x80 * i, 15, 0⟩
/-- R114: [31:0], RW. -/
def ETH_ASYM_ASYM (i : Nat) : Fld := ⟨0x200b0128 + 0x80 * i, 31, 0⟩
/-- R114: [31:16], RO. -/
def ETH_TSQ_STAT_OVF_COUNT (i : Nat) : Fld := ⟨0x200b012c + 0x80 * i, 31, 16⟩
/-- R114: [4:0], RO. -/
def ETH_TSQ_STAT_LEVEL (i : Nat) : Fld := ⟨0x200b012c + 0x80 * i, 4, 0⟩
/-- R114: [31:0], RO. -/
def ETH_TSQ_TS_LO_NS (i : Nat) : Fld := ⟨0x200b0130 + 0x80 * i, 31, 0⟩
/-- R114: [31:0], RO. -/
def ETH_TSQ_TS_HI_NS (i : Nat) : Fld := ⟨0x200b0134 + 0x80 * i, 31, 0⟩
/-- R114: [16], RO. -/
def ETH_TSQ_TAG_VALID (i : Nat) : Fld := ⟨0x200b0138 + 0x80 * i, 16, 16⟩
/-- R114: [15:0], RO. -/
def ETH_TSQ_TAG_TAG (i : Nat) : Fld := ⟨0x200b0138 + 0x80 * i, 15, 0⟩
/-- R134: [31:24], RO. -/
def ADC_BLK_STAT_CAL_BUSY : Fld := ⟨0x20050008, 31, 24⟩
/-- R134: [23:16], RO. -/
def ADC_BLK_STAT_CAL_VALID : Fld := ⟨0x20050008, 23, 16⟩
/-- R134: [8], RO. -/
def ADC_BLK_STAT_REF_SETTLED : Fld := ⟨0x20050008, 8, 8⟩
/-- R134: [31:24], W1C. -/
def ADC_BLK_STICKY_FIFO_WM : Fld := ⟨0x2005000c, 31, 24⟩
/-- R134: [23:16], W1C. -/
def ADC_BLK_STICKY_FIFO_OVF : Fld := ⟨0x2005000c, 23, 16⟩
/-- R134: [15:8], W1C. -/
def ADC_BLK_STICKY_TRIG_LOST : Fld := ⟨0x2005000c, 15, 8⟩
/-- R134: [1:0], RW. -/
def ADC_REF_SEL : Fld := ⟨0x20050060, 1, 0⟩
/-- R134: [7:0], WO. -/
def ADC_SWTRIG_TRIG : Fld := ⟨0x20050064, 7, 0⟩
/-- R134: [4:0], STG. -/
def ADC_SEQ_CFG_LEN (i : Nat) : Fld := ⟨0x20050100 + 0x80 * i, 4, 0⟩
/-- R134: [19:18], STG. -/
def ADC_SEQ_WIN_SEL (i j : Nat) : Fld := ⟨0x20050104 + 0x80 * i + 0x4 * j, 19, 18⟩
/-- R134: [17], STG. -/
def ADC_SEQ_WIN_EN (i j : Nat) : Fld := ⟨0x20050104 + 0x80 * i + 0x4 * j, 17, 17⟩
/-- R134: [16], STG. -/
def ADC_SEQ_FIFO (i j : Nat) : Fld := ⟨0x20050104 + 0x80 * i + 0x4 * j, 16, 16⟩
/-- R134: [15:8], STG. -/
def ADC_SEQ_ACQ_EXT (i j : Nat) : Fld := ⟨0x20050104 + 0x80 * i + 0x4 * j, 15, 8⟩
/-- R134: [5:0], STG. -/
def ADC_SEQ_CHAN (i j : Nat) : Fld := ⟨0x20050104 + 0x80 * i + 0x4 * j, 5, 0⟩
/-- R134: [29:24], RWL. -/
def ADC_CTRL_PWM_SEL (i : Nat) : Fld := ⟨0x20051000 + 0x100 * i, 29, 24⟩
/-- R134: [20:16], RWL. -/
def ADC_CTRL_TRIG_EN (i : Nat) : Fld := ⟨0x20051000 + 0x100 * i, 20, 16⟩
/-- R134: [1], W1S. -/
def ADC_CTRL_CAL_GO (i : Nat) : Fld := ⟨0x20051000 + 0x100 * i, 1, 1⟩
/-- R134: [0], RW. -/
def ADC_CTRL_ARM (i : Nat) : Fld := ⟨0x20051000 + 0x100 * i, 0, 0⟩
/-- R134: [31:16], RO. -/
def ADC_STAT_LOST_COUNT (i : Nat) : Fld := ⟨0x20051004 + 0x100 * i, 31, 16⟩
/-- R134: [15:8], RO. -/
def ADC_STAT_FIFO_OVF_COUNT (i : Nat) : Fld := ⟨0x20051004 + 0x100 * i, 15, 8⟩
/-- R134: [7:4], W1C. -/
def ADC_STAT_WIN_HIT (i : Nat) : Fld := ⟨0x20051004 + 0x100 * i, 7, 4⟩
/-- R134: [0], RO. -/
def ADC_STAT_BUSY (i : Nat) : Fld := ⟨0x20051004 + 0x100 * i, 0, 0⟩
/-- R134: [31:0], RO. -/
def ADC_FIFO_RESULT (i : Nat) : Fld := ⟨0x20051008 + 0x100 * i, 31, 0⟩
/-- R134: [31:0], RO. -/
def ADC_FIFO_TS_LO_NS (i : Nat) : Fld := ⟨0x2005100c + 0x100 * i, 31, 0⟩
/-- R134: [31:0], RO. -/
def ADC_FIFO_TS_HI_NS (i : Nat) : Fld := ⟨0x20051010 + 0x100 * i, 31, 0⟩
/-- R134: [22:16], RW. -/
def ADC_FIFO_LVL_WM (i : Nat) : Fld := ⟨0x20051014 + 0x100 * i, 22, 16⟩
/-- R134: [6:0], RO. -/
def ADC_FIFO_LVL_LEVEL (i : Nat) : Fld := ⟨0x20051014 + 0x100 * i, 6, 0⟩
/-- R134: [31:0], RO. -/
def ADC_PASSTS_LO_NS (i : Nat) : Fld := ⟨0x20051018 + 0x100 * i, 31, 0⟩
/-- R134: [31:0], RO. -/
def ADC_PASSTS_HI_NS (i : Nat) : Fld := ⟨0x2005101c + 0x100 * i, 31, 0⟩
/-- R134: [31:0], RO. -/
def ADC_OFFS_OFFS (i : Nat) : Fld := ⟨0x20051020 + 0x100 * i, 31, 0⟩
/-- R134: [31:0], RO. -/
def ADC_GAIN_GAIN (i : Nat) : Fld := ⟨0x20051024 + 0x100 * i, 31, 0⟩
/-- R134: [15:0], RO. -/
def ADC_LIN_LIN (i j : Nat) : Fld := ⟨0x20051040 + 0x100 * i + 0x4 * j, 15, 0⟩
/-- R134: [31:0], RO. -/
def ADC_RES_RESULT (i j : Nat) : Fld := ⟨0x20051080 + 0x100 * i + 0x4 * j, 31, 0⟩
/-- R134: [31:16], RW. -/
def ADC_WIN_LIM_HIGH (i j : Nat) : Fld := ⟨0x200510c0 + 0x100 * i + 0x8 * j, 31, 16⟩
/-- R134: [15:0], RW. -/
def ADC_WIN_LIM_LOW (i j : Nat) : Fld := ⟨0x200510c0 + 0x100 * i + 0x8 * j, 15, 0⟩
/-- R134: [31], RO. -/
def ADC_WIN_CTRL_LINE (i j : Nat) : Fld := ⟨0x200510c4 + 0x100 * i + 0x8 * j, 31, 31⟩
/-- R134: [11:8], RW. -/
def ADC_WIN_CTRL_COUNT (i j : Nat) : Fld := ⟨0x200510c4 + 0x100 * i + 0x8 * j, 11, 8⟩
/-- R134: [3], RW. -/
def ADC_WIN_CTRL_SIGNED (i j : Nat) : Fld := ⟨0x200510c4 + 0x100 * i + 0x8 * j, 3, 3⟩
/-- R134: [2], RW. -/
def ADC_WIN_CTRL_TRIP_EN (i j : Nat) : Fld := ⟨0x200510c4 + 0x100 * i + 0x8 * j, 2, 2⟩
/-- R134: [1], RW. -/
def ADC_WIN_CTRL_INSIDE (i j : Nat) : Fld := ⟨0x200510c4 + 0x100 * i + 0x8 * j, 1, 1⟩
/-- R134: [0], RW. -/
def ADC_WIN_CTRL_EN (i j : Nat) : Fld := ⟨0x200510c4 + 0x100 * i + 0x8 * j, 0, 0⟩
/-- R164: [31:0], RWL. -/
def SLOT_CFG0 (i : Nat) : Fld := ⟨0x21000000 + 0x100 * i, 31, 0⟩
/-- R164: [31:0], RWL. -/
def SLOT_FB_SEL (i : Nat) : Fld := ⟨0x21000004 + 0x100 * i, 31, 0⟩
/-- R164: [31:0], RWL. -/
def SLOT_SP_SEL (i : Nat) : Fld := ⟨0x21000008 + 0x100 * i, 31, 0⟩
/-- R164: [31:0], RWL. -/
def SLOT_TGT_SEL (i : Nat) : Fld := ⟨0x2100000c + 0x100 * i, 31, 0⟩
/-- R164: [31:0], RWL. -/
def SLOT_IN_GAIN (i : Nat) : Fld := ⟨0x21000010 + 0x100 * i, 31, 0⟩
/-- R164: [31:0], RWL. -/
def SLOT_IN_OFFS (i : Nat) : Fld := ⟨0x21000014 + 0x100 * i, 31, 0⟩
/-- R164: [31:0], RWL. -/
def SLOT_SP_GAIN (i : Nat) : Fld := ⟨0x21000018 + 0x100 * i, 31, 0⟩
/-- R164: [31:0], RWL. -/
def SLOT_SP_OFFS (i : Nat) : Fld := ⟨0x2100001c + 0x100 * i, 31, 0⟩
/-- R164: [31:0], RWL. -/
def SLOT_SP_RATE (i : Nat) : Fld := ⟨0x21000020 + 0x100 * i, 31, 0⟩
/-- R164: [31:0], RWL. -/
def SLOT_OUT_GAIN (i : Nat) : Fld := ⟨0x21000024 + 0x100 * i, 31, 0⟩
/-- R164: [31:0], RWL. -/
def SLOT_OUT_OFFS (i : Nat) : Fld := ⟨0x21000028 + 0x100 * i, 31, 0⟩
/-- R164: [31:0], RWL. -/
def SLOT_ON_LEVEL (i : Nat) : Fld := ⟨0x2100002c + 0x100 * i, 31, 0⟩
/-- R164: [31:0], RWL. -/
def SLOT_OFF_LEVEL (i : Nat) : Fld := ⟨0x21000030 + 0x100 * i, 31, 0⟩
/-- R164: [31:0], RWL. -/
def SLOT_MODEL (i : Nat) : Fld := ⟨0x21000034 + 0x100 * i, 31, 0⟩
/-- R164: [31:0], RWL. -/
def SLOT_TICK (i : Nat) : Fld := ⟨0x21000038 + 0x100 * i, 31, 0⟩
/-- R164: [31:0], RWL. -/
def SLOT_B (i j : Nat) : Fld := ⟨0x21000040 + 0x100 * i + 0x4 * j, 31, 0⟩
/-- R164: [31:0], RWL. -/
def SLOT_A (i j : Nat) : Fld := ⟨0x21000050 + 0x100 * i + 0x4 * j, 31, 0⟩
/-- R164: [31:0], RWL. -/
def SLOT_COEF_CRC (i : Nat) : Fld := ⟨0x2100005c + 0x100 * i, 31, 0⟩
/-- R164: [31:0], RWL. -/
def SLOT_S (i j : Nat) : Fld := ⟨0x21000060 + 0x100 * i + 0x4 * j, 31, 0⟩
/-- R164: [31:0], RO. -/
def SLOT_UC (i : Nat) : Fld := ⟨0x21000078 + 0x100 * i, 31, 0⟩
/-- R164: [31:0], RO. -/
def SLOT_UOUT (i : Nat) : Fld := ⟨0x2100007c + 0x100 * i, 31, 0⟩
/-- R164: [31:0], RW. -/
def SLOT_SP_REG (i : Nat) : Fld := ⟨0x21000080 + 0x100 * i, 31, 0⟩
/-- R164: [31:0], RW. -/
def SLOT_RAMP_RATE (i : Nat) : Fld := ⟨0x21000084 + 0x100 * i, 31, 0⟩
/-- R164: [31:0], RO. -/
def SLOT_SP_CUR (i : Nat) : Fld := ⟨0x21000088 + 0x100 * i, 31, 0⟩
/-- R164: [31:0], RO. -/
def SLOT_FB_CUR (i : Nat) : Fld := ⟨0x2100008c + 0x100 * i, 31, 0⟩
/-- R164: [31:0], RO. -/
def SLOT_E_CUR (i : Nat) : Fld := ⟨0x21000090 + 0x100 * i, 31, 0⟩
/-- R164: [31:0], RWL. -/
def SLOT_MANUAL (i : Nat) : Fld := ⟨0x21000094 + 0x100 * i, 31, 0⟩
/-- R164: [31:0], RO. -/
def SLOT_LAST_TS_LO (i : Nat) : Fld := ⟨0x21000098 + 0x100 * i, 31, 0⟩
/-- R164: [31:0], RO. -/
def SLOT_LAST_TS_HI (i : Nat) : Fld := ⟨0x2100009c + 0x100 * i, 31, 0⟩
/-- R166: [21:16], RO. -/
def LOOP_BLK_STAT_MODELS_BOUND : Fld := ⟨0x20070008, 21, 16⟩
/-- R166: [8], W1C. -/
def LOOP_BLK_STICKY_SLOT_FLAG : Fld := ⟨0x2007000c, 8, 8⟩
/-- R166: [31:0], RO. -/
def LOOP_SUM_ANY (i : Nat) : Fld := ⟨0x20070100 + 0x4 * i, 31, 0⟩
/-- R166: [31:28], WO. -/
def LOOP_SLOT_CTRL_REQ (i : Nat) : Fld := ⟨0x20071000 + 0x8 * i, 31, 28⟩
/-- R166: [31:16], RO. -/
def LOOP_SLOT_STAT_LATE_COUNT (i : Nat) : Fld := ⟨0x20071004 + 0x8 * i, 31, 16⟩
/-- R166: [6:4], RO. -/
def LOOP_SLOT_STAT_PEND (i : Nat) : Fld := ⟨0x20071004 + 0x8 * i, 6, 4⟩
/-- R166: [2:0], RO. -/
def LOOP_SLOT_STAT_STATE (i : Nat) : Fld := ⟨0x20071004 + 0x8 * i, 2, 0⟩
/-- R166: [31:16], W1C. -/
def LOOP_STICKY_SUPV (i : Nat) : Fld := ⟨0x20072000 + 0x4 * i, 31, 16⟩
/-- R166: [7], W1C. -/
def LOOP_STICKY_REQ_REFUSED (i : Nat) : Fld := ⟨0x20072000 + 0x4 * i, 7, 7⟩
/-- R166: [6], W1C. -/
def LOOP_STICKY_TGT_TRIP (i : Nat) : Fld := ⟨0x20072000 + 0x4 * i, 6, 6⟩
/-- R166: [5], W1C. -/
def LOOP_STICKY_LATE_SAMPLE (i : Nat) : Fld := ⟨0x20072000 + 0x4 * i, 5, 5⟩
/-- R166: [4], W1C. -/
def LOOP_STICKY_SAT_RATE (i : Nat) : Fld := ⟨0x20072000 + 0x4 * i, 4, 4⟩
/-- R166: [3], W1C. -/
def LOOP_STICKY_SAT_OUT (i : Nat) : Fld := ⟨0x20072000 + 0x4 * i, 3, 3⟩
/-- R166: [2], W1C. -/
def LOOP_STICKY_SAT_STATE (i : Nat) : Fld := ⟨0x20072000 + 0x4 * i, 2, 2⟩
/-- R166: [1], W1C. -/
def LOOP_STICKY_SAT_ACC (i : Nat) : Fld := ⟨0x20072000 + 0x4 * i, 1, 1⟩
/-- R166: [31:0], STG. -/
def LOOP_OUT_MIN (n : Nat) : Fld := ⟨0x20074000 + 0x1000 * (n / 128) + 0x10 * (n % 128), 31, 0⟩
/-- R166: [31:0], STG. -/
def LOOP_OUT_MAX (n : Nat) : Fld := ⟨0x20074004 + 0x1000 * (n / 128) + 0x10 * (n % 128), 31, 0⟩
/-- R166: [31:0], STG. -/
def LOOP_RATE_MAX (n : Nat) : Fld := ⟨0x20074008 + 0x1000 * (n / 128) + 0x10 * (n % 128), 31, 0⟩
/-- R166: [31:0], STG. -/
def LOOP_SAFE_VAL (n : Nat) : Fld := ⟨0x2007400c + 0x1000 * (n / 128) + 0x10 * (n % 128), 31, 0⟩
/-- R189: [31:0], RWL. -/
def SLOT_SUPV_CFG (i : Nat) : Fld := ⟨0x210000a0 + 0x100 * i, 31, 0⟩
/-- R189: [31:16], RWL. -/
def SLOT_HOLD_N (i : Nat) : Fld := ⟨0x210000a4 + 0x100 * i, 31, 16⟩
/-- R189: [15:8], RWL. -/
def SLOT_RIDE_N (i : Nat) : Fld := ⟨0x210000a4 + 0x100 * i, 15, 8⟩
/-- R189: [3:0], RWL. -/
def SLOT_DET_N (i : Nat) : Fld := ⟨0x210000a4 + 0x100 * i, 3, 0⟩
/-- R189: [15:0], RWL. -/
def SLOT_FB_TMO (i : Nat) : Fld := ⟨0x210000a8 + 0x100 * i, 15, 0⟩
/-- R189: [15:0], RWL. -/
def SLOT_FRZ_N (i : Nat) : Fld := ⟨0x210000ac + 0x100 * i, 15, 0⟩
/-- R189: [31:0], RWL. -/
def SLOT_FRZ_DB (i : Nat) : Fld := ⟨0x210000b0 + 0x100 * i, 31, 0⟩
/-- R189: [31:0], RWL. -/
def SLOT_FRZ_DU (i : Nat) : Fld := ⟨0x210000b4 + 0x100 * i, 31, 0⟩
/-- R189: [31:0], RWL. -/
def SLOT_RNG_LO (i : Nat) : Fld := ⟨0x210000b8 + 0x100 * i, 31, 0⟩
/-- R189: [31:0], RWL. -/
def SLOT_RNG_HI (i : Nat) : Fld := ⟨0x210000bc + 0x100 * i, 31, 0⟩
/-- R189: [31:0], RWL. -/
def SLOT_RATE_LIM (i : Nat) : Fld := ⟨0x210000c0 + 0x100 * i, 31, 0⟩
/-- R189: [31:0], RWL. -/
def SLOT_SAFE_RAMP (i : Nat) : Fld := ⟨0x210000c4 + 0x100 * i, 31, 0⟩
/-- R189: [31:24], RO. -/
def SLOT_MISS_CNT (i : Nat) : Fld := ⟨0x210000c8 + 0x100 * i, 31, 24⟩
/-- R189: [23:16], RO. -/
def SLOT_FRESH_CNT (i : Nat) : Fld := ⟨0x210000c8 + 0x100 * i, 23, 16⟩
/-- R189: [15:8], RO. -/
def SLOT_RIDE_LEFT (i : Nat) : Fld := ⟨0x210000c8 + 0x100 * i, 15, 8⟩
/-- R189: [7:4], RO. -/
def SLOT_RNG_CNT (i : Nat) : Fld := ⟨0x210000c8 + 0x100 * i, 7, 4⟩
/-- R189: [3:0], RO. -/
def SLOT_RATE_CNT (i : Nat) : Fld := ⟨0x210000c8 + 0x100 * i, 3, 0⟩
/-- R189: [31:16], RO. -/
def SLOT_HOLD_LEFT (i : Nat) : Fld := ⟨0x210000cc + 0x100 * i, 31, 16⟩
/-- R189: [15:0], RO. -/
def SLOT_FRZ_CNT (i : Nat) : Fld := ⟨0x210000cc + 0x100 * i, 15, 0⟩
/-- R189: [31:0], RO. -/
def SLOT_FRZ_REF (i : Nat) : Fld := ⟨0x210000d0 + 0x100 * i, 31, 0⟩
/-- R189: [31:0], RO. -/
def SLOT_FRZ_UREF (i : Nat) : Fld := ⟨0x210000d4 + 0x100 * i, 31, 0⟩
/-- R189: [31:0], RO. -/
def SLOT_FB_LAST (i : Nat) : Fld := ⟨0x210000d8 + 0x100 * i, 31, 0⟩
/-- R189: [31:0], RO. -/
def SLOT_INJ_VAL (i : Nat) : Fld := ⟨0x210000dc + 0x100 * i, 31, 0⟩
/-- R191: [24:16], RWL. -/
def INJ_SLOT (i : Nat) : Fld := ⟨0x20078000 + 0x40 * i, 24, 16⟩
/-- R191: [9:8], RWL. -/
def INJ_MODE (i : Nat) : Fld := ⟨0x20078000 + 0x40 * i, 9, 8⟩
/-- R191: [5:4], RWL. -/
def INJ_MEAS (i : Nat) : Fld := ⟨0x20078000 + 0x40 * i, 5, 4⟩
/-- R191: [1], RWL. -/
def INJ_AT (i : Nat) : Fld := ⟨0x20078000 + 0x40 * i, 1, 1⟩
/-- R191: [0], W1S. -/
def INJ_GO (i : Nat) : Fld := ⟨0x20078000 + 0x40 * i, 0, 0⟩
/-- R191: [31:0], RWL. -/
def INJ_AMP (i : Nat) : Fld := ⟨0x20078004 + 0x40 * i, 31, 0⟩
/-- R191: [31:0], RWL. -/
def INJ_INC (i : Nat) : Fld := ⟨0x20078008 + 0x40 * i, 31, 0⟩
/-- R191: [31:16], RWL. -/
def INJ_COUNT (i : Nat) : Fld := ⟨0x2007800c + 0x40 * i, 31, 16⟩
/-- R191: [15:8], RWL. -/
def INJ_SETTLE (i : Nat) : Fld := ⟨0x2007800c + 0x40 * i, 15, 8⟩
/-- R191: [31:0], RO. -/
def INJ_PHASE (i : Nat) : Fld := ⟨0x20078010 + 0x40 * i, 31, 0⟩
/-- R191: [31:0], RO. -/
def INJ_SUM_S_LO (i : Nat) : Fld := ⟨0x20078018 + 0x40 * i, 31, 0⟩
/-- R191: [31:0], RO. -/
def INJ_SUM_S_HI (i : Nat) : Fld := ⟨0x2007801c + 0x40 * i, 31, 0⟩
/-- R191: [31:0], RO. -/
def INJ_SUM_C_LO (i : Nat) : Fld := ⟨0x20078020 + 0x40 * i, 31, 0⟩
/-- R191: [31:0], RO. -/
def INJ_SUM_C_HI (i : Nat) : Fld := ⟨0x20078024 + 0x40 * i, 31, 0⟩
/-- R191: [31:0], RO. -/
def INJ_DONE_CNT (i : Nat) : Fld := ⟨0x20078028 + 0x40 * i, 31, 0⟩
/-- R191: [15:12], RO. -/
def INJ_CAUSE (i : Nat) : Fld := ⟨0x2007802c + 0x40 * i, 15, 12⟩
/-- R191: [10], RO. -/
def INJ_ABORT (i : Nat) : Fld := ⟨0x2007802c + 0x40 * i, 10, 10⟩
/-- R191: [9], RO. -/
def INJ_SAT (i : Nat) : Fld := ⟨0x2007802c + 0x40 * i, 9, 9⟩
/-- R191: [8], RO. -/
def INJ_BUSY (i : Nat) : Fld := ⟨0x2007802c + 0x40 * i, 8, 8⟩
/-- R191: [31:0], RO. -/
def INJ_FIRST_TS_LO (i : Nat) : Fld := ⟨0x20078030 + 0x40 * i, 31, 0⟩
/-- R191: [31:0], RO. -/
def INJ_FIRST_TS_HI (i : Nat) : Fld := ⟨0x20078034 + 0x40 * i, 31, 0⟩
/-- R213: [8], RO. -/
def PWM_BLK_STAT_SLUICE_ARMED : Fld := ⟨0x20060008, 8, 8⟩
/-- R213: [12], W1C. -/
def PWM_BLK_STICKY_LEAD_RANGE : Fld := ⟨0x2006000c, 12, 12⟩
/-- R213: [11], W1C. -/
def PWM_BLK_STICKY_SYNC_SLIP : Fld := ⟨0x2006000c, 11, 11⟩
/-- R213: [10], W1C. -/
def PWM_BLK_STICKY_TRIPPED : Fld := ⟨0x2006000c, 10, 10⟩
/-- R213: [9], W1C. -/
def PWM_BLK_STICKY_TRIP_CLR_REFUSED : Fld := ⟨0x2006000c, 9, 9⟩
/-- R213: [8], W1C. -/
def PWM_BLK_STICKY_SHADOW_STALE : Fld := ⟨0x2006000c, 8, 8⟩
/-- R213: [31:0], WO. -/
def PWM_START0_START : Fld := ⟨0x20060060, 31, 0⟩
/-- R213: [31:0], WO. -/
def PWM_START1_START : Fld := ⟨0x20060064, 31, 0⟩
/-- R213: [8], RWL. -/
def PWM_TRIPPIN_POL (i : Nat) : Fld := ⟨0x20060080 + 0x4 * i, 8, 8⟩
/-- R213: [7:0], RWL. -/
def PWM_TRIPPIN_FILTER (i : Nat) : Fld := ⟨0x20060080 + 0x4 * i, 7, 0⟩
/-- R213: [31:24], RO. -/
def PWM_TRIP_STAT_SVTRIP : Fld := ⟨0x200600c0, 31, 24⟩
/-- R213: [15:0], RO. -/
def PWM_TRIP_STAT_PIN : Fld := ⟨0x200600c0, 15, 0⟩
/-- R213: [31:0], RO. -/
def PWM_WTRIP_STAT_WTRIP : Fld := ⟨0x200600c4, 31, 0⟩
/-- R213: [20:16], STG. -/
def PWM_CFG_LOADMASK (i : Nat) : Fld := ⟨0x20060100 + 0x20 * i, 20, 16⟩
/-- R213: [13:8], STG. -/
def PWM_CFG_SYNC_SEL (i : Nat) : Fld := ⟨0x20060100 + 0x20 * i, 13, 8⟩
/-- R213: [5:4], STG. -/
def PWM_CFG_SYNC (i : Nat) : Fld := ⟨0x20060100 + 0x20 * i, 5, 4⟩
/-- R213: [3], STG. -/
def PWM_CFG_POLB (i : Nat) : Fld := ⟨0x20060100 + 0x20 * i, 3, 3⟩
/-- R213: [2], STG. -/
def PWM_CFG_POLA (i : Nat) : Fld := ⟨0x20060100 + 0x20 * i, 2, 2⟩
/-- R213: [1], STG. -/
def PWM_CFG_OUTMODE (i : Nat) : Fld := ⟨0x20060100 + 0x20 * i, 1, 1⟩
/-- R213: [0], STG. -/
def PWM_CFG_MODE (i : Nat) : Fld := ⟨0x20060100 + 0x20 * i, 0, 0⟩
/-- R213: [15:0], STG. -/
def PWM_LEAD_LEAD (i : Nat) : Fld := ⟨0x20060104 + 0x20 * i, 15, 0⟩
/-- R213: [7:6], STG. -/
def PWM_LVL_TRIP_LVLB (i : Nat) : Fld := ⟨0x20060108 + 0x20 * i, 7, 6⟩
/-- R213: [5:4], STG. -/
def PWM_LVL_TRIP_LVLA (i : Nat) : Fld := ⟨0x20060108 + 0x20 * i, 5, 4⟩
/-- R213: [3:2], STG. -/
def PWM_LVL_DIS_LVLB (i : Nat) : Fld := ⟨0x20060108 + 0x20 * i, 3, 2⟩
/-- R213: [1:0], STG. -/
def PWM_LVL_DIS_LVLA (i : Nat) : Fld := ⟨0x20060108 + 0x20 * i, 1, 0⟩
/-- R213: [23:16], STG. -/
def PWM_TRIPSEL_PIN_SVTRIP (i : Nat) : Fld := ⟨0x2006010c + 0x20 * i, 23, 16⟩
/-- R213: [15:0], STG. -/
def PWM_TRIPSEL_PIN_PIN (i : Nat) : Fld := ⟨0x2006010c + 0x20 * i, 15, 0⟩
/-- R213: [31:0], STG. -/
def PWM_TRIPSEL_WIN_WTRIP (i : Nat) : Fld := ⟨0x20060110 + 0x20 * i, 31, 0⟩
/-- R213: [11], RWL. -/
def PWM_GRP_DBG_EN (i : Nat) : Fld := ⟨0x20060114 + 0x20 * i, 11, 11⟩
/-- R213: [10:8], RWL. -/
def PWM_GRP_DBG_CORE (i : Nat) : Fld := ⟨0x20060114 + 0x20 * i, 10, 8⟩
/-- R213: [3:0], RWL. -/
def PWM_GRP_STO_GRP (i : Nat) : Fld := ⟨0x20060114 + 0x20 * i, 3, 0⟩
/-- R213: [3], W1S. -/
def PWM_CTRL_TRIP_CLR (i : Nat) : Fld := ⟨0x20061000 + 0x40 * i, 3, 3⟩
/-- R213: [2], W1S. -/
def PWM_CTRL_LOADNOW (i : Nat) : Fld := ⟨0x20061000 + 0x40 * i, 2, 2⟩
/-- R213: [0], RW. -/
def PWM_CTRL_EN (i : Nat) : Fld := ⟨0x20061000 + 0x40 * i, 0, 0⟩
/-- R213: [31:16], RO. -/
def PWM_STAT_STALE_CNT (i : Nat) : Fld := ⟨0x20061004 + 0x40 * i, 31, 16⟩
/-- R213: [15], RO. -/
def PWM_STAT_CAUSE_CLK (i : Nat) : Fld := ⟨0x20061004 + 0x40 * i, 15, 15⟩
/-- R213: [14], RO. -/
def PWM_STAT_CAUSE_DBG (i : Nat) : Fld := ⟨0x20061004 + 0x40 * i, 14, 14⟩
/-- R213: [13], RO. -/
def PWM_STAT_CAUSE_STO (i : Nat) : Fld := ⟨0x20061004 + 0x40 * i, 13, 13⟩
/-- R213: [12], RO. -/
def PWM_STAT_CAUSE_SV (i : Nat) : Fld := ⟨0x20061004 + 0x40 * i, 12, 12⟩
/-- R213: [11], RO. -/
def PWM_STAT_CAUSE_WIN (i : Nat) : Fld := ⟨0x20061004 + 0x40 * i, 11, 11⟩
/-- R213: [10], RO. -/
def PWM_STAT_CAUSE_PIN (i : Nat) : Fld := ⟨0x20061004 + 0x40 * i, 10, 10⟩
/-- R213: [7], W1C. -/
def PWM_STAT_LEAD_RANGE (i : Nat) : Fld := ⟨0x20061004 + 0x40 * i, 7, 7⟩
/-- R213: [6], W1C. -/
def PWM_STAT_SYNC_SLIP (i : Nat) : Fld := ⟨0x20061004 + 0x40 * i, 6, 6⟩
/-- R213: [5], W1C. -/
def PWM_STAT_TRIP_CLR_REFUSED (i : Nat) : Fld := ⟨0x20061004 + 0x40 * i, 5, 5⟩
/-- R213: [4], W1C. -/
def PWM_STAT_SHADOW_STALE (i : Nat) : Fld := ⟨0x20061004 + 0x40 * i, 4, 4⟩
/-- R213: [2], RO. -/
def PWM_STAT_STOPPING (i : Nat) : Fld := ⟨0x20061004 + 0x40 * i, 2, 2⟩
/-- R213: [1], RO. -/
def PWM_STAT_TRIPPED (i : Nat) : Fld := ⟨0x20061004 + 0x40 * i, 1, 1⟩
/-- R213: [0], RO. -/
def PWM_STAT_RUN (i : Nat) : Fld := ⟨0x20061004 + 0x40 * i, 0, 0⟩
/-- R213: [23:0], RO. -/
def PWM_POS_P (i : Nat) : Fld := ⟨0x20061008 + 0x40 * i, 23, 0⟩
/-- R213: [4:0], RO. -/
def PWM_SHDW_STAT_WRITTEN (i : Nat) : Fld := ⟨0x2006100c + 0x40 * i, 4, 0⟩
/-- R213: [23:0], RW. -/
def PWM_PERIOD (i : Nat) : Fld := ⟨0x20061010 + 0x40 * i, 23, 0⟩
/-- R213: [28:0], RW. -/
def PWM_DUTYA (i : Nat) : Fld := ⟨0x20061014 + 0x40 * i, 28, 0⟩
/-- R213: [28:0], RW. -/
def PWM_DUTYB (i : Nat) : Fld := ⟨0x20061018 + 0x40 * i, 28, 0⟩
/-- R213: [23:0], RW. -/
def PWM_PHASE (i : Nat) : Fld := ⟨0x2006101c + 0x40 * i, 23, 0⟩
/-- R213: [11:0], RW. -/
def PWM_DEAD (i : Nat) : Fld := ⟨0x20061020 + 0x40 * i, 11, 0⟩
/-- R213: [23:0], RO. -/
def PWM_SH_PERIOD (i : Nat) : Fld := ⟨0x20061024 + 0x40 * i, 23, 0⟩
/-- R213: [28:0], RO. -/
def PWM_SH_DUTYA (i : Nat) : Fld := ⟨0x20061028 + 0x40 * i, 28, 0⟩
/-- R213: [28:0], RO. -/
def PWM_SH_DUTYB (i : Nat) : Fld := ⟨0x2006102c + 0x40 * i, 28, 0⟩
/-- R213: [23:0], RO. -/
def PWM_SH_PHASE (i : Nat) : Fld := ⟨0x20061030 + 0x40 * i, 23, 0⟩
/-- R213: [11:0], RO. -/
def PWM_SH_DEAD (i : Nat) : Fld := ⟨0x20061034 + 0x40 * i, 11, 0⟩
/-- R218: [8], W1C. -/
def GPIO_BLK_STICKY_OUT_MISMATCH : Fld := ⟨0x2012000c, 8, 8⟩
/-- R218: [31:0], RO. -/
def GPIO_IN0 : Fld := ⟨0x20120060, 31, 0⟩
/-- R218: [31:0], RO. -/
def GPIO_IN1 : Fld := ⟨0x20120064, 31, 0⟩
/-- R218: [31:0], RW. -/
def GPIO_OUT0 : Fld := ⟨0x20120068, 31, 0⟩
/-- R218: [31:0], RW. -/
def GPIO_OUT1 : Fld := ⟨0x2012006c, 31, 0⟩
/-- R218: [31:0], WO. -/
def GPIO_SET0 : Fld := ⟨0x20120070, 31, 0⟩
/-- R218: [31:0], WO. -/
def GPIO_SET1 : Fld := ⟨0x20120074, 31, 0⟩
/-- R218: [31:0], WO. -/
def GPIO_CLR0 : Fld := ⟨0x20120078, 31, 0⟩
/-- R218: [31:0], WO. -/
def GPIO_CLR1 : Fld := ⟨0x2012007c, 31, 0⟩
/-- R218: [31:0], W1C. -/
def GPIO_MISM0 : Fld := ⟨0x20120080, 31, 0⟩
/-- R218: [31:0], W1C. -/
def GPIO_MISM1 : Fld := ⟨0x20120084, 31, 0⟩
/-- R218: [31:24], RW. -/
def GPIO_CFG_FILT (i : Nat) : Fld := ⟨0x20120100 + 0x4 * i, 31, 24⟩
/-- R218: [13], RW. -/
def GPIO_CFG_MISM_EN (i : Nat) : Fld := ⟨0x20120100 + 0x4 * i, 13, 13⟩
/-- R218: [12], RW. -/
def GPIO_CFG_SLEW (i : Nat) : Fld := ⟨0x20120100 + 0x4 * i, 12, 12⟩
/-- R218: [11:10], RW. -/
def GPIO_CFG_DRIVE (i : Nat) : Fld := ⟨0x20120100 + 0x4 * i, 11, 10⟩
/-- R218: [9:8], RW. -/
def GPIO_CFG_PULL (i : Nat) : Fld := ⟨0x20120100 + 0x4 * i, 9, 8⟩
/-- R218: [7], RW. -/
def GPIO_CFG_OD (i : Nat) : Fld := ⟨0x20120100 + 0x4 * i, 7, 7⟩
/-- R218: [2:0], RW. -/
def GPIO_CFG_FUNC (i : Nat) : Fld := ⟨0x20120100 + 0x4 * i, 2, 0⟩
/-- R245: [20:16], RO. -/
def MOTION_BLK_STAT_STEP_AXES : Fld := ⟨0x20080008, 20, 16⟩
/-- R245: [8], W1C. -/
def MOTION_BLK_STICKY_AXIS_FLAG : Fld := ⟨0x2008000c, 8, 8⟩
/-- R245: [31:0], RO. -/
def MOTION_SUM_ANY (i : Nat) : Fld := ⟨0x20080100 + 0x4 * i, 31, 0⟩
/-- R245: [31:0], RWL. -/
def AX_CFG (i : Nat) : Fld := ⟨0x20081000 + 0x100 * i, 31, 0⟩
/-- R245: [21:20], RWL. -/
def AX_CONTENT (i : Nat) : Fld := ⟨0x20081004 + 0x100 * i, 21, 20⟩
/-- R245: [19:12], RWL. -/
def AX_WORD (i : Nat) : Fld := ⟨0x20081004 + 0x100 * i, 19, 12⟩
/-- R245: [8:0], RWL. -/
def AX_SEGMENT (i : Nat) : Fld := ⟨0x20081004 + 0x100 * i, 8, 0⟩
/-- R245: [31:30], RWL. -/
def AX_FE_SRC (i : Nat) : Fld := ⟨0x20081008 + 0x100 * i, 31, 30⟩
/-- R245: [27:24], RWL. -/
def AX_FE_DLY (i : Nat) : Fld := ⟨0x20081008 + 0x100 * i, 27, 24⟩
/-- R245: [19:12], RWL. -/
def AX_FE_WORD (i : Nat) : Fld := ⟨0x20081008 + 0x100 * i, 19, 12⟩
/-- R245: [8:0], RWL. -/
def AX_FE_INST (i : Nat) : Fld := ⟨0x20081008 + 0x100 * i, 8, 0⟩
/-- R245: [31:24], RWL. -/
def AX_FE_N (i : Nat) : Fld := ⟨0x2008100c + 0x100 * i, 31, 24⟩
/-- R245: [20], RWL. -/
def AX_FE_STOP (i : Nat) : Fld := ⟨0x2008100c + 0x100 * i, 20, 20⟩
/-- R245: [16], RWL. -/
def AX_FE_SLOT_EN (i : Nat) : Fld := ⟨0x2008100c + 0x100 * i, 16, 16⟩
/-- R245: [8:0], RWL. -/
def AX_FE_SLOT (i : Nat) : Fld := ⟨0x2008100c + 0x100 * i, 8, 0⟩
/-- R245: [31:0], RWL. -/
def AX_VEL_SCALE (i : Nat) : Fld := ⟨0x20081010 + 0x100 * i, 31, 0⟩
/-- R245: [31:0], RWL. -/
def AX_MODULO (i : Nat) : Fld := ⟨0x20081014 + 0x100 * i, 31, 0⟩
/-- R245: [31:0], RWL. -/
def AX_I_RUN (i : Nat) : Fld := ⟨0x20081018 + 0x100 * i, 31, 0⟩
/-- R245: [31:0], RWL. -/
def AX_I_HOLD (i : Nat) : Fld := ⟨0x2008101c + 0x100 * i, 31, 0⟩
/-- R245: [31:30], RW. -/
def AX_MSTR_KIND (i : Nat) : Fld := ⟨0x20081020 + 0x100 * i, 31, 30⟩
/-- R245: [6:0], RW. -/
def AX_MSTR (i : Nat) : Fld := ⟨0x20081020 + 0x100 * i, 6, 0⟩
/-- R245: [31:0], RW. -/
def AX_GEAR_NUM (i : Nat) : Fld := ⟨0x20081024 + 0x100 * i, 31, 0⟩
/-- R245: [31:0], RW. -/
def AX_GEAR_DEN (i : Nat) : Fld := ⟨0x20081028 + 0x100 * i, 31, 0⟩
/-- R245: [31:0], RW. -/
def AX_LOCK_TOL (i : Nat) : Fld := ⟨0x2008102c + 0x100 * i, 31, 0⟩
/-- R245: [4:0], RW. -/
def AX_CAM_TAB (i : Nat) : Fld := ⟨0x20081030 + 0x100 * i, 4, 0⟩
/-- R245: [31:0], RW. -/
def AX_CAM_MCYC (i : Nat) : Fld := ⟨0x20081034 + 0x100 * i, 31, 0⟩
/-- R245: [31:0], RW. -/
def AX_CAM_LIFT (i : Nat) : Fld := ⟨0x20081038 + 0x100 * i, 31, 0⟩
/-- R245: [31:0], RW. -/
def AX_TRIM_RATE (i : Nat) : Fld := ⟨0x2008103c + 0x100 * i, 31, 0⟩
/-- R245: [31:28], WO. -/
def AX_REQ (i : Nat) : Fld := ⟨0x20081040 + 0x100 * i, 31, 28⟩
/-- R245: [31:16], RO. -/
def AX_MOVE_ID (i : Nat) : Fld := ⟨0x20081044 + 0x100 * i, 31, 16⟩
/-- R245: [15:11], RO. -/
def AX_QLEVEL (i : Nat) : Fld := ⟨0x20081044 + 0x100 * i, 15, 11⟩
/-- R245: [10:8], RO. -/
def AX_RES (i : Nat) : Fld := ⟨0x20081044 + 0x100 * i, 10, 8⟩
/-- R245: [7], RO. -/
def AX_LOCKED (i : Nat) : Fld := ⟨0x20081044 + 0x100 * i, 7, 7⟩
/-- R245: [2:0], RO. -/
def AX_STATE (i : Nat) : Fld := ⟨0x20081044 + 0x100 * i, 2, 0⟩
/-- R245: [31:0], RO. -/
def AX_POS_LO (i : Nat) : Fld := ⟨0x20081048 + 0x100 * i, 31, 0⟩
/-- R245: [31:0], RO. -/
def AX_POS_HI (i : Nat) : Fld := ⟨0x2008104c + 0x100 * i, 31, 0⟩
/-- R245: [31:0], RO. -/
def AX_VEL_LO (i : Nat) : Fld := ⟨0x20081050 + 0x100 * i, 31, 0⟩
/-- R245: [31:0], RO. -/
def AX_VEL_HI (i : Nat) : Fld := ⟨0x20081054 + 0x100 * i, 31, 0⟩
/-- R245: [31:0], RO. -/
def AX_ACT_LO (i : Nat) : Fld := ⟨0x20081058 + 0x100 * i, 31, 0⟩
/-- R245: [31:0], RO. -/
def AX_ACT_HI (i : Nat) : Fld := ⟨0x2008105c + 0x100 * i, 31, 0⟩
/-- R245: [31:0], RO. -/
def AX_FE (i : Nat) : Fld := ⟨0x20081060 + 0x100 * i, 31, 0⟩
/-- R245: [31:0], W1C. -/
def AX_STICKY (i : Nat) : Fld := ⟨0x20081064 + 0x100 * i, 31, 0⟩
/-- R245: [31:0], RO. -/
def AX_TRIM_LEFT (i : Nat) : Fld := ⟨0x20081068 + 0x100 * i, 31, 0⟩
/-- R245: [31:0], RO. -/
def AX_MOVES_DONE (i : Nat) : Fld := ⟨0x2008106c + 0x100 * i, 31, 0⟩
/-- R245: [31:0], WO. -/
def AX_TRIM_DELTA (i : Nat) : Fld := ⟨0x20081070 + 0x100 * i, 31, 0⟩
/-- R245: [31:0], RW. -/
def AX_MOVE (i j : Nat) : Fld := ⟨0x20081080 + 0x100 * i + 0x4 * j, 31, 0⟩
/-- R253: [31], RW. -/
def ENC_EN (i : Nat) : Fld := ⟨0x2008d000 + 0x40 * i, 31, 31⟩
/-- R253: [30:28], RWL. -/
def ENC_MODE (i : Nat) : Fld := ⟨0x2008d000 + 0x40 * i, 30, 28⟩
/-- R253: [27], RWL. -/
def ENC_DIR (i : Nat) : Fld := ⟨0x2008d000 + 0x40 * i, 27, 27⟩
/-- R253: [26], RWL. -/
def ENC_ZINV (i : Nat) : Fld := ⟨0x2008d000 + 0x40 * i, 26, 26⟩
/-- R253: [25:24], RWL. -/
def ENC_ZMODE (i : Nat) : Fld := ⟨0x2008d000 + 0x40 * i, 25, 24⟩
/-- R253: [23:20], RWL. -/
def ENC_FILT (i : Nat) : Fld := ⟨0x2008d000 + 0x40 * i, 23, 20⟩
/-- R253: [19:18], RWL. -/
def ENC_LSEL (i : Nat) : Fld := ⟨0x2008d000 + 0x40 * i, 19, 18⟩
/-- R253: [17:12], RWL. -/
def ENC_LGEN (i : Nat) : Fld := ⟨0x2008d000 + 0x40 * i, 17, 12⟩
/-- R253: [7:0], RW. -/
def ENC_ERR_HOLD (i : Nat) : Fld := ⟨0x2008d000 + 0x40 * i, 7, 0⟩
/-- R253: [31:20], RWL. -/
def ENC_SSI_HALF (i : Nat) : Fld := ⟨0x2008d004 + 0x40 * i, 31, 20⟩
/-- R253: [19:14], RWL. -/
def ENC_NBITS (i : Nat) : Fld := ⟨0x2008d004 + 0x40 * i, 19, 14⟩
/-- R253: [13], RWL. -/
def ENC_GRAY (i : Nat) : Fld := ⟨0x2008d004 + 0x40 * i, 13, 13⟩
/-- R253: [12:11], RWL. -/
def ENC_PARITY (i : Nat) : Fld := ⟨0x2008d004 + 0x40 * i, 12, 11⟩
/-- R253: [7:0], RWL. -/
def ENC_TM (i : Nat) : Fld := ⟨0x2008d004 + 0x40 * i, 7, 0⟩
/-- R253: [31:0], RWL. -/
def ENC_MAXJUMP (i : Nat) : Fld := ⟨0x2008d008 + 0x40 * i, 31, 0⟩
/-- R253: [31:16], RO. -/
def ENC_ERR_COUNT (i : Nat) : Fld := ⟨0x2008d00c + 0x40 * i, 31, 16⟩
/-- R253: [11:8], RO. -/
def ENC_LAST_ERR (i : Nat) : Fld := ⟨0x2008d00c + 0x40 * i, 11, 8⟩
/-- R253: [3], RO. -/
def ENC_BUSY (i : Nat) : Fld := ⟨0x2008d00c + 0x40 * i, 3, 3⟩
/-- R253: [2], RO. -/
def ENC_ZSEEN (i : Nat) : Fld := ⟨0x2008d00c + 0x40 * i, 2, 2⟩
/-- R253: [1], W1S. -/
def ENC_ERR_CLR (i : Nat) : Fld := ⟨0x2008d00c + 0x40 * i, 1, 1⟩
/-- R253: [0], RO. -/
def ENC_ERR (i : Nat) : Fld := ⟨0x2008d00c + 0x40 * i, 0, 0⟩
/-- R253: [31:0], RO. -/
def ENC_POS_LO (i : Nat) : Fld := ⟨0x2008d010 + 0x40 * i, 31, 0⟩
/-- R253: [31:0], RO. -/
def ENC_POS_HI (i : Nat) : Fld := ⟨0x2008d014 + 0x40 * i, 31, 0⟩
/-- R253: [31:0], RO. -/
def ENC_LATCH_LO (i : Nat) : Fld := ⟨0x2008d018 + 0x40 * i, 31, 0⟩
/-- R253: [31:0], RO. -/
def ENC_LATCH_HI (i : Nat) : Fld := ⟨0x2008d01c + 0x40 * i, 31, 0⟩
/-- R253: [31:0], RO. -/
def ENC_ZPOS_LO (i : Nat) : Fld := ⟨0x2008d020 + 0x40 * i, 31, 0⟩
/-- R253: [31:0], RO. -/
def ENC_ZPOS_HI (i : Nat) : Fld := ⟨0x2008d024 + 0x40 * i, 31, 0⟩
/-- R253: [31:0], RO. -/
def ENC_LTS_LO (i : Nat) : Fld := ⟨0x2008d028 + 0x40 * i, 31, 0⟩
/-- R253: [31:0], RO. -/
def ENC_LTS_HI (i : Nat) : Fld := ⟨0x2008d02c + 0x40 * i, 31, 0⟩
/-- R253: [31:0], WO. -/
def ENC_PRESET_LO (i : Nat) : Fld := ⟨0x2008d030 + 0x40 * i, 31, 0⟩
/-- R253: [31:0], WO. -/
def ENC_PRESET_HI (i : Nat) : Fld := ⟨0x2008d034 + 0x40 * i, 31, 0⟩
/-- R285: [16], W1C. -/
def RING_BLK_STICKY_SWITCH_LATE : Fld := ⟨0x2009000c, 16, 16⟩
/-- R285: [15], W1C. -/
def RING_BLK_STICKY_LAP_OVER : Fld := ⟨0x2009000c, 15, 15⟩
/-- R285: [14], W1C. -/
def RING_BLK_STICKY_BANK_SWITCHED : Fld := ⟨0x2009000c, 14, 14⟩
/-- R285: [13], W1C. -/
def RING_BLK_STICKY_LINK_CHG : Fld := ⟨0x2009000c, 13, 13⟩
/-- R285: [12], W1C. -/
def RING_BLK_STICKY_MSG_RX_OVF : Fld := ⟨0x2009000c, 12, 12⟩
/-- R285: [11], W1C. -/
def RING_BLK_STICKY_REF_MISS : Fld := ⟨0x2009000c, 11, 11⟩
/-- R285: [10], W1C. -/
def RING_BLK_STICKY_TRUNC : Fld := ⟨0x2009000c, 10, 10⟩
/-- R285: [9], W1C. -/
def RING_BLK_STICKY_NULL_TX : Fld := ⟨0x2009000c, 9, 9⟩
/-- R285: [8], W1C. -/
def RING_BLK_STICKY_CRC_ERR : Fld := ⟨0x2009000c, 8, 8⟩
/-- R285: [11:8], RWL. -/
def RING_CTRL_RANK : Fld := ⟨0x20090060, 11, 8⟩
/-- R285: [4], RW. -/
def RING_CTRL_ACY_TX_EN : Fld := ⟨0x20090060, 4, 4⟩
/-- R285: [3], RWL. -/
def RING_CTRL_HB_EN : Fld := ⟨0x20090060, 3, 3⟩
/-- R285: [2], RWL. -/
def RING_CTRL_HA_EN : Fld := ⟨0x20090060, 2, 2⟩
/-- R285: [1], RWL. -/
def RING_CTRL_GEN : Fld := ⟨0x20090060, 1, 1⟩
/-- R285: [0], RW. -/
def RING_CTRL_RUN : Fld := ⟨0x20090060, 0, 0⟩
/-- R285: [30:24], RO. -/
def RING_STAT_POS_B : Fld := ⟨0x20090064, 30, 24⟩
/-- R285: [22:16], RO. -/
def RING_STAT_POS_A : Fld := ⟨0x20090064, 22, 16⟩
/-- R285: [11], RO. -/
def RING_STAT_BANK : Fld := ⟨0x20090064, 11, 11⟩
/-- R285: [10], RO. -/
def RING_STAT_LINK_VALID_HB : Fld := ⟨0x20090064, 10, 10⟩
/-- R285: [9], RO. -/
def RING_STAT_LINK_VALID_HA : Fld := ⟨0x20090064, 9, 9⟩
/-- R285: [8], RO. -/
def RING_STAT_HB_LINK : Fld := ⟨0x20090064, 8, 8⟩
/-- R285: [7], RO. -/
def RING_STAT_HA_LINK : Fld := ⟨0x20090064, 7, 7⟩
/-- R285: [6:4], RO. -/
def RING_STAT_ROLE : Fld := ⟨0x20090064, 6, 4⟩
/-- R285: [3:0], RO. -/
def RING_STAT_STATE : Fld := ⟨0x20090064, 3, 0⟩
/-- R285: [31:0], RO. -/
def RING_CYCLE_NUM : Fld := ⟨0x20090068, 31, 0⟩
/-- R285: [31:0], RO. -/
def RING_CYCLE_NS : Fld := ⟨0x2009006c, 31, 0⟩
/-- R285: [31:0], RO. -/
def RING_CYC_START_LO : Fld := ⟨0x20090070, 31, 0⟩
/-- R285: [31:0], RO. -/
def RING_CYC_START_HI : Fld := ⟨0x20090074, 31, 0⟩
/-- R285: [31:0], RO. -/
def RING_POS_A : Fld := ⟨0x20090078, 31, 0⟩
/-- R285: [31:0], RO. -/
def RING_POS_B : Fld := ⟨0x2009007c, 31, 0⟩
/-- R285: [0], STG. -/
def RING_BANK_SEL : Fld := ⟨0x20090080, 0, 0⟩
/-- R285: [31:0], STG. -/
def RING_SWITCH_CYC : Fld := ⟨0x20090084, 31, 0⟩
/-- R285: [15:0], RO. -/
def RING_OWN_VER : Fld := ⟨0x20090088, 15, 0⟩
/-- R285: [15:0], RO. -/
def RING_RX_VER : Fld := ⟨0x2009008c, 15, 0⟩
/-- R285: [31:0], RWL. -/
def RING_CAP_LO : Fld := ⟨0x20090090, 31, 0⟩
/-- R285: [31:0], RWL. -/
def RING_CAP_HI : Fld := ⟨0x20090094, 31, 0⟩
/-- R285: [31:0], RO. -/
def RING_RX_CAP_LO : Fld := ⟨0x20090098, 31, 0⟩
/-- R285: [31:0], RO. -/
def RING_RX_CAP_HI : Fld := ⟨0x2009009c, 31, 0⟩
/-- R285: [31:0], RO. -/
def RING_LAP_A : Fld := ⟨0x200900a0, 31, 0⟩
/-- R285: [31:0], RO. -/
def RING_LAP_B : Fld := ⟨0x200900a4, 31, 0⟩
/-- R285: [31:0], RWL. -/
def RING_MSG_TX_BASE : Fld := ⟨0x200900b0, 31, 0⟩
/-- R285: [31:0], RWL. -/
def RING_MSG_RX_BASE : Fld := ⟨0x200900b4, 31, 0⟩
/-- R285: [15:8], RWL. -/
def RING_RX_LOG : Fld := ⟨0x200900b8, 15, 8⟩
/-- R285: [7:0], RWL. -/
def RING_TX_LOG : Fld := ⟨0x200900b8, 7, 0⟩
/-- R285: [25:16], RO. -/
def RING_TX_HEAD : Fld := ⟨0x200900bc, 25, 16⟩
/-- R285: [9:0], RW. -/
def RING_TX_TAIL : Fld := ⟨0x200900bc, 9, 0⟩
/-- R285: [25:16], RO. -/
def RING_RX_HEAD : Fld := ⟨0x200900c0, 25, 16⟩
/-- R285: [9:0], RW. -/
def RING_RX_TAIL : Fld := ⟨0x200900c0, 9, 0⟩
/-- R285: [31:0], RO. -/
def RING_NULL_TX : Fld := ⟨0x20090180, 31, 0⟩
/-- R285: [31:0], RO. -/
def RING_NULL_RX : Fld := ⟨0x20090184, 31, 0⟩
/-- R285: [31:0], RO. -/
def RING_VER_SKIP : Fld := ⟨0x20090188, 31, 0⟩
/-- R285: [31:0], RO. -/
def RING_MSG_DROP : Fld := ⟨0x2009018c, 31, 0⟩
/-- R285: [31:0], RO. -/
def RING_MSG_RX_DISCARD : Fld := ⟨0x20090190, 31, 0⟩
/-- R285: [31:0], RO. -/
def RPORT_CRC_ERR (i : Nat) : Fld := ⟨0x20090100 + 0x40 * i, 31, 0⟩
/-- R285: [31:0], RO. -/
def RPORT_CRC_FWD (i : Nat) : Fld := ⟨0x20090104 + 0x40 * i, 31, 0⟩
/-- R285: [31:0], RO. -/
def RPORT_SEG_CRC_ERR (i : Nat) : Fld := ⟨0x20090108 + 0x40 * i, 31, 0⟩
/-- R285: [31:0], RO. -/
def RPORT_ABORT_RX (i : Nat) : Fld := ⟨0x2009010c + 0x40 * i, 31, 0⟩
/-- R285: [31:0], RO. -/
def RPORT_TRUNC (i : Nat) : Fld := ⟨0x20090110 + 0x40 * i, 31, 0⟩
/-- R285: [31:0], RO. -/
def RPORT_PCS_ERR (i : Nat) : Fld := ⟨0x20090114 + 0x40 * i, 31, 0⟩
/-- R285: [31:0], RO. -/
def RPORT_LINK_DOWN (i : Nat) : Fld := ⟨0x20090118 + 0x40 * i, 31, 0⟩
/-- R285: [31:0], RO. -/
def RPORT_REF_MISS (i : Nat) : Fld := ⟨0x2009011c + 0x40 * i, 31, 0⟩
/-- R314: [23:16], RO. -/
def RING_BREAK_B : Fld := ⟨0x200900a8, 23, 16⟩
/-- R314: [15:8], RO. -/
def RING_BREAK_A : Fld := ⟨0x200900a8, 15, 8⟩
/-- R314: [3], RO. -/
def RING_BRK_B_VALID : Fld := ⟨0x200900a8, 3, 3⟩
/-- R314: [2], RO. -/
def RING_BRK_A_VALID : Fld := ⟨0x200900a8, 2, 2⟩
/-- R314: [1], RO. -/
def RING_WRAP_HB : Fld := ⟨0x200900a8, 1, 1⟩
/-- R314: [0], RO. -/
def RING_WRAP_HA : Fld := ⟨0x200900a8, 0, 0⟩
/-- R314: [19:16], RO. -/
def RING_M_RANK : Fld := ⟨0x200900ac, 19, 16⟩
/-- R314: [6:0], RO. -/
def RING_M_NODE : Fld := ⟨0x200900ac, 6, 0⟩
/-- R314: [8], RO. -/
def RING_WITHDRAWN : Fld := ⟨0x200900c4, 8, 8⟩
/-- R314: [1:0], RO. -/
def RING_RETURNS : Fld := ⟨0x200900c4, 1, 0⟩
/-- R314: [31:0], RO. -/
def RING_MASTER_UID_LO : Fld := ⟨0x200900c8, 31, 0⟩
/-- R314: [31:0], RO. -/
def RING_MASTER_UID_HI : Fld := ⟨0x200900cc, 31, 0⟩
/-- R314: [31:0], RO. -/
def RING_TAKEOVER : Fld := ⟨0x20090194, 31, 0⟩
/-- R314: [31:0], RO. -/
def RING_WRAP_EVT : Fld := ⟨0x20090198, 31, 0⟩
/-- R314: [31:0], RO. -/
def RING_LISTEN_ENTRY : Fld := ⟨0x2009019c, 31, 0⟩
/-- R328: [1], RWL. -/
def SCHED_BLK_CTRL_PREFETCH : Fld := ⟨0x20030004, 1, 1⟩
/-- R328: [8], RO. -/
def SCHED_BLK_STAT_FALLBACK : Fld := ⟨0x20030008, 8, 8⟩
/-- R328: [8], W1C. -/
def SCHED_BLK_STICKY_QMEM_UE : Fld := ⟨0x2003000c, 8, 8⟩
/-- R328: [15:0], RWL. -/
def SCHED_COREDOM_DOM : Fld := ⟨0x20030060, 15, 0⟩
/-- R328: [31:0], RWL. -/
def SCHED_DOM_DOM (i : Nat) : Fld := ⟨0x20030080 + 0x4 * i, 31, 0⟩
/-- R328: [31], RW. -/
def SCHED_EVBIND_EN (i : Nat) : Fld := ⟨0x200300c0 + 0x4 * i, 31, 31⟩
/-- R328: [12:8], RW. -/
def SCHED_EVBIND_BIT (i : Nat) : Fld := ⟨0x200300c0 + 0x4 * i, 12, 8⟩
/-- R328: [7:0], RW. -/
def SCHED_EVBIND_TASK (i : Nat) : Fld := ⟨0x200300c0 + 0x4 * i, 7, 0⟩
/-- R328: [9], WO. -/
def SCHEDC_FOREVER (i : Nat) : Fld := ⟨0x20030200 + 0x20 * i, 9, 9⟩
/-- R328: [8], WO. -/
def SCHEDC_NOWAIT (i : Nat) : Fld := ⟨0x20030200 + 0x20 * i, 8, 8⟩
/-- R328: [3:0], WO. -/
def SCHEDC_OP (i : Nat) : Fld := ⟨0x20030200 + 0x20 * i, 3, 0⟩
/-- R328: [31:0], RW. -/
def SCHEDC_ARG0 (i : Nat) : Fld := ⟨0x20030204 + 0x20 * i, 31, 0⟩
/-- R328: [31:0], RW. -/
def SCHEDC_ARG1 (i : Nat) : Fld := ⟨0x20030208 + 0x20 * i, 31, 0⟩
/-- R328: [8], RO. -/
def SCHEDC_BUSY (i : Nat) : Fld := ⟨0x2003020c + 0x20 * i, 8, 8⟩
/-- R328: [3:0], RO. -/
def SCHEDC_STATUS (i : Nat) : Fld := ⟨0x2003020c + 0x20 * i, 3, 0⟩
/-- R328: [31:0], RO. -/
def SCHEDC_BITS (i : Nat) : Fld := ⟨0x20030210 + 0x20 * i, 31, 0⟩
/-- R328: [31], RO. -/
def SCHEDC_DISP_VALID (i : Nat) : Fld := ⟨0x20030214 + 0x20 * i, 31, 31⟩
/-- R328: [19:16], RO. -/
def SCHEDC_DISP_STATUS (i : Nat) : Fld := ⟨0x20030214 + 0x20 * i, 19, 16⟩
/-- R328: [7:0], RO. -/
def SCHEDC_DISP_TASK (i : Nat) : Fld := ⟨0x20030214 + 0x20 * i, 7, 0⟩
/-- R328: [31:0], RO. -/
def SCHEDC_DISPB (i : Nat) : Fld := ⟨0x20030218 + 0x20 * i, 31, 0⟩
/-- R328: [8], RO. -/
def SCHEDC_CUR_VALID (i : Nat) : Fld := ⟨0x2003021c + 0x20 * i, 8, 8⟩
/-- R328: [7:0], RO. -/
def SCHEDC_CUR_TASK (i : Nat) : Fld := ⟨0x2003021c + 0x20 * i, 7, 0⟩
/-- R380: [10:8], RO. -/
def ACQ_BLK_STAT_STATE : Fld := ⟨0x200c0008, 10, 8⟩
/-- R380: [14], W1C. -/
def ACQ_BLK_STICKY_HOLDOFF_SKIP : Fld := ⟨0x200c000c, 14, 14⟩
/-- R380: [13], W1C. -/
def ACQ_BLK_STICKY_INTAKE_LOST : Fld := ⟨0x200c000c, 13, 13⟩
/-- R380: [12], W1C. -/
def ACQ_BLK_STICKY_CAPTURE_DONE : Fld := ⟨0x200c000c, 12, 12⟩
/-- R380: [11], W1C. -/
def ACQ_BLK_STICKY_TRIGGERED : Fld := ⟨0x200c000c, 11, 11⟩
/-- R380: [10], W1C. -/
def ACQ_BLK_STICKY_REC_LOST : Fld := ⟨0x200c000c, 10, 10⟩
/-- R380: [9], W1C. -/
def ACQ_BLK_STICKY_SPILL_DOWN : Fld := ⟨0x200c000c, 9, 9⟩
/-- R380: [8], W1C. -/
def ACQ_BLK_STICKY_SPILL_UP : Fld := ⟨0x200c000c, 8, 8⟩
/-- R380: [7:4], RWL. -/
def ACQ_SPILL_MAX : Fld := ⟨0x200c0060, 7, 4⟩
/-- R380: [2], RWL. -/
def ACQ_AUTO_REARM : Fld := ⟨0x200c0060, 2, 2⟩
/-- R380: [1], RWL. -/
def ACQ_MODE : Fld := ⟨0x200c0060, 1, 1⟩
/-- R380: [0], RW. -/
def ACQ_RUN : Fld := ⟨0x200c0060, 0, 0⟩
/-- R380: [31:0], RWL. -/
def ACQ_BUF_BASE_LO : Fld := ⟨0x200c0064, 31, 0⟩
/-- R380: [31:0], RWL. -/
def ACQ_BUF_BASE_HI : Fld := ⟨0x200c0068, 31, 0⟩
/-- R380: [4:0], RWL. -/
def ACQ_BUF_LOG : Fld := ⟨0x200c006c, 4, 0⟩
/-- R380: [18:0], RWL. -/
def ACQ_PRE : Fld := ⟨0x200c0070, 18, 0⟩
/-- R380: [31:0], RWL. -/
def ACQ_POST : Fld := ⟨0x200c0074, 31, 0⟩
/-- R380: [31:0], RWL. -/
def ACQ_HOLDOFF : Fld := ⟨0x200c0078, 31, 0⟩
/-- R380: [7:4], RWL. -/
def ACQ_AND_SET : Fld := ⟨0x200c007c, 7, 4⟩
/-- R380: [3:0], RWL. -/
def ACQ_OR_SET : Fld := ⟨0x200c007c, 3, 0⟩
/-- R380: [31:0], RO. -/
def ACQ_WR_LO : Fld := ⟨0x200c0080, 31, 0⟩
/-- R380: [31:0], RO. -/
def ACQ_WR_HI : Fld := ⟨0x200c0084, 31, 0⟩
/-- R380: [31:0], RO. -/
def ACQ_RD_LO : Fld := ⟨0x200c0088, 31, 0⟩
/-- R380: [31:0], RO. -/
def ACQ_RD_HI : Fld := ⟨0x200c008c, 31, 0⟩
/-- R380: [31:0], RO. -/
def ACQ_BACKLOG : Fld := ⟨0x200c0090, 31, 0⟩
/-- R380: [31:0], RO. -/
def ACQ_LOST : Fld := ⟨0x200c0094, 31, 0⟩
/-- R380: [31:0], RO. -/
def ACQ_TRIG_TS_LO : Fld := ⟨0x200c0098, 31, 0⟩
/-- R380: [31:0], RO. -/
def ACQ_TRIG_TS_HI : Fld := ⟨0x200c009c, 31, 0⟩
/-- R380: [15:8], RO. -/
def ACQ_STEPS : Fld := ⟨0x200c00a0, 15, 8⟩
/-- R380: [7:0], RO. -/
def ACQ_REDUCED : Fld := ⟨0x200c00a0, 7, 0⟩
/-- R380: [31], RW. -/
def ACQT_EN (i : Nat) : Fld := ⟨0x200c0800 + 0x20 * i, 31, 31⟩
/-- R380: [30:28], RWL. -/
def ACQT_KIND (i : Nat) : Fld := ⟨0x200c0800 + 0x20 * i, 30, 28⟩
/-- R380: [27], RWL. -/
def ACQT_SENSE (i : Nat) : Fld := ⟨0x200c0800 + 0x20 * i, 27, 27⟩
/-- R380: [23:16], RWL. -/
def ACQT_SRC (i : Nat) : Fld := ⟨0x200c0800 + 0x20 * i, 23, 16⟩
/-- R380: [15:0], RWL. -/
def ACQT_HOLD (i : Nat) : Fld := ⟨0x200c0800 + 0x20 * i, 15, 0⟩
/-- R380: [31:0], RWL. -/
def ACQT_A (i : Nat) : Fld := ⟨0x200c0804 + 0x20 * i, 31, 0⟩
/-- R380: [31:0], RWL. -/
def ACQT_B (i : Nat) : Fld := ⟨0x200c0808 + 0x20 * i, 31, 0⟩
/-- R380: [31:0], RWL. -/
def ACQT_TIME_LO (i : Nat) : Fld := ⟨0x200c080c + 0x20 * i, 31, 0⟩
/-- R380: [31:0], RWL. -/
def ACQT_TIME_HI (i : Nat) : Fld := ⟨0x200c0810 + 0x20 * i, 31, 0⟩
/-- R380: [31:16], RO. -/
def ACQT_FIRES (i : Nat) : Fld := ⟨0x200c0814 + 0x20 * i, 31, 16⟩
/-- R380: [0], RO. -/
def ACQT_OUT (i : Nat) : Fld := ⟨0x200c0814 + 0x20 * i, 0, 0⟩
/-- R380: [31], RWL. -/
def ACQC_EN (i : Nat) : Fld := ⟨0x200c1000 + 0x10 * i, 31, 31⟩
/-- R380: [30], RWL. -/
def ACQC_KEEP (i : Nat) : Fld := ⟨0x200c1000 + 0x10 * i, 30, 30⟩
/-- R380: [29:27], RWL. -/
def ACQC_PRIO (i : Nat) : Fld := ⟨0x200c1000 + 0x10 * i, 29, 27⟩
/-- R380: [26:22], RWL. -/
def ACQC_RED (i : Nat) : Fld := ⟨0x200c1000 + 0x10 * i, 26, 22⟩
/-- R380: [19:16], RWL. -/
def ACQC_DEC_LOG (i : Nat) : Fld := ⟨0x200c1000 + 0x10 * i, 19, 16⟩
/-- R380: [12:0], RWL. -/
def ACQC_SIG (i : Nat) : Fld := ⟨0x200c1000 + 0x10 * i, 12, 0⟩
/-- R380: [31:16], RO. -/
def ACQC_LOST (i : Nat) : Fld := ⟨0x200c1004 + 0x10 * i, 31, 16⟩
/-- R380: [11:8], RO. -/
def ACQC_SPILL (i : Nat) : Fld := ⟨0x200c1004 + 0x10 * i, 11, 8⟩
/-- R380: [31:0], RO. -/
def ACQC_LAST (i : Nat) : Fld := ⟨0x200c1008 + 0x10 * i, 31, 0⟩
/-- R380: [31], RWL. -/
def ACQ_IMGMAP_EN (i : Nat) : Fld := ⟨0x200c4000 + 0x4 * i, 31, 31⟩
/-- R380: [17:0], RWL. -/
def ACQ_IMGMAP_INDEX (i : Nat) : Fld := ⟨0x200c4000 + 0x4 * i, 17, 0⟩
/-- R395: [16], W1C. -/
def CAN_BLK_STICKY_TDC_SAT (i : Nat) : Fld := ⟨0x200a000c + 0x4000 * i, 16, 16⟩
/-- R395: [15], W1C. -/
def CAN_BLK_STICKY_RTR_RX (i : Nat) : Fld := ⟨0x200a000c + 0x4000 * i, 15, 15⟩
/-- R395: [14], W1C. -/
def CAN_BLK_STICKY_BUS_OFF (i : Nat) : Fld := ⟨0x200a000c + 0x4000 * i, 14, 14⟩
/-- R395: [13], W1C. -/
def CAN_BLK_STICKY_ERR_PASSIVE (i : Nat) : Fld := ⟨0x200a000c + 0x4000 * i, 13, 13⟩
/-- R395: [12], W1C. -/
def CAN_BLK_STICKY_NO_MATCH (i : Nat) : Fld := ⟨0x200a000c + 0x4000 * i, 12, 12⟩
/-- R395: [11], W1C. -/
def CAN_BLK_STICKY_MSG_LOST (i : Nat) : Fld := ⟨0x200a000c + 0x4000 * i, 11, 11⟩
/-- R395: [10], W1C. -/
def CAN_BLK_STICKY_TX_FAIL (i : Nat) : Fld := ⟨0x200a000c + 0x4000 * i, 10, 10⟩
/-- R395: [9], W1C. -/
def CAN_BLK_STICKY_TX_DONE (i : Nat) : Fld := ⟨0x200a000c + 0x4000 * i, 9, 9⟩
/-- R395: [8], W1C. -/
def CAN_BLK_STICKY_RX (i : Nat) : Fld := ⟨0x200a000c + 0x4000 * i, 8, 8⟩
/-- R395: [6], W1S. -/
def CAN_RECOVER (i : Nat) : Fld := ⟨0x200a0060 + 0x4000 * i, 6, 6⟩
/-- R395: [5], RW. -/
def CAN_AUTO_RECOV (i : Nat) : Fld := ⟨0x200a0060 + 0x4000 * i, 5, 5⟩
/-- R395: [4], RWL. -/
def CAN_FD_EN (i : Nat) : Fld := ⟨0x200a0060 + 0x4000 * i, 4, 4⟩
/-- R395: [1:0], RW. -/
def CAN_MODE (i : Nat) : Fld := ⟨0x200a0060 + 0x4000 * i, 1, 0⟩
/-- R395: [31:23], RWL. -/
def CAN_NBRP (i : Nat) : Fld := ⟨0x200a0064 + 0x4000 * i, 31, 23⟩
/-- R395: [22:16], RWL. -/
def CAN_NSJW (i : Nat) : Fld := ⟨0x200a0064 + 0x4000 * i, 22, 16⟩
/-- R395: [15:8], RWL. -/
def CAN_NSEG1 (i : Nat) : Fld := ⟨0x200a0064 + 0x4000 * i, 15, 8⟩
/-- R395: [6:0], RWL. -/
def CAN_NSEG2 (i : Nat) : Fld := ⟨0x200a0064 + 0x4000 * i, 6, 0⟩
/-- R395: [24:20], RWL. -/
def CAN_DBRP (i : Nat) : Fld := ⟨0x200a0068 + 0x4000 * i, 24, 20⟩
/-- R395: [19:16], RWL. -/
def CAN_DSJW (i : Nat) : Fld := ⟨0x200a0068 + 0x4000 * i, 19, 16⟩
/-- R395: [12:8], RWL. -/
def CAN_DSEG1 (i : Nat) : Fld := ⟨0x200a0068 + 0x4000 * i, 12, 8⟩
/-- R395: [3:0], RWL. -/
def CAN_DSEG2 (i : Nat) : Fld := ⟨0x200a0068 + 0x4000 * i, 3, 0⟩
/-- R395: [31], RWL. -/
def CAN_TDC_EN (i : Nat) : Fld := ⟨0x200a006c + 0x4000 * i, 31, 31⟩
/-- R395: [6:0], RWL. -/
def CAN_TDCO (i : Nat) : Fld := ⟨0x200a006c + 0x4000 * i, 6, 0⟩
/-- R395: [30:24], RO. -/
def CAN_TDCV (i : Nat) : Fld := ⟨0x200a0070 + 0x4000 * i, 30, 24⟩
/-- R395: [22:20], RO. -/
def CAN_LEC (i : Nat) : Fld := ⟨0x200a0070 + 0x4000 * i, 22, 20⟩
/-- R395: [18:16], RO. -/
def CAN_STATE (i : Nat) : Fld := ⟨0x200a0070 + 0x4000 * i, 18, 16⟩
/-- R395: [15:8], RO. -/
def CAN_REC (i : Nat) : Fld := ⟨0x200a0070 + 0x4000 * i, 15, 8⟩
/-- R395: [7:0], RO. -/
def CAN_TEC (i : Nat) : Fld := ⟨0x200a0070 + 0x4000 * i, 7, 0⟩
/-- R395: [31:0], RO. -/
def CAN_RXCNT (i : Nat) : Fld := ⟨0x200a0074 + 0x4000 * i, 31, 0⟩
/-- R395: [31:0], RO. -/
def CAN_TXCNT (i : Nat) : Fld := ⟨0x200a0078 + 0x4000 * i, 31, 0⟩
/-- R395: [31:0], RO. -/
def CAN_ERRCNT (i : Nat) : Fld := ⟨0x200a007c + 0x4000 * i, 31, 0⟩
/-- R395: [31:0], RO. -/
def CAN_NOMATCH (i : Nat) : Fld := ⟨0x200a0080 + 0x4000 * i, 31, 0⟩
/-- R395: [31:0], RO. -/
def CAN_RXNEW (i j : Nat) : Fld := ⟨0x200a0100 + 0x4000 * i + 0x4 * j, 31, 0⟩
/-- R395: [31:0], W1S. -/
def CAN_TXREQ (i j : Nat) : Fld := ⟨0x200a0110 + 0x4000 * i + 0x4 * j, 31, 0⟩
/-- R395: [31:0], WO. -/
def CAN_TXABORT (i j : Nat) : Fld := ⟨0x200a0120 + 0x4000 * i + 0x4 * j, 31, 0⟩
/-- R395: [31:0], W1C. -/
def CAN_TXFAIL (i j : Nat) : Fld := ⟨0x200a0130 + 0x4000 * i + 0x4 * j, 31, 0⟩
/-- R395: [31], RW. -/
def CANO_EN (i j : Nat) : Fld := ⟨0x200a1000 + 0x4000 * i + 0x60 * j, 31, 31⟩
/-- R395: [30], RWL. -/
def CANO_DIR (i j : Nat) : Fld := ⟨0x200a1000 + 0x4000 * i + 0x60 * j, 30, 30⟩
/-- R395: [29], RWL. -/
def CANO_IDE (i j : Nat) : Fld := ⟨0x200a1000 + 0x4000 * i + 0x60 * j, 29, 29⟩
/-- R395: [28], RWL. -/
def CANO_FDF (i j : Nat) : Fld := ⟨0x200a1000 + 0x4000 * i + 0x60 * j, 28, 28⟩
/-- R395: [27], RWL. -/
def CANO_BRS (i j : Nat) : Fld := ⟨0x200a1000 + 0x4000 * i + 0x60 * j, 27, 27⟩
/-- R395: [26], RWL. -/
def CANO_ONESHOT (i j : Nat) : Fld := ⟨0x200a1000 + 0x4000 * i + 0x60 * j, 26, 26⟩
/-- R395: [25], RWL. -/
def CANO_IRQ (i j : Nat) : Fld := ⟨0x200a1000 + 0x4000 * i + 0x60 * j, 25, 25⟩
/-- R395: [24], RWL. -/
def CANO_FDF_ANY (i j : Nat) : Fld := ⟨0x200a1000 + 0x4000 * i + 0x60 * j, 24, 24⟩
/-- R395: [28:0], RWL. -/
def CANO_ID (i j : Nat) : Fld := ⟨0x200a1004 + 0x4000 * i + 0x60 * j, 28, 0⟩
/-- R395: [28:0], RWL. -/
def CANO_MASK (i j : Nat) : Fld := ⟨0x200a1008 + 0x4000 * i + 0x60 * j, 28, 0⟩
/-- R395: [31:28], RO. -/
def CANO_SEQ (i j : Nat) : Fld := ⟨0x200a100c + 0x4000 * i + 0x60 * j, 31, 28⟩
/-- R395: [27], W1C. -/
def CANO_NEW (i j : Nat) : Fld := ⟨0x200a100c + 0x4000 * i + 0x60 * j, 27, 27⟩
/-- R395: [26], W1C. -/
def CANO_LOST (i j : Nat) : Fld := ⟨0x200a100c + 0x4000 * i + 0x60 * j, 26, 26⟩
/-- R395: [25], RO. -/
def CANO_TXREQ (i j : Nat) : Fld := ⟨0x200a100c + 0x4000 * i + 0x60 * j, 25, 25⟩
/-- R395: [24:22], RO. -/
def CANO_TXRES (i j : Nat) : Fld := ⟨0x200a100c + 0x4000 * i + 0x60 * j, 24, 22⟩
/-- R395: [21], RO. -/
def CANO_R_FDF (i j : Nat) : Fld := ⟨0x200a100c + 0x4000 * i + 0x60 * j, 21, 21⟩
/-- R395: [20], RO. -/
def CANO_R_BRS (i j : Nat) : Fld := ⟨0x200a100c + 0x4000 * i + 0x60 * j, 20, 20⟩
/-- R395: [19], RO. -/
def CANO_R_ESI (i j : Nat) : Fld := ⟨0x200a100c + 0x4000 * i + 0x60 * j, 19, 19⟩
/-- R395: [3:0], RWL. -/
def CANO_DLC (i j : Nat) : Fld := ⟨0x200a100c + 0x4000 * i + 0x60 * j, 3, 0⟩
/-- R395: [31:0], RO. -/
def CANO_TS_LO (i j : Nat) : Fld := ⟨0x200a1010 + 0x4000 * i + 0x60 * j, 31, 0⟩
/-- R395: [31:0], RO. -/
def CANO_TS_HI (i j : Nat) : Fld := ⟨0x200a1014 + 0x4000 * i + 0x60 * j, 31, 0⟩
/-- R395: [31:0], RWL. -/
def CANO_DATA (i j k : Nat) : Fld := ⟨0x200a1018 + 0x4000 * i + 0x60 * j + 0x4 * k, 31, 0⟩
/-- R420: [12], RO. -/
def STO_BLK_STAT_CFG_VALID : Fld := ⟨0x200d0008, 12, 12⟩
/-- R420: [11], RO. -/
def STO_BLK_STAT_REQ_BUSY : Fld := ⟨0x200d0008, 11, 11⟩
/-- R420: [10:8], RO. -/
def STO_BLK_STAT_STATE : Fld := ⟨0x200d0008, 10, 8⟩
/-- R420: [14], W1C. -/
def STO_BLK_STICKY_RST_STUCK : Fld := ⟨0x200d000c, 14, 14⟩
/-- R420: [13], W1C. -/
def STO_BLK_STICKY_REQ_REFUSED : Fld := ⟨0x200d000c, 13, 13⟩
/-- R420: [12], W1C. -/
def STO_BLK_STICKY_CONN_FAULT : Fld := ⟨0x200d000c, 12, 12⟩
/-- R420: [11], W1C. -/
def STO_BLK_STICKY_IN_FAULT : Fld := ⟨0x200d000c, 11, 11⟩
/-- R420: [10], W1C. -/
def STO_BLK_STICKY_CH_FAULT : Fld := ⟨0x200d000c, 10, 10⟩
/-- R420: [9], W1C. -/
def STO_BLK_STICKY_DEMAND : Fld := ⟨0x200d000c, 9, 9⟩
/-- R420: [8], W1C. -/
def STO_BLK_STICKY_STATE_CHG : Fld := ⟨0x200d000c, 8, 8⟩
/-- R420: [31:16], RO. -/
def STO_IN_FLT : Fld := ⟨0x200d0060, 31, 16⟩
/-- R420: [15:0], RO. -/
def STO_SIN : Fld := ⟨0x200d0060, 15, 0⟩
/-- R420: [23:16], RO. -/
def STO_FAULT_COUNT : Fld := ⟨0x200d0064, 23, 16⟩
/-- R420: [7:0], RO. -/
def STO_FAULT_CODE : Fld := ⟨0x200d0064, 7, 0⟩
/-- R420: [31:0], RO. -/
def STO_NONCE : Fld := ⟨0x200d0068, 31, 0⟩
/-- R420: [31:24], RO. -/
def STO_REQ_RES_CODE : Fld := ⟨0x200d006c, 31, 24⟩
/-- R420: [7:0], RO. -/
def STO_REQ_RES_RESULT : Fld := ⟨0x200d006c, 7, 0⟩
/-- R420: [31:0], RO. -/
def STO_CFG_ID : Fld := ⟨0x200d0070, 31, 0⟩
/-- R420: [31:0], RO. -/
def STO_CFG_CRC : Fld := ⟨0x200d0074, 31, 0⟩
/-- R420: [31:0], RO. -/
def STO_DEMANDS : Fld := ⟨0x200d0080, 31, 0⟩
/-- R420: [31:0], RO. -/
def STO_TESTS : Fld := ⟨0x200d0084, 31, 0⟩
/-- R420: [31:0], RO. -/
def STO_TEST_FAIL : Fld := ⟨0x200d0088, 31, 0⟩
/-- R420: [31:0], RO. -/
def STO_SF_BAD : Fld := ⟨0x200d008c, 31, 0⟩
/-- R420: [31:0], RO. -/
def STO_SF_UNMATCHED : Fld := ⟨0x200d0090, 31, 0⟩
/-- R420: [23:16], RO. -/
def STO_CH_FAULT (i : Nat) : Fld := ⟨0x200d0100 + 0x4 * i, 23, 16⟩
/-- R420: [13:8], RO. -/
def STO_CH_CAUSE (i : Nat) : Fld := ⟨0x200d0100 + 0x4 * i, 13, 8⟩
/-- R420: [4], RO. -/
def STO_CH_FB (i : Nat) : Fld := ⟨0x200d0100 + 0x4 * i, 4, 4⟩
/-- R420: [3], RO. -/
def STO_CH_OUT (i : Nat) : Fld := ⟨0x200d0100 + 0x4 * i, 3, 3⟩
/-- R420: [2:0], RO. -/
def STO_CH_STATE (i : Nat) : Fld := ⟨0x200d0100 + 0x4 * i, 2, 0⟩
/-- R420: [23:22], RO. -/
def STO_CONN_FAULT (i : Nat) : Fld := ⟨0x200d0200 + 0x4 * i, 23, 22⟩
/-- R420: [18], RO. -/
def STO_CONN_OK_B (i : Nat) : Fld := ⟨0x200d0200 + 0x4 * i, 18, 18⟩
/-- R420: [17], RO. -/
def STO_CONN_OK_A (i : Nat) : Fld := ⟨0x200d0200 + 0x4 * i, 17, 17⟩
/-- R420: [15:0], RO. -/
def STO_CONN_SEQ (i : Nat) : Fld := ⟨0x200d0200 + 0x4 * i, 15, 0⟩
/-- R420: [31:0], WO. -/
def STO_REQ (i : Nat) : Fld := ⟨0x200d0300 + 0x4 * i, 31, 0⟩
/-- R420: [31:0], RO. -/
def STO_CFG (i : Nat) : Fld := ⟨0x200d0800 + 0x4 * i, 31, 0⟩
/-- R444: [11:8], RO. -/
def SPLICE_BLK_STAT_LASH_STATE : Fld := ⟨0x20100008, 11, 8⟩
/-- R444: [15], W1C. -/
def SPLICE_BLK_STICKY_MIRROR_LATE : Fld := ⟨0x2010000c, 15, 15⟩
/-- R444: [14], W1C. -/
def SPLICE_BLK_STICKY_ROLE_CHG : Fld := ⟨0x2010000c, 14, 14⟩
/-- R444: [13], W1C. -/
def SPLICE_BLK_STICKY_TAKEOVER : Fld := ⟨0x2010000c, 13, 13⟩
/-- R444: [12], W1C. -/
def SPLICE_BLK_STICKY_DIVERGED : Fld := ⟨0x2010000c, 12, 12⟩
/-- R444: [11], W1C. -/
def SPLICE_BLK_STICKY_BAD_DIGEST : Fld := ⟨0x2010000c, 11, 11⟩
/-- R444: [10], W1C. -/
def SPLICE_BLK_STICKY_LATE_SIG : Fld := ⟨0x2010000c, 10, 10⟩
/-- R444: [9], W1C. -/
def SPLICE_BLK_STICKY_CRC_ERR : Fld := ⟨0x2010000c, 9, 9⟩
/-- R444: [8], W1C. -/
def SPLICE_BLK_STICKY_LINK_CHG : Fld := ⟨0x2010000c, 8, 8⟩
/-- R444: [5:4], RWL. -/
def SPL_ID : Fld := ⟨0x20100060, 5, 4⟩
/-- R444: [1], RW. -/
def SPL_SPL1_EN : Fld := ⟨0x20100060, 1, 1⟩
/-- R444: [0], RW. -/
def SPL_SPL0_EN : Fld := ⟨0x20100060, 0, 0⟩
/-- R444: [7:6], RO. -/
def SPL_PEER1 : Fld := ⟨0x20100064, 7, 6⟩
/-- R444: [5:4], RO. -/
def SPL_PEER0 : Fld := ⟨0x20100064, 5, 4⟩
/-- R444: [3], RO. -/
def SPL_PEER1_VALID : Fld := ⟨0x20100064, 3, 3⟩
/-- R444: [2], RO. -/
def SPL_PEER0_VALID : Fld := ⟨0x20100064, 2, 2⟩
/-- R444: [1], RO. -/
def SPL_SPL1_UP : Fld := ⟨0x20100064, 1, 1⟩
/-- R444: [0], RO. -/
def SPL_SPL0_UP : Fld := ⟨0x20100064, 0, 0⟩
/-- R444: [15:8], RO. -/
def SPL_HOPS : Fld := ⟨0x20100068, 15, 8⟩
/-- R444: [7:0], RWL. -/
def SPL_ROUTE : Fld := ⟨0x20100068, 7, 0⟩
/-- R444: [7:0], RWL. -/
def SPL_CORES : Fld := ⟨0x2010006c, 7, 0⟩
/-- R444: [31:0], RWL. -/
def SPL_MSG_TX_BASE : Fld := ⟨0x20100070, 31, 0⟩
/-- R444: [31:0], RWL. -/
def SPL_MSG_RX_BASE : Fld := ⟨0x20100074, 31, 0⟩
/-- R444: [15:8], RWL. -/
def SPL_RX_LOG : Fld := ⟨0x20100078, 15, 8⟩
/-- R444: [7:0], RWL. -/
def SPL_TX_LOG : Fld := ⟨0x20100078, 7, 0⟩
/-- R444: [25:16], RO. -/
def SPL_TX_HEAD : Fld := ⟨0x2010007c, 25, 16⟩
/-- R444: [9:0], RW. -/
def SPL_TX_TAIL : Fld := ⟨0x2010007c, 9, 0⟩
/-- R444: [25:16], RO. -/
def SPL_RX_HEAD : Fld := ⟨0x20100080, 25, 16⟩
/-- R444: [9:0], RW. -/
def SPL_RX_TAIL : Fld := ⟨0x20100080, 9, 0⟩
/-- R444: [31:0], RO. -/
def SPLL_CRC_ERR (i : Nat) : Fld := ⟨0x20100100 + 0x20 * i, 31, 0⟩
/-- R444: [31:0], RO. -/
def SPLL_PCS_ERR (i : Nat) : Fld := ⟨0x20100104 + 0x20 * i, 31, 0⟩
/-- R444: [31:0], RO. -/
def SPLL_LINK_DOWN (i : Nat) : Fld := ⟨0x20100108 + 0x20 * i, 31, 0⟩
/-- R444: [31:0], RO. -/
def SPLL_LATE_SIG (i : Nat) : Fld := ⟨0x2010010c + 0x20 * i, 31, 0⟩
/-- R444: [31:0], RO. -/
def SPLL_TX_FRAMES (i : Nat) : Fld := ⟨0x20100110 + 0x20 * i, 31, 0⟩
/-- R444: [31:0], RO. -/
def SPLL_RX_FRAMES (i : Nat) : Fld := ⟨0x20100114 + 0x20 * i, 31, 0⟩
/-- R444: [31:0], RO. -/
def SPL_UID (i : Nat) : Fld := ⟨0x20100140 + 0x8 * i, 31, 0⟩
/-- R444: [31], RWL. -/
def LASH_EN : Fld := ⟨0x20100200, 31, 31⟩
/-- R444: [30], RWL. -/
def LASH_AUTO_SYNC : Fld := ⟨0x20100200, 30, 30⟩
/-- R444: [29:24], RWL. -/
def LASH_ACT_PIN : Fld := ⟨0x20100200, 29, 24⟩
/-- R444: [23], RWL. -/
def LASH_ACT_PIN_EN : Fld := ⟨0x20100200, 23, 23⟩
/-- R444: [22:16], RWL. -/
def LASH_PAIR_NODE : Fld := ⟨0x20100200, 22, 16⟩
/-- R444: [15:8], RWL. -/
def LASH_LONE_TMO : Fld := ⟨0x20100200, 15, 8⟩
/-- R444: [4], RWL. -/
def LASH_PREFER : Fld := ⟨0x20100200, 4, 4⟩
/-- R444: [3:2], RWL. -/
def LASH_MIRROR : Fld := ⟨0x20100200, 3, 2⟩
/-- R444: [1:0], RWL. -/
def LASH_PARTNER : Fld := ⟨0x20100200, 1, 0⟩
/-- R444: [7:0], RWL. -/
def LASH_LEAD : Fld := ⟨0x20100204, 7, 0⟩
/-- R444: [31:24], RO. -/
def LASH_PARTNER_SCHEMA : Fld := ⟨0x20100208, 31, 24⟩
/-- R444: [23:16], RO. -/
def LASH_OWN_SCHEMA : Fld := ⟨0x20100208, 23, 16⟩
/-- R444: [15], RO. -/
def LASH_PROG_MATCH : Fld := ⟨0x20100208, 15, 15⟩
/-- R444: [14], RO. -/
def LASH_PARTNER_SEEN : Fld := ⟨0x20100208, 14, 14⟩
/-- R444: [1:0], RO. -/
def LASH_BAD_RUN : Fld := ⟨0x20100208, 1, 0⟩
/-- R444: [31:0], RO. -/
def LASH_PARTNER_UID_LO : Fld := ⟨0x20100210, 31, 0⟩
/-- R444: [31:0], RO. -/
def LASH_PARTNER_UID_HI : Fld := ⟨0x20100214, 31, 0⟩
/-- R444: [31:0], RO. -/
def LASH_DIG_CYC : Fld := ⟨0x20100218, 31, 0⟩
/-- R444: [31:0], RO. -/
def LASH_DIG (i : Nat) : Fld := ⟨0x20100220 + 0x4 * i, 31, 0⟩
/-- R444: [31:0], RO. -/
def LASH_PDIG (i : Nat) : Fld := ⟨0x20100240 + 0x4 * i, 31, 0⟩
/-- R444: [31:0], RO. -/
def LASH_BAD_DIGESTS : Fld := ⟨0x20100280, 31, 0⟩
/-- R444: [31:0], RO. -/
def LASH_DIVERGENCES : Fld := ⟨0x20100284, 31, 0⟩
/-- R444: [31:0], RO. -/
def LASH_TAKEOVERS : Fld := ⟨0x20100288, 31, 0⟩
/-- R444: [31:0], RO. -/
def LASH_SWITCHES : Fld := ⟨0x2010028c, 31, 0⟩
/-- R444: [31:0], RO. -/
def LASH_SNAPSHOTS : Fld := ⟨0x20100290, 31, 0⟩
/-- R444: [31:0], RWL. -/
def LASH_MIR_ADC (i : Nat) : Fld := ⟨0x20100300 + 0x4 * i, 31, 0⟩
/-- R444: [15:0], RWL. -/
def LASH_MIR_ENC : Fld := ⟨0x20100310, 15, 0⟩
/-- R444: [31:0], RWL. -/
def LASH_MIR_CAP : Fld := ⟨0x20100314, 31, 0⟩
/-- R444: [31:0], RWL. -/
def LASH_MIR_GPIO_LO : Fld := ⟨0x20100318, 31, 0⟩
/-- R444: [31:0], RWL. -/
def LASH_MIR_GPIO_HI : Fld := ⟨0x2010031c, 31, 0⟩
/-- R444: [3:0], RWL. -/
def LASH_MIR_CAN : Fld := ⟨0x20100320, 3, 0⟩
/-- R466: [15:14], RO. -/
def SEC_BLK_STAT_DBG_LEVEL : Fld := ⟨0x20010008, 15, 14⟩
/-- R466: [12], RO. -/
def SEC_BLK_STAT_KEYS_READY : Fld := ⟨0x20010008, 12, 12⟩
/-- R466: [11], RO. -/
def SEC_BLK_STAT_OP_BUSY : Fld := ⟨0x20010008, 11, 11⟩
/-- R466: [10], RO. -/
def SEC_BLK_STAT_RECOVERY : Fld := ⟨0x20010008, 10, 10⟩
/-- R466: [9], RO. -/
def SEC_BLK_STAT_FW_BANK : Fld := ⟨0x20010008, 9, 9⟩
/-- R466: [8], RO. -/
def SEC_BLK_STAT_LDR_BANK : Fld := ⟨0x20010008, 8, 8⟩
/-- R466: [12], W1C. -/
def SEC_BLK_STICKY_LOG_FOLD : Fld := ⟨0x2001000c, 12, 12⟩
/-- R466: [11], W1C. -/
def SEC_BLK_STICKY_DBG_UNLOCKED : Fld := ⟨0x2001000c, 11, 11⟩
/-- R466: [10], W1C. -/
def SEC_BLK_STICKY_OTP_WRITE : Fld := ⟨0x2001000c, 10, 10⟩
/-- R466: [9], W1C. -/
def SEC_BLK_STICKY_CMD_AUTH_FAIL : Fld := ⟨0x2001000c, 9, 9⟩
/-- R466: [8], W1C. -/
def SEC_BLK_STICKY_BANK_FALLBACK : Fld := ⟨0x2001000c, 8, 8⟩
/-- R466: [23:16], RO. -/
def SEC_REVOKED : Fld := ⟨0x20010060, 23, 16⟩
/-- R466: [7:0], RO. -/
def SEC_PROVISIONED : Fld := ⟨0x20010060, 7, 0⟩
/-- R466: [7:0], RO. -/
def SEC_RB_CTR : Fld := ⟨0x20010064, 7, 0⟩
/-- R466: [2:0], RO. -/
def SEC_CFG : Fld := ⟨0x20010068, 2, 0⟩
/-- R466: [31:0], RO. -/
def SEC_CMD_CTR : Fld := ⟨0x2001006c, 31, 0⟩
/-- R466: [31:24], RO. -/
def SEC_FAIL : Fld := ⟨0x20010070, 31, 24⟩
/-- R466: [23:16], RO. -/
def SEC_FW_SVN : Fld := ⟨0x20010070, 23, 16⟩
/-- R466: [15:8], RO. -/
def SEC_LDR_SVN : Fld := ⟨0x20010070, 15, 8⟩
/-- R466: [5:4], RO. -/
def SEC_FW_SLOT : Fld := ⟨0x20010070, 5, 4⟩
/-- R466: [1:0], RO. -/
def SEC_LDR_SLOT : Fld := ⟨0x20010070, 1, 0⟩
/-- R466: [5:0], RO. -/
def SEC_LOG_N : Fld := ⟨0x20010074, 5, 0⟩
/-- R466: [31], W1S. -/
def SEC_GO : Fld := ⟨0x20010080, 31, 31⟩
/-- R466: [7:0], RW. -/
def SEC_OP : Fld := ⟨0x20010080, 7, 0⟩
/-- R466: [31:0], RW. -/
def SEC_ADDR_LO : Fld := ⟨0x20010084, 31, 0⟩
/-- R466: [31:0], RW. -/
def SEC_ADDR_HI : Fld := ⟨0x20010088, 31, 0⟩
/-- R466: [31:0], RW. -/
def SEC_LEN : Fld := ⟨0x2001008c, 31, 0⟩
/-- R466: [3:0], RO. -/
def SEC_RESULT : Fld := ⟨0x20010090, 3, 0⟩
/-- R466: [31:0], RO. -/
def SEC_DIGEST (i : Nat) : Fld := ⟨0x200100a0 + 0x4 * i, 31, 0⟩
/-- R466: [31:0], RO. -/
def SEC_LOG (i : Nat) : Fld := ⟨0x20011000 + 0x4 * i, 31, 0⟩
/-- R485: [9:8], RO. -/
def IRQ_BLK_STAT_POWER : Fld := ⟨0x20020008, 9, 8⟩
/-- R485: [10], W1C. -/
def IRQ_BLK_STICKY_STANDBY_REFUSED : Fld := ⟨0x2002000c, 10, 10⟩
/-- R485: [9], W1C. -/
def IRQ_BLK_STICKY_WAKE_ABORT : Fld := ⟨0x2002000c, 9, 9⟩
/-- R485: [8], W1C. -/
def IRQ_BLK_STICKY_WOKE : Fld := ⟨0x2002000c, 8, 8⟩
/-- R485: [1:0], WO. -/
def PWR_CTRL_REQ : Fld := ⟨0x20020060, 1, 0⟩
/-- R485: [11:8], RO. -/
def PWR_STAT_REFUSE : Fld := ⟨0x20020064, 11, 8⟩
/-- R485: [31:0], RW. -/
def IRQ_WAKE_EN : Fld := ⟨0x20020068, 31, 0⟩
/-- R485: [31:0], RW. -/
def IRQ_WAKE_POL : Fld := ⟨0x2002006c, 31, 0⟩
/-- R485: [31:0], W1C. -/
def IRQ_WAKE_LATCH : Fld := ⟨0x20020070, 31, 0⟩
/-- R485: [8], RO. -/
def IRQ_WAKE_CAUSE_VALID : Fld := ⟨0x20020074, 8, 8⟩
/-- R485: [4:0], RO. -/
def IRQ_WAKE_CAUSE_WAKE : Fld := ⟨0x20020074, 4, 0⟩
/-- R485: [31:0], RO. -/
def IRQ_WAKE_TS_LO : Fld := ⟨0x20020078, 31, 0⟩
/-- R485: [31:0], RO. -/
def IRQ_WAKE_TS_HI : Fld := ⟨0x2002007c, 31, 0⟩
/-- R485: [31:0], W1S. -/
def IRQ_PEND (i : Nat) : Fld := ⟨0x20020100 + 0x4 * i, 31, 0⟩
/-- R485: [31:0], RO. -/
def IRQ_INSV (i : Nat) : Fld := ⟨0x20020140 + 0x4 * i, 31, 0⟩
/-- R485: [31:0], RO. -/
def IRQ_LINE (i : Nat) : Fld := ⟨0x20020180 + 0x4 * i, 31, 0⟩
/-- R485: [3:0], RW. -/
def IRQT_THRESH (i : Nat) : Fld := ⟨0x20020200 + 0x10 * i, 3, 0⟩
/-- R485: [31], RO. -/
def IRQT_CLAIM_VALID (i : Nat) : Fld := ⟨0x20020204 + 0x10 * i, 31, 31⟩
/-- R485: [8:0], RO. -/
def IRQT_CLAIM_SOURCE (i : Nat) : Fld := ⟨0x20020204 + 0x10 * i, 8, 0⟩
/-- R485: [8:0], WO. -/
def IRQT_COMPLETE_SOURCE (i : Nat) : Fld := ⟨0x20020208 + 0x10 * i, 8, 0⟩
/-- R485: [31:0], RO. -/
def IRQT_CLAIM_EMPTY (i : Nat) : Fld := ⟨0x2002020c + 0x10 * i, 31, 0⟩
/-- R485: [31:16], RW. -/
def IRQG_TIME (i : Nat) : Fld := ⟨0x20020400 + 0x10 * i, 31, 16⟩
/-- R485: [7:0], RW. -/
def IRQG_COUNT (i : Nat) : Fld := ⟨0x20020400 + 0x10 * i, 7, 0⟩
/-- R485: [31], RO. -/
def IRQG_HOLDING (i : Nat) : Fld := ⟨0x20020404 + 0x10 * i, 31, 31⟩
/-- R485: [7:0], RO. -/
def IRQG_HELD (i : Nat) : Fld := ⟨0x20020404 + 0x10 * i, 7, 0⟩
/-- R485: [31:0], RO. -/
def IRQG_FIRES (i : Nat) : Fld := ⟨0x20020408 + 0x10 * i, 31, 0⟩
/-- R485: [31], RW. -/
def IRQS_EN (i : Nat) : Fld := ⟨0x20021000 + 0x4 * i, 31, 31⟩
/-- R485: [28], RW. -/
def IRQS_INV (i : Nat) : Fld := ⟨0x20021000 + 0x4 * i, 28, 28⟩
/-- R485: [27:24], RW. -/
def IRQS_PRIO (i : Nat) : Fld := ⟨0x20021000 + 0x4 * i, 27, 24⟩
/-- R485: [23:20], RW. -/
def IRQS_TARGET (i : Nat) : Fld := ⟨0x20021000 + 0x4 * i, 23, 20⟩
/-- R485: [13:8], RW. -/
def IRQS_VEC (i : Nat) : Fld := ⟨0x20021000 + 0x4 * i, 13, 8⟩
/-- R485: [7], RW. -/
def IRQS_GRP_EN (i : Nat) : Fld := ⟨0x20021000 + 0x4 * i, 7, 7⟩
/-- R485: [4:0], RW. -/
def IRQS_GROUP (i : Nat) : Fld := ⟨0x20021000 + 0x4 * i, 4, 0⟩
/-- R495: [31:16], RO. -/
def LIFE_FORMAT (i : Nat) : Fld := ⟨0x10200000 + 0x400 * i, 31, 16⟩
/-- R495: [31:0], RO. -/
def LIFE_FLUSH_NO (i : Nat) : Fld := ⟨0x10200004 + 0x400 * i, 31, 0⟩
/-- R495: [31:0], RO. -/
def LIFE_OPSEC_LO (i : Nat) : Fld := ⟨0x10200008 + 0x400 * i, 31, 0⟩
/-- R495: [7:0], RO. -/
def LIFE_OPSEC_HI (i : Nat) : Fld := ⟨0x1020000c + 0x400 * i, 7, 0⟩
/-- R495: [31:0], RO. -/
def LIFE_PWR_CYCLES (i : Nat) : Fld := ⟨0x10200010 + 0x400 * i, 31, 0⟩
/-- R495: [31:0], RO. -/
def LIFE_LASH_SWITCH (i : Nat) : Fld := ⟨0x10200014 + 0x400 * i, 31, 0⟩
/-- R495: [31:0], RO. -/
def LIFE_SCHED_FB (i : Nat) : Fld := ⟨0x10200018 + 0x400 * i, 31, 0⟩
/-- R495: [31:0], RO. -/
def LIFE_MRAM_CORR (i : Nat) : Fld := ⟨0x1020001c + 0x400 * i, 31, 0⟩
/-- R495: [31:0], RO. -/
def LIFE_CRC_ERR_HA_LO (i : Nat) : Fld := ⟨0x10200020 + 0x400 * i, 31, 0⟩
/-- R495: [31:0], RO. -/
def LIFE_CRC_ERR_HA_HI (i : Nat) : Fld := ⟨0x10200024 + 0x400 * i, 31, 0⟩
/-- R495: [31:0], RO. -/
def LIFE_CRC_ERR_HB_LO (i : Nat) : Fld := ⟨0x10200028 + 0x400 * i, 31, 0⟩
/-- R495: [31:0], RO. -/
def LIFE_CRC_ERR_HB_HI (i : Nat) : Fld := ⟨0x1020002c + 0x400 * i, 31, 0⟩
/-- R495: [31:0], RO. -/
def LIFE_LOOP_SAT_LO (i : Nat) : Fld := ⟨0x10200030 + 0x400 * i, 31, 0⟩
/-- R495: [31:0], RO. -/
def LIFE_LOOP_SAT_HI (i : Nat) : Fld := ⟨0x10200034 + 0x400 * i, 31, 0⟩
/-- R495: [31:0], RO. -/
def LIFE_STO_DEMAND_LO (i : Nat) : Fld := ⟨0x10200038 + 0x400 * i, 31, 0⟩
/-- R495: [31:0], RO. -/
def LIFE_STO_DEMAND_HI (i : Nat) : Fld := ⟨0x1020003c + 0x400 * i, 31, 0⟩
/-- R495: [31:0], RO. -/
def LIFE_STO_TESTFAIL_LO (i : Nat) : Fld := ⟨0x10200040 + 0x400 * i, 31, 0⟩
/-- R495: [31:0], RO. -/
def LIFE_STO_TESTFAIL_HI (i : Nat) : Fld := ⟨0x10200044 + 0x400 * i, 31, 0⟩
/-- R495: [31:0], RO. -/
def LIFE_MAX_LATE (i : Nat) : Fld := ⟨0x10200048 + 0x400 * i, 31, 0⟩
/-- R495: [8:0], RO. -/
def LIFE_MAX_LATE_SLOT (i : Nat) : Fld := ⟨0x1020004c + 0x400 * i, 8, 0⟩
/-- R495: [31:0], RO. -/
def LIFE_MAX_LATE_AT_LO (i : Nat) : Fld := ⟨0x10200050 + 0x400 * i, 31, 0⟩
/-- R495: [7:0], RO. -/
def LIFE_MAX_LATE_AT_HI (i : Nat) : Fld := ⟨0x10200054 + 0x400 * i, 7, 0⟩
/-- R495: [31:16], RO. -/
def LIFE_TJ_MIN (i : Nat) : Fld := ⟨0x10200058 + 0x400 * i, 31, 16⟩
/-- R495: [15:0], RO. -/
def LIFE_TJ_PEAK (i : Nat) : Fld := ⟨0x10200058 + 0x400 * i, 15, 0⟩
/-- R495: [31:0], RO. -/
def LIFE_REFRESH_PASSES (i : Nat) : Fld := ⟨0x1020005c + 0x400 * i, 31, 0⟩
/-- R495: [31:0], RO. -/
def LIFE_TJ_HIST (i j : Nat) : Fld := ⟨0x10200080 + 0x400 * i + 0x4 * j, 31, 0⟩
/-- R495: [31:0], RO. -/
def LIFE_SUP_HIST (i j k : Nat) : Fld := ⟨0x10200100 + 0x400 * i + 0x40 * j + 0x4 * k, 31, 0⟩
/-- R495: [31:0], RO. -/
def LIFE_HP_CYCLES (i j : Nat) : Fld := ⟨0x10200340 + 0x400 * i + 0x4 * j, 31, 0⟩
/-- R495: [31:0], RO. -/
def LIFE_CRC (i : Nat) : Fld := ⟨0x102003fc + 0x400 * i, 31, 0⟩
/-- R498: [10], W1C. -/
def EVREC_BLK_STICKY_MRAM_UE : Fld := ⟨0x200e000c, 10, 10⟩
/-- R498: [9], W1C. -/
def EVREC_BLK_STICKY_DROPPED : Fld := ⟨0x200e000c, 9, 9⟩
/-- R498: [8], W1C. -/
def EVREC_BLK_STICKY_NEW_REC : Fld := ⟨0x200e000c, 8, 8⟩
/-- R498: [31:0], RO. -/
def EVREC_HEAD : Fld := ⟨0x200e0060, 31, 0⟩
/-- R498: [31:0], RO. -/
def EVREC_TAIL : Fld := ⟨0x200e0064, 31, 0⟩
/-- R498: [31:0], RO. -/
def EVREC_EPOCH : Fld := ⟨0x200e0068, 31, 0⟩
/-- R498: [31:0], RO. -/
def EVREC_DROP : Fld := ⟨0x200e006c, 31, 0⟩
/-- R498: [31:0], RO. -/
def EVREC_OPSEC_LO : Fld := ⟨0x200e0070, 31, 0⟩
/-- R498: [25:16], RO. -/
def EVREC_MS : Fld := ⟨0x200e0074, 25, 16⟩
/-- R498: [7:0], RO. -/
def EVREC_OPSEC_HI : Fld := ⟨0x200e0074, 7, 0⟩
/-- R498: [31:0], RO. -/
def EVREC_PWRCYC : Fld := ⟨0x200e0078, 31, 0⟩
/-- R498: [8:0], RO. -/
def EVREC_CLEARS : Fld := ⟨0x200e007c, 8, 0⟩
/-- R498: [23:16], RO. -/
def EVREC_PROGRESS : Fld := ⟨0x200e0080, 23, 16⟩
/-- R498: [15:0], RO. -/
def EVREC_AGE : Fld := ⟨0x200e0080, 15, 0⟩
/-- R498: [31:16], RW. -/
def EVREC_SOURCE : Fld := ⟨0x200e0090, 31, 16⟩
/-- R498: [15:0], RW. -/
def EVREC_CODE : Fld := ⟨0x200e0090, 15, 0⟩
/-- R498: [31:0], RW. -/
def EVREC_DATA_LO : Fld := ⟨0x200e0094, 31, 0⟩
/-- R498: [31:0], RW. -/
def EVREC_DATA_HI : Fld := ⟨0x200e0098, 31, 0⟩
/-- R498: [1:0], WO. -/
def EVREC_SEV : Fld := ⟨0x200e009c, 1, 0⟩
/-- R507: [11], W1C. -/
def OPIO_BLK_STICKY_MAP_ERR : Fld := ⟨0x200f000c, 11, 11⟩
/-- R507: [10], W1C. -/
def OPIO_BLK_STICKY_TK_STUCK : Fld := ⟨0x200f000c, 10, 10⟩
/-- R507: [9], W1C. -/
def OPIO_BLK_STICKY_JOIN_FAIL : Fld := ⟨0x200f000c, 9, 9⟩
/-- R507: [8], W1C. -/
def OPIO_BLK_STICKY_HP_GLITCH : Fld := ⟨0x200f000c, 8, 8⟩
/-- R507: [8], RW. -/
def OPIO_FORCE_POL : Fld := ⟨0x200f0060, 8, 8⟩
/-- R507: [7:0], RW. -/
def OPIO_SCAN_MS : Fld := ⟨0x200f0060, 7, 0⟩
/-- R507: [23:0], RO. -/
def OPIO_PRESSED : Fld := ⟨0x200f0064, 23, 0⟩
/-- R507: [23:0], W1C. -/
def OPIO_STUCK : Fld := ⟨0x200f0068, 23, 0⟩
/-- R507: [31], RW. -/
def TK_EN (i : Nat) : Fld := ⟨0x200f0100 + 0x10 * i, 31, 31⟩
/-- R507: [27:24], RWL. -/
def TK_BL_SHIFT (i : Nat) : Fld := ⟨0x200f0100 + 0x10 * i, 27, 24⟩
/-- R507: [19:16], RWL. -/
def TK_DEB (i : Nat) : Fld := ⟨0x200f0100 + 0x10 * i, 19, 16⟩
/-- R507: [15:8], RWL. -/
def TK_STUCK (i : Nat) : Fld := ⟨0x200f0100 + 0x10 * i, 15, 8⟩
/-- R507: [31:16], RWL. -/
def TK_THRESH (i : Nat) : Fld := ⟨0x200f0104 + 0x10 * i, 31, 16⟩
/-- R507: [15:0], RWL. -/
def TK_HYST (i : Nat) : Fld := ⟨0x200f0104 + 0x10 * i, 15, 0⟩
/-- R507: [31], RW. -/
def TK_MAP_EN (i : Nat) : Fld := ⟨0x200f0108 + 0x10 * i, 31, 31⟩
/-- R507: [28:24], RW. -/
def TK_BIT (i : Nat) : Fld := ⟨0x200f0108 + 0x10 * i, 28, 24⟩
/-- R507: [17:0], RW. -/
def TK_INDEX (i : Nat) : Fld := ⟨0x200f0108 + 0x10 * i, 17, 0⟩
/-- R507: [31:16], RO. -/
def TK_BASE (i : Nat) : Fld := ⟨0x200f010c + 0x10 * i, 31, 16⟩
/-- R507: [15:0], RO. -/
def TK_COUNT (i : Nat) : Fld := ⟨0x200f010c + 0x10 * i, 15, 0⟩
/-- R507: [31], RW. -/
def HP_EN (i : Nat) : Fld := ⟨0x200f0400 + 0x10 * i, 31, 31⟩
/-- R507: [30], RWL. -/
def HP_AUTO_PWR (i : Nat) : Fld := ⟨0x200f0400 + 0x10 * i, 30, 30⟩
/-- R507: [29], RWL. -/
def HP_POL (i : Nat) : Fld := ⟨0x200f0400 + 0x10 * i, 29, 29⟩
/-- R507: [23:16], RWL. -/
def HP_DEB (i : Nat) : Fld := ⟨0x200f0400 + 0x10 * i, 23, 16⟩
/-- R507: [15:8], RWL. -/
def HP_PWR_DLY (i : Nat) : Fld := ⟨0x200f0400 + 0x10 * i, 15, 8⟩
/-- R507: [7], RWL. -/
def HP_NODE_EN (i : Nat) : Fld := ⟨0x200f0400 + 0x10 * i, 7, 7⟩
/-- R507: [6:0], RWL. -/
def HP_NODE (i : Nat) : Fld := ⟨0x200f0400 + 0x10 * i, 6, 0⟩
/-- R507: [31:24], RWL. -/
def HP_ADC_MASK (i : Nat) : Fld := ⟨0x200f0404 + 0x10 * i, 31, 24⟩
/-- R507: [15:0], RWL. -/
def HP_JOIN_TMO (i : Nat) : Fld := ⟨0x200f0404 + 0x10 * i, 15, 0⟩
/-- R507: [31:16], RO. -/
def HP_GLITCHES (i : Nat) : Fld := ⟨0x200f0408 + 0x10 * i, 31, 16⟩
/-- R507: [8], RO. -/
def HP_HPEN (i : Nat) : Fld := ⟨0x200f0408 + 0x10 * i, 8, 8⟩
/-- R507: [7], RO. -/
def HP_PIN (i : Nat) : Fld := ⟨0x200f0408 + 0x10 * i, 7, 7⟩
/-- R507: [2:0], RO. -/
def HP_STATE (i : Nat) : Fld := ⟨0x200f0408 + 0x10 * i, 2, 0⟩
/-- R164: [31], RWL. -/
def SLOT_CFG0_AWF (i : Nat) : Fld := ⟨0x21000000 + 0x100 * i, 31, 31⟩
/-- R164: [30], RWL. -/
def SLOT_CFG0_REV (i : Nat) : Fld := ⟨0x21000000 + 0x100 * i, 30, 30⟩
/-- R164: [29], RWL. -/
def SLOT_CFG0_ORDER (i : Nat) : Fld := ⟨0x21000000 + 0x100 * i, 29, 29⟩
/-- R164: [28], RWL. -/
def SLOT_CFG0_MAP (i : Nat) : Fld := ⟨0x21000000 + 0x100 * i, 28, 28⟩
/-- R164: [27:24], RWL. -/
def SLOT_CFG0_TGT_TYPE (i : Nat) : Fld := ⟨0x21000000 + 0x100 * i, 27, 24⟩
/-- R164: [23], RWL. -/
def SLOT_CFG0_ERR_MODE (i : Nat) : Fld := ⟨0x21000000 + 0x100 * i, 23, 23⟩
/-- R164: [22:20], RWL. -/
def SLOT_CFG0_FB_SRC (i : Nat) : Fld := ⟨0x21000000 + 0x100 * i, 22, 20⟩
/-- R164: [19:17], RWL. -/
def SLOT_CFG0_SP_SRC (i : Nat) : Fld := ⟨0x21000000 + 0x100 * i, 19, 17⟩
/-- R164: [16:15], RWL. -/
def SLOT_CFG0_TICK_SRC (i : Nat) : Fld := ⟨0x21000000 + 0x100 * i, 16, 15⟩
/-- R164: [14:11], RWL. -/
def SLOT_CFG0_IN_SHIFT (i : Nat) : Fld := ⟨0x21000000 + 0x100 * i, 14, 11⟩
/-- R164: [10:7], RWL. -/
def SLOT_CFG0_SP_SHIFT (i : Nat) : Fld := ⟨0x21000000 + 0x100 * i, 10, 7⟩
/-- R189: [31], RWL. -/
def SLOT_SUPV_FRZ_EN (i : Nat) : Fld := ⟨0x210000a0 + 0x100 * i, 31, 31⟩
/-- R189: [30], RWL. -/
def SLOT_SUPV_RNG_EN (i : Nat) : Fld := ⟨0x210000a0 + 0x100 * i, 30, 30⟩
/-- R189: [29], RWL. -/
def SLOT_SUPV_RATE_EN (i : Nat) : Fld := ⟨0x210000a0 + 0x100 * i, 29, 29⟩
/-- R189: [27:26], RWL. -/
def SLOT_SUPV_ACT_LOSS (i : Nat) : Fld := ⟨0x210000a0 + 0x100 * i, 27, 26⟩
/-- R189: [25:24], RWL. -/
def SLOT_SUPV_ACT_FRZ (i : Nat) : Fld := ⟨0x210000a0 + 0x100 * i, 25, 24⟩
/-- R189: [23:22], RWL. -/
def SLOT_SUPV_ACT_RNG (i : Nat) : Fld := ⟨0x210000a0 + 0x100 * i, 23, 22⟩
/-- R189: [21:20], RWL. -/
def SLOT_SUPV_ACT_RATE (i : Nat) : Fld := ⟨0x210000a0 + 0x100 * i, 21, 20⟩
/-- R189: [18:16], RWL. -/
def SLOT_SUPV_TRIP_GRP (i : Nat) : Fld := ⟨0x210000a0 + 0x100 * i, 18, 16⟩
/-- R189: [15:8], RWL. -/
def SLOT_SUPV_MISS_LIM (i : Nat) : Fld := ⟨0x210000a0 + 0x100 * i, 15, 8⟩
/-- R189: [7:0], RWL. -/
def SLOT_SUPV_FRESH_N (i : Nat) : Fld := ⟨0x210000a0 + 0x100 * i, 7, 0⟩
/-- R190: [26], W1C. -/
def LOOP_STICKY_INJ_ABORT (i : Nat) : Fld := ⟨0x20072000 + 0x4 * i, 26, 26⟩
/-- R190: [25], W1C. -/
def LOOP_STICKY_INJ_DONE (i : Nat) : Fld := ⟨0x20072000 + 0x4 * i, 25, 25⟩
/-- R190: [24], W1C. -/
def LOOP_STICKY_SV_TRIP (i : Nat) : Fld := ⟨0x20072000 + 0x4 * i, 24, 24⟩
/-- R190: [23], W1C. -/
def LOOP_STICKY_SV_SAFE (i : Nat) : Fld := ⟨0x20072000 + 0x4 * i, 23, 23⟩
/-- R190: [22], W1C. -/
def LOOP_STICKY_RIDE_END (i : Nat) : Fld := ⟨0x20072000 + 0x4 * i, 22, 22⟩
/-- R190: [21], W1C. -/
def LOOP_STICKY_RIDE (i : Nat) : Fld := ⟨0x20072000 + 0x4 * i, 21, 21⟩
/-- R190: [20], W1C. -/
def LOOP_STICKY_HELD (i : Nat) : Fld := ⟨0x20072000 + 0x4 * i, 20, 20⟩
/-- R190: [19], W1C. -/
def LOOP_STICKY_RATE (i : Nat) : Fld := ⟨0x20072000 + 0x4 * i, 19, 19⟩
/-- R190: [18], W1C. -/
def LOOP_STICKY_RANGE (i : Nat) : Fld := ⟨0x20072000 + 0x4 * i, 18, 18⟩
/-- R190: [17], W1C. -/
def LOOP_STICKY_FROZEN (i : Nat) : Fld := ⟨0x20072000 + 0x4 * i, 17, 17⟩
/-- R190: [16], W1C. -/
def LOOP_STICKY_STALE (i : Nat) : Fld := ⟨0x20072000 + 0x4 * i, 16, 16⟩
/-- R245: [31], RWL. -/
def AX_CFG_STEPPER (i : Nat) : Fld := ⟨0x20081000 + 0x100 * i, 31, 31⟩
/-- R245: [30], RWL. -/
def AX_CFG_SOFTLIM_EN (i : Nat) : Fld := ⟨0x20081000 + 0x100 * i, 30, 30⟩
/-- R245: [29:24], RWL. -/
def AX_CFG_SERVO_DIV (i : Nat) : Fld := ⟨0x20081000 + 0x100 * i, 29, 24⟩
/-- R245: [23:20], RWL. -/
def AX_CFG_STEP_TAB (i : Nat) : Fld := ⟨0x20081000 + 0x100 * i, 23, 20⟩
/-- R245: [19:16], RWL. -/
def AX_CFG_STO_GRP (i : Nat) : Fld := ⟨0x20081000 + 0x100 * i, 19, 16⟩
/-- R245: [15:8], RWL. -/
def AX_CFG_HOLD_DLY (i : Nat) : Fld := ⟨0x20081000 + 0x100 * i, 15, 8⟩
/-- R245: [1:0], RWL. -/
def AX_CFG_TGT (i : Nat) : Fld := ⟨0x20081000 + 0x100 * i, 1, 0⟩
/-- R245: [10], W1C. -/
def AX_STICKY_STO_STOP (i : Nat) : Fld := ⟨0x20081064 + 0x100 * i, 10, 10⟩
/-- R245: [9], W1C. -/
def AX_STICKY_SOFT_LIM (i : Nat) : Fld := ⟨0x20081064 + 0x100 * i, 9, 9⟩
/-- R245: [8], W1C. -/
def AX_STICKY_FOLLOW_LIM (i : Nat) : Fld := ⟨0x20081064 + 0x100 * i, 8, 8⟩
/-- R245: [7], W1C. -/
def AX_STICKY_FE_FAULT (i : Nat) : Fld := ⟨0x20081064 + 0x100 * i, 7, 7⟩
/-- R245: [6], W1C. -/
def AX_STICKY_FE_WARN (i : Nat) : Fld := ⟨0x20081064 + 0x100 * i, 6, 6⟩
/-- R245: [5], W1C. -/
def AX_STICKY_BLEND_MISS (i : Nat) : Fld := ⟨0x20081064 + 0x100 * i, 5, 5⟩
/-- R245: [4], W1C. -/
def AX_STICKY_RES_CHANGE (i : Nat) : Fld := ⟨0x20081064 + 0x100 * i, 4, 4⟩
/-- R245: [3], W1C. -/
def AX_STICKY_REQ_REFUSED (i : Nat) : Fld := ⟨0x20081064 + 0x100 * i, 3, 3⟩
/-- R245: [2], W1C. -/
def AX_STICKY_MOVE_DONE (i : Nat) : Fld := ⟨0x20081064 + 0x100 * i, 2, 2⟩
/-- R61: [31:12], RWL. -/
def Q_CQ_BASE_LO_BASE (i : Nat) : Fld := ⟨0x20111008 + 0x40 * i, 31, 12⟩
/-- R61: [31:0], RWL. -/
def Q_CQ_BASE_HI_BASE (i : Nat) : Fld := ⟨0x2011100c + 0x40 * i, 31, 0⟩
/-- R63: [23:16], RO. -/
def STAT_RESET_CAUSE_FIRST : Fld := ⟨0x20112004, 23, 16⟩
/-- R63: [5], RO. -/
def STAT_RESET_CAUSE_DBG : Fld := ⟨0x20112004, 5, 5⟩
/-- R63: [4], RO. -/
def STAT_RESET_CAUSE_PLL_LOSS : Fld := ⟨0x20112004, 4, 4⟩
/-- R63: [3], RO. -/
def STAT_RESET_CAUSE_SWRST : Fld := ⟨0x20112004, 3, 3⟩
/-- R63: [2], RO. -/
def STAT_RESET_CAUSE_WDOG : Fld := ⟨0x20112004, 2, 2⟩
/-- R63: [1], RO. -/
def STAT_RESET_CAUSE_PIN : Fld := ⟨0x20112004, 1, 1⟩
/-- R63: [0], RO. -/
def STAT_RESET_CAUSE_POR : Fld := ⟨0x20112004, 0, 0⟩
/-- R165: [31:0], RWL. -/
def MDL_FMT (i : Nat) : Fld := ⟨0x21020000 + 0x200 * i, 31, 0⟩
/-- R165: [31:0], RWL. -/
def MDL_R2 (i : Nat) : Fld := ⟨0x21020004 + 0x200 * i, 31, 0⟩
/-- R165: [31:0], RWL. -/
def MDL_FB2_SEL (i : Nat) : Fld := ⟨0x21020008 + 0x200 * i, 31, 0⟩
/-- R165: [31:0], RWL. -/
def MDL_TGT2_SEL (i : Nat) : Fld := ⟨0x2102000c + 0x200 * i, 31, 0⟩
/-- R165: [31:0], RWL. -/
def MDL_A (i j : Nat) : Fld := ⟨0x21020010 + 0x200 * i + 0x4 * j, 31, 0⟩
/-- R165: [31:0], RWL. -/
def MDL_B (i j : Nat) : Fld := ⟨0x210200a0 + 0x200 * i + 0x4 * j, 31, 0⟩
/-- R165: [31:0], RWL. -/
def MDL_L (i j : Nat) : Fld := ⟨0x210200d0 + 0x200 * i + 0x4 * j, 31, 0⟩
/-- R165: [31:0], RWL. -/
def MDL_C (i j : Nat) : Fld := ⟨0x21020100 + 0x200 * i + 0x4 * j, 31, 0⟩
/-- R165: [31:0], RWL. -/
def MDL_K (i j : Nat) : Fld := ⟨0x21020130 + 0x200 * i + 0x4 * j, 31, 0⟩
/-- R165: [31:0], RWL. -/
def MDL_N (i j : Nat) : Fld := ⟨0x21020160 + 0x200 * i + 0x4 * j, 31, 0⟩
/-- R165: [31:0], RWL. -/
def MDL_X (i j : Nat) : Fld := ⟨0x21020170 + 0x200 * i + 0x4 * j, 31, 0⟩
/-- R165: [31:0], RWL. -/
def MDL_CRC (i : Nat) : Fld := ⟨0x21020188 + 0x200 * i, 31, 0⟩
/-- R191: [31:0], RO. -/
def INJ_BUF (i j : Nat) : Fld := ⟨0x20079000 + 0x1000 * i + 0x4 * j, 31, 0⟩
/-- R245: [31:0], STG. -/
def AXL_VMAX (n : Nat) : Fld := ⟨0x2008a000 + 0x1000 * (n / 32) + 0x40 * (n % 32), 31, 0⟩
/-- R245: [31:0], STG. -/
def AXL_AMAX (n : Nat) : Fld := ⟨0x2008a004 + 0x1000 * (n / 32) + 0x40 * (n % 32), 31, 0⟩
/-- R245: [31:0], STG. -/
def AXL_DMAX (n : Nat) : Fld := ⟨0x2008a008 + 0x1000 * (n / 32) + 0x40 * (n % 32), 31, 0⟩
/-- R245: [31:0], STG. -/
def AXL_JMAX (n : Nat) : Fld := ⟨0x2008a00c + 0x1000 * (n / 32) + 0x40 * (n % 32), 31, 0⟩
/-- R245: [31:0], STG. -/
def AXL_QDEC (n : Nat) : Fld := ⟨0x2008a010 + 0x1000 * (n / 32) + 0x40 * (n % 32), 31, 0⟩
/-- R245: [31:0], STG. -/
def AXL_BLEND_TOL (n : Nat) : Fld := ⟨0x2008a014 + 0x1000 * (n / 32) + 0x40 * (n % 32), 31, 0⟩
/-- R245: [31:0], STG. -/
def AXL_FE_WARN (n : Nat) : Fld := ⟨0x2008a018 + 0x1000 * (n / 32) + 0x40 * (n % 32), 31, 0⟩
/-- R245: [31:0], STG. -/
def AXL_FE_LIM (n : Nat) : Fld := ⟨0x2008a01c + 0x1000 * (n / 32) + 0x40 * (n % 32), 31, 0⟩
/-- R245: [31:0], STG. -/
def AXL_POS_MIN (n : Nat) : Fld := ⟨0x2008a020 + 0x1000 * (n / 32) + 0x40 * (n % 32), 31, 0⟩
/-- R245: [31:0], STG. -/
def AXL_POS_MAX (n : Nat) : Fld := ⟨0x2008a024 + 0x1000 * (n / 32) + 0x40 * (n % 32), 31, 0⟩
/-- R237: [31:0], RWL. -/
def MS_TAB (i : Nat) : Fld := ⟨0x20088000 + 0x4 * i, 31, 0⟩
/-- R245: [31:0], RWL. -/
def SPD_UP (i j : Nat) : Fld := ⟨0x20089000 + 0x40 * i + 0x8 * j, 31, 0⟩
/-- R245: [31:0], RWL. -/
def SPD_DN (i j : Nat) : Fld := ⟨0x20089004 + 0x40 * i + 0x8 * j, 31, 0⟩
/-- R327: [31:0], RO. -/
def SCHED_PF (i : Nat) : Fld := ⟨0x20030400 + 0x4 * i, 31, 0⟩
/-- R236: [31:0], RWL. -/
def CAM_PT (i j : Nat) : Fld := ⟨0x21200000 + 0x8000 * i + 0x4 * j, 31, 0⟩

end Sys2Proof.Machine.F
end

