-- ==== Sys2Proof/Machine/RegTable.lean ====
section
/-! DEFINITION. The register maps of spec/ as data: for every register its address, the strides and counts of
its indices, and its fields with access type (R11) and reset value (R12). Written from the register tables by
script. OTP- and MRAM-sourced fields (R12) carry 0 here: State holds their source. -/

namespace Sys2Proof.Machine.RegTable
open Sys2Proof.Machine

/-- Registers of SYS, part 0. -/
def sysRows0 : List RegRow := [
  ⟨0xc, [], [⟨12, 12, .w1c, 0x0⟩, ⟨11, 11, .w1c, 0x0⟩, ⟨10, 10, .w1c, 0x0⟩, ⟨9, 9, .w1c, 0x0⟩, ⟨8, 8, .w1c, 0x0⟩]⟩,
  ⟨0x60, [], [⟨23, 16, .ro, 0x1⟩, ⟨5, 5, .w1c, 0x0⟩, ⟨4, 4, .w1c, 0x0⟩, ⟨3, 3, .w1c, 0x0⟩, ⟨2, 2, .w1c, 0x0⟩, ⟨1, 1, .w1c, 0x0⟩, ⟨0, 0, .w1c, 0x1⟩]⟩,
  ⟨0x64, [], [⟨15, 8, .ro, 0x0⟩, ⟨7, 0, .ro, 0x0⟩]⟩,
  ⟨0x68, [], [⟨5, 5, .ro, 0x0⟩, ⟨4, 4, .ro, 0x0⟩, ⟨3, 3, .ro, 0x0⟩, ⟨2, 2, .ro, 0x0⟩, ⟨1, 1, .ro, 0x0⟩, ⟨0, 0, .ro, 0x0⟩]⟩,
  ⟨0x70, [], [⟨31, 31, .w1s, 0x0⟩, ⟨15, 0, .rw, 0x3e8⟩]⟩,
  ⟨0x74, [], [⟨31, 0, .wo, 0x0⟩]⟩,
  ⟨0x78, [], [⟨31, 0, .wo, 0x0⟩]⟩,
  ⟨0x7c, [], [⟨0, 0, .w1s, 0x0⟩]⟩,
  ⟨0x80, [], [⟨1, 1, .ro, 0x0⟩, ⟨0, 0, .ro, 0x0⟩]⟩,
  ⟨0x84, [], [⟨31, 0, .ro, 0x0⟩]⟩]
/-- Every register of SYS beside the common ones. -/
def sysRows : List RegRow := sysRows0

/-- Registers of SEC, part 0. -/
def secRows0 : List RegRow := [
  ⟨0x8, [], [⟨15, 14, .ro, 0x0⟩, ⟨12, 12, .ro, 0x0⟩, ⟨11, 11, .ro, 0x0⟩, ⟨10, 10, .ro, 0x0⟩, ⟨9, 9, .ro, 0x0⟩, ⟨8, 8, .ro, 0x0⟩]⟩,
  ⟨0xc, [], [⟨12, 12, .w1c, 0x0⟩, ⟨11, 11, .w1c, 0x0⟩, ⟨10, 10, .w1c, 0x0⟩, ⟨9, 9, .w1c, 0x0⟩, ⟨8, 8, .w1c, 0x0⟩]⟩,
  ⟨0x60, [], [⟨23, 16, .ro, 0x0⟩, ⟨7, 0, .ro, 0x0⟩]⟩,
  ⟨0x64, [], [⟨7, 0, .ro, 0x0⟩]⟩,
  ⟨0x68, [], [⟨2, 0, .ro, 0x0⟩]⟩,
  ⟨0x6c, [], [⟨31, 0, .ro, 0x0⟩]⟩,
  ⟨0x70, [], [⟨31, 24, .ro, 0x0⟩, ⟨23, 16, .ro, 0x0⟩, ⟨15, 8, .ro, 0x0⟩, ⟨5, 4, .ro, 0x0⟩, ⟨1, 0, .ro, 0x0⟩]⟩,
  ⟨0x74, [], [⟨5, 0, .ro, 0x0⟩]⟩,
  ⟨0x80, [], [⟨31, 31, .w1s, 0x0⟩, ⟨7, 0, .rw, 0x0⟩]⟩,
  ⟨0x84, [], [⟨31, 0, .rw, 0x0⟩]⟩,
  ⟨0x88, [], [⟨31, 0, .rw, 0x0⟩]⟩,
  ⟨0x8c, [], [⟨31, 0, .rw, 0x0⟩]⟩,
  ⟨0x90, [], [⟨3, 0, .ro, 0x0⟩]⟩,
  ⟨0xa0, [(0x4, 12)], [⟨31, 0, .ro, 0x0⟩]⟩,
  ⟨0x1000, [(0x4, 512)], [⟨31, 0, .ro, 0x0⟩]⟩]
/-- Every register of SEC beside the common ones. -/
def secRows : List RegRow := secRows0

/-- Registers of IRQ, part 0. -/
def irqRows0 : List RegRow := [
  ⟨0x8, [], [⟨9, 8, .ro, 0x0⟩]⟩,
  ⟨0xc, [], [⟨10, 10, .w1c, 0x0⟩, ⟨9, 9, .w1c, 0x0⟩, ⟨8, 8, .w1c, 0x0⟩]⟩,
  ⟨0x60, [], [⟨1, 0, .wo, 0x0⟩]⟩,
  ⟨0x64, [], [⟨11, 8, .ro, 0x0⟩]⟩,
  ⟨0x68, [], [⟨31, 0, .rw, 0x0⟩]⟩,
  ⟨0x6c, [], [⟨31, 0, .rw, 0x0⟩]⟩,
  ⟨0x70, [], [⟨31, 0, .w1c, 0x0⟩]⟩,
  ⟨0x74, [], [⟨8, 8, .ro, 0x0⟩, ⟨4, 0, .ro, 0x0⟩]⟩,
  ⟨0x78, [], [⟨31, 0, .ro, 0x0⟩]⟩,
  ⟨0x7c, [], [⟨31, 0, .ro, 0x0⟩]⟩,
  ⟨0x100, [(0x4, 12)], [⟨31, 0, .w1s, 0x0⟩]⟩,
  ⟨0x140, [(0x4, 12)], [⟨31, 0, .ro, 0x0⟩]⟩,
  ⟨0x180, [(0x4, 12)], [⟨31, 0, .ro, 0x0⟩]⟩,
  ⟨0x200, [(0x10, 9)], [⟨3, 0, .rw, 0x0⟩]⟩,
  ⟨0x204, [(0x10, 9)], [⟨31, 31, .ro, 0x0⟩, ⟨8, 0, .ro, 0x0⟩]⟩,
  ⟨0x208, [(0x10, 9)], [⟨8, 0, .wo, 0x0⟩]⟩,
  ⟨0x20c, [(0x10, 9)], [⟨31, 0, .ro, 0x0⟩]⟩,
  ⟨0x400, [(0x10, 32)], [⟨31, 16, .rw, 0x0⟩, ⟨7, 0, .rw, 0x1⟩]⟩,
  ⟨0x404, [(0x10, 32)], [⟨31, 31, .ro, 0x0⟩, ⟨7, 0, .ro, 0x0⟩]⟩,
  ⟨0x408, [(0x10, 32)], [⟨31, 0, .ro, 0x0⟩]⟩,
  ⟨0x1000, [(0x4, 384)], [⟨31, 31, .rw, 0x0⟩, ⟨28, 28, .rw, 0x0⟩, ⟨27, 24, .rw, 0x0⟩, ⟨23, 20, .rw, 0x0⟩, ⟨13, 8, .rw, 0x0⟩, ⟨7, 7, .rw, 0x0⟩, ⟨4, 0, .rw, 0x0⟩]⟩]
/-- Every register of IRQ beside the common ones. -/
def irqRows : List RegRow := irqRows0

/-- Registers of SCHED, part 0. -/
def schedRows0 : List RegRow := [
  ⟨0x4, [], [⟨1, 1, .rwl, 0x0⟩]⟩,
  ⟨0x8, [], [⟨8, 8, .ro, 0x0⟩]⟩,
  ⟨0xc, [], [⟨8, 8, .w1c, 0x0⟩]⟩,
  ⟨0x60, [], [⟨15, 0, .rwl, 0x0⟩]⟩,
  ⟨0x80, [(0x4, 16)], [⟨31, 0, .rwl, 0x0⟩]⟩,
  ⟨0xc0, [(0x4, 16)], [⟨31, 31, .rw, 0x0⟩, ⟨12, 8, .rw, 0x0⟩, ⟨7, 0, .rw, 0x0⟩]⟩,
  ⟨0x200, [(0x20, 8)], [⟨9, 9, .wo, 0x0⟩, ⟨8, 8, .wo, 0x0⟩, ⟨3, 0, .wo, 0x0⟩]⟩,
  ⟨0x204, [(0x20, 8)], [⟨31, 0, .rw, 0x0⟩]⟩,
  ⟨0x208, [(0x20, 8)], [⟨31, 0, .rw, 0x0⟩]⟩,
  ⟨0x20c, [(0x20, 8)], [⟨8, 8, .ro, 0x0⟩, ⟨3, 0, .ro, 0x0⟩]⟩,
  ⟨0x210, [(0x20, 8)], [⟨31, 0, .ro, 0x0⟩]⟩,
  ⟨0x214, [(0x20, 8)], [⟨31, 31, .ro, 0x0⟩, ⟨19, 16, .ro, 0x0⟩, ⟨7, 0, .ro, 0x0⟩]⟩,
  ⟨0x218, [(0x20, 8)], [⟨31, 0, .ro, 0x0⟩]⟩,
  ⟨0x21c, [(0x20, 8)], [⟨8, 8, .ro, 0x0⟩, ⟨7, 0, .ro, 0x0⟩]⟩,
  ⟨0x400, [(0x4, 8)], [⟨31, 0, .ro, 0x0⟩]⟩]
/-- Every register of SCHED beside the common ones. -/
def schedRows : List RegRow := schedRows0

/-- Registers of TIME, part 0. -/
def timeRows0 : List RegRow := [
  ⟨0x8, [], [⟨13, 12, .ro, 0x0⟩, ⟨10, 8, .ro, 0x0⟩]⟩,
  ⟨0xc, [], [⟨13, 13, .w1c, 0x0⟩, ⟨12, 12, .w1c, 0x0⟩, ⟨11, 11, .w1c, 0x0⟩, ⟨10, 10, .w1c, 0x0⟩, ⟨9, 9, .w1c, 0x0⟩, ⟨8, 8, .w1c, 0x0⟩]⟩,
  ⟨0x100, [], [⟨31, 0, .ro, 0x0⟩]⟩,
  ⟨0x104, [], [⟨31, 0, .ro, 0x0⟩]⟩,
  ⟨0x108, [], [⟨31, 24, .rw, 0xa⟩, ⟨10, 8, .rw, 0x0⟩, ⟨2, 0, .rw, 0x0⟩]⟩,
  ⟨0x10c, [], [⟨31, 16, .rw, 0x3e8⟩, ⟨15, 8, .rw, 0x32⟩, ⟨7, 4, .rw, 0x4⟩, ⟨3, 0, .rw, 0x2⟩]⟩,
  ⟨0x110, [], [⟨31, 0, .rw, 0x0⟩]⟩,
  ⟨0x114, [], [⟨31, 0, .ro, 0x0⟩]⟩,
  ⟨0x118, [], [⟨31, 0, .wo, 0x0⟩]⟩,
  ⟨0x120, [], [⟨31, 0, .wo, 0x0⟩]⟩,
  ⟨0x124, [], [⟨31, 0, .wo, 0x0⟩]⟩,
  ⟨0x128, [], [⟨0, 0, .rw, 0x0⟩]⟩,
  ⟨0x130, [], [⟨23, 0, .ro, 0x0⟩]⟩,
  ⟨0x134, [], [⟨23, 0, .ro, 0x0⟩]⟩,
  ⟨0x138, [], [⟨31, 0, .rw, 0x0⟩]⟩,
  ⟨0x13c, [], [⟨31, 0, .rw, 0x0⟩]⟩,
  ⟨0x400, [(0x20, 32)], [⟨1, 1, .rwl, 0x0⟩, ⟨0, 0, .rw, 0x0⟩]⟩,
  ⟨0x404, [(0x20, 32)], [⟨31, 0, .rwl, 0x0⟩]⟩,
  ⟨0x408, [(0x20, 32)], [⟨31, 0, .rwl, 0x0⟩]⟩,
  ⟨0x40c, [(0x20, 32)], [⟨31, 0, .rwl, 0x0⟩]⟩,
  ⟨0x410, [(0x20, 32)], [⟨31, 24, .rw, 0x0⟩, ⟨23, 8, .rw, 0x0⟩, ⟨7, 0, .rw, 0x0⟩]⟩,
  ⟨0x414, [(0x20, 32)], [⟨23, 23, .rw, 0x0⟩, ⟨22, 22, .rw, 0x0⟩, ⟨21, 16, .rw, 0x0⟩, ⟨15, 0, .rw, 0x1⟩]⟩,
  ⟨0x418, [(0x20, 32)], [⟨31, 16, .ro, 0x0⟩, ⟨0, 0, .ro, 0x0⟩]⟩,
  ⟨0x900, [(0x10, 32)], [⟨31, 24, .rwl, 0x0⟩, ⟨23, 16, .rw, 0x0⟩, ⟨9, 9, .rw, 0x0⟩, ⟨2, 1, .rwl, 0x0⟩, ⟨0, 0, .rw, 0x0⟩]⟩,
  ⟨0x904, [(0x10, 32)], [⟨31, 0, .ro, 0x0⟩]⟩,
  ⟨0x908, [(0x10, 32)], [⟨31, 0, .ro, 0x0⟩]⟩,
  ⟨0x90c, [(0x10, 32)], [⟨31, 16, .ro, 0x0⟩, ⟨8, 8, .w1c, 0x0⟩, ⟨7, 7, .ro, 0x0⟩, ⟨2, 0, .ro, 0x0⟩]⟩]
/-- Every register of TIME beside the common ones. -/
def timeRows : List RegRow := timeRows0

/-- Registers of ADC, part 0. -/
def adcRows0 : List RegRow := [
  ⟨0x8, [], [⟨31, 24, .ro, 0x0⟩, ⟨23, 16, .ro, 0x0⟩, ⟨8, 8, .ro, 0x0⟩]⟩,
  ⟨0xc, [], [⟨31, 24, .w1c, 0x0⟩, ⟨23, 16, .w1c, 0x0⟩, ⟨15, 8, .w1c, 0x0⟩]⟩,
  ⟨0x60, [], [⟨1, 0, .rw, 0x0⟩]⟩,
  ⟨0x64, [], [⟨7, 0, .wo, 0x0⟩]⟩,
  ⟨0x100, [(0x80, 8)], [⟨4, 0, .stg, 0x1⟩]⟩,
  ⟨0x104, [(0x80, 8), (0x4, 16)], [⟨19, 18, .stg, 0x0⟩, ⟨17, 17, .stg, 0x0⟩, ⟨16, 16, .stg, 0x0⟩, ⟨15, 8, .stg, 0x0⟩, ⟨5, 0, .stg, 0x0⟩]⟩,
  ⟨0x1000, [(0x100, 8)], [⟨29, 24, .rwl, 0x0⟩, ⟨20, 16, .rwl, 0x0⟩, ⟨1, 1, .w1s, 0x0⟩, ⟨0, 0, .rw, 0x0⟩]⟩,
  ⟨0x1004, [(0x100, 8)], [⟨31, 16, .ro, 0x0⟩, ⟨15, 8, .ro, 0x0⟩, ⟨7, 4, .w1c, 0x0⟩, ⟨0, 0, .ro, 0x0⟩]⟩,
  ⟨0x1008, [(0x100, 8)], [⟨31, 0, .ro, 0x80000000⟩]⟩,
  ⟨0x100c, [(0x100, 8)], [⟨31, 0, .ro, 0x0⟩]⟩,
  ⟨0x1010, [(0x100, 8)], [⟨31, 0, .ro, 0x0⟩]⟩,
  ⟨0x1014, [(0x100, 8)], [⟨22, 16, .rw, 0x0⟩, ⟨6, 0, .ro, 0x0⟩]⟩,
  ⟨0x1018, [(0x100, 8)], [⟨31, 0, .ro, 0x0⟩]⟩,
  ⟨0x101c, [(0x100, 8)], [⟨31, 0, .ro, 0x0⟩]⟩,
  ⟨0x1020, [(0x100, 8)], [⟨31, 0, .ro, 0x0⟩]⟩,
  ⟨0x1024, [(0x100, 8)], [⟨31, 0, .ro, 0x40000000⟩]⟩,
  ⟨0x1040, [(0x100, 8), (0x4, 16)], [⟨15, 0, .ro, 0x0⟩]⟩,
  ⟨0x1080, [(0x100, 8), (0x4, 16)], [⟨31, 0, .ro, 0x0⟩]⟩,
  ⟨0x10c0, [(0x100, 8), (0x8, 4)], [⟨31, 16, .rw, 0xffff⟩, ⟨15, 0, .rw, 0x0⟩]⟩,
  ⟨0x10c4, [(0x100, 8), (0x8, 4)], [⟨31, 31, .ro, 0x0⟩, ⟨11, 8, .rw, 0x0⟩, ⟨3, 3, .rw, 0x0⟩, ⟨2, 2, .rw, 0x0⟩, ⟨1, 1, .rw, 0x0⟩, ⟨0, 0, .rw, 0x0⟩]⟩]
/-- Every register of ADC beside the common ones. -/
def adcRows : List RegRow := adcRows0

/-- Registers of PWM, part 0. -/
def pwmRows0 : List RegRow := [
  ⟨0x8, [], [⟨8, 8, .ro, 0x0⟩]⟩,
  ⟨0xc, [], [⟨12, 12, .w1c, 0x0⟩, ⟨11, 11, .w1c, 0x0⟩, ⟨10, 10, .w1c, 0x0⟩, ⟨9, 9, .w1c, 0x0⟩, ⟨8, 8, .w1c, 0x0⟩]⟩,
  ⟨0x60, [], [⟨31, 0, .wo, 0x0⟩]⟩,
  ⟨0x64, [], [⟨31, 0, .wo, 0x0⟩]⟩,
  ⟨0x80, [(0x4, 16)], [⟨8, 8, .rwl, 0x0⟩, ⟨7, 0, .rwl, 0x0⟩]⟩,
  ⟨0xc0, [], [⟨31, 24, .ro, 0x0⟩, ⟨15, 0, .ro, 0x0⟩]⟩,
  ⟨0xc4, [], [⟨31, 0, .ro, 0x0⟩]⟩,
  ⟨0x100, [(0x20, 48)], [⟨20, 16, .stg, 0x7⟩, ⟨13, 8, .stg, 0x0⟩, ⟨5, 4, .stg, 0x0⟩, ⟨3, 3, .stg, 0x0⟩, ⟨2, 2, .stg, 0x0⟩, ⟨1, 1, .stg, 0x0⟩, ⟨0, 0, .stg, 0x0⟩]⟩,
  ⟨0x104, [(0x20, 48)], [⟨15, 0, .stg, 0x64⟩]⟩,
  ⟨0x108, [(0x20, 48)], [⟨7, 6, .stg, 0x0⟩, ⟨5, 4, .stg, 0x0⟩, ⟨3, 2, .stg, 0x2⟩, ⟨1, 0, .stg, 0x2⟩]⟩,
  ⟨0x10c, [(0x20, 48)], [⟨23, 16, .stg, 0x0⟩, ⟨15, 0, .stg, 0x0⟩]⟩,
  ⟨0x110, [(0x20, 48)], [⟨31, 0, .stg, 0x0⟩]⟩,
  ⟨0x114, [(0x20, 48)], [⟨11, 11, .rwl, 0x1⟩, ⟨10, 8, .rwl, 0x0⟩, ⟨3, 0, .rwl, 0xf⟩]⟩,
  ⟨0x1000, [(0x40, 48)], [⟨3, 3, .w1s, 0x0⟩, ⟨2, 2, .w1s, 0x0⟩, ⟨0, 0, .rw, 0x0⟩]⟩,
  ⟨0x1004, [(0x40, 48)], [⟨31, 16, .ro, 0x0⟩, ⟨15, 15, .ro, 0x0⟩, ⟨14, 14, .ro, 0x0⟩, ⟨13, 13, .ro, 0x0⟩, ⟨12, 12, .ro, 0x0⟩, ⟨11, 11, .ro, 0x0⟩, ⟨10, 10, .ro, 0x0⟩, ⟨7, 7, .w1c, 0x0⟩, ⟨6, 6, .w1c, 0x0⟩, ⟨5, 5, .w1c, 0x0⟩, ⟨4, 4, .w1c, 0x0⟩, ⟨2, 2, .ro, 0x0⟩, ⟨1, 1, .ro, 0x0⟩, ⟨0, 0, .ro, 0x0⟩]⟩,
  ⟨0x1008, [(0x40, 48)], [⟨23, 0, .ro, 0x0⟩]⟩,
  ⟨0x100c, [(0x40, 48)], [⟨4, 0, .ro, 0x0⟩]⟩,
  ⟨0x1010, [(0x40, 48)], [⟨23, 0, .rw, 0xfa0⟩]⟩,
  ⟨0x1014, [(0x40, 48)], [⟨28, 0, .rw, 0x0⟩]⟩,
  ⟨0x1018, [(0x40, 48)], [⟨28, 0, .rw, 0x0⟩]⟩,
  ⟨0x101c, [(0x40, 48)], [⟨23, 0, .rw, 0x0⟩]⟩,
  ⟨0x1020, [(0x40, 48)], [⟨11, 0, .rw, 0x0⟩]⟩,
  ⟨0x1024, [(0x40, 48)], [⟨23, 0, .ro, 0xfa0⟩]⟩,
  ⟨0x1028, [(0x40, 48)], [⟨28, 0, .ro, 0x0⟩]⟩,
  ⟨0x102c, [(0x40, 48)], [⟨28, 0, .ro, 0x0⟩]⟩,
  ⟨0x1030, [(0x40, 48)], [⟨23, 0, .ro, 0x0⟩]⟩,
  ⟨0x1034, [(0x40, 48)], [⟨11, 0, .ro, 0x0⟩]⟩]
/-- Every register of PWM beside the common ones. -/
def pwmRows : List RegRow := pwmRows0

/-- Registers of LOOP, part 0. -/
def loopRows0 : List RegRow := [
  ⟨0x8, [], [⟨21, 16, .ro, 0x0⟩]⟩,
  ⟨0xc, [], [⟨8, 8, .w1c, 0x0⟩]⟩,
  ⟨0x100, [(0x4, 16)], [⟨31, 0, .ro, 0x0⟩]⟩,
  ⟨0x1000, [(0x8, 512)], [⟨31, 28, .wo, 0x0⟩]⟩,
  ⟨0x1004, [(0x8, 512)], [⟨31, 16, .ro, 0x0⟩, ⟨6, 4, .ro, 0x0⟩, ⟨2, 0, .ro, 0x0⟩]⟩,
  ⟨0x2000, [(0x4, 512)], [⟨7, 7, .w1c, 0x0⟩, ⟨6, 6, .w1c, 0x0⟩, ⟨5, 5, .w1c, 0x0⟩, ⟨4, 4, .w1c, 0x0⟩, ⟨3, 3, .w1c, 0x0⟩, ⟨2, 2, .w1c, 0x0⟩, ⟨1, 1, .w1c, 0x0⟩, ⟨26, 26, .w1c, 0x0⟩, ⟨25, 25, .w1c, 0x0⟩, ⟨24, 24, .w1c, 0x0⟩, ⟨23, 23, .w1c, 0x0⟩, ⟨22, 22, .w1c, 0x0⟩, ⟨21, 21, .w1c, 0x0⟩, ⟨20, 20, .w1c, 0x0⟩, ⟨19, 19, .w1c, 0x0⟩, ⟨18, 18, .w1c, 0x0⟩, ⟨17, 17, .w1c, 0x0⟩, ⟨16, 16, .w1c, 0x0⟩]⟩,
  ⟨0x4000, [(0x1000, 4), (0x10, 128)], [⟨31, 0, .stg, 0x80000000⟩]⟩,
  ⟨0x4004, [(0x1000, 4), (0x10, 128)], [⟨31, 0, .stg, 0x7fffffff⟩]⟩,
  ⟨0x4008, [(0x1000, 4), (0x10, 128)], [⟨31, 0, .stg, 0x0⟩]⟩,
  ⟨0x400c, [(0x1000, 4), (0x10, 128)], [⟨31, 0, .stg, 0x0⟩]⟩,
  ⟨0x8000, [(0x40, 4)], [⟨24, 16, .rwl, 0x0⟩, ⟨9, 8, .rwl, 0x0⟩, ⟨5, 4, .rwl, 0x0⟩, ⟨1, 1, .rwl, 0x0⟩, ⟨0, 0, .w1s, 0x0⟩]⟩,
  ⟨0x8004, [(0x40, 4)], [⟨31, 0, .rwl, 0x0⟩]⟩,
  ⟨0x8008, [(0x40, 4)], [⟨31, 0, .rwl, 0x0⟩]⟩,
  ⟨0x800c, [(0x40, 4)], [⟨31, 16, .rwl, 0x0⟩, ⟨15, 8, .rwl, 0x0⟩]⟩,
  ⟨0x8010, [(0x40, 4)], [⟨31, 0, .ro, 0x0⟩]⟩,
  ⟨0x8018, [(0x40, 4)], [⟨31, 0, .ro, 0x0⟩]⟩,
  ⟨0x801c, [(0x40, 4)], [⟨31, 0, .ro, 0x0⟩]⟩,
  ⟨0x8020, [(0x40, 4)], [⟨31, 0, .ro, 0x0⟩]⟩,
  ⟨0x8024, [(0x40, 4)], [⟨31, 0, .ro, 0x0⟩]⟩,
  ⟨0x8028, [(0x40, 4)], [⟨31, 0, .ro, 0x0⟩]⟩,
  ⟨0x802c, [(0x40, 4)], [⟨15, 12, .ro, 0x0⟩, ⟨10, 10, .ro, 0x0⟩, ⟨9, 9, .ro, 0x0⟩, ⟨8, 8, .ro, 0x0⟩]⟩,
  ⟨0x8030, [(0x40, 4)], [⟨31, 0, .ro, 0x0⟩]⟩,
  ⟨0x8034, [(0x40, 4)], [⟨31, 0, .ro, 0x0⟩]⟩,
  ⟨0x9000, [(0x1000, 4), (0x4, 1020)], [⟨31, 0, .ro, 0x0⟩]⟩]
/-- Every register of LOOP beside the common ones. -/
def loopRows : List RegRow := loopRows0

/-- Registers of MOTION, part 0. -/
def motionRows0 : List RegRow := [
  ⟨0x8, [], [⟨20, 16, .ro, 0x0⟩]⟩,
  ⟨0xc, [], [⟨8, 8, .w1c, 0x0⟩]⟩,
  ⟨0x100, [(0x4, 3)], [⟨31, 0, .ro, 0x0⟩]⟩,
  ⟨0x1000, [(0x100, 96)], [⟨31, 31, .rwl, 0x0⟩, ⟨30, 30, .rwl, 0x0⟩, ⟨29, 24, .rwl, 0x4⟩, ⟨23, 20, .rwl, 0x0⟩, ⟨19, 16, .rwl, 0x0⟩, ⟨15, 8, .rwl, 0xf0⟩, ⟨1, 0, .rwl, 0x0⟩]⟩,
  ⟨0x1004, [(0x100, 96)], [⟨21, 20, .rwl, 0x0⟩, ⟨19, 12, .rwl, 0x0⟩, ⟨8, 0, .rwl, 0x0⟩]⟩,
  ⟨0x1008, [(0x100, 96)], [⟨31, 30, .rwl, 0x0⟩, ⟨27, 24, .rwl, 0x0⟩, ⟨19, 12, .rwl, 0x0⟩, ⟨8, 0, .rwl, 0x0⟩]⟩,
  ⟨0x100c, [(0x100, 96)], [⟨31, 24, .rwl, 0x0⟩, ⟨20, 20, .rwl, 0x0⟩, ⟨16, 16, .rwl, 0x0⟩, ⟨8, 0, .rwl, 0x0⟩]⟩,
  ⟨0x1010, [(0x100, 96)], [⟨31, 0, .rwl, 0x10000000⟩]⟩,
  ⟨0x1014, [(0x100, 96)], [⟨31, 0, .rwl, 0x0⟩]⟩,
  ⟨0x1018, [(0x100, 96)], [⟨31, 0, .rwl, 0x0⟩]⟩,
  ⟨0x101c, [(0x100, 96)], [⟨31, 0, .rwl, 0x0⟩]⟩,
  ⟨0x1020, [(0x100, 96)], [⟨31, 30, .rw, 0x0⟩, ⟨6, 0, .rw, 0x0⟩]⟩,
  ⟨0x1024, [(0x100, 96)], [⟨31, 0, .rw, 0x1⟩]⟩,
  ⟨0x1028, [(0x100, 96)], [⟨31, 0, .rw, 0x1⟩]⟩,
  ⟨0x102c, [(0x100, 96)], [⟨31, 0, .rw, 0x100⟩]⟩,
  ⟨0x1030, [(0x100, 96)], [⟨4, 0, .rw, 0x0⟩]⟩,
  ⟨0x1034, [(0x100, 96)], [⟨31, 0, .rw, 0x0⟩]⟩,
  ⟨0x1038, [(0x100, 96)], [⟨31, 0, .rw, 0x0⟩]⟩,
  ⟨0x103c, [(0x100, 96)], [⟨31, 0, .rw, 0x0⟩]⟩,
  ⟨0x1040, [(0x100, 96)], [⟨31, 28, .wo, 0x0⟩]⟩,
  ⟨0x1044, [(0x100, 96)], [⟨31, 16, .ro, 0x0⟩, ⟨15, 11, .ro, 0x0⟩, ⟨10, 8, .ro, 0x0⟩, ⟨7, 7, .ro, 0x0⟩, ⟨2, 0, .ro, 0x0⟩]⟩,
  ⟨0x1048, [(0x100, 96)], [⟨31, 0, .ro, 0x0⟩]⟩,
  ⟨0x104c, [(0x100, 96)], [⟨31, 0, .ro, 0x0⟩]⟩,
  ⟨0x1050, [(0x100, 96)], [⟨31, 0, .ro, 0x0⟩]⟩,
  ⟨0x1054, [(0x100, 96)], [⟨31, 0, .ro, 0x0⟩]⟩,
  ⟨0x1058, [(0x100, 96)], [⟨31, 0, .ro, 0x0⟩]⟩,
  ⟨0x105c, [(0x100, 96)], [⟨31, 0, .ro, 0x0⟩]⟩,
  ⟨0x1060, [(0x100, 96)], [⟨31, 0, .ro, 0x0⟩]⟩,
  ⟨0x1064, [(0x100, 96)], [⟨10, 10, .w1c, 0x0⟩, ⟨9, 9, .w1c, 0x0⟩, ⟨8, 8, .w1c, 0x0⟩, ⟨7, 7, .w1c, 0x0⟩, ⟨6, 6, .w1c, 0x0⟩, ⟨5, 5, .w1c, 0x0⟩, ⟨4, 4, .w1c, 0x0⟩, ⟨3, 3, .w1c, 0x0⟩, ⟨2, 2, .w1c, 0x0⟩]⟩,
  ⟨0x1068, [(0x100, 96)], [⟨31, 0, .ro, 0x0⟩]⟩]
/-- Registers of MOTION, part 1. -/
def motionRows1 : List RegRow := [
  ⟨0x106c, [(0x100, 96)], [⟨31, 0, .ro, 0x0⟩]⟩,
  ⟨0x1070, [(0x100, 96)], [⟨31, 0, .wo, 0x0⟩]⟩,
  ⟨0x1080, [(0x100, 96), (0x4, 8)], [⟨31, 0, .rw, 0x0⟩]⟩,
  ⟨0x8000, [(0x4, 257)], [⟨31, 0, .rwl, 0x0⟩]⟩,
  ⟨0x9000, [(0x40, 16), (0x8, 5)], [⟨31, 0, .rwl, 0xffffffff⟩]⟩,
  ⟨0x9004, [(0x40, 16), (0x8, 5)], [⟨31, 0, .rwl, 0x0⟩]⟩,
  ⟨0xa000, [(0x1000, 3), (0x40, 32)], [⟨31, 0, .stg, 0x0⟩]⟩,
  ⟨0xa004, [(0x1000, 3), (0x40, 32)], [⟨31, 0, .stg, 0x0⟩]⟩,
  ⟨0xa008, [(0x1000, 3), (0x40, 32)], [⟨31, 0, .stg, 0x0⟩]⟩,
  ⟨0xa00c, [(0x1000, 3), (0x40, 32)], [⟨31, 0, .stg, 0x0⟩]⟩,
  ⟨0xa010, [(0x1000, 3), (0x40, 32)], [⟨31, 0, .stg, 0x0⟩]⟩,
  ⟨0xa014, [(0x1000, 3), (0x40, 32)], [⟨31, 0, .stg, 0x0⟩]⟩,
  ⟨0xa018, [(0x1000, 3), (0x40, 32)], [⟨31, 0, .stg, 0x0⟩]⟩,
  ⟨0xa01c, [(0x1000, 3), (0x40, 32)], [⟨31, 0, .stg, 0x0⟩]⟩,
  ⟨0xa020, [(0x1000, 3), (0x40, 32)], [⟨31, 0, .stg, 0x0⟩]⟩,
  ⟨0xa024, [(0x1000, 3), (0x40, 32)], [⟨31, 0, .stg, 0x0⟩]⟩,
  ⟨0xd000, [(0x40, 16)], [⟨31, 31, .rw, 0x0⟩, ⟨30, 28, .rwl, 0x0⟩, ⟨27, 27, .rwl, 0x0⟩, ⟨26, 26, .rwl, 0x0⟩, ⟨25, 24, .rwl, 0x0⟩, ⟨23, 20, .rwl, 0x0⟩, ⟨19, 18, .rwl, 0x0⟩, ⟨17, 12, .rwl, 0x0⟩, ⟨7, 0, .rw, 0x0⟩]⟩,
  ⟨0xd004, [(0x40, 16)], [⟨31, 20, .rwl, 0xc8⟩, ⟨19, 14, .rwl, 0x19⟩, ⟨13, 13, .rwl, 0x0⟩, ⟨12, 11, .rwl, 0x0⟩, ⟨7, 0, .rwl, 0x14⟩]⟩,
  ⟨0xd008, [(0x40, 16)], [⟨31, 0, .rwl, 0x0⟩]⟩,
  ⟨0xd00c, [(0x40, 16)], [⟨31, 16, .ro, 0x0⟩, ⟨11, 8, .ro, 0x0⟩, ⟨3, 3, .ro, 0x0⟩, ⟨2, 2, .ro, 0x0⟩, ⟨1, 1, .w1s, 0x0⟩, ⟨0, 0, .ro, 0x0⟩]⟩,
  ⟨0xd010, [(0x40, 16)], [⟨31, 0, .ro, 0x0⟩]⟩,
  ⟨0xd014, [(0x40, 16)], [⟨31, 0, .ro, 0x0⟩]⟩,
  ⟨0xd018, [(0x40, 16)], [⟨31, 0, .ro, 0x0⟩]⟩,
  ⟨0xd01c, [(0x40, 16)], [⟨31, 0, .ro, 0x0⟩]⟩,
  ⟨0xd020, [(0x40, 16)], [⟨31, 0, .ro, 0x0⟩]⟩,
  ⟨0xd024, [(0x40, 16)], [⟨31, 0, .ro, 0x0⟩]⟩,
  ⟨0xd028, [(0x40, 16)], [⟨31, 0, .ro, 0x0⟩]⟩,
  ⟨0xd02c, [(0x40, 16)], [⟨31, 0, .ro, 0x0⟩]⟩,
  ⟨0xd030, [(0x40, 16)], [⟨31, 0, .wo, 0x0⟩]⟩,
  ⟨0xd034, [(0x40, 16)], [⟨31, 0, .wo, 0x0⟩]⟩]
/-- Every register of MOTION beside the common ones. -/
def motionRows : List RegRow := motionRows0 ++ motionRows1

/-- Registers of RING, part 0. -/
def ringRows0 : List RegRow := [
  ⟨0xc, [], [⟨16, 16, .w1c, 0x0⟩, ⟨15, 15, .w1c, 0x0⟩, ⟨14, 14, .w1c, 0x0⟩, ⟨13, 13, .w1c, 0x0⟩, ⟨12, 12, .w1c, 0x0⟩, ⟨11, 11, .w1c, 0x0⟩, ⟨10, 10, .w1c, 0x0⟩, ⟨9, 9, .w1c, 0x0⟩, ⟨8, 8, .w1c, 0x0⟩]⟩,
  ⟨0x60, [], [⟨11, 8, .rwl, 0xf⟩, ⟨4, 4, .rw, 0x0⟩, ⟨3, 3, .rwl, 0x0⟩, ⟨2, 2, .rwl, 0x0⟩, ⟨1, 1, .rwl, 0x0⟩, ⟨0, 0, .rw, 0x0⟩]⟩,
  ⟨0x64, [], [⟨30, 24, .ro, 0x0⟩, ⟨22, 16, .ro, 0x0⟩, ⟨11, 11, .ro, 0x0⟩, ⟨10, 10, .ro, 0x0⟩, ⟨9, 9, .ro, 0x0⟩, ⟨8, 8, .ro, 0x0⟩, ⟨7, 7, .ro, 0x0⟩, ⟨6, 4, .ro, 0x0⟩, ⟨3, 0, .ro, 0x0⟩]⟩,
  ⟨0x68, [], [⟨31, 0, .ro, 0x0⟩]⟩,
  ⟨0x6c, [], [⟨31, 0, .ro, 0x0⟩]⟩,
  ⟨0x70, [], [⟨31, 0, .ro, 0x0⟩]⟩,
  ⟨0x74, [], [⟨31, 0, .ro, 0x0⟩]⟩,
  ⟨0x78, [], [⟨31, 0, .ro, 0x0⟩]⟩,
  ⟨0x7c, [], [⟨31, 0, .ro, 0x0⟩]⟩,
  ⟨0x80, [], [⟨0, 0, .stg, 0x0⟩]⟩,
  ⟨0x84, [], [⟨31, 0, .stg, 0x0⟩]⟩,
  ⟨0x88, [], [⟨15, 0, .ro, 0x202⟩]⟩,
  ⟨0x8c, [], [⟨15, 0, .ro, 0x0⟩]⟩,
  ⟨0x90, [], [⟨31, 0, .rwl, 0x0⟩]⟩,
  ⟨0x94, [], [⟨31, 0, .rwl, 0x0⟩]⟩,
  ⟨0x98, [], [⟨31, 0, .ro, 0x0⟩]⟩,
  ⟨0x9c, [], [⟨31, 0, .ro, 0x0⟩]⟩,
  ⟨0xa0, [], [⟨31, 0, .ro, 0x0⟩]⟩,
  ⟨0xa4, [], [⟨31, 0, .ro, 0x0⟩]⟩,
  ⟨0xa8, [], [⟨23, 16, .ro, 0x0⟩, ⟨15, 8, .ro, 0x0⟩, ⟨3, 3, .ro, 0x0⟩, ⟨2, 2, .ro, 0x0⟩, ⟨1, 1, .ro, 0x0⟩, ⟨0, 0, .ro, 0x0⟩]⟩,
  ⟨0xac, [], [⟨19, 16, .ro, 0x0⟩, ⟨6, 0, .ro, 0x7f⟩]⟩,
  ⟨0xb0, [], [⟨31, 0, .rwl, 0x8000000⟩]⟩,
  ⟨0xb4, [], [⟨31, 0, .rwl, 0x8000000⟩]⟩,
  ⟨0xb8, [], [⟨15, 8, .rwl, 0x4⟩, ⟨7, 0, .rwl, 0x4⟩]⟩,
  ⟨0xbc, [], [⟨25, 16, .ro, 0x0⟩, ⟨9, 0, .rw, 0x0⟩]⟩,
  ⟨0xc0, [], [⟨25, 16, .ro, 0x0⟩, ⟨9, 0, .rw, 0x0⟩]⟩,
  ⟨0xc4, [], [⟨8, 8, .ro, 0x0⟩, ⟨1, 0, .ro, 0x0⟩]⟩,
  ⟨0xc8, [], [⟨31, 0, .ro, 0x0⟩]⟩,
  ⟨0xcc, [], [⟨31, 0, .ro, 0x0⟩]⟩,
  ⟨0x100, [(0x40, 2)], [⟨31, 0, .ro, 0x0⟩]⟩]
/-- Registers of RING, part 1. -/
def ringRows1 : List RegRow := [
  ⟨0x104, [(0x40, 2)], [⟨31, 0, .ro, 0x0⟩]⟩,
  ⟨0x108, [(0x40, 2)], [⟨31, 0, .ro, 0x0⟩]⟩,
  ⟨0x10c, [(0x40, 2)], [⟨31, 0, .ro, 0x0⟩]⟩,
  ⟨0x110, [(0x40, 2)], [⟨31, 0, .ro, 0x0⟩]⟩,
  ⟨0x114, [(0x40, 2)], [⟨31, 0, .ro, 0x0⟩]⟩,
  ⟨0x118, [(0x40, 2)], [⟨31, 0, .ro, 0x0⟩]⟩,
  ⟨0x11c, [(0x40, 2)], [⟨31, 0, .ro, 0x0⟩]⟩,
  ⟨0x180, [], [⟨31, 0, .ro, 0x0⟩]⟩,
  ⟨0x184, [], [⟨31, 0, .ro, 0x0⟩]⟩,
  ⟨0x188, [], [⟨31, 0, .ro, 0x0⟩]⟩,
  ⟨0x18c, [], [⟨31, 0, .ro, 0x0⟩]⟩,
  ⟨0x190, [], [⟨31, 0, .ro, 0x0⟩]⟩,
  ⟨0x194, [], [⟨31, 0, .ro, 0x0⟩]⟩,
  ⟨0x198, [], [⟨31, 0, .ro, 0x0⟩]⟩,
  ⟨0x19c, [], [⟨31, 0, .ro, 0x0⟩]⟩]
/-- Every register of RING beside the common ones. -/
def ringRows : List RegRow := ringRows0 ++ ringRows1

/-- Registers of CAN, part 0. -/
def canRows0 : List RegRow := [
  ⟨0xc, [(0x4000, 4)], [⟨16, 16, .w1c, 0x0⟩, ⟨15, 15, .w1c, 0x0⟩, ⟨14, 14, .w1c, 0x0⟩, ⟨13, 13, .w1c, 0x0⟩, ⟨12, 12, .w1c, 0x0⟩, ⟨11, 11, .w1c, 0x0⟩, ⟨10, 10, .w1c, 0x0⟩, ⟨9, 9, .w1c, 0x0⟩, ⟨8, 8, .w1c, 0x0⟩]⟩,
  ⟨0x60, [(0x4000, 4)], [⟨6, 6, .w1s, 0x0⟩, ⟨5, 5, .rw, 0x0⟩, ⟨4, 4, .rwl, 0x0⟩, ⟨1, 0, .rw, 0x0⟩]⟩,
  ⟨0x64, [(0x4000, 4)], [⟨31, 23, .rwl, 0x0⟩, ⟨22, 16, .rwl, 0x0⟩, ⟨15, 8, .rwl, 0x1⟩, ⟨6, 0, .rwl, 0x0⟩]⟩,
  ⟨0x68, [(0x4000, 4)], [⟨24, 20, .rwl, 0x0⟩, ⟨19, 16, .rwl, 0x0⟩, ⟨12, 8, .rwl, 0x0⟩, ⟨3, 0, .rwl, 0x0⟩]⟩,
  ⟨0x6c, [(0x4000, 4)], [⟨31, 31, .rwl, 0x0⟩, ⟨6, 0, .rwl, 0x0⟩]⟩,
  ⟨0x70, [(0x4000, 4)], [⟨30, 24, .ro, 0x0⟩, ⟨22, 20, .ro, 0x0⟩, ⟨18, 16, .ro, 0x0⟩, ⟨15, 8, .ro, 0x0⟩, ⟨7, 0, .ro, 0x0⟩]⟩,
  ⟨0x74, [(0x4000, 4)], [⟨31, 0, .ro, 0x0⟩]⟩,
  ⟨0x78, [(0x4000, 4)], [⟨31, 0, .ro, 0x0⟩]⟩,
  ⟨0x7c, [(0x4000, 4)], [⟨31, 0, .ro, 0x0⟩]⟩,
  ⟨0x80, [(0x4000, 4)], [⟨31, 0, .ro, 0x0⟩]⟩,
  ⟨0x100, [(0x4000, 4), (0x4, 4)], [⟨31, 0, .ro, 0x0⟩]⟩,
  ⟨0x110, [(0x4000, 4), (0x4, 4)], [⟨31, 0, .w1s, 0x0⟩]⟩,
  ⟨0x120, [(0x4000, 4), (0x4, 4)], [⟨31, 0, .wo, 0x0⟩]⟩,
  ⟨0x130, [(0x4000, 4), (0x4, 4)], [⟨31, 0, .w1c, 0x0⟩]⟩,
  ⟨0x1000, [(0x4000, 4), (0x60, 128)], [⟨31, 31, .rw, 0x0⟩, ⟨30, 30, .rwl, 0x0⟩, ⟨29, 29, .rwl, 0x0⟩, ⟨28, 28, .rwl, 0x0⟩, ⟨27, 27, .rwl, 0x0⟩, ⟨26, 26, .rwl, 0x0⟩, ⟨25, 25, .rwl, 0x0⟩, ⟨24, 24, .rwl, 0x0⟩]⟩,
  ⟨0x1004, [(0x4000, 4), (0x60, 128)], [⟨28, 0, .rwl, 0x0⟩]⟩,
  ⟨0x1008, [(0x4000, 4), (0x60, 128)], [⟨28, 0, .rwl, 0x0⟩]⟩,
  ⟨0x100c, [(0x4000, 4), (0x60, 128)], [⟨31, 28, .ro, 0x0⟩, ⟨27, 27, .w1c, 0x0⟩, ⟨26, 26, .w1c, 0x0⟩, ⟨25, 25, .ro, 0x0⟩, ⟨24, 22, .ro, 0x0⟩, ⟨21, 21, .ro, 0x0⟩, ⟨20, 20, .ro, 0x0⟩, ⟨19, 19, .ro, 0x0⟩, ⟨3, 0, .rwl, 0x0⟩]⟩,
  ⟨0x1010, [(0x4000, 4), (0x60, 128)], [⟨31, 0, .ro, 0x0⟩]⟩,
  ⟨0x1014, [(0x4000, 4), (0x60, 128)], [⟨31, 0, .ro, 0x0⟩]⟩,
  ⟨0x1018, [(0x4000, 4), (0x60, 128), (0x4, 16)], [⟨31, 0, .rwl, 0x0⟩]⟩]
/-- Every register of CAN beside the common ones. -/
def canRows : List RegRow := canRows0

/-- Registers of ETH, part 0. -/
def ethRows0 : List RegRow := [
  ⟨0xc, [], [⟨11, 11, .w1c, 0x0⟩, ⟨10, 10, .w1c, 0x0⟩, ⟨9, 9, .w1c, 0x0⟩, ⟨8, 8, .w1c, 0x0⟩]⟩,
  ⟨0x100, [(0x80, 2)], [⟨7, 7, .rwl, 0x0⟩, ⟨6, 6, .rwl, 0x0⟩, ⟨5, 5, .rwl, 0x0⟩, ⟨4, 4, .rwl, 0x0⟩, ⟨3, 3, .rwl, 0x1⟩, ⟨2, 1, .rwl, 0x2⟩, ⟨0, 0, .rw, 0x0⟩]⟩,
  ⟨0x104, [(0x80, 2)], [⟨31, 31, .w1s, 0x0⟩, ⟨30, 30, .rw, 0x0⟩, ⟨29, 25, .rw, 0x0⟩, ⟨24, 20, .rw, 0x0⟩, ⟨15, 0, .rw, 0x0⟩]⟩,
  ⟨0x108, [(0x80, 2)], [⟨31, 0, .rwl, 0x0⟩]⟩,
  ⟨0x10c, [(0x80, 2)], [⟨15, 0, .rwl, 0x0⟩]⟩,
  ⟨0x110, [(0x80, 2)], [⟨31, 0, .rwl, 0x8000000⟩]⟩,
  ⟨0x114, [(0x80, 2)], [⟨31, 0, .rwl, 0x8000000⟩]⟩,
  ⟨0x118, [(0x80, 2)], [⟨15, 8, .rwl, 0x6⟩, ⟨7, 0, .rwl, 0x6⟩]⟩,
  ⟨0x11c, [(0x80, 2)], [⟨25, 16, .ro, 0x0⟩, ⟨9, 0, .rw, 0x0⟩]⟩,
  ⟨0x120, [(0x80, 2)], [⟨25, 16, .ro, 0x0⟩, ⟨9, 0, .rw, 0x0⟩]⟩,
  ⟨0x124, [(0x80, 2)], [⟨31, 16, .rw, 0x0⟩, ⟨15, 0, .rw, 0x0⟩]⟩,
  ⟨0x128, [(0x80, 2)], [⟨31, 0, .rw, 0x0⟩]⟩,
  ⟨0x12c, [(0x80, 2)], [⟨31, 16, .ro, 0x0⟩, ⟨4, 0, .ro, 0x0⟩]⟩,
  ⟨0x130, [(0x80, 2)], [⟨31, 0, .ro, 0x0⟩]⟩,
  ⟨0x134, [(0x80, 2)], [⟨31, 0, .ro, 0x0⟩]⟩,
  ⟨0x138, [(0x80, 2)], [⟨16, 16, .ro, 0x0⟩, ⟨15, 0, .ro, 0x0⟩]⟩]
/-- Every register of ETH beside the common ones. -/
def ethRows : List RegRow := ethRows0

/-- Registers of ACQ, part 0. -/
def acqRows0 : List RegRow := [
  ⟨0x8, [], [⟨10, 8, .ro, 0x0⟩]⟩,
  ⟨0xc, [], [⟨14, 14, .w1c, 0x0⟩, ⟨13, 13, .w1c, 0x0⟩, ⟨12, 12, .w1c, 0x0⟩, ⟨11, 11, .w1c, 0x0⟩, ⟨10, 10, .w1c, 0x0⟩, ⟨9, 9, .w1c, 0x0⟩, ⟨8, 8, .w1c, 0x0⟩]⟩,
  ⟨0x60, [], [⟨7, 4, .rwl, 0x4⟩, ⟨2, 2, .rwl, 0x0⟩, ⟨1, 1, .rwl, 0x0⟩, ⟨0, 0, .rw, 0x0⟩]⟩,
  ⟨0x64, [], [⟨31, 0, .rwl, 0x0⟩]⟩,
  ⟨0x68, [], [⟨31, 0, .rwl, 0x0⟩]⟩,
  ⟨0x6c, [], [⟨4, 0, .rwl, 0x14⟩]⟩,
  ⟨0x70, [], [⟨18, 0, .rwl, 0x0⟩]⟩,
  ⟨0x74, [], [⟨31, 0, .rwl, 0x3e8⟩]⟩,
  ⟨0x78, [], [⟨31, 0, .rwl, 0x0⟩]⟩,
  ⟨0x7c, [], [⟨7, 4, .rwl, 0x0⟩, ⟨3, 0, .rwl, 0x0⟩]⟩,
  ⟨0x80, [], [⟨31, 0, .ro, 0x0⟩]⟩,
  ⟨0x84, [], [⟨31, 0, .ro, 0x0⟩]⟩,
  ⟨0x88, [], [⟨31, 0, .ro, 0x0⟩]⟩,
  ⟨0x8c, [], [⟨31, 0, .ro, 0x0⟩]⟩,
  ⟨0x90, [], [⟨31, 0, .ro, 0x0⟩]⟩,
  ⟨0x94, [], [⟨31, 0, .ro, 0x0⟩]⟩,
  ⟨0x98, [], [⟨31, 0, .ro, 0x0⟩]⟩,
  ⟨0x9c, [], [⟨31, 0, .ro, 0x0⟩]⟩,
  ⟨0xa0, [], [⟨15, 8, .ro, 0x0⟩, ⟨7, 0, .ro, 0x0⟩]⟩,
  ⟨0x800, [(0x20, 4)], [⟨31, 31, .rw, 0x0⟩, ⟨30, 28, .rwl, 0x0⟩, ⟨27, 27, .rwl, 0x0⟩, ⟨23, 16, .rwl, 0x0⟩, ⟨15, 0, .rwl, 0x0⟩]⟩,
  ⟨0x804, [(0x20, 4)], [⟨31, 0, .rwl, 0x0⟩]⟩,
  ⟨0x808, [(0x20, 4)], [⟨31, 0, .rwl, 0x0⟩]⟩,
  ⟨0x80c, [(0x20, 4)], [⟨31, 0, .rwl, 0x0⟩]⟩,
  ⟨0x810, [(0x20, 4)], [⟨31, 0, .rwl, 0x0⟩]⟩,
  ⟨0x814, [(0x20, 4)], [⟨31, 16, .ro, 0x0⟩, ⟨0, 0, .ro, 0x0⟩]⟩,
  ⟨0x1000, [(0x10, 256)], [⟨31, 31, .rwl, 0x0⟩, ⟨30, 30, .rwl, 0x0⟩, ⟨29, 27, .rwl, 0x0⟩, ⟨26, 22, .rwl, 0x0⟩, ⟨19, 16, .rwl, 0x0⟩, ⟨12, 0, .rwl, 0x0⟩]⟩,
  ⟨0x1004, [(0x10, 256)], [⟨31, 16, .ro, 0x0⟩, ⟨11, 8, .ro, 0x0⟩]⟩,
  ⟨0x1008, [(0x10, 256)], [⟨31, 0, .ro, 0x0⟩]⟩,
  ⟨0x4000, [(0x4, 2048)], [⟨31, 31, .rwl, 0x0⟩, ⟨17, 0, .rwl, 0x0⟩]⟩]
/-- Every register of ACQ beside the common ones. -/
def acqRows : List RegRow := acqRows0

/-- Registers of STO, part 0. -/
def stoRows0 : List RegRow := [
  ⟨0x8, [], [⟨12, 12, .ro, 0x0⟩, ⟨11, 11, .ro, 0x0⟩, ⟨10, 8, .ro, 0x0⟩]⟩,
  ⟨0xc, [], [⟨14, 14, .w1c, 0x0⟩, ⟨13, 13, .w1c, 0x0⟩, ⟨12, 12, .w1c, 0x0⟩, ⟨11, 11, .w1c, 0x0⟩, ⟨10, 10, .w1c, 0x0⟩, ⟨9, 9, .w1c, 0x0⟩, ⟨8, 8, .w1c, 0x0⟩]⟩,
  ⟨0x60, [], [⟨31, 16, .ro, 0x0⟩, ⟨15, 0, .ro, 0x0⟩]⟩,
  ⟨0x64, [], [⟨23, 16, .ro, 0x0⟩, ⟨7, 0, .ro, 0x0⟩]⟩,
  ⟨0x68, [], [⟨31, 0, .ro, 0x0⟩]⟩,
  ⟨0x6c, [], [⟨31, 24, .ro, 0x0⟩, ⟨7, 0, .ro, 0x0⟩]⟩,
  ⟨0x70, [], [⟨31, 0, .ro, 0x0⟩]⟩,
  ⟨0x74, [], [⟨31, 0, .ro, 0x0⟩]⟩,
  ⟨0x80, [], [⟨31, 0, .ro, 0x0⟩]⟩,
  ⟨0x84, [], [⟨31, 0, .ro, 0x0⟩]⟩,
  ⟨0x88, [], [⟨31, 0, .ro, 0x0⟩]⟩,
  ⟨0x8c, [], [⟨31, 0, .ro, 0x0⟩]⟩,
  ⟨0x90, [], [⟨31, 0, .ro, 0x0⟩]⟩,
  ⟨0x100, [(0x4, 12)], [⟨23, 16, .ro, 0x0⟩, ⟨13, 8, .ro, 0x0⟩, ⟨4, 4, .ro, 0x0⟩, ⟨3, 3, .ro, 0x0⟩, ⟨2, 0, .ro, 0x0⟩]⟩,
  ⟨0x200, [(0x4, 16)], [⟨23, 22, .ro, 0x0⟩, ⟨18, 18, .ro, 0x0⟩, ⟨17, 17, .ro, 0x0⟩, ⟨15, 0, .ro, 0x0⟩]⟩,
  ⟨0x300, [(0x4, 8)], [⟨31, 0, .wo, 0x0⟩]⟩,
  ⟨0x800, [(0x4, 78)], [⟨31, 0, .ro, 0x0⟩]⟩]
/-- Every register of STO beside the common ones. -/
def stoRows : List RegRow := stoRows0

/-- Registers of EVREC, part 0. -/
def evrecRows0 : List RegRow := [
  ⟨0xc, [], [⟨10, 10, .w1c, 0x0⟩, ⟨9, 9, .w1c, 0x0⟩, ⟨8, 8, .w1c, 0x0⟩]⟩,
  ⟨0x60, [], [⟨31, 0, .ro, 0x0⟩]⟩,
  ⟨0x64, [], [⟨31, 0, .ro, 0x0⟩]⟩,
  ⟨0x68, [], [⟨31, 0, .ro, 0x0⟩]⟩,
  ⟨0x6c, [], [⟨31, 0, .ro, 0x0⟩]⟩,
  ⟨0x70, [], [⟨31, 0, .ro, 0x0⟩]⟩,
  ⟨0x74, [], [⟨25, 16, .ro, 0x0⟩, ⟨7, 0, .ro, 0x0⟩]⟩,
  ⟨0x78, [], [⟨31, 0, .ro, 0x0⟩]⟩,
  ⟨0x7c, [], [⟨8, 0, .ro, 0x0⟩]⟩,
  ⟨0x80, [], [⟨23, 16, .ro, 0x0⟩, ⟨15, 0, .ro, 0x0⟩]⟩,
  ⟨0x90, [], [⟨31, 16, .rw, 0x0⟩, ⟨15, 0, .rw, 0x0⟩]⟩,
  ⟨0x94, [], [⟨31, 0, .rw, 0x0⟩]⟩,
  ⟨0x98, [], [⟨31, 0, .rw, 0x0⟩]⟩,
  ⟨0x9c, [], [⟨1, 0, .wo, 0x0⟩]⟩]
/-- Every register of EVREC beside the common ones. -/
def evrecRows : List RegRow := evrecRows0

/-- Registers of OPIO, part 0. -/
def opioRows0 : List RegRow := [
  ⟨0xc, [], [⟨11, 11, .w1c, 0x0⟩, ⟨10, 10, .w1c, 0x0⟩, ⟨9, 9, .w1c, 0x0⟩, ⟨8, 8, .w1c, 0x0⟩]⟩,
  ⟨0x60, [], [⟨8, 8, .rw, 0x0⟩, ⟨7, 0, .rw, 0xa⟩]⟩,
  ⟨0x64, [], [⟨23, 0, .ro, 0x0⟩]⟩,
  ⟨0x68, [], [⟨23, 0, .w1c, 0x0⟩]⟩,
  ⟨0x100, [(0x10, 24)], [⟨31, 31, .rw, 0x0⟩, ⟨27, 24, .rwl, 0x6⟩, ⟨19, 16, .rwl, 0x2⟩, ⟨15, 8, .rwl, 0x1e⟩]⟩,
  ⟨0x104, [(0x10, 24)], [⟨31, 16, .rwl, 0x100⟩, ⟨15, 0, .rwl, 0x40⟩]⟩,
  ⟨0x108, [(0x10, 24)], [⟨31, 31, .rw, 0x0⟩, ⟨28, 24, .rw, 0x0⟩, ⟨17, 0, .rw, 0x0⟩]⟩,
  ⟨0x10c, [(0x10, 24)], [⟨31, 16, .ro, 0x0⟩, ⟨15, 0, .ro, 0x0⟩]⟩,
  ⟨0x400, [(0x10, 16)], [⟨31, 31, .rw, 0x0⟩, ⟨30, 30, .rwl, 0x1⟩, ⟨29, 29, .rwl, 0x0⟩, ⟨23, 16, .rwl, 0x14⟩, ⟨15, 8, .rwl, 0x32⟩, ⟨7, 7, .rwl, 0x0⟩, ⟨6, 0, .rwl, 0x0⟩]⟩,
  ⟨0x404, [(0x10, 16)], [⟨31, 24, .rwl, 0x0⟩, ⟨15, 0, .rwl, 0x1388⟩]⟩,
  ⟨0x408, [(0x10, 16)], [⟨31, 16, .ro, 0x0⟩, ⟨8, 8, .ro, 0x0⟩, ⟨7, 7, .ro, 0x0⟩, ⟨2, 0, .ro, 0x0⟩]⟩]
/-- Every register of OPIO beside the common ones. -/
def opioRows : List RegRow := opioRows0

/-- Registers of SPLICE, part 0. -/
def spliceRows0 : List RegRow := [
  ⟨0x8, [], [⟨11, 8, .ro, 0x0⟩]⟩,
  ⟨0xc, [], [⟨15, 15, .w1c, 0x0⟩, ⟨14, 14, .w1c, 0x0⟩, ⟨13, 13, .w1c, 0x0⟩, ⟨12, 12, .w1c, 0x0⟩, ⟨11, 11, .w1c, 0x0⟩, ⟨10, 10, .w1c, 0x0⟩, ⟨9, 9, .w1c, 0x0⟩, ⟨8, 8, .w1c, 0x0⟩]⟩,
  ⟨0x60, [], [⟨5, 4, .rwl, 0x0⟩, ⟨1, 1, .rw, 0x0⟩, ⟨0, 0, .rw, 0x0⟩]⟩,
  ⟨0x64, [], [⟨7, 6, .ro, 0x0⟩, ⟨5, 4, .ro, 0x0⟩, ⟨3, 3, .ro, 0x0⟩, ⟨2, 2, .ro, 0x0⟩, ⟨1, 1, .ro, 0x0⟩, ⟨0, 0, .ro, 0x0⟩]⟩,
  ⟨0x68, [], [⟨15, 8, .ro, 0x0⟩, ⟨7, 0, .rwl, 0x0⟩]⟩,
  ⟨0x6c, [], [⟨7, 0, .rwl, 0x0⟩]⟩,
  ⟨0x70, [], [⟨31, 0, .rwl, 0x8000000⟩]⟩,
  ⟨0x74, [], [⟨31, 0, .rwl, 0x8000000⟩]⟩,
  ⟨0x78, [], [⟨15, 8, .rwl, 0x4⟩, ⟨7, 0, .rwl, 0x4⟩]⟩,
  ⟨0x7c, [], [⟨25, 16, .ro, 0x0⟩, ⟨9, 0, .rw, 0x0⟩]⟩,
  ⟨0x80, [], [⟨25, 16, .ro, 0x0⟩, ⟨9, 0, .rw, 0x0⟩]⟩,
  ⟨0x100, [(0x20, 2)], [⟨31, 0, .ro, 0x0⟩]⟩,
  ⟨0x104, [(0x20, 2)], [⟨31, 0, .ro, 0x0⟩]⟩,
  ⟨0x108, [(0x20, 2)], [⟨31, 0, .ro, 0x0⟩]⟩,
  ⟨0x10c, [(0x20, 2)], [⟨31, 0, .ro, 0x0⟩]⟩,
  ⟨0x110, [(0x20, 2)], [⟨31, 0, .ro, 0x0⟩]⟩,
  ⟨0x114, [(0x20, 2)], [⟨31, 0, .ro, 0x0⟩]⟩,
  ⟨0x140, [(0x8, 4)], [⟨31, 0, .ro, 0x0⟩]⟩,
  ⟨0x200, [], [⟨31, 31, .rwl, 0x0⟩, ⟨30, 30, .rwl, 0x0⟩, ⟨29, 24, .rwl, 0x0⟩, ⟨23, 23, .rwl, 0x0⟩, ⟨22, 16, .rwl, 0x0⟩, ⟨15, 8, .rwl, 0x64⟩, ⟨4, 4, .rwl, 0x0⟩, ⟨3, 2, .rwl, 0x0⟩, ⟨1, 0, .rwl, 0x0⟩]⟩,
  ⟨0x204, [], [⟨7, 0, .rwl, 0x5⟩]⟩,
  ⟨0x208, [], [⟨31, 24, .ro, 0x0⟩, ⟨23, 16, .ro, 0x0⟩, ⟨15, 15, .ro, 0x0⟩, ⟨14, 14, .ro, 0x0⟩, ⟨1, 0, .ro, 0x0⟩]⟩,
  ⟨0x210, [], [⟨31, 0, .ro, 0x0⟩]⟩,
  ⟨0x214, [], [⟨31, 0, .ro, 0x0⟩]⟩,
  ⟨0x218, [], [⟨31, 0, .ro, 0x0⟩]⟩,
  ⟨0x220, [(0x4, 8)], [⟨31, 0, .ro, 0x0⟩]⟩,
  ⟨0x240, [(0x4, 8)], [⟨31, 0, .ro, 0x0⟩]⟩,
  ⟨0x280, [], [⟨31, 0, .ro, 0x0⟩]⟩,
  ⟨0x284, [], [⟨31, 0, .ro, 0x0⟩]⟩,
  ⟨0x288, [], [⟨31, 0, .ro, 0x0⟩]⟩,
  ⟨0x28c, [], [⟨31, 0, .ro, 0x0⟩]⟩]
/-- Registers of SPLICE, part 1. -/
def spliceRows1 : List RegRow := [
  ⟨0x290, [], [⟨31, 0, .ro, 0x0⟩]⟩,
  ⟨0x300, [(0x4, 4)], [⟨31, 0, .rwl, 0x0⟩]⟩,
  ⟨0x310, [], [⟨15, 0, .rwl, 0x0⟩]⟩,
  ⟨0x314, [], [⟨31, 0, .rwl, 0x0⟩]⟩,
  ⟨0x318, [], [⟨31, 0, .rwl, 0x0⟩]⟩,
  ⟨0x31c, [], [⟨31, 0, .rwl, 0x0⟩]⟩,
  ⟨0x320, [], [⟨3, 0, .rwl, 0x0⟩]⟩]
/-- Every register of SPLICE beside the common ones. -/
def spliceRows : List RegRow := spliceRows0 ++ spliceRows1

/-- Registers of HOSTIF, part 0. -/
def hostifRows0 : List RegRow := [
  ⟨0x1000, [(0x40, 4)], [⟨31, 12, .rwl, 0x0⟩]⟩,
  ⟨0x1004, [(0x40, 4)], [⟨31, 0, .rwl, 0x0⟩]⟩,
  ⟨0x1008, [(0x40, 4)], [⟨31, 12, .rwl, 0x0⟩]⟩,
  ⟨0x100c, [(0x40, 4)], [⟨31, 0, .rwl, 0x0⟩]⟩,
  ⟨0x1010, [(0x40, 4)], [⟨12, 8, .rwl, 0x7⟩, ⟨4, 0, .rwl, 0x6⟩]⟩,
  ⟨0x1014, [(0x40, 4)], [⟨31, 16, .rw, 0x0⟩, ⟨7, 0, .rw, 0x1⟩]⟩,
  ⟨0x1018, [(0x40, 4)], [⟨0, 0, .rw, 0x0⟩]⟩,
  ⟨0x101c, [(0x40, 4)], [⟨13, 0, .rw, 0x0⟩]⟩,
  ⟨0x1020, [(0x40, 4)], [⟨14, 0, .rw, 0x0⟩]⟩,
  ⟨0x1024, [(0x40, 4)], [⟨31, 18, .ro, 0x0⟩, ⟨17, 17, .w1c, 0x0⟩, ⟨16, 10, .ro, 0x0⟩, ⟨7, 4, .ro, 0x0⟩, ⟨2, 0, .ro, 0x0⟩]⟩,
  ⟨0x1028, [(0x40, 4)], [⟨31, 0, .ro, 0x0⟩]⟩,
  ⟨0x2000, [], [⟨20, 19, .ro, 0x0⟩, ⟨18, 18, .ro, 0x0⟩, ⟨17, 17, .ro, 0x0⟩, ⟨15, 8, .ro, 0x0⟩, ⟨7, 0, .ro, 0x0⟩]⟩,
  ⟨0x2004, [], [⟨23, 16, .ro, 0x1⟩, ⟨5, 5, .ro, 0x0⟩, ⟨4, 4, .ro, 0x0⟩, ⟨3, 3, .ro, 0x0⟩, ⟨2, 2, .ro, 0x0⟩, ⟨1, 1, .ro, 0x0⟩, ⟨0, 0, .ro, 0x1⟩]⟩,
  ⟨0x2008, [], [⟨31, 0, .ro, 0x0⟩]⟩,
  ⟨0x200c, [], [⟨31, 24, .ro, 0x0⟩, ⟨23, 16, .ro, 0x0⟩, ⟨15, 0, .ro, 0x0⟩]⟩,
  ⟨0x2010, [], [⟨31, 0, .ro, 0x0⟩]⟩,
  ⟨0x2014, [], [⟨31, 0, .ro, 0x0⟩]⟩,
  ⟨0x2018, [], [⟨31, 0, .ro, 0x0⟩]⟩,
  ⟨0x201c, [], [⟨31, 0, .ro, 0x0⟩]⟩]
/-- Every register of HOSTIF beside the common ones. -/
def hostifRows : List RegRow := hostifRows0

/-- Registers of GPIO, part 0. -/
def gpioRows0 : List RegRow := [
  ⟨0xc, [], [⟨8, 8, .w1c, 0x0⟩]⟩,
  ⟨0x60, [], [⟨31, 0, .ro, 0x0⟩]⟩,
  ⟨0x64, [], [⟨31, 0, .ro, 0x0⟩]⟩,
  ⟨0x68, [], [⟨31, 0, .rw, 0x0⟩]⟩,
  ⟨0x6c, [], [⟨31, 0, .rw, 0x0⟩]⟩,
  ⟨0x70, [], [⟨31, 0, .wo, 0x0⟩]⟩,
  ⟨0x74, [], [⟨31, 0, .wo, 0x0⟩]⟩,
  ⟨0x78, [], [⟨31, 0, .wo, 0x0⟩]⟩,
  ⟨0x7c, [], [⟨31, 0, .wo, 0x0⟩]⟩,
  ⟨0x80, [], [⟨31, 0, .w1c, 0x0⟩]⟩,
  ⟨0x84, [], [⟨31, 0, .w1c, 0x0⟩]⟩,
  ⟨0x100, [(0x4, 64)], [⟨31, 24, .rw, 0x0⟩, ⟨13, 13, .rw, 0x0⟩, ⟨12, 12, .rw, 0x0⟩, ⟨11, 10, .rw, 0x0⟩, ⟨9, 8, .rw, 0x0⟩, ⟨7, 7, .rw, 0x0⟩, ⟨2, 0, .rw, 0x0⟩]⟩]
/-- Every register of GPIO beside the common ones. -/
def gpioRows : List RegRow := gpioRows0

/-- Registers of LOOPMEM, part 0. -/
def loopmemRows0 : List RegRow := [
  ⟨0x0, [(0x100, 512)], [⟨31, 31, .rwl, 0x0⟩, ⟨30, 30, .rwl, 0x0⟩, ⟨29, 29, .rwl, 0x0⟩, ⟨28, 28, .rwl, 0x0⟩, ⟨27, 24, .rwl, 0x0⟩, ⟨23, 23, .rwl, 0x0⟩, ⟨22, 20, .rwl, 0x0⟩, ⟨19, 17, .rwl, 0x0⟩, ⟨16, 15, .rwl, 0x0⟩, ⟨14, 11, .rwl, 0x0⟩, ⟨10, 7, .rwl, 0x0⟩]⟩,
  ⟨0x4, [(0x100, 512)], [⟨31, 0, .rwl, 0x0⟩]⟩,
  ⟨0x8, [(0x100, 512)], [⟨31, 0, .rwl, 0x0⟩]⟩,
  ⟨0xc, [(0x100, 512)], [⟨31, 0, .rwl, 0x0⟩]⟩,
  ⟨0x10, [(0x100, 512)], [⟨31, 0, .rwl, 0x0⟩]⟩,
  ⟨0x14, [(0x100, 512)], [⟨31, 0, .rwl, 0x0⟩]⟩,
  ⟨0x18, [(0x100, 512)], [⟨31, 0, .rwl, 0x0⟩]⟩,
  ⟨0x1c, [(0x100, 512)], [⟨31, 0, .rwl, 0x0⟩]⟩,
  ⟨0x20, [(0x100, 512)], [⟨31, 0, .rwl, 0x0⟩]⟩,
  ⟨0x24, [(0x100, 512)], [⟨31, 0, .rwl, 0x0⟩]⟩,
  ⟨0x28, [(0x100, 512)], [⟨31, 0, .rwl, 0x0⟩]⟩,
  ⟨0x2c, [(0x100, 512)], [⟨31, 0, .rwl, 0x0⟩]⟩,
  ⟨0x30, [(0x100, 512)], [⟨31, 0, .rwl, 0x0⟩]⟩,
  ⟨0x34, [(0x100, 512)], [⟨31, 0, .rwl, 0x0⟩]⟩,
  ⟨0x38, [(0x100, 512)], [⟨31, 0, .rwl, 0x0⟩]⟩,
  ⟨0x40, [(0x100, 512), (0x4, 4)], [⟨31, 0, .rwl, 0x0⟩]⟩,
  ⟨0x50, [(0x100, 512), (0x4, 3)], [⟨31, 0, .rwl, 0x0⟩]⟩,
  ⟨0x5c, [(0x100, 512)], [⟨31, 0, .rwl, 0x0⟩]⟩,
  ⟨0x60, [(0x100, 512), (0x4, 6)], [⟨31, 0, .rwl, 0x0⟩]⟩,
  ⟨0x78, [(0x100, 512)], [⟨31, 0, .ro, 0x0⟩]⟩,
  ⟨0x7c, [(0x100, 512)], [⟨31, 0, .ro, 0x0⟩]⟩,
  ⟨0x80, [(0x100, 512)], [⟨31, 0, .rw, 0x0⟩]⟩,
  ⟨0x84, [(0x100, 512)], [⟨31, 0, .rw, 0x0⟩]⟩,
  ⟨0x88, [(0x100, 512)], [⟨31, 0, .ro, 0x0⟩]⟩,
  ⟨0x8c, [(0x100, 512)], [⟨31, 0, .ro, 0x0⟩]⟩,
  ⟨0x90, [(0x100, 512)], [⟨31, 0, .ro, 0x0⟩]⟩,
  ⟨0x94, [(0x100, 512)], [⟨31, 0, .rwl, 0x0⟩]⟩,
  ⟨0x98, [(0x100, 512)], [⟨31, 0, .ro, 0x0⟩]⟩,
  ⟨0x9c, [(0x100, 512)], [⟨31, 0, .ro, 0x0⟩]⟩,
  ⟨0xa0, [(0x100, 512)], [⟨31, 31, .rwl, 0x0⟩, ⟨30, 30, .rwl, 0x0⟩, ⟨29, 29, .rwl, 0x0⟩, ⟨27, 26, .rwl, 0x0⟩, ⟨25, 24, .rwl, 0x0⟩, ⟨23, 22, .rwl, 0x0⟩, ⟨21, 20, .rwl, 0x0⟩, ⟨18, 16, .rwl, 0x0⟩, ⟨15, 8, .rwl, 0x0⟩, ⟨7, 0, .rwl, 0x0⟩]⟩]
/-- Registers of LOOPMEM, part 1. -/
def loopmemRows1 : List RegRow := [
  ⟨0xa4, [(0x100, 512)], [⟨31, 16, .rwl, 0x0⟩, ⟨15, 8, .rwl, 0x0⟩, ⟨3, 0, .rwl, 0x0⟩]⟩,
  ⟨0xa8, [(0x100, 512)], [⟨15, 0, .rwl, 0x0⟩]⟩,
  ⟨0xac, [(0x100, 512)], [⟨15, 0, .rwl, 0x0⟩]⟩,
  ⟨0xb0, [(0x100, 512)], [⟨31, 0, .rwl, 0x0⟩]⟩,
  ⟨0xb4, [(0x100, 512)], [⟨31, 0, .rwl, 0x0⟩]⟩,
  ⟨0xb8, [(0x100, 512)], [⟨31, 0, .rwl, 0x0⟩]⟩,
  ⟨0xbc, [(0x100, 512)], [⟨31, 0, .rwl, 0x0⟩]⟩,
  ⟨0xc0, [(0x100, 512)], [⟨31, 0, .rwl, 0x0⟩]⟩,
  ⟨0xc4, [(0x100, 512)], [⟨31, 0, .rwl, 0x0⟩]⟩,
  ⟨0xc8, [(0x100, 512)], [⟨31, 24, .ro, 0x0⟩, ⟨23, 16, .ro, 0x0⟩, ⟨15, 8, .ro, 0x0⟩, ⟨7, 4, .ro, 0x0⟩, ⟨3, 0, .ro, 0x0⟩]⟩,
  ⟨0xcc, [(0x100, 512)], [⟨31, 16, .ro, 0x0⟩, ⟨15, 0, .ro, 0x0⟩]⟩,
  ⟨0xd0, [(0x100, 512)], [⟨31, 0, .ro, 0x0⟩]⟩,
  ⟨0xd4, [(0x100, 512)], [⟨31, 0, .ro, 0x0⟩]⟩,
  ⟨0xd8, [(0x100, 512)], [⟨31, 0, .ro, 0x0⟩]⟩,
  ⟨0xdc, [(0x100, 512)], [⟨31, 0, .ro, 0x0⟩]⟩,
  ⟨0x20000, [(0x200, 32)], [⟨31, 0, .rwl, 0x0⟩]⟩,
  ⟨0x20004, [(0x200, 32)], [⟨31, 0, .rwl, 0x0⟩]⟩,
  ⟨0x20008, [(0x200, 32)], [⟨31, 0, .rwl, 0x0⟩]⟩,
  ⟨0x2000c, [(0x200, 32)], [⟨31, 0, .rwl, 0x0⟩]⟩,
  ⟨0x20010, [(0x200, 32), (0x4, 36)], [⟨31, 0, .rwl, 0x0⟩]⟩,
  ⟨0x200a0, [(0x200, 32), (0x4, 12)], [⟨31, 0, .rwl, 0x0⟩]⟩,
  ⟨0x200d0, [(0x200, 32), (0x4, 12)], [⟨31, 0, .rwl, 0x0⟩]⟩,
  ⟨0x20100, [(0x200, 32), (0x4, 12)], [⟨31, 0, .rwl, 0x0⟩]⟩,
  ⟨0x20130, [(0x200, 32), (0x4, 12)], [⟨31, 0, .rwl, 0x0⟩]⟩,
  ⟨0x20160, [(0x200, 32), (0x4, 4)], [⟨31, 0, .rwl, 0x0⟩]⟩,
  ⟨0x20170, [(0x200, 32), (0x4, 6)], [⟨31, 0, .rwl, 0x0⟩]⟩,
  ⟨0x20188, [(0x200, 32)], [⟨31, 0, .rwl, 0x0⟩]⟩]
/-- Every register of LOOPMEM beside the common ones. -/
def loopmemRows : List RegRow := loopmemRows0 ++ loopmemRows1

/-- Registers of CAM, part 0. -/
def camRows0 : List RegRow := [
  ⟨0x0, [(0x8000, 32), (0x4, 8192)], [⟨31, 0, .rwl, 0x0⟩]⟩]
/-- Every register of CAM beside the common ones. -/
def camRows : List RegRow := camRows0

/-- Registers of LIFE, part 0. -/
def lifeRows0 : List RegRow := [
  ⟨0x0, [(0x400, 2)], [⟨31, 16, .ro, 0x1⟩]⟩,
  ⟨0x4, [(0x400, 2)], [⟨31, 0, .ro, 0x0⟩]⟩,
  ⟨0x8, [(0x400, 2)], [⟨31, 0, .ro, 0x0⟩]⟩,
  ⟨0xc, [(0x400, 2)], [⟨7, 0, .ro, 0x0⟩]⟩,
  ⟨0x10, [(0x400, 2)], [⟨31, 0, .ro, 0x0⟩]⟩,
  ⟨0x14, [(0x400, 2)], [⟨31, 0, .ro, 0x0⟩]⟩,
  ⟨0x18, [(0x400, 2)], [⟨31, 0, .ro, 0x0⟩]⟩,
  ⟨0x1c, [(0x400, 2)], [⟨31, 0, .ro, 0x0⟩]⟩,
  ⟨0x20, [(0x400, 2)], [⟨31, 0, .ro, 0x0⟩]⟩,
  ⟨0x24, [(0x400, 2)], [⟨31, 0, .ro, 0x0⟩]⟩,
  ⟨0x28, [(0x400, 2)], [⟨31, 0, .ro, 0x0⟩]⟩,
  ⟨0x2c, [(0x400, 2)], [⟨31, 0, .ro, 0x0⟩]⟩,
  ⟨0x30, [(0x400, 2)], [⟨31, 0, .ro, 0x0⟩]⟩,
  ⟨0x34, [(0x400, 2)], [⟨31, 0, .ro, 0x0⟩]⟩,
  ⟨0x38, [(0x400, 2)], [⟨31, 0, .ro, 0x0⟩]⟩,
  ⟨0x3c, [(0x400, 2)], [⟨31, 0, .ro, 0x0⟩]⟩,
  ⟨0x40, [(0x400, 2)], [⟨31, 0, .ro, 0x0⟩]⟩,
  ⟨0x44, [(0x400, 2)], [⟨31, 0, .ro, 0x0⟩]⟩,
  ⟨0x48, [(0x400, 2)], [⟨31, 0, .ro, 0x0⟩]⟩,
  ⟨0x4c, [(0x400, 2)], [⟨8, 0, .ro, 0x0⟩]⟩,
  ⟨0x50, [(0x400, 2)], [⟨31, 0, .ro, 0x0⟩]⟩,
  ⟨0x54, [(0x400, 2)], [⟨7, 0, .ro, 0x0⟩]⟩,
  ⟨0x58, [(0x400, 2)], [⟨31, 16, .ro, 0x0⟩, ⟨15, 0, .ro, 0x0⟩]⟩,
  ⟨0x5c, [(0x400, 2)], [⟨31, 0, .ro, 0x0⟩]⟩,
  ⟨0x80, [(0x400, 2), (0x4, 32)], [⟨31, 0, .ro, 0x0⟩]⟩,
  ⟨0x100, [(0x400, 2), (0x40, 5), (0x4, 32)], [⟨31, 0, .ro, 0x0⟩]⟩,
  ⟨0x340, [(0x400, 2), (0x4, 16)], [⟨31, 0, .ro, 0x0⟩]⟩,
  ⟨0x3fc, [(0x400, 2)], [⟨31, 0, .ro, 0x0⟩]⟩]
/-- Every register of LIFE beside the common ones. -/
def lifeRows : List RegRow := lifeRows0

end Sys2Proof.Machine.RegTable
end

