-- ==== Sys2Proof/Machine/Store.lean ====
section
/-! DEFINITION. Sorted tables of plain data, the default word of every address, and the one way to read and write
a word or a field of a register (R9-R12). -/

namespace Sys2Proof.Machine

/-- What table `t` holds at `k`; `d` where nothing is listed. -/
def tabGet {α : Type} (d : α) : List (Nat × α) → Nat → α
  | [], _ => d
  | (k', v) :: r, k => if k = k' then v else tabGet d r k

/-- Table `t` with `v` at `k`, kept in rising order; a value equal to the default `d` is not listed. -/
def tabSet {α : Type} [DecidableEq α] (d : α) : List (Nat × α) → Nat → α → List (Nat × α)
  | [], k, v => if v = d then [] else [(k, v)]
  | (k', v') :: r, k, v =>
    if k < k' then (if v = d then (k', v') :: r else (k, v) :: (k', v') :: r)
    else if k = k' then (if v = d then r else (k, v) :: r)
    else (k', v') :: tabSet d r k v

/-- The indices that lead from offset 0 to `d` along strides and counts; none where `d` is no such offset. -/
def dimIndex : Nat → List (Nat × Nat) → Option (List Nat)
  | d, [] => if d = 0 then some [] else none
  | d, (s, n) :: r => if d / s < n then (dimIndex (d % s) r).map (fun l => d / s :: l) else none

/-- The register at offset `o` of a register map, with its indices. -/
def findRow : List RegRow → Nat → Option (RegRow × List Nat)
  | [], _ => none
  | r :: t, o =>
    if r.off ≤ o then
      match dimIndex (o - r.off) r.dims with
      | some ix => some (r, ix)
      | none => findRow t o
    else findRow t o

/-- R26: base of the peripheral block with number `n`. -/
def blkBase (n : Nat) : Nat := 0x20000000 + 0x10000 * n

/-- R27: the common registers of block `n` at offset `o`; CAN has one set per controller. -/
def commonRow (n o : Nat) : Option RegRow :=
  let o := if n = 10 then o % 0x4000 else o
  if o = 0x000 then some ⟨0, [], [⟨31, 16, .ro, 0x0D00 + n⟩, ⟨15, 8, .ro, 1⟩, ⟨7, 0, .ro, 0⟩]⟩
  else if o = 0x004 then some ⟨4, [], [⟨0, 0, .rw, 1⟩]⟩
  else if o = 0x008 then some ⟨8, [], [⟨0, 0, .ro, 0⟩]⟩
  else if o = 0x00C then some ⟨12, [], [⟨2, 2, .w1c, 0⟩, ⟨1, 1, .w1c, 0⟩, ⟨0, 0, .w1c, 0⟩]⟩
  else if o = 0x010 then some ⟨16, [], [⟨31, 0, .rw, 0⟩]⟩
  else if o = 0x014 then some ⟨20, [], [⟨31, 0, .wo, 0⟩]⟩
  else if (n = 5 || n = 6 || n = 7 || n = 8 || n = 9) && decide (0x020 ≤ o) && decide (o < 0x060) && decide (o % 4 = 0) then
    some ⟨0x020, [(4, 16)], [⟨31, 0, .rw, 0⟩]⟩
  else none

/-- The register map of the peripheral block with number `n` (R26). -/
def blkRows (n : Nat) : List RegRow :=
  match n with
  | 0 => RegTable.sysRows
  | 1 => RegTable.secRows
  | 2 => RegTable.irqRows
  | 3 => RegTable.schedRows
  | 4 => RegTable.timeRows
  | 5 => RegTable.adcRows
  | 6 => RegTable.pwmRows
  | 7 => RegTable.loopRows
  | 8 => RegTable.motionRows
  | 9 => RegTable.ringRows
  | 10 => RegTable.canRows
  | 11 => RegTable.ethRows
  | 12 => RegTable.acqRows
  | 13 => RegTable.stoRows
  | 14 => RegTable.evrecRows
  | 15 => RegTable.opioRows
  | 16 => RegTable.spliceRows
  | 17 => RegTable.hostifRows
  | 18 => RegTable.gpioRows
  | _ => []

/-- A row as the register map and the common registers give it together: BLK_CTRL, BLK_STAT and BLK_STICKY have
both common and block-specific fields (R27). -/
def mergeRow (a : Option RegRow) (b : Option (RegRow × List Nat)) : Option (RegRow × List Nat) :=
  match a, b with
  | none, b => b
  | some r, none => some (r, [])
  | some r, some (q, ix) => some (⟨q.off, q.dims, r.fields ++ q.fields⟩, ix)

/-- The register at address `a`: its row and its indices; none where no register stands. The reset defaults of the
staged copies, 0x800 higher (R30), are found through the active register. -/
def regAt (a : Nat) : Option (RegRow × List Nat) :=
  if 0x20000000 ≤ a ∧ a < 0x20130000 then
    let n := (a - 0x20000000) / 0x10000
    let o := (a - 0x20000000) % 0x10000
    mergeRow (commonRow n o) (findRow (blkRows n) o)
  else if 0x21000000 ≤ a ∧ a < 0x21200000 then findRow RegTable.loopmemRows (a - 0x21000000)
  else if 0x21200000 ≤ a ∧ a < 0x21300000 then findRow RegTable.camRows (a - 0x21200000)
  else if 0x10200000 ≤ a ∧ a < 0x10200800 then findRow RegTable.lifeRows (a - 0x10200000)
  else none

/-- The reset word made of the fields' reset values (R12). -/
def fieldsReset : List RegField → Nat
  | [] => 0
  | f :: r => f.rst * 2 ^ f.lo + fieldsReset r

/-- Whether a field is staged (R30). -/
def isStg (f : RegField) : Bool := f.acc = .stg

/-- R12, R30: what the word at address `a` reads as when nothing is listed: the reset word of its register; for a
staged copy, the reset word of the staged fields; otherwise 0. -/
def resetWord (a : Nat) : Word :=
  match regAt a with
  | some (r, _) => Word.of (fieldsReset r.fields)
  | none =>
    match regAt (a - 0x800) with
    | some (r, _) => Word.of (fieldsReset (r.fields.filter isStg))
    | none => 0

/-- The store's read of one word. -/
def storeGet (m : Store) (a : Nat) : Word := tabGet (resetWord a) m a

/-- The store's write of one word; keeps the canonical form. -/
def storeSet (m : Store) (a : Nat) (v : Word) : Store := tabSet (resetWord a) m a v

/-- The canonical form: addresses strictly rising and no entry at its default. -/
def Store.wf (m : Store) : Bool :=
  match m with
  | [] => true
  | [(a, v)] => v != resetWord a
  | (a, v) :: (b, w) :: r => v != resetWord a && decide (a < b) && Store.wf ((b, w) :: r)

/-- The word at address `a`. -/
def State.word (s : State) (a : Nat) : Word := storeGet s.words a

/-- The state with word `v` at address `a`. -/
def State.setWord (s : State) (a : Nat) (v : Word) : State := { s with words := storeSet s.words a v }

/-- Bits [hi:lo] of a number. -/
def bits (n hi lo : Nat) : Nat := n / 2 ^ lo % 2 ^ (hi - lo + 1)

/-- A number with bits [hi:lo] replaced by `v`. -/
def setBits (n hi lo v : Nat) : Nat := n - bits n hi lo * 2 ^ lo + v % 2 ^ (hi - lo + 1) * 2 ^ lo

/-- A field of a register. -/
def State.get (s : State) (f : Fld) : Nat := bits (s.word f.addr).toNat f.hi f.lo

/-- The state with field `f` at `v`; the register's other bits stay. -/
def State.put (s : State) (f : Fld) (v : Nat) : State :=
  s.setWord f.addr (Word.of (setBits (s.word f.addr).toNat f.hi f.lo v))

/-- A byte of memory at address `a`. -/
def State.byte (s : State) (a : Nat) : Nat := (s.word (a / 4 * 4)).toNat / 2 ^ (8 * (a % 4)) % 256

/-- A byte of memory is written. -/
def State.setByte (s : State) (a v : Nat) : State :=
  s.setWord (a / 4 * 4) (Word.of (setBits (s.word (a / 4 * 4)).toNat (8 * (a % 4) + 7) (8 * (a % 4)) v))

/-- Bytes are written one after the other from address `a`. -/
def State.putBytes (s : State) (a : Nat) : List Nat → State
  | [] => s
  | b :: r => (s.setByte a b).putBytes (a + 1) r

/-- Bytes read one after the other from address `a`. -/
def State.takeBytes (s : State) (a n : Nat) : List Nat := (List.range n).map (fun i => s.byte (a + i))

/-- R8: the number that bytes spell, the lowest first. -/
def leNat : List Nat → Nat
  | [] => 0
  | b :: r => b + 256 * leNat r

/-- A one-bit field as a Bool. -/
def State.on (s : State) (f : Fld) : Bool := s.get f != 0

/-- The staged copy of a field (R30). -/
def Fld.staged (f : Fld) : Fld := { f with addr := f.addr + 0x800 }

/-- A Bool as a bit. -/
def b2n (b : Bool) : Nat := if b then 1 else 0

/-- The 64-bit value of the _LO/_HI pair whose low word is field `f` (R34). -/
def State.get64 (s : State) (f : Fld) : Nat := (s.word f.addr).toNat + 2 ^ 32 * (s.word (f.addr + 4)).toNat

/-- The state with the _LO/_HI pair at `f` set to `v` modulo 2^64. -/
def State.put64 (s : State) (f : Fld) (v : Nat) : State :=
  (s.setWord f.addr (Word.of v)).setWord (f.addr + 4) (Word.of (v / 2 ^ 32))

/-- A field counted up by one, held at its largest value. -/
def State.incSat (s : State) (f : Fld) : State :=
  s.put f (min (s.get f + 1) (2 ^ (f.hi - f.lo + 1) - 1))

/-- A field counted up by one, wrapping. -/
def State.incWrap (s : State) (f : Fld) : State := s.put f (s.get f + 1)

/-- A signed reading of an `n`-bit number. -/
def sgn (n v : Nat) : Int := if v % 2 ^ n < 2 ^ (n - 1) then Int.ofNat (v % 2 ^ n) else Int.ofNat (v % 2 ^ n) - 2 ^ n

/-- The `n`-bit pattern of an integer. -/
def unsgn (n : Nat) (v : Int) : Nat := (v % 2 ^ n).toNat

/-- An integer held within bounds. -/
def clampI (lo hi v : Int) : Int := if v < lo then lo else if hi < v then hi else v

/-- Bit `n` of a number. -/
def bitOf (v n : Nat) : Bool := v / 2 ^ n % 2 = 1

/-- A number with bit `n` set or cleared. -/
def putBit (v n : Nat) (b : Bool) : Nat := if bitOf v n = b then v else if b then v + 2 ^ n else v - 2 ^ n

end Sys2Proof.Machine
end

