-- ==== Sys2Proof/Machine/Ops.lean ====
section
/-! DEFINITION. The operations every block shares: interrupt lines and vectors (R468-R475, R84), sticky flags
(R27), event records (R487-R489, R527), commits (R31-R33). -/

namespace Sys2Proof

/-- Parameter word `i` of a packet. -/
def Pkt.w (p : Pkt) (i : Nat) : Nat := (p.params.getD i 0).toNat

end Sys2Proof

namespace Sys2Proof.Machine

/-- Base addresses of the blocks (R26). -/
def bSYS : Nat := 0x20000000
def bSEC : Nat := 0x20010000
def bIRQ : Nat := 0x20020000
def bSCHED : Nat := 0x20030000
def bTIME : Nat := 0x20040000
def bADC : Nat := 0x20050000
def bPWM : Nat := 0x20060000
def bLOOP : Nat := 0x20070000
def bMOTION : Nat := 0x20080000
def bRING : Nat := 0x20090000
/-- Base of CAN controller `c` (R26). -/
def bCAN (c : Nat) : Nat := 0x200A0000 + 0x4000 * c
def bETH : Nat := 0x200B0000
def bACQ : Nat := 0x200C0000
def bSTO : Nat := 0x200D0000
def bEVREC : Nat := 0x200E0000
def bOPIO : Nat := 0x200F0000
def bSPLICE : Nat := 0x20100000
def bHOSTIF : Nat := 0x20110000
def bGPIO : Nat := 0x20120000

/-- SYS_BOOT_STAT: STAGE codes. -/
def STAGE_RESET : Nat := 0x00
def STAGE_ROM : Nat := 0x01
def STAGE_DRAM_TRAIN : Nat := 0x02
def STAGE_FW_INIT : Nat := 0x03
def STAGE_ADC_CAL : Nat := 0x04
def STAGE_FW_RUN : Nat := 0x05
def STAGE_RING_JOIN : Nat := 0x06
def STAGE_OPERATIONAL : Nat := 0x07
def STAGE_RECOVERY : Nat := 0x0E
def STAGE_HALTED : Nat := 0x0F

/-- Word `i` of an image; 0 past its end. -/
def iw (ws : List Nat) (i : Nat) : Nat := ws.getD i 0

/-- R261: one byte enters the reflected CRC-32C register, polynomial 0x1EDC6F41. -/
def crc32cByte (crc : Nat) (byte : Nat) : Nat :=
  (List.range 8).foldl (fun c _ => if c % 2 = 1 then Nat.xor (c / 2) 0x82F63B78 else c / 2) (Nat.xor crc byte)

/-- R261: CRC-32C over a list of bytes. -/
def crc32c (bs : List Nat) : Nat := Nat.xor (bs.foldl crc32cByte 0xFFFFFFFF) 0xFFFFFFFF

/-- R8: the bytes of a word, low byte first. -/
def wordBytes (w : Nat) : List Nat := [w % 256, w / 256 % 256, w / 65536 % 256, w / 16777216 % 256]

/-- R261: CRC-32C over a list of words. -/
def crc32cWords (ws : List Nat) : Nat := crc32c (ws.flatMap wordBytes)

/-- A frame with its CRC. -/
def withCrc (ws : List Nat) : List Nat := ws ++ [crc32cWords ws]

/-- R89: device time in nanoseconds. -/
def State.now (s : State) : Nat := s.time.ns

/-- Device time in units of 2^-32 ns (R89). -/
def State.fine (s : State) : Nat := s.time.ns * 2 ^ 32 + s.time.frac

/-- Device time set, in units of 2^-32 ns; it wraps modulo 2^64 ns. -/
def State.setFine (s : State) (v : Int) : State :=
  let n := (v % 2 ^ 96).toNat
  { s with time := { s.time with ns := n / 2 ^ 32, frac := n % 2 ^ 32 } }

/-- R89: what one CTL_CLK tick adds, in units of 2^-32 ns: 2.5 ns plus TIME_RATE. -/
def State.tickStep (s : State) : Nat := (10737418240 + sgn 32 (s.get F.TIME_RATE_RATE)).toNat

/-- R36: the derived clocks run: the device is out of reset and the system PLL has locked. -/
def State.clocked (s : State) : Bool := !s.sys.inReset && s.on F.SYS_CLK_STAT_PLL_LOCK

/-- R89: `n` CTL_CLK ticks pass. R36: none do while no derived clock runs. -/
def State.advance (s : State) (n : Nat) : State :=
  if s.clocked then
    let s1 := s.setFine (s.fine + n * s.tickStep)
    { s1 with time := { s1.time with tick := s1.time.tick + n } }
  else s

/-- R89, R96: the course of device time is about to change at this tick, by a step or another rate: what it was until now is noted,
and what is older than a second is forgotten. -/
def State.markTime (s : State) : State :=
  { s with time := { s.time with marks := s.time.marks.filter (fun m => decide (s.time.tick < m.1 + 400000000)) ++
      [(s.time.tick, s.fine, s.tickStep)] } }

/-- R89: TIME_RATE takes a value. -/
def State.setRate (s : State) (r : Int) : State := s.markTime.put F.TIME_RATE_RATE (unsgn 32 r)

/-- R98: the ticks until device time is equal to or later than `t` ns. -/
def State.ticksTo (s : State) (t : Nat) : Nat := (t * 2 ^ 32 - s.fine + s.tickStep - 1) / s.tickStep

/-- R89: the first CTL_CLK tick at which device time was `t` ns or later; this one where it is still to come. -/
def State.tickAt (s : State) (t : Nat) : Nat := s.time.tick - (s.fine - t * 2 ^ 32) / max 1 s.tickStep

/-- R98: device time advances, tick by tick, to the first tick at or after `t` ns. -/
def State.advanceTo (s : State) (t : Nat) : State := if s.now < t then s.advance (s.ticksTo t) else s

/-- R147, R375: the number of the multiple of `p` nanoseconds that device time reaches next; `last` is 1 more than that of the one taken
last. -/
def State.gridNext (s : State) (p last : Nat) : Nat :=
  let c := (s.now + b2n (s.time.frac ≠ 0) + p - 1) / p
  if last = c + 1 then c + 1 else c

/-- R89: device time, in ns, at CTL_CLK tick `k`, which may lie before or after this one: steps and changes of the rate after `k` do
not count. -/
def State.timeAt (s : State) (k : Nat) : Nat :=
  let m := (s.time.marks.find? (fun m => decide (k < m.1))).getD (s.time.tick, s.fine, s.tickStep)
  (((m.2.1 : Int) + ((k : Int) - m.1) * m.2.2) / 2 ^ 32 % 2 ^ 64).toNat

/-- R89: device time advances to tick `k`, unless it has passed. -/
def State.advanceTick (s : State) (k : Nat) : State := if s.time.tick < k then s.advance (k - s.time.tick) else s

/-- R36, R477, R480: the units that STANDBY stops (cores, the loop array, PWM, ADC, MOTION, RING, ACQ, CAN, ETH, SPLICE, OPIO) run:
not in STANDBY, nor while no derived clock runs. -/
def State.runs (s : State) : Bool := s.clocked && decide (s.get F.IRQ_BLK_STAT_POWER ≠ 3)

/-- R36, R477, R480: an event of a unit that does not run has no effect. -/
def State.awake (s : State) (o : Host.Outcome State Fault Refusal) : Host.Outcome State Fault Refusal := if s.runs then o else .next s

/-- A word of a packet holds bits outside a mask. -/
def outside (v mask : Nat) : Bool := Nat.land v mask ≠ v

/-- The next free value: the opaque constant of Config at the counter, and the counter advanced. -/
def State.fresh (s : State) : Nat × State := (Config.freeNat s.free, { s with free := s.free + 1 })

/-- R84: the Function Mask of the MSI-X capability masks every vector. -/
def State.fnMask (s : State) : Bool := s.host.pci.any (fun e => e.1 = 0x50 && e.2 / 2 ^ 30 % 2 = 1)

/-- R84: vector `v` is raised: a masked vector sets its pending bit, an unmasked one is sent. -/
def State.msix (s : State) (v : Nat) : State :=
  if s.fnMask || bitOf s.host.msixMask v then { s with host := { s.host with msixPend := putBit s.host.msixPend v true } }
  else { s with host := { s.host with msixSent := tabSet 0 s.host.msixSent v (tabGet 0 s.host.msixSent v + 1) } }

/-- R470: the PEND bit of source `n`. -/
def State.irqPend (s : State) (n : Nat) : Bool := bitOf (s.get (F.IRQ_PEND (n / 32))) (n % 32)

/-- R471: the in-service bit of source `n`. -/
def State.irqInService (s : State) (n : Nat) : Bool := bitOf (s.get (F.IRQ_INSV (n / 32))) (n % 32)

/-- The line of source `n` after INV (R469). -/
def State.irqLine (s : State) (n : Nat) : Bool := bitOf (s.get (F.IRQ_LINE (n / 32))) (n % 32)

/-- R475: a source without GRP_EN is always released; a grouped one once its group has fired. -/
def State.irqReleased (s : State) (n : Nat) : Bool := !s.on (F.IRQS_GRP_EN n) || bitOf s.irq.released n

/-- R470: source `n` is deliverable to target `t`. -/
def State.deliverable (s : State) (t n : Nat) : Bool :=
  s.on (F.IRQS_EN n) && s.irqPend n && decide (s.get (F.IRQS_TARGET n) = t) && s.irqReleased n && !s.irqInService n &&
  decide (s.get (F.IRQT_THRESH t) ≤ s.get (F.IRQS_PRIO n))

/-- Sets or clears the PEND bit of source `n`. -/
def State.setPend (s : State) (n : Nat) (b : Bool) : State :=
  s.put (F.IRQ_PEND (n / 32)) (putBit (s.get (F.IRQ_PEND (n / 32))) (n % 32) b)

/-- Sets or clears the in-service bit of source `n`. -/
def State.setInService (s : State) (n : Nat) (b : Bool) : State :=
  s.put (F.IRQ_INSV (n / 32)) (putBit (s.get (F.IRQ_INSV (n / 32))) (n % 32) b)

/-- R475: the release of source `n` taken or given. -/
def State.setReleased (s : State) (n : Nat) (b : Bool) : State :=
  { s with irq := { s.irq with released := putBit s.irq.released n b } }

/-- R474: a source deliverable to the host is sent as vector 16 + VEC and its PEND clears in the same step; nothing
is sent in STANDBY (R480). -/
def State.hostDeliver (s : State) (n : Nat) : State :=
  if s.deliverable 8 n && decide (s.get F.IRQ_BLK_STAT_POWER ≠ 3) then
    ((s.setPend n false).setReleased n false).msix (16 + s.get (F.IRQS_VEC n))
  else s

/-- R474: every source deliverable to the host is sent. -/
def State.hostSweep (s : State) : State := (List.range 384).foldl State.hostDeliver s

/-- R475: source `n` is a member of group `g` with PEND set. -/
def State.groupMember (s : State) (g n : Nat) : Bool :=
  s.on (F.IRQS_GRP_EN n) && decide (s.get (F.IRQS_GROUP n) = g) && s.irqPend n

/-- R475: group `g` fires: every member with PEND set is released, HELD and the timer return to 0, FIRES counts. -/
def State.groupFire (s : State) (g : Nat) : State :=
  let ms := (List.range 384).filter (s.groupMember g)
  let s1 := ms.foldl (fun t n => t.setReleased n true) s
  let s2 := ((s1.put (F.IRQG_HELD g) 0).put (F.IRQG_HOLDING g) 0).incSat (F.IRQG_FIRES g)
  ms.foldl State.hostDeliver s2

/-- R475: an edge held by the group of source `n` is counted; at COUNT the group fires. -/
def State.groupHold (s : State) (n : Nat) : State :=
  let g := s.get (F.IRQS_GROUP n)
  let s0 := if s.on (F.IRQG_HOLDING g) then s else { s with irq := { s.irq with heldAt := tabSet 0 s.irq.heldAt g s.now } }
  let s1 := (s0.incSat (F.IRQG_HELD g)).put (F.IRQG_HOLDING g) 1
  if max 1 (s.get (F.IRQG_COUNT g)) ≤ s1.get (F.IRQG_HELD g) then s1.groupFire g else s1

/-- R469, R475: an edge of source `n`: PEND is set whatever EN says; an edge on a grouped source that is not released
is held; otherwise a host source is sent. -/
def State.edgeCore (s : State) (n : Nat) : State :=
  let s1 := s.setPend n true
  if s1.irqReleased n then s1.hostDeliver n else s1.groupHold n

/-- R481: the wake latch of a wake-capable source. -/
def wakeOf (n : Nat) : Option Nat :=
  if 168 ≤ n ∧ n ≤ 183 then some (n - 168)
  else if 290 ≤ n ∧ n ≤ 297 then some (n - 290 + 16)
  else if 88 ≤ n ∧ n ≤ 93 then some (n - 88 + 24)
  else if n = 318 then some 30
  else if n = 319 then some 31
  else none

/-- R481: the source of a wake latch. -/
def wakeSource (w : Nat) : Nat :=
  if w < 16 then 168 + w else if w < 24 then 290 + (w - 16) else if w < 30 then 88 + (w - 24) else if w = 30 then 318 else 319

/-- R481, R482: while the latches sense, an edge of the polarity IRQ_WAKE_POL selects sets the latch of source `n`. -/
def State.wakeSense (s : State) (n : Nat) (rising : Bool) : State :=
  match wakeOf n with
  | none => s
  | some w =>
    if s.irq.sensing && (bitOf (s.get F.IRQ_WAKE_POL) w != rising) then
      s.put F.IRQ_WAKE_LATCH (putBit (s.get F.IRQ_WAKE_LATCH) w true)
    else s

/-- R481: sources whose wake latch senses a pin and not the line: 168-183, before the filter of GPIO0-GPIO15 (R216), and 290-297, not
debounced (R505). -/
def sensesPin (n : Nat) : Bool := (decide (168 ≤ n) && decide (n ≤ 183)) || (decide (290 ≤ n) && decide (n ≤ 297))

/-- R469: line `n` (before INV) takes level `l`; a rise after INV is an edge. -/
def State.lineCore (s : State) (n : Nat) (l : Bool) : State :=
  let old := bitOf s.irq.raw n
  let s0 := { s with irq := { s.irq with raw := putBit s.irq.raw n l } }
  let s1 := if old = l || sensesPin n then s0 else s0.wakeSense n l
  let before := s1.irqLine n
  let after := l != s1.on (F.IRQS_INV n)
  let s2 := s1.put (F.IRQ_LINE (n / 32)) (putBit (s1.get (F.IRQ_LINE (n / 32))) (n % 32) after)
  if after && !before then s2.edgeCore n else s2

/-- R27, R468: the interrupt source of the block at base `b`; CAN1-CAN3 have sources 19-21. -/
def blockSource (b : Nat) : Nat :=
  let n := (b - 0x20000000) / 0x10000
  if n = 10 then (if b % 0x10000 = 0 then 10 else 18 + b % 0x10000 / 0x4000) else n

/-- R27: the block source is asserted while an enabled sticky bit is set. -/
def State.refreshLine (s : State) (b : Nat) : State :=
  s.lineCore (blockSource b) (Nat.land (s.get (F.BLK_STICKY b)) (s.get (F.BLK_IRQEN b)) != 0)

/-- R27: sticky flag number `n` of the block at base `b` is set. -/
def State.raise (s : State) (b n : Nat) : State :=
  (s.put (F.BLK_STICKY b) (putBit (s.get (F.BLK_STICKY b)) n true)).refreshLine b

/-- R27: CFG_REJECT of the block at base `b` is set. -/
def State.reject (s : State) (b : Nat) : State := s.raise b 0

/-- R469: a pulse on source `n` counts as one edge; R481: for the wake latch it rises and falls, so that either polarity takes it. -/
def State.pulseCore (s : State) (n : Nat) : State := ((s.wakeSense n true).wakeSense n false).edgeCore n

/-- R488, R489: who posts record `r`: blocks in their order, then firmware (codes 0x20 on), core code, the host. -/
def Rec.poster (r : Rec) : Nat := if r.answer.isSome || r.clear.isSome then 0x101 else if r.ext then 0x100 else r.code / 256

/-- R489: record `r` enters the queue behind the records of earlier cycles; those of its own cycle stand in the order of their posters. -/
def insertRec (r : Rec) : List Rec → List Rec
  | [] => [r]
  | x :: t => if x.cycle = r.cycle && decide (r.poster < x.poster) then r :: x :: t else x :: insertRec r t

/-- R489: a record is posted: a full queue drops it, counts it and marks the next record written. -/
def State.postRec (s : State) (r : Rec) : State :=
  if s.ev.queue.length < 64 then
    { s with ev := { s.ev with queue := insertRec { r with cycle := s.time.tick } s.ev.queue } }
  else ({ s with ev := { s.ev with dropped := true } } |>.incSat F.EVREC_DROP).raise bEVREC 9

/-- A record of the device with the severity its poster gives. -/
def State.postSev (s : State) (sev code source dataLo dataHi : Nat) : State :=
  s.postRec { code := code, source := source, dataLo := dataLo % 2 ^ 32, dataHi := dataHi % 2 ^ 32, sev := sev,
              safety := decide (code / 0x100 = 0x0D) }

/-- R527: the severity of the records whose severity their code and data give. -/
def sevOf (code source dataLo : Nat) : Nat :=
  if code % 0x100 = 0x01 ∨ code % 0x100 = 0x02 then 1
  else if code = 0x0010 then (if bits dataLo 23 16 = 4 ∨ bits dataLo 23 16 = 16 then 2 else 0)
  else if code = 0x0011 then (if bits dataLo 15 8 = 6 then 1 else 2)
  else if code = 0x0310 ∨ code = 0x0510 ∨ code = 0x0810 ∨ code = 0x0A10 then 2
  else if code = 0x0410 ∨ code = 0x0610 ∨ code = 0x0711 then 1
  else if code = 0x0910 then (if bits dataLo 7 0 = 3 then 2 else if bits dataLo 7 0 = 4 ∨ bits dataLo 7 0 = 6 then 0 else 1)
  else if code = 0x0E12 then (if source = 1 then 2 else 0)
  else if code = 0x1110 ∨ code = 0x1111 then 1
  else if code = 0x2010 then (if source % 4 = 2 then 0 else 1)
  else if code = 0x2011 ∨ code = 0x2013 then 1
  else if code = 0x2012 then 3
  else if code = 0x2015 then (if bits dataLo 3 0 ≤ 1 then 0 else 1)
  else 0

/-- A record of the device (R488) with the severity R527 assigns. -/
def State.post (s : State) (code source dataLo dataHi : Nat) : State :=
  s.postSev (sevOf code source dataLo) code source dataLo dataHi

/-- R28: a refused run-locked write of unit `u` at offset `o` of the block at base `b` sets CFG_REJECT and posts at
most one record per unit per second. -/
def State.lockReject (s : State) (b u o : Nat) (region : Bool) : State :=
  let s1 := s.reject b
  let key := b + u
  let last := tabGet 0 s.ev.lockRec key
  if last = 0 ∨ last - 1 + 1000000000 ≤ s.now then
    { s1 with ev := { s1.ev with lockRec := tabSet 0 s1.ev.lockRec key (s.now + 1) } }
      |>.post ((b - 0x20000000) / 0x10000 * 0x100 + 0x01) u o (b2n region)
  else s1

/-- R31: whether a commit of unit `u` of the block at base `b` is pending. -/
def State.commitPending (s : State) (b u : Nat) : Bool := s.commits.any (fun c => c.base = b && c.unit = u)

/-- R31, R33: CMT_PEND shows whether any unit of the block still waits. -/
def State.refreshCmtPend (s : State) (b : Nat) : State :=
  s.put (F.BLK_CMT_PEND b) (b2n (s.commits.any (fun c => c.base = b)))

/-- R31: one word of a unit's staged copy goes to the active copy. -/
def State.activate (s : State) (f : Fld) : State := s.put f (s.get f.staged)

/-- R31: every word of a unit's staged copy goes to the active copy at once. -/
def State.activateAll (s : State) (fs : List Fld) : State := fs.foldl State.activate s

/-- R31: the commit of unit `u` of the block at base `b` is no longer pending. -/
def State.dropCommit (s : State) (b u : Nat) : State :=
  { s with commits := s.commits.filter (fun c => !(c.base = b && c.unit = u)) }.refreshCmtPend b

end Sys2Proof.Machine
end

