-- ==== Sys2Proof/Machine/LashBase.lean ====
section
/-! DEFINITION. Splice routes and frames that leave, and the state of the Lashing that other blocks look at
(17_lashing_and_splice R422-R425, R430, R431, R437). -/

namespace Sys2Proof.Machine

/-- R437: LASH_STATE codes. -/
def lsOFF : Nat := 0
def lsSEEKING : Nat := 1
def lsACTIVE : Nat := 2
def lsSYNCING : Nat := 3
def lsSTANDBY : Nat := 4
def lsLOST : Nat := 5
def lsDETACHED : Nat := 6

/-- LASH_STATE. -/
def State.lashSt (s : State) : Nat := s.get F.SPLICE_BLK_STAT_LASH_STATE

/-- The state with the Lashing's interior changed. -/
def State.lashI (s : State) (f : LashInt → LashInt) : State := { s with lash := f s.lash }

/-- SPLl_EN, SPLl_UP of link `l`. -/
def splEn (l : Nat) : Fld := ⟨0x20100060, l, l⟩
def splUpBit (l : Nat) : Fld := ⟨0x20100064, l, l⟩
/-- PEERl, PEERl_VALID of link `l`. -/
def splPeer (l : Nat) : Fld := ⟨0x20100064, 5 + 2 * l, 4 + 2 * l⟩
def splPeerValid (l : Nat) : Fld := ⟨0x20100064, 2 + l, 2 + l⟩
/-- HOPS to identifier `d`. -/
def splHops (d : Nat) : Fld := ⟨0x20100068, 2 * d + 9, 2 * d + 8⟩

/-- R1, R29: program tasks and recipe steps run on this device: it is in no pair, or it is the ACTIVE. -/
def State.runsProg (s : State) : Bool := !s.on F.LASH_EN || s.lashSt = lsACTIVE

/-- R422: link `l` is enabled and up. -/
def State.splUp (s : State) (l : Nat) : Bool := s.on (splEn l) && s.on (splUpBit l)

/-- R423: the link that SPL_ROUTE names for identifier `d`. -/
def State.splRoute (s : State) (d : Nat) : Option Nat :=
  let r := bits (s.get F.SPL_ROUTE) (2 * d + 1) (2 * d)
  if r = 1 then some 0 else if r = 2 then some 1 else none

/-- R423: frames reach identifier `d`: the link named for it is up. -/
def State.splReach (s : State) (d : Nat) : Bool :=
  match s.splRoute d with
  | some l => s.splUp l
  | none => false

/-- R425: TIME, SIGNAL, CONTROL and DIGEST frames are those of lane 0. -/
def lane0Type (ty : Nat) : Bool := ty = 1 || ty = 2 || ty = 8 || ty = 0x12

/-- R424: the words of a whole frame: its header, whose FLEN counts header and CRC, its content, its CRC. -/
def splWords (ftype dst src schema mseq : Nat) (content : List Nat) : List Nat :=
  withCrc ((4 * (content.length + 3) % 65536 * 2 ^ 16 + ftype * 2 ^ 8 + dst % 4 * 2 ^ 6 + src % 4 * 2 ^ 4) ::
    (schema % 256 * 2 ^ 24 + mseq % 2 ^ 24) :: content)

/-- R424: FTYPE and DST of a frame. -/
def splType (f : List Nat) : Nat := bits (iw f 0) 15 8
def splDst (f : List Nat) : Nat := bits (iw f 0) 7 6

/-- R425: the lane of frame `f` among the frames `fs` that leave together: lane 0 by its type; lane 1 otherwise, or lane 0 as well where the
frame has at most 128 bytes and no lane-0 frame of its link waits. -/
def State.splLane (s : State) (fs : List (Nat × List Nat)) (f : Nat × List Nat) : Nat :=
  if lane0Type (splType f.2) then 0
  else if decide (4 * f.2.length ≤ 128) && !fs.any (fun e => e.1 = f.1 && lane0Type (splType e.2)) &&
    Config.shortOnLane0 f.1 (s.get (F.SPLL_TX_FRAMES f.1)) then 0 else 1

/-- R423, R425, R444: whole frames leave, as (link, words), each on its lane; those of a link that is not up do not. -/
def State.splEmit (s : State) (fs : List (Nat × List Nat)) : State :=
  let gone := fs.filter (fun f => s.splUp f.1)
  if gone.isEmpty then s
  else
    let out := gone.map (fun f => (f, s.splLane gone f))
    gone.foldl (fun (t : State) f => t.incSat (F.SPLL_TX_FRAMES f.1)) { s with splice := { s.splice with out := s.splice.out ++ out } }

/-- R423: a whole frame leaves on the link named for its destination. -/
def State.splOut (s : State) (f : List Nat) : State :=
  match s.splRoute (splDst f) with
  | some l => s.splEmit [(l, f)]
  | none => s

/-- R424: a frame of this device that no mirror stream carries. -/
def State.splFrame (s : State) (ftype d : Nat) (content : List Nat) : List Nat := splWords ftype d (s.get F.SPL_ID) 0 0 content

/-- R423: a frame of this device for identifier `d` leaves on the link named for it. -/
def State.splSend (s : State) (ftype d : Nat) (content : List Nat) : State := s.splOut (s.splFrame ftype d content)

/-- R8: a 64-bit value as two words, low word first. -/
def w64 (v : Nat) : List Nat := [v % 2 ^ 32, v / 2 ^ 32 % 2 ^ 32]

/-- Parts of a list of at most `n` elements each. -/
def cutList {α : Type} (n : Nat) (l : List α) : List (List α) :=
  (List.range ((l.length + n - 1) / n)).map (fun i => (l.drop (n * i)).take n)

/-- R427: a result of exported core `c` leaves for every partner in a SIGNAL frame. -/
def State.exportSignal (s : State) (c word ts : Nat) : State :=
  if bitOf (s.get F.SPL_CORES) c then
    s.splEmit (((List.range 4).filter (fun d => decide (d ≠ s.get F.SPL_ID))).filterMap (fun d =>
      (s.splRoute d).map (fun l => (l, s.splFrame 2 d ([word, c] ++ w64 ts)))))
  else s

/-- R430: on the STANDBY the inputs that the LASH_MIR masks name are not read from the device's own pins. -/
def State.mirEnc (s : State) (n : Nat) : Bool := s.lashSt = lsSTANDBY && bitOf (s.get F.LASH_MIR_ENC) n
def State.mirCap (s : State) (n : Nat) : Bool := s.lashSt = lsSTANDBY && bitOf (s.get F.LASH_MIR_CAP) n
def State.mirGpio (s : State) (n : Nat) : Bool :=
  s.lashSt = lsSTANDBY && bitOf (s.get F.LASH_MIR_GPIO_LO + 2 ^ 32 * s.get F.LASH_MIR_GPIO_HI) n
def State.mirCan (s : State) (c : Nat) : Bool := s.lashSt = lsSTANDBY && bitOf (s.get F.LASH_MIR_CAN) c

/-- R429: the links that LASH_CTRL.MIRROR names. -/
def State.mirrorLinks (s : State) : List Nat := [0, 1].filter (fun l => bitOf (s.get F.LASH_MIRROR) l)

/-- R424, R442: the next mirror header: MSEQ advances, SCHEMA is the lower of the two. -/
def State.nextMseq (s : State) : Nat := (s.lash.seqTx + 1) % 2 ^ 24
def State.lashSchema (s : State) : Nat := min (s.get F.LASH_OWN_SCHEMA) (s.get F.LASH_PARTNER_SCHEMA)

/-- R424: the next mirror frame of this device. -/
def State.mirFrame (s : State) (ftype : Nat) (content : List Nat) : List Nat :=
  splWords ftype (s.get F.LASH_PARTNER) (s.get F.SPL_ID) s.lashSchema s.nextMseq content

/-- R429: a mirror frame leaves on each link that MIRROR names. -/
def State.mirrorSend (s : State) (ftype : Nat) (content : List Nat) : State :=
  (s.lashI (fun v => { v with seqTx := s.nextMseq })).splEmit (s.mirrorLinks.map (fun l => (l, s.mirFrame ftype content)))

/-- R430: the content of an M_INPUT frame behind its input cycle, R437 of a CONTROL frame, R440 of a SEED frame, R431 of an M_CMD frame. Their
layouts are the model's (log entry 71). -/
def itemWords (x : MirItem) : List Nat :=
  match x with
  | .adc c k w ts => [0, c, k, w.toNat] ++ w64 ts
  | .enc n pos err => [1, n] ++ w64 (unsgn 64 pos) ++ [b2n err]
  | .cap n rising ts => [2, n, b2n rising] ++ w64 ts
  | .gpio n level => [3, n, b2n level]
  | .can c f => [4, c, b2n f.ide + 2 * b2n f.fdf + 4 * b2n f.brs + 8 * b2n f.esi, f.id, f.dlc] ++ w64 f.ts ++ f.data
  | .tick m => [5, m]
  | .trip g sto => [6, g, b2n sto]
  | .sto k safe => [7, k, b2n safe]
  | .img i v => [8, i, v.toNat]

def controlWords (c : LashControl) : List Nat :=
  [c.state + 2 ^ 4 * b2n c.prefer + 2 ^ 5 * b2n c.detach + 2 ^ 6 * b2n c.snapshot + 2 ^ 7 * b2n c.loaded + 2 ^ 8 * b2n c.image.isSome +
    2 ^ 9 * b2n c.switchCyc.isSome + 2 ^ 16 * c.schema] ++ w64 c.uid ++ [c.image.getD 0, c.switchCyc.getD 0]

def seedWords (x : Seed) : List Nat :=
  match x with
  | .slot n cyc st mem limits model => [n, cyc, st] ++ (mem ++ limits ++ model).map (fun w => w.toNat)
  | .axis n cyc mem p v a => [512 + n, cyc] ++ mem.map (fun w => w.toNat) ++ w64 (unsgn 64 (p / 2 ^ 64)) ++ w64 (unsgn 64 p) ++
      w64 (unsgn 64 v) ++ w64 (unsgn 64 a)

def cmdWords (c : Nat) (p : Pkt) (status : Nat) : List Nat :=
  ([c, p.opcode, p.len, status] ++ p.params.map (fun w => w.toNat)).take 1021

/-- R437, R442: what this device's CONTROL frames tell. -/
def State.ownControl (s : State) : LashControl :=
  { state := s.lashSt, schema := s.get F.LASH_OWN_SCHEMA, prefer := s.on F.LASH_PREFER, uid := s.get64 F.STAT_UID_LO_UID,
    image := s.prog.active.map PImage.id, switchCyc := s.lash.switchCyc, loaded := s.lash.loaded }

/-- R437: a CONTROL frame leaves for the partner. -/
def State.controlSend (s : State) (c : LashControl) : State := s.splSend 8 (s.get F.LASH_PARTNER) (controlWords c)

/-- R430: the ACTIVE with a partner in SYNCING or STANDBY, which follows it. -/
def State.mirrors (s : State) : Bool := s.lashSt = lsACTIVE && (s.lash.partner = lsSYNCING || s.lash.partner = lsSTANDBY)

/-- R430, R431: an input of the ACTIVE leaves in an M_INPUT frame with its input cycle. -/
def State.mirInput (s : State) (x : MirItem) : State :=
  if s.mirrors then s.mirrorSend 0x11 (s.get F.RING_CYCLE_NUM :: itemWords x) else s

/-- R430: as above, for an input that a LASH_MIR mask names. -/
def State.mirInputIf (s : State) (c : Bool) (x : MirItem) : State := if c then s.mirInput x else s

/-- R63, R437: ROLE of a Lashing state. -/
def lashRole (st : Nat) : Nat := if st = lsOFF then 0 else if st = lsACTIVE then 1 else if st = lsSTANDBY then 2 else 3

/-- R63: ROLE takes a value; vector 4 on a change. -/
def State.setRole (s : State) (r : Nat) : State := if s.get F.STAT_BOOT_ROLE = r then s else (s.put F.STAT_BOOT_ROLE r).msix 4

/-- Controller `c` beside its registers. -/
def State.canI (s : State) (c : Nat) : CanInt := tabGet {} s.can c

/-- The state with controller `c` set. -/
def State.setCan (s : State) (c : Nat) (v : CanInt) : State := { s with can := tabSet {} s.can c v }

/-- R385: the controller leaves CONFIG: SYNC, TEC = REC = 0, counters cleared. -/
def State.canSync (s : State) (c mode : Nat) : State :=
  let s1 := (((s.put (F.CAN_MODE c) mode).put (F.CAN_STATE c) 1).put (F.CAN_TEC c) 0).put (F.CAN_REC c) 0
  (((s1.put (F.CAN_RXCNT c) 0).put (F.CAN_TXCNT c) 0).put (F.CAN_ERRCNT c) 0).put (F.CAN_NOMATCH c) 0

/-- R394: firmware writes MODE `m`, which is not CONFIG, to every controller. -/
def State.canModes (s : State) (m : Nat) : State :=
  (List.range 4).foldl (fun (t : State) c =>
    if t.get (F.CAN_STATE c) = 0 then t.canSync c m
    else (t.put (F.CAN_MODE c) m).setCan c { t.canI c with leaving := false }) s

/-- R527: severity of the record of a state change. -/
def lashSev (old new : Nat) : Nat := if new = lsLOST then 2 else if new = lsACTIVE && old = lsSTANDBY then 1 else 0

/-- R49, R341: FORCE_IND is active while a force is in force, and from the acceptance of the first (PROG_FORCE, 0x0503); before arming it is
low. -/
def State.refreshForceInd (s : State) : State :=
  { s with prog := { s.prog with forceInd := s.on F.SYS_ARM_OUTEN &&
    (!s.prog.forces.isEmpty || s.prog.atRelease.any (fun p => decide (p.opcode = 0x0503) && decide (bits (p.w 0) 6 0 ≠ 0))) } }

/-- R52, R505: OUTEN goes to 1; at arming a connector whose pin is already active starts from INSERTING. -/
def State.setOutEn (s : State) : State :=
  State.refreshForceInd <|
  (List.range 16).foldl (fun (t : State) n =>
    if t.on (F.HP_EN n) && t.on (F.HP_PIN n) && decide (t.get (F.HP_STATE n) = 0) then t.put (F.HP_STATE n) 1 else t) (s.put F.SYS_ARM_OUTEN 1)

/-- R503: connectors in POWERED whose node `n` is present are JOINED. -/
def State.hpJoin (s : State) (n : Nat) : State :=
  (List.range 16).foldl (fun (t : State) k =>
    if t.on (F.HP_EN k) && decide (t.get (F.HP_STATE k) = 3) && decide (t.get (F.HP_NODE k) = n) then t.put (F.HP_STATE k) 4 else t) s

/-- R1: the tasks that execute end with no commit. -/
def State.dropPeriods (s : State) : State :=
  let ts := s.prog.tasks.map (fun (n, t) => (n, { t with periods := [] }))
  { s with prog := { s.prog with tasks := ts } }

/-- R394, R433, R431: what entering state `st` from `old` does beside the state: the STANDBY arms its outputs and holds its CAN
controllers in LISTEN; a STANDBY that becomes ACTIVE puts them in NORMAL; a device that becomes LOST drops what it held, and its tasks end
with no commit (R1). -/
def State.lashEnter (s : State) (old st : Nat) : State :=
  if st = lsSTANDBY then
    ((if 5 ≤ s.get F.SYS_BOOT_STAT_STAGE ∧ s.get F.SYS_BOOT_STAT_STAGE ≤ 7 then s.setOutEn else s).canModes 2)
  else if st = lsACTIVE && old = lsSTANDBY then s.canModes 1
  else if st = lsLOST then
    s.dropPeriods.lashI (fun v => { v with cmds := v.cmds.filter (fun e => e.2.queue ≠ 5), deltaIn := [], delta := [], inputs := [] })
  else s

/-- R437: LASH_STATE changes: ROLE, LASH_ACT, vector 14, ROLE_CHG, a record. -/
def State.setLash (s : State) (st : Nat) : State :=
  let old := s.lashSt
  if old = st then s
  else
    let s1 := ((s.put F.SPLICE_BLK_STAT_LASH_STATE st).setRole (lashRole st)).lashI (fun v =>
      { v with
        act := decide (st = lsACTIVE), firstBad := none, equal := 0, takeover := false, switchCyc := none, since := s.now })
    let s2 := ((s1.msix 14).raise bSPLICE 14).postSev (lashSev old st) 0x1010 0 (st + 2 ^ 4 * old) 0
    s2.lashEnter old st

/-- R437: a STANDBY or a device in SYNCING becomes LOST, with DIVERGED (sticky 12) or MIRROR_LATE (sticky 15). -/
def State.lashLost (s : State) (sticky : Nat) : State :=
  if s.lashSt = lsSTANDBY || s.lashSt = lsSYNCING then (s.raise bSPLICE sticky).setLash lsLOST else s

/-- R439: every digest that the device sends from now on as ACTIVE carries RESIGN. -/
def State.noteResign (s : State) : State := s.lashI (fun v => { v with resign := true })

/-- Cycle `c` has come at cycle `k`; cycle numbers wrap. -/
def cycleDue (k c : Nat) : Bool := decide ((k + 2 ^ 32 - c % 2 ^ 32) % 2 ^ 32 < 2 ^ 31)

/-- R440 phase 3: the ACTIVE seeds unit `u` (slots 0-511, axes 512 + n) in a SEED frame, once, at an input cycle `cyc` that comes `after`
cycles after S1 or later. -/
def State.seedTx (s : State) (u after cyc : Nat) (x : Seed) : State :=
  match s.lash.seedCyc with
  | none => s
  | some c =>
    if s.lashSt = lsACTIVE && cycleDue cyc (c + after) && !s.lash.seedSent.contains u then
      (s.mirrorSend 0x15 (seedWords x)).lashI (fun v => { v with seedSent := u :: v.seedSent })
    else s

/-- R429: the segments of PAIR_NODE are the pair's: only the ACTIVE writes them. -/
def State.pairOwner (s : State) (owner : Nat) : Bool := s.on F.LASH_EN && decide (owner = s.get F.LASH_PAIR_NODE)

end Sys2Proof.Machine
end

