-- ==== Sys2Proof/Machine/Packet.lean ====
section
/-! DEFINITION. Command packets: the opcode table with its flags and lengths (R85), the checks and their order (R81),
replies (R74-R78) and status codes (R83). -/

namespace Sys2Proof.Machine

/-- R85: opcode SYS_NOP. -/
def opSysNop : Nat := 0x0100
/-- R85: opcode SYS_INFO. -/
def opSysInfo : Nat := 0x0101
/-- R85: opcode SYS_RESET. -/
def opSysReset : Nat := 0x0102
/-- R85: opcode SYS_ARM. -/
def opSysArm : Nat := 0x0103
/-- R85: opcode SYS_BOOT_STATUS. -/
def opSysBootStatus : Nat := 0x0104
/-- R85: opcode SYS_POWER_STATE. -/
def opSysPowerState : Nat := 0x0105
/-- R85: opcode SYS_WAKE_CONFIG. -/
def opSysWakeConfig : Nat := 0x0106
/-- R85: opcode SYS_REMOTE_PERMIT. -/
def opSysRemotePermit : Nat := 0x0107
/-- R85: opcode SYS_HEALTH. -/
def opSysHealth : Nat := 0x0108
/-- R85: opcode SLUICE_STATUS. -/
def opSluiceStatus : Nat := 0x0109
/-- R85: opcode SLUICE_REQUEST. -/
def opSluiceRequest : Nat := 0x010A
/-- R85: opcode TIME_CONFIG. -/
def opTimeConfig : Nat := 0x010B
/-- R85: opcode TIME_READ. -/
def opTimeRead : Nat := 0x010C
/-- R85: opcode LOOP_CONFIG. -/
def opLoopConfig : Nat := 0x0201
/-- R85: opcode LOOP_OPEN. -/
def opLoopOpen : Nat := 0x0202
/-- R85: opcode LOOP_CLOSE. -/
def opLoopClose : Nat := 0x0203
/-- R85: opcode LOOP_COEF_WRITE. -/
def opLoopCoefWrite : Nat := 0x0204
/-- R85: opcode LOOP_SETPOINT. -/
def opLoopSetpoint : Nat := 0x0205
/-- R85: opcode LOOP_MANUAL. -/
def opLoopManual : Nat := 0x0206
/-- R85: opcode LOOP_READ. -/
def opLoopRead : Nat := 0x0207
/-- R85: opcode LOOP_OBSERVER. -/
def opLoopObserver : Nat := 0x0208
/-- R85: opcode LOOP_SAFE. -/
def opLoopSafe : Nat := 0x0209
/-- R85: opcode LOOP_SUPERVISE. -/
def opLoopSupervise : Nat := 0x020A
/-- R85: opcode LOOP_STEP. -/
def opLoopStep : Nat := 0x020B
/-- R85: opcode LOOP_SWEEP. -/
def opLoopSweep : Nat := 0x020C
/-- R85: opcode LOOP_RELEASE. -/
def opLoopRelease : Nat := 0x020D
/-- R85: opcode LOOP_STICKY_CLEAR. -/
def opLoopStickyClear : Nat := 0x020E
/-- R85: opcode AXIS_CONFIG. -/
def opAxisConfig : Nat := 0x0301
/-- R85: opcode AXIS_MOVE. -/
def opAxisMove : Nat := 0x0302
/-- R85: opcode AXIS_STOP. -/
def opAxisStop : Nat := 0x0303
/-- R85: opcode AXIS_ENABLE. -/
def opAxisEnable : Nat := 0x0304
/-- R85: opcode AXIS_GEAR. -/
def opAxisGear : Nat := 0x0305
/-- R85: opcode AXIS_CAM. -/
def opAxisCam : Nat := 0x0306
/-- R85: opcode CAM_TABLE_WRITE. -/
def opCamTableWrite : Nat := 0x0307
/-- R85: opcode AXIS_PHASE_TRIM. -/
def opAxisPhaseTrim : Nat := 0x0308
/-- R85: opcode AXIS_READ. -/
def opAxisRead : Nat := 0x0309
/-- R85: opcode AXIS_STEP_TABLE. -/
def opAxisStepTable : Nat := 0x030A
/-- R85: opcode RECIPE_LOAD. -/
def opRecipeLoad : Nat := 0x0401
/-- R85: opcode RECIPE_START. -/
def opRecipeStart : Nat := 0x0402
/-- R85: opcode RECIPE_PAUSE. -/
def opRecipePause : Nat := 0x0403
/-- R85: opcode RECIPE_RESUME. -/
def opRecipeResume : Nat := 0x0404
/-- R85: opcode RECIPE_ABORT. -/
def opRecipeAbort : Nat := 0x0405
/-- R85: opcode RECIPE_STATUS. -/
def opRecipeStatus : Nat := 0x0406
/-- R85: opcode RECIPE_DELETE. -/
def opRecipeDelete : Nat := 0x0407
/-- R85: opcode PROG_LOAD. -/
def opProgLoad : Nat := 0x0501
/-- R85: opcode PROG_RUN. -/
def opProgRun : Nat := 0x0502
/-- R85: opcode PROG_FORCE. -/
def opProgForce : Nat := 0x0503
/-- R85: opcode PROG_RELEASE. -/
def opProgRelease : Nat := 0x0504
/-- R85: opcode PROG_CHANGE. -/
def opProgChange : Nat := 0x0505
/-- R85: opcode PROG_READ_VAR. -/
def opProgReadVar : Nat := 0x0506
/-- R85: opcode PROG_WRITE_VAR. -/
def opProgWriteVar : Nat := 0x0507
/-- R85: opcode PROG_STATUS. -/
def opProgStatus : Nat := 0x0508
/-- R85: opcode PROG_RE_ARM. -/
def opProgReArm : Nat := 0x0509
/-- R85: opcode ACQ_CHANNEL. -/
def opAcqChannel : Nat := 0x0601
/-- R85: opcode ACQ_TRIGGER. -/
def opAcqTrigger : Nat := 0x0602
/-- R85: opcode ACQ_ARM. -/
def opAcqArm : Nat := 0x0603
/-- R85: opcode ACQ_STOP. -/
def opAcqStop : Nat := 0x0604
/-- R85: opcode ACQ_STREAM. -/
def opAcqStream : Nat := 0x0605
/-- R85: opcode ACQ_STATUS. -/
def opAcqStatus : Nat := 0x0606
/-- R85: opcode ACQ_MEASURE. -/
def opAcqMeasure : Nat := 0x0607
/-- R85: opcode RING_SCHEDULE_LOAD. -/
def opRingScheduleLoad : Nat := 0x0701
/-- R85: opcode RING_START. -/
def opRingStart : Nat := 0x0702
/-- R85: opcode RING_STOP. -/
def opRingStop : Nat := 0x0703
/-- R85: opcode RING_STATUS. -/
def opRingStatus : Nat := 0x0704
/-- R85: opcode RING_COUNTERS. -/
def opRingCounters : Nat := 0x0705
/-- R85: opcode RING_STATION. -/
def opRingStation : Nat := 0x0706
/-- R85: opcode RING_MASTER_RANK. -/
def opRingMasterRank : Nat := 0x0707
/-- R85: opcode SEC_ATTEST. -/
def opSecAttest : Nat := 0x0801
/-- R85: opcode SEC_CERT_READ. -/
def opSecCertRead : Nat := 0x0802
/-- R85: opcode SEC_IMAGE_WRITE. -/
def opSecImageWrite : Nat := 0x0803
/-- R85: opcode SEC_KEY_REVOKE. -/
def opSecKeyRevoke : Nat := 0x0804
/-- R85: opcode SEC_DEBUG_CHALLENGE. -/
def opSecDebugChallenge : Nat := 0x0805
/-- R85: opcode SEC_DEBUG_UNLOCK. -/
def opSecDebugUnlock : Nat := 0x0806
/-- R85: opcode SEC_ROLLBACK. -/
def opSecRollback : Nat := 0x0807
/-- R85: opcode REC_READ. -/
def opRecRead : Nat := 0x0901
/-- R85: opcode REC_CLEAR. -/
def opRecClear : Nat := 0x0902
/-- R85: opcode REC_HEAD. -/
def opRecHead : Nat := 0x0903
/-- R85: opcode LIFE_READ. -/
def opLifeRead : Nat := 0x0904
/-- R85: opcode REC_WRITE. -/
def opRecWrite : Nat := 0x0905
/-- R85: opcode LASH_CONFIG. -/
def opLashConfig : Nat := 0x0A01
/-- R85: opcode LASH_STATUS. -/
def opLashStatus : Nat := 0x0A02
/-- R85: opcode LASH_SWITCH. -/
def opLashSwitch : Nat := 0x0A03
/-- R85: opcode LASH_SNAPSHOT. -/
def opLashSnapshot : Nat := 0x0A04
/-- R85: opcode SPLICE_CONFIG. -/
def opSpliceConfig : Nat := 0x0A05
/-- R85: opcode SPLICE_STATUS. -/
def opSpliceStatus : Nat := 0x0A06
/-- R85: opcode ADC_CONFIG. -/
def opAdcConfig : Nat := 0x0B01
/-- R85: opcode ADC_CALIBRATE. -/
def opAdcCalibrate : Nat := 0x0B02
/-- R85: opcode ADC_SEQUENCE. -/
def opAdcSequence : Nat := 0x0B03
/-- R85: opcode ADC_READ. -/
def opAdcRead : Nat := 0x0B04
/-- R85: opcode PWM_CONFIG. -/
def opPwmConfig : Nat := 0x0B05
/-- R85: opcode PWM_DUTY. -/
def opPwmDuty : Nat := 0x0B06
/-- R85: opcode PWM_TRIP_CLEAR. -/
def opPwmTripClear : Nat := 0x0B07
/-- R85: opcode PWM_ENABLE. -/
def opPwmEnable : Nat := 0x0B08
/-- R85: opcode GPIO_CONFIG. -/
def opGpioConfig : Nat := 0x0B09
/-- R85: opcode GPIO_WRITE. -/
def opGpioWrite : Nat := 0x0B0A
/-- R85: opcode GPIO_READ. -/
def opGpioRead : Nat := 0x0B0B
/-- R85: opcode ENC_CONFIG. -/
def opEncConfig : Nat := 0x0B0C
/-- R85: opcode ENC_READ. -/
def opEncRead : Nat := 0x0B0D
/-- R85: opcode CAN_CONFIG. -/
def opCanConfig : Nat := 0x0C01
/-- R85: opcode CAN_OBJECT. -/
def opCanObject : Nat := 0x0C02
/-- R85: opcode CAN_TRANSMIT. -/
def opCanTransmit : Nat := 0x0C03
/-- R85: opcode CAN_RECEIVE. -/
def opCanReceive : Nat := 0x0C04
/-- R85: opcode CAN_STATUS. -/
def opCanStatus : Nat := 0x0C05
/-- R85: opcode TOUCH_CONFIG. -/
def opTouchConfig : Nat := 0x0D01
/-- R85: opcode TOUCH_STATUS. -/
def opTouchStatus : Nat := 0x0D02
/-- R85: opcode HOTPLUG_CONFIG. -/
def opHotplugConfig : Nat := 0x0D03
/-- R85: opcode HOTPLUG_STATUS. -/
def opHotplugStatus : Nat := 0x0D04
/-- R85: opcode HOTPLUG_POWER. -/
def opHotplugPower : Nat := 0x0D05

/-- R83: status codes. -/
def stDONE : Nat := 0x0000
def stACCEPTED : Nat := 0x0001
def stBAD_OPCODE : Nat := 0x0100
def stBAD_LENGTH : Nat := 0x0101
def stBAD_PARAM : Nat := 0x0102
def stTAG_BUSY : Nat := 0x0103
def stNOT_PERMITTED : Nat := 0x0104
def stLOOP_CLOSED : Nat := 0x0105
def stBUSY : Nat := 0x0106
def stTIMEOUT : Nat := 0x0107
def stAUTH_FAILED : Nat := 0x0108
def stWAKE_PENDING : Nat := 0x0109
def stTRIP_ACTIVE : Nat := 0x010A
def stVERSION_MISMATCH : Nat := 0x010B
def stFORCES_PRESENT : Nat := 0x010C
def stSTATION_ABSENT : Nat := 0x010D
def stSAFE_STATE : Nat := 0x010E
def stQUEUE_FULL : Nat := 0x010F
def stSTANDBY_DENIED : Nat := 0x0110

/-- The number of ones in the low four bits. -/
def popCount4 (v : Nat) : Nat := b2n (bitOf v 0) + b2n (bitOf v 1) + b2n (bitOf v 2) + b2n (bitOf v 3)

/-- R81 step 6: LEN valid for the opcode, by the opcode tables of the chapters. -/
def opLenOk (p : Pkt) : Bool :=
  match p.opcode with
  | 0x0100 => decide (p.len = 0)
  | 0x0101 => decide (p.len = 0)
  | 0x0102 => decide (p.len = 4)
  | 0x0103 => decide (p.len = 0)
  | 0x0104 => decide (p.len = 0)
  | 0x0105 => decide (p.len = 4)
  | 0x0106 => decide (p.len = 12)
  | 0x0107 => decide (p.len = 4)
  | 0x0108 => decide (p.len = 4)
  | 0x0109 => decide (p.len = 0)
  | 0x010A => decide (p.len = 32)
  | 0x010B => decide (p.len = 56)
  | 0x010C => decide (p.len = 0)
  | 0x0201 => decide (p.len = 80)
  | 0x0202 => decide (p.len = 4)
  | 0x0203 => decide (p.len = 4)
  | 0x0204 => decide (p.len = 40)
  | 0x0205 => decide (p.len = 12)
  | 0x0206 => decide (p.len = 8)
  | 0x0207 => decide (p.len = 4)
  | 0x0208 => decide (p.len = (if bitOf (p.w 0) 25 then 400 else 4))
  | 0x0209 => decide (p.len = 4)
  | 0x020A => decide (p.len = 44)
  | 0x020B => decide (p.len = 20)
  | 0x020C => decide (p.len = 24)
  | 0x020D => decide (p.len = 4)
  | 0x020E => decide (p.len = 8)
  | 0x0301 => decide (p.len = 76)
  | 0x0302 => decide (p.len = 36)
  | 0x0303 => decide (p.len = 8)
  | 0x0304 => decide (p.len = 8)
  | 0x0305 => decide (p.len = 24)
  | 0x0306 => decide (p.len = 24)
  | 0x0307 => decide (p.len = 12 + 8 * p.w 2)
  | 0x0308 => decide (p.len = 8)
  | 0x0309 => decide (p.len = 4)
  | 0x030A => decide (p.len = (if bitOf (p.w 0) 16 then 1032 else 44))
  | 0x0401 => decide (12 ≤ p.len ∧ p.len ≤ 4096 ∧ p.len % 4 = 0)
  | 0x0402 => decide (p.len = 8)
  | 0x0403 => decide (p.len = 4)
  | 0x0404 => decide (p.len = 4)
  | 0x0405 => decide (p.len = 4)
  | 0x0406 => decide (p.len = 4)
  | 0x0407 => decide (p.len = 4)
  | 0x0501 => decide (12 ≤ p.len ∧ p.len ≤ 4096 ∧ p.len % 4 = 0)
  | 0x0502 => decide (p.len = 4)
  | 0x0503 => decide (p.len = 4 + 16 * bits (p.w 0) 6 0)
  | 0x0504 => decide (p.len = 4 + 4 * bits (p.w 0) 6 0)
  | 0x0505 => decide (p.len = 8)
  | 0x0506 => decide (p.len = 4 + 4 * bits (p.w 0) 6 0)
  | 0x0507 => decide (p.len = 4 + 12 * bits (p.w 0) 6 0)
  | 0x0508 => decide (p.len = 4)
  | 0x0509 => decide (p.len = 20)
  | 0x0601 => decide (p.len = 4 + 4 * bits (p.w 0) 9 0)
  | 0x0602 => decide (p.len = 8 + 20 * popCount4 (p.w 0))
  | 0x0603 => decide (p.len = 20)
  | 0x0604 => decide (p.len = 4)
  | 0x0605 => decide (p.len = (if bits (p.w 0) 1 0 = 1 then 12 else 4 + 12 * bits (p.w 0) 15 8))
  | 0x0606 => decide (p.len = 4)
  | 0x0607 => decide (p.len = 4)
  | 0x0701 => decide (12 ≤ p.len ∧ p.len ≤ 4096 ∧ p.len % 4 = 0)
  | 0x0702 => decide (p.len = 4)
  | 0x0703 => decide (p.len = 4)
  | 0x0704 => decide (p.len = 0)
  | 0x0705 => decide (p.len = 0)
  | 0x0706 => decide (p.len = 4)
  | 0x0707 => decide (p.len = 4)
  | 0x0801 => decide (p.len = (if bitOf (p.w 0) 0 then 8 else 36))
  | 0x0802 => decide (p.len = 8)
  | 0x0803 => decide (12 ≤ p.len ∧ p.len ≤ 4096 ∧ p.len % 4 = 0)
  | 0x0804 => decide (p.len = 4)
  | 0x0805 => decide (p.len = 0)
  | 0x0806 => decide (p.len = 36)
  | 0x0807 => decide (p.len = 4)
  | 0x0901 => decide (p.len = 8)
  | 0x0902 => decide (p.len = 4)
  | 0x0903 => decide (p.len = 0)
  | 0x0904 => decide (p.len = 4)
  | 0x0905 => decide (p.len = 16)
  | 0x0A01 => decide (p.len = 48)
  | 0x0A02 => decide (p.len = 0)
  | 0x0A03 => decide (p.len = 8)
  | 0x0A04 => decide (p.len = 4)
  | 0x0A05 => decide (p.len = 16)
  | 0x0A06 => decide (p.len = 0)
  | 0x0B01 => decide (p.len = 48)
  | 0x0B02 => decide (p.len = 4)
  | 0x0B03 => decide (p.len = 72)
  | 0x0B04 => decide (p.len = 4)
  | 0x0B05 => decide (p.len = (if bitOf (p.w 0) 31 then 68 else 28))
  | 0x0B06 => decide (p.len = 24)
  | 0x0B07 => decide (p.len = 4)
  | 0x0B08 => decide (p.len = 12)
  | 0x0B09 => decide (p.len = 4 + 4 * bits (p.w 0) 14 8)
  | 0x0B0A => decide (p.len = 20)
  | 0x0B0B => decide (p.len = 0)
  | 0x0B0C => decide (p.len = 28)
  | 0x0B0D => decide (p.len = 4)
  | 0x0C01 => decide (p.len = 20)
  | 0x0C02 => decide (p.len = 16)
  | 0x0C03 => decide (p.len = 72)
  | 0x0C04 => decide (p.len = 20)
  | 0x0C05 => decide (p.len = 4)
  | 0x0D01 => decide (p.len = 16)
  | 0x0D02 => decide (p.len = 4)
  | 0x0D03 => decide (p.len = 12)
  | 0x0D04 => decide (p.len = 4)
  | 0x0D05 => decide (p.len = 8)
  | _ => false

/-- R85: the opcodes of the table. -/
def opcodes : List Nat := [0x0100, 0x0101, 0x0102, 0x0103, 0x0104, 0x0105, 0x0106, 0x0107, 0x0108, 0x0109, 0x010A, 0x010B, 0x010C, 0x0201, 0x0202, 0x0203, 0x0204, 0x0205, 0x0206, 0x0207, 0x0208, 0x0209, 0x020A, 0x020B, 0x020C, 0x020D, 0x020E, 0x0301, 0x0302, 0x0303, 0x0304, 0x0305, 0x0306, 0x0307, 0x0308, 0x0309, 0x030A, 0x0401, 0x0402, 0x0403, 0x0404, 0x0405, 0x0406, 0x0407, 0x0501, 0x0502, 0x0503, 0x0504, 0x0505, 0x0506, 0x0507, 0x0508, 0x0509, 0x0601, 0x0602, 0x0603, 0x0604, 0x0605, 0x0606, 0x0607, 0x0701, 0x0702, 0x0703, 0x0704, 0x0705, 0x0706, 0x0707, 0x0801, 0x0802, 0x0803, 0x0804, 0x0805, 0x0806, 0x0807, 0x0901, 0x0902, 0x0903, 0x0904, 0x0905, 0x0A01, 0x0A02, 0x0A03, 0x0A04, 0x0A05, 0x0A06, 0x0B01, 0x0B02, 0x0B03, 0x0B04, 0x0B05, 0x0B06, 0x0B07, 0x0B08, 0x0B09, 0x0B0A, 0x0B0B, 0x0B0C, 0x0B0D, 0x0C01, 0x0C02, 0x0C03, 0x0C04, 0x0C05, 0x0D01, 0x0D02, 0x0D03, 0x0D04, 0x0D05]

/-- R85: flag A, may answer ACCEPTED. -/
def opFlagA (o : Nat) : Bool := [0x020B, 0x020C, 0x0501, 0x0505, 0x0701, 0x0801, 0x0803, 0x0A03, 0x0A04, 0x0B02].contains o

/-- R85: flag S, requires SIGNED. -/
def opFlagS (o : Nat) : Bool := [0x0804, 0x0806, 0x0807, 0x0902].contains o

/-- R85: flag W, changes state and is refused on a STANDBY. -/
def opFlagW (o : Nat) : Bool := [0x0102, 0x0103, 0x0105, 0x0106, 0x0107, 0x010A, 0x010B, 0x0201, 0x0202, 0x0203, 0x0204, 0x0205, 0x0206, 0x0208, 0x0209, 0x020A, 0x020B, 0x020C, 0x020D, 0x020E, 0x0301, 0x0302, 0x0303, 0x0304, 0x0305, 0x0306, 0x0307, 0x0308, 0x030A, 0x0401, 0x0402, 0x0403, 0x0404, 0x0405, 0x0407, 0x0501, 0x0502, 0x0503, 0x0504, 0x0505, 0x0507, 0x0509, 0x0601, 0x0602, 0x0603, 0x0604, 0x0605, 0x0701, 0x0702, 0x0703, 0x0707, 0x0803, 0x0804, 0x0806, 0x0807, 0x0902, 0x0905, 0x0A01, 0x0A03, 0x0A04, 0x0A05, 0x0B01, 0x0B02, 0x0B03, 0x0B05, 0x0B06, 0x0B07, 0x0B08, 0x0B09, 0x0B0A, 0x0B0C, 0x0C01, 0x0C02, 0x0C03, 0x0D01, 0x0D03, 0x0D05].contains o

/-- R79: opcodes that join a queue of requests which their unit applies in the order of acceptance (slots R158, axes R223, recipes
R360, release points R361), and LOOP_SAFE, which ends that queue: among themselves they keep ring order without waiting. -/
def joinOps : List Nat :=
  [opLoopOpen, opLoopClose, opLoopObserver, opLoopRelease, opLoopSafe, opAxisMove, opAxisStop, opAxisEnable, opAxisGear, opAxisCam,
   opAxisPhaseTrim, opRecipeStart, opRecipePause, opRecipeResume, opRecipeAbort, opProgForce, opProgRelease, opProgReadVar,
   opProgWriteVar]

end Sys2Proof.Machine

namespace Sys2Proof

/-- The numbers below `n` of the bits set in `v`, each with `base` added. -/
def unitsOf (base n v : Nat) : List Nat := ((List.range n).filter (Machine.bitOf v)).map (fun i => base + i)

/-- R79: opcodes without flag W that take something from their unit: ADC_READ triggers a pass or empties the FIFO, CAN_RECEIVE clears
NEWDAT. -/
def Pkt.takes (p : Pkt) : Bool := [Machine.opAdcRead, Machine.opCanReceive].contains p.opcode

/-- R79: the units that a packet which changes state acts on, numbered by kind: slots from 0, axes from 0x1000, generators from
0x2000, ADC cores from 0x3000, CAN controllers from 0x4000, recipes from 0x5000, recording channels from 0x6000, trigger units
from 0x7000, the program 0x8000. Opcodes that only read act on none (log entry 111). -/
def Pkt.units (p : Pkt) : List Nat :=
  let w := p.w 0
  if !Machine.opFlagW p.opcode && !p.takes then []
  else
    match p.opcode / 0x100 with
    | 2 => [w % 512]
    | 3 => if p.opcode = Machine.opCamTableWrite || p.opcode = Machine.opAxisStepTable then [] else [0x1000 + w % 128]
    | 4 => [0x5000 + w % 64]
    | 5 => [0x8000]
    | 6 =>
      if p.opcode = Machine.opAcqChannel && !Machine.bitOf w 31 then
        (List.range (Machine.bits w 9 0)).map (fun i => 0x6000 + Machine.bits w 26 16 + i)
      else if p.opcode = Machine.opAcqTrigger then unitsOf 0x7000 4 w else []
    | 0xB =>
      if p.opcode = Machine.opAdcConfig then unitsOf 0x3000 8 (p.w 1)
      else if p.opcode = Machine.opAdcCalibrate then unitsOf 0x3000 8 w
      else if p.opcode = Machine.opAdcSequence || p.opcode = Machine.opAdcRead then [0x3000 + w % 8]
      else if p.opcode = Machine.opPwmConfig then (if Machine.bitOf w 31 then [] else [0x2000 + w % 64])
      else if p.opcode = Machine.opPwmDuty || p.opcode = Machine.opPwmTripClear then [0x2000 + w % 64]
      else if p.opcode = Machine.opPwmEnable then unitsOf 0x2000 32 (p.w 1) ++ unitsOf 0x2020 16 (p.w 2)
      else []
    | 0xC => [0x4000 + w % 4]
    | _ => []

/-- R72: the packet that stands in the words `ws`, fetched from queue `n`; words beyond the list read 0. The trailer of a SIGNED
packet begins at byte 16 + L and gives its own length. -/
def Pkt.ofWords (n : Nat) (ws : List Word) : Pkt :=
  let w (i : Nat) : Nat := (ws.getD i 0).toNat
  let l := Machine.bits (w 1) 15 0
  let p : Pkt := { queue := n, tag := Machine.bits (w 0) 31 24, rsvd := Machine.bits (w 0) 23 19, signed := Machine.bitOf (w 0) 18,
                   noReply := Machine.bitOf (w 0) 17, fence := Machine.bitOf (w 0) 16, opcode := Machine.bits (w 0) 15 0,
                   seq := Machine.bits (w 1) 31 16, len := l, ctxLo := ws.getD 2 0, ctxHi := ws.getD 3 0,
                   params := (List.range (l / 4)).map (fun i => ws.getD (4 + i) 0) }
  if p.signed then
    let t := Machine.bits (w (4 + l / 4)) 15 0
    { p with trailer := t, sig := (List.range (t / 4)).map (fun i => ws.getD (4 + l / 4 + i) 0) }
  else p

/-- R76, R79: whether entry `e` of a queue's packets in flight is packet `p`. -/
def Pkt.isFlight (p : Pkt) (e : Machine.Flight) : Bool :=
  e.uid = p.uid && e.tag = p.tag && e.seq = p.seq && e.noReply = p.noReply

/-- R79: packet `p` joins a queue of requests of its unit. -/
def Pkt.joins (p : Pkt) : Bool := Machine.joinOps.contains p.opcode

/-- R76, R79: packet `p` as it joins the packets in flight; `permit` is the mask of R56 in force. -/
def Pkt.flight (p : Pkt) (permit : Nat) : Machine.Flight :=
  { uid := p.uid, tag := p.tag, seq := p.seq, noReply := p.noReply, fence := p.fence, units := p.units, joins := p.joins,
    permit := permit }

end Sys2Proof

namespace Sys2Proof.Machine

/-- The interior of queue `n`. -/
def State.q (s : State) (n : Nat) : QInt := tabGet {} s.host.queues n

/-- The state with the interior of queue `n` set. -/
def State.setQ (s : State) (n : Nat) (v : QInt) : State :=
  { s with host := { s.host with queues := tabSet {} s.host.queues n v } }

/-- R462: a SIGNED packet that has had its final reply stands verified no longer. -/
def State.dropVerified (s : State) (p : Pkt) (last dup : Bool) : State :=
  if p.signed && last && !dup then
    { s with host := { s.host with verified := s.host.verified.filter (fun v => !(v.1 = p.queue && v.2.1 = p.tag && v.2.2.1 = p.seq)) } }
  else s

/-- R61, R76: the packets of queue `n` in flight; INFLIGHT counts those that occupy a tag. -/
def State.setFlight (s : State) (n : Nat) (l : List Flight) : State :=
  let s1 := s.setQ n { s.q n with flight := l }
  if n < 4 then s1.put (F.Q_STAT_INFLIGHT n) (l.filter (fun e => !e.noReply)).length else s1

/-- R79: packet `p` has its status: a NO_REPLY packet has ended, a tagged one stays until its reply is posted; after ACCEPTED
it has taken effect and goes on. -/
def State.noteEnd (s : State) (p : Pkt) (last refused : Bool) : State :=
  let l := (s.q p.queue).flight
  if refused || p.gen ≠ (s.q p.queue).gen || !l.any p.isFlight then s
  else if p.noReply && last then s.setFlight p.queue (l.eraseP p.isFlight)
  else s.setFlight p.queue (l.map (fun e => if p.isFlight e then { e with units := [], ended := e.ended || last } else e))

/-- R79: packet `p` has started: the packets behind it that join the same queue may start too. -/
def State.noteStart (s : State) (p : Pkt) : State :=
  let l := (s.q p.queue).flight
  if p.joins && decide (p.gen = (s.q p.queue).gen) && l.any p.isFlight then
    s.setQ p.queue { s.q p.queue with flight := l.map (fun e => if p.isFlight e then { e with started := true } else e) }
  else s

/-- R79: the commit of a packet waits at unit `u` of the block at base `b`. -/
def State.pktPending (s : State) (b u : Nat) : Bool := s.commits.any (fun c => c.base = b && c.unit = u && c.pkt.isSome)

/-- R79, R135, R214: packet `p` would stage a unit for which another packet's commit waits: it waits behind that packet. The BUSY
of R135 and R214 is for a commit that core code asked for. -/
def State.commitWaits (s : State) (p : Pkt) : Bool :=
  if p.opcode = opAdcSequence then s.pktPending bADC (bits (p.w 0) 2 0)
  else p.opcode = opPwmConfig && !bitOf (p.w 0) 31 && s.pktPending bPWM (bits (p.w 0) 5 0)

/-- R78, R79: packet `p` must not start yet: it is a FENCE and an earlier packet of its queue has not ended, a FENCE before it
has not ended, an earlier packet that acts on one of its units has not taken effect, or another packet's commit waits at its
unit. -/
def State.mustWait (s : State) (p : Pkt) : Bool :=
  let l := (s.q p.queue).flight
  let before := l.takeWhile (fun e => !p.isFlight e)
  s.commitWaits p ||
  (p.gen = (s.q p.queue).gen && l.any p.isFlight &&
   before.any (fun e => p.fence || (e.fence && !e.ended) || (!(p.joins && e.joins && e.started) && p.units.any e.units.contains)))

/-- R74, R77, R78: packet `p` is answered: a reply joins its queue's held replies; a NO_REPLY packet that ends other
than DONE counts in QnNR_ERR and posts a record. `refused`: before it took a tag. R58: a queue that is disabled posts no reply,
nor does one to a packet fetched before it was enabled again. -/
def State.reply (s0 : State) (p : Pkt) (status : Nat) (res : List Nat) (time : Nat) (last refused : Bool) : State :=
  let s := (s0.dropVerified p last refused).noteEnd p last refused
  if p.noReply then
    if status = stDONE then s
    else (if p.queue < 4 then s.incSat (F.Q_NR_ERR_COUNT p.queue) else s).post 0x1111 p.queue (p.opcode + status * 2 ^ 16) 0
  else
    let q := s.q p.queue
    let r : Reply :=
      { queue := p.queue, uid := p.uid, tag := p.tag, status := status, last := last, dup := refused && decide (status = stTAG_BUSY),
        noTag := refused, res := res, time := time, ctxLo := p.ctxLo, ctxHi := p.ctxHi, seq := p.seq, splice := p.splice }
    if p.queue < 4 ∧ (s.get (F.Q_STAT_STATE p.queue) = 0 ∨ p.gen ≠ q.gen) then s
    else s.setQ p.queue { q with held := q.held ++ [r] }

/-- R75: the final reply to packet `p`, which took effect at device time `t`. -/
def State.doneAt (s : State) (p : Pkt) (status t : Nat) : State := s.reply p status [] t true false

/-- The final reply to packet `p`, at the present device time. -/
def State.done (s : State) (p : Pkt) (status : Nat) : State := s.doneAt p status s.now

/-- The final reply to packet `p` with a result, at the present device time. -/
def State.doneRes (s : State) (p : Pkt) (res : List Nat) : State := s.reply p stDONE res s.now true false

/-- R77: the ACCEPTED reply to a long operation; the tag stays occupied. -/
def State.accept (s : State) (p : Pkt) : State := s.reply p stACCEPTED [] s.now false false

/-- A final reply to a packet that may not exist (an operation of core code). -/
def State.doneOpt (s : State) (p : Option Pkt) (status : Nat) : State :=
  match p with
  | some p => s.done p status
  | none => s

/-- R33: 1 ms, in CTL_CLK ticks. -/
def commitTicks : Nat := 400000

/-- R33: the units `late` of one commit of the block at base `b` are abandoned: they keep their old sets, CMT_LATE is set and one record
is posted. A packet's own commit is answered TIMEOUT. -/
def State.abandonOne (s : State) (b : Nat) (late : List Commit) : State :=
  match late with
  | [] => s
  | c :: _ =>
    let s1 := { s with commits := s.commits.filter (fun e => !late.contains e) }.refreshCmtPend b
    let last := ((late.map Commit.unit).getLast?).getD 0
    ((s1.raise b 1).post ((b - 0x20000000) / 0x10000 * 0x100 + 0x02) c.unit (late.length + last * 2 ^ 16) 0).doneOpt c.pkt stTIMEOUT

/-- R33: of the commits of the block at base `b` that wait, those whose 1 ms has ended before tick `k`; `reach` says that a unit's safe
point lies within it and is still to be made. -/
def State.lateCommits (s : State) (b k : Nat) (reach : Commit → Bool) : List Commit :=
  s.commits.filter (fun c => c.base = b && decide (c.since + commitTicks < k) && !reach c)

/-- R33: they are abandoned, commit by commit: the units of one key, and each packet's unit. -/
def State.abandonAt (s : State) (b k : Nat) (reach : Commit → Bool) : State :=
  let late := s.lateCommits b k reach
  ((late.map (fun c => (c.since, c.pkt))).eraseDups).foldl (fun (t : State) e =>
    t.abandonOne b (late.filter (fun c => (c.since, c.pkt) = e))) s

/-- R31, R33: the commit of unit `u` of the block at base `b`, asked for at least `lead` ticks before, is due at a safe point on tick
`k`. -/
def State.commitDue (s : State) (b u lead k : Nat) : Bool :=
  s.commits.any (fun c => c.base = b && c.unit = u && decide (c.since + lead ≤ k) && decide (k ≤ c.since + commitTicks))

/-- R31, R33: unit `u` of the block at base `b` reaches its safe point on tick `k`: what comes too late is abandoned, what is due is
committed. -/
def State.safePoint (s : State) (b u lead k : Nat) (reach : Commit → Bool) (commit : State → State) : State :=
  let s1 := s.abandonAt b k reach
  if s1.commitDue b u lead k then commit s1 else s1

/-- R462: whether SEC has verified the trailer of packet `p`. -/
def State.sigOk (s : State) (p : Pkt) : Bool :=
  s.host.verified.any (fun v => v.1 = p.queue && v.2.1 = p.tag && v.2.2.1 = p.seq)

/-- R463: the key that signed packet `p`, class * 4 + slot; class 0 is the vendor, 1 the owner. -/
def State.sigKey (s : State) (p : Pkt) : Nat :=
  match s.host.verified.find? (fun v => v.1 = p.queue && v.2.1 = p.tag && v.2.2.1 = p.seq) with
  | some v => v.2.2.2
  | none => 0

/-- R437: opcodes marked W are refused in STANDBY and SYNCING. -/
def State.standby (s : State) : Bool :=
  s.get F.SPLICE_BLK_STAT_LASH_STATE = 4 || s.get F.SPLICE_BLK_STAT_LASH_STATE = 3

/-- R45, R448: STAGE codes (SYS_BOOT_STAT). -/
def State.stage (s : State) : Nat := s.get F.SYS_BOOT_STAT_STAGE

/-- R63, R86: who serves queue `q`: firmware once READY and until FATAL, in RECOVERY the boot ROM, Q0 alone. -/
def State.serves (s : State) (q : Nat) : Bool :=
  (s.on F.STAT_BOOT_READY && !s.on F.STAT_BOOT_FATAL) || (s.stage = STAGE_RECOVERY && q = 0)

/-- R56: the opcode groups that remote packet `p` may use: the mask in force when it was fetched. -/
def State.permitOf (s : State) (p : Pkt) : Nat :=
  match (s.q p.queue).flight.find? p.isFlight with
  | some e => e.permit
  | none => s.mram.permit

/-- R87: a remote packet's group is permitted and it is not SIGNED. -/
def State.remoteOk (s : State) (p : Pkt) : Bool :=
  p.queue ≠ 4 || (!p.signed && !opFlagS p.opcode && bitOf (s.permitOf p) (p.opcode / 0x100))

/-- R86: in RECOVERY the boot ROM serves Q0 and five opcodes only. -/
def State.recoveryOk (s : State) (p : Pkt) : Bool :=
  s.stage ≠ STAGE_RECOVERY ||
    (p.queue = 0 && [opSysInfo, opSysBootStatus, opSysReset, opSecCertRead, opSecImageWrite].contains p.opcode)

/-- R81 steps 6, 8 and 9 as far as they are the same for every opcode; the status of the first failure. -/
def State.precheck (s : State) (p : Pkt) (opcode : Nat) : Option Nat :=
  if p.opcode ≠ opcode then some stBAD_OPCODE
  else if !opLenOk p || p.params.length * 4 ≠ p.len || (p.queue = 4 && decide (1024 < p.len)) then some stBAD_LENGTH
  else if p.noReply && opFlagA opcode then some stBAD_PARAM
  else if p.queue < 4 && (p.signed || opFlagS opcode) && !(p.signed && s.sigOk p) then some stAUTH_FAILED
  else if !s.remoteOk p || !s.recoveryOk p then some stNOT_PERMITTED
  else if opFlagW opcode && s.standby && !p.mir then some stNOT_PERMITTED
  else none

/-- The first failing check of a list gives the status (R81). -/
def firstFail : List (Bool × Nat) → Option Nat
  | [] => none
  | (c, st) :: r => if c then some st else firstFail r

/-- R430: opcodes with flag W that the mirror stream carries: all but those of the Lashing and the Splice links, which name the device's own
part in the pair, SLUICE_REQUEST (R433) and SEC_DEBUG_UNLOCK, whose challenge is the device's own (R465) (log entry 70). -/
def opMirrored (o : Nat) : Bool :=
  opFlagW o && decide (o / 0x100 ≠ 0xA) && !([opSluiceRequest, opSecDebugUnlock].contains o)

/-- R431: the application cycle of a packet accepted now: the first ring cycle that starts at least LEAD us later; none
while no cycles run. -/
def State.appCycle (s : State) : Option Nat :=
  let ns := s.get F.RING_CYCLE_NS
  if ns = 0 || s.get F.RING_STAT_STATE < 2 then none
  else
    let t := s.now + 1000 * s.get F.LASH_LEAD - s.get64 F.RING_CYC_START_LO
    some ((s.get F.RING_CYCLE_NUM + (t + ns - 1) / ns) % 2 ^ 32)

/-- R430, R431: the ACTIVE with a partner in SYNCING or STANDBY sends packet `p` in the mirror stream and holds it for its
application cycle. -/
def State.mirrorCycle (s : State) (p : Pkt) (opcode : Nat) : Option Nat :=
  if p.mir || !opMirrored opcode || !s.mirrors then none
  else s.appCycle

/-- R431: packet `p` is mirrored and waits for cycle `c`. -/
def State.mirrorCmd (s : State) (p : Pkt) (c : Nat) : State :=
  (s.mirrorSend 0x10 (cmdWords c p stDONE)).lashI (fun v =>
    { v with cmds := v.cmds ++ [(c, { p with mir := true })] })

/-- R466: OP_BUSY shows a running operation or verification; GO reads as OP_BUSY. -/
def State.secBusy (s : State) : State :=
  let b := b2n (s.sec.op.isSome || !s.sec.sigWait.isEmpty || s.sec.attBusy || !s.sec.writes.isEmpty || !s.prog.loads.isEmpty)
  (s.put F.SEC_BLK_STAT_OP_BUSY b).put F.SEC_GO b

/-- A host command (R81): the common checks, the opcode's own checks in their order, then its effect. A refused packet
changes nothing but its reply. A packet that has to wait (R79) does not start: its row does nothing, and comes again when its turn
has come (log entry 111). -/
def State.command (s : State) (p : Pkt) (opcode : Nat) (checks : List (Bool × Nat)) (effect : State → State) : State :=
  if s.mustWait p then s
  else
  match s.precheck p opcode with
  | some st => s.done p st
  | none =>
    match firstFail checks with
    | some st => s.done p st
    | none =>
      match s.mirrorCycle p opcode with
      | some c => (s.noteStart p).mirrorCmd p c
      | none => effect (s.noteStart p)

end Sys2Proof.Machine
end

