-- ==== Sys2Proof/Machine/Reset.lean ====
section
/-! DEFINITION. Resets: kinds, causes, what survives (R41-R44, R12). -/

namespace Sys2Proof.Machine

/-- R42, SYS_RESET_CAUSE: the bit of each reset kind; its code in FIRST is 2 to that bit. -/
inductive ResetKind where
  | por | pin | wdog | swrst | pllLoss | dbg
  deriving DecidableEq, Repr

/-- SYS_RESET_CAUSE: cause bit number of a reset kind. -/
def causeBit (k : ResetKind) : Nat :=
  match k with
  | .por => 0
  | .pin => 1
  | .wdog => 2
  | .swrst => 3
  | .pllLoss => 4
  | .dbg => 5

/-- Where the running values of the lifetime data stand: the block's own registers (R494), at no address of the map. -/
def lifeRun : Nat := 0xF0000000

/-- R43: words that hold MRAM contents or are restored from MRAM (R498): records, lifetime copies, clear history, and
the recorder's registers whose reset is MRAM. -/
def isMramWord (a : Nat) : Bool :=
  (decide (0x10000000 ≤ a) && decide (a < 0x10400000)) ||
  [0x200E0060, 0x200E0064, 0x200E0068, 0x200E0070, 0x200E0074, 0x200E0078, 0x200E007C, 0x200E0080].contains a

/-- R43, R420, R444, R498: words that survive every reset but power-on: SYS_RESET_CAUSE, SYS_RESET_COUNT, SYS_WDOG_CTRL
unless the watchdog raised the reset, the Sluice fault latch and the Sluice's counters, the Splice counters, EVREC_DROP, and the running
lifetime values. -/
def isKeptWord (k : ResetKind) (a : Nat) : Bool :=
  a = 0x20000060 || a = 0x20000084 || (a = 0x20000070 && k ≠ .wdog) ||
  (decide (0x20100100 ≤ a) && decide (a < 0x20100140)) || (decide (0x20100280 ≤ a) && decide (a ≤ 0x20100290)) ||
  a = 0x200D0064 || (decide (0x200D0080 ≤ a) && decide (a ≤ 0x200D0090)) || a = 0x200E006C ||
  (decide (lifeRun ≤ a) && decide (a < lifeRun + 0x400))

/-- Which words a reset of kind `k` leaves. -/
def survives (k : ResetKind) (a : Nat) : Bool := isMramWord a || (k ≠ .por && isKeptWord k a)

/-- R494: the running lifetime values go to MRAM copy `nextCopy`, with the next flush number and the CRC. -/
def State.lifetimeFlush (s : State) : State :=
  let b := 0x10200000 + 0x400 * (s.ev.nextCopy % 2)
  let s1 := s.setWord (lifeRun + 4) (Word.of ((s.word (lifeRun + 4)).toNat + 1))
  let s2 := (List.range 255).foldl (fun t i => t.setWord (b + 4 * i) (s1.word (lifeRun + 4 * i))) s1
  let crc := crc32cWords ((List.range 255).map (fun i => (s1.word (lifeRun + 4 * i)).toNat))
  let s3 := s2.setWord (b + 0x3FC) (Word.of crc)
  { s3 with ev := { s3.ev with nextCopy := 1 - s3.ev.nextCopy } }

/-- R494: after a power-on reset the running values are those of the current copy, the last one flushed. -/
def State.lifetimeRestore (s : State) : State :=
  let b := 0x10200000 + 0x400 * (1 - s.ev.nextCopy)
  let s1 := (List.range 255).foldl (fun t i => t.setWord (lifeRun + 4 * i) (s.word (b + 4 * i))) s
  (s1.setWord (lifeRun + 0x08) (Word.of (s.get F.EVREC_OPSEC_LO))).setWord (lifeRun + 0x0C) (Word.of (s.get F.EVREC_OPSEC_HI))

/-- R44: the cause of a reset joins SYS_RESET_CAUSE; the earliest cause takes FIRST, the lower code of two in one cycle. A
power-on reset clears every bit except POR. Which commands fall into one cycle is said in log entry 114. -/
def State.noteCause (s : State) (k : ResetKind) : State :=
  if k = .por then ((s.setWord 0x20000060 0).put F.SYS_RESET_CAUSE_POR 1).put F.SYS_RESET_CAUSE_FIRST 1
  else
    let s1 := s.put ⟨0x20000060, causeBit k, causeBit k⟩ 1
    if s.sys.inReset && !(s.sys.sameCycle && decide (2 ^ causeBit k < s.get F.SYS_RESET_CAUSE_FIRST)) then s1
    else s1.put F.SYS_RESET_CAUSE_FIRST (2 ^ causeBit k)

/-- R63: STAT_RESET_CAUSE mirrors SYS_RESET_CAUSE. -/
def State.mirrorCause (s : State) : State := s.setWord 0x20112004 (s.word 0x20000060)

/-- R12, R446, R466: the registers that show what OTP and MRAM hold; after every reset they hold it. -/
def State.otpMirror (s : State) : State :=
  let prov := (List.range 8).foldl (fun v k => putBit v k (tabGet 0 s.otp.hashes k ≠ 0)) 0
  ((((s.put64 F.STAT_UID_LO_UID s.otp.uid).put F.SEC_REVOKED s.otp.revoked).put F.SEC_PROVISIONED prov).put F.SEC_RB_CTR s.otp.rbCtr).put
    F.SEC_CFG s.otp.cfg

/-- R452, R455: the bank (0 L0, 1 L1, 2 F0, 3 F1, 4 K, 5 C0, 6 C1) that an image of type `ty` is written to: of two banks
the one that is not running. -/
def State.imageBank (s : State) (ty : Nat) : Nat :=
  match ty with
  | 1 => 1 - s.get F.SEC_BLK_STAT_LDR_BANK
  | 2 => 2 + (1 - s.get F.SEC_BLK_STAT_FW_BANK)
  | 3 => 5 + (1 - s.sec.coreBank)
  | _ => 4

/-- R455: a reset that interrupts SEC_IMAGE_WRITE leaves the bank being written invalid. -/
def State.cutWrite (s : State) : MramInt :=
  match s.sec.writes with
  | [] => s.mram
  | (_, ty, _) :: _ => { s.mram with flash := tabSet [] s.mram.flash (s.imageBank ty) [] }

/-- R42, R43: a reset of kind `k` is asserted. Every block goes to its reset values; what R43 names survives. The
waiting commands and the model's counter are no part of the device; what VDD_SAFE stands at is (R399). A power-on reset counts as a power cycle once (R43), and
a loss of the clock that stands or is still to bring its reset stands over the reset (R39, R44). -/
def State.assertReset (s0 : State) (k : ResetKind) : State :=
  let s := if k = .por then s0 else s0.lifetimeFlush
  let base : State :=
    { words := s.words.filter (fun e => survives k e.1)
      free := s.free
      otp := s.otp
      mram := if k = .por then { s.cutWrite with permit := 0 } else s.cutWrite
      ev := { nextCopy := s.ev.nextCopy }
      sys := { inReset := true, pllLossPending := s.sys.pllLossPending && k ≠ .pllLoss, xtalGone := s.sys.xtalGone,
               porSeen := k = .por || (s.sys.inReset && s.sys.porSeen), sameCycle := !s.sys.inReset || s.sys.sameCycle,
               forcesLost := max s.prog.forces.length s.sys.forcesLost, tjMax := if k = .por then none else s.sys.tjMax,
               railHist := if k = .por then 0 else s.sys.railHist }
      sto := { held := s.sto.held, vddBad := s.sto.vddBad }
      pending := s.pending }
  let s1 := { base with sys := { base.sys with inReset := s.sys.inReset, sameCycle := s.sys.sameCycle } }.noteCause k
  let s2 := ({ s1 with sys := base.sys }.put F.EVREC_PROGRESS 0).mirrorCause.otpMirror
  if k = .por then
    let s3 := s2.lifetimeRestore
    let n := s3.get F.EVREC_PWRCYC + b2n (!(s.sys.inReset && s.sys.porSeen))
    (s3.put F.EVREC_PWRCYC n).setWord (lifeRun + 0x10) (Word.of n)
  else if s.sys.inReset then s2 else s2.incSat F.SYS_RESET_COUNT_COUNT

/-- R45, R63: STAGE takes a value; the status window changes, so vector 4 is raised. -/
def State.setStage (s : State) (v : Nat) : State := ((s.put F.SYS_BOOT_STAT_STAGE v).put F.STAT_BOOT_STAGE v).msix 4

/-- R47, R63: ERR takes a value; the status window changes, so vector 4 is raised. -/
def State.setErr (s : State) (v : Nat) : State := ((s.put F.SYS_BOOT_STAT_ERR v).put F.STAT_BOOT_ERR v).msix 4

/-- R47: a stage has failed: ERR holds the code and a record is posted. -/
def State.stageFail (s : State) (err : Nat) : State :=
  let s1 := s.setErr err
  s1.post 0x0011 0 (s1.get F.SYS_BOOT_STAT_STAGE + 256 * err) 0

/-- R52: outputs may be armed from FW_RUN onward. -/
def State.fwRun (s : State) : Bool := decide (5 ≤ s.stage) && decide (s.stage ≤ 7)

end Sys2Proof.Machine
end

