-- ==== Sys2Proof/Machine/Sys.lean ====
section
/-! DEFINITION. Meanings of the reset, clock and watchdog commands and of the system opcodes (02_reset_and_startup). -/

namespace Sys2Proof.Machine

/-- A next state. -/
abbrev Out := Host.Outcome State Fault Refusal

/-- R41: whether a low level of `lowNs` on a reset pin asserts reset: never below 0.5 us, always from 1 us, in between
a free value. -/
def State.pinFilter (s : State) (lowNs : Nat) : Bool :=
  if lowNs < 500 then false else if 1000 ≤ lowNs then true else Config.freeBool s.free

/-- R41: a low level on a reset pin; an open outcome uses up a free value. -/
def State.resetPin (s : State) (k : ResetKind) (lowNs : Nat) : State :=
  let s1 := if 500 ≤ lowNs ∧ lowNs < 1000 then { s with free := s.free + 1 } else s
  if s.pinFilter lowNs then s1.assertReset k else s1

/-- R41, R42: PORn low. -/
def execPorAssert (lowNs : Nat) (s : State) : Out := .next (s.resetPin .por lowNs)

/-- R41, R42: SYS_RESETn low. -/
def execSysResetnAssert (lowNs : Nat) (s : State) : Out := .next (s.resetPin .pin lowNs)

/-- R41, R42: an under-voltage on VDD_CORE, VDD_SRAM or VDD_IO asserts a power-on reset. -/
def execSupplyUnderVoltage (s : State) : Out := .next (s.assertReset .por)

/-- R42, R465: a reset request from the debug port counts only while debug is unlocked. -/
def execDebugResetRequest (s : State) : Out :=
  .next (if s.get F.SEC_BLK_STAT_DBG_LEVEL = 0 then s else s.assertReset .dbg)

/-- R37, R45, SYS_STRAP: reset is released, the straps are sampled; the Sluice self-test starts and the internal ADC
reference is enabled with the fields' reset values. R39, R41: not while a PLL_LOSS reset is pending or the crystal is gone.
BOOT_IF is the pin unless OTP's RECOVERY_DIS forces xSPI. -/
def execResetRelease (bootIf pcieRefsel : Bool) (s : State) : Out :=
  .next (if !s.sys.inReset || s.sys.pllLossPending || s.sys.xtalGone then s else
    ((({ s with sys := { s.sys with inReset := false, porSeen := false, sameCycle := false } }.put F.SYS_STRAP_BOOT_IF
      (b2n (bootIf && !bitOf s.otp.cfg 0))).put
      F.SYS_STRAP_PCIE_REFSEL (b2n pcieRefsel)).put F.SYS_CLK_STAT_PCIE_REF (b2n pcieRefsel)))

/-- R36, R45: the crystal is stable; R39: in reset, a crystal that had gone has returned. -/
def execXtalOk (s : State) : Out :=
  let s1 := { s with sys := { s.sys with xtalGone := false } }
  .next (if s.sys.inReset then s1 else s1.put F.SYS_CLK_STAT_XTAL_OK 1)

/-- R36, R45: the system PLL locks after XTAL_OK, the derived clocks start and STAGE becomes ROM. -/
def execPllLock (s : State) : Out :=
  .next (if s.sys.inReset || !s.on F.SYS_CLK_STAT_XTAL_OK || s.on F.SYS_CLK_STAT_PLL_LOCK then s else
    (s.put F.SYS_CLK_STAT_PLL_LOCK 1).setStage STAGE_ROM)

/-- The lock bit of a SerDes PLL in SYS_CLK_STAT: 0 H10 and Splice, 1 H1, 2 PCIe. -/
def sdsLock (pll : Nat) : Fld := ⟨0x20000068, 2 + pll, 2 + pll⟩

/-- R39: 1 us after the loss the PLL_LOSS reset is asserted. -/
def execPllLossReset (s : State) : Out := .next (if s.sys.pllLossPending then s.assertReset .pllLoss else s)

/-- R45, R47: LPDDR4X training ends: firmware initialisation follows, or boot halts. -/
def execDramTrainDone (ok : Bool) (s : State) : Out :=
  .next (if s.stage ≠ STAGE_DRAM_TRAIN || s.sys.bootHalted then s
    else if ok then s.setStage STAGE_FW_INIT
    else { s with sys := { s.sys with bootHalted := true } }.stageFail 0x03)

/-- R46, R47: 1.5 s in RING_JOIN: a record each time; at the first ERR takes 0x06. -/
def execRingJoinTimeout (s : State) : Out :=
  .next (if s.stage ≠ STAGE_RING_JOIN then s
    else
      let s1 := if s.get F.SYS_BOOT_STAT_ERR = 0x06 then s else s.setErr 0x06
      { s1 with sys := { s1.sys with joinTimedOut := true } }.post 0x0011 0 (STAGE_RING_JOIN + 256 * 0x06) 0)

/-- R53: the key restarts the watchdog count; any other value is ignored and sets CFG_REJECT. -/
def execSysWdogKickWrite (v : Word) (s : State) : Out :=
  .next (if v = 0x0000C35A then { s with sys := { s.sys with wdogMs := 0 } } else s.reject bSYS)

/-- R53: EN and TIMEOUT are written together; once EN is set a write is ignored and sets CFG_REJECT. -/
def execSysWdogCtrlWrite (v : Word) (s : State) : Out :=
  .next (if s.on F.SYS_WDOG_CTRL_EN then s.reject bSYS
    else
      let s1 := s.put F.SYS_WDOG_CTRL_TIMEOUT (bits v.toNat 15 0)
      if bitOf v.toNat 31 then { s1.put F.SYS_WDOG_CTRL_EN 1 with sys := { s1.sys with wdogMs := 0 } } else s1)

/-- R53: TIMEOUT in ms; 0 is treated as 1. -/
def State.wdogTimeout (s : State) : Nat := max 1 (s.get F.SYS_WDOG_CTRL_TIMEOUT)

/-- R480: the watchdog count pauses in STANDBY. -/
def State.wdogRuns (s : State) : Bool :=
  s.on F.SYS_WDOG_CTRL_EN && !s.sys.inReset && decide (s.get F.IRQ_BLK_STAT_POWER ≠ 3)

/-- R53, R439: the count reaches half of TIMEOUT. -/
def execWdogWarn (s : State) : Out :=
  .next (if s.wdogRuns then { s with sys := { s.sys with wdogMs := s.wdogTimeout / 2 } }.noteResign.raise bSYS 11 else s)

/-- R53: the count reaches TIMEOUT: a watchdog reset. -/
def execWdogTimeout (s : State) : Out := .next (if s.wdogRuns then s.assertReset .wdog else s)

/-- R42, R54: the key asserts a software reset; any other value sets CFG_REJECT. -/
def execSysSwrstWrite (v : Word) (s : State) : Out :=
  .next (if v = 0x00003C96 then s.assertReset .swrst else s.reject bSYS)

/-- R52: 1 to OUTEN arms the outputs from FW_RUN onward; earlier it sets ARM_REFUSED. -/
def State.armOutputs (s : State) : State := if s.fwRun then s.setOutEn else s.raise bSYS 12

/-- R52: a write to SYS_ARM. -/
def execSysArmWrite (v : Word) (s : State) : Out := .next (if bitOf v.toNat 0 then s.armOutputs else s)

/-- R56: SYS_NOP. -/
def execSysNop (p : Pkt) (s : State) : Out := .next (s.command p opSysNop [] (fun t => t.done p stDONE))

/-- R56: the 40-byte result of SYS_INFO. -/
def State.sysInfo (s : State) : List Nat :=
  [0x85120000 + Config.siliconRevision % 256 * 256,
   s.otp.uid % 2 ^ 32, s.otp.uid / 2 ^ 32 % 2 ^ 32,
   (s.word 0x2011200C).toNat,
   s.sys.ldrVersion,
   Config.dramMiB % 2 ^ 32,
   Config.mirrorSchema % 256 * 2 ^ 16 + s.get F.RING_OWN_VER,
   s.get F.SEC_FW_SVN * 2 ^ 16 + s.get F.SEC_LDR_SVN * 2 ^ 8 + s.otp.rbCtr % 256,
   Config.flashMiB % 2 ^ 32,
   s.get F.SYS_BOOT_STAT_ERR * 2 ^ 8 + s.get F.SYS_BOOT_STAT_STAGE]

/-- R56: SYS_INFO. -/
def execSysInfo (p : Pkt) (s : State) : Out :=
  .next (s.command p opSysInfo [] (fun t => t.doneRes p t.sysInfo))

/-- R55: SYS_RESET: DONE, and a software reset 1 ms after the reply is posted. -/
def execSysReset (p : Pkt) (s : State) : Out :=
  .next (s.command p opSysReset [(p.w 0 ≠ 0x3C96, stBAD_PARAM)]
    (fun t => { t with sys := { t.sys with swResetPending := true } }.done p stDONE))

/-- R55: the scheduled software reset. -/
def execSysResetTakesEffect (s : State) : Out :=
  .next (if s.sys.swResetPending then s.assertReset .swrst else s)

/-- R55: SYS_ARM; before FW_RUN it is answered NOT_PERMITTED and sets ARM_REFUSED. -/
def execSysArm (p : Pkt) (s : State) : Out :=
  .next (s.command p opSysArm []
    (fun t => if t.fwRun then t.armOutputs.done p stDONE else t.armOutputs.done p stNOT_PERMITTED))

/-- R55: SYS_BOOT_STATUS. -/
def execSysBootStatus (p : Pkt) (s : State) : Out :=
  .next (s.command p opSysBootStatus []
    (fun t => t.doneRes p [(t.word 0x20000064).toNat, (t.word 0x20000060).toNat, (t.word 0x20000068).toNat,
      (t.word 0x20000084).toNat]))

/-- R56: SYS_REMOTE_PERMIT: the mask is stored in MRAM configuration; never executed from Q4. -/
def execSysRemotePermit (p : Pkt) (s : State) : Out :=
  .next (s.command p opSysRemotePermit
    [(p.queue = 4, stNOT_PERMITTED),
     (bitOf (p.w 0) 0 || bitOf (p.w 0) 14 || bitOf (p.w 0) 15 || bits (p.w 0) 31 16 ≠ 0, stBAD_PARAM)]
    (fun t => { t with mram := { t.mram with permit := p.w 0 } }.done p stDONE))

/-- R56, R494: a reading enters the highest junction reading and the out-of-range history. -/
def State.noteHealth (s : State) (h : Health) : State :=
  { s with sys := { s.sys with
      tjMax := some (match s.sys.tjMax with | some t => max t h.junction | none => h.junction),
      railHist := Nat.lor s.sys.railHist (h.outside % 512) } }

/-- R56: the 44-byte result of SYS_HEALTH. -/
def State.healthResult (s : State) (h : Health) : List Nat :=
  let top := match s.sys.tjMax with | some t => t | none => 0
  [unsgn 16 top * 2 ^ 16 + unsgn 16 h.junction] ++
  (List.range 9).map (fun r => let x := h.rails.getD r (0, 0); unsgn 16 x.1 * 2 ^ 16 + x.2 % 2 ^ 16) ++
  [s.sys.railHist * 2 ^ 16 + h.outside % 512]

/-- R56: SYS_HEALTH. -/
def execSysHealth (p : Pkt) (h : Health) (s : State) : Out :=
  .next (s.command p opSysHealth [(p.w 0 ≥ 2, stBAD_PARAM)]
    (fun t =>
      let t1 := t.noteHealth h
      let t2 := t1.doneRes p (t1.healthResult h)
      if bitOf (p.w 0) 0 then { t2 with sys := { t2.sys with railHist := 0 } } else t2))

end Sys2Proof.Machine
end

