-- ==== Sys2Proof/Machine/HostIf.lean ====
section
/-! DEFINITION. Meanings of the host-queue commands: doorbells, queue states, fetch, replies, MSI-X (03_host_commands). -/

namespace Sys2Proof.Machine

/-- R61, R70: a host queue stops: STATE, ERR, an event record. -/
def State.stopQueue (s : State) (n err : Nat) : State :=
  ((s.put (F.Q_STAT_STATE n) 3).put (F.Q_STAT_ERR n) err).post 0x1110 n err 0

/-- R68: size of the submission ring in units. -/
def State.sqSize (s : State) (n : Nat) : Nat := 2 ^ s.get (F.Q_SIZE_SQ_LOG n)

/-- R71: size of the completion ring in units. -/
def State.cqSize (s : State) (n : Nat) : Nat := 2 ^ s.get (F.Q_SIZE_CQ_LOG n)

/-- R68: a write to QnSQ_TAIL of an active queue. -/
def State.sqDoorbell (s : State) (n tail : Nat) : State :=
  let size := s.sqSize n
  let head := s.get (F.Q_STAT_SQ_HEAD n)
  let a := (tail + size - head % size) % size
  let b := (s.get (F.Q_SQ_TAIL_TAIL n) + size - head % size) % size
  if size ≤ tail then s.stopQueue n 5
  else if a = b then s
  else if b < a then s.put (F.Q_SQ_TAIL_TAIL n) tail
  else s.stopQueue n 5

/-- R484: while the device enters STANDBY, an enabled wake latch or the PEND of an enabled wake source. -/
def State.wakeCondition (s : State) : Bool :=
  Nat.land (s.get F.IRQ_WAKE_LATCH) (s.get F.IRQ_WAKE_EN) != 0 ||
  (List.range 32).any (fun w => bitOf (s.get F.IRQ_WAKE_EN) w && s.irqPend (wakeSource w))

/-- R486: the SYS_POWER_STATE packets that wait are answered. -/
def State.answerPower (s : State) (status : Nat) : State :=
  s.irq.pwrPkts.foldl (fun (t : State) p => t.done p status) { s with irq := { s.irq with pwrPkts := [] } }

/-- The lowest set bit of a 32-bit number. -/
def lowestBit (v : Nat) : Nat := ((List.range 32).find? (fun i => bitOf v i)).getD 0

/-- R483: the wake sequence up to the deliveries: CAUSE and WAKE_TS take the edge, the latches sense no
longer, POWER returns to RUN, WOKE is set, each set enabled latch sets PEND of its source where it is clear still, deliveries held in STANDBY are
made. -/
def State.wakeSources (s : State) : State :=
  let set := Nat.land (s.get F.IRQ_WAKE_LATCH) (s.get F.IRQ_WAKE_EN)
  let s2 := ((s.put F.IRQ_WAKE_CAUSE_VALID 1).put F.IRQ_WAKE_CAUSE_WAKE (lowestBit set)).put64 F.IRQ_WAKE_TS_LO s.now
  let s3 := ({ s2 with irq := { s2.irq with sensing := false } }.put F.IRQ_BLK_STAT_POWER 0).raise bIRQ 8
  let s4 := (List.range 32).foldl (fun t i => if bitOf set i && !t.irqPend (wakeSource i) then t.edgeCore (wakeSource i) else t) s3
  s4.hostSweep

/-- R483, R486: the SYS_POWER_STATE reply after wake, with the cause, the latches and WAKE_TS; its time is the gating
instant. -/
def State.answerWoken (s : State) (p : Pkt) : State :=
  s.reply p stDONE
    [(s.word 0x20020074).toNat, (s.word 0x20020070).toNat, (s.word 0x20020078).toNat, (s.word 0x2002007C).toNat]
    s.irq.gateTime true false

/-- R483, R486: the device wakes, and the SYS_POWER_STATE replies are posted. -/
def State.wakeUp (s : State) : State :=
  let s5 := s.wakeSources
  s5.irq.pwrPkts.foldl State.answerWoken { s5 with irq := { s5.irq with pwrPkts := [] } }

/-- R483, R484: in STANDBY a set enabled latch wakes the device; in ENTERING a wake condition aborts the request: nothing is gated, the device returns to RUN, WAKE_ABORT is
set and SYS_POWER_STATE answers WAKE_PENDING. -/
def State.wakeCheck (s : State) : State :=
  if s.get F.IRQ_BLK_STAT_POWER = 2 && s.wakeCondition then
    ((({ s with irq := { s.irq with sensing := false } }.put F.IRQ_BLK_STAT_POWER 0).raise bIRQ 9).answerPower stWAKE_PENDING)
  else if s.get F.IRQ_BLK_STAT_POWER = 3 && decide (Nat.land (s.get F.IRQ_WAKE_LATCH) (s.get F.IRQ_WAKE_EN) ≠ 0) then s.wakeUp
  else s

/-- R469: line `n` takes level `l`. -/
def State.line (s : State) (n : Nat) (l : Bool) : State := (s.lineCore n l).wakeCheck

/-- R469: a pulse on source `n`. -/
def State.pulse (s : State) (n : Nat) : State := (s.pulseCore n).wakeCheck

/-- R68, R481: the host writes a submission doorbell; every such write pulses source 319. A queue that is not ACTIVE
only takes the value. -/
def execQnsqTailWrite (n : Nat) (v : Word) (s : State) : Out :=
  .next (if 4 ≤ n then s
    else (if s.get (F.Q_STAT_STATE n) = 1 then s.sqDoorbell n (bits v.toNat 13 0)
      else s.put (F.Q_SQ_TAIL_TAIL n) v.toNat).pulse 319)

/-- R66: completion units of an entry: the reply unit and its result units. -/
def Reply.units (r : Reply) : Nat := 1 + (4 * r.res.length + 31) / 32

/-- R74: the words of a reply unit and of the result behind it. R88: a Q4 reply has no PHASE and no SQ_HEAD. -/
def replyWords (r : Reply) (phase : Bool) (sqHead : Nat) : List Nat :=
  [b2n r.dup * 2 ^ 25 + b2n r.last * 2 ^ 24 + r.tag % 256 * 2 ^ 16 + r.status, 4 * r.res.length, r.time % 2 ^ 32,
   r.time / 2 ^ 32 % 2 ^ 32, r.ctxLo.toNat, r.ctxHi.toNat, b2n phase * 2 ^ 16 + r.seq % 65536, sqHead % 2 ^ 14] ++ r.res

/-- R66: the words of an entry as the completion ring holds them. What the manual leaves open, the words of the last result unit behind a
result that does not fill it, are zeros: DESIGN CHOICE (log entry 134). -/
def entryWords (r : Reply) (phase : Bool) (sqHead : Nat) : List Nat :=
  replyWords r phase sqHead ++ List.replicate (8 * r.units - (8 + r.res.length)) 0

/-- R71: entries that the host has consumed, up to `u` units, leave the completion ring. -/
def dropConsumed : Nat → List (List Nat) → List (List Nat)
  | _, [] => []
  | u, r :: t => if r.length / 8 ≤ u then dropConsumed (u - r.length / 8) t else r :: t

/-- R71: the host advances the completion doorbell. -/
def execQncqHeadWrite (n : Nat) (v : Word) (s : State) : Out :=
  let size := s.cqSize n
  let u := (bits v.toNat 14 0 + size - s.get (F.Q_CQ_HEAD_HEAD n) % size) % size
  let q := s.q n
  .next (if n < 4 then (s.setQ n { q with posted := dropConsumed u q.posted }).put (F.Q_CQ_HEAD_HEAD n) v.toNat else s)

/-- R61: a draining queue with nothing in flight and no held reply becomes DISABLED. -/
def State.drainCheck (s : State) (n : Nat) : State :=
  if s.get (F.Q_STAT_STATE n) = 2 ∧ (s.q n).flight.all Flight.noReply ∧ (s.q n).held = [] then s.put (F.Q_STAT_STATE n) 0 else s

/-- R61, R86: EN can be accepted: READY is set, or the boot ROM serves Q0 in RECOVERY (DEDUCED, log entry 101). -/
def State.enReady (s : State) (n : Nat) : Bool :=
  s.on F.STAT_BOOT_READY || (decide (s.stage = STAGE_RECOVERY) && decide (n = 0))

/-- R61: EN written 1 to a disabled queue. That ERR returns to 0 here is a DESIGN CHOICE (log entry 112): the spec names no
instant at which it does. -/
def State.enableQueue (s : State) (n : Nat) : State :=
  let sq := s.get (F.Q_SIZE_SQ_LOG n)
  let cq := s.get (F.Q_SIZE_CQ_LOG n)
  if !s.enReady n then s.put (F.Q_STAT_ERR n) 1
  else if !(decide (6 ≤ sq) && decide (sq ≤ 14) && decide (7 ≤ cq) && decide (cq ≤ 15)) then s.put (F.Q_STAT_ERR n) 2
  else
    ((((((s.put (F.Q_CTL_EN n) 1).put (F.Q_STAT_STATE n) 1).put (F.Q_STAT_ERR n) 0).put (F.Q_STAT_SQ_HEAD n) 0).put
      (F.Q_SQ_TAIL_TAIL n) 0).put (F.Q_CQ_HEAD_HEAD n) 0).put (F.Q_NR_ERR_COUNT n) 0
      |>.setQ n { gen := (s.q n).gen + 1 }

/-- R61: a write to QnCTL. -/
def execQnctlWrite (n : Nat) (v : Word) (s : State) : Out :=
  let st := s.get (F.Q_STAT_STATE n)
  .next (if 4 ≤ n then s
    else if bitOf v.toNat 0 then (if st = 0 then s.enableQueue n else s)
    else if st = 1 ∨ st = 3 then ((s.put (F.Q_CTL_EN n) 0).put (F.Q_STAT_STATE n) 2).drainCheck n
    else s)

/-- R65: units of a packet. -/
def pktUnits (p : Pkt) : Nat := (16 + p.len + (if p.signed then p.trailer else 0) + 63) / 64

/-- R70: the header framing is good. -/
def pktFramed (p : Pkt) (size : Nat) : Bool :=
  decide (p.len % 4 = 0) && decide (p.len ≤ 4096) && decide (pktUnits p ≤ size - 1) &&
  (!p.signed || (decide (4 ≤ p.trailer) && decide (p.trailer ≤ 16640) && decide (p.trailer % 4 = 0)))

/-- R70, R72: what the first unit of a packet shows of its framing, before the trailer's length is read. -/
def pktHeadOk (p : Pkt) (size : Nat) : Bool := decide (p.len % 4 = 0) && decide (p.len ≤ 4096) && decide ((79 + p.len) / 64 ≤ size - 1)

/-- R68, R72: units of a packet up to the word that holds its trailer's length; those of the whole packet where it has none. -/
def pktLenUnits (p : Pkt) : Nat := if p.signed then (83 + p.len) / 64 else pktUnits p

/-- R71: completion units free in queue `n`. -/
def State.cqRoom (s : State) (n : Nat) : Nat :=
  let size := s.cqSize n
  size - 1 - ((s.q n).cqTail + size - s.get (F.Q_CQ_HEAD_HEAD n) % size) % size

/-- R71: an entry of queue `n` waits for room. -/
def State.cqBlocked (s : State) (n : Nat) : Bool :=
  match (s.q n).held with
  | [] => false
  | r :: _ => decide (s.cqRoom n < r.units)

/-- R81 steps 3 to 6, with the limits of the queue on TAG and LEN: the packet is refused, or joins the packets in flight and is
ready to start. R462: a SIGNED one of a host queue waits for its verification. That a remote packet with LEN above 1,024 is
answered BAD_LENGTH, at step 6, is a DESIGN CHOICE (R87, log entry 113). -/
def State.takeTag (s : State) (p : Pkt) (maxTag maxLen : Nat) : State :=
  let q := s.q p.queue
  if p.rsvd ≠ 0 ∨ maxTag < p.tag then s.reply p stBAD_PARAM [] s.now true true
  else if !p.noReply && q.flight.any (fun e => !e.noReply && e.uid = p.uid && e.tag = p.tag) then s.reply p stTAG_BUSY [] s.now true true
  else
    let s1 := s.setFlight p.queue (q.flight ++ [p.flight s.mram.permit])
    if !opcodes.contains p.opcode then s1.done p stBAD_OPCODE
    else if !opLenOk p || p.params.length * 4 ≠ p.len || decide (maxLen < p.len) then s1.done p stBAD_LENGTH
    else if p.signed && decide (p.queue < 4) then { s1 with sec := { s1.sec with sigWait := s1.sec.sigWait ++ [p] } }.secBusy
    else s1

/-- R68: units that the host has made available in queue `n`. -/
def State.sqAvail (s : State) (n : Nat) : Nat :=
  let size := s.sqSize n
  (s.get (F.Q_SQ_TAIL_TAIL n) + size - s.get (F.Q_STAT_SQ_HEAD n) % size) % size

/-- R72: the packet at SQ_HEAD of queue `n`, from what host memory holds there. -/
def State.headPkt (s : State) (mem : List (Nat × List Word)) (n : Nat) : Pkt :=
  { Pkt.ofWords n (tabGet [] mem n) with gen := (s.q n).gen }

/-- R68, R70, R71: queue `n` has a complete packet waiting: it is served, no reply of it waits for room, and all units of the
packet are available, or its framing is bad as far as the units that are available show it. -/
def State.packetWaits (s : State) (mem : List (Nat × List Word)) (n : Nat) : Bool :=
  let p := s.headPkt mem n
  if !s.serves n || s.get F.IRQ_BLK_STAT_POWER = 3 then false
  else if n = 4 then !s.host.q4wait.isEmpty
  else s.get (F.Q_STAT_STATE n) = 1 && !s.cqBlocked n && decide (0 < s.sqAvail n) &&
    (!pktHeadOk p (s.sqSize n) || (decide (pktLenUnits p ≤ s.sqAvail n) && (!pktFramed p (s.sqSize n) || decide (pktUnits p ≤ s.sqAvail n))))

/-- R79: the order in which queues are fetched: Q0, Q1, Q4, Q2, Q3. -/
def fetchRank (n : Nat) : Nat := if n = 4 then 2 else if n < 2 then n else n + 1

/-- R79: a higher queue than `n` has a complete packet waiting. -/
def State.outranked (s : State) (mem : List (Nat × List Word)) (n : Nat) : Bool :=
  (List.range 5).any (fun m => decide (fetchRank m < fetchRank n) && s.packetWaits mem m)

/-- R68-R73, R81: a complete packet of an active host queue is fetched and checked. -/
def State.fetchHost (s : State) (p : Pkt) : State :=
  let n := p.queue
  let size := s.sqSize n
  if !pktFramed p size then (s.reply p stBAD_LENGTH [] s.now true true).stopQueue n 3
  else
    let s1 := s.put (F.Q_STAT_SQ_HEAD n) ((s.get (F.Q_STAT_SQ_HEAD n) + pktUnits p) % size)
    if p.seq ≠ (s.q n).expSeq then s.stopQueue n 4
    else (s1.setQ n { s1.q n with expSeq := ((s1.q n).expSeq + 1) % 65536 }).takeTag p 63 4096

/-- R87, R88: the oldest remote packet that has arrived is fetched and checked. -/
def State.fetchRemote (s : State) : State :=
  match s.host.q4wait with
  | [] => s
  | p :: r => ({ s with host := { s.host with q4wait := r } }).takeTag p 15 1024

/-- R79, R81: the packet at the head of queue `n` is fetched, unless a higher queue has one waiting; `mem` is what host memory
holds from SQ_HEAD of each host queue on. R61: a DMA error stops an active host queue. -/
def execPacketFetch (n : Nat) (mem : List (Nat × List Word)) (dmaError : Bool) (s : State) : Out :=
  .next (if 4 < n then s
    else if dmaError && decide (n < 4) && s.get (F.Q_STAT_STATE n) = 1 then s.stopQueue n 6
    else if !s.packetWaits mem n || s.outranked mem n then s
    else if n = 4 then s.fetchRemote
    else s.fetchHost (s.headPkt mem n))

/-- R88: a remote packet arrives; a seventeenth in flight is answered QUEUE_FULL. -/
def State.remoteArrive (s : State) (p : Pkt) : State :=
  if 16 ≤ (s.q 4).flight.length + s.host.q4wait.length then s.reply p stQUEUE_FULL [] s.now true true
  else { s with host := { s.host with q4wait := s.host.q4wait ++ [p] } }

/-- R84: replies posted since the last message reach COUNT: the queue's vector is sent. -/
def State.coalesce (s : State) (n : Nat) : State :=
  let u := (s.q n).unsignalled + 1
  if max 1 (s.get (F.Q_COAL_COUNT n)) ≤ u then (s.setQ n { s.q n with unsignalled := 0 }).msix n
  else s.setQ n { s.q n with unsignalled := u }

/-- R76: a posted reply with LAST frees its tag, unless it answers a packet that never took one. -/
def State.freeTag (s : State) (r : Reply) : State :=
  if r.last && !r.noTag then
    s.setFlight r.queue ((s.q r.queue).flight.eraseP (fun e => !e.noReply && e.uid = r.uid && e.tag = r.tag))
  else s

/-- R66, R67, R71: the oldest held reply of a host queue is written once there is room. -/
def State.postHost (s : State) (n : Nat) : State :=
  match (s.q n).held with
  | [] => s.drainCheck n
  | r :: t =>
    if s.cqRoom n < r.units then s
    else
      let q := s.q n
      let e := q.cqTail + r.units
      let ws := entryWords r q.phase (s.get (F.Q_STAT_SQ_HEAD n))
      let s1 := s.setQ n { q with held := t, posted := q.posted ++ [ws], cqTail := e % s.cqSize n,
                                  phase := if s.cqSize n ≤ e then !q.phase else q.phase }
      ((s1.freeTag r).coalesce n).drainCheck n

/-- R428: a reply to a packet that came over a Splice link returns in a REPLY frame. -/
def State.splReply (s : State) (r : Reply) : State :=
  match (List.range 4).find? (fun d => decide (d ≠ s.get F.SPL_ID) && decide (s.get64 (F.SPL_UID d) = r.uid)) with
  | some d => s.splSend 4 d (replyWords r false 0)
  | none => s

/-- R88: held reply `r` of Q4 has left, or is discarded. -/
def State.takeReply (s : State) (r : Reply) : State :=
  (s.setQ 4 { s.q 4 with held := (s.q 4).held.erase r, posted := [replyWords r false 0] }).freeTag r

/-- R88, R428: the oldest held reply of Q4 to a packet that came over a Splice link leaves; one to a node of the ring waits for this
device's next acyclic slot (RINGMSG_FRAME_TX). -/
def State.postRemote (s : State) : State :=
  match (s.q 4).held.find? Reply.splice with
  | none => s
  | some r => (s.splReply r).takeReply r

/-- R71, R88: a reply is posted. R61: a DMA error stops an active host queue. -/
def execReplyPost (n : Nat) (dmaError : Bool) (s : State) : Out :=
  .next (if n = 4 then s.postRemote
    else if s.get (F.Q_STAT_STATE n) = 0 then s
    else if dmaError then (if s.get (F.Q_STAT_STATE n) = 1 then s.stopQueue n 6 else s)
    else s.postHost n)

/-- R84: TIME has passed since the first unsignalled reply. -/
def execQueueCoalTimeout (n : Nat) (s : State) : Out :=
  .next (if s.get (F.Q_COAL_TIME n) = 0 ∨ (s.q n).unsignalled = 0 then s
    else (s.setQ n { s.q n with unsignalled := 0 }).msix n)

/-- R58: one host queue is disabled and its replies are discarded. -/
def State.killQueue (s : State) (n : Nat) : State :=
  (((s.setQ n { gen := (s.q n).gen }).put (F.Q_CTL_EN n) 0).put (F.Q_STAT_STATE n) 0).put (F.Q_STAT_INFLIGHT n) 0

/-- R58: all four host queues are disabled. -/
def State.killQueues (s : State) : State := (((s.killQueue 0).killQueue 1).killQueue 2).killQueue 3

/-- R57: the link trains to Gen3, Gen2 or Gen1 and to a width of 4, 2 or 1; which, lies with the host and the board: a free value
(log entry 135). -/
def State.trainLink (s : State) : State :=
  let v := s.fresh.1
  { s.fresh.2 with host := { s.host with linkUp := true, linkSpeed := 1 + v % 3, linkWidth := 2 ^ (v / 3 % 3) } }

/-- R57: the PCI Express link comes up once its PLL has locked. -/
def execPcieLinkUp (s : State) : Out :=
  .next (if s.sys.inReset || !s.on F.SYS_CLK_STAT_SDS_PCIE_LOCK || s.host.linkUp then s else s.trainLink)

/-- R63: firmware counts every 1 ms while READY is set. -/
def execStatHeartbeat (s : State) : Out :=
  .next (if s.on F.STAT_BOOT_READY then s.incWrap F.STAT_HEARTBEAT_COUNT else s)

/-- R59, R84: the mask bit of vector `v` is written; unmasking sends a pending message. -/
def State.msixMaskWrite (s : State) (v : Nat) (b : Bool) : State :=
  let s1 := { s with host := { s.host with msixMask := putBit s.host.msixMask v b } }
  if !b && bitOf s.host.msixPend v then
    { s1 with host := { s1.host with msixPend := putBit s1.host.msixPend v false } }.msix v
  else s1

/-- R84: a vector is unmasked; a pending message is sent. -/
def execMsixUnmask (v : Nat) (s : State) : Out := .next (s.msixMaskWrite v false)

/-- R59: word `i` of the MSI-X table: four to a vector, the last holds its mask bit. -/
def State.msixWord (s : State) (i : Nat) : Nat :=
  if i % 4 = 3 then b2n (bitOf s.host.msixMask (i / 4)) else tabGet 0 s.host.msixTab i

/-- R59: the host writes word `i` of the MSI-X table. -/
def State.msixWrite (s : State) (i v : Nat) : State :=
  if i % 4 = 3 then s.msixMaskWrite (i / 4) (bitOf v 0)
  else { s with host := { s.host with msixTab := tabSet 0 s.host.msixTab i v } }

/-! ### Configuration space (R57)

The properties are the table's; where in the space they stand is PRESUMED, as the PCI Express base specification lays a function
out, and the places of the capabilities are a DESIGN CHOICE (log entry 110). -/

/-- R57: advanced error reporting: the uncorrectable and the correctable errors that the function knows. -/
def aerUncor : Nat := 0x1FF010
def aerCor : Nat := 0x31C1

/-- R57: the bits of configuration word `o` that the device fixes. -/
def State.pciFixed (s : State) (o : Nat) : Nat :=
  if o = 0x00 then 0x85120000 + Config.pciVendor % 65536
  else if o = 0x04 then 0x00100000
  else if o = 0x08 then 0x0B400000 + Config.siliconRevision % 256
  else if o = 0x10 then 0x4
  else if o = 0x2C then s.otp.subsystem % 2 ^ 32
  else if o = 0x34 then 0x40
  else if o = 0x40 then 0x00035001
  else if o = 0x50 then 0x003F7011
  else if o = 0x54 then 0x2000
  else if o = 0x58 then 0x3000
  else if o = 0x70 then 0x00020010
  else if o = 0x74 then 0x10000001
  else if o = 0x7C then 0x43
  else if o = 0x80 then s.host.linkSpeed * 2 ^ 16 + s.host.linkWidth * 2 ^ 20
  else if o = 0x100 then 0x00020001
  else 0

/-- R57: the bits of configuration word `o` that the host programs. -/
def pciMask (o : Nat) : Nat :=
  if o = 0x04 then 0x146
  else if o = 0x0C then 0xFF
  else if o = 0x10 then 0xFFFFC000
  else if o = 0x14 then 0xFFFFFFFF
  else if o = 0x3C then 0xFF
  else if o = 0x44 then 0x3
  else if o = 0x50 then 0xC0000000
  else if o = 0x78 then 0x70E0
  else if o = 0x108 then aerUncor
  else if o = 0x10C then aerUncor
  else if o = 0x114 then aerCor
  else 0

/-- R57: what the host's words hold after a reset: reads of up to 512 bytes, as PCI Express has it (PRESUMED, log entry 110). -/
def pciInit (o : Nat) : Nat := if o = 0x78 then 0x2000 else if o = 0x10C then 0x62010 else if o = 0x114 then 0x2000 else 0

/-- R57: configuration word `o` as the host reads it. -/
def State.pciRead (s : State) (o : Nat) : Nat := Nat.lor (s.pciFixed o) (tabGet (pciInit o) s.host.pci o)

/-- R57: the programmed bits of configuration word `o` after `v` is written: a payload size above 256 bytes and a read request
above 512 are held at those; the power state is D0 or D3hot. -/
def pciTaken (o v : Nat) : Nat :=
  if o = 0x78 then min (bits v 7 5) 1 * 2 ^ 5 + min (bits v 14 12) 2 * 2 ^ 12
  else if o = 0x44 then (if bits v 1 0 = 3 then 3 else 0)
  else Nat.land v (pciMask o)

/-- R84: the pending messages of the vectors that are not masked are sent. -/
def State.sendPending (s : State) : State :=
  (List.range 64).foldl (fun (t : State) v =>
    if bitOf t.host.msixPend v && !t.fnMask && !bitOf t.host.msixMask v then
      { t with host := { t.host with msixPend := putBit t.host.msixPend v false } }.msix v
    else t) s

/-- R57, R84: configuration word `o` takes its programmed bits; the Function Mask may release messages. -/
def State.pciSet (s : State) (o v : Nat) : State :=
  let t := { s with host := { s.host with pci := tabSet (pciInit o) s.host.pci o (pciTaken o v) } }
  if o = 0x50 && s.fnMask then t.sendPending else t

/-- R57: the function is reset: its configuration words and the MSI-X table go back to what they were; a function level reset leaves the
payload size, as PCI Express has it (PRESUMED, log entry 110). -/
def State.pciReset (s : State) (level : Bool) : State :=
  let keep := if level then Nat.land (tabGet (pciInit 0x78) s.host.pci 0x78) 0xE0 + Nat.land (pciInit 0x78) 0x7000 else pciInit 0x78
  { s with host := { s.host with pci := tabSet (pciInit 0x78) [] 0x78 keep, msixMask := 0xFFFF_FFFF_FFFF_FFFF, msixTab := [], msixPend := 0 } }

end Sys2Proof.Machine
end

