-- ==== Sys2Proof/Machine/Irq.lean ====
section
/-! DEFINITION. Meanings of the interrupt and power commands (19_interrupts_and_power). The acceptance of STANDBY,
which asks other blocks, stands in Late.lean. -/

namespace Sys2Proof.Machine

/-- R468: sources with a line, and the software sources. -/
def irqExists (n : Nat) : Bool := decide (n < 22) || (decide (32 ≤ n) && decide (n < 352))

/-- R468: software sources and reserved numbers have no line. -/
def irqHasLine (n : Nat) : Bool := irqExists n && decide (n < 320)

/-- R469: an edge on an interrupt line: a pulse, or a level line that takes a level. -/
def execIrqEdge (n : Nat) (level : Option Bool) (s : State) : Out :=
  .next (if !irqHasLine n then s else
    match level with
    | none => s.pulse n
    | some l => s.line n l)

/-- R471: the deliverable source of target `t` with the highest priority, the lowest number among equals. -/
def State.bestSource (s : State) (t : Nat) : Option Nat :=
  (List.range 384).foldl (fun best n =>
    if s.deliverable t n then
      match best with
      | none => some n
      | some m => if s.get (F.IRQS_PRIO m) < s.get (F.IRQS_PRIO n) then some n else best
    else best) none

/-- R470: the machine external interrupt of core `t` is asserted. -/
def State.meip (s : State) (t : Nat) : Bool := (s.bestSource t).isSome

/-- R471, R474: a read of IRQ_CLAIM: the claimed source leaves PEND and is in service; the answer stands in the
claim register. Target 8 reads 0. -/
def State.claim (s : State) (t : Nat) : State :=
  match s.bestSource t with
  | none => ((s.put (F.IRQT_CLAIM_VALID t) 0).put (F.IRQT_CLAIM_SOURCE t) 0).incSat (F.IRQT_CLAIM_EMPTY t)
  | some n =>
    ((((s.setPend n false).setReleased n false).setInService n true).put (F.IRQT_CLAIM_VALID t) 1).put
      (F.IRQT_CLAIM_SOURCE t) n

/-- R471: a core's read of its claim register. -/
def execIrqClaim (t : Nat) (s : State) : Out :=
  .next (if 8 ≤ t then { s with answer := 0 }
    else { s.claim t with answer := ((s.claim t).word (F.IRQT_CLAIM_SOURCE t).addr).toNat })

/-- R468: sources whose line is a level. -/
def irqIsLevel (n : Nat) : Bool :=
  decide (n < 22) || (decide (152 ≤ n) && decide (n < 256)) || (decide (290 ≤ n) && decide (n < 306))

/-- R472: completion of source `n` at target `t`; a level line that is still 1 sets PEND again and the source is deliverable once
more, so that a grouped one is released with it. -/
def execIrqComplete (t : Nat) (v : Word) (s : State) : Out :=
  let n := bits v.toNat 8 0
  .next (if 8 ≤ t then s
    else if s.irqInService n && decide (s.get (F.IRQS_TARGET n) = t) then
      let s1 := s.setInService n false
      if irqIsLevel n && s1.irqLine n then ((s1.setPend n true).setReleased n true).wakeCheck else s1
    else s.reject bIRQ)

/-- R469: a write of 1 to a bit of IRQ_PENDk sets PEND as an edge; bits of reserved sources ignore writes. -/
def execIrqPendWrite (k : Nat) (v : Word) (s : State) : Out :=
  .next ((List.range 32).foldl (fun t b =>
    if bitOf v.toNat b && irqExists (32 * k + b) then t.edgeCore (32 * k + b) else t) s).wakeCheck

/-- R475: TIME has passed since the first held edge: the group fires. TIME 0 is no limit. -/
def execIrqGroupTimeout (g : Nat) (s : State) : Out :=
  .next (if s.on (F.IRQG_HOLDING g) && decide (s.get (F.IRQG_TIME g) ≠ 0) then
      (s.advanceTo (tabGet 0 s.irq.heldAt g + 1000 * s.get (F.IRQG_TIME g))).groupFire g
    else s)

/-- R478: REQ = RUN. -/
def execPwrReqRun (s : State) : Out :=
  .next (if s.get F.IRQ_BLK_STAT_POWER = 1 then s.put F.IRQ_BLK_STAT_POWER 0 else s)

/-- R478: REQ = IDLE. -/
def execPwrReqIdle (s : State) : Out :=
  .next (if s.get F.IRQ_BLK_STAT_POWER = 0 then s.put F.IRQ_BLK_STAT_POWER 1 else s)

/-- R480, R486: the SYS_POWER_STATE packets that wait are answered STANDBY_DENIED with REFUSE. -/
def State.answerDenied (s : State) : State :=
  s.irq.pwrPkts.foldl (fun (t : State) p => t.reply p stSTANDBY_DENIED [t.get F.PWR_STAT_REFUSE * 256] t.now true false)
    { s with irq := { s.irq with pwrPkts := [] } }

/-- R480: a core does not reach WFI within 100 us: the entry is abandoned with bit CORES. -/
def execStandbyEntryTimeout (s : State) : Out :=
  .next (if s.get F.IRQ_BLK_STAT_POWER ≠ 2 then s else
    (((({ s with irq := { s.irq with sensing := false } }.put F.IRQ_BLK_STAT_POWER 0).put F.PWR_STAT_REFUSE 8).raise
      bIRQ 10).answerDenied))

/-- R481-R484: wake latch `w` is set, while the latches sense: an enabled one ends STANDBY or its entry; one that IRQ_WAKE_EN does
not enable does nothing more. -/
def execWakeLatch (w : Nat) (s : State) : Out :=
  .next (if s.irq.sensing && decide (w < 32) then
      (s.put F.IRQ_WAKE_LATCH (putBit (s.get F.IRQ_WAKE_LATCH) w true)).wakeCheck
    else s)

/-- R486: SYS_WAKE_CONFIG. -/
def execSysWakeConfig (p : Pkt) (s : State) : Out :=
  .next (s.command p opSysWakeConfig [(s.get F.IRQ_BLK_STAT_POWER = 2, stBUSY)]
    (fun t => ((t.put F.IRQ_WAKE_EN (p.w 1)).put F.IRQ_WAKE_POL (p.w 2)).done p stDONE))

end Sys2Proof.Machine
end

