-- ==== Sys2Proof/Machine/Evrec.lean ====
section
/-! DEFINITION. Meanings of the event-recorder and lifetime commands (20_recorder_and_lifetime). -/

namespace Sys2Proof.Machine

/-- R487: MRAM word address of record slot `i`. -/
def recAddr (i : Nat) : Nat := 0x10000000 + 32 * (i % 65536)

/-- R491: milliseconds within the operating second. -/
def State.opMs (s : State) : Nat := min 999 ((s.time.tick - s.ev.secTick) / 400000)

/-- R487: the eight words of a record with sequence number `seq`. -/
def State.recWords (s : State) (r : Rec) (seq : Nat) : List Nat :=
  let flags := b2n r.safety * 32 + b2n s.ev.dropped * 16 + b2n r.clear.isSome * 8 + b2n r.ext * 4 + r.sev % 4
  let w := [seq, s.get F.EVREC_OPSEC_LO, flags * 2 ^ 24 + s.opMs * 2 ^ 14 + s.get F.EVREC_OPSEC_HI,
            s.get F.EVREC_PWRCYC, r.source % 2 ^ 16 * 2 ^ 16 + r.code % 2 ^ 16, r.dataLo % 2 ^ 32, r.dataHi % 2 ^ 32]
  w ++ [crc32cWords w]

/-- Words written one after the other from address `a`. -/
def State.setWords (s : State) (a : Nat) : List Nat → State
  | [] => s
  | w :: r => (s.setWord a (Word.of w)).setWords (a + 4) r

/-- Words read one after the other from address `a`. -/
def State.getWords (s : State) (a n : Nat) : List Nat := (List.range n).map (fun i => (s.word (a + 4 * i)).toNat)

/-- R489: one record is written: TAIL first passes the record that the slot holds, HEAD advances once the record is
whole, NEW_REC is set and vector 13 is raised. -/
def State.writeRec (s : State) (r : Rec) : State :=
  let h := s.get F.EVREC_HEAD
  let t := s.get F.EVREC_TAIL
  let s1 := if 65536 ≤ (h + 2 ^ 32 - t) % 2 ^ 32 then s.put F.EVREC_TAIL (t + 1) else s
  let s2 := s1.setWords (recAddr h) (s1.recWords r h)
  let s3 := { s2 with ev := { s2.ev with dropped := false } }.put F.EVREC_HEAD (h + 1)
  (s3.raise bEVREC 8).msix 13

/-- R493: the clear reaches the head of the queue: with HEAD equal to UPTO the CLEAR record is written, EPOCH and TAIL
take its number and the history gets a copy; otherwise nothing is cleared and the command is answered BUSY. -/
def State.writeClear (s : State) (r : Rec) (p : Pkt) (upto key : Nat) : State :=
  let h := s.get F.EVREC_HEAD
  let c := s.get F.EVREC_CLEARS
  if h ≠ upto then s.done p stBUSY
  else if 256 ≤ c then s.done p stNOT_PERMITTED
  else
    let r' := { r with source := key, dataLo := h, dataHi := c + 1 }
    let ws := s.recWords r' h
    let s1 := s.writeRec r'
    let s2 := ((s1.put F.EVREC_EPOCH h).put F.EVREC_TAIL h).setWords (0x10201000 + 32 * c) ws
    (s2.put F.EVREC_CLEARS (c + 1)).done p stDONE

/-- R489: the EVREC block writes the next queued record; a REC_WRITE is then answered with its sequence number. -/
def execRecordWrite (s : State) : Out :=
  .next (match s.ev.queue with
    | [] => s
    | r :: t =>
      let s1 := { s with ev := { s.ev with queue := t } }
      match r.clear with
      | some (p, upto, key) => s1.writeClear r p upto key
      | none =>
        let s2 := s1.writeRec r
        match r.answer with
        | some p => s2.doneRes p [s1.get F.EVREC_HEAD]
        | none => s2)

/-- R316, SCHED_COREDOM: the scheduler domain of the requester; the debug port counts as domain 0. -/
def State.domainOf (s : State) (r : Requester) : Nat :=
  match r with
  | .core c => bits (s.get F.SCHED_COREDOM_DOM) (2 * c + 1) (2 * c)
  | _ => 0

/-- R489, R498: a write to EVREC_WR_GO submits the record of core code. -/
def execEvrecWrGo (r : Requester) (v : Word) (s : State) : Out :=
  let code := s.get F.EVREC_CODE
  .next (if s.domainOf r = 0 ∨ 0xF800 ≤ code then
      s.postRec { code := code, source := s.get F.EVREC_SOURCE, dataLo := s.get F.EVREC_DATA_LO,
                  dataHi := s.get F.EVREC_DATA_HI, sev := bits v.toNat 1 0, ext := true }
    else s.reject bEVREC)

/-- A running lifetime word counted up by one. -/
def State.lifeInc (s : State) (off : Nat) : State :=
  s.setWord (lifeRun + off) (Word.of ((s.word (lifeRun + off)).toNat + 1))

/-- A running 64-bit lifetime value counted up by `n`. -/
def State.lifeAdd64 (s : State) (off n : Nat) : State :=
  let v := (s.word (lifeRun + off)).toNat + 2 ^ 32 * (s.word (lifeRun + off + 4)).toNat + n
  (s.setWord (lifeRun + off) (Word.of v)).setWord (lifeRun + off + 4) (Word.of (v / 2 ^ 32))

/-- R495: the histogram bin of a junction temperature in 1/4 degree. -/
def tjBin (t : Int) : Nat :=
  if t < -120 then 0 else if 480 ≤ t then 31 else ((t + 120) / 20).toNat + 1

/-- R495: the histogram bin of a supply deviation in 0.01 %. -/
def supBin (d : Int) : Nat :=
  if d < -700 then 0 else if 700 ≤ d then 15 else ((d + 700) / 100).toNat + 1

/-- R495: lowest and highest junction reading; the first reading of all sets both (log entry 156). -/
def State.noteTj (s : State) (t : Int) : State :=
  let w := (s.word (lifeRun + 0x58)).toNat
  let lo := if s.word (lifeRun + 0x08) = 0 then t else min (sgn 16 (bits w 31 16)) t
  let hi := if s.word (lifeRun + 0x08) = 0 then t else max (sgn 16 (bits w 15 0)) t
  s.setWord (lifeRun + 0x58) (Word.of (unsgn 16 lo * 2 ^ 16 + unsgn 16 hi))

/-- R491: an operating second has passed; while CTL_CLK runs it is 400,000,000 ticks long. -/
def State.opSecond (s : State) : State :=
  let t := if s.sys.inReset then s else s.advanceTick (s.ev.secTick + 400000000)
  { t with ev := { t.ev with secTick := t.time.tick } }

/-- R491: the operating seconds. -/
def State.opSec (s : State) : Nat := s.get F.EVREC_OPSEC_LO + 2 ^ 32 * s.get F.EVREC_OPSEC_HI

/-- R497: AGE: days of operating time since the last completed pass. -/
def State.passAge (s : State) (op : Nat) : State := s.put F.EVREC_AGE (min 65535 ((op - s.mram.passSec) / 86400))

/-- R491, R492, R494: one operating second: the readings enter their bins, the counts advance, what the second brings falls due. -/
def execLifetimeSample (h : Health) (s : State) : Out :=
  let s1 := (s.opSecond.noteHealth h).noteTj h.junction
  let s2 := s1.lifeInc (0x80 + 4 * tjBin h.junction)
  let s3 := (List.range 9).foldl (fun t r => t.lifeInc (0x100 + 0x40 * r + 4 * supBin (h.rails.getD r (0, 0)).1)) s2
  let s4 := s3.lifeAdd64 0x08 1
  let op := s4.opSec + 1
  let s5 := ((s4.put F.EVREC_OPSEC_LO op).put F.EVREC_OPSEC_HI (op / 2 ^ 32)).passAge op
  .next { s5 with ev := { s5.ev with syncDue := s5.ev.syncDue || decide (op % 3600 = 0), flushDue := s5.ev.flushDue || decide (op % 60 = 0) } }

/-- R494: the flush of the lifetime values that 60 operating seconds bring. -/
def execLifetimeFlush (s : State) : Out :=
  .next (if s.ev.flushDue then { s with ev := { s.ev with flushDue := false } }.lifetimeFlush else s)

/-- R492: a TIME_SYNC record with device time. -/
def State.timeSync (s : State) : State := s.post 0x0E10 0 s.now (s.now / 2 ^ 32)

/-- R492: the record that 3,600 operating seconds bring. -/
def execTimeSync (s : State) : Out :=
  .next (if s.ev.syncDue then { s with ev := { s.ev with syncDue := false } }.timeSync else s)

/-- R497: a slice of the MRAM refresh: the progress, an ECC event (offset, and whether it was uncorrectable), and the
end of a pass. -/
def execMramRefreshSlice (percent : Nat) (ended : Bool) (ecc : Option (Nat × Bool)) (s : State) : Out :=
  let s1 := match ecc with
    | none => s
    | some (off, true) => (s.raise bEVREC 10).post 0x0E12 1 off 0
    | some (off, false) => (s.lifeInc 0x1C).post 0x0E12 0 off 0
  .next (if ended then
      let s2 := ((s1.lifeInc 0x5C).put F.EVREC_PROGRESS 0).put F.EVREC_AGE 0
      { s2 with mram := { s2.mram with passSec := s2.opSec } }
    else s1.put F.EVREC_PROGRESS (min percent 99))

/-- R490: the record in slot `seq` mod 65,536 is valid for a reader between TAIL and HEAD. -/
def State.recValid (s : State) (seq : Nat) : Bool :=
  let h := s.get F.EVREC_HEAD
  let t := s.get F.EVREC_TAIL
  let ws := s.getWords (recAddr seq) 8
  decide (crc32cWords (ws.take 7) = ws.getD 7 0) && decide (ws.getD 0 0 = seq) &&
  decide ((seq + 2 ^ 32 - t) % 2 ^ 32 < (h + 2 ^ 32 - t) % 2 ^ 32)

/-- R499: the valid records from `first`, at most `n`, stopping before HEAD. -/
def State.readRecs (s : State) (first n : Nat) : List Nat :=
  let h := s.get F.EVREC_HEAD
  let t := s.get F.EVREC_TAIL
  let span := (h + 2 ^ 32 - t) % 2 ^ 32
  let off := (first + 2 ^ 32 - t) % 2 ^ 32
  let start := if off < span then first else if (first + 2 ^ 32 - h) % 2 ^ 32 < 2 ^ 31 then h else t
  let cnt := min n ((h + 2 ^ 32 - start) % 2 ^ 32)
  let ok := ((List.range cnt).map (fun i => (start + i) % 2 ^ 32)).filter s.recValid
  [ok.length] ++ ok.flatMap (fun q => s.getWords (recAddr q) 8)

/-- R499: REC_READ. -/
def execRecRead (p : Pkt) (s : State) : Out :=
  .next (s.command p opRecRead [(bits (p.w 1) 6 0 = 0 || p.w 1 ≥ 128, stBAD_PARAM)]
    (fun t => t.doneRes p ([t.get F.EVREC_HEAD, t.get F.EVREC_TAIL, t.get F.EVREC_EPOCH] ++
      t.readRecs (p.w 0) (bits (p.w 1) 6 0))))

/-- R489: the record of packet `p` is posted; where it is dropped, the packet is answered BUSY (log entry 130). -/
def State.postFor (s : State) (p : Pkt) (r : Rec) : State :=
  if s.ev.queue.length < 64 then s.postRec r else (s.postRec r).done p stBUSY

/-- R493, R499: REC_CLEAR joins the record queue; it needs an owner key (R463) and room in the history. -/
def execRecClear (p : Pkt) (s : State) : Out :=
  .next (s.command p opRecClear
    [(s.sigKey p < 4, stAUTH_FAILED), (256 ≤ s.get F.EVREC_CLEARS, stNOT_PERMITTED)]
    (fun t =>
      let r : Rec := { code := 0x0E11, source := 0, dataLo := 0, dataHi := 0, sev := 0 }
      t.postFor p { r with clear := some (p, p.w 0, t.sigKey p) }))

/-- R499: REC_HEAD. -/
def execRecHead (p : Pkt) (s : State) : Out :=
  .next (s.command p opRecHead []
    (fun t => t.doneRes p [t.get F.EVREC_HEAD, t.get F.EVREC_TAIL, t.get F.EVREC_EPOCH, t.get F.EVREC_DROP,
      t.get F.EVREC_OPSEC_LO, t.get F.EVREC_OPSEC_HI]))

/-- R499: LIFE_READ: the current lifetime copy, or entries of the clear history. -/
def execLifeRead (p : Pkt) (s : State) : Out :=
  let area := bits (p.w 0) 1 0
  let first := bits (p.w 0) 23 16
  let count := bits (p.w 0) 30 24
  .next (s.command p opLifeRead
    [(2 ≤ area || outside (p.w 0) 0x7FFF0003, stBAD_PARAM),
     (area = 1 && (count = 0 || decide (s.get F.EVREC_CLEARS < first + count)), stBAD_PARAM)]
    (fun t => t.doneRes p (if area = 0 then t.getWords (0x10200000 + 0x400 * (1 - t.ev.nextCopy)) 256
      else t.getWords (0x10201000 + 32 * first) (8 * count))))

/-- R489, R499: REC_WRITE: answered with the sequence number once the record is written. -/
def execRecWrite (p : Pkt) (s : State) : Out :=
  let code := bits (p.w 0) 15 0
  .next (s.command p opRecWrite [(code < 0xF000 || 0xF7FF < code || 4 ≤ p.w 3, stBAD_PARAM)]
    (fun t =>
      let r : Rec := { code := code, source := bits (p.w 0) 31 16, dataLo := p.w 1, dataHi := p.w 2, sev := bits (p.w 3) 1 0 }
      t.postFor p { r with ext := true, answer := some p }))

end Sys2Proof.Machine
end

