-- ==== Sys2Proof/Machine/Sched.lean ====
section
/-! DEFINITION. The hardware task scheduler (12_scheduler). -/

namespace Sys2Proof.Machine

/-- The row of task `t`. -/
def State.task (s : State) (t : Nat) : Task := tabGet {} s.sched.tasks t

/-- The state with the row of task `t` set. -/
def State.setTask (s : State) (t : Nat) (v : Task) : State :=
  { s with sched := { s.sched with tasks := tabSet {} s.sched.tasks t v } }

/-- R316: the domain of task `t`. -/
def State.taskDomain (s : State) (t : Nat) : Nat :=
  bits (s.get (F.SCHED_DOM_DOM (t / 16))) (2 * (t % 16) + 1) (2 * (t % 16))

/-- R326: the ready tasks of level `l`, in order: the queue memory, or in fall-back the task table alone. -/
def State.levelTasks (s : State) (l : Nat) : List Nat :=
  if s.on F.SCHED_BLK_STAT_FALLBACK then
    (s.sched.tasks.filter (fun e => decide (e.2.st = .ready) && decide (e.2.prio = l))).map Prod.fst
  else tabGet [] s.sched.levels l

/-- R318: the head of the most urgent level that holds a ready task whose affinity includes core `c`. -/
def State.headFor (s : State) (c : Nat) : Option Nat :=
  ((List.range 32).flatMap s.levelTasks).find? (fun t => bitOf (s.task t).affinity c)

/-- The current task of core `c` (SCHED_CURc). -/
def State.curTask (s : State) (c : Nat) : Option Nat :=
  if s.on (F.SCHEDC_CUR_VALID c) then some (s.get (F.SCHEDC_CUR_TASK c)) else none

/-- R319: the choice offered to core `c`, which its dispatch interrupt announces (SCHED_DISPc). -/
def State.choice (s : State) (c : Nat) : Option Nat :=
  if s.on (F.SCHEDC_DISP_VALID c) then some (s.get (F.SCHEDC_DISP_TASK c)) else none

/-- R318: the priority that a new task must better on core `c`: that of the choice, else of the current task; a core
with neither counts as less urgent than 31. -/
def State.corePrio (s : State) (c : Nat) : Nat :=
  match s.choice c, s.curTask c with
  | some t, _ => (s.task t).prio
  | none, some t => (s.task t).prio
  | none, none => 32

/-- R318: the core a ready task takes: least urgent in its affinity, lowest number among equals, strictly less urgent
than the task. -/
def State.pickCore (s : State) (t : Nat) : Option Nat :=
  (List.range 8).foldl (fun best c =>
    if bitOf (s.task t).affinity c && decide ((s.task t).prio < s.corePrio c) then
      match best with
      | none => some c
      | some b => if s.corePrio b < s.corePrio c then some c else best
    else best) none

/-- R317: a task joins its level at the head or at the tail. -/
def State.enqueue (s : State) (t : Nat) (head : Bool) : State :=
  let s1 := s.setTask t { s.task t with st := .ready }
  if s.on F.SCHED_BLK_STAT_FALLBACK then s1
  else
    let l := (s.task t).prio
    let q := tabGet [] s.sched.levels l
    { s1 with sched := { s1.sched with levels := tabSet [] s1.sched.levels l (if head then t :: q else q ++ [t]) } }

/-- A task leaves its level. -/
def State.dequeue (s : State) (t : Nat) : State :=
  let l := (s.task t).prio
  { s with sched := { s.sched with levels := tabSet [] s.sched.levels l ((tabGet [] s.sched.levels l).erase t) } }

/-- R318: task `t` is chosen for core `c`; where it is the core's current task, it goes on and nothing is offered. -/
def State.offer (s : State) (c t : Nat) : State :=
  let s1 := s.setTask t { s.task t with st := .running }
  if s.curTask c = some t then s1.put (F.SCHEDC_DISP_VALID c) 0
  else ((s1.put (F.SCHEDC_DISP_VALID c) 1).put (F.SCHEDC_DISP_STATUS c) (s.task t).status).put (F.SCHEDC_DISP_TASK c) t

/-- R318, R319, R327: a task becomes ready: it takes a core, and a choice it displaces goes back to the head of its
level; otherwise it joins its level. In prefetch-slot mode nothing is pre-empted. -/
def State.makeReady : Nat → State → Nat → Bool → State
  | 0, s, t, head => s.enqueue t head
  | n + 1, s, t, head =>
    if s.on F.SCHED_BLK_CTRL_PREFETCH then s.enqueue t head
    else match s.pickCore t with
      | none => s.enqueue t head
      | some c =>
        match s.choice c with
        | none => s.offer c t
        | some d => State.makeReady n (s.offer c t) d true

/-- R327: SCHED_PFc names the task that core `c` would run next, laid out as SCHED_DISPc. -/
def State.pfWord (s : State) (c : Nat) : Nat :=
  match s.headFor c with
  | some t => 2 ^ 31 + (s.task t).status * 2 ^ 16 + t
  | none => 0

/-- R327: SCHED_PFc after a change. -/
def State.refreshPf (s : State) : State :=
  if s.on F.SCHED_BLK_CTRL_PREFETCH then (List.range 8).foldl (fun u c => u.put (F.SCHED_PF c) (s.pfWord c)) s else s

/-- A task becomes ready and the prefetch slots follow. -/
def State.wakeTask (s : State) (t : Nat) (head : Bool) : State := (s.makeReady 40 t head).refreshPf

/-- R318: core `c` is freed: without a choice it takes the head of the most urgent level it may run. -/
def State.freeCore (s : State) (c : Nat) : State :=
  (if s.on F.SCHED_BLK_CTRL_PREFETCH || s.on (F.SCHEDC_DISP_VALID c) then s
  else match s.headFor c with
    | none => s
    | some t => (s.dequeue t).offer c t).refreshPf

/-- The result of an operation of core `c` (SCHED_OPc_RES). -/
def State.schedRes (s : State) (c st : Nat) : State := s.put (F.SCHEDC_STATUS c) st

/-- SCHED_OPc_RES codes. -/
def resOK : Nat := 0
def resTIMEOUT : Nat := 1
def resBAD_ARG : Nat := 2
def resDENIED : Nat := 3
def resEXISTS : Nat := 4
def resABSENT : Nat := 5
def resBAD_OP : Nat := 6
def resNO_TASK : Nat := 7

/-- R317, R324: bits are set in the flags of task `t`; a waiting task whose mask they meet becomes ready. -/
def State.signalTask (s : State) (t v : Nat) : State :=
  let k := s.task t
  let f := Nat.lor k.flags v
  let m := Nat.land f k.mask
  if k.st = .waiting && m != 0 then
    (s.setTask t { k with flags := f - m, matched := m, status := resOK, deadline := none }).wakeTask t false
  else s.setTask t { k with flags := f }

/-- R323: the device time at which `n` us from now have passed, on a whole microsecond. -/
def State.deadline (s : State) (n : Nat) : Nat := (s.now + b2n (s.time.frac ≠ 0) + 1000 * n + 999) / 1000 * 1000

/-- R317, R323: the time-out of a WAIT or the duration of a SLEEP of task `t` expires. -/
def State.taskExpire (s : State) (t : Nat) : State :=
  let k := s.task t
  match k.st with
  | .waiting => (s.setTask t { k with status := resTIMEOUT, matched := 0, deadline := none }).wakeTask t false
  | .sleeping => (s.setTask t { k with deadline := none }).wakeTask t false
  | _ => s

/-- R323: the deadline of a task is `lim` or earlier, in units of 2^-32 ns. -/
def Task.due (k : Task) (lim : Nat) : Bool := match k.deadline with | some d => decide (d * 2 ^ 32 ≤ lim) | none => false

/-- R323: of the tasks due by `lim` the one that expires first, the lowest number among equals. -/
def State.firstDue (s : State) (lim : Nat) : Option Nat :=
  (s.sched.tasks.foldl (fun (best : Option (Nat × Nat)) e =>
    let d := e.2.deadline.getD 0
    if !e.2.due lim then best
    else match best with
      | some (d0, t0) => if d < d0 then some (d, e.1) else some (d0, t0)
      | none => some (d, e.1)) none).map Prod.snd

/-- R323: what was due by `lim` expires, one after another. -/
def State.expireTill (lim : Nat) : Nat → State → State
  | 0, s => s
  | n + 1, s =>
    match s.firstDue lim with
    | some t => State.expireTill lim n (s.taskExpire t)
    | none => s

/-- R320: what was due before this CTL_CLK tick has expired. -/
def State.schedPast (s : State) : State := State.expireTill (s.fine - s.tickStep) s.sched.tasks.length s

/-- R320: a command that is an operation, an event line's pulse or an expiry. -/
def schedRow (i : Instr) : Bool :=
  match i with
  | .create _ _ | .signal _ _ _ | .wait _ _ _ _ _ | .yield _ | .sleep _ _ _ | .exit _ | .schedEventLine _ | .schedTimeout _
  | .schedSleepExpiry _ => true
  | _ => false

/-- R320 step 3: what is due by now expires, in ascending task number. -/
def State.expireDue (s : State) : State := ((s.sched.tasks.filter (fun e => e.2.due s.fine)).map Prod.fst).foldl State.taskExpire s

/-- R320: what is due on this tick expires after the operations and event lines of the tick, which are those
that come next in the queue (log entry 153). -/
def State.schedSettle (s : State) : State :=
  match s.pending with
  | i :: _ => if schedRow i then s else s.expireDue
  | [] => s.expireDue

/-- R320: an operation or an event on the present tick. -/
def State.schedAt (s : State) (f : State → State) : State := (f s.schedPast).schedSettle

/-- R323: device time is stepped forward from `old`, in ns: every time-out passed over expires on the next tick. -/
def State.schedStep (s : State) (old : Nat) : State :=
  { s with sched := { s.sched with tasks := s.sched.tasks.map (fun e =>
      (e.1, { e.2 with deadline := e.2.deadline.map (fun d => if old < d ∧ d ≤ s.now then s.now + 1 else d) })) } }

/-- R321: CREATE. -/
def State.opCreate (s : State) (c arg0 : Nat) : State :=
  let t := bits arg0 7 0
  if s.taskDomain t ≠ s.domainOf (.core c) then s.schedRes c resDENIED
  else if bits arg0 23 16 = 0 then s.schedRes c resBAD_ARG
  else if (s.task t).st ≠ .free then s.schedRes c resEXISTS
  else ((s.setTask t { st := .ready, prio := bits arg0 12 8, affinity := bits arg0 23 16 }).wakeTask t false).schedRes c resOK

/-- R321: SIGNAL. -/
def State.opSignal (s : State) (c arg0 arg1 : Nat) : State :=
  let t := bits arg0 7 0
  if s.taskDomain t ≠ s.domainOf (.core c) then s.schedRes c resDENIED
  else if arg1 = 0 then s.schedRes c resBAD_ARG
  else if (s.task t).st = .free then s.schedRes c resABSENT
  else (s.signalTask t arg1).schedRes c resOK

/-- R317: the current task of core `c` leaves it with row `k`. -/
def State.leaveCore (s : State) (c t : Nat) (k : Task) : State :=
  (((s.setTask t k).put (F.SCHEDC_CUR_VALID c) 0).put (F.SCHEDC_CUR_TASK c) 0).freeCore c

/-- R321, R322: WAIT. -/
def State.opWait (s : State) (c mask arg1 : Nat) (nowait forever : Bool) : State :=
  match s.curTask c with
  | none => s.schedRes c resNO_TASK
  | some t =>
    let k := s.task t
    let m := Nat.land k.flags mask
    if mask = 0 then s.schedRes c resBAD_ARG
    else if m ≠ 0 then ((s.setTask t { k with flags := k.flags - m }).put (F.SCHEDC_BITS c) m).schedRes c resOK
    else if nowait then s.schedRes c resTIMEOUT
    else s.leaveCore c t
      { k with st := .waiting, mask := mask, deadline := if forever then none else some (s.deadline (arg1 + 1)) }

/-- R317, R321: YIELD: the current task goes to the tail of its level and the core takes the head of the most urgent
one, which may be the same task. -/
def State.opYield (s : State) (c : Nat) : State :=
  match s.curTask c with
  | none => s.schedRes c resNO_TASK
  | some t =>
    let s1 := s.enqueue t false
    let s2 := (s1.put (F.SCHEDC_CUR_VALID c) 0).put (F.SCHEDC_CUR_TASK c) 0
    (if s.on F.SCHED_BLK_CTRL_PREFETCH then s2.refreshPf
     else if !s.on (F.SCHEDC_DISP_VALID c) && decide (s1.headFor c = some t) then (s1.dequeue t).offer c t
     else ((s2.freeCore c).dequeue t).wakeTask t false).schedRes c resOK

/-- R321: SLEEP; FOREVER is a bad operation. -/
def State.opSleep (s : State) (c arg1 : Nat) (forever : Bool) : State :=
  if forever then s.schedRes c resBAD_OP
  else match s.curTask c with
    | none => s.schedRes c resNO_TASK
    | some t => s.leaveCore c t
        { s.task t with st := .sleeping, deadline := some (s.deadline (arg1 + 1)), status := resOK, matched := 0 }

/-- R321: EXIT. -/
def State.opExit (s : State) (c : Nat) : State :=
  match s.curTask c with
  | none => s.schedRes c resNO_TASK
  | some t => s.leaveCore c t {}

/-- R321: a write to SCHED_OPc_CMD issues the operation of its code. -/
def State.schedCmd (s : State) (c : Nat) (v : Word) : State :=
  let a0 := s.get (F.SCHEDC_ARG0 c)
  let a1 := s.get (F.SCHEDC_ARG1 c)
  let n := v.toNat
  s.schedAt (fun t =>
    match bits n 3 0 with
    | 1 => t.opCreate c a0
    | 2 => t.opSignal c a0 a1
    | 3 => t.opWait c a0 a1 (bitOf n 8) (bitOf n 9)
    | 4 => t.opYield c
    | 5 => t.opSleep c a1 (bitOf n 9)
    | 6 => t.opExit c
    | _ => t.schedRes c resBAD_OP)

/-- R321: the arguments of an operation of core `c` are written. -/
def State.schedArgs (s : State) (c : Nat) (a0 a1 : Word) : State :=
  (s.setWord (F.SCHEDC_ARG0 c).addr a0).setWord (F.SCHEDC_ARG1 c).addr a1

/-- An operation exists for cores 0-7 only. -/
def onCore (c : Nat) (s t : State) : Out := .next (if c < 8 then t else s)

/-- R321: CREATE by core `c`. -/
def execCreate (c : Nat) (arg0 : Word) (s : State) : Out :=
  onCore c s ((s.setWord (F.SCHEDC_ARG0 c).addr arg0).schedAt (fun t => t.opCreate c arg0.toNat))

/-- R321: SIGNAL by core `c`. -/
def execSignal (c : Nat) (arg0 arg1 : Word) (s : State) : Out :=
  onCore c s ((s.schedArgs c arg0 arg1).schedAt (fun t => t.opSignal c arg0.toNat arg1.toNat))

/-- R321: WAIT by core `c`. -/
def execWait (c : Nat) (arg0 arg1 : Word) (nowait forever : Bool) (s : State) : Out :=
  onCore c s ((s.schedArgs c arg0 arg1).schedAt (fun t => t.opWait c arg0.toNat arg1.toNat nowait forever))

/-- R321: YIELD by core `c`. -/
def execYield (c : Nat) (s : State) : Out := onCore c s (s.schedAt (fun t => t.opYield c))

/-- R321: SLEEP by core `c`. -/
def execSleep (c : Nat) (arg1 : Word) (forever : Bool) (s : State) : Out :=
  onCore c s ((s.setWord (F.SCHEDC_ARG1 c).addr arg1).schedAt (fun t => t.opSleep c arg1.toNat forever))

/-- R321: EXIT by core `c`. -/
def execExit (c : Nat) (s : State) : Out := onCore c s (s.schedAt (fun t => t.opExit c))

/-- R319, R322: core `c` switches to task `t`; the task it leaves goes back to the head of its level. -/
def State.switchTo (s : State) (c t : Nat) : State :=
  let k := s.task t
  let s1 := (s.setTask t { k with st := .running, status := 0, matched := 0 }).put (F.SCHEDC_DISPB c) k.matched
  let s2 := (s1.put (F.SCHEDC_CUR_VALID c) 1).put (F.SCHEDC_CUR_TASK c) t
  match s.curTask c with
  | none => s2.refreshPf
  | some o => s2.wakeTask o true

/-- R319: a read of SCHED_DISPc answers the choice current at the read and switches to it. -/
def execSchedDispRead (c : Nat) (s : State) : Out :=
  let s1 := { s with answer := (s.word (F.SCHEDC_DISP_TASK c).addr).toNat }
  onCore c s (match s.choice c with
    | none => s1
    | some t => (s1.setWord (F.SCHEDC_DISP_TASK c).addr 0).switchTo c t)

/-- R327: in prefetch-slot mode a read of SCHED_PFc switches the core to the task named; otherwise it reads 0. -/
def execSchedPfRead (c : Nat) (s : State) : Out :=
  onCore c s (if !s.on F.SCHED_BLK_CTRL_PREFETCH then { s with answer := 0 }
    else
      let s1 := { s with answer := s.pfWord c }
      match s.headFor c with
      | none => s1
      | some t => (s1.dequeue t).switchTo c t)

/-- R324: a pulse on event line `e`: bound, it signals its task bit outside any domain check. -/
def State.eventLine (s : State) (e : Nat) : State :=
  let t := s.get (F.SCHED_EVBIND_TASK e)
  if 10 ≤ e || !s.on (F.SCHED_EVBIND_EN e) || decide ((s.task t).st = .free) then s
  else s.signalTask t (2 ^ s.get (F.SCHED_EVBIND_BIT e))

/-- R324: a pulse on an event line. -/
def execSchedEventLine (e : Nat) (s : State) : Out := s.awake (
  .next (s.schedAt (fun t => t.eventLine e)))

/-- R317, R320, R323: device time reaches the end of task `t`'s time-out. -/
def execSchedTimeout (t : Nat) (s : State) : Out := s.awake (
  .next (match (s.task t).st, (s.task t).deadline with
    | .waiting, some d => (s.advanceTo d).schedAt id
    | _, _ => s))

/-- R317, R320, R323: device time reaches the end of task `t`'s SLEEP. -/
def execSchedSleepExpiry (t : Nat) (s : State) : Out := s.awake (
  .next (match (s.task t).st, (s.task t).deadline with
    | .sleeping, some d => (s.advanceTo d).schedAt id
    | _, _ => s))

/-- R326: an uncorrectable queue-memory error at `offset`: fall-back, once until the next reset. -/
def execQmemUe (offset : Nat) (s : State) : Out :=
  .next (if s.on F.SCHED_BLK_STAT_FALLBACK then s else
    (((({ s with sched := { s.sched with levels := [] } }.put F.SCHED_BLK_STAT_FALLBACK 1).raise bSCHED 8).post
      0x0310 0 offset 0).lifeInc 0x18).refreshPf)

end Sys2Proof.Machine
end

