-- ==== Sys2Proof/Machine/Arith.lean ====
section
/-! DEFINITION. The arithmetic of the loop engine (R142), the sine table (R186), binary32 (IEEE 754). -/

namespace Sys2Proof.Machine

/-- R142: x divided by 2^n, rounded to the nearest integer, ties to even. -/
def rne (x : Int) (n : Nat) : Int :=
  let d : Int := 2 ^ n
  let q := x / d
  let r := x % d
  if 2 * r < d then q else if d < 2 * r then q + 1 else if q % 2 = 0 then q else q + 1

/-- R142: a quotient by any positive integer, rounded to the nearest integer, ties to even. -/
def rneDiv (x : Int) (d : Nat) : Int :=
  let q := x / d
  let r := x % d
  if 2 * r < d then q else if (d : Int) < 2 * r then q + 1 else if q % 2 = 0 then q else q + 1

/-- R142: a value clamped, and whether it was. -/
def satF (x lo hi : Int) : Int × Bool := (clampI lo hi x, decide (x < lo) || decide (hi < x))

/-- Bounds of Q1.31. -/
def q31Min : Int := -2147483648
def q31Max : Int := 2147483647

/-- Narrowing to Q1.31. -/
def sat31 (x : Int) : Int × Bool := satF x q31Min q31Max

/-- Narrowing to Q8.56. -/
def sat63 (x : Int) : Int × Bool := satF x (-9223372036854775808) 9223372036854775807

/-- R144: the scaling stage: offset, shift and gain; whether it clamped. -/
def scaleStage (raw offs : Int) (shift : Nat) (gain : Int) : Int × Bool :=
  let v := satF ((raw - offs) * 2 ^ shift) (-140737488355328) 140737488355327
  let x := sat31 (rne (v.1 * gain) 28)
  (x.1, v.2 || x.2)

/-- R145: a move towards a target by at most `step`; step 0 goes there at once. -/
def towards (x target : Int) (step : Nat) : Int :=
  if step = 0 then target
  else if (step : Int) < target - x then x + step
  else if (step : Int) < x - target then x - step
  else target

/-- floor(pi * 2^100). -/
def piScaled : Nat := 3982441812995697363688351113952

/-- Terms of the sine series at scale 2^100, from the term of order 2k+1. -/
def sinSeries : Nat → Nat → Nat → Nat → Int → Int
  | 0, _, _, _, acc => acc
  | n + 1, k, x, t, acc =>
    let acc' := if k % 2 = 0 then acc + t else acc - t
    sinSeries n (k + 1) x (t * x / 2 ^ 100 * x / 2 ^ 100 / ((2 * k + 2) * (2 * k + 3))) acc'

/-- R186: round(sin(i * pi / 2048) * (2^31 - 1)), ties away from zero, for i up to 1,024. -/
def sinQuarter (i : Nat) : Int :=
  let x := piScaled * i / 2048
  (sinSeries 17 0 x x 0 * 2147483647 + 2 ^ 99) / 2 ^ 100

/-- R186: entry `i` of SINTAB. -/
def sinTab (i : Nat) : Int :=
  let r := i % 1024
  match i / 1024 % 4 with
  | 0 => sinQuarter r
  | 1 => sinQuarter (1024 - r)
  | 2 => -sinQuarter r
  | _ => -sinQuarter (1024 - r)

/-- A natural quotient rounded to nearest, ties to even. -/
def rneNat (n d : Nat) : Nat :=
  let q := n / d
  let r := n % d
  if 2 * r < d then q else if d < 2 * r then q + 1 else if q % 2 = 0 then q else q + 1

/-- The binary exponent e with 2^e <= n/d < 2^(e+1), n and d not 0. -/
def binExp (n d : Nat) : Int :=
  let e : Int := (n.log2 : Int) - d.log2
  if (if 0 ≤ e then decide (n < d * 2 ^ e.toNat) else decide (n * 2 ^ (-e).toNat < d)) then e - 1 else e

/-- IEEE 754 binary32 of n/d, d not 0, rounded to nearest, ties to even; the magnitudes of R186 stay in the normal
range. -/
def binary32 (n : Int) (d : Nat) : Nat :=
  let m := n.natAbs
  if m = 0 ∨ d = 0 then 0
  else
    let e := binExp m d
    let sh := 23 - e
    let f := if 0 ≤ sh then rneNat (m * 2 ^ sh.toNat) d else rneNat m (d * 2 ^ (-sh).toNat)
    let f' := if f = 2 ^ 24 then 2 ^ 23 else f
    let e' := if f = 2 ^ 24 then e + 1 else e
    (if n < 0 then 2 ^ 31 else 0) + (e' + 127).toNat * 2 ^ 23 + (f' - 2 ^ 23)

/-- The largest n below 2^(bits) with (2n - 1)^q at most `x` times 2^q: the q-th root of x, rounded. -/
def rootBits : Nat → Nat → Nat → Nat → Nat
  | 0, _, _, acc => acc
  | b + 1, q, x, acc =>
    let c := acc + 2 ^ b
    rootBits b q x (if (2 * c - 1) ^ q ≤ x * 2 ^ q then c else acc)

/-- R186: INC of point `k` of `p` points: round(start * (stop/start)^(k/(p-1))). -/
def sweepInc (start stop p k : Nat) : Nat :=
  if p ≤ 1 then start else rootBits 33 (p - 1) (start ^ (p - 1 - k) * stop ^ k) 0

/-- R186: COUNT = round(m * 2^32 / inc), at most 65,535. -/
def sweepCount (m inc : Nat) : Nat := min 65535 ((2 * m * 2 ^ 32 + inc) / (2 * max 1 inc))

end Sys2Proof.Machine
end

