-- ==== Sys2Proof/Machine/LoopBase.lean ====
section
/-! DEFINITION. What slots, generators and injectors share: sticky flags, states, releases, injectors, and a slot that
a trip opens (06_loop_engine, 07_loop_supervision). -/

namespace Sys2Proof.Machine

/-- LOOP_SLOTn_STAT: STATE codes. -/
def slIDLE : Nat := 0
def slOPEN : Nat := 1
def slCLOSED : Nat := 2
def slOBSERVER : Nat := 3
def slHOLD : Nat := 4
def slSAFE : Nat := 5

/-- A signed 32-bit reading of a field. -/
def State.geti (s : State) (f : Fld) : Int := sgn 32 (s.get f)

/-- A 32-bit field set to an integer's pattern. -/
def State.puti (s : State) (f : Fld) (v : Int) : State := s.put f (unsgn 32 v)

/-- A signed 64-bit reading of a _LO/_HI pair. -/
def State.geti64 (s : State) (f : Fld) : Int := sgn 64 (s.get64 f)

/-- A _LO/_HI pair set to an integer's pattern. -/
def State.puti64 (s : State) (f : Fld) (v : Int) : State := s.put64 f (unsgn 64 v)

/-- The interior of slot `n`. -/
def State.slot (s : State) (n : Nat) : SlotInt := tabGet {} s.loop.slots n

/-- The state with the interior of slot `n` set. -/
def State.setSlot (s : State) (n : Nat) (v : SlotInt) : State :=
  { s with loop := { s.loop with slots := tabSet {} s.loop.slots n v } }

/-- STATE of slot `n`. -/
def State.slotSt (s : State) (n : Nat) : Nat := s.get (F.LOOP_SLOT_STAT_STATE n)

/-- R29: a slot counts as running in CLOSED, OBSERVER, HOLD and SAFE. -/
def State.slotRuns (s : State) (n : Nat) : Bool := decide (2 ≤ s.slotSt n)

/-- The slots that ticks, trips and owners are looked for among. -/
def State.usedSlots (s : State) : List Nat := (s.loop.slots.filter (fun e => e.2.used)).map Prod.fst

/-- R137: slots 0-63 are class A. -/
def classA (n : Nat) : Bool := decide (n < 64)

/-- R166: LOOP_SUMk shows whether LOOP_STICKYn is not 0. -/
def State.refreshSum (s : State) (n : Nat) : State :=
  let f := F.LOOP_SUM_ANY (n / 32)
  s.put f (putBit (s.get f) (n % 32) (decide (s.word (0x20072000 + 4 * n) ≠ 0)))

/-- R166: bits `m` of LOOP_STICKYn are set; a bit that goes from 0 to 1 sets SLOT_FLAG. -/
def State.slotFlags (s : State) (n m : Nat) : State :=
  let a := 0x20072000 + 4 * n
  let old := (s.word a).toNat
  let new := Nat.lor old m
  let s0 := if Nat.land m 0x1E = 0 then s else { s with loop := { s.loop with satNow := true } }
  if new = old then s0 else ((s0.setWord a (Word.of new)).refreshSum n).raise bLOOP 8

/-- One bit of LOOP_STICKYn is set when a condition holds. -/
def State.slotFlagIf (s : State) (n bit : Nat) (c : Bool) : State := if c then s.slotFlags n (2 ^ bit) else s

/-- LOOP_STICKYn bits (R166, R190). -/
def sbSAT_ACC : Nat := 1
def sbSAT_STATE : Nat := 2
def sbSAT_OUT : Nat := 3
def sbSAT_RATE : Nat := 4
def sbLATE : Nat := 5
def sbTGT_TRIP : Nat := 6
def sbREFUSED : Nat := 7
def sbSTALE : Nat := 16
def sbFROZEN : Nat := 17
def sbRANGE : Nat := 18
def sbRATE : Nat := 19
def sbHELD : Nat := 20
def sbRIDE : Nat := 21
def sbRIDE_END : Nat := 22
def sbSV_SAFE : Nat := 23
def sbSV_TRIP : Nat := 24
def sbINJ_DONE : Nat := 25
def sbINJ_ABORT : Nat := 26

/-- R139: a late sample of slot `n` is counted. -/
def State.lateSample (s : State) (n : Nat) : State :=
  (s.incSat (F.LOOP_SLOT_STAT_LATE_COUNT n)).slotFlags n (2 ^ sbLATE)

/-- The interior of injector `i`. -/
def State.injI (s : State) (i : Nat) : InjInt := tabGet {} s.loop.inj i

/-- The state with the interior of injector `i` set. -/
def State.setInj (s : State) (i : Nat) (v : InjInt) : State :=
  { s with loop := { s.loop with inj := tabSet {} s.loop.inj i v } }

/-- R185: the injector that runs on slot `n`. -/
def State.injOf (s : State) (n : Nat) : Option Nat :=
  (List.range 4).find? (fun i => s.on (F.INJ_BUSY i) && decide (s.get (F.INJ_SLOT i) = n))

/-- R186: the entry of a finished or stopped sweep point: INC, gain as two binary32, COUNT and SAT. The gain
of amplitude 0 is a quotient by 0, so a free value. -/
def State.sweepEntry (s : State) (i : Nat) : List Nat :=
  let amp := s.geti (F.INJ_AMP i)
  let cnt := s.get (F.INJ_DONE_CNT i)
  let g (f : Fld) (k : Nat) : Nat :=
    if amp = 0 then Config.freeNat (s.free + k) % 2 ^ 32
    else binary32 (2 * s.geti64 f * (if amp < 0 then -1 else 1)) (cnt * amp.natAbs)
  [s.get (F.INJ_INC i), g (F.INJ_SUM_S_LO i) 0, g (F.INJ_SUM_C_LO i) 1, cnt * 2 ^ 16 + s.get (F.INJ_SAT i)]

/-- R192: the result words of a step or a sweep that has ended. -/
def State.injResult (s : State) (i : Nat) : List Nat :=
  let w := s.get (F.INJ_CAUSE i) * 2 ^ 12 + s.get (F.INJ_ABORT i) * 2 ^ 10
  if s.get (F.INJ_MODE i) = 1 then
    let n := s.get (F.INJ_DONE_CNT i)
    [w, n, s.get (F.INJ_FIRST_TS_LO i), s.get (F.INJ_FIRST_TS_HI i)] ++ (List.range n).map (fun k => s.get (F.INJ_BUF i k))
  else
    let e := s.injI i
    [w + e.results.length / 4, e.points, 0, 0] ++ e.results

/-- R187, R188: the injection of injector `i` has ended: BUSY clears, the flag is set, the final reply is posted. -/
def State.endInj (s : State) (i : Nat) : State :=
  let n := s.get (F.INJ_SLOT i)
  let s1 := ((s.put (F.INJ_BUSY i) 0).put (F.INJ_GO i) 0).slotFlags n (2 ^ sbINJ_DONE)
  match (s1.injI i).pkt with
  | none => s1.setInj i {}
  | some p => (s1.doneRes p (s1.injResult i)).setInj i {}

/-- R188: the injection on slot `n`, if any, is aborted: 1 state change, 2 supervision, 3 command, 4 host stop. -/
def State.abortInj (s : State) (n cause : Nat) : State :=
  match s.injOf n with
  | none => s
  | some i =>
    let s1 := ((s.put (F.INJ_ABORT i) 1).put (F.INJ_CAUSE i) cause).slotFlags n (2 ^ sbINJ_ABORT)
    s1.endInj i

/-- R170, R182: a slot that leaves IDLE starts its counts anew (DEDUCED from `consecutive` and `since it left IDLE`);
R166: LATE_COUNT clears. -/
def State.leaveIdle (s : State) (n : Nat) : State :=
  let s1 := ((s.put (F.LOOP_SLOT_STAT_LATE_COUNT n) 0).setWord (F.SLOT_MISS_CNT n).addr 0).setWord (F.SLOT_HOLD_LEFT n).addr 0
  let s2 := ((s1.setWord (F.SLOT_FRZ_REF n).addr 0).setWord (F.SLOT_FRZ_UREF n).addr 0).setWord (F.SLOT_FB_LAST n).addr 0
  s2.setSlot n { s2.slot n with anyFresh := false, posLast := 0 }

/-- R156: slot `n` takes state `st`; R188: an injection on it is aborted with the cause given. A manual value that waits (LOOP_MANUAL) and
an injector's part of the output of OPEN end with the state. -/
def State.setSlotSt (s : State) (n st cause : Nat) : State :=
  let old := s.slotSt n
  if old = st then s
  else
    let s1 := s.abortInj n cause
    let s2 := if old = slIDLE then s1.leaveIdle n else s1
    let s3 := s2.put (F.LOOP_SLOT_STAT_STATE n) st
    s3.setSlot n { s3.slot n with riding := false, ramping := false, manualNext := none, manualCyc := none, openInj := 0 }

/-- R158, R166: PEND shows the oldest request that waits. -/
def State.refreshPend (s : State) (n : Nat) : State :=
  s.put (F.LOOP_SLOT_STAT_PEND n) (match (s.slot n).reqs with | [] => 0 | r :: _ => r.kind)

/-- R158, R166: a request is answered: a command by its reply, a REQ write that is refused by REQ_REFUSED; R431: TIME of a
mirrored command is the start of its application cycle. -/
def State.answerReq (s : State) (n : Nat) (r : SlotReq) (st : Nat) : State :=
  match r.pkt with
  | some p => s.doneAt p st (match r.cyc with | some c => c.2 | none => s.now)
  | none => if st = stDONE ∨ st = stTIMEOUT then s else s.slotFlags n (2 ^ sbREFUSED)

/-- R154: the generator whose duty slot `n` writes. Whether a slot that names a tripped generator in TGT2_SEL of its model block counts as one
whose target it is (R209) the spec leaves open: TGT_SEL alone counts, a DESIGN CHOICE (log entry 142). -/
def State.slotGen (s : State) (n : Nat) : Option Nat :=
  let t := s.get (F.SLOT_CFG0_TGT_TYPE n)
  if 1 ≤ t ∧ t ≤ 3 then some (s.get (F.SLOT_TGT_SEL n) % 64) else none

/-- Word `o` of the model block of slot `n` and whether it uses one (R150). -/
def State.modelBase (s : State) (n : Nat) : Nat := 0x21020000 + 0x200 * (s.get (F.SLOT_MODEL n) % 32)
def State.modelEn (s : State) (n : Nat) : Bool := bitOf (s.get (F.SLOT_MODEL n)) 5
def State.mw (s : State) (n o : Nat) : Nat := (s.word (s.modelBase n + o)).toNat

/-- R435: the record of slot `n`. -/
def State.slotRec (s : State) (n : Nat) : List Nat :=
  let sticky := (s.word (F.LOOP_STICKY_SAT_ACC n).addr).toNat
  let base := [s.slotSt n + 8 * bits sticky 4 1, s.get (F.SLOT_UC n), s.get (F.SLOT_UOUT n)] ++
    (List.range 6).map (fun i => s.get (F.SLOT_S n i))
  if s.modelEn n then base ++ (List.range 6).map (fun i => s.mw n (0x170 + 4 * i)) else base

/-- R431: the input cycle of what acts on a slot now: a mirrored input's own, else the present one. -/
def State.inputCyc (s : State) : Nat := s.lash.inCyc.getD (s.get F.RING_CYCLE_NUM)

/-- R435: the digests of cycles above input cycle `c` reflect slot `n` as it stands now. -/
def State.redig (s : State) (n c : Nat) : State :=
  if s.lash.digs.all (fun d => cycleDue c d.k) then s
  else s.lashI (fun v => { v with digs := v.digs.map (fun d =>
    if cycleDue c d.k then d else { d with slots := d.slots.set n (s.slotRec n) }) })

/-- R156, R209: a trip, or the Sluice's safe state, opens slot `n`: its output is held. -/
def State.slotTrip (s : State) (n : Nat) (sto : Bool) : State :=
  let st := s.slotSt n
  if st = slCLOSED ∨ st = slOBSERVER ∨ st = slHOLD then
    let g := s.get (F.SLOT_TGT_SEL n) % 64
    (((s.setSlotSt n slOPEN 1).slotFlags n (2 ^ sbTGT_TRIP)).post 0x0711 n
      (b2n sto + g * 2 ^ 8 + s.get (F.PWM_GRP_STO_GRP g) * 2 ^ 16) 0).redig n s.inputCyc
  else s

/-- R139: the spacing of releases in CTL_CLK ticks: 990 ns for class A, 9.9 us for class B. -/
def releaseGap (n : Nat) : Nat := if classA n then 396 else 3960

/-- R139: a slot waits to issue. -/
def State.waiting (s : State) (n : Nat) : Bool := s.loop.q0.contains n || s.loop.q1.contains n

/-- R137, R139: slot `n` joins its pipeline. -/
def State.enqueueSlot (s : State) (n : Nat) : State :=
  if classA n then { s with loop := { s.loop with q0 := s.loop.q0 ++ [n] } }
  else { s with loop := { s.loop with q1 := s.loop.q1 ++ [n] } }

/-- R137: where slot `n` takes its feedback from, as FB_SRC codes it: a class-A slot has only ADC results and encoder latches. -/
def State.fbSrc (s : State) (n : Nat) : Nat :=
  let src := s.get (F.SLOT_CFG0_FB_SRC n)
  if classA n && decide (2 < src) then 7 else src

/-- R140: what ticks slot `n`, as TICK_SRC codes it: a class-A slot always its feedback. -/
def State.tickSrc (s : State) (n : Nat) : Nat := if classA n then 0 else s.get (F.SLOT_CFG0_TICK_SRC n)

/-- R440 phase 3: slot `n` is seeded, at input cycle `cyc`, with its state, its 256 bytes, its limit set and its model block. -/
def State.seedSlot (s : State) (n after cyc : Nat) : State :=
  let ws (a k : Nat) : List Word := (s.getWords a k).map Word.of
  s.seedTx n after cyc (.slot n cyc (s.get (F.LOOP_SLOT_STAT_STATE n)) (ws (F.SLOT_CFG0 n).addr 64) (ws (F.LOOP_OUT_MIN n).addr 4)
    (if s.modelEn n then ws (s.modelBase n) 128 else []))

/-- R150: FB2_SEL of the model block of slot `n` names an encoder. -/
def State.fb2Enc (s : State) (n : Nat) : Bool := s.modelEn n && (bits (s.mw n 8) 31 28 = 1 || bits (s.mw n 8) 31 28 = 2)

/-- R250: the count and the error bit of an encoder as they stand. -/
def State.encNow (s : State) (e : Nat) : Int × Bool := (s.geti64 (F.ENC_POS_LO e), s.on (F.ENC_ERR e))

/-- R150, R250: the encoder that FB2_SEL of slot `n` names is latched for it. -/
def State.latchFb2 (s : State) (n : Nat) : State := s.setSlot n { s.slot n with latch2 := some (s.encNow (s.mw n 8 % 16)) }

/-- R143, R250: a slot that reads an encoder latches it at its tick; one that FB2_SEL of a class-A slot names is latched at the sample
point of its generator. -/
def State.latchTick (s : State) (n : Nat) (stale : Bool) : State :=
  let s1 := if s.fb2Enc n && !classA n then s.latchFb2 n else s
  if !stale && (s.fbSrc n = 1 || s.fbSrc n = 2) then
    s1.setSlot n { s1.slot n with latch := some (s.encNow (s.get (F.SLOT_FB_SEL n) % 16)) }
  else s1

/-- R139, R171: a tick of slot `n`: merged with a waiting release, discarded when it comes too soon, or the slot is
released. An IDLE slot is released only for a waiting request. R431: the release has an input cycle. -/
def State.tickSlot (s : State) (n : Nat) (stale : Bool) : State :=
  let v := { s.slot n with inCyc := s.inputCyc }
  if s.slotSt n = slIDLE && v.reqs.isEmpty && v.safeReqs.isEmpty then s
  else if s.waiting n then ((s.setSlot n { v with stale := v.stale && stale }).latchTick n stale).lateSample n
  else if (match v.relAt with | some t => decide (s.time.tick < t + releaseGap n) | none => false) then s.lateSample n
  else ((s.setSlot n { v with relAt := some s.time.tick, stale := stale }).latchTick n stale).enqueueSlot n

/-- R154: the fields a target of type `t` and selection `sel` writes. -/
def tgtKeys (t sel : Nat) : List (Nat × Nat × Nat) :=
  match t with
  | 1 => [(1, sel % 64, 1)]
  | 2 => [(1, sel % 64, 2)]
  | 3 => [(1, sel % 64, 1), (1, sel % 64, 2)]
  | 4 => [(4, bits sel 8 0, bits sel 19 12)]
  | 5 => [(5, sel % 64, 0)]
  | 6 => [(6, sel % 512, 0)]
  | _ => []

/-- R154: the fields that slot `n` writes, TGT2 of its model block included. -/
def State.slotKeys (s : State) (n : Nat) : List (Nat × Nat × Nat) :=
  tgtKeys (s.get (F.SLOT_CFG0_TGT_TYPE n)) (s.get (F.SLOT_TGT_SEL n)) ++
  (if s.modelEn n && bits (s.mw n 0) 5 4 = 2 then tgtKeys (bits (s.mw n 0xC) 31 28) (bits (s.mw n 0xC) 27 0) else [])

/-- R154: a slot other than `n` that is not IDLE writes field `k`. -/
def State.ownedByOther (s : State) (n : Nat) (k : Nat × Nat × Nat) : Bool :=
  s.usedSlots.any (fun m => decide (m ≠ n) && decide (s.slotSt m ≠ slIDLE) && (s.slotKeys m).contains k)

/-- R154: some slot that is not IDLE writes field `k`. -/
def State.owned (s : State) (k : Nat × Nat × Nat) : Bool :=
  s.usedSlots.any (fun m => decide (s.slotSt m ≠ slIDLE) && (s.slotKeys m).contains k)

/-- R31: the commit of a unit ends: the packet that asked for it is answered. -/
def State.endCommit (s : State) (b u st t : Nat) : State :=
  let ps := (s.commits.filter (fun c => c.base = b && c.unit = u)).filterMap Commit.pkt
  ps.foldl (fun (x : State) p => x.doneAt p st t) (s.dropCommit b u)

/-- R31: a commit of unit `u` is asked for; it waits for the unit's safe point. -/
def State.askCommit (s : State) (b u : Nat) (p : Option Pkt) : State :=
  let c : Commit := { base := b, unit := u, since := s.time.tick, pkt := p }
  { s with commits := s.commits ++ [c] }.refreshCmtPend b

/-- R32: whether a commit is pending in the block at base `b`. -/
def State.cmtPending (s : State) (b : Nat) : Bool := s.commits.any (fun c => c.base = b)

/-- R135, R214: core code holds a commit pending in the block at base `b`. -/
def State.keyPending (s : State) (b : Nat) : Bool := s.commits.any (fun c => c.base = b && c.pkt.isNone)

/-- R401: channel `k` is in safe state in OFF, READY and LOCKED, and in every Sluice state other than ARMED. -/
def State.stoSafe (s : State) (k : Nat) : Bool :=
  s.get F.STO_BLK_STAT_STATE ≠ 2 || (s.get (F.STO_CH_STATE k) ≠ 2 && s.get (F.STO_CH_STATE k) ≠ 3)

/-- R206, R214: group `k` of a generator or an axis is one of channels 0-11 and is in safe state. -/
def State.groupSafe (s : State) (k : Nat) : Bool := decide (k < 12) && s.stoSafe k

/-- R430: the STO group that a slot or an axis asks for: on the STANDBY as the ACTIVE has told. -/
def State.unitSafe (s : State) (k : Nat) : Bool :=
  if s.lashSt = lsSTANDBY then decide (k < 12) && bitOf s.lash.sto k else s.groupSafe k

/-- R430: the ACTIVE tells which STO groups changed since `old`. -/
def State.mirSto (s old : State) : State :=
  if s.mirrors then (List.range 12).foldl (fun (t : State) k =>
    if old.stoSafe k = s.stoSafe k then t else t.mirInput (.sto k (s.stoSafe k))) s
  else s

end Sys2Proof.Machine
end

