-- ==== Sys2Proof/Machine/Pwm.lean ====
section
/-! DEFINITION. Pulse-width outputs: shadows, trips, stops, commands (08_pwm). The alignment of generators and the
sample point, which reach into other blocks, stand in PwmSync.lean. -/

namespace Sys2Proof.Machine

/-- The interior of generator `g`. -/
def State.gen (s : State) (g : Nat) : PwmGen := tabGet {} s.pwm.gens g

/-- The state with the interior of generator `g` set. -/
def State.setGen (s : State) (g : Nat) (v : PwmGen) : State :=
  { s with pwm := { s.pwm with gens := tabSet {} s.pwm.gens g v } }

/-- R199: a generator runs while RUN is 1. -/
def State.genRuns (s : State) (g : Nat) : Bool := s.on (F.PWM_STAT_RUN g)

/-- R200: active copy of shadow field `f`: PERIOD, DUTYA, DUTYB, PHASE, DEAD. -/
def actFld (g f : Nat) : Fld :=
  match f with
  | 0 => F.PWM_PERIOD g
  | 1 => F.PWM_DUTYA g
  | 2 => F.PWM_DUTYB g
  | 3 => F.PWM_PHASE g
  | _ => F.PWM_DEAD g

/-- R200: shadow of field `f`. -/
def shFld (g f : Nat) : Fld :=
  match f with
  | 0 => F.PWM_SH_PERIOD g
  | 1 => F.PWM_SH_DUTYA g
  | 2 => F.PWM_SH_DUTYB g
  | 3 => F.PWM_SH_PHASE g
  | _ => F.PWM_SH_DEAD g

/-- R193: the length of a period of generator `g` in ticks; in up-down mode bit 0 of PERIOD is taken as 0. -/
def State.ticks (s : State) (g : Nat) : Nat :=
  let per := s.get (F.PWM_PERIOD g)
  if s.on (F.PWM_CFG_MODE g) then per - per % 2 else per

/-- R193: the position that generator `g` has counted to at tick `k`; a boundary that is due and not yet made counts on. -/
def State.posAt (s : State) (g k : Nat) : Nat :=
  let v := s.gen g
  if s.genRuns g then v.pos + (k - v.posTick) else v.pos

/-- R193: PWMn_POS of generator `g`. -/
def State.genPos (s : State) (g : Nat) : Nat := s.posAt g s.time.tick % max 1 (s.ticks g)

/-- R193: the counter value at position `p`: in up-down mode it counts up to PERIOD / 2 and down again. -/
def State.counterAt (s : State) (g p : Nat) : Nat :=
  if s.on (F.PWM_CFG_MODE g) && decide (s.ticks g / 2 < p) then s.ticks g - p else p

/-- R193: the tick at which generator `g` reaches position `p` of the present period. -/
def State.tickOf (s : State) (g p : Nat) : Nat := (s.gen g).posTick + p - (s.gen g).pos

/-- R193: the tick of the next boundary of generator `g`. -/
def State.dueTick (s : State) (g : Nat) : Nat := s.tickOf g (s.ticks g)

/-- R193: generator `g` stands at position `p` at tick `k`. -/
def State.setPos (s : State) (g p k : Nat) : State := s.setGen g { s.gen g with pos := p, posTick := k }

/-- R200, R203: what stands before a write at tick `k` to field `f` of a running generator, or with 5 to LOADNOW, is noted: the
next boundary does not count the write if it falls less than 2 ticks after it. -/
def State.noteShadow (s : State) (g f k : Nat) : State :=
  if !s.genRuns g then s
  else
    let v := s.gen g
    let e : ShadowOld := { field := f, tick := k,
                           old := if f = 5 then s.get (F.PWM_CTRL_LOADNOW g) else s.get (shFld g f),
                           written := bitOf (s.get (F.PWM_SHDW_STAT_WRITTEN g)) f }
    s.setGen g { v with late := v.late.filter (fun o => decide (s.time.tick < o.tick + 2)) ++ [e] }

/-- A write to shadow field `f` that counts for the boundaries from tick `k` + 2 on. -/
def State.shadowAt (s : State) (g f v k : Nat) : State :=
  let w := F.PWM_SHDW_STAT_WRITTEN g
  let t := s.noteShadow g f k
  (t.put (shFld g f) v).put w (putBit (s.get w) f true)

/-- R200, R204: a write to shadow field `f`; PERIOD below 8 is ignored and sets CFG_REJECT. -/
def State.shadowWrite (s : State) (g f v : Nat) : State :=
  if f = 0 && v % 2 ^ 24 < 8 then s.reject bPWM else s.shadowAt g f v s.time.tick

/-- R203: LOADNOW of generator `g` is set. -/
def State.setLoadnow (s : State) (g : Nat) : State := (s.noteShadow g 5 s.time.tick).put (F.PWM_CTRL_LOADNOW g) 1

/-- R200: a write after the cut-off is taken back for the boundary that it missed. -/
def State.undoShadow (g : Nat) (e : ShadowOld) (s : State) : State :=
  let w := F.PWM_SHDW_STAT_WRITTEN g
  if e.field = 5 then s.put (F.PWM_CTRL_LOADNOW g) e.old
  else (s.put (shFld g e.field) e.old).put w (putBit (s.get w) e.field e.written)

/-- R200: it stands again after that boundary; `now` is the state before it. -/
def State.redoShadow (now : State) (g : Nat) (s : State) (e : ShadowOld) : State :=
  let w := F.PWM_SHDW_STAT_WRITTEN g
  if e.field = 5 then s.put (F.PWM_CTRL_LOADNOW g) 1
  else (s.put (shFld g e.field) (now.get (shFld g e.field))).put w (putBit (s.get w) e.field true)

/-- R201: one field transfers. -/
def State.transfer (s : State) (g f : Nat) : State :=
  let w := F.PWM_SHDW_STAT_WRITTEN g
  (s.put (actFld g f) (s.get (shFld g f))).put w (putBit (s.get w) f false)

/-- Every field of a list that is written transfers. -/
def State.transferWritten (s : State) (g : Nat) (fs : List Nat) : State :=
  fs.foldl (fun t f => if bitOf (t.get (F.PWM_SHDW_STAT_WRITTEN g)) f then t.transfer g f else t) s

/-- R201: LOADMASK in force; in complementary mode the DUTYB bit counts as 0. -/
def State.loadMask (s : State) (g : Nat) : Nat :=
  let m := s.get (F.PWM_CFG_LOADMASK g)
  if s.on (F.PWM_CFG_OUTMODE g) then putBit m 2 false else m

/-- R202: a masked set was left incomplete at a boundary. -/
def State.staleCount (s : State) (g : Nat) : State :=
  let s1 := s.incSat (F.PWM_STAT_STALE_CNT g)
  if s1.get (F.PWM_STAT_STALE_CNT g) = 256 then
    let s2 := (s1.put (F.PWM_STAT_SHADOW_STALE g) 1).raise bPWM 8
    let last := (s2.gen g).staleRec
    if last = 0 ∨ last - 1 + 1000000000 ≤ s2.now then
      (s2.setGen g { s2.gen g with staleRec := s2.now + 1 }).post 0x0610 g (s2.get (F.PWM_STAT_STALE_CNT g)) 0
    else s2
  else s1

/-- R201-R203: the shadow test at a boundary. -/
def State.shadowTest (s : State) (g : Nat) : State :=
  let w := s.get (F.PWM_SHDW_STAT_WRITTEN g)
  let m := s.loadMask g
  let all := [0, 1, 2, 3, 4]
  let full := decide (Nat.land w m = m)
  let anyMasked := Nat.land w m != 0
  if s.on (F.PWM_CTRL_LOADNOW g) || full then
    let s1 := (s.transferWritten g all).put (F.PWM_CTRL_LOADNOW g) 0
    if anyMasked then s1.put (F.PWM_STAT_STALE_CNT g) 0 else s1
  else
    let s1 := s.transferWritten g (all.filter (fun f => !bitOf m f))
    if anyMasked then s1.staleCount g else s1

/-- R205: the active level code of an output: 1 high, 0 low. -/
def activeLevel (pol : Nat) : Nat := if pol = 0 then 1 else 0

/-- R205: words CFG and LVL that are not committed. -/
def pwmSetBad (cfg lvl : Nat) : Bool :=
  bits lvl 7 6 = 3 || bits lvl 5 4 = 3 || bits lvl 3 2 = 3 || bits lvl 1 0 = 3 || bits cfg 5 4 = 3 ||
  decide (48 ≤ bits cfg 13 8) ||
  (bitOf cfg 1 &&
    ((bits lvl 5 4 = activeLevel (bits cfg 2 2) && bits lvl 7 6 = activeLevel (bits cfg 3 3)) ||
     (bits lvl 1 0 = activeLevel (bits cfg 2 2) && bits lvl 3 2 = activeLevel (bits cfg 3 3))))

/-- R214: the staged words of generator `g`. -/
def pwmStaged (g : Nat) : List Fld :=
  [F.PWM_CFG_LOADMASK g, F.PWM_CFG_SYNC_SEL g, F.PWM_CFG_SYNC g, F.PWM_CFG_POLB g, F.PWM_CFG_POLA g,
   F.PWM_CFG_OUTMODE g, F.PWM_CFG_MODE g, F.PWM_LEAD_LEAD g, F.PWM_LVL_TRIP_LVLB g, F.PWM_LVL_TRIP_LVLA g,
   F.PWM_LVL_DIS_LVLB g, F.PWM_LVL_DIS_LVLA g, F.PWM_TRIPSEL_PIN_SVTRIP g, F.PWM_TRIPSEL_PIN_PIN g,
   F.PWM_TRIPSEL_WIN_WTRIP g]

/-- R206: trip causes, by their bit of PWMn_STAT. -/
def tcPIN : Nat := 10
def tcWIN : Nat := 11
def tcSV : Nat := 12
def tcSTO : Nat := 13
def tcDBG : Nat := 14
def tcCLK : Nat := 15

/-- R206, R208, R209: the trip latch of generator `g` is set by a source; every slot that drives it opens. -/
def State.trip (s : State) (g cause : Nat) : State :=
  let s1 := ((s.put (F.PWM_STAT_TRIPPED g) 1).put ⟨(F.PWM_STAT_RUN g).addr, cause, cause⟩ 1).raise bPWM 10
  let ns := s1.usedSlots.filter (fun n => s1.slotGen n = some g)
  if s1.lashSt = lsSTANDBY || ns.isEmpty then s1
  else ns.foldl (fun t n => t.slotTrip n (cause = tcSTO)) (s1.mirInput (.trip g (cause = tcSTO)))

/-- R206: the causes among a generator's selected sources that are asserted. -/
def State.tripSources (s : State) (g : Nat) : List Nat :=
  (if Nat.land (s.get (F.PWM_TRIPSEL_PIN_PIN g)) (s.get F.PWM_TRIP_STAT_PIN) != 0 then [tcPIN] else []) ++
  (if Nat.land (s.get (F.PWM_TRIPSEL_WIN_WTRIP g)) (s.get F.PWM_WTRIP_STAT_WTRIP) != 0 then [tcWIN] else []) ++
  (if Nat.land (s.get (F.PWM_TRIPSEL_PIN_SVTRIP g)) (s.get F.PWM_TRIP_STAT_SVTRIP) != 0 then [tcSV] else []) ++
  (if s.groupSafe (s.get (F.PWM_GRP_STO_GRP g)) then [tcSTO] else []) ++
  (if s.on (F.PWM_GRP_DBG_EN g) && bitOf s.pwm.halted (s.get (F.PWM_GRP_DBG_CORE g)) then [tcDBG] else []) ++
  (if s.pwm.clkTrip then [tcCLK] else [])

/-- R206: every asserted selected source of generator `g` sets its latch. -/
def State.applyTrips (s : State) (g : Nat) : State := (s.tripSources g).foldl (fun t c => t.trip g c) s

/-- R206: every generator that selects an asserted source is tripped. -/
def State.applyAllTrips (s : State) : State := (List.range 48).foldl State.applyTrips s

/-- R205, R206: the commit of generator `g` at its safe point, at device time `t`: refused with CFG_REJECT, or all staged words at
once. -/
def State.commitPwm (s : State) (g t : Nat) : State :=
  let w (k : Nat) : Nat := (s.word ((F.PWM_CFG_MODE g).addr + 0x800 + k)).toNat
  if pwmSetBad (w 0) (w 8) then (s.reject bPWM).endCommit bPWM g stBAD_PARAM t
  else ((s.activateAll (pwmStaged g)).endCommit bPWM g stDONE t).applyTrips g

/-- R33: the generator of a commit that waits has a boundary to come within its 1 ms. -/
def State.genReach (s : State) (c : Commit) : Bool :=
  s.genRuns c.unit && decide (c.since ≤ s.dueTick c.unit) && decide (s.dueTick c.unit ≤ c.since + commitTicks)

/-- R196: ticks from the acquisition start of core `c` to the sample point. -/
def State.acqTicks (s : State) (c : Nat) : Nat := 2 * (16 + s.get (F.ADC_SEQ_ACQ_EXT c 0))

/-- R196: the position at which core `c` starts acquisition for generator `g`. -/
def State.acqPos (s : State) (g c : Nat) : Nat := s.ticks g - s.get (F.PWM_LEAD_LEAD g) - s.acqTicks c

/-- R197: the position a sync event loads. -/
def State.syncPos (s : State) (g : Nat) : Nat :=
  let per := max 1 (s.ticks g)
  (per - s.get (F.PWM_PHASE g) % per) % per

/-- R199: a stop of generator `g`. -/
def State.stopGen (s : State) (g : Nat) : State :=
  let s1 := s.put (F.PWM_CTRL_EN g) 0
  if s1.genRuns g then s1.put (F.PWM_STAT_STOPPING g) 1 else s1

/-- R210: whether any selected source of generator `g` is active. -/
def State.tripActive (s : State) (g : Nat) : Bool := !(s.tripSources g).isEmpty

/-- R210: an accepted clear: the outputs keep their trip levels until the next boundary; a stopped generator drives
DIS levels at once. -/
def State.clearTrip (s : State) (g : Nat) : State :=
  let s1 := (s.put (F.PWM_STAT_TRIPPED g) 0).put ⟨(F.PWM_STAT_RUN g).addr, 15, 10⟩ 0
  s1.setGen g { s1.gen g with held := s1.genRuns g }

/-- R210: a clear is refused while a selected source is active. -/
def State.refuseClear (s : State) (g : Nat) : State := (s.put (F.PWM_STAT_TRIP_CLR_REFUSED g) 1).raise bPWM 9

/-- R50, R199, R208, R210: what the outputs of a generator are driven by. -/
inductive PwmDrive where
  | preArm
  | tripLevels (a b : Nat)
  | disLevels (a b : Nat)
  | waveform
  deriving DecidableEq, Repr

/-- R50, R199, R208, R210: what drives outputs A and B of generator `g`. -/
def State.pwmDrive (s : State) (g : Nat) : PwmDrive :=
  if !s.on F.SYS_ARM_OUTEN then .preArm
  else if s.on (F.PWM_STAT_TRIPPED g) || (s.gen g).held then
    .tripLevels (s.get (F.PWM_LVL_TRIP_LVLA g)) (s.get (F.PWM_LVL_TRIP_LVLB g))
  else if s.genRuns g then .waveform
  else .disLevels (s.get (F.PWM_LVL_DIS_LVLA g)) (s.get (F.PWM_LVL_DIS_LVLB g))

/-- R194: the ideal waveform of duty `d` at position `x` in a period of `dfs`, all in 1/32 tick from the boundary. -/
def idealS (updown : Bool) (dfs d x : Nat) : Bool :=
  if d = 0 then false
  else if dfs ≤ d then true
  else if updown then decide ((dfs - d) / 2 ≤ x) && decide (x < (dfs - d) / 2 + d)
  else decide (x < d)

/-- R194: where in the period the waveform of duty `d` turns active; inactive `d` later. -/
def idealRise (updown : Bool) (dfs d : Nat) : Nat := if updown then (dfs - d) / 2 else 0

/-- R194, R195: the waveform of output A, or B with `b`, of generator `g` before dead time is active at position `x`, in 1/32
tick: in complementary mode B is the inverse of A. -/
def State.idealAct (s : State) (g : Nat) (b : Bool) (x : Nat) : Bool :=
  let up := s.on (F.PWM_CFG_MODE g)
  let dfs := 32 * s.ticks g
  let da := s.get (F.PWM_DUTYA g)
  if !s.on (F.PWM_CFG_OUTMODE g) then idealS up dfs (if b then s.get (F.PWM_DUTYB g) else da) x
  else idealS up dfs da x != b

/-- R194, R195: where the active interval of output A, or B with `b`, that holds position `x` begins, in 1/32 tick; 0 also where it
reaches back over the boundary. -/
def State.idealBegin (s : State) (g : Nat) (b : Bool) (x : Nat) : Nat :=
  let dfs := 32 * s.ticks g
  let da := s.get (if b && !s.on (F.PWM_CFG_OUTMODE g) then F.PWM_DUTYB g else F.PWM_DUTYA g)
  let r := idealRise (s.on (F.PWM_CFG_MODE g)) dfs da
  if b && s.on (F.PWM_CFG_OUTMODE g) then (if da = 0 || decide (x < r) then 0 else r + da) else (if dfs ≤ da then 0 else r)

/-- R195: the instant, in 1/32 tick of CTL_CLK, at which the active interval that holds position `x` began: in the part of a period
since the last boundary or jump as the waveform has it, and before that as it was noted there. -/
def State.activeSince (s : State) (g : Nat) (b : Bool) (x : Nat) : Nat :=
  let v := s.gen g
  let i := s.idealBegin g b x
  if i ≤ 32 * v.pos then (if b then v.beganB else v.beganA) else 32 * v.posTick + i - 32 * v.pos

/-- R195: output A, or B with `b`, of generator `g` is at its active level at position `x`, in 1/32 tick, at or after the last
boundary or jump: an active interval of a complementary output begins DEAD ticks late. An output that was active already when this part
of the period began stays so as long as the interval goes on. -/
def State.pwmActive (s : State) (g : Nat) (b : Bool) (x : Nat) : Bool :=
  let v := s.gen g
  s.idealAct g b x &&
  (!s.on (F.PWM_CFG_OUTMODE g) || (decide (s.idealBegin g b x ≤ 32 * v.pos) && (if b then v.onB else v.onA)) ||
    decide (s.activeSince g b x + 32 * s.get (F.PWM_DEAD g) ≤ 32 * v.posTick + x - 32 * v.pos))

/-- R205: the level of a code of PWMn_LVL: none is high-impedance. -/
def levelOf (code : Nat) : Option Bool := if code = 0 then some false else if code = 1 then some true else none

/-- R50, R194, R195, R208: the level that output A, or B with `b`, of generator `g` drives at position `x`, in 1/32 tick;
none is high-impedance. -/
def State.pwmLevel (s : State) (g : Nat) (b : Bool) (x : Nat) : Option Bool :=
  match s.pwmDrive g with
  | .preArm => none
  | .tripLevels la lb => levelOf (if b then lb else la)
  | .disLevels la lb => levelOf (if b then lb else la)
  | .waveform => some (s.pwmActive g b x != s.on (if b then F.PWM_CFG_POLB g else F.PWM_CFG_POLA g))

/-- R195: the last position of a part of a period that ends at `x`, in 1/32 tick. -/
def State.lastPos (s : State) (g x : Nat) : Nat := if 32 * (s.gen g).pos < x then x - 1 else x

/-- R195, R210: where output A, or B with `b`, of generator `g` has been active since, for a new part of a period that begins at tick
`k`, where `x` is the position, in 1/32 tick, that the part before it ends at: an interval that goes on keeps its beginning; one
that a changed setting, a jump or a release begins, begins at the tick. -/
def State.beganAt (s : State) (g : Nat) (b : Bool) (x k : Nat) : Nat :=
  let y := s.lastPos g x
  if s.pwmDrive g = .waveform && s.idealAct g b y then s.activeSince g b y else 32 * k

/-- R195: output A, or B with `b`, of generator `g` is at its active level when a part of a period ends at position `x`. -/
def State.endsActive (s : State) (g : Nat) (b : Bool) (x : Nat) : Bool := s.pwmDrive g = .waveform && s.pwmActive g b (s.lastPos g x)

/-- R193, R195: a part of a period of generator `g` begins at tick `k` with position `p`; `before` is the state until then, whose
last part ends at position `x`, in 1/32 tick. -/
def State.newPart (s before : State) (g p x k : Nat) : State :=
  s.setGen g { s.gen g with pos := p, posTick := k, beganA := before.beganAt g false x k, beganB := before.beganAt g true x k,
                            onA := before.endsActive g false x, onB := before.endsActive g true x }

/-- R75, R199: generator `g` stops no longer, at device time `t`: the PWM_ENABLE packets that wait for it alone are answered. -/
def State.stopEnds (s : State) (g t : Nat) : State :=
  let l := s.pwm.stops.map (fun e => (e.1, putBit e.2 g false))
  (l.filter (fun e => e.2 = 0)).foldl (fun (u : State) e => u.doneAt e.1 stDONE t)
    { s with pwm := { s.pwm with stops := l.filter (fun e => e.2 ≠ 0) } }

/-- R199, R201, R203, R210: what a period boundary on tick `k` does at generator `g` itself. -/
def State.boundaryCore (s : State) (g k : Nat) : State :=
  let s1 := s.safePoint bPWM g 0 k s.genReach (fun t => t.commitPwm g (t.timeAt k))
  let late := (s1.gen g).late.filter (fun e => decide (k < e.tick + 2))
  let s2 := (late.foldr (State.undoShadow g) s1).shadowTest g
  let s3 := late.foldl (State.redoShadow s1 g) s2
  let s4 := (s3.setGen g { s3.gen g with late := [], missed := 0, spGone := false, held := false }).newPart s g 0 (32 * s.posAt g k) k
  let s5 := if s4.on (F.PWM_STAT_STOPPING g) then
      ((s4.put (F.PWM_STAT_RUN g) 0).put (F.PWM_STAT_STOPPING g) 0).stopEnds g (s4.timeAt k) else s4
  s5.pulse (40 + g)

/-- R198, R199: a start of generator `g`: it cancels a stop, is refused while tripped, or starts the counter on the next tick, after
every written field has transferred. -/
def State.startGen (s : State) (g : Nat) : State :=
  if s.on (F.PWM_STAT_STOPPING g) then ((s.put (F.PWM_STAT_STOPPING g) 0).put (F.PWM_CTRL_EN g) 1).stopEnds g s.now
  else if s.genRuns g then s.put (F.PWM_CTRL_EN g) 1
  else if s.on (F.PWM_STAT_TRIPPED g) then s.reject bPWM
  else
    let s1 := (s.transferWritten g [0, 1, 2, 3, 4]).put (F.PWM_STAT_STALE_CNT g)
      (if Nat.land (s.get (F.PWM_SHDW_STAT_WRITTEN g)) (s.loadMask g) != 0 then 0 else s.get (F.PWM_STAT_STALE_CNT g))
    let s2 := (s1.put (F.PWM_CTRL_EN g) 1).put (F.PWM_STAT_RUN g) 1
    let p := s1.syncPos g
    (s2.setGen g { s2.gen g with
        held := false, late := [], spGone := decide (s1.ticks g - s1.get (F.PWM_LEAD_LEAD g) < p),
        missed := (List.range 8).foldl (fun (m : Nat) c => putBit m c (decide (s1.acqPos g c < p))) 0 }).newPart s g p 0 (s.time.tick + 1)

/-- R203: LOADNOW of a generator. -/
def execLoadnow (g : Nat) (s : State) : Out := .next (if g < 48 then s.setLoadnow g else s)

/-- R210: a write to TRIP_CLR. -/
def State.tripClr (s : State) (g : Nat) : State :=
  if !s.on (F.PWM_STAT_TRIPPED g) then s else if s.tripActive g then s.refuseClear g else s.clearTrip g

/-- R210: a write to TRIP_CLR. -/
def execTripClr (g : Nat) (s : State) : Out := .next (if g < 48 then s.tripClr g else s)

/-- R206, R207: pin TRIPk takes its filtered level. -/
def State.tripPin (s : State) (k : Nat) (b : Bool) : State :=
  (s.put F.PWM_TRIP_STAT_PIN (putBit (s.get F.PWM_TRIP_STAT_PIN) k b)).line (232 + k) b

/-- R207: pin TRIPk has shown one level on `samples` ticks in a row: its filter lets it through from FILTER + 1 on. -/
def State.pinPasses (s : State) (k samples : Nat) : Bool := decide (k < 16) && decide (s.get (F.PWM_TRIPPIN_FILTER k) < samples)

/-- R207: a trip pin shows its active level on `samples` ticks in a row. -/
def execTripPinAssert (k samples : Nat) (s : State) : Out :=
  .next (if s.pinPasses k samples then (s.tripPin k true).applyAllTrips else s)

/-- R207: a trip pin shows its other level on `samples` ticks in a row. -/
def execTripPinDeassert (k samples : Nat) (s : State) : Out := .next (if s.pinPasses k samples then s.tripPin k false else s)

/-- R211: a core halts in debug mode, which takes an unlock (R465). -/
def execCoreDebugHalt (c : Nat) (s : State) : Out :=
  .next (if c < 8 && decide (s.get F.SEC_BLK_STAT_DBG_LEVEL ≠ 0) then { s with pwm := { s.pwm with halted := putBit s.pwm.halted c true } }.applyAllTrips else s)

/-- R211: the core resumes. -/
def execCoreDebugResume (c : Nat) (s : State) : Out :=
  .next (if c < 8 then { s with pwm := { s.pwm with halted := putBit s.pwm.halted c false } } else s)

/-- R181: SVTRIP lines: asserted while any slot whose TRIP_GRP names one has SV_TRIP set. -/
def State.refreshSv (s : State) : State :=
  let m := s.usedSlots.foldl (fun m n =>
    if s.on (F.LOOP_STICKY_SV_TRIP n) then putBit m (s.get (F.SLOT_SUPV_TRIP_GRP n)) true else m) 0
  let old := s.get F.PWM_TRIP_STAT_SVTRIP
  let s1 := s.put F.PWM_TRIP_STAT_SVTRIP m
  let s2 := (List.range 8).foldl (fun t k => if bitOf old k = bitOf m k then t else t.line (248 + k) (bitOf m k)) s1
  if Nat.land m (255 - old) != 0 then s2.applyAllTrips else s2

/-- R132: window line `k`. -/
def State.winLine (s : State) (k : Nat) (b : Bool) : State :=
  let s1 := s.put F.PWM_WTRIP_STAT_WTRIP (putBit (s.get F.PWM_WTRIP_STAT_WTRIP) k b)
  if b then s1.applyAllTrips else s1

/-- R207: a write to POL or FILTER restarts the pin's filter: it counts as deasserted. -/
def State.setTripPin (s : State) (k v : Nat) : State := (s.setWord (F.PWM_TRIPPIN_POL k).addr (Word.of (v % 512))).tripPin k false

/-- R213: POL and FILTER are run-locked while any running generator selects the pin. -/
def State.pinLocked (s : State) (k : Nat) : Bool :=
  (List.range 48).any (fun g => s.genRuns g && bitOf (s.get (F.PWM_TRIPSEL_PIN_PIN g)) k)

/-- R206, R212: PWMn_GRP takes a value; sources it newly selects act at once. -/
def State.setGrp (s : State) (g v : Nat) : State :=
  (s.setWord (F.PWM_GRP_DBG_EN g).addr (Word.of (Nat.land v 0xF0F))).applyTrips g

/-- R212, R214: PWMn_GRP of a generator may not change while it runs or while the Sluice is armed. -/
def State.grpLocked (s : State) (g : Nat) : Bool := s.genRuns g || s.on F.PWM_BLK_STAT_SLUICE_ARMED

/-- R214: the five staged words of PWM_CONFIG go to staging. -/
def State.stagePwm (s : State) (g : Nat) (p : Pkt) : State :=
  (List.range 5).foldl (fun t i => t.setWord ((F.PWM_CFG_MODE g).addr + 0x800 + 4 * i) (Word.of (p.w (i + 1)))) s

/-- R214: PWM_CONFIG with PINS = 0. -/
def State.pwmConfigGen (s : State) (p : Pkt) (g : Nat) : State :=
  let s1 := (s.stagePwm g p)
  let s2 := if (s1.word (F.PWM_GRP_DBG_EN g).addr).toNat = p.w 6 then s1 else s1.setGrp g (p.w 6)
  if s2.genRuns g then s2.askCommit bPWM g (some p) else (s2.askCommit bPWM g (some p)).commitPwm g s2.now

/-- R214: parameters of PWM_CONFIG with PINS = 0 that are out of range. -/
def pwmConfigBad (p : Pkt) : Bool :=
  decide (48 ≤ bits (p.w 0) 5 0) || outside (p.w 0) 0x8000003F || outside (p.w 1) 0x1F3F3F || outside (p.w 2) 0xFFFF ||
  outside (p.w 3) 0xFF || outside (p.w 4) 0xFFFFFF || outside (p.w 6) 0xF0F ||
  (decide (12 ≤ bits (p.w 6) 3 0) && decide (bits (p.w 6) 3 0 ≤ 14)) || pwmSetBad (p.w 1) (p.w 3)

/-- R214: PWM_CONFIG. BUSY is for a commit that core code holds pending; one of another packet for this generator goes first
(R79, `State.commitWaits`). -/
def execPwmConfig (p : Pkt) (s : State) : Out :=
  let pins := bitOf (p.w 0) 31
  let g := bits (p.w 0) 5 0
  .next (if pins then
    s.command p opPwmConfig
      [(outside (p.w 0) 0x80000000 || (List.range 16).any (fun k => outside (p.w (k + 1)) 0x1FF), stBAD_PARAM),
       ((List.range 16).any (fun k =>
          decide ((s.word (F.PWM_TRIPPIN_POL k).addr).toNat ≠ p.w (k + 1)) && s.pinLocked k), stBUSY)]
      (fun t => ((List.range 16).foldl (fun u k => if u.pinLocked k then u else u.setTripPin k (p.w (k + 1))) t).done p stDONE)
    else
    s.command p opPwmConfig
      [(pwmConfigBad p, stBAD_PARAM),
       (decide ((s.word (F.PWM_GRP_DBG_EN g).addr).toNat ≠ p.w 6) && s.grpLocked g, stNOT_PERMITTED),
       (s.keyPending bPWM, stBUSY)]
      (fun t => t.pwmConfigGen p g))

/-- R154: a duty field of generator `g`, 1 DUTYA or 2 DUTYB, is owned by a slot that is not IDLE. -/
def State.dutyOwned (s : State) (g f : Nat) : Bool := s.owned (1, g, f)

/-- R214: the mask of a field of a PWM_DUTY packet. -/
def dutyMask (f : Nat) : Nat := if f = 0 ∨ f = 3 then 0xFFFFFF else if f = 4 then 0xFFF else 0x1FFFFFFF

/-- R214: PWM_DUTY. Whether reserved bits of a word that the mask does not name count, the manual does not say: words that are not written
are not looked at, a DESIGN CHOICE (log entry 144). -/
def execPwmDuty (p : Pkt) (s : State) : Out :=
  let g := bits (p.w 0) 5 0
  let m := bits (p.w 0) 12 8
  let fs := [0, 1, 2, 3, 4].filter (fun f => bitOf m f)
  .next (s.command p opPwmDuty
    [(decide (48 ≤ g) || outside (p.w 0) 0x11F3F || fs.any (fun f => outside (p.w (f + 1)) (dutyMask f)) ||
        (bitOf m 0 && decide (p.w 1 < 8)), stBAD_PARAM),
     ((bitOf m 1 && s.dutyOwned g 1) || (bitOf m 2 && s.dutyOwned g 2), stNOT_PERMITTED)]
    (fun t =>
      let t1 := fs.foldl (fun u f => u.shadowWrite g f (p.w (f + 1))) t
      let t2 := if bitOf (p.w 0) 16 then t1.setLoadnow g else t1
      t2.doneRes p [t2.get (F.PWM_SHDW_STAT_WRITTEN g)]))

/-- R210, R214: PWM_TRIP_CLEAR: refused while a selected source of a tripped generator is active; DONE without effect
if no trip is latched. -/
def execPwmTripClear (p : Pkt) (s : State) : Out :=
  let g := bits (p.w 0) 5 0
  .next (s.command p opPwmTripClear [(decide (48 ≤ g) || outside (p.w 0) 0x3F, stBAD_PARAM)]
    (fun t => if t.on (F.PWM_STAT_TRIPPED g) && t.tripActive g then (t.refuseClear g).done p stTRIP_ACTIVE
      else if t.on (F.PWM_STAT_TRIPPED g) then (t.clearTrip g).done p stDONE
      else t.done p stDONE))

/-- R215: what drives pin `n` (GPIO_CFGn.FUNC). -/
def State.gpioFunc (s : State) (n : Nat) : Nat := s.get (F.GPIO_CFG_FUNC n)

/-- Bit `n` of a pair of 32-bit registers, given by the first. -/
def bit64 (f : Fld) (n : Nat) : Fld := ⟨f.addr + 4 * (n / 32), n % 32, n % 32⟩

/-- R215: a pin whose FUNC is not INPUT may not change FUNC while a slot that is not IDLE owns it. -/
def State.funcLocked (s : State) (n v : Nat) : Bool :=
  decide (bits v 2 0 ≠ s.gpioFunc n) && s.owned (5, n, 0)

/-- R215, R218: a write to GPIO_CFGn: reserved codes and a locked FUNC are ignored and set CFG_REJECT. The manual says so of FUNC; that a
reserved PULL code has the whole write ignored too is a DESIGN CHOICE (log entry 143). -/
def State.gpioCfgWrite (s : State) (n v : Nat) : State :=
  if 5 ≤ bits v 2 0 ∨ bits v 9 8 = 3 ∨ s.funcLocked n v then s.reject bGPIO
  else s.setWord (F.GPIO_CFG_FUNC n).addr (Word.of (Nat.land v 0xFF003F87))

/-- R216: a write to GPIO_SET0, GPIO_SET1. -/
def execGpioSetWrite (k : Nat) (v : Word) (s : State) : Out :=
  let f : Fld := ⟨F.GPIO_OUT0.addr + 4 * (k % 2), 31, 0⟩
  .next (s.put f (Nat.lor (s.get f) v.toNat))

/-- R216: a write to GPIO_CLR0, GPIO_CLR1. -/
def execGpioClrWrite (k : Nat) (v : Word) (s : State) : Out :=
  let f : Fld := ⟨F.GPIO_OUT0.addr + 4 * (k % 2), 31, 0⟩
  .next (s.put f (Nat.land (s.get f) (0xFFFFFFFF - v.toNat)))

/-- R98, R215: a pulse of some compare unit stands on pin `n`. -/
def State.comparePin (s : State) (n : Nat) : Bool :=
  (List.range 32).any (fun m => s.on (F.CMP_AUX_GPIO_EN m) && decide (s.get (F.CMP_AUX_PIN m) = n) &&
    decide (s.time.tick < tabGet 0 s.pwm.pulses m))

/-- R215: the level that the function of pin `n` gives it; an input has none. -/
def State.funcLevel (s : State) (n : Nat) : Option Bool :=
  match s.gpioFunc n with
  | 1 => some (s.on (bit64 F.GPIO_OUT0 n))
  | 2 => some (s.owned (5, n, 0) && bitOf s.pwm.loopPins n)
  | 3 => some (s.comparePin n)
  | 4 => some (s.on F.LASH_ACT_PIN_EN && decide (s.get F.LASH_ACT_PIN = n) && decide (s.lashSt = lsACTIVE))
  | _ => none

/-- R49, R216: what pin `n` would be driven to outside STANDBY: nothing before arming, and nothing for a 1 at an open-drain output. -/
def State.liveDrive (s : State) (n : Nat) : Option Bool :=
  if !s.on F.SYS_ARM_OUTEN then none
  else if s.on (F.GPIO_CFG_OD n) && s.funcLevel n = some true then none
  else s.funcLevel n

/-- R216: what pin `n` is driven to; none is released. In STANDBY an output holds what it drove when STANDBY began. -/
def State.gpioDrive (s : State) (n : Nat) : Option Bool :=
  if s.get F.IRQ_BLK_STAT_POWER = 3 then (if bitOf s.pwm.heldDrive n then some (bitOf s.pwm.heldLevel n) else none)
  else s.liveDrive n

/-- R216, R477: what every pin drives is held. -/
def State.holdGpio (s : State) : State :=
  let mask (f : Nat → Bool) : Nat := (List.range 64).foldl (fun (m : Nat) n => putBit m n (f n)) 0
  { s with pwm := { s.pwm with heldDrive := mask (fun n => (s.liveDrive n).isSome),
                               heldLevel := mask (fun n => s.liveDrive n = some true) } }

/-- R216: the pull of pin `n` in force, as PULL codes it: none before arming. -/
def State.gpioPull (s : State) (n : Nat) : Nat := if s.on F.SYS_ARM_OUTEN then s.get (F.GPIO_CFG_PULL n) else 0

/-- R216, R517: the drive strength of pin `n` in force, as DRIVE codes it: on a bank at 1.8 V codes 2 and 3 act as 1. GPIO0-31 are in
bank B5, GPIO32-63 in B6. -/
def State.gpioStrength (s : State) (n : Nat) : Nat :=
  let d := s.get (F.GPIO_CFG_DRIVE n)
  if Config.bank18 (5 + n / 32) then min d 1 else d

/-- R216: a pin's accepted level changes. -/
def State.gpioIn (s : State) (n : Nat) (level : Bool) : State := (s.put (bit64 F.GPIO_IN0 n) (b2n level)).line (168 + n) level

/-- R216, R430: pin `n` changes to a level and shows it on `samples` PER_CLK cycles in a row: its wake latch senses the pin itself,
and the level is accepted from FILT + 1 on; the ACTIVE mirrors it where the mask says so. -/
def execGpioInputChange (n : Nat) (level : Bool) (samples : Nat) (s : State) : Out :=
  .next (if n < 64 then
    let s1 := if n < 16 then (s.wakeSense (168 + n) level).wakeCheck else s
    if s.mirGpio n || decide (samples ≤ s.get (F.GPIO_CFG_FILT n)) then s1
    else (s1.gpioIn n level).mirInputIf
      (bitOf (s.get F.LASH_MIR_GPIO_LO + 2 ^ 32 * s.get F.LASH_MIR_GPIO_HI) n) (.gpio n level)
    else s)

/-- R217: the accepted level of pin `n` differs from the one that the device drives; a released open-drain output counts as high. -/
def State.pinDiffers (s : State) (n : Nat) : Bool :=
  s.gpioFunc n ≠ 0 && s.on F.SYS_ARM_OUTEN && s.on (bit64 F.GPIO_IN0 n) != (s.gpioDrive n).getD true

/-- R217: a checked output has differed from its read-back level for 1 us. -/
def execOutMismatch (n : Nat) (s : State) : Out :=
  .next (if decide (n < 64) && s.on (F.GPIO_CFG_MISM_EN n) && s.pinDiffers n then (s.put (bit64 F.GPIO_MISM0 n) 1).raise bGPIO 8 else s)

/-- R219: GPIO_CONFIG. -/
def execGpioConfig (p : Pkt) (s : State) : Out :=
  let first := bits (p.w 0) 5 0
  let n := bits (p.w 0) 14 8
  let ix := List.range n
  .next (s.command p opGpioConfig
    [(decide (64 < first + n) || decide (n = 0) || outside (p.w 0) 0x7F3F ||
        ix.any (fun i => outside (p.w (i + 1)) 0xFF003F87 || decide (5 ≤ bits (p.w (i + 1)) 2 0) ||
          decide (bits (p.w (i + 1)) 9 8 = 3)), stBAD_PARAM),
     (ix.any (fun i => s.funcLocked (first + i) (p.w (i + 1))), stNOT_PERMITTED)]
    (fun t => (ix.foldl (fun u i => u.setWord (F.GPIO_CFG_FUNC (first + i)).addr (Word.of (p.w (i + 1)))) t).done p stDONE))

/-- R216: the masked output bits of a bank take their levels. -/
def State.gpioLevels (s : State) (bank mask levels : Nat) : State :=
  let f : Fld := ⟨F.GPIO_OUT0.addr + 4 * bank, 31, 0⟩
  s.put f (Nat.lor (Nat.land (s.get f) (0xFFFFFFFF - mask)) (Nat.land levels mask))

/-- R219: GPIO_WRITE. The manual describes words 1-4 and not word 0: any value of it is accepted, a DESIGN CHOICE (log entry 145). -/
def execGpioWrite (p : Pkt) (s : State) : Out :=
  let m := p.w 1 + 2 ^ 32 * p.w 2
  .next (s.command p opGpioWrite
    [((List.range 64).any (fun n => bitOf m n && (decide (s.gpioFunc n ≠ 1) || s.owned (5, n, 0))), stNOT_PERMITTED)]
    (fun t => ((t.gpioLevels 0 (p.w 1) (p.w 3)).gpioLevels 1 (p.w 2) (p.w 4)).done p stDONE))

/-- R219: GPIO_READ. -/
def execGpioRead (p : Pkt) (s : State) : Out :=
  .next (s.command p opGpioRead []
    (fun t => t.doneRes p [t.get F.GPIO_IN0, t.get F.GPIO_IN1, t.get F.GPIO_OUT0, t.get F.GPIO_OUT1,
      t.get F.GPIO_MISM0, t.get F.GPIO_MISM1]))

end Sys2Proof.Machine
end

