-- ==== Sys2Proof/Machine/RingBase.lean ====
section
/-! DEFINITION. What slots, axes and programs share with the ring: the schedule in force, presence, the process image,
words delivered to owned segments (10, 11, 13). -/

namespace Sys2Proof.Machine

/-- RING_STAT: STATE codes (R286). -/
def rsDOWN : Nat := 0
def rsCLAIM : Nat := 1
def rsBOOTSTRAP : Nat := 2
def rsSCHED_WAIT : Nat := 3
def rsLISTEN : Nat := 4
def rsOPERATIONAL : Nat := 5

/-- STATE of the ring node. -/
def State.ringSt (s : State) : Nat := s.get F.RING_STAT_STATE

/-- R286: the ring runs at the node in every state except DOWN and CLAIM. -/
def State.ringRuns (s : State) : Bool := decide (2 ≤ s.ringSt)

/-- The schedule held in the bank in use (R283). -/
def State.bankSched (s : State) : Option Sched := tabGet none s.ring.banks (s.get F.RING_STAT_BANK)

/-- The schedule in force. -/
def State.curSched (s : State) : Option Sched := if s.ring.inForce then s.bankSched else none

/-- R281: segment `n` of a schedule as (LEN, VER, KIND, OWNER, PAIR, OFFSET). -/
def Sched.seg? (sc : Sched) (n : Nat) : Option (Nat × Nat × Nat × Nat × Nat × Nat) := sc.segs[n]?

/-- What is extracted of segment `n`. -/
def State.rxSeg (s : State) (n : Nat) : SegRx := tabGet {} s.ring.rx n

/-- The state with the extraction of segment `n` set. -/
def State.setRx (s : State) (n : Nat) (v : SegRx) : State :=
  { s with ring := { s.ring with rx := tabSet {} s.ring.rx n v } }

/-- What is to be written into segment `n`. -/
def State.txSeg (s : State) (n : Nat) : SegTx := tabGet {} s.ring.tx n

/-- The state with the insertion of segment `n` set. -/
def State.setTx (s : State) (n : Nat) (v : SegTx) : State :=
  { s with ring := { s.ring with tx := tabSet {} s.ring.tx n v } }

/-- R309: what is known of node `n`. -/
def State.nodeI (s : State) (n : Nat) : NodeInt := tabGet {} s.ring.nodes n

/-- The state with what is known of node `n` set. -/
def State.setNode (s : State) (n : Nat) (v : NodeInt) : State :=
  { s with ring := { s.ring with nodes := tabSet {} s.ring.nodes n v } }

/-- R309: node `n` is present; a node is always present to itself. -/
def State.nodePresent (s : State) (n : Nat) : Bool :=
  match s.curSched with
  | none => false
  | some sc => decide (sc.node = n) || (s.nodeI n).present

/-- R339: ARMED of station `n` clears when it becomes absent. -/
def State.disarm (s : State) (n : Nat) : State :=
  { s with prog := { s.prog with stns := tabSet {} s.prog.stns n { tabGet {} s.prog.stns n with armed := false } } }

/-- R339: ARMED clears for every station that is absent now. -/
def State.disarmAbsent (s : State) : State :=
  s.prog.stns.foldl (fun (t : State) e => if t.nodePresent e.1 then t else t.disarm e.1) s

/-- R286, R309, R339: the node runs under no schedule any more: nothing is known of the other nodes. -/
def State.dropSched (s : State) : State := { s with ring := { s.ring with inForce := false, nodes := [] } }.disarmAbsent

/-- R309: the owner of segment `seg` is present. -/
def State.ownerPresent (s : State) (seg : Nat) : Bool :=
  match s.curSched with
  | none => false
  | some sc =>
    match sc.seg? seg with
    | some (_, _, _, owner, _, _) => s.nodePresent owner
    | none => false

/-- R429: node `n` is this device's own node number, or its PAIR_NODE while Lashing is enabled. -/
def State.ownNode (s : State) (sc : Sched) (n : Nat) : Bool :=
  decide (n = sc.node) || (s.on F.LASH_EN && decide (n = s.get F.LASH_PAIR_NODE))

/-- R429: this device writes the segments of node `o`: its own, and the pair's as ACTIVE only. -/
def State.writesOwner (s : State) (sc : Sched) (o : Nat) : Bool :=
  if s.pairOwner o then s.lashSt = lsACTIVE else o = sc.node

/-- R429, R528: schedule `sc` gives this node segment `seg` to write, and word `w` lies in it. -/
def State.mayWrite (s : State) (sc : Sched) (seg w : Nat) : Bool :=
  match sc.seg? seg with
  | some (len, _, _, owner, _, _) => s.ownNode sc owner && decide (w < len)
  | none => false

/-- R528: a ring target qualifies under the schedule in force. -/
def State.txOk (s : State) (seg w : Nat) : Bool :=
  match s.curSched with
  | some sc => s.mayWrite sc seg w
  | none => false

/-- R528: a ring target is accepted at configuration: the schedule in force gives it to this node, or no schedule is
held. -/
def State.txConfigOk (s : State) (seg w : Nat) : Bool :=
  match s.bankSched with
  | some sc => s.mayWrite sc seg w
  | none => true

/-- R271, R272: producer `who` delivers word `w` of owned segment `seg`. -/
def State.deliver (s : State) (who seg w : Nat) (v : Nat) : State :=
  let t := s.txSeg seg
  s.setTx seg { t with words := tabSet 0 t.words w (v % 2 ^ 32), due := t.due.filter (fun x => x ≠ who) }

/-- R272: producer `who` is due at the next latch of segment `seg`. -/
def State.setDue (s : State) (who seg : Nat) : State :=
  let t := s.txSeg seg
  if t.due.contains who then s else s.setTx seg { t with due := t.due ++ [who] }

/-- R272: producer `who` is due nowhere. -/
def State.clearDue (s : State) (who : Nat) : State :=
  s.ring.tx.foldl (fun t e => if e.2.due.contains who then
    t.setTx e.1 { t.txSeg e.1 with due := (t.txSeg e.1).due.filter (fun x => x ≠ who) } else t) s

/-- Where word `i` of the process image stands in the store: shared SRAM whose place the spec does not give, so an
address of the model's own above the map (R331). -/
def imgAddr (i : Nat) : Nat := 0xE0000000 + 4 * i

/-- R330: the number of the release point of the ring cycle that runs; of the last one while the ring does not run. -/
def State.ownPoint (s : State) : Nat := if s.ringRuns && !s.ring.released then s.prog.points + 1 else s.prog.points

/-- R331: word `i` of the process image. -/
def State.img (s : State) (i : Nat) : Nat := (s.word (imgAddr i)).toNat

/-- R331: word `i` of the process image set. -/
def State.setImg (s : State) (i v : Nat) : State := s.setWord (imgAddr i) (Word.of v)

/-- R281: the map entry that extracts image word `i`: the segment. -/
def State.inputSeg (s : State) (i : Nat) : Option Nat :=
  match s.curSched with
  | none => none
  | some sc => (sc.maps.find? (fun (cnt, _, dir, _, ix) => dir = 0 && decide (ix ≤ i) && decide (i < ix + cnt))).map
      (fun (_, _, _, seg, _) => seg)

/-- R345: the area of the active program image that holds word `i`, as (OWNER, KIND). -/
def State.areaOf (s : State) (i : Nat) : Option (Nat × Nat) :=
  match s.prog.active with
  | none => none
  | some p => (p.areas.find? (fun (first, cnt, _, _) => decide (first ≤ i) && decide (i < first + cnt))).map
      (fun (_, _, owner, kind) => (owner, kind))

/-- R353: the program is RUNNING or CHANGING. -/
def State.progRuns (s : State) : Bool := decide (2 ≤ s.prog.st)

/-- R338: word `i` of the process image is current. -/
def State.imgCurrent (s : State) (i : Nat) : Bool :=
  match s.inputSeg i with
  | some seg => s.ringRuns && (s.rxSeg seg).current && s.ownerPresent seg
  | none =>
    match s.areaOf i with
    | some (_, 0) => false
    | some (owner, 1) => s.progRuns && !(tabGet {} s.prog.tasks owner).overrun
    | _ => s.progRuns

/-- R147: slot `n` is ticked by the ring. -/
def State.ringTicked (s : State) (n : Nat) : Bool :=
  let t := s.tickSrc n
  decide (t = 1) || (decide (t = 0) && decide (s.fbSrc n = 3))

/-- R150, R272: slot `n` in OBSERVER writes a second output, to a ring segment. -/
def State.ringTgt2 (s : State) (n : Nat) : Bool :=
  s.slotSt n = slOBSERVER && decide (2 ≤ bits (s.mw n 0) 5 4) && bits (s.mw n 0xC) 31 28 = 4

/-- R272: slot `n` is due at the next latch of the segment that target `sel` names, where it may write it. -/
def State.dueAt (s : State) (n sel : Nat) : State :=
  if s.txOk (bits sel 8 0) (bits sel 19 12) then s.setDue n (bits sel 8 0) else s

/-- R140, R272: slot `n` is ticked by the ring; a slot with ring targets is due at the next latch of each. -/
def State.tickRing (s : State) (n : Nat) (stale : Bool) : State :=
  let s1 := s.tickSlot n stale
  let s2 := if s.slotSt n ≠ slIDLE && s.get (F.SLOT_CFG0_TGT_TYPE n) = 4 then s1.dueAt n (s.get (F.SLOT_TGT_SEL n)) else s1
  if s.ringTgt2 n then s2.dueAt n (bits (s.mw n 0xC) 27 0) else s2

/-- R147: the words that a snapshot holds: slot memory, axes, process image. -/
def inSnapshot (a : Nat) : Bool :=
  (decide (0x21000000 ≤ a) && decide (a < 0x21020000)) || (decide (0x20081000 ≤ a) && decide (a < 0x20087000)) ||
  (decide (0xE0000000 ≤ a) && decide (a < 0xE0100000))

/-- R147: a snapshot of the sources that slots read from outside their own tick path is taken. -/
def State.takeSnap (s : State) : State :=
  let v : SlotSnap := { words := s.words.filter (fun e => inSnapshot e.1),
                        coils := (s.motion.axes.map (fun e => (e.1, (e.2.coilA, e.2.coilB)))) }
  { s with loop := { s.loop with snap := v } }

end Sys2Proof.Machine
end

