-- ==== Sys2Proof/Machine/LoopEval.lean ====
section
/-! DEFINITION. What enters a slot at a sample, its control laws, supervision, injection and its output
(06_loop_engine R141-R155, 07_loop_supervision). -/

namespace Sys2Proof.Machine

/-- The word of a source outside the slot's own tick path: live for a ring-ticked slot, else the snapshot's (R147). -/
def State.extWord (s : State) (live : Bool) (a : Nat) : Nat :=
  if live then (s.word a).toNat else (storeGet s.loop.snap.words a).toNat

/-- The next free value as a signed 32-bit number. -/
def State.freshI (s : State) : Int × State := let f := s.fresh; (sgn 32 f.1, f.2)

/-- R143: the raw value of a result word: single-ended code times 2^15, pseudo-differential code times 2^16. -/
def adcRaw (w : Nat) : Int :=
  let ch := bits w 21 16
  if 8 ≤ ch ∧ ch ≤ 11 then sgn 16 w * 65536 else (bits w 15 0 : Int) * 32768

/-- R119, R121: a result word without REFNS and UNCAL. -/
def adcClean (w : Nat) : Bool := !bitOf w 26 && !bitOf w 29

/-- The result last delivered by entry `k` of core `c`. -/
def State.adcLast (s : State) (c k : Nat) : AdcRes := tabGet {} (tabGet {} s.adc.cores c).last k

/-- R143: the result last delivered by a partner's core and entry, selected as FB_SEL. -/
def State.spliceLast (s : State) (sel : Nat) : AdcRes :=
  tabGet {} s.splice.res ((bits sel 17 16 * 8 + bits sel 2 0) * 16 + bits sel 7 4)

/-- R143, R169: what a feedback source shows: raw value, fresh, what was seen. -/
structure FbRead where
  raw : Int := 0
  /-- R146: 64-bit position in 2^-32 count -/
  pos : Int := 0
  fresh : Bool := false
  seen : FbSeen := {}
  deriving DecidableEq, Repr

/-- R143, R169: slot `n` reads source `src` selected by `sel`; `seen` is what it saw of the source at its previous sample, and `latch` an
encoder's latch. A result, or another slot's evaluation, is new where it came after that sample. The 32-bit fb of ENC_POS, which ERR_MODE
POSITION does not use, the spec does not give: a free value at each sample, which FB_CUR, FB_LAST and the detections then have, a DESIGN
CHOICE (log entry 139). -/
def State.readFb (s : State) (n src sel : Nat) (live : Bool) (seen : FbSeen) (latch : Option (Int × Bool)) : FbRead × State :=
  let last := (s.slot n).lastSeq
  match src with
  | 0 =>
    let r := s.adcLast (bits sel 2 0) (bits sel 7 4)
    ({ raw := adcRaw r.word, fresh := decide (last < r.seq) && adcClean r.word, seen := seen }, s)
  | 1 =>
    match latch with
    | none => ({ seen := seen }, s)
    | some (c, err) =>
      let now : FbSeen := { seen with enc := some (sel % 16, c) }
      match seen.enc with
      | some (e, p) =>
        if e = sel % 16 then ({ raw := clampI q31Min q31Max (c - p), fresh := !err, seen := now }, s)
        else let f := s.freshI; ({ raw := f.1, fresh := !err, seen := now }, f.2)
      | none => let f := s.freshI; ({ raw := f.1, fresh := !err, seen := now }, f.2)
  | 2 =>
    match latch with
    | none => ({ seen := seen }, s)
    | some (c, err) => let f := s.freshI; ({ raw := f.1, pos := c * 4294967296, fresh := !err, seen := seen }, f.2)
  | 3 =>
    let seg := bits sel 8 0
    let r := s.rxSeg seg
    ({ raw := sgn 32 (r.data.getD (bits sel 19 12) 0),
       fresh := decide (r.fresh ≠ none) && decide (r.fresh.map (fun v => (seg, v)) ≠ seen.ring) && s.ownerPresent seg,
       seen := { seen with ring := r.fresh.map (fun v => (seg, v)) } }, s)
  | 4 =>
    let r := s.spliceLast sel
    ({ raw := adcRaw r.word, fresh := s.splReach (bits sel 17 16) && decide (last < r.seq) && adcClean r.word, seen := seen }, s)
  | 5 => ({ raw := sgn 32 (s.extWord live (imgAddr (bits sel 23 0))), fresh := s.imgCurrent (bits sel 23 0), seen := seen }, s)
  | 6 =>
    let m := bits sel 8 0
    ({ raw := sgn 32 (s.extWord live (F.SLOT_UOUT m).addr),
       fresh := decide (last < (s.slot m).evalSeq) && decide (1 ≤ s.slotSt m) && decide (s.slotSt m ≤ 3), seen := seen }, s)
  | _ => ({ seen := seen }, s)

/-- R144: gain field of a scaling stage and its result, with the flag bits. -/
def scaled (raw offs : Int) (shift : Nat) (gain : Int) : Int × Nat :=
  let x := scaleStage raw offs shift gain
  (x.1, b2n x.2 * 2 ^ sbSAT_ACC)

/-- A saturation to Q1.31 with a flag bit. -/
def satFlag (x : Int) (bit : Nat) : Int × Nat := let r := sat31 x; (r.1, b2n r.2 * 2 ^ bit)

/-- A saturation to Q8.56 with SAT_STATE. -/
def satState (x : Int) : Int × Nat := let r := sat63 x; (r.1, b2n r.2 * 2 ^ sbSAT_STATE)

/-- R145: the pulse count that a PULSE set-point reads: an encoder's count or a capture's edges. The width of the capture's index is left
open: SP_SEL [3:0] as for an encoder, a DESIGN CHOICE (log entry 124). -/
def State.pulseCount (s : State) (sel : Nat) : Int :=
  if bitOf sel 15 then (tabGet 0 s.time.capCount (bits sel 3 0) : Nat) else s.geti64 (F.ENC_POS_LO (bits sel 3 0))

/-- R145: the raw value of a PULSE set-point and the state with a free value taken where the manual gives none: the
first sample of FREQ, PHASE with PPR 0. From where the count of PHASE runs the spec leaves open: the encoder's position, or the capture's
edges since reset, a DESIGN CHOICE (log entry 137). -/
def State.pulseRaw (s : State) (n : Nat) : Int × State :=
  let sel := s.get (F.SLOT_SP_SEL n)
  let c := s.pulseCount sel
  let v := s.slot n
  let s1 := s.setSlot n { v with pulsePrev := some c }
  match bits sel 17 16 with
  | 0 =>
    match v.pulsePrev with
    | some p => (c - p, s1)
    | none => s1.freshI
  | 1 => (clampI q31Min q31Max (c - v.pulseClosed), s1)
  | 2 =>
    let ppr := s.get (F.SLOT_SP_OFFS n)
    if ppr = 0 then s1.freshI else (c % ppr * 2147483648 / ppr, s1)
  | _ => s1.freshI

/-- R145, R230: the set-point of slot `n` at a sample before injection, its 64-bit position, and flag bits. The coil outputs exist
only on stepper axes and for class-A slots. -/
def State.setPoint (s : State) (n : Nat) (live : Bool) : (Int × Int × Nat) × State :=
  let sel := s.get (F.SLOT_SP_SEL n)
  let prev := (s.slot n).spPrev
  let reg := sgn 32 (s.extWord live (F.SLOT_SP_REG n).addr)
  let scale (raw offs : Int) : Int × Nat :=
    let x := scaled raw offs (s.get (F.SLOT_CFG0_SP_SHIFT n)) (s.geti (F.SLOT_SP_GAIN n))
    (towards prev x.1 (s.get (F.SLOT_SP_RATE n)), x.2)
  match s.get (F.SLOT_CFG0_SP_SRC n) with
  | 0 => ((reg, 0, 0), s)
  | 1 => ((towards prev reg (s.extWord live (F.SLOT_RAMP_RATE n).addr), 0, 0), s)
  | 2 => ((towards prev reg (s.extWord live (F.SLOT_RAMP_RATE n).addr), 0, 0), s)
  | 3 =>
    let x := scale (adcRaw (s.adcLast (bits sel 2 0) (bits sel 7 4)).word) (s.geti (F.SLOT_SP_OFFS n))
    ((x.1, 0, x.2), s)
  | 4 =>
    let p := s.pulseRaw n
    let x := scale p.1 (if bits sel 17 16 = 2 then 0 else s.geti (F.SLOT_SP_OFFS n))
    ((x.1, 0, x.2), p.2)
  | 5 =>
    let a := bits sel 6 0
    let rd (f : Fld) : Nat := s.extWord live f.addr
    let coil := if live then ((tabGet {} s.motion.axes a).coilA, (tabGet {} s.motion.axes a).coilB)
      else tabGet (0, 0) s.loop.snap.coils a
    let p := sgn 64 (rd (F.AX_POS_LO a) + 2 ^ 32 * rd (F.AX_POS_HI a))
    let v := sgn 64 (rd (F.AX_VEL_LO a) + 2 ^ 32 * rd (F.AX_VEL_HI a))
    let has := classA n && s.on (F.AX_CFG_STEPPER a)
    match bits sel 9 8 with
    | 0 => (((sat31 (rne (v * sgn 32 (rd (F.AX_VEL_SCALE a))) 29)).1, p, 0), s)
    | 1 => ((if has then coil.1 else clampI q31Min q31Max (Config.noCoil a 1), p, 0), s)
    | 2 => ((if has then coil.2 else clampI q31Min q31Max (Config.noCoil a 2), p, 0), s)
    | _ => let f := s.freshI; ((f.1, p, 0), f.2)
  | 6 => ((sgn 32 (s.extWord live (imgAddr (bits sel 23 0))), 0, 0), s)
  | _ => ((sgn 32 (s.extWord live (F.SLOT_UOUT (bits sel 8 0)).addr), 0, 0), s)

/-- R148: the limit set of a slot, read once at issue (R162). -/
structure Lim where
  min : Int
  max : Int
  rate : Nat
  safe : Int
  deriving DecidableEq, Repr

/-- The active limit set of slot `n`. -/
def State.lim (s : State) (n : Nat) : Lim :=
  { min := s.geti (F.LOOP_OUT_MIN n), max := s.geti (F.LOOP_OUT_MAX n), rate := s.get (F.LOOP_RATE_MAX n),
    safe := s.geti (F.LOOP_SAFE_VAL n) }

/-- R148: the output limits and the rate limit, with the flag bits. -/
def limitOut (l : Lim) (u uo : Int) : Int × Nat :=
  let c := satF u l.min l.max
  let r : Int × Bool :=
    if l.rate = 0 then (c.1, false)
    else if (l.rate : Int) < c.1 - uo then (uo + l.rate, true)
    else if (l.rate : Int) < uo - c.1 then (uo - l.rate, true)
    else (c.1, false)
  (r.1, b2n c.2 * 2 ^ sbSAT_OUT + b2n r.2 * 2 ^ sbSAT_RATE)

/-- R148: the coefficients of a slot. -/
structure Law where
  b : List Int
  a : List Int
  order : Bool
  awf : Bool
  deriving DecidableEq, Repr

/-- The coefficients of slot `n`. -/
def State.law (s : State) (n : Nat) : Law :=
  { b := (List.range 4).map (fun i => s.geti (F.SLOT_B n i)), a := (List.range 3).map (fun i => s.geti (F.SLOT_A n i)),
    order := s.on (F.SLOT_CFG0_ORDER n), awf := s.on (F.SLOT_CFG0_AWF n) }

/-- R149: anti-windup keeps a state whose update would rise further beyond a limit. -/
def awKeep (l : Law) (m : Lim) (uc old new : Int) : Int :=
  if l.awf && ((decide (m.max < uc) && decide (old < new)) || (decide (uc < m.min) && decide (new < old))) then old else new

/-- R160: the states that a bumpless close loads. -/
def preloadStates (l : Law) (uh e0 : Int) : (Int × Int × Int) × Nat :=
  let s3 := satState (if l.order then rne (-(l.a.getD 2 0) * uh) 3 else 0)
  let s2 := satState (rne (-(l.a.getD 1 0) * uh + s3.1 * 8) 3)
  let s1 := satState (rne (uh * 268435456 - l.b.getD 0 0 * e0) 3)
  ((s1.1, s2.1, s3.1), Nat.lor s1.2 (Nat.lor s2.2 s3.2))

/-- What one evaluation of the compensator leaves. -/
structure CompOut where
  uc : Int
  uo : Int
  s1 : Int
  s2 : Int
  s3 : Int
  flags : Nat
  deriving DecidableEq, Repr

/-- R148, R149, R185: one evaluation of the compensator; `inj` is added at the limit stage. -/
def compensate (l : Law) (m : Lim) (e uo inj s1 s2 s3 : Int) : CompOut :=
  let b (i : Nat) : Int := l.b.getD i 0
  let a (i : Nat) : Int := l.a.getD i 0
  let uc := satFlag (rne (b 0 * e + s1 * 8) 28) sbSAT_ACC
  let t3 : Int := if l.order then s3 * 8 else 0
  let n1 := satState (rne (b 1 * e - a 0 * uc.1 + s2 * 8) 3)
  let n2 := satState (rne (b 2 * e - a 1 * uc.1 + t3) 3)
  let n3 := if l.order then satState (rne (b 3 * e - a 2 * uc.1) 3) else (s3, 0)
  let o := limitOut m (uc.1 + inj) uo
  { uc := uc.1, uo := o.1, s1 := awKeep l m uc.1 s1 n1.1, s2 := awKeep l m uc.1 s2 n2.1,
    s3 := if l.order then awKeep l m uc.1 s3 n3.1 else s3,
    flags := Nat.lor uc.2 (Nat.lor o.2 (Nat.lor n1.2 (Nat.lor n2.2 n3.2))) }

/-- R172-R175, R182: whether a value is held by the freeze window; the detection. -/
def State.freezeCheck (s : State) (n : Nat) (fb u : Int) : Bool × State :=
  if !s.on (F.SLOT_SUPV_FRZ_EN n) then (false, s)
  else
    let restart := decide (s.get (F.SLOT_FRZ_DB n) < (fb - s.geti (F.SLOT_FRZ_REF n)).natAbs) || decide (s.get (F.SLOT_FRZ_CNT n) = 0)
    let s1 := if restart then ((s.puti (F.SLOT_FRZ_REF n) fb).puti (F.SLOT_FRZ_UREF n) u).put (F.SLOT_FRZ_CNT n) 1
      else s.incSat (F.SLOT_FRZ_CNT n)
    let lim := s.get (F.SLOT_FRZ_N n)
    (decide (0 < lim) && decide (lim ≤ s1.get (F.SLOT_FRZ_CNT n)) &&
      decide (s.get (F.SLOT_FRZ_DU n) < (u - s1.geti (F.SLOT_FRZ_UREF n)).natAbs), s1)

/-- R173, R174: a confirmed detection: at DET_N it detects, below it counts, otherwise it clears. -/
def State.confirm (s : State) (n : Nat) (cnt : Fld) (en hit : Bool) : Bool × State :=
  let d := s.get (F.SLOT_DET_N n)
  if !en then (false, s)
  else if !hit then (false, s.put cnt 0)
  else if d ≤ s.get cnt then (true, s.put cnt d)
  else (false, s.put cnt (s.get cnt + 1))

/-- R169-R175, R182: the four detections at a sample: the feedback used, the detections (bit 0 freshness, 1 freeze,
2 range, 3 rate). What `u_out of the previous sample` is where no sample put it out the spec leaves open: UOUT as it stands, MANUAL at the
sample that leaves IDLE, SAFE_VAL after LOOP_SAFE, a DESIGN CHOICE (log entry 138). -/
def State.judge (s : State) (n : Nat) (fresh : Bool) (fbNew : Int) : Int × Nat × State :=
  let u := s.geti (F.SLOT_UOUT n)
  if !fresh then
    let s1 := (s.incSat (F.SLOT_MISS_CNT n)).put (F.SLOT_FRESH_CNT n) 0
    (s.geti (F.SLOT_FB_LAST n), b2n (decide (max 1 (s.get (F.SLOT_SUPV_MISS_LIM n)) ≤ s1.get (F.SLOT_MISS_CNT n))), s1)
  else
    let v := s.slot n
    let s1 := (s.put (F.SLOT_MISS_CNT n) 0).incSat (F.SLOT_FRESH_CNT n)
    let f := s1.freezeCheck n fbNew u
    let g := f.2.confirm n (F.SLOT_RNG_CNT n) (s.on (F.SLOT_SUPV_RNG_EN n))
      (decide (fbNew < s.geti (F.SLOT_RNG_LO n)) || decide (s.geti (F.SLOT_RNG_HI n) < fbNew))
    let r := g.2.confirm n (F.SLOT_RATE_CNT n) (s.on (F.SLOT_SUPV_RATE_EN n))
      (v.anyFresh && decide (s.get (F.SLOT_RATE_LIM n) < (fbNew - s.geti (F.SLOT_FB_LAST n)).natAbs))
    let dets := b2n f.1 * 2 + b2n g.1 * 4 + b2n r.1 * 8
    let s2 := r.2.puti (F.SLOT_FB_LAST n) fbNew
    let s3 := s2.setSlot n { s2.slot n with anyFresh := true }
    (fbNew, dets, if dets = 0 then s3 else s3.put (F.SLOT_FRESH_CNT n) 0)

/-- R176: the action field of detection `d`. -/
def State.actField (s : State) (n d : Nat) : Nat :=
  match d with
  | 0 => s.get (F.SLOT_SUPV_ACT_LOSS n)
  | 1 => s.get (F.SLOT_SUPV_ACT_FRZ n)
  | 2 => s.get (F.SLOT_SUPV_ACT_RNG n)
  | _ => s.get (F.SLOT_SUPV_ACT_RATE n)

/-- R177: the detection whose action applies: highest code, then lowest number. -/
def State.worstDet (s : State) (n dets : Nat) : Option Nat :=
  ((List.range 4).filter (bitOf dets)).foldl (fun b d =>
    match b with
    | none => some d
    | some c => if s.actField n c < s.actField n d then some d else b) none

/-- R177: the record of a supervision transition. -/
def State.supvRecord (s : State) (n det taken state configured dets : Nat) : State :=
  s.postSev (if det < 4 && taken < 2 then 1 else 2) 0x0710 n
    (det + taken * 2 ^ 4 + state * 2 ^ 8 + configured * 2 ^ 12 + dets * 2 ^ 16) 0

/-- R156, R178: slot `n` enters HOLD; `cause` is that of an injection that it aborts. -/
def State.enterHold (s : State) (n cause : Nat) : State :=
  (s.setSlotSt n slHOLD cause).put (F.SLOT_HOLD_LEFT n) (max 1 (s.get (F.SLOT_HOLD_N n)))

/-- R176: an action of code `code` is taken at slot `n`. -/
def State.takeAction (s : State) (n code : Nat) : State :=
  let s0 := s.abortInj n 2
  if code = 0 ∨ (code = 1 ∧ s.modelEn n = false) then (s0.enterHold n 2).slotFlags n (2 ^ sbHELD)
  else if code = 1 then
    let s1 := ((s0.setSlotSt n slOBSERVER 2).put (F.SLOT_RIDE_LEFT n) (max 1 (s.get (F.SLOT_RIDE_N n)))).slotFlags n (2 ^ sbRIDE)
    s1.setSlot n { s1.slot n with riding := true }
  else
    let s1 := ((s0.setSlotSt n slSAFE 2).puti (F.SLOT_UOUT n) (s.geti (F.LOOP_SAFE_VAL n))).slotFlags n (2 ^ sbSV_SAFE)
    if code = 3 then (s1.slotFlags n (2 ^ sbSV_TRIP)).refreshSv else s1

/-- R176, R177: the detections of a sample set their flags and, in CLOSED, OBSERVER and by escalation in HOLD and
ride-through, their action applies. -/
def State.actOn (s : State) (n dets : Nat) : State :=
  let s1 := s.slotFlags n (dets * 2 ^ sbSTALE)
  match s.worstDet n dets with
  | none => s1
  | some d =>
    let code := s.actField n d
    let st := s.slotSt n
    let fallback := code = 1 && !s.modelEn n
    let applies : Bool :=
      if st = slCLOSED then true
      else if st = slOBSERVER then !(s.slot n).riding || decide (1 < code)
      else if st = slHOLD then decide (0 < code) && !fallback
      else false
    if applies then
      let taken := if fallback then 0 else code
      let s2 := s1.takeAction n code
      s2.supvRecord n d taken (s2.slotSt n) code dets
    else s1

/-- R178, R179: HOLD and ride-through count down; the sample after the count reached 0 moves the slot to SAFE with a
ramp (R180). `dets` are the detections of the sample. What record 0x0710 holds for these two as action taken and action configured the
spec leaves open: 2 (SAFE) and 0, a DESIGN CHOICE (log entry 140). -/
def State.expire (s : State) (n dets : Nat) : State :=
  let toSafe (t : State) (det : Nat) : State :=
    let t1 := t.setSlotSt n slSAFE 2
    (t1.setSlot n { t1.slot n with ramping := true }).supvRecord n det 2 slSAFE 0 dets
  if s.slotSt n = slHOLD then
    if s.get (F.SLOT_HOLD_LEFT n) = 0 then toSafe s 5
    else s.put (F.SLOT_HOLD_LEFT n) (s.get (F.SLOT_HOLD_LEFT n) - 1)
  else if s.slotSt n = slOBSERVER && (s.slot n).riding then
    if s.get (F.SLOT_RIDE_LEFT n) = 0 then toSafe (s.slotFlags n (2 ^ sbRIDE_END)) 4
    else s.put (F.SLOT_RIDE_LEFT n) (s.get (F.SLOT_RIDE_LEFT n) - 1)
  else s

/-- R182: feedback is fresh in the sense of R159. -/
def State.freshForClose (s : State) (n : Nat) : Bool :=
  decide (max 1 (s.get (F.SLOT_SUPV_FRESH_N n)) ≤ s.get (F.SLOT_FRESH_CNT n)) &&
  !(s.on (F.SLOT_SUPV_RNG_EN n) && decide (s.get (F.SLOT_RNG_CNT n) ≠ 0)) &&
  !(s.on (F.SLOT_SUPV_RATE_EN n) && decide (s.get (F.SLOT_RATE_CNT n) ≠ 0))

/-- R159: every ADC core that feeds slot `n` has CAL_VALID set. -/
def State.feedersValid (s : State) (n : Nat) : Bool :=
  let v (c : Nat) : Bool := bitOf (s.get F.ADC_BLK_STAT_CAL_VALID) c
  (decide (s.fbSrc n ≠ 0) || v (bits (s.get (F.SLOT_FB_SEL n)) 2 0)) &&
  (decide (s.get (F.SLOT_CFG0_SP_SRC n) ≠ 3) || v (bits (s.get (F.SLOT_SP_SEL n)) 2 0)) &&
  (!s.modelEn n || decide (bits (s.mw n 8) 31 28 ≠ 0) || v (bits (s.mw n 8) 2 0))

/-- R159: the first condition of LOOP_CLOSE fails: the Sluice is in safe state for the STO group of a PWM target. -/
def State.closeSafe (s : State) (n : Nat) : Bool :=
  match s.slotGen n with
  | some g => s.unitSafe (s.get (F.PWM_GRP_STO_GRP g))
  | none => false

/-- R159: the other conditions of LOOP_CLOSE in their order. -/
def State.closeChecks (s : State) (n : Nat) : List (Bool × Nat) :=
  [(!s.freshForClose n, stNOT_PERMITTED),
   (!s.feedersValid n, stNOT_PERMITTED),
   (match s.slotGen n with | some g => s.on (F.PWM_STAT_TRIPPED g) | none => false, stTRIP_ACTIVE),
   (!s.on (F.SLOT_CFG0_ORDER n) && (decide (s.get (F.SLOT_B n 3) ≠ 0) || decide (s.get (F.SLOT_A n 2) ≠ 0)), stNOT_PERMITTED)]

/-- R154, R156, R528: the configuration of slot `n` is valid for LOOP_OPEN from IDLE. -/
def State.openValid (s : State) (n : Nat) : Bool :=
  decide (s.get (F.SLOT_CFG0_TGT_TYPE n) < 7) && !(s.slotKeys n).any (s.ownedByOther n) &&
  (decide (s.get (F.SLOT_CFG0_TGT_TYPE n) ≠ 6) || decide (s.get (F.SLOT_CFG0_SP_SRC (s.get (F.SLOT_TGT_SEL n) % 512)) ≤ 1))

/-- R156: the status of state request `r` at slot `n` in its present state, by the table of states. -/
def State.reqStatus (s : State) (n kind : Nat) : Nat :=
  let st := s.slotSt n
  match kind with
  | 1 => if st = slIDLE && !s.openValid n then stNOT_PERMITTED else stDONE
  | 2 =>
    if st = slCLOSED then stDONE
    else if s.closeSafe n then stSAFE_STATE
    else if st = slIDLE then stNOT_PERMITTED
    else (firstFail (s.closeChecks n)).getD stDONE
  | 3 => if st = slOBSERVER then stDONE else if (st = slOPEN || st = slCLOSED) && s.modelEn n then stDONE else stNOT_PERMITTED
  | 5 => if st = slOPEN then stDONE else stNOT_PERMITTED
  | _ => stNOT_PERMITTED

/-- R156: the effect of an accepted state request at a sample of slot `n`. -/
def State.applyReq (s : State) (n kind : Nat) (manual : Bool) : State :=
  let st := s.slotSt n
  let safe := s.geti (F.LOOP_SAFE_VAL n)
  match kind with
  | 1 =>
    let s1 := s.setSlotSt n slOPEN 1
    if st = slIDLE || manual then (s1.puti (F.SLOT_UOUT n) (s.geti (F.SLOT_MANUAL n))).setSlot n
      { s1.slot n with manualNext := none, manualCyc := none, openInj := 0 }
    else if st = slSAFE then s1.puti (F.SLOT_UOUT n) safe
    else s1
  | 2 =>
    if st = slCLOSED then s
    else
      let s1 := if st = slSAFE then s.puti (F.SLOT_UOUT n) safe else s
      let s2 := s1.setSlotSt n slCLOSED 1
      s2.setSlot n { s2.slot n with preload := some (s2.geti (F.SLOT_UOUT n)),
                                    pulseClosed := s2.pulseCount (s2.get (F.SLOT_SP_SEL n)) }
  | 3 =>
    let s1 := s.setSlotSt n slOBSERVER 1
    s1.setSlot n { s1.slot n with riding := false }
  | _ => (s.setSlotSt n slIDLE 1).clearDue n

/-- R150, R166: MODELS_BOUND counts the model blocks that slots use. -/
def State.refreshModels (s : State) : State :=
  s.put F.LOOP_BLK_STAT_MODELS_BOUND
    ((List.range 32).filter (fun b => s.usedSlots.any (fun m => s.modelEn m && decide (s.get (F.SLOT_MODEL m) % 32 = b)))).length

/-- R150: a slot other than `n` uses model block `b`. -/
def State.modelElsewhere (s : State) (n b : Nat) : Bool :=
  s.usedSlots.any (fun m => decide (m ≠ n) && s.modelEn m && decide (s.get (F.SLOT_MODEL m) % 32 = b))

/-- R165, R167: the block words of LOOP_OBSERVER are written. -/
def State.loadModel (s : State) (b : Nat) (p : Pkt) : State :=
  (List.range 99).foldl (fun t i => t.setWord (0x21020000 + 0x200 * b + 4 * i) (Word.of (p.w (i + 1)))) s

/-- R150, R167: slot `n` is bound to model block `b`; OBS_DIV stays. -/
def State.bindModel (s : State) (n b : Nat) : State :=
  let m := s.get (F.SLOT_MODEL n)
  ((s.put (F.SLOT_MODEL n) (bits m 31 6 * 64 + 32 + b)).setSlot n { s.slot n with used := true }).refreshModels

/-- R167: LOOP_OBSERVER `p` loads and binds its block. -/
def State.observerBind (s : State) (p : Pkt) : State :=
  (if bitOf (p.w 0) 25 then s.loadModel (bits (p.w 0) 20 16) p else s).bindModel (bits (p.w 0) 8 0) (bits (p.w 0) 20 16)

/-- R150, R167: the block of LOOP_OBSERVER `p` is bound elsewhere, or LOAD names one that is bound to a running slot. -/
def State.observerChecks (s : State) (p : Pkt) : List (Bool × Nat) :=
  let b := bits (p.w 0) 20 16
  [(s.modelElsewhere (bits (p.w 0) 8 0) b, stBAD_PARAM),
   (bitOf (p.w 0) 25 && s.usedSlots.any (fun m => s.modelEn m && decide (s.get (F.SLOT_MODEL m) % 32 = b) && s.slotRuns m), stLOOP_CLOSED)]

/-- R156, R158, R167: the status of request `r` at its sample: a LOOP_OBSERVER command brings its model with it. -/
def State.reqOutcome (s : State) (n : Nat) (r : SlotReq) : Nat :=
  match r.kind, r.pkt with
  | 3, some p =>
    let st := s.slotSt n
    (firstFail (s.observerChecks p ++ [(decide (st ≠ slOPEN) && decide (st ≠ slCLOSED) && decide (st ≠ slOBSERVER), stNOT_PERMITTED)])).getD stDONE
  | _, _ => s.reqStatus n r.kind

/-- R156, R158, R167: the effect of request `r`: a LOOP_OBSERVER command binds its block at the sample at which it takes effect. -/
def State.reqEffect (s : State) (n : Nat) (r : SlotReq) : State :=
  match r.kind, r.pkt with
  | 3, some p => (s.observerBind p).applyReq n 3 r.manual
  | _, _ => s.applyReq n r.kind r.manual

/-- R431: what has application cycle `c` may act at the present sample of slot `n`: its input cycle is `c` or later. -/
def State.sampleDue (s : State) (n : Nat) (c : Option Nat) : Bool :=
  match c with
  | none => true
  | some k => cycleDue (s.slot n).inCyc k

/-- R158, R161: a sample applies the oldest waiting request; R431: a mirrored one no earlier than its application cycle. -/
def State.takeReq (s : State) (n : Nat) : State :=
  match (s.slot n).reqs with
  | [] => s
  | r :: t =>
    if !s.sampleDue n (r.cyc.map Prod.fst) then s
    else
    let st := s.reqOutcome n r
    let s1 := if st = stDONE then s.reqEffect n r else s
    ((s1.setSlot n { s1.slot n with reqs := t }).refreshPend n).answerReq n r st

/-- R185-R187: the value that injector `i` adds at this sample. -/
def State.injNow (s : State) (i : Nat) : Int :=
  let e := s.injI i
  if s.get (F.INJ_MODE i) = 1 then
    let pre := bits (s.get (F.INJ_INC i)) 31 16
    if pre ≤ e.n && e.n < pre + s.get (F.INJ_COUNT i) then s.geti (F.INJ_AMP i) else 0
  else rne (s.geti (F.INJ_AMP i) * sinTab (s.get (F.INJ_PHASE i) / 2 ^ 20)) 31

/-- R186: a 64-bit accumulator that saturates. -/
def State.accum (s : State) (f : Fld) (x : Int) : State := s.puti64 f (sat63 (s.geti64 f + x)).1

/-- R186: injector `i` starts a sweep point with increment `inc`. -/
def State.startPoint (s : State) (i inc count : Nat) : State :=
  let s1 := ((((((s.put (F.INJ_INC i) inc).put (F.INJ_COUNT i) count).put (F.INJ_PHASE i) 0).put64 (F.INJ_SUM_S_LO i) 0).put64
    (F.INJ_SUM_C_LO i) 0).put (F.INJ_DONE_CNT i) 0).put (F.INJ_SAT i) 0
  s1.setInj i { s1.injI i with settle := s.get (F.INJ_SETTLE i) }

/-- R186, R192: a sweep point of injector `i` has ended: firmware takes the next point, or the injection ends. -/
def State.endPoint (s : State) (i : Nat) : State :=
  let e := s.injI i
  match e.pkt with
  | none => s.endInj i
  | some _ =>
    let s1 := (if s.get (F.INJ_AMP i) = 0 then { s with free := s.free + 2 } else s).setInj i
      { e with results := e.results ++ s.sweepEntry i, point := e.point + 1 }
    if e.points ≤ e.point + 1 then s1.endInj i
    else
      let inc := sweepInc e.incStart e.incStop e.points (e.point + 1)
      s1.startPoint i inc (sweepCount e.m inc)

/-- R186, R187: injector `i` measures a sample: `y` is the signal MEAS selects, `sat` tells SAT_OUT or SAT_RATE. -/
def State.injMeasure (s : State) (i : Nat) (y : Int) (sat : Bool) : State :=
  let e := s.injI i
  if s.get (F.INJ_MODE i) = 1 then
    let s1 := if e.n = 0 then s.put64 (F.INJ_FIRST_TS_LO i) s.now else s
    let s2 := (((s1.puti (F.INJ_BUF i e.n) y).put (F.INJ_DONE_CNT i) (e.n + 1))).setInj i { e with n := e.n + 1 }
    if bits (s.get (F.INJ_INC i)) 10 0 ≤ e.n + 1 then s2.endInj i else s2
  else
    let ph := s.get (F.INJ_PHASE i)
    let ix := ph / 2 ^ 20
    let next := ph + s.get (F.INJ_INC i)
    let s1 := (if sat then s.put (F.INJ_SAT i) 1 else s).put (F.INJ_PHASE i) (next % 2 ^ 32)
    if 0 < e.settle then s1.setInj i { e with settle := if 2 ^ 32 ≤ next then e.settle - 1 else e.settle }
    else
      let s2 := ((s1.accum (F.INJ_SUM_S_LO i) (rne (y * sinTab ix) 31)).accum (F.INJ_SUM_C_LO i)
        (rne (y * sinTab ((ix + 1024) % 4096)) 31)).incSat (F.INJ_DONE_CNT i)
      if s.get (F.INJ_COUNT i) ≤ s2.get (F.INJ_DONE_CNT i) then s2.endPoint i else s2

/-- Signed word `o` of the model block of slot `n`. -/
def State.mwi (s : State) (n o : Nat) : Int := sgn 32 (s.mw n o)

/-- A sum over a range. -/
def sumRange (k : Nat) (f : Nat → Int) : Int := (List.range k).foldl (fun a i => a + f i) 0

/-- R150: the dimensions of a model block; entries outside them are not read. -/
structure Dims where
  nx : Nat
  nu : Nat
  ny : Nat
  deriving DecidableEq, Repr

/-- R150: the dimensions in the header of the model block of slot `n`. -/
def State.dims (s : State) (n : Nat) : Dims :=
  { nx := min 6 (bits (s.mw n 0) 10 8), nu := min 2 (bits (s.mw n 0) 5 4), ny := min 2 (bits (s.mw n 0) 1 0) }

/-- R151, R179: innovation `j`; 0 where its feedback is not fresh. -/
def State.innov (s : State) (n : Nat) (d : Dims) (y : Nat → Int × Bool) (j : Nat) : Int × Nat :=
  if !(y j).2 then (0, 0)
  else satFlag (rne ((y j).1 * 268435456 - sumRange d.nx (fun i => s.mwi n (0x100 + 4 * (6 * j + i)) * s.mwi n (0x170 + 4 * i) * 8)) 28)
    sbSAT_ACC

/-- R151: output `j` of the observer before the limits. The range of l is left open: 1 to NY, a DESIGN CHOICE (log entry 125). -/
def State.obsUc (s : State) (n : Nat) (d : Dims) (r : Nat → Int) (j : Nat) : Int × Nat :=
  satFlag (rne (sumRange d.ny (fun l => s.mwi n (0x160 + 4 * (2 * j + l)) * r l) -
    sumRange d.nx (fun i => s.mwi n (0x130 + 4 * (6 * j + i)) * s.mwi n (0x170 + 4 * i) * 8)) 28) sbSAT_ACC

/-- R151: the estimate's entry `i` after an update. -/
def State.obsNext (s : State) (n : Nat) (d : Dims) (u inn : Nat → Int) (i : Nat) : Int × Nat :=
  satFlag (rne (sumRange d.nx (fun j => s.mwi n (0x10 + 4 * (6 * i + j)) * s.mwi n (0x170 + 4 * j) * 8) +
    sumRange d.nu (fun j => s.mwi n (0xA0 + 4 * (2 * i + j)) * u j) +
    sumRange d.ny (fun j => s.mwi n (0xD0 + 4 * (2 * i + j)) * inn j)) 31) sbSAT_STATE

/-- R151: the estimate is updated; the flags of its saturations. -/
def State.obsUpdate (s : State) (n : Nat) (d : Dims) (u inn : Nat → Int) : State × Nat :=
  (List.range d.nx).foldl (fun t i =>
    let x := s.obsNext n d u inn i
    (t.1.setWord (s.modelBase n + 0x170 + 4 * i) (Word.of (unsgn 32 x.1)), Nat.lor t.2 x.2)) (s, 0)

/-- R154: a PWM target's duty for value `t` at generator `g`. -/
def State.dutyOf (s : State) (n g : Nat) (t : Int) : Nat :=
  let dfs : Int := 32 * s.ticks g
  (if s.on (F.SLOT_CFG0_MAP n) then rne ((t + 2147483648) * dfs) 32 else rne (max t 0 * dfs) 31).toNat

/-- R17, R154: duty field `f` of generator `g` takes a slot's duty, which reached the block `late` ns after the cut-off of its aim
boundary. With less than 5 ns, the 2 ticks between the cut-off and the boundary, the boundary is still to come and does not count
the write; with more it has passed, and the write counts as any other. -/
def State.slotDuty (s : State) (g f d late : Nat) : State :=
  s.shadowAt g f d (if 0 < late ∧ late < 5 then max s.time.tick (s.dueTick g - 1) else s.time.tick)

/-- R154, R528: value `u` of slot `n` is converted and written to a target of type `ty`, selection `sel`. -/
def State.writeTarget (s : State) (n ty sel : Nat) (u : Int) (late : Nat) : State :=
  let t := sat31 (rne (u * s.geti (F.SLOT_OUT_GAIN n)) 28 + s.geti (F.SLOT_OUT_OFFS n))
  let s1 := s.slotFlagIf n sbSAT_ACC t.2
  let g := sel % 64
  match ty with
  | 1 => if g < 48 then s1.slotDuty g 1 (s1.dutyOf n g t.1) late else s1
  | 2 => if g < 48 then s1.slotDuty g 2 (s1.dutyOf n g t.1) late else s1
  | 3 => if g < 48 then (s1.slotDuty g 1 (s1.dutyOf n g t.1) late).slotDuty g 2 (s1.dutyOf n g t.1) late else s1
  | 4 =>
    if s1.txOk (bits sel 8 0) (bits sel 19 12) then s1.deliver n (bits sel 8 0) (bits sel 19 12) (unsgn 32 t.1)
    else s1.slotFlags n (2 ^ sbREFUSED)
  | 5 =>
    let on := decide (s.geti (F.SLOT_ON_LEVEL n) ≤ t.1)
    let off := decide (t.1 ≤ s.geti (F.SLOT_OFF_LEVEL n))
    if on && off then
      let f := s1.fresh
      { f.2 with pwm := { f.2.pwm with loopPins := putBit f.2.pwm.loopPins g (f.1 % 2 = 1) } }
    else if on then { s1 with pwm := { s1.pwm with loopPins := putBit s1.pwm.loopPins g true } }
    else if off then { s1 with pwm := { s1.pwm with loopPins := putBit s1.pwm.loopPins g false } }
    else s1
  | 6 =>
    if s1.get (F.SLOT_CFG0_SP_SRC (sel % 512)) ≤ 1 then s1.puti (F.SLOT_SP_REG (sel % 512)) t.1
    else s1.slotFlags n (2 ^ sbREFUSED)
  | _ => s1

/-- R17, R155: whether an output of slot `n` to its target can miss its transfer: a ring target, or a PWM target of a
class-A slot fed by an ADC result or an encoder latch other than SSI. -/
def State.canMiss (s : State) (n : Nat) : Bool :=
  let ty := s.get (F.SLOT_CFG0_TGT_TYPE n)
  let src := s.fbSrc n
  let ssi := (src = 1 || src = 2) && s.get (F.ENC_MODE (s.get (F.SLOT_FB_SEL n) % 16)) = 4
  decide (ty = 4) || (decide (1 ≤ ty) && decide (ty ≤ 3) && classA n && decide (src ≤ 2) && !ssi)

/-- The slot's own target takes its output; a missed transfer is a late sample (R155). -/
def State.writeOut (s : State) (n : Nat) (u : Int) (late : Nat) : State :=
  let l := if s.canMiss n then late else 0
  let s1 := s.writeTarget n (s.get (F.SLOT_CFG0_TGT_TYPE n)) (s.get (F.SLOT_TGT_SEL n)) u l
  if l ≠ 0 then s1.lateSample n else s1

end Sys2Proof.Machine
end

