-- ==== Sys2Proof/Machine/Loop.lean ====
section
/-! DEFINITION. Slot samples, state requests, injections and the loop commands (06_loop_engine, 07_loop_supervision). -/

namespace Sys2Proof.Machine

/-- R146: the error of a sample with its flag bits. -/
def State.errorOf (s : State) (n : Nat) (sp fb sp64 fb64 : Int) : Int × Nat :=
  if s.on (F.SLOT_CFG0_ERR_MODE n) then
    let d := satF (sp64 - fb64) (-140737488355328) 140737488355327
    let e := satFlag (rne (d.1 * s.geti (F.SLOT_IN_GAIN n)) 29) sbSAT_ACC
    (e.1, Nat.lor e.2 (b2n d.2 * 2 ^ sbSAT_ACC))
  else if s.on (F.SLOT_CFG0_REV n) then satFlag (fb - sp) sbSAT_ACC
  else satFlag (sp - fb) sbSAT_ACC

/-- R152: whether an observer evaluation is made at this sample; the interior of the slot after the count; whether the
spacing moved it. -/
def State.obsDue (s : State) (n : Nat) : Bool × Bool × State :=
  let v := s.slot n
  let div := max 1 (bits (s.get (F.SLOT_MODEL n)) 15 8)
  let soon := match v.obsAt with | some t => decide (s.time.tick < t + 3960) | none => false
  if v.obsCnt + 1 < div then (false, false, s.setSlot n { v with obsCnt := v.obsCnt + 1 })
  else if soon then (false, true, s)
  else (true, false, s.setSlot n { v with obsCnt := 0, obsAt := some s.time.tick })

/-- R150, R169: at every sample of a slot with a model block, the source that FB2_SEL names: value and fresh. The manual gives it no scaling
stage: it is taken as it is, a DESIGN CHOICE (log entry 126). -/
def State.readY2 (s : State) (n : Nat) (live : Bool) : (Int × Bool) × State :=
  if !s.modelEn n then ((0, false), s)
  else
    let sel := s.mw n 8
    let r := s.readFb n (bits sel 31 28) (bits sel 27 0) live (s.slot n).fb2 (s.slot n).latch2
    (((sat31 r.1.raw).1, r.1.fresh), r.2.setSlot n { r.2.slot n with fb2 := r.1.seen, latch2 := none })

/-- R151, R155, R185: an evaluation of the observer law on the plant outputs `y`: outputs, then the update. An output can be late, by
`late` ns, only at a ring port (R152). -/
def State.obsEval (s : State) (n : Nat) (y : Nat → Int × Bool) (sp inj : Int) (late : Nat) : State × Nat :=
  let t := s
  let d := t.dims n
  let l := t.lim n
  let r (j : Nat) : Int := if j = 0 then sp else t.mwi n 4
  let i0 := t.innov n d y 0
  let i1 := t.innov n d y 1
  let c0 := t.obsUc n d r 0
  let c1 := t.obsUc n d r 1
  let o0 := limitOut l (c0.1 + inj) (t.geti (F.SLOT_UOUT n))
  let o1 := limitOut l c1.1 (t.slot n).obsOut2
  let u (j : Nat) : Int := if j = 0 then o0.1 else o1.1
  let inn (j : Nat) : Int := if j = 0 then i0.1 else i1.1
  let f0 := if 1 ≤ d.nu then Nat.lor c0.2 o0.2 else 0
  let f1 := if 2 ≤ d.nu then Nat.lor c1.2 o1.2 else 0
  let g := Nat.lor (if 1 ≤ d.ny then i0.2 else 0) (if 2 ≤ d.ny then i1.2 else 0)
  let up := t.obsUpdate n d u inn
  let t1 := if 1 ≤ d.nu then (up.1.puti (F.SLOT_UC n) c0.1).puti (F.SLOT_UOUT n) o0.1 else up.1
  let t2 := if 2 ≤ d.nu then t1.setSlot n { t1.slot n with obsOut2 := o1.1 } else t1
  let sel := t2.mw n 0xC
  let t3 := if 1 ≤ d.nu then t2.writeTarget n (t2.get (F.SLOT_CFG0_TGT_TYPE n)) (t2.get (F.SLOT_TGT_SEL n)) (t2.geti (F.SLOT_UOUT n)) 0 else t2
  let t4 := if 2 ≤ d.nu then t3.writeTarget n (bits sel 31 28) (bits sel 27 0) o1.1 0 else t3
  let ring := (1 ≤ d.nu && t2.get (F.SLOT_CFG0_TGT_TYPE n) = 4) || (2 ≤ d.nu && bits sel 31 28 = 4)
  (if late ≠ 0 && ring then t4.lateSample n else t4, Nat.lor up.2 (Nat.lor f0 (Nat.lor f1 g)))

/-- R153: while a slot with a model is CLOSED, the update line alone is run. -/
def State.obsTrack (s : State) (n : Nat) (y : Nat → Int × Bool) : State :=
  let due := s.obsDue n
  if due.2.1 then due.2.2.lateSample n
  else if due.1 then
    let t := due.2.2
    let d := t.dims n
    let i0 := t.innov n d y 0
    let i1 := t.innov n d y 1
    let u (j : Nat) : Int := if j = 0 then t.geti (F.SLOT_UOUT n) else (t.slot n).obsOut2
    let up := t.obsUpdate n d u (fun j => if j = 0 then i0.1 else i1.1)
    up.1.slotFlags n (Nat.lor up.2 (Nat.lor (if 1 ≤ d.ny then i0.2 else 0) (if 2 ≤ d.ny then i1.2 else 0)))
  else due.2.2

/-- R148, R149, R160: an evaluation in CLOSED. -/
def State.evalClosed (s : State) (n : Nat) (e inj : Int) : State × Nat :=
  let law := s.law n
  let st (k : Nat) : Int := s.geti64 (F.SLOT_S n k)
  let pre := match (s.slot n).preload with
    | some uh => preloadStates law uh e
    | none => ((st 0, st 1, st 2), 0)
  let o := compensate law (s.lim n) e (s.geti (F.SLOT_UOUT n)) inj pre.1.1 pre.1.2.1 pre.1.2.2
  let s1 := ((((s.puti64 (F.SLOT_S n 0) o.s1).puti64 (F.SLOT_S n 1) o.s2).puti64 (F.SLOT_S n 2) o.s3).puti (F.SLOT_UC n) o.uc).puti
    (F.SLOT_UOUT n) o.uo
  (s1.setSlot n { s1.slot n with preload := none }, Nat.lor pre.2 o.flags)

/-- R156, R185: an evaluation in OPEN: the held output, a LOOP_MANUAL value, an injection at the output. -/
def State.evalOpen (s : State) (n : Nat) (inj : Option Int) : State × Nat :=
  let v := s.slot n
  let held := s.geti (F.SLOT_UOUT n) - v.openInj
  let due := s.sampleDue n v.manualCyc
  let base := if due then v.manualNext.getD held else held
  let w := if due then { v with manualNext := none, manualCyc := none } else v
  match inj with
  | some x =>
    let l := s.lim n
    let c := satF (base + x) l.min l.max
    ((s.puti (F.SLOT_UOUT n) c.1).setSlot n { w with openInj := c.1 - base }, b2n c.2 * 2 ^ sbSAT_OUT)
  | none => ((s.puti (F.SLOT_UOUT n) base).setSlot n { w with openInj := 0 }, 0)

/-- R180: a sample in SAFE: the ramp towards SAFE_VAL. -/
def State.evalSafe (s : State) (n : Nat) : State :=
  if (s.slot n).ramping then
    let safe := s.geti (F.LOOP_SAFE_VAL n)
    let u := towards (s.geti (F.SLOT_UOUT n)) safe (s.get (F.SLOT_SAFE_RAMP n))
    (s.puti (F.SLOT_UOUT n) u).setSlot n { s.slot n with ramping := decide (u ≠ safe) }
  else s

/-- R185-R187: the injector of slot `n` measures the sample. -/
def State.measure (s : State) (n : Nat) (fb e : Int) (flags : Nat) : State :=
  match s.injOf n with
  | none => s
  | some i =>
    let y := match s.get (F.INJ_MEAS i) with
      | 0 => fb
      | 1 => e
      | _ => s.geti (F.SLOT_UOUT n)
    s.injMeasure i y (bitOf flags sbSAT_OUT || bitOf flags sbSAT_RATE)

/-- R148, R151, R156, R178, R180: a sample's evaluation under the slot's state, after supervision and requests. An injection at the set-point
with ERR_MODE POSITION, whose error is formed from 64-bit positions, the spec leaves open: it changes SP_CUR and not e, a DESIGN CHOICE (log
entry 141). R153: in CLOSED the observer tracks on FB_LAST where the feedback is not fresh. -/
def State.evaluate (s : State) (n : Nat) (live fresh : Bool) (late : Nat) (fb fb64 : Int) (y2 : Int × Bool) : State :=
  let y (j : Nat) : Int × Bool := if j = 0 then (fb, fresh) else y2
  let spr := s.setPoint n live
  let s1 := spr.2.setSlot n { spr.2.slot n with spPrev := spr.1.1 }
  let inj := s1.injOf n
  let x : Int := match inj with | some i => s1.injNow i | none => 0
  let atOut := match inj with | some i => s1.on (F.INJ_AT i) | none => false
  let s2 := s1.puti (F.SLOT_INJ_VAL n) x
  let sp := if inj.isSome && !atOut then satFlag (spr.1.1 + x) sbSAT_ACC else (spr.1.1, 0)
  let e := s2.errorOf n sp.1 fb spr.1.2.1 fb64
  let s3 := ((s2.puti (F.SLOT_SP_CUR n) sp.1).puti (F.SLOT_FB_CUR n) fb).puti (F.SLOT_E_CUR n) e.1
  let f0 := Nat.lor spr.1.2.2 (Nat.lor sp.2 e.2)
  let st := s3.slotSt n
  let outInj := if atOut then x else 0
  let count (t : State) : State := t.setSlot n { t.slot n with evalSeq := t.loop.seq + 1 }
  if st = slCLOSED then
    let r := s3.evalClosed n e.1 outInj
    let t := ((count r.1).slotFlags n (Nat.lor f0 r.2)).writeOut n (r.1.geti (F.SLOT_UOUT n)) late
    (if t.modelEn n then t.obsTrack n (fun j => if j = 0 then (fb, true) else y2) else t).measure n fb e.1 r.2
  else if st = slOBSERVER then
    let due := s3.obsDue n
    if due.1 then
      let r := due.2.2.obsEval n y sp.1 outInj late
      ((count r.1).slotFlags n (Nat.lor f0 r.2)).measure n fb e.1 r.2
    else
      let t := if due.2.1 then due.2.2.lateSample n else due.2.2
      ((count t).slotFlags n f0).measure n fb e.1 0
  else if st = slOPEN then
    let r := s3.evalOpen n (if atOut then some x else none)
    (((count r.1).slotFlags n (Nat.lor f0 r.2)).writeOut n (r.1.geti (F.SLOT_UOUT n)) late).measure n fb e.1 r.2
  else if st = slSAFE then
    let t := (s3.evalSafe n).slotFlags n f0
    t.writeOut n (t.geti (F.SLOT_UOUT n)) late
  else
    (s3.slotFlags n f0).writeOut n (s3.geti (F.SLOT_UOUT n)) late

/-- R143-R146, R170: the feedback of a sample: value, 64-bit position, fresh, flag bits. -/
def State.feedback (s : State) (n : Nat) (live stale : Bool) : (Int × Int × Bool × Nat) × State :=
  let r := s.readFb n (s.fbSrc n) (s.get (F.SLOT_FB_SEL n)) live (s.slot n).fb1 (s.slot n).latch
  let fresh := r.1.fresh && !stale
  let pos := s.on (F.SLOT_CFG0_ERR_MODE n)
  let x := if pos then ((sat31 r.1.raw).1, 0)
    else scaled r.1.raw (s.geti (F.SLOT_IN_OFFS n)) (s.get (F.SLOT_CFG0_IN_SHIFT n)) (s.geti (F.SLOT_IN_GAIN n))
  let v := r.2.slot n
  let fb64 := if fresh then r.1.pos else v.posLast
  ((x.1, fb64, fresh, if fresh then x.2 else 0),
    r.2.setSlot n { v with fb1 := r.1.seen, latch := none, posLast := fb64, stale := false })

/-- R504: the first sample after HPENn went low holds a slot that is not IDLE, whatever supervision has detected; HELD (R190) is no flag
of it, and an injection ends by a state change (R188). -/
def State.hpHold (s : State) (n : Nat) : State :=
  if !(s.slot n).hpHold then s
  else
    let s1 := s.setSlot n { s.slot n with hpHold := false }
    if s1.slotSt n = slIDLE then s1 else (s1.abortInj n 1).enterHold n 1

/-- R169: the sample of slot `n` is counted; what has arrived so far is no longer new to it. -/
def State.noteSample (s : State) (n : Nat) : State :=
  let s1 := { s with loop := { s.loop with seq := s.loop.seq + 1 } }
  s1.setSlot n { s1.slot n with lastSeq := s1.loop.seq }

/-- What a sample has read: feedback, its 64-bit position, fresh, flag bits (R143-R146), and y2 (R150). -/
structure SampleIn where
  fb : Int
  fb64 : Int
  fresh : Bool
  flags : Nat
  y2 : Int × Bool
  deriving DecidableEq, Repr

/-- R143, R150, R169: slot `n` reads its feedback and the source of FB2_SEL. -/
def State.readInputs (s : State) (n : Nat) (live : Bool) : SampleIn × State :=
  let f := s.feedback n live (s.slot n).stale
  let y := f.2.readY2 n live
  ({ fb := f.1.1, fb64 := f.1.2.1, fresh := f.1.2.2.1, flags := f.1.2.2.2, y2 := y.1 }, y.2.noteSample n)

/-- R169-R175, R241: the feedback that a sample uses, and its detections: those of the slot, and a range that an axis reports. -/
def State.detect (s : State) (n : Nat) (x : SampleIn) : Int × Nat × State :=
  let j := s.judge n x.fresh x.fb
  let fe := (s.slot n).feDet
  let s1 := j.2.2.setSlot n { j.2.2.slot n with feDet := false }
  (j.1, if fe then Nat.lor j.2.1 4 else j.2.1, (if fe then s1.put (F.SLOT_FRESH_CNT n) 0 else s1).slotFlags n x.flags)

/-- R156, R158: slot `n` enters SAFE at once: SAFE_VAL to the target, waiting requests answered NOT_PERMITTED. -/
def State.safeNow (s : State) (n : Nat) : State :=
  let s1 := (s.setSlotSt n slSAFE 1).puti (F.SLOT_UOUT n) (s.geti (F.LOOP_SAFE_VAL n))
  let s2 := s1.writeTarget n (s.get (F.SLOT_CFG0_TGT_TYPE n)) (s.get (F.SLOT_TGT_SEL n)) (s.geti (F.LOOP_SAFE_VAL n)) 0
  let rs := (s2.slot n).reqs
  let s3 := (s2.setSlot n { s2.slot n with reqs := [] }).refreshPend n
  rs.foldl (fun t r => t.answerReq n r stNOT_PERMITTED) s3

/-- R158, R431: a mirrored LOOP_SAFE of application cycle `c`, which starts at device time `t`, takes effect at a sample of slot `n`; requests
of a later application cycle came after it and stay. -/
def State.safeAt (n : Nat) (s : State) (e : Nat × Nat × Pkt) : State :=
  if s.slotSt n = slIDLE || s.slotSt n = slSAFE then s.doneAt e.2.2 stNOT_PERMITTED e.2.1
  else
    let after (r : SlotReq) : Bool := match r.cyc with | some k => decide (k.1 ≠ e.1) && cycleDue k.1 e.1 | none => false
    let rs := (s.slot n).reqs
    let s1 := (s.setSlot n { s.slot n with reqs := rs.filter (fun r => !after r) }).safeNow n
    ((s1.setSlot n { s1.slot n with reqs := rs.filter after }).refreshPend n).doneAt e.2.2 stDONE e.2.1

/-- R431: the mirrored LOOP_SAFE commands whose application cycle the present sample of slot `n` has reached. -/
def State.takeSafes (s : State) (n : Nat) : State :=
  let due := (s.slot n).safeReqs.filter (fun e => s.sampleDue n (some e.1))
  if due.isEmpty then s
  else due.foldl (State.safeAt n) (s.setSlot n { s.slot n with safeReqs := (s.slot n).safeReqs.filter (fun e => !s.sampleDue n (some e.1)) })

/-- R148, R158, R161: slot `n` issues: supervision, then the oldest request, then the evaluation and the output. A detection that
escalates at the sample after HOLD_LEFT or RIDE_LEFT reached 0 is applied before the move to SAFE, which is made only from the state
that the count belongs to: a DESIGN CHOICE (log entry 127). The sample at which the slot leaves IDLE is judged in its new state
(R170); its FB_LAST, in ERR_MODE POSITION too, is 0 before. -/
def State.sample (s : State) (n late : Nat) : State :=
  let live := s.ringTicked n
  let r := (s.put64 (F.SLOT_LAST_TS_LO n) s.now).readInputs n live
  if r.2.slotSt n = slIDLE then
    let s1 := ((r.2.setSlot n { r.2.slot n with feDet := false }).takeSafes n).takeReq n
    if s1.slotSt n = slIDLE then s1.puti (F.SLOT_INJ_VAL n) 0
    else
      let fb64 := if r.1.fresh then r.1.fb64 else 0
      let d := (s1.setSlot n { s1.slot n with posLast := fb64 }).detect n r.1
      (d.2.2.actOn n d.2.1).evaluate n live r.1.fresh late d.1 fb64 r.1.y2
  else
    let d := r.2.detect n r.1
    let s1 := ((((d.2.2.actOn n d.2.1).hpHold n).expire n d.2.1).takeSafes n).takeReq n
    if s1.slotSt n = slIDLE then s1.puti (F.SLOT_INJ_VAL n) 0
    else s1.evaluate n live r.1.fresh late d.1 r.1.fb64 r.1.y2

/-- R495: a sample in which a saturation engaged, and the largest lateness of a duty, in the lifetime data. -/
def State.lifeSample (s : State) (n late : Nat) : State :=
  let s1 := if s.loop.satNow then { s.lifeAdd64 0x30 1 with loop := { s.loop with satNow := false } } else s
  let ty := s.get (F.SLOT_CFG0_TGT_TYPE n)
  if s.canMiss n && decide (1 ≤ ty) && decide (ty ≤ 3) && decide ((s1.word (lifeRun + 0x48)).toNat < late) then
    ((s1.setWord (lifeRun + 0x48) (Word.of late)).setWord (lifeRun + 0x4C) (Word.of n)).setWords (lifeRun + 0x50)
      [s1.get F.EVREC_OPSEC_LO, s1.get F.EVREC_OPSEC_HI]
  else s1

/-- R148: one sample of slot `n` with what the lifetime data takes of it. -/
def State.sampleLife (s : State) (n late : Nat) : State := (s.sample n late).lifeSample n late

/-- R148, R435, R440: a sample, and what the Lashing takes of it: the digests that reflect it, and the slot's seed. -/
def State.sampleAll (s : State) (n late : Nat) : State :=
  let s1 := s.sampleLife n late
  let c := (s1.slot n).inCyc
  (s1.redig n c).seedSlot n (n / 32) c

/-- R139, R148: the slot at the head of its pipeline issues. `late` is the time in ns by which its output reaches the
target after the cut-off (R17, R155), 0 where it does not. -/
def execSlotSample (n late : Nat) (s : State) : Out := s.awake (
  .next (if s.loop.q0.head? = some n then { s with loop := { s.loop with q0 := s.loop.q0.tail } }.sampleAll n late
    else if s.loop.q1.head? = some n then { s with loop := { s.loop with q1 := s.loop.q1.tail } }.sampleAll n late
    else s))

/-- R171: the CTL_CLK tick at which FB_TMO microseconds have passed since the last release of slot `n`; where it has never been released, the
present one (log entry 25). -/
def State.fbTmoAt (s : State) (n : Nat) : Nat :=
  let us := s.get (F.SLOT_FB_TMO n)
  match (s.slot n).relAt with
  | some t => t + 400 * (if us = 0 then 1000 else us)
  | none => s.time.tick

/-- R171: no feedback arrived for FB_TMO. -/
def execFbTmoExpiry (n : Nat) (s : State) : Out := s.awake (
  .next (if n < 512 && decide (s.tickSrc n = 0) && !s.waiting n then (s.advanceTick (s.fbTmoAt n)).tickSlot n true else s))

/-- R158: request `i` of slot `n` has waited 100 ms. -/
def execSlotRequestTimeout (n i : Nat) (s : State) : Out :=
  .next (match (s.slot n).reqs[i]? with
    | none => s
    | some r =>
      let t := s.advanceTo r.tmo
      ((t.setSlot n { t.slot n with reqs := (t.slot n).reqs.eraseIdx i }).refreshPend n).answerReq n { r with cyc := none } stTIMEOUT)

/-- R147: device time reaches a 20 us grid instant while the ring is not running. -/
def execSnapshotTick (s : State) : Out := s.awake (
  let k := s.gridNext 20000 s.time.snapGrid
  let s1 := s.advanceTo (20000 * k)
  .next (if s.ringRuns then s else ({ s1 with time := { s1.time with snapGrid := k + 1 } }).takeSnap))

/-- R158, R159: LOOP_CLOSE has something to close: not in CLOSED, but behind a request that waits the slot may be in any state. -/
def State.closes (s : State) (n : Nat) : Bool := decide (s.slotSt n ≠ slCLOSED) || !(s.slot n).reqs.isEmpty

/-- R81, R159: LOOP_CLOSE meets the Sluice's safe state, step 9 of the checks. -/
def State.reqSafe (s : State) (n kind : Nat) : Bool := kind = 2 && s.closes n && s.closeSafe n

/-- R156, R158, R159: the checks of state request `kind` at its acceptance, after the Sluice's. -/
def State.reqChecks (s : State) (n kind : Nat) : List (Bool × Nat) :=
  let st := s.slotSt n
  let empty := (s.slot n).reqs.isEmpty
  (if kind = 2 && s.closes n && (st ≠ slIDLE || !empty) then s.closeChecks n else []) ++
  [(empty && decide (s.reqStatus n kind ≠ stDONE), stNOT_PERMITTED), (decide (4 ≤ (s.slot n).reqs.length), stQUEUE_FULL)]

/-- R158: an accepted state request joins the slot's queue; R431: a mirrored one with its application cycle. -/
def State.queueReq (s : State) (n : Nat) (r : SlotReq) : State :=
  let q : SlotReq := { r with tmo := s.now + 100000000, cyc := s.lash.appCyc }
  (s.setSlot n { s.slot n with used := true, reqs := (s.slot n).reqs ++ [q] }).refreshPend n

/-- R166: REQ of LOOP_SLOTn_CTRL takes a code. -/
def State.slotReqWrite (s : State) (n kind : Nat) : State :=
  if 512 ≤ n then s
  else if kind = 4 then
    (if s.slotSt n = slIDLE ∨ s.slotSt n = slSAFE then s.slotFlags n (2 ^ sbREFUSED) else s.safeNow n)
  else if kind = 0 ∨ 5 < kind then s.reject bLOOP
  else if s.reqSafe n kind || (firstFail (s.reqChecks n kind)).isSome then s.slotFlags n (2 ^ sbREFUSED)
  else s.queueReq n { kind := kind }

/-- R158, R166: REQ = OPEN. -/
def execSlotReqOpen (n : Nat) (s : State) : Out := .next (s.slotReqWrite n 1)

/-- R158, R166: REQ = CLOSE. -/
def execSlotReqClose (n : Nat) (s : State) : Out := .next (s.slotReqWrite n 2)

/-- R158, R166: REQ = OBSERVER. -/
def execSlotReqObserver (n : Nat) (s : State) : Out := .next (s.slotReqWrite n 3)

/-- R158, R166: REQ = SAFE. -/
def execSlotReqSafe (n : Nat) (s : State) : Out := .next (s.slotReqWrite n 4)

/-- R158, R166: REQ = RELEASE. -/
def execSlotReqRelease (n : Nat) (s : State) : Out := .next (s.slotReqWrite n 5)

/-- R185: injection is permitted in OPEN, CLOSED and commanded OBSERVER. -/
def State.injAllowed (s : State) (n : Nat) : Bool :=
  let st := s.slotSt n
  st = slOPEN || st = slCLOSED || (st = slOBSERVER && !(s.slot n).riding)

/-- R187, R191: injector `i` starts. -/
def State.startInj (s : State) (i : Nat) (e : InjInt) : State :=
  let s1 := (List.range 1024).foldl (fun t k => t.setWord (F.INJ_BUF i k).addr 0) s
  let s2 := (((((((((s1.put (F.INJ_GO i) 1).put (F.INJ_BUSY i) 1).put (F.INJ_ABORT i) 0).put (F.INJ_CAUSE i) 0).put (F.INJ_SAT i) 0).put
    (F.INJ_PHASE i) 0).put64 (F.INJ_SUM_S_LO i) 0).put64 (F.INJ_SUM_C_LO i) 0).put (F.INJ_DONE_CNT i) 0).put64 (F.INJ_FIRST_TS_LO i) 0
  s2.setInj i { e with n := 0, settle := s.get (F.INJ_SETTLE i) }

/-- R191: core code writes GO; a start that cannot be made is ignored and sets CFG_REJECT. -/
def execInjGo (i : Nat) (s : State) : Out :=
  let n := s.get (F.INJ_SLOT i)
  let mode := s.get (F.INJ_MODE i)
  let cnt := bits (s.get (F.INJ_INC i)) 10 0
  .next (if 4 ≤ i ∨ s.on (F.INJ_BUSY i) ∨ mode = 0 ∨ mode = 3 then s
    else if !s.injAllowed n || (s.injOf n).isSome || (mode = 1 && (decide (cnt = 0) || decide (1020 < cnt))) then s.reject bLOOP
    else s.startInj i {})

/-- R162: a staged limit set that is not committed. -/
def badLimits (min max safe : Int) : Bool := decide (max < min) || decide (safe < min) || decide (max < safe)

/-- R162: the commit of the limit set of slot `n` at its safe point. -/
def State.commitLoop (s : State) (n : Nat) : State :=
  let g (f : Fld) : Int := s.geti f.staged
  if badLimits (g (F.LOOP_OUT_MIN n)) (g (F.LOOP_OUT_MAX n)) (g (F.LOOP_SAFE_VAL n)) then
    (s.slotFlags n (2 ^ sbREFUSED)).endCommit bLOOP n stBAD_PARAM s.now
  else (s.activateAll [F.LOOP_OUT_MIN n, F.LOOP_OUT_MAX n, F.LOOP_RATE_MAX n, F.LOOP_SAFE_VAL n]).endCommit bLOOP n stDONE s.now

/-- R164: the bits of FB_SEL that source `src` uses. -/
def fbMask (src : Nat) : Nat :=
  match src with
  | 0 => 0xF7
  | 1 => 0x3F0F
  | 2 => 0x3F0F
  | 3 => 0xFF1FF
  | 4 => 0x300F7
  | 5 => 0xFFFFFF
  | 6 => 0x1FF
  | _ => 0

/-- R164: the bits of SP_SEL that source `src` uses. -/
def spMask (src : Nat) : Nat :=
  match src with
  | 3 => 0xF7
  | 4 => 0x3800F
  | 5 => 0x37F
  | 6 => 0xFFFFFF
  | 7 => 0x1FF
  | _ => 0xFFFFFFFF

/-- R164: the bits of TGT_SEL that target `ty` uses. -/
def tgtMask (ty : Nat) : Nat := if ty = 4 then 0xFF1FF else if ty = 6 then 0x1FF else if ty = 0 then 0xFFFFFFFF else 0x3F

/-- R137, R140, R154, R164, R167, R528: LOOP_CONFIG words 1-15 that are answered BAD_PARAM; `w i` is slot word `i`. -/
def State.configBad (s : State) (n : Nat) (w : Nat → Nat) : Bool :=
  let c := w 0
  let fb := bits c 22 20
  let sp := bits c 19 17
  let ty := bits c 27 24
  let tick := bits c 16 15
  outside c 0xFFFFFF80 || decide (7 ≤ ty) || fb = 7 || tick = 3 || outside (w 13) 0xFF3F || outside (w 14) 0x3F000F ||
  outside (w 1) (fbMask fb) || outside (w 2) (spMask sp) || outside (w 3) (tgtMask ty) ||
  (sp = 4 && bits (w 2) 17 16 = 3) || (sp = 5 && (bits (w 2) 9 8 = 3 || decide (96 ≤ bits (w 2) 6 0))) ||
  ((fb = 1 || fb = 2) && decide (48 ≤ bits (w 1) 13 8)) ||
  (classA n && (decide (2 < fb) || tick ≠ 0)) || (!classA n && sp = 5 && bits (w 2) 9 8 ≠ 0) ||
  (bitOf c 23 && (sp ≠ 5 || fb ≠ 2)) ||
  ((ty = 1 || ty = 2 || ty = 3) && decide (48 ≤ w 3 % 64)) ||
  (ty = 4 && !s.txConfigOk (bits (w 3) 8 0) (bits (w 3) 19 12)) ||
  (ty = 6 && decide (1 < s.get (F.SLOT_CFG0_SP_SRC (w 3 % 512)))) ||
  (decide (1 < sp) && s.ownedByOther n (6, n, 0)) ||
  (tgtKeys ty (w 3)).any (s.ownedByOther n) ||
  (bitOf (w 13) 5 && s.modelElsewhere n (w 13 % 32))

/-- R28, R162, R167: LOOP_CONFIG. -/
def execLoopConfig (p : Pkt) (s : State) : Out :=
  let n := bits (p.w 0) 8 0
  let only := bitOf (p.w 0) 16
  .next (s.command p opLoopConfig
    [(outside (p.w 0) 0x101FF || badLimits (sgn 32 (p.w 16)) (sgn 32 (p.w 17)) (sgn 32 (p.w 19)) ||
        (!only && s.configBad n (fun i => p.w (i + 1))), stBAD_PARAM),
     (!only && s.slotRuns n, stLOOP_CLOSED),
     (s.cmtPending bLOOP, stBUSY)]
    (fun t =>
      let t0 := t.abortInj n 3
      let t1 := if only then t0 else
        (List.range 15).foldl (fun u i => u.setWord (0x21000000 + 0x100 * n + 4 * i) (Word.of (p.w (i + 1)))) t0
      let t2 := (t1.setSlot n { t1.slot n with used := true }).refreshModels
      let t3 := (((t2.put (F.LOOP_OUT_MIN n).staged (p.w 16)).put (F.LOOP_OUT_MAX n).staged (p.w 17)).put
        (F.LOOP_RATE_MAX n).staged (p.w 18)).put (F.LOOP_SAFE_VAL n).staged (p.w 19)
      (t3.askCommit bLOOP n (some p)).commitLoop n))

/-- R158, R167: a state command of a slot. -/
def State.reqCommand (s : State) (p : Pkt) (op kind mask : Nat) (manual : Bool) : State :=
  let n := bits (p.w 0) 8 0
  s.command p op ((s.reqSafe n kind, stSAFE_STATE) :: (outside (p.w 0) mask, stBAD_PARAM) :: s.reqChecks n kind)
    (fun t => t.queueReq n { kind := kind, pkt := some p, manual := manual })

/-- R167: LOOP_OPEN. -/
def execLoopOpen (p : Pkt) (s : State) : Out := .next (s.reqCommand p opLoopOpen 1 0x101FF (bitOf (p.w 0) 16))

/-- R167: LOOP_CLOSE. -/
def execLoopClose (p : Pkt) (s : State) : Out := .next (s.reqCommand p opLoopClose 2 0x1FF false)

/-- R167: LOOP_RELEASE; R188: it stops an injection on the slot. -/
def execLoopRelease (p : Pkt) (s : State) : Out :=
  let n := bits (p.w 0) 8 0
  .next (s.command p opLoopRelease ((outside (p.w 0) 0x1FF, stBAD_PARAM) :: s.reqChecks n 5)
    (fun t => (t.abortInj n 3).queueReq n { kind := 5, pkt := some p }))

/-- R168: LOOP_COEF_WRITE. -/
def execLoopCoefWrite (p : Pkt) (s : State) : Out :=
  let n := bits (p.w 0) 8 0
  let order := bitOf (p.w 1) 0
  .next (s.command p opLoopCoefWrite
    [(outside (p.w 0) 0x1FF, stBAD_PARAM),
     (bits (p.w 1) 31 16 ≠ 1, stVERSION_MISMATCH),
     (decide (crc32cWords ((List.range 8).map (fun i => p.w (i + 1))) ≠ p.w 9), stBAD_PARAM),
     (bits (p.w 1) 15 1 ≠ 0 || (!order && (decide (p.w 5 ≠ 0) || decide (p.w 8 ≠ 0))), stBAD_PARAM),
     (s.slotRuns n, stLOOP_CLOSED)]
    (fun t =>
      let t0 := t.abortInj n 3
      let t1 := (List.range 7).foldl (fun u i => u.setWord (0x21000040 + 0x100 * n + 4 * i) (Word.of (p.w (i + 2)))) t0
      ((t1.put (F.SLOT_CFG0_ORDER n) (b2n order)).put (F.SLOT_COEF_CRC n) (p.w 9)).done p stDONE))

/-- R154, R167: LOOP_SETPOINT. -/
def execLoopSetpoint (p : Pkt) (s : State) : Out :=
  let n := bits (p.w 0) 8 0
  .next (s.command p opLoopSetpoint
    [(outside (p.w 0) 0x1FF, stBAD_PARAM),
     (decide (1 < s.get (F.SLOT_CFG0_SP_SRC n)) || s.owned (6, n, 0), stNOT_PERMITTED)]
    (fun t =>
      let t1 := t.put (F.SLOT_SP_REG n) (p.w 1)
      (if t.get (F.SLOT_CFG0_SP_SRC n) = 1 then t1.put (F.SLOT_RAMP_RATE n) (p.w 2) else t1).done p stDONE))

/-- R156, R160, R167: LOOP_MANUAL. -/
def execLoopManual (p : Pkt) (s : State) : Out :=
  let n := bits (p.w 0) 8 0
  let v := sgn 32 (p.w 1)
  .next (s.command p opLoopManual
    [(outside (p.w 0) 0x1FF || decide (v < (s.lim n).min) || decide ((s.lim n).max < v), stBAD_PARAM),
     (s.slotSt n ≠ slOPEN, stNOT_PERMITTED)]
    (fun t => ((t.puti (F.SLOT_MANUAL n) v).setSlot n
      { t.slot n with manualNext := some v, manualCyc := t.lash.appCyc.map Prod.fst }).done p stDONE))

/-- R167: the 64-byte result of LOOP_READ. -/
def State.loopRead (s : State) (n : Nat) : List Nat :=
  [(s.word (F.LOOP_SLOT_STAT_STATE n).addr).toNat, (s.word (0x20072000 + 4 * n)).toNat, s.get (F.SLOT_SP_CUR n),
   s.get (F.SLOT_FB_CUR n), s.get (F.SLOT_E_CUR n), s.get (F.SLOT_UC n), s.get (F.SLOT_UOUT n), 0] ++
  (List.range 6).map (fun i => (s.word (0x21000060 + 0x100 * n + 4 * i)).toNat) ++
  [s.get (F.SLOT_LAST_TS_LO n), s.get (F.SLOT_LAST_TS_HI n)]

/-- R167: LOOP_READ. -/
def execLoopRead (p : Pkt) (s : State) : Out :=
  .next (s.command p opLoopRead [(outside (p.w 0) 0x1FF, stBAD_PARAM)]
    (fun t => t.doneRes p (t.loopRead (bits (p.w 0) 8 0))))

/-- R165: block words of a LOOP_OBSERVER with LOAD that are out of range. -/
def modelBad (h : Nat) : Bool :=
  let nx := bits h 10 8
  let nu := bits h 5 4
  let ny := bits h 1 0
  outside h 0xFFFF0733 || nx = 0 || nx = 7 || nu = 0 || nu = 3 || ny = 0 || ny = 3

/-- R150, R165, R167: LOOP_OBSERVER. BIND_ONLY binds at once; otherwise the block is loaded and bound at the sample at which the slot
enters OBSERVER. -/
def execLoopObserver (p : Pkt) (s : State) : Out :=
  let n := bits (p.w 0) 8 0
  let only := bitOf (p.w 0) 24
  let load := bitOf (p.w 0) 25
  let st := s.slotSt n
  .next (s.command p opLoopObserver
    ([(outside (p.w 0) 0x31F01FF, stBAD_PARAM),
      (load && bits (p.w 1) 31 16 ≠ 1, stVERSION_MISMATCH),
      (load && (decide (crc32cWords ((List.range 98).map (fun i => p.w (i + 1))) ≠ p.w 99) || modelBad (p.w 1)), stBAD_PARAM)] ++
     s.observerChecks p ++
     [(!only && (s.slot n).reqs.isEmpty && (st ≠ slOPEN && st ≠ slCLOSED && st ≠ slOBSERVER), stNOT_PERMITTED),
      (!only && decide (4 ≤ (s.slot n).reqs.length), stQUEUE_FULL)])
    (fun t => if only then (t.observerBind p).done p stDONE else t.queueReq n { kind := 3, pkt := some p }))

/-- R158, R167, R431: LOOP_SAFE; a mirrored one waits for the first sample of its application cycle. -/
def execLoopSafe (p : Pkt) (s : State) : Out :=
  let n := bits (p.w 0) 8 0
  .next (s.command p opLoopSafe
    [(outside (p.w 0) 0x1FF, stBAD_PARAM), (s.slotSt n = slIDLE || s.slotSt n = slSAFE, stNOT_PERMITTED)]
    (fun t => match t.lash.appCyc with
      | some c => t.setSlot n { t.slot n with safeReqs := (t.slot n).safeReqs ++ [(c.1, c.2, p)] }
      | none => (t.safeNow n).done p stDONE))

/-- R192: LOOP_SUPERVISE words that hold a reserved bit, or RNG_EN with RNG_LO above RNG_HI. -/
def superviseBad (p : Pkt) : Bool :=
  outside (p.w 1) 0xEFF7FFFF || outside (p.w 2) 0xFFFFFF0F || outside (p.w 3) 0xFFFF || outside (p.w 4) 0xFFFF ||
  (bitOf (p.w 1) 30 && decide (sgn 32 (p.w 8) < sgn 32 (p.w 7)))

/-- R188, R192: LOOP_SUPERVISE. -/
def execLoopSupervise (p : Pkt) (s : State) : Out :=
  let n := bits (p.w 0) 8 0
  .next (s.command p opLoopSupervise
    [(outside (p.w 0) 0x1FF || superviseBad p, stBAD_PARAM), (s.slotRuns n, stLOOP_CLOSED)]
    (fun t =>
      let t0 := t.abortInj n 3
      let t1 := (List.range 10).foldl (fun u i => u.setWord (0x210000A0 + 0x100 * n + 4 * i) (Word.of (p.w (i + 1)))) t0
      (t1.refreshSv).done p stDONE))

/-- R192: the lowest injector that is not held. -/
def State.freeInj (s : State) : Option Nat := (List.range 4).find? (fun i => !s.on (F.INJ_BUSY i))

/-- R188, R192: LOOP_STEP and LOOP_SWEEP: AMP 0 stops a running injection; otherwise an injector is attached. -/
def State.injCommand (s : State) (p : Pkt) (op mode : Nat) (bad : Bool) (start : State → Nat → State) : State :=
  let n := bits (p.w 0) 8 0
  let stop := decide (p.w 1 = 0) && (s.injOf n).isSome
  s.command p op
    [(outside (p.w 0) 0x1FF || outside (p.w 2) 0x302 || bits (p.w 2) 9 8 = 3 || bad, stBAD_PARAM),
     (!stop && !s.injAllowed n, stNOT_PERMITTED),
     (!stop && (s.freeInj.isNone || (s.injOf n).isSome), stBUSY)]
    (fun t =>
      if stop then (t.abortInj n 4).done p stDONE
      else match t.freeInj with
        | none => t
        | some i =>
          let t1 := (((((t.put (F.INJ_SLOT i) n).put (F.INJ_MODE i) mode).put (F.INJ_MEAS i) (bits (p.w 2) 9 8)).put (F.INJ_AT i)
            (bits (p.w 2) 1 1)).put (F.INJ_AMP i) (p.w 1)).accept p
          start t1 i)

/-- R187, R192: LOOP_STEP. -/
def execLoopStep (p : Pkt) (s : State) : Out :=
  let cnt := p.w 4
  .next (s.injCommand p opLoopStep 1 (decide (cnt = 0) || decide (1020 < cnt))
    (fun t i =>
      let t1 := ((t.put (F.INJ_INC i) (bits (p.w 3) 31 16 * 2 ^ 16 + cnt)).put (F.INJ_COUNT i) (bits (p.w 3) 15 0)).put (F.INJ_SETTLE i) 0
      t1.startInj i { pkt := some p }))

/-- R186, R192: LOOP_SWEEP. -/
def execLoopSweep (p : Pkt) (s : State) : Out :=
  let a := p.w 3
  let b := p.w 4
  let m := bits (p.w 5) 23 16
  let k := bits (p.w 5) 7 0
  let badInc (x : Nat) : Bool := decide (x = 0) || decide (2 ^ 31 < x)
  .next (s.injCommand p opLoopSweep 2 (badInc a || badInc b || decide (m = 0) || decide (k < 2) || outside (p.w 5) 0xFFFF00FF)
    (fun t i =>
      let e : InjInt := { pkt := some p, point := 0, points := k, m := m, incStart := a, incStop := b }
      let inc := sweepInc a b k 0
      ((t.put (F.INJ_SETTLE i) (bits (p.w 5) 31 24)).startInj i e).startPoint i inc (sweepCount m inc)))

/-- R166, R181: bits of LOOP_STICKYn are cleared. -/
def State.stickyClear (s : State) (n m : Nat) : State :=
  let a := 0x20072000 + 4 * n
  let old := (s.word a).toNat
  ((s.setWord a (Word.of (Nat.land old (0xFFFFFFFF - m % 2 ^ 32)))).refreshSum n).refreshSv

/-- R167: LOOP_STICKY_CLEAR. -/
def execLoopStickyClear (p : Pkt) (s : State) : Out :=
  .next (s.command p opLoopStickyClear [(outside (p.w 0) 0x1FF, stBAD_PARAM)]
    (fun t => (t.stickyClear (bits (p.w 0) 8 0) (p.w 1)).done p stDONE))

end Sys2Proof.Machine
end

