-- ==== Sys2Proof/Machine/Adc.lean ====
section
/-! DEFINITION. Converter cores: reference, calibration, sequencer, results, comparators, commands (05_adc). -/

namespace Sys2Proof.Machine

/-- The interior of converter core `c`. -/
def State.core (s : State) (c : Nat) : AdcCore := tabGet {} s.adc.cores c

/-- The state with the interior of core `c` set. -/
def State.setCore (s : State) (c : Nat) (v : AdcCore) : State :=
  { s with adc := { s.adc with cores := tabSet {} s.adc.cores c v } }

/-- R126: a core counts as armed until its running pass has ended. -/
def State.adcArmed (s : State) (c : Nat) : Bool := s.on (F.ADC_CTRL_ARM c) || (s.core c).running

/-- R121: CAL_BUSY of core `c`. -/
def State.calBusy (s : State) (c : Nat) : Bool := bitOf (s.get F.ADC_BLK_STAT_CAL_BUSY) c

/-- One bit of a field of the ADC block set or cleared. -/
def State.setBit (s : State) (f : Fld) (n : Nat) (b : Bool) : State := s.put f (putBit (s.get f) n b)

/-- R196, R197: core `c` has no more acquisition start in this period of generator `g`. -/
def State.setMissed (s : State) (g c : Nat) (b : Bool) : State :=
  s.setGen g { s.gen g with missed := putBit (s.gen g).missed c b }

/-- R124, R196: core `c` begins to look for acquisition starts of the generator that it selects: a position that has gone by in this
period is passed over. -/
def State.passAcq (s : State) (c : Nat) : State :=
  let g := s.get (F.ADC_CTRL_PWM_SEL c)
  if decide (g < 48) && s.genRuns g && decide (s.acqPos g c < s.posAt g s.time.tick) then s.setMissed g c true else s

/-- R127: the commit of the sequence of core `c` at its safe point, at device time `t`. -/
def State.commitAdc (s : State) (c t : Nat) : State :=
  let fs : List Fld := F.ADC_SEQ_CFG_LEN c :: (List.range 16).flatMap (fun k =>
    [F.ADC_SEQ_WIN_SEL c k, F.ADC_SEQ_WIN_EN c k, F.ADC_SEQ_FIFO c k, F.ADC_SEQ_ACQ_EXT c k, F.ADC_SEQ_CHAN c k])
  ((s.activateAll fs).endCommit bADC c stDONE t).passAcq c

/-- R123, R124: a pass of core `c` starts at ADC_CLK edge `edge`; entry 0 is sampled at `h0`. R136: it serves the ADC_READ commands
that wait. -/
def State.startPass (s : State) (c edge h0 : Nat) : State :=
  let v : AdcCore := { s.core c with running := true, entry := 0, h0 := h0, hk := h0, edge := edge, hkFlags := none, pass := [], next := none }
  let s1 := (s.setCore c v).put (F.ADC_STAT_BUSY c) 1
  { s1 with adc := { s1.adc with readWait := s1.adc.readWait.map (fun w => if w.core = c then { w with started := true } else w) } }

/-- R125: a trigger during a pass is lost. -/
def State.loseTrigger (s : State) (c : Nat) : State :=
  ((s.incSat (F.ADC_STAT_LOST_COUNT c)).raise bADC (8 + c)).setCore c { s.core c with ovr := true }

/-- R124: the ADC_CLK edge on which core `c` takes a trigger of tick `k`. ADC_CLK has half the rate of CTL_CLK: its edges are the even
ticks, a DESIGN CHOICE (log entry 122). -/
def adcEdge (k : Nat) : Nat := k + k % 2

/-- R125: what becomes of a trigger that core `c` takes on an ADC_CLK edge. -/
inductive TrigFate where
  /-- no pass runs: one starts -/
  | start
  /-- another trigger of the same edge has started the pass, or will -/
  | same
  /-- the running pass ends by this edge: a new one starts then -/
  | hold
  /-- a pass runs: the trigger is lost -/
  | lost
  deriving DecidableEq, Repr

/-- R125: what becomes of a trigger on edge `edge`. The pass of core `c` ends on the edge on which its last result leaves the converter,
120 ns after the sample instant; edges lie 5 ns apart, which 118 takes into account. -/
def State.trigFate (s : State) (c edge : Nat) : TrigFate :=
  let v := s.core c
  let ends := decide (s.get (F.ADC_SEQ_CFG_LEN c) ≤ v.entry + 1) && decide (v.hk + 118 ≤ s.timeAt edge)
  if !v.running then .start
  else if v.edge = edge then .same
  else if !ends then .lost
  else
    match v.next with
    | none => .hold
    | some n => if n.1 = edge then .same else .lost

/-- R124, R125: a trigger of kind `bit` (16-20) that core `c` takes on ADC_CLK edge `edge`; the sample instant of entry 0 would be `h0`.
Triggers on the edge that started the pass are one. While a pass runs whose ARM has been cleared (R126) a trigger starts nothing and
is not counted as lost, a DESIGN CHOICE (log entry 123). -/
def State.adcTriggerAt (s : State) (c bit edge h0 : Nat) : State :=
  if decide (c < 8) && s.on (F.ADC_CTRL_ARM c) && bitOf (s.get (F.ADC_CTRL_TRIG_EN c)) (bit - 16) then
    match s.trigFate c edge with
    | .start => s.startPass c edge h0
    | .same => s
    | .hold => s.setCore c { s.core c with next := some (edge, if bit = 18 then some h0 else none) }
    | .lost => s.loseTrigger c
  else s

/-- R196: core `c` selects generator `g`. -/
def State.coreSelects (s : State) (g c : Nat) : Bool :=
  s.get (F.ADC_CTRL_PWM_SEL c) = g && s.on (F.ADC_CTRL_ARM c) && bitOf (s.get (F.ADC_CTRL_TRIG_EN c)) 2

/-- R196: LEAD does not suit core `c`. -/
def State.leadBad (s : State) (g c : Nat) : Bool :=
  decide (s.ticks g ≤ s.get (F.PWM_LEAD_LEAD g) + s.acqTicks c)

/-- R124, R125, R196: the acquisition start of core `c` in this period of the generator that it selects, if that position has been
reached and the ADC_CLK edge that takes it comes before tick `k`: whether a pass runs then decides. -/
def State.acqDue (s : State) (c k : Nat) : State :=
  let g := s.get (F.ADC_CTRL_PWM_SEL c)
  let e := adcEdge (s.tickOf g (s.acqPos g c))
  if decide (g < 48) && s.genRuns g && s.coreSelects g c && !s.leadBad g c && !bitOf (s.gen g).missed c &&
      decide (s.acqPos g c ≤ s.posAt g s.time.tick) && decide (e < k) then
    (s.adcTriggerAt c 18 e (s.timeAt (e + s.acqTicks c))).setMissed g c true
  else s

/-- R124, R196: every acquisition start up to now of core `c`. -/
def State.acqNow (s : State) (c : Nat) : State := s.acqDue c (s.time.tick + 2)

/-- R124: with any trigger but PWM, h0 lies (16 + ACQ_EXT_0) ADC_CLK periods after the edge that takes it. -/
def State.trigInstant (s : State) (c e : Nat) : Nat := s.timeAt e + 5 * (16 + s.get (F.ADC_SEQ_ACQ_EXT c 0))

/-- R124: a trigger of kind `bit`, other than the PWM trigger, reaches core `c` on this tick. -/
def State.adcTrigger (s : State) (c bit : Nat) : State :=
  let t := s.acqNow c
  let e := adcEdge t.time.tick
  t.adcTriggerAt c bit e (t.trigInstant c e)

/-- R125: the trigger held on the edge on which the last pass of core `c` ended starts the next one. -/
def State.heldTrigger (s : State) (c : Nat) : State :=
  match (s.core c).next with
  | some (e, h) => s.startPass c e (h.getD (s.trigInstant c e))
  | none => s

/-- R124: a trigger of one kind to every core of a mask. -/
def State.adcTriggers (s : State) (mask bit : Nat) : State :=
  (List.range 8).foldl (fun t c => if bitOf mask c then t.adcTrigger c bit else t) s

/-- R124: a write to ADC_SWTRIG. -/
def execAdcSwtrigWrite (v : Word) (s : State) : Out := .next (s.adcTriggers v.toNat 16)

/-- R122: a quotient rounded to nearest, ties to even. -/
def State.adcLin (s : State) (c u : Nat) : Int :=
  let lin (k : Nat) : Int := sgn 16 (s.get (F.ADC_LIN_LIN c k))
  let seg := u / 65536 % 16
  if seg < 15 then lin seg + rne ((lin (seg + 1) - lin seg) * (u % 65536 : Nat)) 16 else lin 15

/-- R122: the corrected code of raw value `raw`, 20 bits. -/
def State.adcCode (s : State) (c chan raw : Nat) : Nat :=
  let diff := decide (8 ≤ chan) && decide (chan ≤ 11)
  let r : Int := if diff then sgn 20 raw else (raw % 2 ^ 20 : Nat)
  let u := (if diff then r + 0x80000 else r).toNat
  let x := r + s.adcLin c u - s.geti (F.ADC_OFFS_OFFS c)
  let y := rne (x * (s.get (F.ADC_GAIN_GAIN c) : Nat)) 30
  let code := rne y 4
  unsgn 16 (if diff then clampI (-32768) 32767 code else clampI 0 65535 code)

/-- R116: the channel that a code converts; a reserved code converts GND. -/
def adcChan (code : Nat) : Nat := if code ≤ 11 ∨ (16 ≤ code ∧ code ≤ 21) then code else 0x15

/-- R132: whether DATA is a hit of comparator `k` of core `c`. -/
def State.winHit (s : State) (c k data : Nat) : Bool :=
  let v (n : Nat) : Int := if s.on (F.ADC_WIN_CTRL_SIGNED c k) then sgn 16 n else (n : Int)
  let lo := v (s.get (F.ADC_WIN_LIM_LOW c k))
  let hi := v (s.get (F.ADC_WIN_LIM_HIGH c k))
  if s.on (F.ADC_WIN_CTRL_INSIDE c k) then decide (lo ≤ v data) && decide (v data ≤ hi)
  else decide (v data < lo) || decide (hi < v data)

/-- R132: window line of comparator `k` of core `c` takes a level. -/
def State.setWin (s : State) (c k : Nat) (b : Bool) : State :=
  if s.on (F.ADC_WIN_CTRL_LINE c k) = b then s else (s.put (F.ADC_WIN_CTRL_LINE c k) (b2n b)).winLine (4 * c + k) b

/-- R132: the run of hits of comparator `k` after a result. -/
def State.winRun (s : State) (c k : Nat) (hit : Bool) : State :=
  let v := s.core c
  if !hit then (s.setCore c { v with winRun := tabSet 0 v.winRun k 0 }).setWin c k false
  else
    let r := tabGet 0 v.winRun k + 1
    let s1 := s.setCore c { v with winRun := tabSet 0 v.winRun k r }
    if s.get (F.ADC_WIN_CTRL_COUNT c k) + 1 ≤ r then
      let s2 := s1.setBit (F.ADC_STAT_WIN_HIT c) k true
      if s.on (F.ADC_WIN_CTRL_TRIP_EN c k) then s2.setWin c k true else s2
    else s1

/-- R132: a write to WINk_CTRL; clearing EN deasserts the line and resets the run. -/
def State.winCtrlWrite (s : State) (c k v : Nat) : State :=
  let a := (F.ADC_WIN_CTRL_EN c k).addr
  let old := (s.word a).toNat
  let s1 := s.setWord a (Word.of (Nat.land v 0xF0F + Nat.land old 0x80000000))
  if bitOf v 0 then s1
  else (s1.setCore c { s1.core c with winRun := tabSet 0 (s1.core c).winRun k 0 }).setWin c k false

/-- R130: a result enters the FIFO of core `c`, or is discarded. -/
def State.fifoPush (s : State) (c w ts : Nat) : State :=
  let v := s.core c
  if 64 ≤ v.fifo.length then
    ((s.incSat (F.ADC_STAT_FIFO_OVF_COUNT c)).raise bADC (16 + c)).setCore c { v with ovr := true }
  else
    let n := v.fifo.length + 1
    let s1 := (s.setCore c { v with fifo := v.fifo ++ [(w, ts)] }).put (F.ADC_FIFO_LVL_LEVEL c) n
    if n = min 64 (s.get (F.ADC_FIFO_LVL_WM c)) then s1.raise bADC (24 + c) else s1

/-- R430: on the STANDBY a mirrored entry's local result feeds no slot. -/
def State.mirroredAdc (s : State) (c k : Nat) : Bool :=
  s.get F.SPLICE_BLK_STAT_LASH_STATE = 4 && bitOf (s.get (F.LASH_MIR_ADC (c / 2))) (16 * (c % 2) + k)

/-- R129, R140: a result of entry `k` of core `c` releases the slots that it feeds. -/
def State.feedSlots (s : State) (c k : Nat) : State :=
  (s.usedSlots.filter (fun n => s.fbSrc n = 0 && s.tickSrc n = 0 &&
    decide (Nat.land (s.get (F.SLOT_FB_SEL n)) 0xF7 = c + 16 * k))).foldl (fun t n => t.tickSlot n false) s

/-- R129: what slots see of entry `k` of core `c`: the word with its sample instant. -/
def State.adcDeliver (s : State) (c k w ts : Nat) : State :=
  let v := s.core c
  (s.setCore c { v with last := tabSet {} v.last k { word := w, ts := ts, seq := s.loop.seq + 1 } }).feedSlots c k

/-- R136: the result words of ADC_READ on core `c`. -/
def State.adcReadRes (s : State) (c : Nat) (fifo lost : Bool) (maxN : Nat) : List Nat × State :=
  let hd (n : Nat) : List Nat := [n * 2 ^ 8 + b2n lost * 8 + b2n (s.on (F.ADC_CTRL_ARM c)) * 4 +
    b2n (bitOf (s.get F.ADC_BLK_STAT_CAL_VALID) c) * 2 + s.get F.ADC_BLK_STAT_REF_SETTLED,
    s.get (F.ADC_PASSTS_LO_NS c), s.get (F.ADC_PASSTS_HI_NS c)]
  if fifo then
    let v := s.core c
    let es := v.fifo.take maxN
    let rest := v.fifo.drop maxN
    let s1 := (s.setCore c { v with fifo := rest }).put (F.ADC_FIFO_LVL_LEVEL c) rest.length
    let s2 := match es.getLast? with
      | some e => s1.put64 (F.ADC_FIFO_TS_LO_NS c) e.2
      | none => s1
    (hd es.length ++ es.flatMap (fun e => [e.1, e.2 % 2 ^ 32, e.2 / 2 ^ 32 % 2 ^ 32]), s2)
  else
    let n := (s.core c).lastLen
    (hd n ++ (List.range n).map (fun k => s.get (F.ADC_RES_RESULT c k)), s)

/-- R136: an ADC_READ command is answered. -/
def State.answerRead (s : State) (p : Pkt) (lost : Bool) : State :=
  let r := s.adcReadRes (bits (p.w 0) 2 0) (bitOf (p.w 0) 8) lost (bits (p.w 0) 22 16)
  r.2.doneRes p r.1

/-- R136: the ADC_READ commands that a pass of core `c` serves are answered. -/
def State.answerReads (s : State) (c : Nat) : State :=
  let ws := s.adc.readWait.filter (fun w => w.core = c && w.started)
  let s1 := { s with adc := { s.adc with readWait := s.adc.readWait.filter (fun w => !(w.core = c && w.started)) } }
  ws.foldl (fun t w => t.answerRead w.pkt w.lost) s1

/-- R119, R128: the reference or the factors of core `c` are about to change: an entry whose sample instant has passed keeps the REFNS
and UNCAL of that instant. -/
def State.holdFlags (s : State) (c : Nat) : State :=
  let v := s.core c
  if v.running && v.hkFlags.isNone && decide (v.hk ≤ s.now) then
    s.setCore c { v with hkFlags := some (!s.on F.ADC_BLK_STAT_REF_SETTLED, !bitOf (s.get F.ADC_BLK_STAT_CAL_VALID) c) }
  else s

/-- R119, R128: the same of every core. -/
def State.holdAllFlags (s : State) : State := (List.range 8).foldl (fun (t : State) c => (t.acqNow c).holdFlags c) s

/-- R118: the reference select takes a value. -/
def State.setRef (s0 : State) (sel : Nat) : State :=
  if s0.get F.ADC_REF_SEL = sel then s0
  else
    let s := s0.holdAllFlags
    let s1 := ((s.put F.ADC_REF_SEL sel).put F.ADC_BLK_STAT_REF_SETTLED 0).put F.ADC_BLK_STAT_CAL_VALID 0
    { s1 with adc := { s1.adc with settling := true } }

/-- R121, R126, R134: ARM of core `c` is written. -/
def State.armWrite (s0 : State) (c : Nat) (b : Bool) : State :=
  let s := s0.acqNow c
  if !b then s.put (F.ADC_CTRL_ARM c) 0
  else if s.calBusy c then s.reject bADC
  else if s.on (F.ADC_CTRL_ARM c) then s
  else (((s.put (F.ADC_CTRL_ARM c) 1).put (F.ADC_STAT_LOST_COUNT c) 0).put (F.ADC_STAT_FIFO_OVF_COUNT c) 0).passAcq c

/-- R135: the cores of an ADC_CONFIG packet that it disarms. -/
def cfgDisarms (p : Pkt) (c : Nat) : Bool := bitOf (p.w 1) c && !bitOf (p.w 2) 0

/-- R134: a write to ADCc_CTRL without CAL_GO and ARM: PWM_SEL and TRIG_EN are run-locked, and 48-63 are no generators. -/
def State.trigWrite (s : State) (c v : Nat) : State :=
  let a := (F.ADC_CTRL_ARM c).addr
  let sel := bits v 29 24
  let same := decide (s.get (F.ADC_CTRL_PWM_SEL c) = sel) && decide (s.get (F.ADC_CTRL_TRIG_EN c) = bits v 20 16)
  if same then s
  else if s.adcArmed c then s.lockReject bADC c (a - bADC) false
  else (if 48 ≤ sel then s.reject bADC else s.put (F.ADC_CTRL_PWM_SEL c) sel).put (F.ADC_CTRL_TRIG_EN c) (bits v 20 16)

/-- R135: what ADC_CONFIG does to core `c` once passes have ended: triggers, watermark, comparators, then ARM. -/
def State.cfgCore (s : State) (p : Pkt) (c : Nat) : State :=
  let s1 := (s.trigWrite c (p.w 2)).put (F.ADC_FIFO_LVL_WM c) (p.w 3)
  (List.range 4).foldl (fun t k =>
    (t.setWord (F.ADC_WIN_LIM_LOW c k).addr (Word.of (p.w (4 + 2 * k)))).winCtrlWrite c k (p.w (5 + 2 * k))) s1

/-- R118: a write to ADC_REF. -/
def State.refWrite (s : State) (sel : Nat) : State :=
  if sel = 3 || (List.range 8).any (fun c => s.adcArmed c || s.calBusy c) then s.reject bADC else s.setRef sel

/-- R135: steps 2 to 4 of ADC_CONFIG. A packet that has waited writes the reference and the triggers as they may be written then:
under R28 and R118 what a core armed or calibrating since refuses is ignored and sets CFG_REJECT. -/
def State.cfgFinish (s : State) (p : Pkt) : State :=
  let cs := (List.range 8).filter (fun c => bitOf (p.w 1) c)
  let s1 := if bitOf (p.w 0) 8 then s.refWrite (bits (p.w 0) 1 0) else s
  let s2 := cs.foldl (fun t c => t.cfgCore p c) s1
  let s3 := if bitOf (p.w 2) 0 then cs.foldl (fun t c => t.armWrite c true) s2 else s2
  s3.done p stDONE

/-- R135: an ADC_CONFIG waits while the pass of a core that it disarms runs. -/
def State.cfgHeld (s : State) (p : Pkt) : Bool := (List.range 8).any (fun c => cfgDisarms p c && (s.core c).running)

/-- R135: the ADC_CONFIG packets whose passes have ended go on, oldest first. -/
def State.cfgCheck (s : State) : State :=
  let s1 := { s with adc := { s.adc with cfgWait := s.adc.cfgWait.filter s.cfgHeld } }
  (s.adc.cfgWait.filter (fun p => !s.cfgHeld p)).foldl State.cfgFinish s1

/-- R123, R131: the pass of core `c` has ended: RES and PASSTS, the end-of-pass pulse, a waiting commit, waiting
commands. An acquisition start before this edge met the running pass (R125). -/
def State.endPass (s0 : State) (c : Nat) : State :=
  let s := s0.acqDue c s0.time.tick
  let v := s.core c
  let s1 := (List.range v.pass.length).foldl (fun t k => t.put (F.ADC_RES_RESULT c k) (v.pass.getD k 0)) s
  let s2 := ((s1.put64 (F.ADC_PASSTS_LO_NS c) v.h0).put (F.ADC_STAT_BUSY c) 0).setCore c { v with running := false, lastLen := v.pass.length }
  let s3 := s2.pulse (32 + c)
  let s4 := (s3.answerReads c).cfgCheck
  let k := s4.time.tick
  (s4.safePoint bADC c 0 k (fun _ => false) (fun t => t.commitAdc c (v.hk + 120))).heldTrigger c

/-- R116, R119, R122, R128, R132: the result word of the entry being converted, and the state after its comparator. -/
def State.adcWord (s : State) (c raw : Nat) : Nat × State :=
  let v := s.core c
  let k := v.entry
  let ch := adcChan (s.get (F.ADC_SEQ_CHAN c k))
  let data := s.adcCode c ch raw
  let win := s.get (F.ADC_SEQ_WIN_SEL c k)
  let fed := s.on (F.ADC_SEQ_WIN_EN c k) && s.on (F.ADC_WIN_CTRL_EN c win)
  let hit := fed && s.winHit c win data
  let fl := v.hkFlags.getD (!s.on F.ADC_BLK_STAT_REF_SETTLED, !bitOf (s.get F.ADC_BLK_STAT_CAL_VALID) c)
  let w := data + ch * 2 ^ 16 + k * 2 ^ 22 + b2n fl.1 * 2 ^ 26 + b2n v.ovr * 2 ^ 27 + b2n hit * 2 ^ 28 + b2n fl.2 * 2 ^ 29
  (w, if fed then s.winRun c win hit else s)

/-- R123, R129: 120 ns after its sample instant the result of the entry being converted goes to every consumer; after the last entry
the pass ends. -/
def State.adcResult (s0 : State) (c raw : Nat) : State :=
  let s := (s0.advanceTo ((s0.core c).hk + 120)).acqDue c (s0.advanceTo ((s0.core c).hk + 120)).time.tick
  let k := (s.core c).entry
  let hk := (s.core c).hk
  let r := s.adcWord c raw
  let s1 := r.2.setCore c { r.2.core c with ovr := false, pass := (r.2.core c).pass ++ [r.1] }
  let s2 := if s.on (F.ADC_SEQ_FIFO c k) then s1.fifoPush c r.1 hk else s1
  let mask := bitOf (s.get (F.LASH_MIR_ADC (c / 2))) (16 * (c % 2) + k)
  let s3 := (if s.mirroredAdc c k then s2 else (s2.mirInputIf mask (.adc c k (Word.of r.1) hk)).adcDeliver c k r.1 hk).exportSignal c r.1 hk
  if s.get (F.ADC_SEQ_CFG_LEN c) ≤ k + 1 then s3.endPass c
  else s3.setCore c { s3.core c with entry := k + 1, hkFlags := none, hk := hk + 5 * (40 + s.get (F.ADC_SEQ_ACQ_EXT c (k + 1))) }

/-- R129: a sequence entry's conversion completes with the 20-bit raw value `raw` (R122). -/
def execAdcResult (c raw : Nat) (s : State) : Out := s.awake (
  .next (if decide (c < 8) && (s.core c).running then s.adcResult c raw else s))

/-- R130: a read of ADCc_FIFO. -/
def State.fifoRead (s : State) (c : Nat) : State :=
  match (s.core c).fifo with
  | [] => { s with answer := 0x80000000 }
  | (w, ts) :: r =>
    let s1 := ((s.setCore c { s.core c with fifo := r }).put (F.ADC_FIFO_LVL_LEVEL c) r.length).put64 (F.ADC_FIFO_TS_LO_NS c) ts
    { s1 with answer := w }

/-- R130: a read of ADCc_FIFO. -/
def execAdcFifoRead (c : Nat) (s : State) : Out := .next (if c < 8 then s.fifoRead c else s)

/-- R118: a write to ADC_REF. -/
def execAdcRefWrite (v : Word) (s : State) : Out := .next (s.refWrite (bits v.toNat 1 0))

/-- R118, R530: the settling time of the selected reference has passed. -/
def execRefSettled (s : State) : Out := s.awake (
  .next (if s.adc.settling && !s.sys.inReset then
      let t := s.holdAllFlags
      { t.put F.ADC_BLK_STAT_REF_SETTLED 1 with adc := { t.adc with settling := false } }
    else s))

/-- R516: AVDD falls below 4.6 V. -/
def execAvddLow (s0 : State) : Out :=
  let s := { s0 with sys := { s0.sys with railHist := putBit s0.sys.railHist 3 true } }.holdAllFlags
  .next ({ s.put F.ADC_BLK_STAT_REF_SETTLED 0 with adc := { s.adc with settling := false } })

/-- R516: AVDD rises above 4.7 V: settling restarts. -/
def execAvddReturn (s : State) : Out :=
  .next (if s.on F.ADC_BLK_STAT_REF_SETTLED then s else { s with adc := { s.adc with settling := true } })

/-- R126: ARM of a core is written. -/
def execAdcArmWrite (c : Nat) (v : Word) (s : State) : Out := .next (if c < 8 then s.armWrite c (bitOf v.toNat 0) else s)

/-- R121: calibration of core `c` starts. -/
def State.calStart (s : State) (c : Nat) : State :=
  (s.setBit F.ADC_BLK_STAT_CAL_VALID c false).setBit F.ADC_BLK_STAT_CAL_BUSY c true

/-- R121: core code writes CAL_GO. -/
def State.calGo (s : State) (c : Nat) : State :=
  if s.adcArmed c || s.calBusy c then s.reject bADC else s.calStart c

/-- R121: core code writes CAL_GO. -/
def execCalGo (c : Nat) (s : State) : Out := .next (if c < 8 then s.calGo c else s)

/-- R45, R47: once calibration of every core and the Sluice self-test have ended, STAGE passes FW_RUN to RING_JOIN, which enables the
ring ports; a failed self-test is recorded. -/
def State.bootAdvance (s : State) : State :=
  if s.stage = STAGE_ADC_CAL && s.get F.ADC_BLK_STAT_CAL_BUSY = 0 && s.get F.STO_BLK_STAT_STATE ≠ 0 then
    let s1 := s.setStage STAGE_FW_RUN
    (((if s.get F.STO_BLK_STAT_STATE = 3 then s1.stageFail 0x05 else s1).put F.RING_CTRL_HA_EN 1).put F.RING_CTRL_HB_EN 1).setStage
      STAGE_RING_JOIN
  else s

/-- R135: ADC_CALIBRATE packets whose cores have all finished are answered. -/
def State.answerCals (s : State) (c : Nat) : State :=
  let ws := s.adc.calWait.map (fun e => (e.1, putBit e.2 c false))
  let s1 := { s with adc := { s.adc with calWait := ws.filter (fun e => e.2 ≠ 0) } }
  (ws.filter (fun e => e.2 = 0)).foldl (fun t e => t.done e.1 stDONE) s1

/-- R121: the calibration of core `c` ends with factors OFFS, GAIN, LIN, or fails. -/
def State.calDone (s : State) (c : Nat) (factors : Option (Nat × Nat × List Nat)) : State :=
  let s0 := s.setBit F.ADC_BLK_STAT_CAL_BUSY c false
  let s1 := match factors with
    | some (offs, gain, lin) =>
      ((List.range 16).foldl (fun (t : State) k => t.put (F.ADC_LIN_LIN c k) (lin.getD k 0))
        ((s0.put (F.ADC_OFFS_OFFS c) offs).put (F.ADC_GAIN_GAIN c) gain)).setBit F.ADC_BLK_STAT_CAL_VALID c true
    | none =>
      let t := s0.post 0x0510 c 0 0
      if decide (t.stage = STAGE_ADC_CAL) && decide (t.get F.SYS_BOOT_STAT_ERR ≠ 0x04) then t.stageFail 0x04 else t
  (s1.answerCals c).bootAdvance

/-- R121: a core's calibration ends; it began once the reference had settled. -/
def execAdcCalDone (c : Nat) (factors : Option (Nat × Nat × List Nat)) (s : State) : Out := s.awake (
  .next (if decide (c < 8) && s.calBusy c && s.on F.ADC_BLK_STAT_REF_SETTLED then s.calDone c factors else s))

/-- R135: core `c` feeds a slot in CLOSED or OBSERVER. -/
def State.coreFeeds (s : State) (c : Nat) : Bool :=
  s.usedSlots.any (fun n => (s.slotSt n = slCLOSED || s.slotSt n = slOBSERVER) &&
    ((s.fbSrc n = 0 && bits (s.get (F.SLOT_FB_SEL n)) 2 0 = c) ||
     (s.get (F.SLOT_CFG0_SP_SRC n) = 3 && bits (s.get (F.SLOT_SP_SEL n)) 2 0 = c) ||
     (s.modelEn n && bits (s.mw n 8) 31 28 = 0 && bits (s.mw n 8) 2 0 = c)))

/-- R135: ADC_CONFIG values that are reserved. -/
def adcConfigBad (p : Pkt) : Bool :=
  outside (p.w 0) 0x103 || bits (p.w 0) 1 0 = 3 || outside (p.w 1) 0xFF || outside (p.w 2) 0x3F1F0003 ||
  decide (48 ≤ bits (p.w 2) 29 24) || outside (p.w 3) 0x7F ||
  (List.range 4).any (fun k => outside (p.w (5 + 2 * k)) 0x80000F0F)

/-- R135: ADC_CONFIG that is answered BUSY. -/
def State.adcConfigBusy (s : State) (p : Pkt) : Bool :=
  let cs := List.range 8
  cs.any (fun c => bitOf (p.w 1) c && bitOf (p.w 2) 0 && s.adcArmed c &&
    (decide (s.get (F.ADC_CTRL_PWM_SEL c) ≠ bits (p.w 2) 29 24) || decide (s.get (F.ADC_CTRL_TRIG_EN c) ≠ bits (p.w 2) 20 16))) ||
  (bitOf (p.w 0) 8 && cs.any (fun c => (s.adcArmed c && !cfgDisarms p c) || s.calBusy c))

/-- R135: ADC_CONFIG. -/
def execAdcConfig (p : Pkt) (s : State) : Out :=
  .next (s.command p opAdcConfig
    [(adcConfigBad p, stBAD_PARAM), (s.adcConfigBusy p, stBUSY),
     ((List.range 8).any (fun c => cfgDisarms p c && s.adcArmed c && s.coreFeeds c), stLOOP_CLOSED)]
    (fun t =>
      let t1 := (List.range 8).foldl (fun u c => if cfgDisarms p c then u.armWrite c false else u) t
      { t1 with adc := { t1.adc with cfgWait := t1.adc.cfgWait ++ [p] } }.cfgCheck))

/-- R135: ADC_CALIBRATE. -/
def execAdcCalibrate (p : Pkt) (s : State) : Out :=
  let cs := (List.range 8).filter (fun c => bitOf (p.w 0) c)
  .next (s.command p opAdcCalibrate
    [(decide (p.w 0 = 0) || outside (p.w 0) 0xFF, stBAD_PARAM), (cs.any (fun c => s.adcArmed c || s.calBusy c), stBUSY)]
    (fun t =>
      let t1 := cs.foldl State.calStart (t.accept p)
      { t1 with adc := { t1.adc with calWait := t1.adc.calWait ++ [(p, p.w 0)] } }))

/-- R127, R135: ADC_SEQUENCE. BUSY is for a commit that core code holds pending; one of another packet for this core goes first
(R79, `State.commitWaits`). -/
def execAdcSequence (p : Pkt) (s : State) : Out :=
  let c := bits (p.w 0) 2 0
  .next (s.command p opAdcSequence
    [(outside (p.w 0) 7 || decide (p.w 1 = 0) || decide (16 < p.w 1) ||
        (List.range 16).any (fun k => outside (p.w (k + 2)) 0xFFF3F), stBAD_PARAM),
     (s.keyPending bADC, stBUSY)]
    (fun t =>
      let t1 := (List.range 17).foldl (fun u k =>
        u.setWord ((F.ADC_SEQ_CFG_LEN c).addr + 0x800 + 4 * k) (Word.of (p.w (k + 1)))) t
      let t2 := (t1.acqNow c).askCommit bADC c (some p)
      if (t2.core c).running then t2 else t2.commitAdc c t2.now))

/-- R135, R136: ADC_READ. -/
def execAdcRead (p : Pkt) (s : State) : Out :=
  let c := bits (p.w 0) 2 0
  let n := bits (p.w 0) 22 16
  let trig := bitOf (p.w 0) 9
  .next (s.command p opAdcRead
    [(outside (p.w 0) 0x7F0307 || decide (n = 0) || decide (64 < n), stBAD_PARAM),
     (trig && !(s.on (F.ADC_CTRL_ARM c) && bitOf (s.get (F.ADC_CTRL_TRIG_EN c)) 0), stNOT_PERMITTED)]
    (fun t =>
      if trig then
        let t1 := t.acqNow c
        let e := adcEdge t1.time.tick
        let w : AdcWait := { pkt := p, core := c, lost := decide (t1.trigFate c e = .lost),
                             started := (t1.core c).running && decide ((t1.core c).edge = e) }
        { t1 with adc := { t1.adc with readWait := t1.adc.readWait ++ [w] } }.adcTrigger c 16
      else t.answerRead p false))

/-- R136: an ADC_READ with TRIGGER has waited 1 ms. -/
def execAdcReadTimeout (p : Pkt) (s : State) : Out :=
  .next (if s.adc.readWait.any (fun w => w.pkt = p) then
      { s with adc := { s.adc with readWait := s.adc.readWait.filter (fun w => w.pkt ≠ p) } }.done p stTIMEOUT
    else s)

end Sys2Proof.Machine
end

