-- ==== Sys2Proof/Machine/Enc.lean ====
section
/-! DEFINITION. Encoder interfaces: counts, index, own latch, serial transfers, errors, commands (09_motion R247-R254). -/

namespace Sys2Proof.Machine

/-- The interior of encoder `n`. -/
def State.encI (s : State) (n : Nat) : EncInt := tabGet {} s.motion.encs n

/-- The state with the interior of encoder `n` set. -/
def State.setEnc (s : State) (n : Nat) (v : EncInt) : State :=
  { s with motion := { s.motion with encs := tabSet {} s.motion.encs n v } }

/-- MODE code SSI. -/
def mdSSI : Nat := 4

/-- The interior of axis `n`. -/
def State.ax (s : State) (n : Nat) : AxisInt := tabGet {} s.motion.axes n

/-- The state with the interior of axis `n` set. -/
def State.setAx (s : State) (n : Nat) (v : AxisInt) : State :=
  { s with motion := { s.motion with axes := tabSet {} s.motion.axes n v } }

/-- R247: the count of encoder `n` changes by `d`, inverted when DIR is 1; it wraps modulo 2^64. -/
def State.encCount (s : State) (n : Nat) (d : Int) : State :=
  s.puti64 (F.ENC_POS_LO n) (s.geti64 (F.ENC_POS_LO n) + (if s.on (F.ENC_DIR n) then -d else d))

/-- R252: an error of encoder `n`: ERR, LAST_ERR, ERR_COUNT, and the interrupt line of source 152 + n. -/
def State.encErr (s : State) (n code : Nat) : State :=
  ((((s.put (F.ENC_ERR n) 1).put (F.ENC_LAST_ERR n) code).incSat (F.ENC_ERR_COUNT n)).line (152 + n) true).setEnc n
    { s.encI n with errAt := s.now }

/-- R252: ERR of encoder `n` clears. -/
def State.encErrClear (s : State) (n : Nat) : State := (s.put (F.ENC_ERR n) 0).line (152 + n) false

/-- R247: what newly accepted levels of A and B count, in mode `m`, from levels a0, b0; none where both channels of a
quadrature encoder change on one tick. A leads B when A changes away from B, or B changes to A. -/
def encDelta (m : Nat) (a0 b0 a b : Bool) : Option Int :=
  let up (x : Bool) : Int := if x then 1 else -1
  if m = 3 then some (if a && !a0 then up (!b) else 0)
  else if a != a0 && b != b0 then none
  else if a != a0 then
    (match m with
     | 0 => some (up (a != b))
     | 1 => some (up (a != b))
     | _ => some (if a then up (!b) else 0))
  else if b != b0 then some (if m = 0 then up (a = b) else 0)
  else some 0

/-- R247: new levels of A and B of encoder `n` are accepted on one tick. -/
def State.encEdge (s : State) (n : Nat) (a b : Bool) : State :=
  let e := s.encI n
  let s1 := s.setEnc n { e with a := a, b := b }
  if !s.on (F.ENC_EN n) || decide (mdSSI ≤ s.get (F.ENC_MODE n)) then s1
  else
    match encDelta (s.get (F.ENC_MODE n)) e.a e.b a b with
    | none => s1.encErr n 1
    | some d => s1.encCount n d

/-- R430: the count and the error bit of encoder `n` as the mirror stream carries them. -/
def State.encItem (s : State) (n : Nat) : MirItem := .enc n (s.geti64 (F.ENC_POS_LO n)) (s.on (F.ENC_ERR n))

/-- R430: the ACTIVE mirrors encoder `n` where the mask names it. -/
def State.mirEncSend (s : State) (n : Nat) : State := s.mirInputIf (bitOf (s.get F.LASH_MIR_ENC) n) (s.encItem n)

/-- R430: the ACTIVE mirrors a new count or error bit of encoder `n`. -/
def State.mirEncOut (s old : State) (n : Nat) : State :=
  if s.get64 (F.ENC_POS_LO n) ≠ old.get64 (F.ENC_POS_LO n) ∨ s.on (F.ENC_ERR n) ≠ old.on (F.ENC_ERR n) then s.mirEncSend n else s

/-- R248: levels that a pin shows on `samples` CTL_CLK ticks in a row are accepted from FILT + 1 on. -/
def State.encPasses (s : State) (n samples : Nat) : Bool := decide (s.get (F.ENC_FILT n) < samples)

/-- R247, R248: A and B of encoder `n` take the levels `a`, `b` and show them on `samples` ticks in a row. -/
def execEncEdge (n : Nat) (a b : Bool) (samples : Nat) (s : State) : Out := s.awake (
  .next (if decide (n < 16) && !s.mirEnc n && s.encPasses n samples then (s.encEdge n a b).mirEncOut s n else s))

/-- R249: an index edge of the polarity that ZINV selects: ZPOS, ZSEEN, and in ZMODE 2 (first edge) and 3 the count
clears. -/
def State.encIndex (s : State) (n : Nat) : State :=
  let z := s.get (F.ENC_ZMODE n)
  if !s.on (F.ENC_EN n) || decide (mdSSI ≤ s.get (F.ENC_MODE n)) || z = 0 then s
  else
    let s1 := (s.put64 (F.ENC_ZPOS_LO n) (s.get64 (F.ENC_POS_LO n))).put (F.ENC_ZSEEN n) 1
    if z = 3 || (z = 2 && !s.on (F.ENC_ZSEEN n)) then s1.put64 (F.ENC_POS_LO n) 0 else s1

/-- R249: a new level of Z of encoder `n` is accepted: it is an index edge where it rises with ZINV 0, or falls with ZINV 1. -/
def State.encZ (s : State) (n : Nat) (level : Bool) : State :=
  let e := s.encI n
  let s1 := s.setEnc n { e with z := level }
  if e.z != level && level != s.on (F.ENC_ZINV n) then s1.encIndex n else s1

/-- R248, R249: Z of encoder `n` takes a level and shows it on `samples` ticks in a row; counts accepted on the same tick come first. -/
def execEncIndex (n : Nat) (level : Bool) (samples : Nat) (s : State) : Out := s.awake (
  .next (if decide (n < 16) && !s.mirEnc n && s.encPasses n samples then (s.encZ n level).mirEncOut s n else s))

/-- R251: BUSY of encoder `n` as it stands: the TM time of an ended transfer may have passed. -/
def State.encBusyNow (s : State) (n : Nat) : State :=
  match (s.encI n).tmEnd with
  | none => s
  | some t => if t ≤ s.now then (s.put (F.ENC_BUSY n) 0).setEnc n { s.encI n with tmEnd := none } else s

/-- R251: an own latch starts a transfer, or finds one running. -/
def State.encTransfer (s : State) (n : Nat) : State :=
  let s1 := s.encBusyNow n
  if !s1.on (F.ENC_BUSY n) then s1.put (F.ENC_BUSY n) 1 else if s1.mirEnc n then s1 else (s1.encErr n 5).mirEncOut s1 n

/-- R250, R251: the own latch of encoder `n`: LATCH, LTS; in SSI mode a transfer starts. -/
def State.encLatch (s : State) (n : Nat) : State :=
  if !s.on (F.ENC_EN n) then s
  else
    let s1 := (s.put64 (F.ENC_LATCH_LO n) (s.get64 (F.ENC_POS_LO n))).put64 (F.ENC_LTS_LO n) s.now
    if s1.get (F.ENC_MODE n) = mdSSI then s1.encTransfer n else s1

/-- R250: the own latches that fall at the sample point of generator `g`. -/
def State.encLatchGen (s : State) (g : Nat) : State :=
  ((List.range 16).filter (fun n => s.get (F.ENC_LSEL n) = 1 && s.get (F.ENC_LGEN n) = g)).foldl State.encLatch s

/-- R250: the own latches that fall at the start of a ring cycle. -/
def State.encLatchRing (s : State) : State :=
  ((List.range 16).filter (fun n => s.get (F.ENC_LSEL n) = 2)).foldl State.encLatch s

/-- Gray code of `w` bits, read from the most significant bit. -/
def grayDecode : Nat → Nat → Nat
  | 0, _ => 0
  | w + 1, g =>
    let hi := grayDecode w (g / 2)
    2 * hi + (g + hi) % 2

/-- The number of ones in the low `w` bits. -/
def onesIn : Nat → Nat → Nat
  | 0, _ => 0
  | w + 1, v => v % 2 + onesIn w (v / 2)

/-- R250, R251: class-A slots that read encoder `n` are released; those whose FB2_SEL names it latch it. -/
def State.encRelease (s0 : State) (n : Nat) : State :=
  let s := (s0.usedSlots.filter (fun m => classA m && s0.fb2Enc m && s0.mw m 8 % 16 = n)).foldl (fun (t : State) m => t.latchFb2 m) s0
  (s.usedSlots.filter (fun m => classA m && (s.fbSrc m = 1 || s.fbSrc m = 2) &&
    s.get (F.SLOT_FB_SEL m) % 16 = n)).foldl (fun t m => t.tickSlot m false) s

/-- R251, R430: a good transfer leaves count `v`: each one is mirrored, and releases slots. -/
def State.ssiCounted (s : State) (n : Nat) (v : Nat) : State := ((s.setEnc n { s.encI n with vPrev := some v }).mirEncSend n).encRelease n

/-- R251: a good transfer with decoded value `v`. -/
def State.ssiGood (s : State) (n v : Nat) : State :=
  let e := s.encI n
  let w := s.get (F.ENC_NBITS n)
  match e.vPrev with
  | none => (s.put64 (F.ENC_POS_LO n) v).ssiCounted n v
  | some p =>
    let d := sgn w (v + 2 ^ w - p)
    if s.get (F.ENC_MAXJUMP n) ≠ 0 ∧ s.get (F.ENC_MAXJUMP n) < d.natAbs then (s.encErr n 4).mirEncOut s n
    else (s.encCount n d).ssiCounted n v

/-- R251: the clock of encoder `n` has returned high: its TM time begins. -/
def State.ssiPause (s : State) (n : Nat) : State :=
  s.setEnc n { s.encI n with tmEnd := some (s.now + 1000 * max 1 (s.get (F.ENC_TM n))) }

/-- R251: a transfer has been read: `raw` holds the data bits and then the parity bit. -/
def State.ssiDone (s : State) (n raw : Nat) (lineLow : Bool) : State :=
  let s1 := s.ssiPause n
  let w := s.get (F.ENC_NBITS n)
  let par := s.get (F.ENC_PARITY n)
  let data := (if par = 0 then raw else raw / 2) % 2 ^ w
  let ones := onesIn (w + 1) raw
  if lineLow then (s1.encErr n 3).mirEncOut s1 n
  else if par ≠ 0 && decide (ones % 2 ≠ (if par = 2 then 1 else 0)) then (s1.encErr n 2).mirEncOut s1 n
  else s1.ssiGood n (if s.on (F.ENC_GRAY n) then grayDecode w data else data)

/-- R251: the transfer of encoder `n` that runs has been read: its bits, and whether the line idled low before it; R430: of an encoder that
is mirrored nothing is taken from the pin. -/
def execSsiTransferDone (n raw : Nat) (lineLow : Bool) (s : State) : Out := s.awake (
  .next (if decide (n < 16) && s.on (F.ENC_EN n) && s.get (F.ENC_MODE n) = mdSSI && s.on (F.ENC_BUSY n) && (s.encI n).tmEnd = none then
      (if s.mirEnc n then s.ssiPause n else s.ssiDone n raw lineLow)
    else s))

/-- R252: ERR_CLR is written 1. -/
def execEncErrClr (n : Nat) (s : State) : Out := .next (if n < 16 then (s.encErrClear n).mirEncOut s n else s)

/-- R252: no error has occurred for ERR_HOLD times 10 us; R430: the error bit of a mirrored encoder comes with its count. -/
def execEncErrHoldExpiry (n : Nat) (s : State) : Out := s.awake (
  .next (if decide (n < 16) && !s.mirEnc n && s.on (F.ENC_ERR n) && decide (s.get (F.ENC_ERR_HOLD n) ≠ 0) then
      let t := s.advanceTo ((s.encI n).errAt + 10000 * s.get (F.ENC_ERR_HOLD n))
      (t.encErrClear n).mirEncOut t n
    else s))

/-- R249, R251, R252: EN of encoder `n` is written: a rise clears ERR_COUNT, ZSEEN and what transfers have left; a fall
ends a transfer that runs (log entry 20). -/
def State.encEnable (s : State) (n : Nat) (b : Bool) : State :=
  if s.on (F.ENC_EN n) = b then s
  else
    let s1 := ((s.put (F.ENC_EN n) (b2n b)).put (F.ENC_BUSY n) 0).setEnc n { s.encI n with vPrev := none, tmEnd := none }
    if b then (s1.put (F.ENC_ERR_COUNT n) 0).put (F.ENC_ZSEEN n) 0 else s1

/-- R247, R249, R253: a word for ENCn_CFG that holds a reserved code. -/
def encCfgBad (v : Nat) : Bool := decide (5 ≤ bits v 30 28) || bits v 19 18 = 3 || decide (48 ≤ bits v 17 12)

/-- R253: the bits of ENCn_CFG other than EN and ERR_HOLD. -/
def encCfgLock : Nat := 0x7FFFF000

/-- R247, R253: a write to ENCn_CFG; MODE and the other run-locked fields may not change while EN is 1; R28: what such a
word writes to EN and ERR_HOLD takes effect all the same. -/
def State.encCfgWrite (s : State) (n v : Nat) : State :=
  let a := (F.ENC_EN n).addr
  let old := (s.word a).toNat
  let locked := bitOf old 31
  if encCfgBad v && !locked then s.reject bMOTION
  else
    let new := if locked then Nat.land old encCfgLock + Nat.land v 0xFF else Nat.land v 0x7FFFF0FF
    let s1 := if locked && decide (Nat.land old encCfgLock ≠ Nat.land v encCfgLock)
      then s.lockReject bMOTION (0x100 + n) (a - bMOTION) false else s
    (s1.setWord a (Word.of (new + (if locked then 2 ^ 31 else 0)))).encEnable n (bitOf v 31)

/-- R254: a slot in CLOSED or OBSERVER reads encoder `n`. -/
def State.encFeeds (s : State) (n : Nat) : Bool :=
  s.usedSlots.any (fun m => (s.slotSt m = slCLOSED || s.slotSt m = slOBSERVER) &&
    (((s.fbSrc m = 1 || s.fbSrc m = 2) && s.get (F.SLOT_FB_SEL m) % 16 = n) ||
     (s.get (F.SLOT_CFG0_SP_SRC m) = 4 && !bitOf (s.get (F.SLOT_SP_SEL m)) 15 && s.get (F.SLOT_SP_SEL m) % 16 = n) ||
     (s.modelEn m && (bits (s.mw m 8) 31 28 = 1 || bits (s.mw m 8) 31 28 = 2) && s.mw m 8 % 16 = n)))

/-- AXn_STAT: STATE codes (R245). -/
def axDISABLED : Nat := 0
def axSTANDSTILL : Nat := 1
def axMOVING : Nat := 2
def axSTOPPING : Nat := 3
def axGEARED : Nat := 4
def axCAMMING : Nat := 5
def axERROR : Nat := 6

/-- STATE of axis `n`. -/
def State.axSt (s : State) (n : Nat) : Nat := s.get (F.AX_STATE n)

/-- R242: an axis counts as running in every state except DISABLED. -/
def State.axRuns (s : State) (n : Nat) : Bool := s.axSt n ≠ axDISABLED

/-- R232, R233: axis `n` is coupled to a master. -/
def State.engaged (s : State) (n : Nat) : Bool := s.axSt n = axGEARED || s.axSt n = axCAMMING

/-- R254: an enabled axis uses encoder `n` as master or as following-error source. -/
def State.encOnAxis (s : State) (n : Nat) : Bool :=
  (List.range 96).any (fun a => s.axRuns a &&
    ((s.get (F.AX_FE_SRC a) = 1 && s.get (F.AX_FE_INST a) % 16 = n) ||
     (s.engaged a && (s.ax a).eng.kind = 0 && (s.ax a).eng.mstr = n)))

/-- R254: the words of ENC_CONFIG that are out of range. -/
def encConfigBad (p : Pkt) : Bool :=
  outside (p.w 0) 0x1000F || outside (p.w 1) 0xFFFFF0FF || outside (p.w 2) 0xFFFFF8FF || encCfgBad (p.w 1) ||
  bits (p.w 2) 12 11 = 3 || (bits (p.w 1) 30 28 = mdSSI && bits (p.w 1) 19 18 = 0) ||
  decide (bits (p.w 2) 19 14 < 8) || decide (48 < bits (p.w 2) 19 14) ||
  decide (bits (p.w 2) 31 20 < 20) || decide (4000 < bits (p.w 2) 31 20)

/-- R254: what ENC_CONFIG does: disable, settings, preset, enable. -/
def State.encConfig (s : State) (p : Pkt) (n : Nat) : State :=
  let a := (F.ENC_EN n).addr
  let s1 := if bitOf (p.w 1) 31 then s else s.encEnable n false
  let en := Nat.land (s1.word a).toNat (2 ^ 31)
  let s2 := ((s1.setWord a (Word.of (Nat.land (p.w 1) 0x7FFFF0FF + en))).setWord (F.ENC_SSI_HALF n).addr (Word.of (p.w 2))).setWord
    (F.ENC_MAXJUMP n).addr (Word.of (p.w 3))
  let s3 := if bitOf (p.w 0) 16 then s2.put64 (F.ENC_POS_LO n) (p.w 4 + 2 ^ 32 * p.w 5) else s2
  (if bitOf (p.w 1) 31 then s3.encEnable n true else s3).done p stDONE

/-- R254: ENC_CONFIG. -/
def execEncConfig (p : Pkt) (s : State) : Out :=
  let n := bits (p.w 0) 3 0
  let stays := s.on (F.ENC_EN n) && bitOf (p.w 1) 31
  let clears := s.on (F.ENC_EN n) && !bitOf (p.w 1) 31
  let changes := decide (Nat.land (s.word (F.ENC_EN n).addr).toNat encCfgLock ≠ Nat.land (p.w 1) encCfgLock) ||
    decide ((s.word (F.ENC_SSI_HALF n).addr).toNat ≠ p.w 2) || decide ((s.word (F.ENC_MAXJUMP n).addr).toNat ≠ p.w 3)
  .next (s.command p opEncConfig
    [(encConfigBad p, stBAD_PARAM), (stays && (changes || bitOf (p.w 0) 16), stNOT_PERMITTED),
     (clears && s.encFeeds n, stLOOP_CLOSED), (clears && s.encOnAxis n, stBUSY)]
    (fun t => t.encConfig p n))

/-- A 64-bit value as two words, low word first. -/
def State.pairWords (s : State) (f : Fld) : List Nat := [(s.word f.addr).toNat, (s.word (f.addr + 4)).toNat]

/-- R254: ENC_READ. -/
def execEncRead (p : Pkt) (s : State) : Out :=
  let n := bits (p.w 0) 3 0
  .next (s.command p opEncRead [(outside (p.w 0) 0xF, stBAD_PARAM)]
    (fun t0 =>
      let t := t0.encBusyNow n
      t.doneRes p ([(t.word (F.ENC_EN n).addr).toNat, (t.word (F.ENC_ERR n).addr).toNat] ++ t.pairWords (F.ENC_POS_LO n) ++
        t.pairWords (F.ENC_LATCH_LO n) ++ t.pairWords (F.ENC_ZPOS_LO n) ++ t.pairWords (F.ENC_LTS_LO n))))

end Sys2Proof.Machine
end

