-- ==== Sys2Proof/Machine/Motion.lean ====
section
/-! DEFINITION. Axes: profiles, queue, gears, cams, trims, coils, following error, and the servo boundary
(09_motion R220-R244). -/

namespace Sys2Proof.Machine

/-- R245: bits of AXn_STICKY. -/
def abMOVE_DONE : Nat := 2
def abREQ_REFUSED : Nat := 3
def abRES_CHANGE : Nat := 4
def abBLEND_MISS : Nat := 5
def abFE_WARN : Nat := 6
def abFE_FAULT : Nat := 7
def abFOLLOW_LIM : Nat := 8
def abSOFT_LIM : Nat := 9
def abSTO_STOP : Nat := 10

/-- R245: MOTION_SUMk shows whether AXn_STICKY is not 0. -/
def State.axSum (s : State) (n : Nat) : State :=
  let f := F.MOTION_SUM_ANY (n / 32)
  s.put f (putBit (s.get f) (n % 32) (decide (s.get (F.AX_STICKY n) ≠ 0)))

/-- R245: bit `b` of AXn_STICKY is set; a bit that goes from 0 to 1 sets AXIS_FLAG. -/
def State.axFlag (s : State) (n b : Nat) : State :=
  let old := s.get (F.AX_STICKY n)
  if bitOf old b then s else ((s.put (F.AX_STICKY n) (old + 2 ^ b)).axSum n).raise bMOTION 8

/-- R245: bits of AXn_STICKY are cleared by a write of ones. -/
def State.axStickyClear (s : State) (n m : Nat) : State :=
  let old := s.get (F.AX_STICKY n)
  (s.put (F.AX_STICKY n) (old - Nat.land old m)).axSum n

/-- R245: STEP_AXES counts the axes with STEPPER = 1. -/
def State.refreshSteppers (s : State) : State :=
  s.put F.MOTION_BLK_STAT_STEP_AXES ((List.range 96).filter (fun n => s.on (F.AX_CFG_STEPPER n))).length

/-- R221: a position of a linear axis is held within its range. -/
def clampPos (x : Int) : Int := clampI (-9223372036854775808) 9223372036854775807 x

/-- R221: MODULO of axis `n` in 2^-32 count; 0 for a linear axis. -/
def State.axMod (s : State) (n : Nat) : Int := (s.get (F.AX_MODULO n) : Int) * 4294967296

/-- R221: the position an axis publishes: reduced into [0, M) on a rotary axis. -/
def State.axReduced (s : State) (n : Nat) (x : Int) : Int :=
  let m := s.axMod n
  if m = 0 then x else x % m

/-- R221: the travel that an axis keeps. -/
def State.axHeld (s : State) (n : Nat) (x : Int) : Int := if s.axMod n = 0 then clampPos x else x

/-- R225: limits in units of the profile. -/
structure AxLim where
  v : Int
  a : Int
  d : Int
  j : Int
  deriving DecidableEq, Repr

/-- R225: the limits of a move: its own values, or the axis's where it gives 0. -/
def State.axLim (s : State) (n : Nat) (m : Move) : AxLim :=
  let pick (x : Nat) (f : Fld) : Int := if x = 0 then s.get f else x
  { v := pick m.vmax (F.AXL_VMAX n) * 65536, a := pick m.amax (F.AXL_AMAX n) * 256,
    d := pick m.dmax (F.AXL_DMAX n) * 256, j := pick m.jmax (F.AXL_JMAX n) }

/-- R225: position, velocity and acceleration of a profile. -/
structure Pva where
  p : Int
  v : Int
  a : Int
  deriving DecidableEq, Repr

/-- R225: one period with jerk `j`: a, then v, then p. -/
def Pva.next (x : Pva) (j : Int) : Pva := { p := x.p + (x.v + (x.a + j)), v := x.v + (x.a + j), a := x.a + j }

/-- R225: where the profile of axis `x` stands. -/
def AxisInt.pva (x : AxisInt) : Pva := { p := x.p, v := x.v, a := x.a }

/-- R225: `n` periods with jerk `j`, and whether each meets `ok`. -/
def segRun (ok : Pva → Pva → Bool) (j : Int) : Nat → Pva × Bool → Pva × Bool
  | 0, r => r
  | n + 1, r => segRun ok j n (r.1.next j, r.2 && ok r.1 (r.1.next j))

/-- R225: segments run one after the other. -/
def segsRun (ok : Pva → Pva → Bool) (segs : List (Nat × Int)) (r : Pva × Bool) : Pva × Bool :=
  segs.foldl (fun (q : Pva × Bool) g => segRun ok g.2 g.1 q) r

/-- R225: AMAX while speed rises, DMAX while it falls; an acceleration that already lies above it only falls. -/
def accOk (l : AxLim) (x y : Pva) : Bool :=
  decide ((y.a.natAbs : Int) ≤ if x.v.natAbs < y.v.natAbs then l.a else l.d) || decide (y.a.natAbs < x.a.natAbs)

/-- R225: the segments that a jerk and ten lengths give an axis whose velocity is `v`: a deceleration (R228, R244), then jerk +J, 0,
-J, cruise, -J, 0, +J; a negative J is a move in the negative direction. -/
def segsOf (v : Int) (c : Int × List Nat) : List (Nat × Int) :=
  let slow : Int := if v < 0 then c.1.natAbs else -c.1.natAbs
  let jerks := [slow, 0, -slow, c.1, 0, -c.1, 0, -c.1, 0, c.1]
  (List.range 10).map (fun i => (c.2.getD i 0, jerks.getD i 0))

/-- 1/256 count (R225). -/
def corrMax : Nat := 16777216

/-- R227: whether a point lies on the near side of the target that a reversal may not pass. -/
def onSide (side : Option (Bool × Int)) (w : Pva) : Bool :=
  match side with
  | none => true
  | some (up, b) => if up then decide (w.p ≤ b) else decide (b ≤ w.p)

/-- R228: the speed of `x` points away from a target. -/
def pointsAway (x : Pva) (target : Int) : Bool :=
  (decide (0 < x.v) && decide (target ≤ x.p)) || (decide (x.v < 0) && decide (x.p ≤ target))

/-- R228, R244: the plan first decelerates where the speed exceeds VMAX or points away from the target, and else does not: it brings the
speed to VMAX, within what DMAX takes off in a period, or ends its pointing away. `y` is where the deceleration ends. -/
def slowOk (l : AxLim) (x y : Pva) (target : Int) (pre : List (Nat × Int)) : Bool :=
  let lens := pre.map (fun g => g.1)
  if pointsAway x target then decide (0 < lens.getD 0 0) && !pointsAway y target && decide ((y.v.natAbs : Int) ≤ l.v)
  else if l.v < x.v.natAbs then
    decide (0 < lens.getD 0 0) && decide ((y.v.natAbs : Int) ≤ l.v) && decide (l.v < y.v.natAbs + l.d)
  else lens.all (fun n => n = 0)

/-- R225: a profile that cruises does so at VMAX, one that holds its acceleration holds AMAX, or DMAX where speed falls, as nearly as
whole periods allow: only a move too short for them has a lower peak. `g` are the seven segments, `q` where each of them begins. -/
def peakOk (l : AxLim) (g : List (Nat × Int)) (q : List Pva) : Bool :=
  let len (i : Nat) : Nat := (g.getD i (0, 0)).1
  let at' (i : Nat) : Pva := q.getD i { p := 0, v := 0, a := 0 }
  let j : Int := (g.map (fun e => (e.2.natAbs : Int))).foldl max 0
  let held (i : Nat) : Bool :=
    let x := at' i
    let lim := if x.v.natAbs < (x.v + x.a).natAbs then l.a else l.d
    len i = 0 || decide (lim < x.a.natAbs + j)
  (len 3 = 0 || (decide ((at' 3).a = 0) && decide (l.v < (at' 3).v.natAbs + max l.a l.d))) && held 1 && held 5

/-- R225: where each of the segments begins, and the last one ends. -/
def segStarts : List (Nat × Int) → Pva → List Pva
  | [], x => [x]
  | g :: r, x => x :: segStarts r (segRun (fun _ _ => true) g.2 g.1 (x, true)).1

/-- R227, R229: `m` bounds the deceleration of a period from which a velocity and an acceleration can still reach 0 together. -/
def shed (j m : Nat) : Nat := let q := m / max 1 j; (q + 1) * m - max 1 j * (q * (q + 1) / 2)

/-- The largest number from `lo` to `hi` that meets `ok`, by halving; `lo` does. -/
def largest (ok : Nat → Bool) : Nat → Nat → Nat → Nat
  | 0, lo, _ => lo
  | f + 1, lo, hi =>
    if hi ≤ lo then lo
    else
      let mid := (lo + hi + 1) / 2
      if ok mid then largest ok f mid hi else largest ok f lo (mid - 1)

/-- R229, R232: the acceleration of the next period that brings the velocity difference `e` to 0 soonest, from acceleration `a`: the
largest towards 0, under the limit `lim` and a jerk of at most `j`, from which `e` and `a` can still reach 0 together. -/
def slowNext (e a : Int) (lim j : Nat) : Int :=
  let dir : Int := if e < 0 then 1 else -1
  let m0 := dir * a
  let lo := m0 - j
  let hi := max lo (min (lim : Int) (m0 + j))
  let m := if hi ≤ 0 then hi else max lo (largest (fun m => decide (shed j m ≤ e.natAbs)) 96 0 hi.toNat : Nat)
  dir * m

/-- R229: one period of a deceleration towards rest, under DMAX and JMAX. -/
def Pva.slow (x : Pva) (l : AxLim) : Pva := x.next (slowNext x.v x.a l.d.toNat l.j.toNat - x.a)

/-- R227: where a deceleration to rest from `x` ends, in at most `fuel` periods. -/
def restDist (l : AxLim) : Nat → Pva → Int
  | 0, x => x.p
  | f + 1, x => if x.v = 0 ∧ x.a = 0 then x.p else restDist l f (x.slow l)

/-- R229: the periods within which a deceleration from `x` comes to rest. -/
def restFuel (x : Pva) : Nat := 2 * (x.v.natAbs + x.a.natAbs) + 4

/-- R225: from `x` the axis comes to rest without passing the target. -/
def stopsBefore (l : AxLim) (x : Pva) (target : Int) (up : Bool) : Bool :=
  let e := restDist l (restFuel x) x
  if up then decide (e ≤ target) else decide (target ≤ e)

/-- R225, R227, R228, R244: what a plan from `x` to `target`, to be reached with velocity `vEnd`, has to meet: J is at most JMAX and
towards the target, unless the axis cannot stop before it; it first decelerates where it has to; speed and acceleration keep their
limits in every period; the peaks are reached; no point passes `side`; and what the last period corrects is at most 1/256 count. -/
def planOk (l : AxLim) (side : Option (Bool × Int)) (x : Pva) (target vEnd : Int) (segs : List (Nat × Int)) : Bool :=
  let up := decide (x.p < target)
  let pre := segsRun (fun u w => accOk l u w && onSide side w) (segs.take 3) (x, true)
  let r := segsRun (fun u w => accOk l u w && onSide side w && decide ((w.v.natAbs : Int) ≤ l.v)) (segs.drop 3) pre
  let j := (segs.getD 3 (0, 0)).2
  slowOk l x pre.1 target (segs.take 3) && peakOk l (segs.drop 3) (segStarts (segs.drop 3) pre.1) &&
  (decide (0 < j) = up || !stopsBefore l x target up) &&
  segs.all (fun g => decide ((g.2.natAbs : Int) ≤ l.j)) && r.2 && decide (0 < (segs.map (fun g => g.1)).sum) &&
  decide ((target - r.1.p).natAbs ≤ corrMax) && decide ((vEnd - r.1.v).natAbs ≤ corrMax) && decide (r.1.a = 0)

/-- R225: the jerk of period `k` of a plan. -/
def jerkAt : List (Nat × Int) → Nat → Int
  | [], _ => 0
  | g :: r, k => if k < g.1 then g.2 else jerkAt r (k - g.1)

/-- R225: how many periods a plan has. -/
def Plan.total (q : Plan) : Nat := (q.segs.map (fun g => g.1)).sum

/-- R227: the period of a plan in which its final deceleration begins. -/
def Plan.lookAt (q : Plan) : Nat := ((q.segs.take 7).map (fun g => g.1)).sum

/-- R225, R227, R228, R244: a plan from where axis `x` stands: what the planner answers, where it meets the rules; else none. -/
def planFrom (x : AxisInt) (side : Option (Bool × Int)) (target vEnd : Int) (l : AxLim) (looked : Bool) : Plan :=
  let segs := segsOf x.v (Config.planSegs [x.p, x.v, x.a, target, vEnd, l.v, l.a, l.d, l.j])
  { target := target, vEnd := vEnd, segs := if planOk l side x.pva target vEnd segs then segs else [], side := side,
    k := 0, looked := looked, missed := looked && x.plan.missed }

/-- R227: the joint velocity: the largest that is not above either move's VMAX and from which the next move comes to rest within its
own length `d`. -/
def jointVel (l ln : AxLim) (d : Nat) : Nat :=
  largest (fun v => decide (restDist ln (2 * v + 2) { p := 0, v := v, a := 0 } ≤ d)) 64 0 (min l.v ln.v).toNat

/-- R225: the speed that `x`, moving in its direction of acceleration, reaches while that acceleration falls to 0 under JMAX. -/
def topSpeed (l : AxLim) (v a : Int) : Int := if 0 < a then v + (shed l.j.toNat a.toNat - a.toNat : Nat) else v

/-- R225, R228, R244: one period of a move to rest on `target` without segments to follow: as fast as the limits allow, under JMAX, and
never so fast that the axis could not stop on its target. Speed that exceeds VMAX is first brought to it, and speed that points away
is first taken off. -/
def Pva.toward (x : Pva) (l : AxLim) (target : Int) : Pva :=
  let up := decide (x.p < target) || (decide (x.p = target) && decide (0 < x.v))
  let dir : Int := if up then 1 else -1
  let v := dir * x.v
  let a := dir * x.a
  if v < 0 then x.slow l
  else if l.v < v then x.next (dir * slowNext (v - l.v) a l.d.toNat l.j.toNat - x.a)
  else
    let lo := min a (max (a - l.j) (-l.d))
    let hi := max lo (min (a + l.j) l.a)
    let y (k : Nat) : Pva := x.next (dir * (lo + k) - x.a)
    let ok (k : Nat) : Bool := decide (topSpeed l (v + (lo + k)) (lo + k) ≤ l.v) && stopsBefore l (y k) target up
    if ok 0 then y (largest ok 96 0 (hi - lo).toNat) else x.slow l

/-- R226, R228: the next move of the queue starts, from where the axis stands. -/
def State.startMove (s : State) (n : Nat) : State :=
  let x := { s.ax n with plan := {} }
  match x.queue with
  | [] => s
  | m :: r =>
    let s1 := s.setAx n { x with queue := r, move := some m, plan := planFrom x none m.target 0 (s.axLim n m) false }
    (s1.put (F.AX_MOVE_ID n) m.id).put (F.AX_QLEVEL n) r.length

/-- R227: what the joint of the running move `m` with the next move does to its plan: the plan through the joint replaces it where one
meets the rules. -/
def State.planJointOf (s : State) (n : Nat) (m nxt : Move) : Plan :=
  let x := s.ax n
  let l := s.axLim n m
  let ln := s.axLim n nxt
  let d1 := m.target - x.p
  let d2 := nxt.target - m.target
  let up := decide (0 < d1)
  let q :=
    if m.stop || d1 = 0 || d2 = 0 then x.plan
    else if (0 < d1) = (0 < d2) then
      planFrom x none m.target (if up then (jointVel l ln d2.natAbs : Int) else -(jointVel l ln d2.natAbs : Int)) l true
    else
      let tol := s.get (F.AXL_BLEND_TOL n) * 65536
      let t : Int := (min (min tol d1.natAbs) (Config.planTurn [x.p, x.v, x.a, m.target, nxt.target, l.v, l.a, l.d, l.j]) : Nat)
      planFrom x (some (up, m.target)) (if up then m.target - t else m.target + t) 0
        l true
  { (if q.segs.isEmpty then x.plan else q) with looked := true }

/-- R227: at the period in which the final deceleration would begin, the joint is planned once. -/
def State.lookAhead (s : State) (n : Nat) : State :=
  let x := s.ax n
  match x.move with
  | none => s
  | some m =>
    if x.plan.looked || x.plan.segs.isEmpty || decide (x.plan.k < x.plan.lookAt) then s
    else
      match x.queue with
      | [] => s.setAx n { x with plan := { x.plan with looked := true, missed := true } }
      | nxt :: _ => s.setAx n { x with plan := s.planJointOf n m nxt }

/-- R225, R227, R242: the running move of axis `n` has ended. -/
def State.endMove (s : State) (n : Nat) : State :=
  let s1 := s.incWrap (F.AX_MOVES_DONE n)
  let x := s1.ax n
  if x.queue.isEmpty then
    ((s1.setAx n { x with move := none }).put (F.AX_STATE n) axSTANDSTILL).axFlag n abMOVE_DONE
  else (if x.plan.missed then s1.axFlag n abBLEND_MISS else s1).startMove n

/-- R225: the profile of axis `n` stands at `y`. -/
def State.setPva (s : State) (n : Nat) (y : Pva) (q : Plan) : State :=
  s.setAx n { s.ax n with p := s.axHeld n y.p, v := y.v, a := y.a, plan := q }

/-- R225: one period of the plan `q` of axis `n`; its last period sets p to the target and v and a to the joint values. -/
def State.planStep (s : State) (n : Nat) (q : Plan) : State :=
  let x := s.ax n
  let y := x.pva.next (jerkAt q.segs q.k)
  if q.k + 1 < q.total then s.setPva n y { q with k := q.k + 1 }
  else if decide ((q.target - y.p).natAbs ≤ corrMax) && decide ((q.vEnd - y.v).natAbs ≤ corrMax) then
    (s.setPva n { p := q.target, v := q.vEnd, a := 0 } q).endMove n
  else s.setPva n y { q with segs := [], looked := true }

/-- R225: what the last period of a move corrects at most. -/
def nearTarget (y : Pva) (target : Int) : Bool :=
  decide ((target - y.p).natAbs ≤ corrMax) && decide (y.v.natAbs ≤ corrMax) && decide (y.a.natAbs ≤ corrMax)

/-- R225, R228: one period of a move whose plan has no segments to follow, because the planner's answer does not meet the rules: the axis
moves under every limit to rest on its target, or on the near side of the target of a reversal (log entry 32). -/
def State.unplanned (s : State) (n : Nat) (l : AxLim) : State :=
  let q := (s.ax n).plan
  let y := (s.ax n).pva.toward l q.target
  if nearTarget y q.target then (s.setPva n { p := q.target, v := 0, a := 0 } q).endMove n else s.setPva n y q

/-- R225: one period of the running move. -/
def State.moveStep (s : State) (n : Nat) : State :=
  let s1 := s.lookAhead n
  let x := s1.ax n
  match x.move with
  | none => s1
  | some m => if x.plan.segs.isEmpty then s1.unplanned n (s1.axLim n m) else s1.planStep n x.plan

/-- R229: one period of a quick stop: QDEC leaves the speed, which reaches exactly 0. -/
def State.quickStep (s : State) (n : Nat) : State :=
  let x := s.ax n
  let q : Nat := s.get (F.AXL_QDEC n) * 256
  let v := towards x.v 0 q
  s.setAx n { x with p := s.axHeld n (x.p + v), v := v, a := v - x.v }

/-- R229: one period of a normal stop, under DMAX and JMAX. -/
def State.stopStep (s : State) (n : Nat) : State := s.setPva n ((s.ax n).pva.slow (s.axLim n {})) (s.ax n).plan

/-- R242: STOPPING ends when v and a are 0. -/
def State.stopping (s : State) (n : Nat) : State :=
  let x := s.ax n
  if x.v = 0 ∧ x.a = 0 then s.put (F.AX_STATE n) axSTANDSTILL
  else
    let s1 := if x.quick then s.quickStep n else s.stopStep n
    if (s1.ax n).v = 0 ∧ (s1.ax n).a = 0 then s1.put (F.AX_STATE n) axSTANDSTILL else s1

/-- R226, R228, R229: the queue and the running move are discarded, and the master is disengaged. -/
def State.dropMoves (s : State) (n : Nat) : State :=
  let s1 := s.setAx n { s.ax n with queue := [], move := none }
  (s1.put (F.AX_QLEVEL n) 0).put (F.AX_LOCKED n) 0

/-- R229: a stop of axis `n` begins. -/
def State.beginStop (s : State) (n : Nat) (quick : Bool) : State :=
  let s1 := s.dropMoves n
  (s1.setAx n { s1.ax n with quick := quick }).put (F.AX_STATE n) axSTOPPING

/-- R234, R241: a quick stop into ERROR. -/
def State.quickError (s : State) (n : Nat) : State :=
  let s1 := s.dropMoves n
  (s1.setAx n { s1.ax n with quick := true, stoStop := false }).put (F.AX_STATE n) axERROR

/-- R232, R233: the unreduced position of a master: an encoder's count, or an axis's set-point (R223). -/
def State.masterPos (s : State) (e : Engage) : Int :=
  if e.kind = 0 then s.geti64 (F.ENC_POS_LO e.mstr) * 4294967296 else (s.ax e.mstr).p

/-- R232, R233: where that position stood one period before: at the axis's own last boundary, or the set-point before the master's
last. -/
def State.masterLast (s : State) (n : Nat) (e : Engage) : Int :=
  if e.kind = 0 then tabGet 0 (s.ax n).encPrev e.mstr * 4294967296
  else
    match (s.ax e.mstr).history with
    | _ :: b :: _ => b
    | _ => (s.ax e.mstr).p - (s.ax e.mstr).v

/-- R235: the trim that a period applies. -/
def State.trimStep (s : State) (n : Nat) : State :=
  let x := s.ax n
  let left := s.geti (F.AX_TRIM_LEFT n)
  let rest := towards left 0 x.eng.rate
  (s.puti (F.AX_TRIM_LEFT n) rest).setAx n { x with trim := x.trim + (left - rest) }

/-- R234: whether a target exceeds VMAX, AMAX or DMAX, and whether it leaves the soft limits. -/
def State.followBad (s : State) (n : Nat) (target : Int) : Bool × Bool :=
  let x := s.ax n
  let l := s.axLim n {}
  let v := target - x.p
  let lim := if x.v.natAbs < v.natAbs then l.a else l.d
  (decide (l.v < v.natAbs) || decide (lim < (v - x.v).natAbs),
   s.axMod n = 0 && s.on (F.AX_CFG_SOFTLIM_EN n) &&
     (decide (target < s.geti (F.AXL_POS_MIN n) * 4294967296) || decide (s.geti (F.AXL_POS_MAX n) * 4294967296 < target)))

/-- R234: a target outside the limits: the flags, disengagement, a quick stop into ERROR. -/
def State.followStop (s : State) (n : Nat) (bad : Bool × Bool) : State :=
  let s1 := if bad.1 then s.axFlag n abFOLLOW_LIM else s
  (if bad.2 then s1.axFlag n abSOFT_LIM else s1).quickError n

/-- R234: a target of a locked gear or a cam is followed exactly, or refused with a quick stop into ERROR. -/
def State.follow (s : State) (n : Nat) (target : Int) : State :=
  let x := s.ax n
  let bad := s.followBad n target
  if bad.1 || bad.2 then (s.followStop n bad).quickStep n
  else s.setAx n { x with p := s.axHeld n target, v := target - x.p, a := target - x.p - x.v }

/-- R232: the ratio applied to a travel of the master. -/
def gearOf (e : Engage) (d : Int) : Int := rneDiv (d * e.num) (max 1 e.den)

/-- R232: whether the velocity lies within LOCK_TOL of the master's times the ratio. -/
def gearNear (e : Engage) (v dm : Int) : Bool := decide ((v * e.den - dm * e.num).natAbs ≤ e.tol * 65536 * e.den)

/-- R232: the limit on a change of velocity by way of the difference `e` to the master's: AMAX while speed rises, DMAX while it falls, and
near standstill, where it may fall and rise again, both. -/
def chaseLim (l : AxLim) (v e : Int) : Nat :=
  if v = 0 ∨ (decide (0 < v) = decide (e < 0)) then l.a.toNat
  else if l.d ≤ v.natAbs then l.d.toNat else (min l.a l.d).toNat

/-- R232: one period of a gear that is not locked: under JMAX, AMAX and DMAX the velocity changes towards the master's of the last
period times the ratio; it locks once near with acceleration 0. -/
def State.chase (s : State) (n : Nat) (m dm : Int) : State :=
  let x := s.ax n
  let l := s.axLim n {}
  let e := x.v - gearOf x.eng dm
  let a := if gearNear x.eng x.v dm && x.a = 0 then 0 else slowNext e x.a (chaseLim l x.v e) l.j.toNat
  let p := s.axHeld n (x.p + (x.v + a))
  let s1 := s.setAx n { x with p := p, v := x.v + a, a := a }
  if gearNear x.eng (x.v + a) dm && a = 0 then
    (s1.setAx n { s1.ax n with s0 := p - gearOf x.eng (m - x.m0) - x.trim * 65536 }).put (F.AX_LOCKED n) 1
  else s1

/-- R236: point `i` of cam table `t`. -/
def State.camPoint (s : State) (t i : Nat) : Int := sgn 64 (s.get64 ⟨(F.CAM_PT t i).addr, 31, 0⟩)

/-- R233: what the cam adds to S0 for a travel `d` of the master, trim included. -/
def State.camOf (s : State) (e : Engage) (d : Int) : Int :=
  let cyc : Int := (max 1 e.mcyc : Nat) * 4294967296
  let phi := d % cyc
  let x := phi * 4096 / (max 1 e.mcyc : Nat)
  let i := (x / 4294967296).toNat
  let f := x % 4294967296
  let pt (k : Nat) : Int := if k < 4096 then s.camPoint e.tab k else s.camPoint e.tab 0 + e.lift * 4294967296
  pt i + rne ((pt (i + 1) - pt i) * f) 32 + e.lift * 4294967296 * (d / cyc)

/-- R232-R235: the target of a cam or a locked gear. -/
def State.coupledTarget (s : State) (n : Nat) : Int :=
  let x := s.ax n
  let d := s.masterPos x.eng - x.m0
  if s.axSt n = axCAMMING then x.s0 + s.camOf x.eng (d + x.trim * 65536) else x.s0 + gearOf x.eng d + x.trim * 65536

/-- R232, R233: axis `n` follows its target exactly. -/
def State.axLocked (s : State) (n : Nat) : Bool := s.axSt n = axCAMMING || (s.axSt n = axGEARED && s.on (F.AX_LOCKED n))

/-- R232-R235: one period of a coupled axis. -/
def State.coupledStep (s : State) (n : Nat) : State :=
  let s1 := s.trimStep n
  let x := s1.ax n
  let m := s1.masterPos x.eng
  let s2 := s1.setAx n { x with mPrev := m }
  if s2.axLocked n then s2.follow n (s2.coupledTarget n) else s2.chase n m (m - x.mPrev)

/-- R234, R243: the follow limit and the soft limits are judged before the requests of the boundary. -/
def State.axLimits (s : State) (n : Nat) : State :=
  let t := s.trimStep n
  let bad := t.followBad n (t.coupledTarget n)
  if s.axLocked n && (bad.1 || bad.2) then s.followStop n bad else s

/-- R240: the actual position of axis `n`, 64 bits in 2^-32 count; none without a source. -/
def State.axActual (s : State) (n : Nat) : Option Int :=
  match s.get (F.AX_FE_SRC n) with
  | 1 => some (s.geti64 (F.ENC_POS_LO (s.get (F.AX_FE_INST n) % 16)) * 4294967296)
  | 2 =>
    let d := (s.rxSeg (s.get (F.AX_FE_INST n))).data
    let w := s.get (F.AX_FE_WORD n)
    some (sgn 64 (d.getD w 0 + 2 ^ 32 * d.getD (w + 1) 0))
  | _ => none

/-- R242: the set-point of axis `n` while the group's safe state has stopped it. -/
def State.followActual (s : State) (n : Nat) : State :=
  s.setAx n { s.ax n with p := s.axHeld n ((s.axActual n).getD (s.ax n).p), v := 0, a := 0 }

/-- R225, R229, R232-R235, R242: the set-point of the period, from what the axis does. -/
def State.axAdvance (s : State) (n : Nat) : State :=
  let st := s.axSt n
  if st = axMOVING then s.moveStep n
  else if st = axSTOPPING then s.stopping n
  else if st = axGEARED ∨ st = axCAMMING then s.coupledStep n
  else if st = axERROR then (if (s.ax n).stoStop then s.followActual n else s.quickStep n)
  else s

/-- R244: a limit set that is not committed: a limit of 0, soft limits out of order, a stepper too fast. -/
def axSetBad (softlim stepper : Bool) (l : Nat → Nat) : Bool :=
  l 0 = 0 || l 1 = 0 || l 2 = 0 || l 3 = 0 || l 4 = 0 || (softlim && decide (sgn 32 (l 9) ≤ sgn 32 (l 8))) ||
  (stepper && decide (0x800000 < l 0))

/-- R244: the words of a limit set. -/
def axSetFlds (n : Nat) : List Fld :=
  [F.AXL_VMAX n, F.AXL_AMAX n, F.AXL_DMAX n, F.AXL_JMAX n, F.AXL_QDEC n, F.AXL_BLEND_TOL n, F.AXL_FE_WARN n,
   F.AXL_FE_LIM n, F.AXL_POS_MIN n, F.AXL_POS_MAX n]

/-- R244: whether the limit set in force (off 0) or staged (off 0x800) of axis `n` is not one to commit. -/
def State.axLimBad (s : State) (n off : Nat) : Bool :=
  axSetBad (s.on (F.AX_CFG_SOFTLIM_EN n)) (s.on (F.AX_CFG_STEPPER n))
    (fun i => (s.word ((F.AXL_VMAX n).addr + off + 4 * i)).toNat)

/-- R244: the running plan is made anew from the present p, v and a. -/
def State.axReplan (s : State) (n : Nat) : State :=
  let x := s.ax n
  match x.move with
  | some m =>
    let l := s.axLim n m
    s.setAx n { x with plan := planFrom x x.plan.side x.plan.target (clampI (-l.v) l.v x.plan.vEnd) l x.plan.looked }
  | none => s

/-- R244: the commit of axis `n`, at device time `t`. -/
def State.commitAxis (s : State) (n t : Nat) : State :=
  if s.axLimBad n 0x800 then (s.axFlag n abREQ_REFUSED).endCommit bMOTION n stBAD_PARAM t
  else ((s.activateAll (axSetFlds n)).endCommit bMOTION n stDONE t).axReplan n

/-- R223, R244: the commit of axis `n` at its servo period boundary `t`, if it was asked for before the 2 us window opens. -/
def State.axisSafePoint (s : State) (n t : Nat) : State :=
  s.safePoint bMOTION n 801 (s.tickAt t) (fun _ => false) (fun u => u.commitAxis n t)

/-- R246: a move from the words 1-8 of AXIS_MOVE; its target is resolved when it is appended. -/
def moveOf (ws : List Nat) (target : Int) : Move :=
  let w1 := ws.getD 0 0
  { id := bits w1 31 16, neg := bitOf w1 4, stop := bitOf w1 3, abort := bitOf w1 2, rel := bitOf w1 1, target := target,
    vmax := ws.getD 3 0, amax := ws.getD 4 0, dmax := ws.getD 5 0, jmax := ws.getD 6 0 }

/-- The signed 64-bit target or distance of a move descriptor. -/
def moveDist (ws : List Nat) : Int := sgn 64 (ws.getD 1 0 + 2 ^ 32 * ws.getD 2 0)

/-- R221, R226: the unreduced target of a move that starts at `base`. -/
def State.moveTarget (s : State) (n : Nat) (ws : List Nat) (base : Int) : Int :=
  let t := moveDist ws
  let m := s.axMod n
  if bitOf (ws.getD 0 0) 1 then (if m = 0 then clampPos (base + t) else base + t)
  else if m = 0 then t
  else if bitOf (ws.getD 0 0) 4 then base - (base - t) % m
  else base + (t - base) % m

/-- R226, R228: where a move appended now would start. -/
def State.moveBase (s : State) (n : Nat) (abort : Bool) : Int :=
  let x := s.ax n
  if abort then x.p
  else
    match x.queue.getLast? with
    | some m => m.target
    | none => (match x.move with | some m => m.target | none => x.p)

/-- R246: values of a move descriptor that are out of range for axis `n`. -/
def State.moveBad (s : State) (n : Nat) (ws : List Nat) : Bool :=
  let w1 := ws.getD 0 0
  let lims := [F.AXL_VMAX n, F.AXL_AMAX n, F.AXL_DMAX n, F.AXL_JMAX n]
  let t := s.moveTarget n ws (s.moveBase n (bitOf w1 2))
  outside w1 0xFFFF001E || decide (ws.getD 7 0 ≠ 0) ||
  (List.range 4).any (fun i => decide (s.get (lims.getD i (F.AXL_VMAX n)) < ws.getD (3 + i) 0)) ||
  (F.AXL_QDEC n :: lims).any (fun f => s.get f = 0) ||
  (s.axMod n = 0 && s.on (F.AX_CFG_SOFTLIM_EN n) &&
    (decide (t < s.geti (F.AXL_POS_MIN n) * 4294967296) || decide (s.geti (F.AXL_POS_MAX n) * 4294967296 < t))) ||
  (decide (s.axMod n ≠ 0) && !bitOf w1 1 && (decide (moveDist ws < 0) || decide (s.axMod n ≤ moveDist ws)))

/-- R245: the parameter words of axis `n` as a GEAR or CAM request reads them. -/
def State.reqWords (s : State) (n : Nat) (r : AxReq) : List Nat :=
  let w (f : Fld) : Nat := (s.word f.addr).toNat
  if !r.words.isEmpty then r.words
  else if r.code = 6 then
    [w (F.AX_MSTR n), w (F.AX_GEAR_NUM n), w (F.AX_GEAR_DEN n), w (F.AX_LOCK_TOL n), w (F.AX_TRIM_RATE n)]
  else if r.code = 7 then
    [w (F.AX_MSTR n), w (F.AX_CAM_TAB n), w (F.AX_CAM_MCYC n), w (F.AX_CAM_LIFT n), w (F.AX_TRIM_RATE n)]
  else []

/-- R245, R246: a master word that names no master. -/
def mstrBad (w : Nat) : Bool :=
  outside w 0xC000007F || decide (2 ≤ bits w 31 30) || decide ((if bits w 31 30 = 0 then 16 else 96) ≤ bits w 6 0)

/-- R233: the master moved by 0 in the last period. -/
def State.masterStill (s : State) (n w : Nat) : Bool :=
  let e : Engage := { kind := bits w 31 30, mstr := bits w 6 0 }
  decide (s.masterPos e = s.masterLast n e)

/-- R226-R235, R242, R246: the status of a request against the state axis `n` is in; DONE where it is accepted. -/
def State.axReqStatus (s : State) (n : Nat) (r : AxReq) : Nat :=
  let st := s.axSt n
  let ws := s.reqWords n r
  let rest := decide ((s.ax n).v = 0)
  let safe := s.unitSafe (s.get (F.AX_CFG_STO_GRP n))
  let checks : List (Bool × Nat) :=
    match r.code with
    | 1 =>
      let abort := bitOf (ws.getD 0 0) 2
      [(s.moveBad n ws, stBAD_PARAM),
       (st = axDISABLED || st = axERROR || (!abort && (st = axSTOPPING || st = axGEARED || st = axCAMMING)), stNOT_PERMITTED),
       (!abort && decide (16 ≤ (s.ax n).queue.length), stQUEUE_FULL)]
    | 2 => [(st = axDISABLED || st = axERROR, stNOT_PERMITTED)]
    | 3 => [(st = axDISABLED || st = axERROR, stNOT_PERMITTED)]
    | 4 => [((st = axDISABLED || st = axERROR) && safe, stSAFE_STATE), (s.axLimBad n 0, stBAD_PARAM),
            (st = axERROR && !rest, stBUSY)]
    | 5 => [(st = axMOVING || st = axSTOPPING || st = axGEARED || st = axCAMMING || (st = axERROR && !rest), stBUSY)]
    | 6 => [(mstrBad (ws.getD 0 0) || ws.getD 2 0 = 0, stBAD_PARAM), (!(st = axSTANDSTILL || st = axMOVING), stNOT_PERMITTED)]
    | 7 => [(mstrBad (ws.getD 0 0) || outside (ws.getD 1 0) 0x1F || ws.getD 2 0 = 0, stBAD_PARAM),
            (!(st = axSTANDSTILL) || !s.masterStill n (ws.getD 0 0), stNOT_PERMITTED)]
    | _ => [(!(st = axGEARED || st = axCAMMING), stNOT_PERMITTED)]
  (firstFail checks).getD stDONE

/-- R242: axis `n` is enabled. -/
def State.axEnable (s : State) (n : Nat) : State :=
  if s.axSt n = axDISABLED ∨ s.axSt n = axERROR then
    let x := s.ax n
    (s.setAx n { x with p := s.axHeld n ((s.axActual n).getD x.p), v := 0, a := 0, quick := false, stoStop := false,
                        queue := [], move := none, feCount := 0 }).put (F.AX_STATE n) axSTANDSTILL
  else s

/-- R232, R233: axis `n` is coupled to a master; what trims had applied or left is dropped (log entry 22). -/
def State.axEngage (s : State) (n : Nat) (e : Engage) (st : Nat) : State :=
  let s1 := (s.dropMoves n).put (F.AX_TRIM_LEFT n) 0
  let m := s1.masterPos e
  let x := { s1.ax n with eng := e, m0 := m, mPrev := s1.masterLast n e, trim := 0 }
  let s2 := (s1.setAx n x).put (F.AX_STATE n) st
  if st = axCAMMING then (s2.setAx n { x with s0 := x.p - s2.camOf e 0 }).put (F.AX_LOCKED n) 1 else s2

/-- R226, R228: a move is appended, or with ABORT_REPLACE replaces what the axis does. -/
def State.axMove (s : State) (n : Nat) (ws : List Nat) : State :=
  let abort := bitOf (ws.getD 0 0) 2
  let m := moveOf ws (s.moveTarget n ws (s.moveBase n abort))
  let s0 := if abort then s.dropMoves n else s
  let x := s0.ax n
  let s1 := (s0.setAx n { x with queue := x.queue ++ [m] }).put (F.AX_QLEVEL n) (x.queue.length + 1)
  if abort || s.axSt n = axSTANDSTILL then (s1.put (F.AX_STATE n) axMOVING).startMove n else s1

/-- R226-R235, R242: an accepted request takes effect. What TRIM_LEFT holds where added trims pass 32 bits the manual does not say: it is
held at the largest value, a DESIGN CHOICE (log entry 146). -/
def State.axApply (s : State) (n : Nat) (r : AxReq) : State :=
  let ws := s.reqWords n r
  let w (i : Nat) : Nat := ws.getD i 0
  match r.code with
  | 1 => s.axMove n ws
  | 2 => if s.axSt n = axSTOPPING then s else s.beginStop n false
  | 3 => if s.axSt n = axSTOPPING then s.setAx n { s.ax n with quick := true } else s.beginStop n true
  | 4 => s.axEnable n
  | 5 => s.put (F.AX_STATE n) axDISABLED
  | 6 =>
    let e : Engage := { kind := bits (w 0) 31 30, mstr := bits (w 0) 6 0, num := sgn 32 (w 1), den := w 2, tol := w 3, rate := w 4 }
    s.axEngage n e axGEARED
  | 7 =>
    let e : Engage := { kind := bits (w 0) 31 30, mstr := bits (w 0) 6 0, tab := w 1, mcyc := w 2, lift := sgn 32 (w 3), rate := w 4 }
    s.axEngage n e axCAMMING
  | _ => s.puti (F.AX_TRIM_LEFT n) (clampI q31Min q31Max (s.geti (F.AX_TRIM_LEFT n) + sgn 32 (w 0)))

/-- R223: whether a request was accepted before the 2 us (800 ticks) window of the boundary at tick `b` opens. -/
def AxReq.before (r : AxReq) (b : Nat) : Bool := decide (r.tick + 800 < (b : Int))

/-- R223, R243: the requests accepted for this boundary, in order, each checked against the state the previous one
left; a refused register request sets REQ_REFUSED. Those accepted within the window wait for the next. `b` is the boundary. -/
def State.axRequests (s : State) (n b : Nat) : State :=
  let rs := (s.ax n).reqs
  (rs.filter (fun r => r.before (s.tickAt b))).foldl (fun (t : State) r =>
    let st := t.axReqStatus n r
    let t1 := if st = stDONE then t.axApply n r else t
    match r.pkt with
    | some p => t1.doneAt p st b
    | none => if st = stDONE then t1 else t1.axFlag n abREQ_REFUSED)
    (s.setAx n { s.ax n with reqs := rs.filter (fun r => !r.before (s.tickAt b)) })

/-- R242: the safe state of the axis's group stops it. -/
def State.axSto (s : State) (n : Nat) : State :=
  if s.axRuns n && !(s.ax n).stoStop && s.unitSafe (s.get (F.AX_CFG_STO_GRP n)) then
    let s1 := (s.dropMoves n).put (F.AX_STATE n) axERROR
    ((s1.setAx n { s1.ax n with stoStop := true }).followActual n).axFlag n abSTO_STOP
  else s

/-- R240: whether the source of the actual position is fresh at this boundary, and the state that has seen it. -/
def State.feFresh (s : State) (n : Nat) : Bool × State :=
  if s.get (F.AX_FE_SRC n) = 2 then
    let seg := s.get (F.AX_FE_INST n)
    let f := (s.rxSeg seg).fresh
    (decide (f ≠ none) && decide (f ≠ (s.ax n).ringFresh) && s.ownerPresent seg, s.setAx n { s.ax n with ringFresh := f })
  else (true, s)

/-- R240: the following error for a set-point, saturated to 32 bits, in 2^-16 count. -/
def feOf (sp act : Int) : Int := clampI q31Min q31Max (rne (sp - act) 16)

/-- R240: the set-point that the following error is formed from, when the set-point of this boundary is `sp`. -/
def State.feSetPoint (s : State) (n : Nat) (sp : Int) : Int :=
  let d := s.get (F.AX_FE_DLY n)
  if d = 0 then sp else (s.ax n).history.getD (d - 1) sp

/-- R241: the following error is judged. -/
def State.feJudge (s : State) (n : Nat) (fe : Int) : State :=
  let s1 := if s.get (F.AXL_FE_WARN n) < fe.natAbs then s.axFlag n abFE_WARN else s
  if s.get (F.AXL_FE_LIM n) < fe.natAbs then
    let c := (s1.ax n).feCount
    let s2 := s1.setAx n { s1.ax n with feCount := c + 1 }
    if c = s.get (F.AX_FE_N n) then
      let s3 := (s2.axFlag n abFE_FAULT).post 0x0810 n (unsgn 32 fe) 0
      let s4 := if s.on (F.AX_FE_SLOT_EN n) then
          s3.setSlot (s.get (F.AX_FE_SLOT n)) { s3.slot (s.get (F.AX_FE_SLOT n)) with feDet := true } else s3
      if s.on (F.AX_FE_STOP n) then s4.quickError n else s4
    else s2
  else s1.setAx n { s1.ax n with feCount := 0 }

/-- R240, R241: the following error of this boundary, before the requests: formed from the set-point that the axis
would publish without them when FE_DLY is 0 (log entry 23). -/
def State.feStep (s : State) (n : Nat) : State :=
  match s.axActual n with
  | none => s
  | some act =>
    if s.axSt n = axDISABLED ∨ s.axSt n = axERROR then s
    else s.feJudge n (feOf (s.feSetPoint n ((s.axAdvance n).ax n).p) act)

/-- R237: W of the quarter wave. -/
def State.msWave (s : State) (x : Nat) : Int :=
  let r := x % 256
  match x / 256 % 4 with
  | 0 => s.geti (F.MS_TAB r)
  | 1 => s.geti (F.MS_TAB (256 - r))
  | 2 => -s.geti (F.MS_TAB r)
  | _ => -s.geti (F.MS_TAB (256 - r))

/-- R237: counts per step of resolution `r`. -/
def resStep (r : Nat) : Nat := [1, 4, 16, 64, 128, 256].getD r 256

/-- R238: the resolution wanted, upwards. -/
def State.resUp (s : State) (t : Nat) (v : Nat) : Nat → Nat → Nat
  | 0, w => w
  | k + 1, w => if w < 5 ∧ s.get (F.SPD_UP t w) * 65536 < v then s.resUp t v k (w + 1) else w

/-- R238: the resolution wanted, downwards. -/
def State.resDown (s : State) (t : Nat) (v : Nat) : Nat → Nat
  | 0 => 0
  | w + 1 => if v < s.get (F.SPD_DN t w) * 65536 then s.resDown t v w else w + 1

/-- R237-R239: the coil currents of stepper axis `n` after a period from position `p0`. -/
def State.coils (s : State) (n : Nat) (p0 : Int) : State :=
  let x := s.ax n
  let t := s.get (F.AX_CFG_STEP_TAB n)
  let res := s.get (F.AX_RES n)
  let want := s.resDown t x.v.natAbs (s.resUp t x.v.natAbs 5 (min 5 res))
  let c0 := p0 / 4294967296
  let c1 := x.p / 4294967296
  let still := if x.v = 0 ∧ x.a = 0 then x.still + 1 else 0
  let hold := decide (0 < still) && decide (s.get (F.AX_CFG_HOLD_DLY n) ≤ still)
  let cur := if hold then s.geti (F.AX_I_HOLD n) else s.geti (F.AX_I_RUN n)
  let change := want ≠ res && c0 / 256 ≠ c1 / 256
  let th : Nat := if change then ((max (c0 / 256) (c1 / 256) * 256) % 1024).toNat else (c1 % 1024).toNat
  let thq := if change then th else th - th % resStep res
  let out (a : Nat) : Int := (sat31 (rne (cur * s.msWave (a % 1024)) 31)).1
  let s1 := s.setAx n { x with still := still, coilB := out thq, coilA := out (thq + 256) }
  if change then (s1.put (F.AX_RES n) want).axFlag n abRES_CHANGE else s1

/-- R231: the words that axis `n` writes into its ring segment. -/
def State.axWords (s : State) (n : Nat) : List Nat :=
  let x := s.ax n
  let p := unsgn 64 (s.axReduced n x.p)
  let vel := unsgn 32 (sat31 (rne (x.v * s.geti (F.AX_VEL_SCALE n)) 29)).1
  match s.get (F.AX_CONTENT n) with
  | 0 => [p % 2 ^ 32, p / 2 ^ 32]
  | 1 => [vel]
  | _ => [p % 2 ^ 32, p / 2 ^ 32, vel]

/-- R231, R528: the axis writes into its segment the words that the schedule in force gives this node. -/
def State.axDeliver (s : State) (n : Nat) : State :=
  if s.get (F.AX_CFG_TGT n) = 1 then
    let seg := s.get (F.AX_SEGMENT n)
    let w := s.get (F.AX_WORD n)
    let ws := s.axWords n
    (List.range ws.length).foldl (fun t i => if t.txOk seg (w + i) then t.deliver (1024 + n) seg (w + i) (ws.getD i 0) else t) s
  else s

/-- R223, R240: what axis `n` publishes at its boundary; `fresh` tells whether its following error is formed. -/
def State.axPublish (s : State) (n : Nat) (p0 : Int) (fresh : Bool) : State :=
  let x := s.ax n
  let s1 := (s.puti64 (F.AX_POS_LO n) (s.axReduced n x.p)).puti64 (F.AX_VEL_LO n) x.v
  let s2 := match s1.axActual n with
    | none => s1
    | some act =>
      let t := s1.puti64 (F.AX_ACT_LO n) act
      if fresh && s1.axSt n ≠ axDISABLED && s1.axSt n ≠ axERROR then t.puti (F.AX_FE n) (feOf (s1.feSetPoint n x.p) act) else t
  let encs := ((List.range 16).filter (fun e => s2.geti64 (F.ENC_POS_LO e) ≠ 0)).map (fun e => (e, s2.geti64 (F.ENC_POS_LO e)))
  let s3 := s2.setAx n { x with history := (x.p :: x.history).take 16, encPrev := encs }
  (if s3.on (F.AX_CFG_STEPPER n) then s3.coils n p0 else s3).axDeliver n

/-- R223, R242-R244: the servo boundary of axis `n`: the commit of its limit set, then safe state, following error, follow and soft
limits, requests (R243), and the set-point. `b` is the instant of the boundary. -/
def State.axBoundary (b : Nat) (s : State) (n : Nat) : State :=
  let p0 := (s.ax n).p
  let s1 := (s.axisSafePoint n b).axSto n
  let fr := s1.feFresh n
  let s2 := if fr.1 then fr.2.feStep n else fr.2
  (((s2.axLimits n).axRequests n b).axAdvance n).axPublish n p0 fr.1

/-- R222, R223: the servo boundaries that fall on multiple `k` of the ring cycle, or of 20 us, at device time `b`, in ascending axis. -/
def State.servoBoundaries (s : State) (k b : Nat) : State :=
  ((List.range 96).filter (fun n => k % (s.get (F.AX_CFG_SERVO_DIV n) + 1) = 0)).foldl (State.axBoundary b) s

/-- R147, R222: while the ring is not running, device time comes to `k` times 20 us: the servo boundaries of the axes whose SERVO_DIV
divides `k`, before the snapshot of that instant. While the ring runs the boundaries are part of the start of a ring cycle; a
boundary that device time has passed by 20 us or more is none. -/
def execServoBoundary (k : Nat) (s : State) : Out := s.awake (
  .next (if s.ringRuns || decide (20000 * k + 20000 ≤ s.now) then s else ((s.advanceTo (20000 * k)).servoBoundaries k (20000 * k)).takeSnap))

end Sys2Proof.Machine
end

