-- ==== Sys2Proof/Machine/AxisCmd.lean ====
section
/-! DEFINITION. Requests and commands to axes and their tables (09_motion R226-R237, R245, R246). -/

namespace Sys2Proof.Machine

/-- R223, R226: a request joins those of the next boundary. One that no earlier request precedes is checked at once
against the state the axis is in; the rest are checked at the boundary (R243). -/
def State.axEnqueue (s : State) (n : Nat) (r : AxReq) : State :=
  let x := s.ax n
  let st := if x.reqs.isEmpty then s.axReqStatus n r else stDONE
  if st = stDONE then s.setAx n { x with reqs := x.reqs ++ [{ r with tick := r.tick + s.time.tick }] }
  else
    match r.pkt with
    | some p => s.done p st
    | none => s.axFlag n abREQ_REFUSED

/-- R245: core code writes REQ of axis `n`. -/
def State.axReg (s : State) (n code : Nat) (words : List Nat) : State :=
  if n < 96 then s.axEnqueue n { code := code, words := words } else s

/-- R226: REQ = PUSH appends the move descriptor that MOVE0-MOVE7 hold. -/
def execAxisReqPush (n : Nat) (s : State) : Out :=
  .next (s.axReg n 1 ((List.range 8).map (fun i => s.get (F.AX_MOVE n i))))

/-- R229: REQ = STOP. -/
def execAxisReqStop (n : Nat) (s : State) : Out := .next (s.axReg n 2 [])

/-- R229: REQ = QUICK_STOP. -/
def execAxisReqQuickStop (n : Nat) (s : State) : Out := .next (s.axReg n 3 [])

/-- R242: REQ = ENABLE. -/
def execAxisReqEnable (n : Nat) (s : State) : Out := .next (s.axReg n 4 [])

/-- R242: REQ = DISABLE. -/
def execAxisReqDisable (n : Nat) (s : State) : Out := .next (s.axReg n 5 [])

/-- R232: REQ = GEAR; the parameter words are read when it takes effect. -/
def execAxisReqGear (n : Nat) (s : State) : Out := .next (s.axReg n 6 [])

/-- R233: REQ = CAM; the parameter words are read when it takes effect. -/
def execAxisReqCam (n : Nat) (s : State) : Out := .next (s.axReg n 7 [])

/-- R235: REQ = TRIM, with the TRIM_DELTA that stands when it is written. -/
def execAxisReqTrim (n : Nat) (s : State) : Out := .next (s.axReg n 8 [s.get (F.AX_TRIM_DELTA n)])

/-- R246: a motion command on the axis of word 0: the Sluice check of its unit (R81 step 9) where it has one, its own parameter checks,
then a request for the next boundary. -/
def State.axCommand (s : State) (p : Pkt) (op : Nat) (safe bad : Bool) (code : Nat) (words : List Nat) : State :=
  let n := bits (p.w 0) 6 0
  s.command p op [(safe, stSAFE_STATE), (outside (p.w 0) 0x7F || decide (96 ≤ n) || bad, stBAD_PARAM)]
    (fun t => t.axEnqueue n { code := code, words := words, pkt := some p })

/-- Words `lo` to `lo + n - 1` of a packet. -/
def pktWs (p : Pkt) (lo n : Nat) : List Nat := (List.range n).map (fun i => p.w (lo + i))

/-- R226, R228: AXIS_MOVE. -/
def execAxisMove (p : Pkt) (s : State) : Out := .next (s.axCommand p opAxisMove false false 1 (pktWs p 1 8))

/-- R229: AXIS_STOP. -/
def execAxisStop (p : Pkt) (s : State) : Out :=
  .next (s.axCommand p opAxisStop false (outside (p.w 1) 1) (if bitOf (p.w 1) 0 then 3 else 2) [])

/-- R81, R242, R246: AXIS_ENABLE would enable an axis whose STO group is in safe state; behind requests that wait it is checked at the
boundary (R243). -/
def State.enableUnsafe (s : State) (p : Pkt) : Bool :=
  let n := bits (p.w 0) 6 0
  bitOf (p.w 1) 0 && decide (n < 96) && (s.ax n).reqs.isEmpty && (s.axSt n = axDISABLED || s.axSt n = axERROR) &&
  s.unitSafe (s.get (F.AX_CFG_STO_GRP n))

/-- R242: AXIS_ENABLE. -/
def execAxisEnable (p : Pkt) (s : State) : Out :=
  .next (s.axCommand p opAxisEnable (s.enableUnsafe p) (outside (p.w 1) 1) (if bitOf (p.w 1) 0 then 4 else 5) [])

/-- R232: AXIS_GEAR. -/
def execAxisGear (p : Pkt) (s : State) : Out := .next (s.axCommand p opAxisGear false false 6 (pktWs p 1 5))

/-- R233: AXIS_CAM. -/
def execAxisCam (p : Pkt) (s : State) : Out := .next (s.axCommand p opAxisCam false false 7 (pktWs p 1 5))

/-- R235: AXIS_PHASE_TRIM. -/
def execAxisPhaseTrim (p : Pkt) (s : State) : Out := .next (s.axCommand p opAxisPhaseTrim false false 8 (pktWs p 1 1))

/-- R231, R528: a ring target that AXIS_CONFIG refuses. -/
def State.axRingBad (s : State) (p : Pkt) : Bool :=
  let seg := bits (p.w 2) 8 0
  let w := bits (p.w 2) 19 12
  let c := bits (p.w 2) 21 20
  bits (p.w 1) 1 0 = 1 &&
    (List.range (if c = 0 then 2 else if c = 1 then 1 else 3)).any (fun i => !s.txConfigOk seg (w + i))

/-- R237, R245, R246: the axis words of AXIS_CONFIG that are out of range. -/
def State.axWordsBad (s : State) (p : Pkt) (n : Nat) : Bool :=
  let cfg := p.w 1
  let step := bitOf cfg 31
  outside cfg 0xFFFFFF03 || (decide (12 ≤ bits cfg 19 16) && decide (bits cfg 19 16 ≤ 14)) || decide (2 ≤ bits cfg 1 0) ||
  outside (p.w 2) 0x3FF1FF || bits (p.w 2) 21 20 = 3 || outside (p.w 3) 0xCF0FF1FF || bits (p.w 3) 31 30 = 3 ||
  outside (p.w 4) 0xFF1101FF || bitOf (p.w 7) 31 || bitOf (p.w 8) 31 ||
  (step && decide (16 ≤ ((List.range 96).filter (fun m => m ≠ n && s.on (F.AX_CFG_STEPPER m))).length)) ||
  (step && decide (bits cfg 29 24 ≠ 0)) || (bitOf cfg 30 && decide (p.w 6 ≠ 0)) || s.axRingBad p

/-- R246: what AXIS_CONFIG does: the axis words, the staged limit set, and its commit at the next boundary. -/
def State.axConfig (s : State) (p : Pkt) (n : Nat) : State :=
  let s1 := if bitOf (p.w 0) 16 then s
    else ((List.range 8).foldl (fun t i => t.setWord ((F.AX_CFG n).addr + 4 * i) (Word.of (p.w (1 + i)))) s).refreshSteppers
  let s2 := (List.range 10).foldl (fun t i => t.setWord ((F.AXL_VMAX n).addr + 0x800 + 4 * i) (Word.of (p.w (9 + i)))) s1
  s2.askCommit bMOTION n (some p)

/-- R246: AXIS_CONFIG. -/
def execAxisConfig (p : Pkt) (s : State) : Out :=
  let n := bits (p.w 0) 6 0
  let only := bitOf (p.w 0) 16
  let soft := if only then s.on (F.AX_CFG_SOFTLIM_EN n) else bitOf (p.w 1) 30
  let step := if only then s.on (F.AX_CFG_STEPPER n) else bitOf (p.w 1) 31
  .next (s.command p opAxisConfig
    [(outside (p.w 0) 0x1007F || decide (96 ≤ n) || (!only && s.axWordsBad p n) || axSetBad soft step (fun i => p.w (9 + i)), stBAD_PARAM),
     (!only && s.axRuns n, stNOT_PERMITTED),
     (s.commits.any (fun c => c.base = bMOTION && c.pkt = none), stBUSY)]
    (fun t => t.axConfig p n))

/-- R236: a CAMMING axis uses cam table `t`. -/
def State.camUsed (s : State) (t : Nat) : Bool :=
  (List.range 96).any (fun n => s.axSt n = axCAMMING && (s.ax n).eng.tab = t)

/-- R236, R246: CAM_TABLE_WRITE. -/
def execCamTableWrite (p : Pkt) (s : State) : Out :=
  let t := bits (p.w 0) 4 0
  let first := bits (p.w 1) 11 0
  let n := p.w 2
  .next (s.command p opCamTableWrite
    [(outside (p.w 0) 0x1F || outside (p.w 1) 0xFFF || n = 0 || decide (510 < n) || decide (4096 < first + n), stBAD_PARAM),
     (s.camUsed t, stNOT_PERMITTED)]
    (fun u => ((List.range (2 * n)).foldl (fun v i =>
      v.setWord ((F.CAM_PT t first).addr + 4 * i) (Word.of (p.w (3 + i)))) u).done p stDONE))

/-- R246: AXIS_READ. -/
def execAxisRead (p : Pkt) (s : State) : Out :=
  let n := bits (p.w 0) 6 0
  .next (s.command p opAxisRead [(outside (p.w 0) 0x7F || decide (96 ≤ n), stBAD_PARAM)]
    (fun t => t.doneRes p ([(t.word (F.AX_STATE n).addr).toNat, t.get (F.AX_STICKY n)] ++ t.pairWords (F.AX_POS_LO n) ++
      t.pairWords (F.AX_VEL_LO n) ++ t.pairWords (F.AX_ACT_LO n) ++
      [t.get (F.AX_FE n), t.get (F.AX_TRIM_LEFT n), t.get (F.AX_MOVES_DONE n), 0])))

/-- R245: an enabled stepper axis uses speed table `k`. -/
def State.stepTabUsed (s : State) (k : Nat) : Bool :=
  (List.range 96).any (fun n => s.axRuns n && s.on (F.AX_CFG_STEPPER n) && s.get (F.AX_CFG_STEP_TAB n) = k)

/-- R245: any stepper axis is enabled. -/
def State.anyStepper (s : State) : Bool := (List.range 96).any (fun n => s.axRuns n && s.on (F.AX_CFG_STEPPER n))

/-- R246: AXIS_STEP_TABLE. -/
def execAxisStepTable (p : Pkt) (s : State) : Out :=
  let wave := bitOf (p.w 0) 16
  let k := bits (p.w 0) 3 0
  .next (s.command p opAxisStepTable
    [(outside (p.w 0) 0x1000F || (wave && (List.range 257).any (fun i => bitOf (p.w (i + 1)) 31)), stBAD_PARAM),
     (if wave then s.anyStepper else s.stepTabUsed k, stBUSY)]
    (fun t => (if wave then (List.range 257).foldl (fun u i => u.setWord (F.MS_TAB i).addr (Word.of (p.w (i + 1)))) t
      else (List.range 10).foldl (fun u i => u.setWord ((F.SPD_UP k 0).addr + 4 * i) (Word.of (p.w (i + 1)))) t).done p stDONE))

end Sys2Proof.Machine
end

