-- ==== Sys2Proof/Machine/PwmSync.lean ====
section
/-! DEFINITION. The counter of a generator as it reaches into other blocks: sample point, sync events, boundaries and
starts (08_pwm R196-R199). The position follows from the ticks since it was last set (R193). -/

namespace Sys2Proof.Machine

/-- R196: LEAD_RANGE of generator `g` is set. -/
def State.leadRange (s : State) (g : Nat) : State := (s.put (F.PWM_STAT_LEAD_RANGE g) 1).raise bPWM 12

/-- R143, R196, R250, R251: the encoders that generator `g` latches: class-A slots that read a parallel encoder here
latch it and are released, and those whose model block names one in FB2_SEL latch it; own latches follow. -/
def State.latchEncoders (s : State) (g : Nat) : State :=
  let rd (n : Nat) : Bool := classA n && (s.fbSrc n = 1 || s.fbSrc n = 2) &&
    bits (s.get (F.SLOT_FB_SEL n)) 13 8 = g && s.get (F.ENC_MODE (s.get (F.SLOT_FB_SEL n) % 16)) ≠ mdSSI
  let rd2 (n : Nat) : Bool := classA n && s.fb2Enc n && bits (s.mw n 8) 13 8 = g && s.get (F.ENC_MODE (s.mw n 8 % 16)) ≠ mdSSI
  let s1 := (s.usedSlots.filter rd2).foldl (fun (t : State) n => t.latchFb2 n) s
  ((s1.usedSlots.filter rd).foldl (fun (t : State) n => t.tickSlot n false) s1).encLatchGen g

/-- R197: whether the sample point of this period of generator `g` has gone by. -/
def State.setSpGone (s : State) (g : Nat) (b : Bool) : State := s.setGen g { s.gen g with spGone := b }

/-- R196: the sample point of generator `g`: the acquisition starts before it are made, and encoders are latched unless LEAD does not
suit a core that selects the generator. -/
def State.samplePoint (s : State) (g : Nat) : State :=
  let cs := (List.range 8).filter (s.coreSelects g)
  let s1 := cs.foldl State.acqNow (s.setSpGone g true)
  if cs.any (s.leadBad g) then s1.leadRange g else s1.latchEncoders g

/-- R197: a load of position `new` of generator `g`, and the acquisition start of core `c`: one on which it lands is made, one that it
passes over is missed. -/
def State.jumpCore (s : State) (g new c : Nat) : State := (s.setMissed g c (decide (s.acqPos g c < new))).acqNow c

/-- R197: generator `g` stood at `old` until the tick of a load, and no longer does: an acquisition start of core `c` at that position is
not made. -/
def State.leaveAcq (s : State) (g old c : Nat) : State := if s.acqPos g c = old then s.setMissed g c true else s

/-- R197: a sync event on tick `k` reaches generator `g`; `bd` is what a boundary of it does. -/
def State.syncGen (s : State) (bd : Nat → Nat → State → State) (g k : Nat) : State :=
  let new := s.syncPos g
  let old := s.posAt g k
  if new = old % max 1 (s.ticks g) then s
  else
    let cs := (List.range 8).filter (fun c => s.coreSelects g c && !s.leadBad g c)
    let s0 := cs.foldl (fun (t : State) c => t.leaveAcq g old c) ((s.put (F.PWM_STAT_SYNC_SLIP g) 1).raise bPWM 11)
    let s1 := cs.foldl State.acqNow s0
    if new = 0 then bd g k s1
    else
      let s2 := cs.foldl (fun (t : State) c => t.jumpCore g new c)
        ((s1.newPart s1 g new (32 * old) k).setSpGone g (decide (s.ticks g - s.get (F.PWM_LEAD_LEAD g) < new)))
      if new = s.ticks g - s.get (F.PWM_LEAD_LEAD g) then s2.samplePoint g else s2

/-- R197: generator `h` runs and is aligned by the boundary of generator `g`. -/
def State.slaveOf (s : State) (g h : Nat) : Bool :=
  decide (h ≠ g) && s.genRuns h && s.get (F.PWM_CFG_SYNC h) = 1 && s.get (F.PWM_CFG_SYNC_SEL h) = g

/-- R197, R201: a boundary of generator `g` on tick `k`, and the sync events it is for its slaves; `fuel` bounds how far chains of
slaves are followed. -/
def boundaryN : Nat → Nat → Nat → State → State
  | 0, g, k, s => s.boundaryCore g k
  | fuel + 1, g, k, s =>
    let s1 := s.boundaryCore g k
    ((List.range 48).filter (s1.slaveOf g)).foldl (fun (t : State) h => t.syncGen (boundaryN fuel) h k) s1

/-- R201: a boundary of generator `g` on tick `k` with everything it aligns. -/
def State.boundary (s : State) (g k : Nat) : State := boundaryN 48 g k s

/-- R193, R201: generator `g` reaches its period boundary: device time advances to that tick. -/
def execPwmBoundary (g : Nat) (s : State) : Out := s.awake (
  .next (if decide (g < 48) && s.genRuns g then (s.advanceTick (s.dueTick g)).boundary g (s.dueTick g) else s))

/-- R196: generator `g` reaches its sample point: device time advances to that tick. R197: one that a jump passed over is not made. -/
def execPwmSamplePoint (g : Nat) (s : State) : Out := s.awake (
  .next (if decide (g < 48) && s.genRuns g && !(s.gen g).spGone then
      (s.advanceTick (s.tickOf g (s.ticks g - s.get (F.PWM_LEAD_LEAD g)))).samplePoint g
    else s))

/-- R197, R198: a start of generator `g`; one that begins at position 0 begins with a boundary. -/
def State.startAt (s : State) (g : Nat) : State :=
  let s1 := s.startGen g
  if !s.genRuns g && s1.genRuns g && s1.syncPos g = 0 then s1.boundary g (s.time.tick + 1) else s1

/-- R198, R199: EN of generator `g` is written. -/
def execPwmEnWrite (g : Nat) (b : Bool) (s : State) : Out :=
  .next (if g < 48 then (if b then s.startAt g else s.stopGen g) else s)

/-- R198: a write to PWM_START0, PWM_START1. -/
def execPwmStartWrite (k : Nat) (v : Word) (s : State) : Out :=
  .next (((List.range (if k = 0 then 32 else if k = 1 then 16 else 0)).filter (fun i => bitOf v.toNat i)).foldl
    (fun (t : State) i => t.startAt (32 * k + i)) s)

/-- R214: a slot in CLOSED or OBSERVER writes a duty of generator `g`. -/
def State.dutyClosed (s : State) (g : Nat) : Bool :=
  s.usedSlots.any (fun n => (s.slotSt n = slCLOSED || s.slotSt n = slOBSERVER) &&
    ((s.slotKeys n).contains (1, g, 1) || (s.slotKeys n).contains (1, g, 2)))

/-- R75, R199: PWM_ENABLE with EN = 0 is answered once its generators `gs` have stopped. -/
def State.awaitStop (s : State) (p : Pkt) (gs : List Nat) : State :=
  let m := gs.foldl (fun (m : Nat) g => putBit m g (s.on (F.PWM_STAT_STOPPING g))) 0
  if m = 0 then s.done p stDONE else { s with pwm := { s.pwm with stops := s.pwm.stops ++ [(p, m)] } }

/-- R214: PWM_ENABLE. -/
def execPwmEnable (p : Pkt) (s : State) : Out :=
  let en := bitOf (p.w 0) 0
  let gs := (List.range 48).filter (fun g => bitOf (p.w 1 + 2 ^ 32 * p.w 2) g)
  let starts := gs.filter (fun g => !s.genRuns g)
  .next (s.command p opPwmEnable
    [(en && starts.any (fun g => s.groupSafe (s.get (F.PWM_GRP_STO_GRP g))), stSAFE_STATE),
     (outside (p.w 0) 1 || outside (p.w 2) 0xFFFF, stBAD_PARAM),
     (en && starts.any (fun g => s.on (F.PWM_STAT_TRIPPED g)), stTRIP_ACTIVE),
     (!en && gs.any (fun g => s.genRuns g && s.dutyClosed g), stLOOP_CLOSED)]
    (fun t =>
      let t1 := gs.foldl (fun (u : State) g => if en then u.startAt g else u.stopGen g) t
      if en then t1.done p stDONE else t1.awaitStop p gs))

end Sys2Proof.Machine
end

