-- ==== Sys2Proof/Machine/Acq.lean ====
section
/-! DEFINITION. The acquisition engine: taps, windows, records, delivery, triggers, Spillway, commands
(14_acquisition). The stream buffer is kept as the list of its records; the words of the records stand in them. -/

namespace Sys2Proof.Machine

/-- ACQ: STATE codes (R380). -/
def aqIDLE : Nat := 0
def aqSTREAM : Nat := 1
def aqPRETRIG : Nat := 2
def aqPOSTTRIG : Nat := 3
def aqDRAIN : Nat := 4
def aqHOLDOFF : Nat := 5

/-- STATE of the engine. -/
def State.acqSt (s : State) : Nat := s.get F.ACQ_BLK_STAT_STATE

/-- The interior of channel `c`. -/
def State.acqChan (s : State) (c : Nat) : AcqChan := tabGet {} s.acq.chans c

/-- The state with the interior of channel `c` set. -/
def State.setAcqChan (s : State) (c : Nat) (v : AcqChan) : State :=
  { s with acq := { s.acq with chans := tabSet {} s.acq.chans c v } }

/-- The interior of trigger unit `t`. -/
def State.acqUnit (s : State) (t : Nat) : AcqUnit := tabGet {} s.acq.units t

/-- The state with the interior of trigger unit `t` set. -/
def State.setAcqUnit (s : State) (t : Nat) (v : AcqUnit) : State :=
  { s with acq := { s.acq with units := tabSet {} s.acq.units t v } }

/-- Bytes of a list of records. -/
def recBytes (l : List AcqRec) : Nat := 4 * (l.foldl (fun n r => n + r.words.length) 0)

/-- R372: bytes written to the stream buffer and not yet delivered; 0 in PRETRIG (R374). -/
def State.refreshBacklog (s : State) : State :=
  s.put F.ACQ_BACKLOG (if s.acqSt = aqPRETRIG then 0 else recBytes s.acq.recs)

/-- R368: size of the stream buffer in bytes. -/
def State.acqSize (s : State) : Nat := 2 ^ s.get F.ACQ_BUF_LOG

/-- R374: in PRETRIG the buffer is circular: the oldest records leave it. -/
def dropOldest (size : Nat) : List AcqRec → List AcqRec
  | [] => []
  | r :: t => if recBytes (r :: t) ≤ size then r :: t else dropOldest size t

/-- R368, R374: a record goes into the stream buffer. -/
def State.acqAppend (s : State) (r : AcqRec) : State :=
  let off := s.get64 F.ACQ_WR_LO
  let r' := { r with off := off }
  let recs := s.acq.recs ++ [r']
  let recs' := if s.acqSt = aqPRETRIG then dropOldest s.acqSize recs else recs
  let cap := if s.acqSt = aqPRETRIG then [] else if s.acqSt = aqSTREAM then [] else s.acq.capRecs ++ [r']
  ({ s with acq := { s.acq with recs := recs', capRecs := cap } }.put64 F.ACQ_WR_LO (off + 4 * r.words.length)).refreshBacklog

/-- R372: a record is lost for want of space. -/
def State.acqLose (s : State) (r : AcqRec) (chan : Option Nat) : State :=
  let g := match s.acq.gap with
    | none => (r.ts, r.ts, 1)
    | some (a, _, n) => (a, r.ts, n + 1)
  let s1 := ({ s with acq := { s.acq with gap := some g } }.incSat F.ACQ_LOST).raise bACQ 10
  match chan with
  | some c => s1.incSat (F.ACQC_LOST c)
  | none => s1

/-- R368: a GAP record. -/
def gapRec (g : Nat × Nat × Nat) : AcqRec :=
  { words := [0x13000006, g.1 % 2 ^ 32, g.1 / 2 ^ 32, g.2.1 % 2 ^ 32, g.2.1 / 2 ^ 32, g.2.2], ts := g.2.1 }

/-- R372: a record enters the stream, after a GAP record if some were lost, or is lost. -/
def State.acqWrite (s : State) (r : AcqRec) (chan : Option Nat) : State :=
  let pre := match s.acq.gap with | some g => [gapRec g] | none => []
  if s.acqSt ≠ aqPRETRIG ∧ s.acqSize < recBytes (s.acq.recs ++ pre ++ [r]) then s.acqLose r chan
  else (pre.foldl State.acqAppend { s with acq := { s.acq with gap := none } }).acqAppend r

/-- R374: the end of a capture: POST microseconds after the trigger instant. -/
def State.acqEnd (s : State) : Nat := s.get64 F.ACQ_TRIG_TS_LO + 1000 * s.get F.ACQ_POST

/-- R374: records are written in STREAM and PRETRIG; in POSTTRIG and DRAIN those stamped no later than the end. -/
def State.acqTakes (s : State) (ts : Nat) : Bool :=
  !s.acq.stopping && (decide (s.acqSt = aqSTREAM) || decide (s.acqSt = aqPRETRIG) ||
    ((decide (s.acqSt = aqPOSTTRIG) || decide (s.acqSt = aqDRAIN)) && decide (ts ≤ s.acqEnd)))

/-- R369: a TIME record. -/
def State.acqTime (s : State) (stepped : Bool) (step : Int) : State :=
  if s.acqTakes s.now then
    let v := unsgn 64 step
    let st := s.get F.TIME_BLK_STAT_STATE * 2 ^ 12 + s.get F.TIME_BLK_STAT_ACTIVE_SRC * 2 ^ 8 + b2n stepped
    let ws := [0x14000006, s.now % 2 ^ 32, s.now / 2 ^ 32 % 2 ^ 32, st, v % 2 ^ 32, v / 2 ^ 32]
    s.acqWrite { words := ws, ts := s.now } none
  else s

/-- R373: output of unit `t` at device time `ts`. -/
def State.unitOut (s : State) (t ts : Nat) : Bool :=
  s.on (F.ACQT_EN t) && ((s.acqUnit t).level || decide (2 * ts < (s.acqUnit t).pulseEnd))

/-- R373: the combination of the units at device time `ts`. -/
def State.acqComb (s : State) (ts : Nat) : Bool :=
  let os := s.get F.ACQ_OR_SET
  let as := s.get F.ACQ_AND_SET
  (List.range 4).any (fun t => bitOf os t && s.unitOut t ts) ||
  (decide (as ≠ 0) && (List.range 4).all (fun t => !bitOf as t || s.unitOut t ts))

/-- R374: records that lie no more than PRE x 4 KiB before the end of a list. -/
def keepTail (bytes : Nat) : List AcqRec → List AcqRec
  | [] => []
  | r :: t => if recBytes (r :: t) ≤ bytes then r :: t else keepTail bytes t

/-- R374: a trigger at instant `ts` in PRETRIG. -/
def State.acqFire (s : State) (ts : Nat) : State :=
  let pre := s.get F.ACQ_PRE * 4096
  let short := decide (recBytes s.acq.recs < pre)
  let kept := keepTail pre s.acq.recs
  let units := (List.range 4).foldl (fun n t => n + (if s.unitOut t ts then 2 ^ t else 0)) 0
  let s1 := { s with acq := { s.acq with recs := kept, capRecs := kept } }
  let s2 := ((s1.put F.ACQ_BLK_STAT_STATE aqPOSTTRIG).put64 F.ACQ_TRIG_TS_LO ts).raise bACQ 11
  (s2.acqWrite { words := [0x11000004, ts % 2 ^ 32, ts / 2 ^ 32, b2n short * 2 ^ 8 + units], ts := ts } none).msix 6

/-- R373, R374: the combination has become true at `ts`: a trigger in PRETRIG, ignored with HOLDOFF_SKIP after it. -/
def State.acqTrigger (s : State) (ts : Nat) : State :=
  if s.acq.stopping then s
  else if s.acqSt = aqPRETRIG then s.acqFire ts
  else if aqPOSTTRIG ≤ s.acqSt then s.raise bACQ 14
  else s

/-- R373, R380: unit `t` changes at `ts`. A fire is every pulse, and for a unit without pulses the instant at which its output becomes
true. -/
def State.unitChange (s : State) (t ts : Nat) (pulse : Bool) (v : AcqUnit) : State :=
  let was := s.unitOut t ts
  let s1 := s.setAcqUnit t v
  let s2 := s1.put (F.ACQT_OUT t) (b2n (s1.unitOut t ts))
  if pulse || (!was && s1.unitOut t ts) then s2.incSat (F.ACQT_FIRES t) else s2

/-- R373: units change together at `ts`; the combination is judged before and after. -/
def State.unitsChange (s : State) (ts : Nat) (f : State → State) : State :=
  let s1 := f s
  if !s.acqComb ts && s1.acqComb ts then s1.acqTrigger ts else s1

/-- R373: the end of a pulse of unit `t` that begins at `ts`, in half nanoseconds; HOLD 0 is 2.5 ns. -/
def State.pulseEndOf (s : State) (t ts : Nat) : Nat :=
  2 * ts + (if s.get (F.ACQT_HOLD t) = 0 then 5 else 2 * s.get (F.ACQT_HOLD t))

/-- R373: trigger units are evaluated in PRETRIG and, for HOLDOFF_SKIP, after it. -/
def State.unitsRun (s : State) : Bool := decide (aqPRETRIG ≤ s.acqSt) && !s.acq.stopping

/-- R373: unit `t` sees value `x` of its source channel at `ts`. -/
def State.unitValue (s : State) (t : Nat) (x : Int) (ts : Nat) : State :=
  let u := s.acqUnit t
  let a := s.geti (F.ACQT_A t)
  let b := s.geti (F.ACQT_B t)
  let sense := s.on (F.ACQT_SENSE t)
  match s.get (F.ACQT_KIND t) with
  | 0 => s.unitChange t ts false { u with level := if sense then decide (x ≤ a) else decide (a ≤ x) }
  | 1 =>
    let meets := if sense then decide (x ≤ a) else decide (a ≤ x)
    let back := if sense then decide (a + b ≤ x) else decide (x ≤ a - b)
    if meets && u.armed then s.unitChange t ts true { u with armed := back, pulseEnd := s.pulseEndOf t ts }
    else s.setAcqUnit t { u with armed := u.armed || back }
  | 2 => s.unitChange t ts false { u with level := (decide (a ≤ x) && decide (x ≤ b)) != sense }
  | 3 => s.unitChange t ts false { u with level := decide (Nat.land (unsgn 32 x) (s.get (F.ACQT_B t)) =
      Nat.land (s.get (F.ACQT_A t)) (s.get (F.ACQT_B t))) }
  | _ => s

/-- R373: a value of channel `c` reaches the trigger units that watch it. -/
def State.unitsValue (s : State) (c : Nat) (x : Int) (ts : Nat) : State :=
  if s.unitsRun then
    s.unitsChange ts (fun s0 => (List.range 4).foldl (fun (u : State) t =>
      if u.on (F.ACQT_EN t) && decide (u.get (F.ACQT_KIND t) ≤ 3) && u.get (F.ACQT_SRC t) = c then u.unitValue t x ts else u) s0)
  else s

/-- R98, R101, R373: a pulse of event source `src` (0-31 compare, 32-63 capture) at `ts`. -/
def State.acqEvent (s : State) (src ts : Nat) : State :=
  if s.unitsRun then
    s.unitsChange ts (fun s0 => (List.range 4).foldl (fun (u : State) t =>
      if u.on (F.ACQT_EN t) && u.get (F.ACQT_KIND t) = 4 && u.get (F.ACQT_SRC t) % 64 = src then
        u.unitChange t ts true { u.acqUnit t with pulseEnd := u.pulseEndOf t ts } else u) s0)
  else s

/-- R365: reductions in force; 0 is LAST. -/
def State.acqRed (s : State) (c : Nat) : Nat := if s.get (F.ACQC_RED c) = 0 then 8 else s.get (F.ACQC_RED c)

/-- R365: values in a full window of channel `c` that runs under SPILL `sp`. -/
def State.acqWindow (s : State) (c sp : Nat) : Nat := 2 ^ (s.get (F.ACQC_DEC_LOG c) + sp)

/-- R365, R368: the open window of channel `c` closes with a data record. -/
def State.acqClose (s : State) (c : Nat) (short : Bool) : State :=
  let v := s.acqChan c
  let red := s.acqRed c
  let mean := rneDiv v.sum (max 1 v.count)
  let w (b : Nat) (x : Nat) : List Nat := if bitOf red b then [x] else []
  let body := w 0 (unsgn 32 v.min) ++ w 1 (unsgn 32 v.max) ++ w 2 (unsgn 32 mean) ++ w 3 (unsgn 32 v.last) ++ w 4 (v.count % 2 ^ 32)
  let hd := 0x01000000 + b2n short * 2 ^ 23 + b2n v.intake * 2 ^ 22 + b2n v.src * 2 ^ 21 + v.spill * 2 ^ 12 +
    (3 + body.length) * 2 ^ 8 + c
  let r : AcqRec := { words := [hd, v.ts % 2 ^ 32, v.ts / 2 ^ 32] ++ body, ts := v.ts,
                      last := if bitOf red 3 then some (c, v.last) else none }
  let takes := s.acqTakes v.ts
  let s1 := s.setAcqChan c {}
  if takes then s1.acqWrite r (some c) else s1

/-- R366: the first FAB_CLK cycle from `a` on at which the engine can take a value of channel `c`: one value a cycle, and one a channel in
8 cycles. Which of the values that wait goes first the spec does not say: each takes the first cycle left to it, a DESIGN CHOICE (log
entry 27). -/
def intakeAt (l : List (Nat × Nat)) (a c : Nat) : Nat :=
  let from' := l.foldl (fun m e => if e.2 = c then max m (e.1 + 8) else m) a
  match (List.range (l.length + 1)).find? (fun i => !l.any (fun e => e.1 = from' + i)) with
  | some i => from' + i
  | none => from'

/-- R365, R366: a value that arrives at FAB_CLK cycle `a` enters channel `c`; one that must wait and finds 64 values in the intake queue is
lost. -/
def State.acqTake (s0 : State) (c : Nat) (x : Int) (ts : Nat) (src : Bool) (a : Nat) : State :=
  let v := s0.acqChan c
  let l := s0.acq.intake.filter (fun e => decide (a < e.1 + 8))
  let k := intakeAt l a c
  if a < k ∧ 64 ≤ (l.filter (fun e => decide (a < e.1))).length then
    ((s0.setAcqChan c { v with intake := true }).incSat (F.ACQC_LOST c)).raise bACQ 13
  else
    let s := { s0 with acq := { s0.acq with intake := l ++ [(k, c)] } }
    let s1 := (s.puti (F.ACQC_LAST c) x).unitsValue c x ts
    let v1 : AcqChan := if v.count = 0 then
        { count := 1, min := x, max := x, sum := x, last := x, ts := ts, spill := s.get (F.ACQC_SPILL c), intake := v.intake, src := src }
      else { v with count := v.count + 1, min := min v.min x, max := max v.max x, sum := v.sum + x, last := x, ts := ts, src := v.src || src }
    let s2 := s1.setAcqChan c v1
    if s2.acqWindow c v1.spill ≤ v1.count then s2.acqClose c false else s2

/-- R364: a signal ID that the table assigns. -/
def sigOkId (i : Nat) : Bool :=
  decide (i < 0x80) || (decide (0x100 ≤ i) && decide (i < 0x1100)) || (decide (0x1100 ≤ i) && decide (i < 0x1200) && decide (i % 8 < 6)) ||
  (decide (0x1200 ≤ i) && decide (i < 0x1423)) || (decide (0x1800 ≤ i) && decide (i < 0x2000))

/-- R364: the value, the stamp and the ADC mark of signal `i` as its producer has just made it; R250: an encoder's are those of its own
latch. -/
def State.sigValue (s : State) (i : Nat) : Int × Nat × Bool :=
  if i < 0x80 then
    let r := s.adcLast (i / 16) (i % 16)
    let ch := bits r.word 21 16
    (if 8 ≤ ch ∧ ch ≤ 11 then sgn 16 r.word else (bits r.word 15 0 : Int), r.ts, bitOf r.word 26 || bitOf r.word 29 || bitOf r.word 27)
  else if i < 0x1100 then
    let n := (i - 0x100) / 8
    let f : Fld := match (i - 0x100) % 8 with
      | 0 => F.SLOT_SP_CUR n
      | 1 => F.SLOT_FB_CUR n
      | 2 => F.SLOT_E_CUR n
      | 3 => F.SLOT_UC n
      | 4 => F.SLOT_UOUT n
      | 5 => F.SLOT_INJ_VAL n
      | 6 => ⟨0x20072000 + 4 * n, 31, 0⟩
      | _ => ⟨(F.LOOP_SLOT_STAT_STATE n).addr, 31, 0⟩
    (sgn 32 (s.word f.addr).toNat, s.get64 (F.SLOT_LAST_TS_LO n), false)
  else if i < 0x1200 then (s.geti (F.MDL_X ((i - 0x1100) / 8) ((i - 0x1100) % 8)), s.now, false)
  else if i < 0x1380 then
    let n := (i - 0x1200) / 4
    let mid (f : Fld) : Int := clampI q31Min q31Max (s.geti64 f / 65536)
    (match (i - 0x1200) % 4 with
      | 0 => mid (F.AX_POS_LO n)
      | 1 => (sat31 (rne (s.geti64 (F.AX_VEL_LO n) * s.geti (F.AX_VEL_SCALE n)) 29)).1
      | 2 => mid (F.AX_ACT_LO n)
      | _ => s.geti (F.AX_FE n), s.now, false)
  else if i < 0x13A0 then
    let n := (i - 0x1380) / 2
    (if i % 2 = 0 then sgn 32 (s.get (F.ENC_LATCH_LO n)) else (s.get (F.ENC_ERR n) : Int), s.get64 (F.ENC_LTS_LO n), false)
  else if i < 0x13C0 then
    let e := tabGet (0, false) s.time.capLast (i - 0x13A0)
    ((b2n e.2 : Nat), e.1, false)
  else if i < 0x1420 then
    let n := (i - 0x13C0) / 2
    ((if i % 2 = 0 then s.get (F.PWM_DUTYA n) else s.get (F.PWM_DUTYB n) : Nat), s.now, false)
  else if i = 0x1420 then (sgn 32 (s.get F.GPIO_IN0), s.now, false)
  else if i = 0x1421 then (sgn 32 (s.get F.GPIO_IN1), s.now, false)
  else if i = 0x1422 then (s.geti F.TIME_OFFSET_OFFSET, s.now, false)
  else (sgn 32 (s.img (s.get (F.ACQ_IMGMAP_INDEX (i - 0x1800)))), s.now, false)

/-- R364: what produces values: slots that are not IDLE, axes outside DISABLED, image taps whose map entry is enabled. -/
def State.sigTapped (s : State) (i : Nat) : Bool :=
  sigOkId i && (if 0x1800 ≤ i then s.on (F.ACQ_IMGMAP_EN (i - 0x1800))
    else if 0x1200 ≤ i && i < 0x1380 then decide (s.axSt ((i - 0x1200) / 4) ≠ axDISABLED)
    else if 0x100 ≤ i && i < 0x1100 then decide (s.slotSt ((i - 0x100) / 8) ≠ slIDLE)
    else true)

/-- R13, R364-R366: the producer of signal `sig` has just made a value: it enters every enabled channel bound to it.
It arrives `edge` FAB_CLK cycles after the present CTL_CLK tick (log entry 27). -/
def State.acqValue (s : State) (sig edge : Nat) : State :=
  let v := s.sigValue sig
  if s.sigTapped sig && s.acqSt ≠ aqIDLE && !s.acq.stopping then
    (List.range 256).foldl (fun (t : State) c =>
      if t.on (F.ACQC_EN c) && t.get (F.ACQC_SIG c) = sig then t.acqTake c v.1 v.2.1 v.2.2 (s.time.tick * 3 / 2 + edge) else t) s
  else s

/-- R364-R366: a tapped value enters its channels. -/
def execAcqValue (sig edge : Nat) (s : State) : Out := s.awake (
  .next (s.acqValue sig edge))

/-- R373, R380: STEPS and REDUCED after a change of SPILL. -/
def State.refreshSpill (s : State) : State :=
  (s.put F.ACQ_STEPS s.acq.steps.length).put F.ACQ_REDUCED
    ((List.range 256).filter (fun c => s.get (F.ACQC_SPILL c) ≠ 0)).length

/-- R368, R377: a SPILLWAY record over channels `cs`. -/
def State.spillRec (s : State) (cs : List Nat) (undo : Bool) : State :=
  let hs := cs.map (fun c => s.get (F.ACQC_SPILL c) * 2 ^ 8 + c)
  let body := (List.range ((hs.length + 1) / 2)).map (fun i => hs.getD (2 * i) 0 + 2 ^ 16 * hs.getD (2 * i + 1) 0)
  let pct := 100 * recBytes s.acq.recs / s.acqSize
  let hd := [0x10000000 + b2n undo * 2 ^ 16 + (4 + body.length), s.now % 2 ^ 32, s.now / 2 ^ 32 % 2 ^ 32, pct % 256 * 2 ^ 24 + cs.length]
  s.acqWrite { words := hd ++ body, ts := s.now } none

/-- R375: the group of channels that the next step reduces: lowest priority first, KEEP channels last. -/
def State.spillGroup (s : State) : List Nat :=
  let grp (keep : Bool) (prio : Nat) : List Nat := (List.range 256).filter (fun c =>
    s.on (F.ACQC_EN c) && s.on (F.ACQC_KEEP c) == keep && s.get (F.ACQC_PRIO c) = prio &&
    decide (s.get (F.ACQC_SPILL c) < s.get F.ACQ_SPILL_MAX))
  (([false, true].flatMap (fun k => ([7, 6, 5, 4, 3, 2, 1, 0] : List Nat).map (grp k))).find? (fun g => !g.isEmpty)).getD []

/-- R375: a reduction step. -/
def State.spillStep (s : State) : State :=
  let g := s.spillGroup
  if g.isEmpty then s
  else
    let s1 := g.foldl (fun (t : State) c => t.put (F.ACQC_SPILL c) (t.get (F.ACQC_SPILL c) + 1)) s
    let s2 := { s1 with acq := { s1.acq with steps := s1.acq.steps ++ [g] } }.refreshSpill
    ((s2.spillRec g false).raise bACQ 8).msix 8

/-- R376: the most recent step is undone. -/
def State.spillUndo (s : State) : State :=
  match s.acq.steps.getLast? with
  | none => s
  | some g =>
    let s1 := g.foldl (fun (t : State) c => t.put (F.ACQC_SPILL c) (t.get (F.ACQC_SPILL c) - 1)) s
    let s2 := { s1 with acq := { s1.acq with steps := s1.acq.steps.dropLast } }.refreshSpill
    ((s2.spillRec g true).raise bACQ 9).msix 8

/-- R375, R376: a check of the backlog. -/
def State.spillCheck (s : State) : State :=
  let b := recBytes s.acq.recs
  let prev := s.acq.prevBack
  let run := if 4 * b < s.acqSize then some (match s.acq.lowRun with | none => 0 | some k => k + 1) else none
  let undo := decide (run = some 10)
  let s1 := { s with acq := { s.acq with prevBack := b, lowRun := if undo then some 0 else run } }
  if 3 * s.acqSize < 4 * b ∧ prev < b then s1.spillStep else if undo then s1.spillUndo else s1

/-- R375: a whole millisecond of device time, in STREAM, POSTTRIG and DRAIN. -/
def execSpillwayCheck (s : State) : Out := s.awake (
  let k := s.gridNext 1000000 s.time.spillGrid
  let s1 := s.advanceTo (1000000 * k)
  .next (if s.acqSt = aqSTREAM || s.acqSt = aqPOSTTRIG || s.acqSt = aqDRAIN then
      ({ s1 with time := { s1.time with spillGrid := k + 1 } }).spillCheck
    else s))

/-- R367, R374, R376: the engine enters IDLE: SPILL of every channel is 0 and every step undone. -/
def State.acqIdle (s : State) : State :=
  let s1 := (List.range 256).foldl (fun (t : State) c => t.put (F.ACQC_SPILL c) 0) s
  let s2 := { s1 with acq := { s1.acq with steps := [], prevBack := 0, lowRun := none, stopping := false, recs := [],
                                            gap := none, capRecs := [] } }
  (((s2.put F.ACQ_BLK_STAT_STATE aqIDLE).put F.ACQ_RUN 0).refreshSpill).refreshBacklog

/-- R374: the engine enters PRETRIG; a combination that is true then triggers. -/
def State.acqPretrig (s : State) : State :=
  let s1 := { s.put F.ACQ_BLK_STAT_STATE aqPRETRIG with acq := { s.acq with capRecs := [] } }.refreshBacklog
  if s1.acqComb s1.now then s1.acqFire s1.now else s1

/-- R368, R374: a CAPTURE_END record with end instant `ts`. -/
def State.captureEnd (s : State) (ts : Nat) (trunc : Bool) : State :=
  let ws := [0x12000004, ts % 2 ^ 32, ts / 2 ^ 32 % 2 ^ 32, s.acq.captures % 2 ^ 16 * 2 ^ 16 + b2n trunc]
  s.acqWrite { words := ws, ts := ts } none

/-- R374: POST microseconds after the trigger instant. -/
def execPosttrigEnd (s : State) : Out := s.awake (
  .next (if s.acqSt = aqPOSTTRIG && !s.acq.stopping then
      ((s.advanceTo s.acqEnd).captureEnd s.acqEnd false).put F.ACQ_BLK_STAT_STATE aqDRAIN
    else s))

/-- R374: everything of a capture has been delivered. -/
def execDrainDone (s : State) : Out := s.awake (
  .next (if s.acqSt = aqDRAIN && s.acq.recs.isEmpty && !s.acq.stopping then
      let s1 := ({ s with acq := { s.acq with capture := some (s.acq.capRecs, s.get64 F.ACQ_TRIG_TS_LO),
                                              captures := s.acq.captures + 1 } }.raise bACQ 12).msix 7
      if s1.on F.ACQ_AUTO_REARM then
        { s1 with acq := { s1.acq with holdEnd := s1.now + 1000 * s1.get F.ACQ_HOLDOFF } }.put F.ACQ_BLK_STAT_STATE aqHOLDOFF
      else s1.acqIdle
    else s))

/-- R374: HOLDOFF microseconds after a capture. -/
def execHoldoffExpiry (s : State) : Out := s.awake (
  .next (if s.acqSt = aqHOLDOFF then (s.advanceTo s.acq.holdEnd).acqPretrig else s))

/-- The records that fit into `room` bytes, at most `n`, and the rest. -/
def takeFit : Nat → Nat → List AcqRec → List AcqRec × List AcqRec
  | 0, _, l => ([], l)
  | _, _, [] => ([], [])
  | n + 1, room, r :: t =>
    if 4 * r.words.length ≤ room then
      let x := takeFit n (room - 4 * r.words.length) t
      (r :: x.1, x.2)
    else ([], r :: t)

/-- R368, R370: the next host buffer is filled with the oldest records, at most `n`, and handed over. -/
def State.handover (s : State) (n : Nat) : State :=
  match s.acq.bufs[s.acq.fill]? with
  | none => s
  | some b =>
    let x := takeFit n (b.size - 64) s.acq.recs
    if b.handed || x.1.isEmpty then s
    else
      let off := match x.1 with | r :: _ => r.off | [] => 0
      let used := 64 + recBytes x.1
      let hd := [0x20000010, s.otp.uid % 2 ^ 32, s.otp.uid / 2 ^ 32 % 2 ^ 32, s.acq.bufSeq % 2 ^ 32, off % 2 ^ 32, off / 2 ^ 32,
        used, s.now % 2 ^ 32, s.now / 2 ^ 32 % 2 ^ 32,
        s.get F.TIME_BLK_STAT_STATE * 2 ^ 12 + s.get F.TIME_BLK_STAT_ACTIVE_SRC * 2 ^ 8, s.get F.TIME_OFFSET_OFFSET, s.acq.fill, 0, 0, 0, 0]
      let b' := { b with handed := true, words := hd ++ x.1.flatMap AcqRec.words }
      let s1 := { s with acq := { s.acq with recs := x.2, bufs := s.acq.bufs.set s.acq.fill b',
                                             fill := (s.acq.fill + 1) % s.acq.bufs.length, bufSeq := s.acq.bufSeq + 1 } }
      let s2 := ((s1.put64 F.ACQ_RD_LO (s1.get64 F.ACQ_RD_LO + recBytes x.1)).refreshBacklog).msix 5
      if s2.acq.stopping && s2.acq.recs.isEmpty then s2.acqIdle else s2

/-- R372, R374: records are delivered: outside IDLE and PRETRIG, and not once delivery has stopped. -/
def State.acqDelivers (s : State) : Bool := decide (s.acqSt ≠ aqIDLE) && decide (s.acqSt ≠ aqPRETRIG) && !s.acq.halted

/-- R370: a host buffer is full, 1 ms old, or the last of a capture or of a stop: it is handed over with what has been
delivered into it. How many records a buffer has taken is the operand (log entry 27). -/
def execBufferHandover (n : Nat) (s : State) : Out := s.awake (
  .next (if s.acqDelivers then s.handover n else s))

/-- R370, R372, R374: host buffers withdrawn or link down: delivery stops until the next ACQ_STREAM SET; what was handed over stays with the
host. -/
def State.acqHalt (s : State) : State :=
  let s1 := { s with acq := { s.acq with halted := true } }
  if s.acqSt ≠ aqIDLE then s1.msix 9 else s1

/-- R374: the engine is armed, in STREAM or CAPTURE mode. -/
def State.acqArm (s : State) : State :=
  let s1 := ((((s.put64 F.ACQ_WR_LO 0).put64 F.ACQ_RD_LO 0).put F.ACQ_LOST 0).put F.ACQ_RUN 1)
  let s2 := (List.range 256).foldl (fun (t : State) c => t.put (F.ACQC_LOST c) 0) s1
  let s3 := (List.range 4).foldl (fun (t : State) k => t.put (F.ACQT_OUT k) 0) s2
  let s4 := { s3 with acq := { s3.acq with recs := [], chans := [], units := [], gap := none, steps := [], prevBack := 0,
                                           lowRun := none, captures := 0, stopping := false, capRecs := [],
                                           capture := none, intake := [] } }
  if s4.on F.ACQ_MODE then s4.acqPretrig else (s4.put F.ACQ_BLK_STAT_STATE aqSTREAM).refreshBacklog

/-- R370: at a stop the buffer being filled is handed over with the records placed in it: how many those are the spec leaves open, so it is a
free value (log entry 27). -/
def State.stopHandover (s : State) : State :=
  if s.acqDelivers then
    let f := s.fresh
    f.2.handover (f.1 % (s.acq.recs.length + 1))
  else s

/-- R374: the engine is stopped: open windows close as SHORT records; the backlog drains before IDLE, or is discarded. -/
def State.acqStop (s : State) (discard : Bool) : State :=
  let st := s.acqSt
  if st = aqIDLE then s
  else
    let s0 := ((List.range 256).filter (fun c => (s.acqChan c).count ≠ 0)).foldl (fun (t : State) c => t.acqClose c true) s
    let s1 := s0.stopHandover
    let s2 := if st = aqPOSTTRIG ∧ !s.acq.stopping then s1.captureEnd s1.now true else s1
    if discard || st = aqPRETRIG || st = aqHOLDOFF || s2.acq.recs.isEmpty then s2.acqIdle
    else { s2 with acq := { s2.acq with stopping := true } }.put F.ACQ_RUN 0

/-- R373: device time reaches TRGt_TIME: a TIME unit pulses, once per arm. -/
def execAcqTimeTrigger (t : Nat) (s : State) : Out := s.awake (
  .next (if decide (t < 4) && s.unitsRun && s.on (F.ACQT_EN t) && s.get (F.ACQT_KIND t) = 5 && !(s.acqUnit t).timed then
      let s1 := s.advanceTo (s.get64 (F.ACQT_TIME_LO t))
      s1.unitsChange s1.now (fun u => u.unitChange t u.now true { u.acqUnit t with timed := true, pulseEnd := u.pulseEndOf t u.now })
    else s))

/-- R381: ACQ_CHANNEL. -/
def execAcqChannel (p : Pkt) (s : State) : Out :=
  let map := bitOf (p.w 0) 31
  let first := bits (p.w 0) 26 16
  let n := bits (p.w 0) 9 0
  let bad (w : Nat) : Bool := if map then outside w 0x8003FFFF else (outside w 0xFFCF1FFF || !sigOkId (bits w 12 0))
  .next (s.command p opAcqChannel
    [(outside (p.w 0) 0x87FF03FF || decide ((if map then 2048 else 256) < first + n) ||
        (List.range n).any (fun i => bad (p.w (1 + i))), stBAD_PARAM),
     (s.acqSt ≠ aqIDLE, stNOT_PERMITTED)]
    (fun t => ((List.range n).foldl (fun (u : State) i =>
      let a := if map then (F.ACQ_IMGMAP_EN (first + i)).addr else (F.ACQC_EN (first + i)).addr
      u.setWord a (Word.of (p.w (1 + i)))) t).done p stDONE))

/-- R380: EN of a trigger unit is written; a rise clears FIRES. -/
def State.unitWrite (s : State) (t v : Nat) : State :=
  let was := s.on (F.ACQT_EN t)
  let s1 := s.setWord (F.ACQT_EN t).addr (Word.of (Nat.land v 0xF8FFFFFF))
  if bitOf v 31 && !was then (s1.put (F.ACQT_FIRES t) 0).setAcqUnit t {} else s1

/-- R381: ACQ_TRIGGER. -/
def execAcqTrigger (p : Pkt) (s : State) : Out :=
  let us := (List.range 4).filter (fun t => bitOf (p.w 0) t)
  let ix := List.range us.length
  let w (i k : Nat) : Nat := p.w (2 + 5 * i + k)
  .next (s.command p opAcqTrigger
    [(outside (p.w 0) 0xF || outside (p.w 1) 0xFF || ix.any (fun i => outside (w i 0) 0xF8FFFFFF || decide (6 ≤ bits (w i 0) 30 28) ||
        (bits (w i 0) 30 28 = 4 && decide (64 ≤ bits (w i 0) 23 16))), stBAD_PARAM),
     (s.acqSt ≠ aqIDLE || us.any (fun t => s.on (F.ACQT_EN t)), stNOT_PERMITTED)]
    (fun t =>
      let t1 := t.setWord F.ACQ_OR_SET.addr (Word.of (p.w 1))
      (ix.foldl (fun (u : State) i =>
        let k := us.getD i 0
        let u1 := ((u.put (F.ACQT_A k) (w i 1)).put (F.ACQT_B k) (w i 2)).put64 (F.ACQT_TIME_LO k) (w i 3 + 2 ^ 32 * w i 4)
        u1.unitWrite k (w i 0)) t1).done p stDONE))

/-- R368, R374, R381: ACQ_ARM; firmware places the stream buffer, at an address the spec does not give. -/
def execAcqArm (p : Pkt) (s : State) : Out :=
  let log := p.w 1
  .next (s.command p opAcqArm
    [(outside (p.w 0) 0xF6 || decide (log < 20) || decide (31 < log) || decide (Config.dramMiB * 2 ^ 19 < 2 ^ log) ||
        decide (2 ^ log < p.w 2 * 8192) || decide (p.w 3 = 0), stBAD_PARAM),
     (s.acqSt ≠ aqIDLE || !(List.range 256).any (fun c => s.on (F.ACQC_EN c)), stNOT_PERMITTED)]
    (fun t =>
      let f := t.fresh
      let t1 := (f.2.put64 F.ACQ_BUF_BASE_LO (f.1 * 2 ^ log)).setWord F.ACQ_RUN.addr (Word.of (p.w 0))
      let t2 := (((t1.put F.ACQ_BUF_LOG log).put F.ACQ_PRE (p.w 2)).put F.ACQ_POST (p.w 3)).put F.ACQ_HOLDOFF (p.w 4)
      t2.acqArm.done p stDONE))

/-- R374, R381: ACQ_STOP. -/
def execAcqStop (p : Pkt) (s : State) : Out :=
  .next (s.command p opAcqStop [(outside (p.w 0) 1, stBAD_PARAM)]
    (fun t => (t.acqStop (bitOf (p.w 0) 0)).done p stDONE))

/-- R370, R381: the buffers of an ACQ_STREAM SET. -/
def streamBufs (p : Pkt) (n : Nat) : List AcqBuf :=
  (List.range n).map (fun i => { addr := p.w (1 + 3 * i) + 2 ^ 32 * p.w (2 + 3 * i), size := p.w (3 + 3 * i) })

/-- R370: a buffer whose size or alignment does not suit. -/
def bufBad (b : AcqBuf) : Bool :=
  decide (b.size < 65536) || decide (16777216 < b.size) || decide (b.size % 4096 ≠ 0) || decide (b.addr % 4096 ≠ 0)

/-- R370: buffers of a mask are returned by the host. -/
def State.releaseBufs (s : State) (m : Nat) : State :=
  { s with acq := { s.acq with bufs := (List.range s.acq.bufs.length).map (fun i =>
      let b := s.acq.bufs.getD i { addr := 0, size := 0 }
      if bitOf m i then { b with handed := false } else b) } }

/-- R370, R381: ACQ_STREAM. -/
def execAcqStream (p : Pkt) (s : State) : Out :=
  let op := bits (p.w 0) 1 0
  let n := bits (p.w 0) 15 8
  .next (if op = 1 then
    s.command p opAcqStream [(outside (p.w 0) 3, stBAD_PARAM)]
      (fun t => (t.releaseBufs (p.w 1 + 2 ^ 32 * p.w 2)).done p stDONE)
    else
    s.command p opAcqStream
      [(outside (p.w 0) 0xFF03 || decide (op ≠ 0) || n = 0 || decide (64 < n) || (streamBufs p n).any bufBad, stBAD_PARAM),
       (s.acq.bufs.any AcqBuf.handed, stNOT_PERMITTED)]
      (fun t => { t with acq := { t.acq with bufs := streamBufs p n, fill := 0, halted := false } }.done p stDONE))

/-- R381: ACQ_STATUS. -/
def execAcqStatus (p : Pkt) (s : State) : Out :=
  .next (s.command p opAcqStatus [(decide (p.w 0 ≠ 0), stBAD_PARAM)]
    (fun t => t.doneRes p ([(t.word F.ACQ_BLK_STAT_STATE.addr).toNat, t.get F.ACQ_BACKLOG, t.get F.ACQ_LOST,
      (t.word F.ACQ_STEPS.addr).toNat, t.get F.ACQ_TRIG_TS_LO, t.get F.ACQ_TRIG_TS_HI, 0, 0] ++
      (List.range 32).map (fun w => (List.range 8).foldl (fun v k => v + t.get (F.ACQC_SPILL (8 * w + k)) * 16 ^ k) 0))))

end Sys2Proof.Machine
end

