-- ==== Sys2Proof/Machine/AcqMeasure.lean ====
section
/-! DEFINITION. Measurements on a capture (14_acquisition R379): the figures are formed exactly and rounded once to
binary64, then to binary32 (log entry 29). -/

namespace Sys2Proof.Machine

/-- A value of a channel in a capture: stamp and LAST. -/
abbrev AcqPt := Nat × Int

/-- A positive rational rounded to 53 significant bits, to nearest, ties to even. -/
def roundB64 (q : Rat) : Rat :=
  let n := q.num.natAbs
  if n = 0 then 0
  else
    let e := 52 - binExp n q.den
    let m := if 0 ≤ e then rneNat (n * 2 ^ e.toNat) q.den else rneNat n (q.den * 2 ^ (-e).toNat)
    let r : Rat := if 0 ≤ e then (m : Rat) / ((2 ^ e.toNat : Nat) : Rat) else ((m * 2 ^ (-e).toNat : Nat) : Rat)
    if q.num < 0 then -r else r

/-- R379: a figure as returned: binary64, then binary32. -/
def figure (q : Rat) : Nat :=
  let r := roundB64 q
  binary32 r.num r.den

/-- The square root of a rational, cut to 128 fraction bits with the last one set where something was cut. -/
def sqrtRat (q : Rat) : Rat :=
  let n := q.num.toNat * 2 ^ 256 / q.den
  let r := Nat.sqrt n
  let exact := decide (r * r = n) && decide (q.num.toNat * 2 ^ 256 % q.den = 0)
  ((2 * r + b2n (!exact) : Nat) : Rat) / ((2 ^ 129 : Nat) : Rat)

/-- The mean of values. -/
def meanOf (l : List AcqPt) : Rat := ((l.foldl (fun a e => a + e.2) 0 : Int) : Rat) / ((max 1 l.length : Nat) : Rat)

/-- R379: base: the mean of the values stamped before the trigger, or the minimum. -/
def measBase (l : List AcqPt) (trig : Nat) : Rat :=
  let before := l.filter (fun e => decide (e.1 < trig))
  if before.isEmpty then ((l.foldl (fun a e => min a e.2) (match l with | e :: _ => e.2 | [] => 0) : Int) : Rat) else meanOf before

/-- R379: top: the mean of the last quarter of the values, rounded up to a whole number of values (log entry 29). -/
def measTop (l : List AcqPt) : Rat := meanOf (l.drop (l.length - (l.length + 3) / 4))

/-- R379: values are mirrored where top lies below base, so that every crossing rises. -/
def measDir (base top : Rat) : Int := if base < top then 1 else -1

/-- R379: crossings of level `lv`, with their interpolated times. -/
def crossings (lv : Rat) : List (Rat × Rat) → List Rat
  | a :: b :: r =>
    if a.2 < lv ∧ lv ≤ b.2 then (a.1 + (lv - a.2) / (b.2 - a.2) * (b.1 - a.1)) :: crossings lv (b :: r) else crossings lv (b :: r)
  | _ => []

/-- R379: crossings of L_0.5, each counted only after a value has fallen back beyond L_0.4. -/
def halfCrossings (l4 l5 : Rat) : Bool → List (Rat × Rat) → List Rat
  | armed, a :: b :: r =>
    let armed' := armed || decide (a.2 < l4)
    if armed' && decide (a.2 < l5) && decide (l5 ≤ b.2) then
      (a.1 + (l5 - a.2) / (b.2 - a.2) * (b.1 - a.1)) :: halfCrossings l4 l5 false (b :: r)
    else halfCrossings l4 l5 armed' (b :: r)
  | _, _ => []

/-- R379: the seven figures in order; none where a figure is not valid. -/
def measureFigs (l : List AcqPt) (trig : Nat) : List (Option Rat) :=
  match l with
  | [] => [none, none, none, none, none, none, none]
  | e0 :: _ =>
    let mx := l.foldl (fun a e => max a e.2) e0.2
    let mn := l.foldl (fun a e => min a e.2) e0.2
    let sq : Rat := ((l.foldl (fun a e => a + e.2 * e.2) 0 : Int) : Rat) / (l.length : Rat)
    let base := measBase l trig
    let top := measTop l
    let d := measDir base top
    let pts : List (Rat × Rat) := l.map (fun e => ((e.1 : Rat), ((d * e.2 : Int) : Rat)))
    let lv (p : Rat) : Rat := (base + p * (top - base)) * d
    let hs := if base = top then [] else halfCrossings (lv (4 / 10)) (lv (5 / 10)) false pts
    let period : Option Rat := match hs with
      | a :: _ :: _ => some ((hs.getLastD a - a) / ((hs.length - 1 : Nat) : Rat) / 1000000000)
      | _ => none
    let freq := period.bind (fun q => if q = 0 then none else some (1 / q))
    let t1 := if base = top then none else (crossings (lv (1 / 10)) pts).find? (fun t => decide ((trig : Rat) ≤ t))
    let t9 := t1.bind (fun a => (crossings (lv (9 / 10)) pts).find? (fun t => decide (a ≤ t)))
    let rise := t1.bind (fun a => t9.map (fun b => (b - a) / 1000000000))
    let shoot := t9.map (fun b =>
      let far := (pts.filter (fun e => decide (b < e.1))).foldl (fun m e => max m e.2) (top * d)
      100 * (far - top * d) / (top * d - base * d))
    [some ((mx - mn : Int) : Rat), some (meanOf l), some (sqrtRat sq), period, freq, rise, shoot]

/-- R379: the values of channel `c` in a capture. -/
def capturePts (c : Nat) (recs : List AcqRec) : List AcqPt :=
  recs.filterMap (fun r => match r.last with | some (k, x) => if k = c then some (r.ts, x) else none | none => none)

/-- R381: the result words of ACQ_MEASURE; a figure that is not valid is a free value. -/
def State.measureRes (s : State) (l : List AcqPt) (trig : Nat) : List Nat × State :=
  let fs := measureFigs l trig
  let valid := (List.range 7).foldl (fun v i => v + (if (fs.getD i none).isSome then 2 ^ i else 0)) 0
  let ws := (List.range 7).map (fun i => match fs.getD i none with | some q => figure q | none => Config.freeNat (s.free + i) % 2 ^ 32)
  (valid :: l.length :: ws, { s with free := s.free + 7 })

/-- R381: a completed capture is still held whole in the stream buffer. -/
def State.captureHeld (s : State) : Bool :=
  match s.acq.capture with
  | none => false
  | some (recs, _) =>
    match recs with
    | [] => false
    | r :: _ => decide (s.get64 F.ACQ_WR_LO ≤ r.off + s.acqSize)

/-- R379, R381: ACQ_MEASURE. -/
def execAcqMeasure (p : Pkt) (s : State) : Out :=
  let c := bits (p.w 0) 7 0
  .next (s.command p opAcqMeasure
    [(outside (p.w 0) 0xFF || !bitOf (s.acqRed c) 3, stBAD_PARAM), (!s.captureHeld, stNOT_PERMITTED)]
    (fun t =>
      match t.acq.capture with
      | none => t.done p stNOT_PERMITTED
      | some (recs, trig) =>
        let r := t.measureRes (capturePts c recs) trig
        r.2.doneRes p r.1))

end Sys2Proof.Machine
end

