-- ==== Sys2Proof/Machine/Time.lean ====
section
/-! DEFINITION. Device time, its sources and servo, compare and capture units, the plant ports (04_timebase). -/

namespace Sys2Proof.Machine

/-- TIME: STATE codes (R113). -/
def tmFREE : Nat := 0
def tmACQUIRE : Nat := 1
def tmLOCKED : Nat := 2
def tmHOLDOVER : Nat := 3

/-- R529: source `src` is present. -/
def State.srcPresent (s : State) (src : Nat) : Bool :=
  match src with
  | 0 => true
  | 1 => s.on F.RING_CTRL_RUN && decide (s.ringSt ≠ rsDOWN) && s.time.ringSeen
  | 2 => s.time.ptp0
  | 3 => s.time.ptp1
  | 4 => s.splice.timeUp
  | _ => false

/-- STATE of TIME. -/
def State.timeSt (s : State) : Nat := s.get F.TIME_BLK_STAT_STATE

/-- R93: STATE and ACTIVE_SRC change; a change of STATE, or a new source not present, posts a record; entry to LOCKED
writes a TIME_SYNC record (R492). -/
def State.setTimeSt (s : State) (st src : Nat) (force : Bool) : State :=
  let old := s.timeSt
  let s1 := (s.put F.TIME_BLK_STAT_STATE st).put F.TIME_BLK_STAT_ACTIVE_SRC src
  let s2 := { s1 with time := { s1.time with lockRun := 0, lossRun := 0 } }
  if old = st && !force then s2
  else
    let sev := b2n (st = tmHOLDOVER || (st = tmFREE && old = tmHOLDOVER) || old = tmLOCKED)
    let s2' := s2.postSev sev 0x0411 0 (st * 2 ^ 12 + src * 2 ^ 8) 0
    let s3 := if old = st then s2' else s2'.acqTime false 0
    if st = tmLOCKED then s3.timeSync else s3

/-- The next offset sample is a first sample (R92). -/
def State.firstSample (s : State) : State := { s with time := { s.time with first := true } }

/-- R91, R93: the active source is lost in ACQUIRE or LOCKED: HOLDOVER, and the rate frozen at the frequency term. -/
def State.activeLost (s : State) : State :=
  if s.timeSt = tmACQUIRE ∨ s.timeSt = tmLOCKED then
    ((s.setRate s.time.servoF).setTimeSt tmHOLDOVER (s.get F.TIME_BLK_STAT_ACTIVE_SRC) true).raise bTIME 10
  else s

/-- R91: source `src` is lost; the active one sends TIME to HOLDOVER. -/
def State.sourceLost (s : State) (src : Nat) : State :=
  if s.get F.TIME_BLK_STAT_ACTIVE_SRC = src then s.activeLost else s

/-- R93: a source that has become present takes TIME from HOLDOVER, or from FREE with SEL not 0, to ACQUIRE. -/
def State.sourceBack (s : State) (src : Nat) : State :=
  if s.get F.TIME_BLK_STAT_ACTIVE_SRC = src && s.srcPresent src &&
      (s.timeSt = tmHOLDOVER || (s.timeSt = tmFREE && s.get F.TIME_SRC_SEL ≠ 0)) then
    (s.setTimeSt tmACQUIRE src true).firstSample
  else s

/-- R97: what a step, or the enabling of a unit, does to compare unit `n`: a one-shot instant in the past is marked
late and fires on the next tick; a periodic unit moves along its grid past the present. -/
def State.cmpPast (s : State) (n : Nat) : State :=
  let t := s.get64 (F.CMP_TIME_LO_NS n)
  if !s.on (F.CMP_CTRL_EN n) then s
  else if s.on (F.CMP_CTRL_PERIODIC n) then
    if s.now < t then s
    else
      let p := max 1 (s.get (F.CMP_PERIOD_NS n))
      let k := (s.now - t) / p + 1
      ((s.put64 (F.CMP_TIME_LO_NS n) (t + k * p)).put (F.CMP_STAT_MISSED n)
        (min 0xFFFF (s.get (F.CMP_STAT_MISSED n) + k))).raise bTIME 11
  else if t * 2 ^ 32 < s.fine && !bitOf s.time.fired n then
    let s1 := (s.put (F.CMP_STAT_LATE n) 1).raise bTIME 13
    { s1 with time := { s1.time with cmpDue := tabSet 0 s1.time.cmpDue n (s1.time.tick + 1) } }
  else s

/-- R97: a capture that input `n` made on this tick is stamped with device time as it now stands. -/
def State.capRestamp (s : State) (n : Nat) : State :=
  if tabGet 0 s.time.capTick n ≠ s.time.tick + 1 then s
  else
    let e := tabGet (0, false) s.time.capLast n
    let q := tabGet [] s.time.capFifo n
    let q1 := if q.getLast? = some e then q.dropLast ++ [(s.now, e.2)] else q
    { s with time := { s.time with capLast := tabSet (0, false) s.time.capLast n (s.now, e.2),
                                   capFifo := tabSet [] s.time.capFifo n q1 } }

/-- R96, R97: device time is stepped by `d`, in 1/16 ns: STEPPED, records, the compare units; the next sample is a
first sample. The records hold whole nanoseconds: the step rounded to nearest, ties to even, a DESIGN CHOICE (log entry 115). -/
def State.stepTime (s : State) (d : Int) : State :=
  let ns := rne d 4
  let s0 := { s with time := { s.time with snapGrid := 0, relGrid := 0, spillGrid := 0 } }
  let s1 := ((List.range 32).foldl State.capRestamp (s0.markTime.setFine (s.fine + d * 2 ^ 28)).firstSample).schedStep s.now
  let v := unsgn 64 ns
  let s2 := (((s1.raise bTIME 8).post 0x0410 0 v (v / 2 ^ 32)).timeSync).acqTime true ns
  (List.range 32).foldl State.cmpPast s2

/-- R92: this device is the ring's time master and the ring runs. -/
def State.timeMaster (s : State) : Bool := s.ringRuns && decide (s.get F.RING_STAT_ROLE = 1)

/-- R92: the servo's update on an offset sample, `n` ticks after the previous one. -/
def State.servo (s : State) (o : Int) (n : Nat) : State :=
  let q := rneDiv (o * 2 ^ 28) n
  let f := clampI (-5368709) 5368709 (s.time.servoF - rne q (s.get F.TIME_SERVO_KI_SHIFT))
  let r := clampI (-5368709) 5368709 (f - rne q (s.get F.TIME_SERVO_KP_SHIFT))
  let r' := if s.timeMaster then clampI (f - 214748) (f + 214748) r else r
  { s with time := { s.time with servoF := f } }.setRate r'

/-- R95: LOSS_THRESH in 1/16 ns. -/
def State.lossThresh (s : State) : Nat :=
  let st := s.get F.TIME_SERVO_STEP_THRESH
  let lk := s.get F.TIME_SERVO_LOCK_THRESH
  16 * (if st ≠ 0 then st else if lk ≠ 0 then 4 * lk else 4)

/-- R93: a sample counts towards lock, or towards its loss. -/
def State.judgeLock (s : State) (o : Int) : State :=
  let src := s.get F.TIME_BLK_STAT_ACTIVE_SRC
  if s.timeSt = tmACQUIRE then
    let run := if o.natAbs < 16 * s.get F.TIME_SERVO_LOCK_THRESH then s.time.lockRun + 1 else 0
    if 16 ≤ run then s.setTimeSt tmLOCKED src false
    else { s with time := { s.time with lockRun := run } }
  else if s.timeSt = tmLOCKED then
    let run := if s.lossThresh < o.natAbs then s.time.lossRun + 1 else 0
    if 3 ≤ run then (s.setTimeSt tmACQUIRE src false).raise bTIME 9
    else { s with time := { s.time with lossRun := run } }
  else s

/-- R92, R93, R96: an offset sample of the active source, in 1/16 ns. -/
def State.timeSample (s : State) (o : Int) : State :=
  let s0 := (s.puti F.TIME_OFFSET_OFFSET (clampI (-2147483648) 2147483647 o)).sourceBack (s.get F.TIME_BLK_STAT_ACTIVE_SRC)
  let s1 := { s0 with time := { s0.time with lastTick := s0.time.tick } }
  let th := s0.get F.TIME_SERVO_STEP_THRESH
  if s0.timeSt = tmFREE ∨ s0.timeSt = tmHOLDOVER then s1
  else if s0.timeSt = tmACQUIRE && decide (th ≠ 0) && decide (16 * th < o.natAbs) && !s0.timeMaster then
    let s2 := s1.stepTime (-o)
    { s2 with time := { s2.time with lockRun := 0 } }
  else if s0.time.first then { s1 with time := { s1.time with first := false } }.judgeLock o
  else (s1.servo o (max 1 (s0.time.tick - s0.time.lastTick))).judgeLock o

/-- R93, R94: SEL is written: acquisition starts anew on the source named, or HOLDOVER. -/
def State.selWritten (s : State) (sel : Nat) : State :=
  let s1 := (s.put F.TIME_SRC_SEL sel).firstSample
  if sel = 0 then s1.setTimeSt tmFREE 0 false
  else if s1.srcPresent sel then s1.setTimeSt tmACQUIRE sel false
  else (s1.setTimeSt tmHOLDOVER sel true).raise bTIME 10

/-- R91: the value of TIME_SRC names a reserved source. -/
def srcReserved (v : Nat) : Bool := decide (5 ≤ bits v 2 0) || decide (5 ≤ bits v 10 8)

/-- R91, R93: a write to TIME_SRC. -/
def State.timeSrcWrite (s : State) (v : Nat) : State :=
  if srcReserved v then s.reject bTIME
  else ((s.put F.TIME_SRC_HOLD_LIMIT (bits v 31 24)).put F.TIME_SRC_FALLBACK (bits v 10 8)).selWritten (bits v 2 0)

/-- R93: a write to TIME_SRC. -/
def execTimeSrcWrite (v : Word) (s : State) : Out := .next (s.timeSrcWrite v.toNat)

/-- A source is a PTP port. -/
def isPtp (src : Nat) : Bool := src = 2 || src = 3

/-- R529: the PTP source that a write to TIME_EXT_OFFSET is a sample of. -/
def State.ptpSource (s : State) : Option Nat :=
  if isPtp (s.get F.TIME_SRC_SEL) then some (s.get F.TIME_SRC_SEL)
  else if isPtp (s.get F.TIME_SRC_FALLBACK) then some (s.get F.TIME_SRC_FALLBACK)
  else if isPtp (s.get F.TIME_BLK_STAT_ACTIVE_SRC) then some (s.get F.TIME_BLK_STAT_ACTIVE_SRC)
  else none

/-- R529: presence of PTP source `src`. -/
def State.setPtp (s : State) (src : Nat) (b : Bool) : State :=
  if src = 2 then { s with time := { s.time with ptp0 := b } }
  else if src = 3 then { s with time := { s.time with ptp1 := b } } else s

/-- R529: firmware writes a PTP offset sample; it keeps its source present, and drives the servo when it is active. -/
def State.ptpOffset (s : State) (v : Nat) : State :=
  match s.ptpSource with
  | none => s
  | some src =>
    let s1 := s.setPtp src true
    if s.get F.TIME_BLK_STAT_ACTIVE_SRC = src then s1.timeSample (sgn 32 v) else s1

/-- R529: a write to TIME_EXT_OFFSET. -/
def execPtpOffsetWrite (v : Word) (s : State) : Out := .next (s.ptpOffset v.toNat)

/-- R91: the presence of source `src` ends. -/
def State.dropSource (s : State) (src : Nat) : State :=
  if src = 1 then { s with time := { s.time with ringSeen := false } }
  else if src = 4 then { s with splice := { s.splice with timeUp := false } }
  else s.setPtp src false

/-- R91: the loss condition of source `src` expires. -/
def execTimeSourceLost (src : Nat) (s : State) : Out :=
  .next (if 1 ≤ src ∧ src ≤ 4 then (s.dropSource src).sourceLost src else s)

/-- R93: HOLD_LIMIT seconds have passed in HOLDOVER. With no fallback present ACTIVE_SRC goes on to show the lost source in FREE, a
DESIGN CHOICE (log entry 116). -/
def execHoldLimitExpiry (s : State) : Out :=
  let fb := s.get F.TIME_SRC_FALLBACK
  .next (if s.timeSt ≠ tmHOLDOVER then s
    else if fb ≠ 0 && s.srcPresent fb then (s.setTimeSt tmACQUIRE fb false).firstSample
    else (s.setRate s.time.servoF).setTimeSt tmFREE (s.get F.TIME_BLK_STAT_ACTIVE_SRC) false)

/-- R98, R140: a pulse on tick groups: class-B slots with TICK_SRC 2 bound to a group of the mask are ticked. -/
def State.tickGroups (s : State) (mask : Nat) : State :=
  (s.usedSlots.filter (fun n => !classA n && s.tickSrc n = 2 &&
    bitOf mask ((s.word (0x21000038 + 0x100 * n)).toNat % 16))).foldl (fun (t : State) n => t.tickSlot n false) s

/-- R98, R215: the compare pulse of unit `n` on its pin lasts WIDTH ticks. -/
def State.cmpPin (s : State) (n : Nat) : State :=
  if s.on (F.CMP_AUX_GPIO_EN n) then
    { s with pwm := { s.pwm with pulses := tabSet 0 s.pwm.pulses n (s.time.tick + max 1 (s.get (F.CMP_AUX_WIDTH n))) } }
  else s

/-- R330: triggers of event tasks fire, as bits of words 2 and 3 of a task's entry. -/
def State.progTrg (s : State) (w2 w3 : Nat) : State :=
  { s with prog := { s.prog with ev2 := Nat.lor s.prog.ev2 w2, ev3 := Nat.lor s.prog.ev3 w3 } }

/-- R98: the tick groups, event lines or ADC cores of `mask` that no compare unit has pulsed on this tick. -/
def State.cmpNew (s : State) (seen mask : Nat) : Nat := if s.time.cmpTick = s.time.tick + 1 then mask - Nat.land seen mask else mask

/-- R98: tick groups, event lines and ADC cores are pulsed on this tick. -/
def State.cmpNote (s : State) (tg sched adc : Nat) : State :=
  let same := s.time.cmpTick = s.time.tick + 1
  { s with time := { s.time with cmpTick := s.time.tick + 1, cmpTg := Nat.lor (if same then s.time.cmpTg else 0) tg,
                                 cmpSched := Nat.lor (if same then s.time.cmpSched else 0) sched,
                                 cmpAdc := Nat.lor (if same then s.time.cmpAdc else 0) adc } }

/-- R98: the pulse of compare unit `n` reaches every routed destination on one tick; source 88 + n. Pulses of several units to a
tick group, an event line or an ADC core on the same tick are one. -/
def State.cmpPulse (s : State) (n : Nat) : State :=
  let tg := s.cmpNew s.time.cmpTg (s.get (F.CMP_ROUTE_TG n))
  let sch := s.cmpNew s.time.cmpSched (s.get (F.CMP_ROUTE_SCHED n))
  let adc := s.cmpNew s.time.cmpAdc (s.get (F.CMP_ROUTE_ADC n))
  let s0 := (s.cmpNote tg sch adc).adcTriggers adc 17
  let s1 := if s0.lashSt = lsSTANDBY then s0 else (s0.mirInputIf (decide (tg ≠ 0)) (.tick tg)).tickGroups tg
  let lines := (List.range 8).filter (bitOf sch)
  let s2 := ((lines.foldl State.eventLine s1).progTrg (s.get (F.CMP_ROUTE_SCHED n)) 0).cmpPin n
  let s3 := if s.on (F.CMP_AUX_ACQ n) then s2.acqEvent n s.now else s2
  s3.pulse (88 + n)

/-- R97, R98: device time reaches the instant of compare unit `n`, or a late one-shot unit the tick after the step: the pulse; a
periodic unit adds PERIOD. -/
def State.cmpFire (s : State) (n : Nat) : State :=
  let t := s.get64 (F.CMP_TIME_LO_NS n)
  let s1 := ((s.advanceTo t).advanceTick (tabGet 0 s.time.cmpDue n)).cmpPulse n
  if s.on (F.CMP_CTRL_PERIODIC n) then s1.put64 (F.CMP_TIME_LO_NS n) (t + s.get (F.CMP_PERIOD_NS n))
  else { s1 with time := { s1.time with fired := putBit s1.time.fired n true } }

/-- R98: compare unit `n` fires, if it is enabled and, as a one-shot unit, has not fired. -/
def execCmpFire (n : Nat) (s : State) : Out :=
  .next (if s.clocked && decide (n < 32) && s.on (F.CMP_CTRL_EN n) && (s.on (F.CMP_CTRL_PERIODIC n) || !bitOf s.time.fired n) then s.cmpFire n
    else s)

/-- R99: EN of compare unit `n` is written 1 while it is 0. -/
def State.cmpEnable (s : State) (n : Nat) : State :=
  if s.on (F.CMP_CTRL_PERIODIC n) && decide (s.get (F.CMP_PERIOD_NS n) < 100) then s.reject bTIME
  else
    let s1 := ((s.put (F.CMP_CTRL_EN n) 1).put (F.CMP_STAT_MISSED n) 0)
    { s1 with time := { s1.time with fired := putBit s1.time.fired n false, cmpDue := tabSet 0 s1.time.cmpDue n 0 } }.cmpPast n

/-- R28, R99: a write to CMPn_CTRL. -/
def State.cmpCtrl (s : State) (n v : Nat) : State :=
  let en := s.on (F.CMP_CTRL_EN n)
  let s1 :=
    if !en then s.put (F.CMP_CTRL_PERIODIC n) (bits v 1 1)
    else if bits v 1 1 ≠ s.get (F.CMP_CTRL_PERIODIC n) then s.lockReject bTIME n (0x400 + 0x20 * n) false else s
  if bitOf v 0 then (if en then s1 else s1.cmpEnable n)
  else (s1.put (F.CMP_CTRL_EN n) 0).put (F.CMP_STAT_LATE n) 0

/-- R99: a write to CMPn_CTRL. -/
def execCmpnCtrlWrite (n : Nat) (v : Word) (s : State) : Out := .next (if n < 32 then s.cmpCtrl n v.toNat else s)

/-- The FIFO of capture input `n` (R101). -/
def State.capFifo (s : State) (n : Nat) : List (Nat × Bool) := tabGet [] s.time.capFifo n

/-- R101: LEVEL, HEAD_RISE and the head stamp follow the FIFO of input `n`. -/
def State.setCapFifo (s : State) (n : Nat) (q : List (Nat × Bool)) : State :=
  let s1 := { s with time := { s.time with capFifo := tabSet [] s.time.capFifo n q } }
  (s1.put (F.CAP_STAT_LEVEL n) q.length).put (F.CAP_STAT_HEAD_RISE n) (match q with | [] => 0 | e :: _ => b2n e.2)

/-- R101: an edge enters the FIFO of input `n`, or is discarded. -/
def State.capPush (s : State) (n : Nat) (e : Nat × Bool) : State :=
  let q := s.capFifo n
  if q.length < 4 then s.setCapFifo n (q ++ [e])
  else ((s.incSat (F.CAP_STAT_OVR_COUNT n)).put (F.CAP_STAT_OVR n) 1).raise bTIME 12

/-- R100, R101: a qualifying edge at input `n`, stamped `ts`; source 120 + n. -/
def State.capEdge (s : State) (n : Nat) (rising : Bool) (ts : Nat) : State :=
  let t := ts % 2 ^ 64
  let s1 := s.capPush n (t, rising)
  let tm := { s1.time with capCount := tabSet 0 s1.time.capCount n (tabGet 0 s1.time.capCount n + 1),
                           capLast := tabSet (0, false) s1.time.capLast n (t, rising),
                           capTick := tabSet 0 s1.time.capTick n (if t = s1.now then s1.time.tick + 1 else 0) }
  let s2 := { s1 with time := tm }.adcTriggers (s.get (F.CAP_CTRL_ADC n)) 20
  let s3 := if s.on (F.CAP_CTRL_ACQ n) then s2.acqEvent (32 + n) t else s2
  s3.pulse (120 + n)

/-- R100: the edge qualifies under EDGE; value 3 is reserved and none does. -/
def edgeOk (sel : Nat) (rising : Bool) : Bool := (sel = 0 && rising) || (sel = 1 && !rising) || sel = 2

/-- R100, R101: the pin of capture input `n` changes and stays at the new level for `samples` ticks: an edge from FILTER + 1 on.
The command stands at the tick of the first of these samples, whose device time is the stamp, and on which the routes are pulsed
(log entry 117). -/
def execCapEdge (n : Nat) (rising : Bool) (samples : Nat) (s : State) : Out :=
  .next (if n < 32 && !s.mirCap n && s.on (F.CAP_CTRL_EN n) && decide (s.get (F.CAP_CTRL_FILTER n) < samples) &&
      edgeOk (s.get (F.CAP_CTRL_EDGE n)) rising then
    (s.capEdge n rising s.now).mirInputIf (bitOf (s.get F.LASH_MIR_CAP) n) (.cap n rising s.now) else s)

/-- R101: a write to CAPn_CTRL: clearing EN empties the FIFO, setting it clears OVR_COUNT. -/
def State.capCtrl (s : State) (n v : Nat) : State :=
  let a := (F.CAP_CTRL_EN n).addr
  let old := (s.word a).toNat
  let en := bitOf old 0
  let lock := 0xFF000006
  let new := if en then Nat.land old lock + Nat.land v 0x00FF0201 else Nat.land v 0xFFFF0207
  let s1 := if en && decide (Nat.land old lock ≠ Nat.land v lock)
    then s.lockReject bTIME (0x20 + n) (a - bTIME) false else s
  let s2 := s1.setWord a (Word.of new)
  if !bitOf v 0 then s2.setCapFifo n []
  else if en then s2 else s2.put (F.CAP_STAT_OVR_COUNT n) 0

/-- R109: the time-stamp queue of port `p`. -/
def State.tsq (s : State) (p : Nat) : List TxStamp := tabGet [] s.time.tsq p

/-- R109: the time-stamp queue of port `p` and its LEVEL. R114: EN of the port, written 0 or 1, leaves the queue and the HEAD
indexes as they are, a DESIGN CHOICE (log entry 118). -/
def State.setTsq (s : State) (p : Nat) (q : List TxStamp) : State :=
  { s with time := { s.time with tsq := tabSet [] s.time.tsq p q } }.put (F.ETH_TSQ_STAT_LEVEL p) q.length

/-- R109, R110: a stamp enters the queue of port `p`, or is discarded. -/
def State.tsqPush (s : State) (p : Nat) (e : TxStamp) : State :=
  if (s.tsq p).length < 16 then s.setTsq p (s.tsq p ++ [e])
  else (s.incSat (F.ETH_TSQ_STAT_OVF_COUNT p)).raise bETH (8 + p)

/-- R109: a read of ETHp_TSQ_TS_LO removes the head stamp of port `p` and shows its tag; the stamp, 0 where there is none. -/
def State.tsqPop (s : State) (p : Nat) : Nat × State :=
  match s.tsq p with
  | [] => (0, s.put (F.ETH_TSQ_TAG_VALID p) 0)
  | e :: t => (e.ns, ((s.setTsq p t).put (F.ETH_TSQ_TAG_TAG p) e.tag).put (F.ETH_TSQ_TAG_VALID p) 1)

/-- R114: descriptors in a ring whose log2 is `log`. The range is 2-10: a value above counts as 10 and 0 and 1 give 1 and 2
descriptors, a DESIGN CHOICE (log entry 119). -/
def ringLen (log : Nat) : Nat := 2 ^ min log 10

/-- R109, R111: the frame of the transmit descriptor at HEAD has left, or was not sent. -/
def State.ethSent (s : State) (p : Nat) (ok : Bool) (stamp : Nat) : State :=
  let h := s.get (F.ETH_TX_IDX_HEAD p)
  let a := s.get (F.ETH_TX_BASE_BASE p) + 16 * h
  let w1 := (s.word (a + 4)).toNat
  if !bitOf w1 31 then s
  else
    let s1 := (s.setWord (a + 4) (Word.of (w1 - 2 ^ 31 - (if bitOf w1 30 then 2 ^ 30 else 0) + (if ok then 0 else 2 ^ 30)))).put
      (F.ETH_TX_IDX_HEAD p) ((h + 1) % ringLen (s.get (F.ETH_RING_SIZE_TX_LOG p)))
    let e : TxStamp := { ns := (stamp + s.get (F.ETH_LAT_TX_LAT p)) % 2 ^ 64, tag := bits (s.word (a + 8)).toNat 15 0 }
    (if ok && bitOf w1 16 then s1.tsqPush p e else s1).pulse (261 + 2 * p)

/-- R109: a frame of a transmit descriptor is done; `stamp` is device time at the RGMII pins. -/
def execEthFrameSent (port : Nat) (ok : Bool) (stamp : Nat) (s : State) : Out := s.awake (
  .next (if port < 2 && s.on F.SYS_ARM_OUTEN && s.on (F.ETH_CTRL_EN port) &&
      decide (s.get (F.ETH_TX_IDX_HEAD port) ≠ s.get (F.ETH_TX_IDX_TAIL port)) then s.ethSent port ok stamp else s))

/-- R112: the first `n` bytes of a frame that stands in words, low byte first; bytes beyond them are 0. -/
def frameBytes (ws : List Word) (n : Nat) : List Nat := (List.range n).map (fun i => (ws.getD (i / 4) 0).toNat / 2 ^ (8 * (i % 4)) % 256)

/-- R114: the port takes frames for its MAC address, for group addresses, and with PROMISC for any. The first byte of an address is
the most significant of the 48 bits, and its lowest bit marks a group: both a DESIGN CHOICE (log entry 120). -/
def State.ethTakes (s : State) (p : Nat) (data : List Word) : Bool :=
  let dst := (frameBytes data 6).foldl (fun (v : Nat) b => v * 256 + b) 0
  s.on (F.ETH_CTRL_PROMISC p) || bitOf dst 40 ||
  decide (dst = s.get (F.ETH_ADDR0_MAC p) + 2 ^ 32 * (s.get (F.ETH_ADDR1_MAC p) % 65536))

/-- R112: a received frame goes to the buffer of the descriptor at HEAD. -/
def State.ethRx (s : State) (p len : Nat) (data : List Word) (bad : Bool) (stamp : Nat) : State :=
  let h := s.get (F.ETH_RX_IDX_HEAD p)
  let a := s.get (F.ETH_RX_BASE_BASE p) + 32 * h
  let w1 := (s.word (a + 4)).toNat
  if !bitOf w1 31 || decide (h = s.get (F.ETH_RX_IDX_TAIL p)) then s.raise bETH (10 + p)
  else
    let size := bits w1 15 0
    let cut := decide (size < len)
    let ts := if s.on (F.ETH_CTRL_RX_TS_EN p) then stamp + 2 ^ 64 - s.get (F.ETH_LAT_RX_LAT p) else 0
    let s1 := s.putBytes (s.word a).toNat (frameBytes data (min size len))
    let s2 := s1.setWords (a + 4) [bits w1 28 16 * 2 ^ 16 + b2n bad * 2 ^ 30 + b2n cut * 2 ^ 29 + len % 2 ^ 16]
    let s3 := (s2.setWords (a + 16) [ts % 2 ^ 32, ts / 2 ^ 32 % 2 ^ 32]).put
      (F.ETH_RX_IDX_HEAD p) ((h + 1) % ringLen (s.get (F.ETH_RING_SIZE_RX_LOG p)))
    (if cut then s3.raise bETH (10 + p) else s3).pulse (260 + 2 * p)

/-- R112: a frame arrives at a port: its length without FCS, its words, its stamp at the RGMII pins. -/
def execEthFrameRx (port len : Nat) (data : List Word) (bad : Bool) (stamp : Nat) (s : State) : Out := s.awake (
  .next (if port < 2 && s.on F.SYS_ARM_OUTEN && s.on (F.ETH_CTRL_EN port) && s.ethTakes port data then s.ethRx port len data bad stamp else s))

/-- R114: a write to ETHp_MDIO; GO starts an access. -/
def State.mdioWrite (s : State) (p v : Nat) : State :=
  let a := (F.ETH_MDIO_GO p).addr
  let go := s.on (F.ETH_MDIO_GO p) || bitOf v 31
  s.setWord a (Word.of (Nat.land v 0x7FF0FFFF + b2n go * 2 ^ 31))

/-- R114: GO is written. -/
def execEthMdioGo (port : Nat) (v : Word) (s : State) : Out := .next (if port < 2 then s.mdioWrite port v.toNat else s)

/-- R114: the MDIO access completes; read data replaces DATA. -/
def execEthMdioDone (port data : Nat) (s : State) : Out := s.awake (
  .next (if port < 2 && s.on (F.ETH_MDIO_GO port) then
    let s1 := s.put (F.ETH_MDIO_GO port) 0
    if s.on (F.ETH_MDIO_READ port) then s1.put (F.ETH_MDIO_DATA port) data else s1
  else s))

/-- R114: a write to ETHp_CTRL: enabling the port clears OVF_COUNT. -/
def State.ethCtrl (s : State) (p v : Nat) : State :=
  let a := (F.ETH_CTRL_EN p).addr
  let old := (s.word a).toNat
  let en := bitOf old 0
  let new := if en then Nat.land old 0xFE + Nat.land v 1 else Nat.land v 0xFF
  let s1 := if en && decide (Nat.land old 0xFE ≠ Nat.land v 0xFE) then s.lockReject bETH p (a - bETH) false else s
  let s2 := s1.setWord a (Word.of new)
  if bitOf v 0 && !en then s2.put (F.ETH_TSQ_STAT_OVF_COUNT p) 0 else s2

/-- R115: the intervals of word 13. -/
def ptpIntervalsBad (v : Nat) (p2p : Bool) : Bool :=
  let sy := sgn 8 (bits v 31 24)
  let an := sgn 8 (bits v 23 16)
  let dl := sgn 8 (bits v 15 8)
  let out (lo hi x : Int) : Bool := decide (x < lo) || decide (hi < x)
  out (-7) 4 sy || out (-3) 4 an || out (-7) 5 dl ||
  (p2p && decide (4096 < 2 ^ (5 - sy).toNat + 2 * 2 ^ (5 - dl).toNat))

/-- R115: a value of TIME_CONFIG outside its range. -/
def timeConfigBad (p : Pkt) : Bool :=
  srcReserved (p.w 0) || outside (p.w 0) 0xFF000707 || outside (p.w 2) 1 || decide (127 < p.w 7) ||
  decide (2 < p.w 8) || decide (1 < p.w 9) || decide (255 < p.w 10) || decide (255 < p.w 11) || decide (255 < p.w 12) ||
  outside (p.w 13) 0xFFFFFF00 || ptpIntervalsBad (p.w 13) (bitOf (p.w 9) 0)

/-- R115: TIME_CONFIG. -/
def execTimeConfig (p : Pkt) (s : State) : Out :=
  .next (s.command p opTimeConfig
    [(timeConfigBad p, stBAD_PARAM), (isPtp (bits (p.w 0) 2 0) && s.ringRuns && !s.timeMaster, stNOT_PERMITTED)]
    (fun t =>
      let c0 : PtpCfg := { domain := p.w 7, transport := p.w 8, p2p := bitOf (p.w 9) 0, intervals := p.w 13 }
      let c : PtpCfg := { c0 with priority1 := p.w 10, priority2 := p.w 11, clockClass := p.w 12 }
      let t1 := (t.setWord F.TIME_SERVO_STEP_THRESH.addr (Word.of (p.w 1))).put F.TIME_RING_PORT_PREF (p.w 2)
      let t2 := ((t1.put F.TIME_ASYM_HA_ASYM (p.w 3)).put F.TIME_ASYM_HB_ASYM (p.w 4)).put (F.ETH_ASYM_ASYM 0) (p.w 5)
      let t3 := t2.put (F.ETH_ASYM_ASYM 1) (p.w 6)
      ({ t3 with time := { t3.time with ptp := c } }.timeSrcWrite (p.w 0)).done p stDONE))

/-- R108: the state of plant port `p` as PTP shows it, where its best-master choice is `st`: SLAVE (9) stands only on a port that
gives the device its time, of a node that is the ring's time master or in no ring; elsewhere the port is masterOnly and passive
(7, PRESUMED, log entry 121). -/
def State.ptpShown (s : State) (p st : Nat) : Nat :=
  if st = 9 && ((s.ringRuns && !s.timeMaster) || decide (s.get F.TIME_SRC_SEL ≠ 2 + p)) then 7 else st % 256

/-- R115: TIME_READ; `ports` holds what the best-master choice of firmware's PTP gives each port. -/
def execTimeRead (p : Pkt) (ports : Nat) (s : State) : Out :=
  .next (s.command p opTimeRead []
    (fun t => t.doneRes p [t.now % 2 ^ 32, t.now / 2 ^ 32, (t.word (bTIME + 8)).toNat, t.get F.TIME_OFFSET_OFFSET,
      t.get F.TIME_LINK_HA_LINK_DELAY, t.get F.TIME_LINK_HB_LINK_DELAY, t.get F.TIME_RATE_RATE,
      t.ptpShown 0 (bits ports 7 0) + 256 * t.ptpShown 1 (bits ports 15 8)]))

/-- R89, R96: a write to the TIME_STEP pair, with SEL 0. The ring's time master makes no step while the ring runs: the write then has
no effect. -/
def State.timeStepWrite (s : State) (v : Nat) : State :=
  if s.get F.TIME_SRC_SEL ≠ 0 then s.reject bTIME else if s.timeMaster then s else s.stepTime (16 * sgn 64 v)

/-- R89, R113: a write to TIME_RATE, with SEL 0, limited to 500 ppm. -/
def State.timeRateWrite (s : State) (v : Nat) : State :=
  if s.get F.TIME_SRC_SEL = 0 then s.setRate (clampI (-5368709) 5368709 (sgn 32 v)) else s.reject bTIME

end Sys2Proof.Machine
end

