-- ==== Sys2Proof/Machine/RingSched.lean ====
section
/-! DEFINITION. The schedule image: reading it, its checks, the banks, the change of bank (10_hawser_ring_cycle
R280-R283, 11_hawser_ring_master R289, R302). -/

namespace Sys2Proof.Machine

/-- R258: the time of one byte, and the bytes a frame occupies beyond FLEN; in 0.1 ns. -/
def byteTime (h1 : Bool) : Nat := if h1 then 80 else 8
def frameExtra (h1 : Bool) : Nat := if h1 then 16 else 24

/-- R258: how long a frame of `len` bytes occupies a link, in 0.1 ns. -/
def occupancy (h1 : Bool) (len : Nat) : Nat := (len + frameExtra h1) * byteTime h1

/-- R281: entry `i` of the node table as (UID, RANK, NODE, MAP_COUNT, MAP_FIRST). -/
def nodeEntry (ws : List Nat) (i : Nat) : Nat × Nat × Nat × Nat × Nat :=
  let b := iw ws 13 / 4 + 4 * i
  (iw ws b + 2 ^ 32 * iw ws (b + 1), bits (iw ws (b + 2)) 11 8, bits (iw ws (b + 2)) 6 0, bits (iw ws (b + 3)) 31 16,
    bits (iw ws (b + 3)) 15 0)

/-- R281: entry `i` of the segment table as (LEN, VER, KIND, OWNER, PAIR, OFFSET). -/
def segEntry (ws : List Nat) (i : Nat) : Nat × Nat × Nat × Nat × Nat × Nat :=
  let b := iw ws 14 / 4 + 2 * i
  let a := iw ws b
  let c := iw ws (b + 1)
  (bits a 23 16, bits a 15 12, bits a 10 8, bits a 6 0, bits c 24 16, bits c 12 0)

/-- R281: entry `i` of the slot table as (MAXLEN, OWNER, START, END). -/
def slotEntry (ws : List Nat) (i : Nat) : Nat × Nat × Nat × Nat :=
  let b := iw ws 15 / 4 + 3 * i
  (bits (iw ws b) 31 16, bits (iw ws b) 6 0, iw ws (b + 1), iw ws (b + 2))

/-- R281: entry `i` of the map area as (COUNT, FIRST, DIR, SEG, INDEX). -/
def mapEntry (ws : List Nat) (i : Nat) : Nat × Nat × Nat × Nat × Nat :=
  let b := iw ws 16 / 4 + 2 * i
  let a := iw ws b
  (bits a 31 24, bits a 23 16, bits a 9 9, bits a 8 0, bits (iw ws (b + 1)) 23 0)

/-- R280: NNODES, NSEG, NSLOT of an image. -/
def nNodes (ws : List Nat) : Nat := bits (iw ws 4) 7 0
def nSegs (ws : List Nat) : Nat := bits (iw ws 4) 25 16
def nSlots (ws : List Nat) : Nat := bits (iw ws 4) 15 8

/-- R281: this device's entry in the node table. -/
def ownEntry (ws : List Nat) (uid : Nat) : Option (Nat × Nat × Nat × Nat × Nat) :=
  ((List.range (nNodes ws)).map (nodeEntry ws)).find? (fun e => e.1 = uid)

/-- R280, R281: the schedule an image holds, as far as the device with UID `uid` keeps it. -/
def parseSched (ws : List Nat) (uid : Nat) : Option Sched :=
  match ownEntry ws uid with
  | none => none
  | some (_, _, node, cnt, first) =>
    let h : Sched := { proto := bits (iw ws 1) 31 24, gen := bits (iw ws 1) 19 16, id := iw ws 2, cycleNs := iw ws 3 }
    let h1 := { h with nseg := nSegs ws, nslot := nSlots ws, nnodes := nNodes ws, bightLen := iw ws 5, bightOff := iw ws 6 }
    let h2 := { h1 with lapNs := iw ws 7, compNs := iw ws 8, guardNs := iw ws 9, wdog := bits (iw ws 10) 15 0 }
    let h3 := { h2 with reqCap := iw ws 11 + 2 ^ 32 * iw ws 12, node := node, image := ws }
    some { h3 with
      nodes := (List.range (nNodes ws)).map (fun i => let e := nodeEntry ws i; (e.1, e.2.1, e.2.2.1))
      segs := (List.range (nSegs ws)).map (segEntry ws)
      slots := (List.range (nSlots ws)).map (slotEntry ws)
      maps := (List.range cnt).map (fun i => mapEntry ws (first + i)) }

/-- R282: MAGIC, the CRC, FORMAT or PROTO is wrong. -/
def schedVerBad (ws : List Nat) (h1 : Bool) : Bool :=
  decide (iw ws 0 ≠ 0x48575331) || decide (ws.length < 21) || decide (crc32cWords ws.dropLast ≠ iw ws (ws.length - 1)) ||
  decide (bits (iw ws 1) 15 0 ≠ 1) || decide (bits (iw ws 1) 31 24 ≠ (if h1 then 1 else 2))

/-- No value occurs twice. -/
def noRepeat : List Nat → Bool
  | [] => true
  | x :: t => !t.contains x && noRepeat t

/-- R280, R281: header fields and table places in their ranges. -/
def schedRangeBad (ws : List Nat) : Bool :=
  let c := iw ws 3
  let len := 4 * ws.length
  let off (w n size : Nat) : Bool := decide (iw ws w % 4 ≠ 0) || decide (len - 4 < iw ws w + n * size)
  decide (iw ws 17 ≠ len) || decide (262144 < len) || decide (iw ws 2 = 0) || decide (c < 10000) || decide (1000000 < c) ||
  decide (c % 2500 ≠ 0) || decide (nSegs ws < 1) || decide (512 < nSegs ws) || decide (128 < nSlots ws) ||
  decide (nNodes ws < 2) || decide (128 < nNodes ws) || decide (iw ws 8 < 1000) || decide (iw ws 9 < 80) ||
  decide (10000 < iw ws 9) || outside (iw ws 1) 0xFF0FFFFF || outside (iw ws 4) 0x03FFFFFF || outside (iw ws 10) 0xFFFF ||
  decide (iw ws 18 ≠ 0) || decide (iw ws 19 ≠ 0) || off 13 (nNodes ws) 16 || off 14 (nSegs ws) 8 || off 15 (nSlots ws) 12 ||
  decide (iw ws 16 % 4 ≠ 0)

/-- R281: `cnt` map entries from entry `first` on: past the image, or with reserved bits. -/
def mapRangeBad (ws : List Nat) (cnt first : Nat) : Bool :=
  decide (4 * ws.length - 4 < iw ws 16 + 8 * (first + cnt)) ||
  (List.range cnt).any (fun i =>
    outside (iw ws (iw ws 16 / 4 + 2 * (first + i))) 0xFFFF03FF || outside (iw ws (iw ws 16 / 4 + 2 * (first + i) + 1)) 0xFFFFFF)

/-- R281, R282: the entries of the tables in their ranges, the map entries of every node among them, PAIR 0 but in a REQUEST; node numbers
and UIDs unique. -/
def schedTablesBad (ws : List Nat) : Bool :=
  let ns := (List.range (nNodes ws)).map (nodeEntry ws)
  let segs := List.range (nSegs ws)
  let rank (r : Nat) : Bool := decide (r ≤ 3) || decide (r = 15)
  ns.any (fun (_, r, _, cnt, _) => !rank r || decide (1024 < cnt)) ||
  (List.range (nNodes ws)).any (fun i => outside (iw ws (iw ws 13 / 4 + 4 * i + 2)) 0xF7F) ||
  segs.any (fun i => outside (iw ws (iw ws 14 / 4 + 2 * i)) 0x00FFF77F || outside (iw ws (iw ws 14 / 4 + 2 * i + 1)) 0x01FF1FFF) ||
  (List.range (nSlots ws)).any (fun i => outside (iw ws (iw ws 15 / 4 + 3 * i)) 0xFFFF007F) ||
  !noRepeat (ns.map (fun e => e.1)) || !noRepeat (ns.map (fun e => e.2.2.1)) ||
  segs.any (fun i => decide ((segEntry ws i).1 = 0) || decide (3 < (segEntry ws i).2.2.1) ||
    (decide ((segEntry ws i).2.2.1 ≠ 1) && decide ((segEntry ws i).2.2.2.2.1 ≠ 0))) ||
  ns.any (fun (_, _, _, cnt, first) => mapRangeBad ws cnt first) ||
  (List.range (nSlots ws)).any (fun i => decide ((slotEntry ws i).1 < 20) || decide (1518 < (slotEntry ws i).1))

/-- R282: each segment starts where the previous one ends, from offset 16; the end of the last one. -/
def segEnd (ws : List Nat) : Nat → Option Nat
  | 0 => some 16
  | n + 1 =>
    match segEnd ws n with
    | none => none
    | some o => if (segEntry ws n).2.2.2.2.2 = o then some (o + 8 + 4 * (segEntry ws n).1) else none

/-- R274, R282: segment `i`, a REQUEST, names an ANSWER segment that lies far enough after it. -/
def requestOk (ws : List Nat) (h1 : Bool) (i : Nat) : Bool :=
  let (len, _, _, _, pair, o) := segEntry ws i
  let (_, _, kind, _, _, oa) := segEntry ws pair
  decide (pair < nSegs ws) && decide (kind = 2) && decide (i < pair) &&
    (h1 || decide (o + 8 + 4 * len - 1 + 64 ≤ oa + 4))

/-- R282: requests and answers are paired. -/
def pairsBad (ws : List Nat) (h1 : Bool) : Bool :=
  let segs := List.range (nSegs ws)
  let reqs := segs.filter (fun i => (segEntry ws i).2.2.1 = 1)
  reqs.any (fun i => !requestOk ws h1 i) ||
  segs.any (fun i => (segEntry ws i).2.2.1 = 2 &&
    decide ((reqs.filter (fun r => (segEntry ws r).2.2.2.2.1 = i)).length ≠ 1))

/-- R282: the slots of the acyclic window; `prev` is the earliest START of the next one. Times in 0.1 ns. -/
def slotsBad (h1 : Bool) (guard limit : Nat) : Nat → List (Nat × Nat × Nat × Nat) → Bool
  | prev, [] => decide (limit < prev)
  | prev, (maxlen, _, st, en) :: t =>
    decide (en < st) || decide (10 * (en - st) < occupancy h1 maxlen) || decide (10 * st < prev) ||
      slotsBad h1 guard limit (10 * (en + guard)) t

/-- R282: BIGHT_OFF, the acyclic window and the delivery bound fit the cycle. -/
def budgetBad (ws : List Nat) (h1 : Bool) : Bool :=
  let tail := 10 * iw ws 6 + occupancy h1 (iw ws 5)
  let slots := (List.range (nSlots ws)).map (slotEntry ws)
  decide (10 * iw ws 6 < occupancy h1 64) || decide (10 * iw ws 3 < tail + 10 * iw ws 7 + 10 * iw ws 8) ||
  (!slots.isEmpty && slotsBad h1 (iw ws 9) (10 * iw ws 3) (tail + 10 * iw ws 9) slots)

/-- R282: this device's map entries. -/
def mapsBad (ws : List Nat) (pair : Option Nat) (node cnt first : Nat) : Bool :=
  (List.range cnt).any (fun i =>
    let (c, f, dir, seg, ix) := mapEntry ws (first + i)
    let (len, _, _, owner, _, _) := segEntry ws seg
    decide (nSegs ws ≤ seg) || decide ((dir = 1) ≠ (owner = node ∨ pair = some owner)) || decide (len < f + c) || decide (262144 < ix + c))

/-- R282, R429: any other condition fails; `uid` is this device's, `pair` its PAIR_NODE, `h1` its GEN. -/
def schedBad (ws : List Nat) (pair : Option Nat) (uid : Nat) (h1 : Bool) : Bool :=
  schedRangeBad ws || decide (bits (iw ws 1) 19 16 ≠ b2n h1) || schedTablesBad ws ||
  decide (segEnd ws (nSegs ws) ≠ some (iw ws 5 - 4)) || decide ((if h1 then 4096 else 8192) < iw ws 5) ||
  pairsBad ws h1 || budgetBad ws h1 ||
  (match ownEntry ws uid with
   | none => true
   | some (_, _, node, cnt, first) => mapsBad ws pair node cnt first)

/-- RING_CTRL.GEN selects H1. -/
def State.h1 (s : State) : Bool := s.on F.RING_CTRL_GEN

/-- RING_CAP, 64 bits (R310). -/
def State.ringCap (s : State) : Nat := s.get64 F.RING_CAP_LO

/-- R282, R313: why this device refuses an image: VERSION_MISMATCH or BAD_PARAM; none if it accepts it. -/
def State.imageFault (s : State) (ws : List Nat) : Option Nat :=
  if schedVerBad ws s.h1 || outside (iw ws 11 + 2 ^ 32 * iw ws 12) s.ringCap then some stVERSION_MISMATCH
  else if schedBad ws (if s.on F.LASH_EN then some (s.get F.LASH_PAIR_NODE) else none) s.otp.uid s.h1 then some stBAD_PARAM
  else none

/-- R283: where bank `b` stands in the address map. -/
def bankAddr (b : Nat) : Nat := bRING + 0x8000 + 0x4000 * b

/-- R283: the words of an image that a bank keeps: header, tables and this device's map entries from MAP_OFF, with
MAP_FIRST rewritten to 0. What does not fit the 16 KiB of a bank is not kept. -/
def bankWords (ws : List Nat) (uid : Nat) : List Nat :=
  match ownEntry ws uid with
  | none => []
  | some (_, _, _, cnt, first) =>
    let m := iw ws 16 / 4
    let own := (List.range (2 * cnt)).map (fun i => iw ws (m + 2 * first + i))
    let row := ((List.range (nNodes ws)).find? (fun i => (nodeEntry ws i).1 = uid)).getD 0
    let head := (ws.take m).set (iw ws 13 / 4 + 4 * row + 3) (cnt * 2 ^ 16)
    (head ++ own).take 4096

/-- R283: an accepted image goes into bank `b`. -/
def State.storeBank (s : State) (b : Nat) (ws : List Nat) : State :=
  let s1 := s.setWords (bankAddr b) (bankWords ws s.otp.uid)
  { s1 with ring := { s1.ring with banks := tabSet none s1.ring.banks b (parseSched ws s.otp.uid) } }

/-- R283: core code wrote the spare bank `b`: what the bank now holds. -/
def State.readBank (s : State) (b : Nat) : State :=
  let ws := s.getWords (bankAddr b) 4096
  let sc := if iw ws 0 = 0x48575331 then parseSched ws s.otp.uid else none
  { s with ring := { s.ring with banks := tabSet none s.ring.banks b sc } }

/-- The bank that is not in use. -/
def State.spareBank (s : State) : Nat := 1 - s.get F.RING_STAT_BANK

/-- R295: the device itself commits RING_BANK and RING_SWITCH_CYC; the cycle boundary is the safe point. -/
def State.commitBank (s : State) (b sw : Nat) : State :=
  (((s.put F.RING_BANK_SEL.staged b).put F.RING_SWITCH_CYC.staged sw).dropCommit bRING 0).askCommit bRING 0 none

/-- R31, R283: the commit of RING at its safe point: the change of bank waits for its cycle. -/
def State.commitRing (s : State) : State :=
  let s1 := (s.activateAll [F.RING_BANK_SEL, F.RING_SWITCH_CYC]).endCommit bRING 0 stDONE s.now
  { s1 with ring := { s1.ring with switchPend := true } }

/-- A ring record (R488): code 0x0910, source node. -/
def State.ringRec (s : State) (kind hi : Nat) : State :=
  let node := match s.bankSched with | some sc => sc.node | none => 0x7F
  s.post 0x0910 node kind hi

/-- R289: this device is a candidate: RANK 0-3. -/
def State.candidate (s : State) : Bool := decide (s.get F.RING_CTRL_RANK ≤ 3)

/-- R289, R314: accepting an image writes RANK from this device's entry in the node table; that of the master in force is M_RANK too. -/
def State.takeRank (s : State) (ws : List Nat) : State :=
  match ownEntry ws s.otp.uid with
  | some (_, r, _, _, _) =>
    let s1 := s.put F.RING_CTRL_RANK r
    if s1.timeMaster then s1.put F.RING_M_RANK r else s1
  | none => s

/-- R301: the device sets SEL to RING. -/
def State.selRing (s : State) : State := if s.get F.TIME_SRC_SEL = 1 then s else s.selWritten 1

/-- R108, R301: a node that runs without being master follows the ring, not a plant port; `joins` where it ran in no
ring before: then it leaves FREE too. -/
def State.selJoin (s : State) (joins : Bool) : State :=
  let sel := s.get F.TIME_SRC_SEL
  if s.ringRuns && !s.timeMaster && (isPtp sel || (joins && sel = 0)) then s.selRing else s

/-- R46, R286, R301: STATE of the node; the first OPERATIONAL after a reset makes STAGE OPERATIONAL and clears the error of a
late join. -/
def State.setRingSt (s : State) (st : Nat) : State :=
  let s1 := s.put F.RING_STAT_STATE st
  let s2 := if st = rsOPERATIONAL && s1.stage = STAGE_RING_JOIN then
      (if s1.get F.SYS_BOOT_STAT_ERR = 0x06 then s1.setErr 0 else s1).setStage STAGE_OPERATIONAL
    else s1
  s2.selJoin (!s.ringRuns)

/-- The link bit of port `p` in RING_STAT. -/
def linkBit (p : Nat) : Fld := ⟨0x20090064, 7 + p, 7 + p⟩
/-- R306: the turn-back bit of port `p`. -/
def wrapBit (p : Nat) : Fld := ⟨0x200900A8, p, p⟩
/-- R308: BREAK of the ring that leaves at port `p`, and its valid bit. -/
def breakFld (p : Nat) : Fld := ⟨0x200900A8, 15 + 8 * p, 8 + 8 * p⟩
def breakValid (p : Nat) : Fld := ⟨0x200900A8, 2 + p, 2 + p⟩
/-- R306: frames are turned back at port `p` from now on. -/
def State.startWrap (s : State) (p : Nat) : State :=
  if s.on (wrapBit p) then s else (s.put (wrapBit p) 1).incSat F.RING_WRAP_EVT

/-- R308: a node that becomes master turns nothing back; where the link of port `p` is down, the break lies there. -/
def State.masterPort (s : State) (p : Nat) : State :=
  let s1 := s.put (wrapBit p) 0
  if s.on (linkBit p) then s1 else (s1.put (breakFld p) 0).put (breakValid p) 1

/-- This device's node number in message frames; 0x7F while no schedule is in force. -/
def State.ownNodeNo (s : State) : Nat := match s.curSched with | some sc => sc.node | none => 0x7F

/-- R301, R308, R312: this node takes the master role; what its ring covers counts from now on. -/
def State.becomeMaster (s0 : State) : State :=
  let s := { s0 with ring := { s0.ring with capHist := [], admitted := none } }
  let s1 := ((s.put F.RING_STAT_ROLE 1).put64 F.RING_MASTER_UID_LO s.otp.uid).put F.RING_M_RANK (s.get F.RING_CTRL_RANK)
  let s2 := s1.put F.RING_M_NODE s.ownNodeNo
  let s3 := ((s2.put F.RING_POS_A 0).put F.RING_POS_B 0).put F.RING_STAT_POS_A 0
  let s4 := ((s3.put F.RING_STAT_POS_B 0).masterPort 0).masterPort 1
  if s4.get F.TIME_SRC_SEL = 1 then s4.selWritten 0 else s4

/-- R295: the load command ends without its change of bank. -/
def State.abandonLoad (s : State) : State :=
  let s1 := s.doneOpt s.ring.loadPkt stTIMEOUT
  { s1 with ring := { s1.ring with loadPkt := none, distImg := [] } }

/-- R287: the role of a node that is not master. -/
def State.stationRole (s : State) : Nat := if s.candidate then 2 else 0

/-- R300, R301, R315: a master gives up its role: SEL goes back to RING, a distribution is abandoned. -/
def State.giveUpRole (s : State) : State :=
  if s.get F.RING_STAT_ROLE = 1 then
    (((s.put F.RING_STAT_ROLE s.stationRole).put F.RING_BRK_A_VALID 0).put F.RING_BRK_B_VALID 0).abandonLoad.selRing
  else s

/-- R300, R302, R306: a master gives up its role while the ring runs: it turns frames back where a link is down. -/
def State.handBack (s : State) : State :=
  [0, 1].foldl (fun (t : State) p => if t.on (linkBit p) then t else t.startWrap p) s.giveUpRole

/-- R302: the node with this UID was present in the previous cycle, under the schedule then in force. -/
def State.presentUid (s : State) (uid : Nat) : Bool :=
  match s.curSched with
  | none => false
  | some old => old.nodes.any (fun (u, _, n) => decide (u = uid) && s.nodePresent n)

/-- R302: the node that has the master role under schedule `sc`, as (RANK, UID): of the master in force, `uid`, and the candidates that were
present in the previous cycle. -/
def State.schedMaster (s : State) (sc : Sched) (uid : Nat) : Option (Nat × Nat) :=
  let cands := sc.nodes.filter (fun (u, r, n) => decide (u = uid) || (decide (r ≤ 3) && (decide (n = sc.node) || s.presentUid u)))
  cands.foldl (fun best (u, r, _) =>
    match best with
    | none => some (r, u)
    | some (r', u') => if r < r' || (decide (r = r') && decide (u < u')) then some (r, u) else best) none

/-- R295, R302, R314: the role passes, as found, at a change of bank to `sc`; with the master every image not complete is abandoned. -/
def State.handRole (s : State) (sc : Sched) (m : Option (Nat × Nat)) : State :=
  match m with
  | none => s
  | some (r, u) =>
    let s0 := if u = s.get64 F.RING_MASTER_UID_LO then s else { s with ring := { s.ring with blks := [] } }
    if u = s.otp.uid then (if s.timeMaster then (s.put F.RING_M_RANK r).put F.RING_M_NODE sc.node else (s0.becomeMaster).ringRec 4 0)
    else
      let node := match sc.nodes.find? (fun e => e.1 = u) with | some (_, _, n) => n | none => 0x7F
      let s1 := if s.timeMaster then (s0.handBack).ringRec 4 0 else s0
      ((s1.put64 F.RING_MASTER_UID_LO u).put F.RING_M_RANK r).put F.RING_M_NODE node

/-- R309: what is known of the nodes under schedule `sc`, which may number them anew: a node that owns no segment has no presence state. -/
def State.nodesUnder (s : State) (sc : Sched) : List (Nat × NodeInt) :=
  match s.curSched with
  | none => []
  | some old => sc.nodes.foldl (fun (t : List (Nat × NodeInt)) (u, _, n) =>
      match old.nodes.find? (fun e => e.1 = u) with
      | some (_, _, m) => if sc.segs.any (fun (_, _, _, o, _, _) => decide (o = n)) then tabSet {} t n (s.nodeI m) else t
      | none => t) []

/-- R283, R287, R302: bank `b` takes effect at the start of a cycle. -/
def State.switchBank (s : State) (b : Nat) (late : Bool) : State :=
  match tabGet none s.ring.banks b with
  | none => { s with ring := { s.ring with switchPend := false } }
  | some sc =>
    let m := s.schedMaster sc (s.get64 F.RING_MASTER_UID_LO)
    let r : RingInt := { s.ring with switchPend := false, inForce := true, rx := [], tx := [], capRec := false, nodes := s.nodesUnder sc }
    let s1 := (({ s with ring := r }.put F.RING_STAT_BANK b).put F.RING_CYCLE_NS sc.cycleNs).raise bRING 14
    let s2 := ((if late then s1.raise bRING 16 else s1).ringRec 6 0).doneOpt s1.ring.loadPkt stDONE
    let s3 := { s2 with ring := { s2.ring with loadPkt := none } }
    let s4 := (s3.handRole sc m).disarmAbsent
    if s4.ringSt = rsBOOTSTRAP ∨ s4.ringSt = rsSCHED_WAIT then
      s4.setRingSt (if s4.timeMaster || decide (16 ≤ s4.ring.inBound) then rsOPERATIONAL else rsLISTEN)
    else s4

/-- R283: at the start of cycle `k` a committed change takes effect at SWITCH_CYC, or late. -/
def State.bankCycle (s : State) (k : Nat) : State :=
  let sw := s.get F.RING_SWITCH_CYC
  let late := decide (2 ^ 31 < (sw + 2 ^ 32 - k) % 2 ^ 32)
  if s.ring.switchPend && (k = sw || late) then s.switchBank (s.get F.RING_BANK_SEL) late else s

/-- R287, R313: an image is refused: SCHED_WAIT, and a record that names the condition. -/
def State.refuseImage (s : State) (why : Nat) : State :=
  let s1 := s.ringRec 3 why
  if s1.ringSt = rsBOOTSTRAP then s1.setRingSt rsSCHED_WAIT else s1

/-- R295: an image received whole is checked, stored in the spare bank and committed for cycle `sw`. -/
def State.acceptImage (s : State) (ws : List Nat) (sw : Nat) : State :=
  match s.imageFault ws with
  | some why => s.refuseImage why
  | none => ((s.storeBank s.spareBank ws).takeRank ws).commitBank s.spareBank sw

end Sys2Proof.Machine
end

