-- ==== Sys2Proof/Machine/Ring.lean ====
section
/-! DEFINITION. The Hawser ring's cycle: start and stop, claims, links, reference frames, the start of a cycle
(10_hawser_ring_cycle, 11_hawser_ring_master). Port 0 is HA, port 1 is HB. -/

namespace Sys2Proof.Machine

/-- LINK_VALID of port `p`. -/
def linkValid (p : Nat) : Fld := ⟨0x20090064, 9 + p, 9 + p⟩
/-- Port `p` is enabled. -/
def portEn (p : Nat) : Fld := ⟨0x20090060, 2 + p, 2 + p⟩
/-- LINK_DELAY and ASYM of port `p`. -/
def linkDelay (p : Nat) : Fld := ⟨0x20040130 + 4 * p, 23, 0⟩
def linkAsym (p : Nat) : Fld := ⟨0x20040138 + 4 * p, 31, 0⟩

/-- The other port. -/
def otherPort (p : Nat) : Nat := 1 - p

/-- What a sending command puts out replaces the record of the last one. -/
def State.putOut (s : State) (l : List (Nat × List Nat)) : State := { s with ring := { s.ring with out := l } }

/-- R306: the port by which a frame meant for port `p` leaves: the other one where `p` turns frames back. -/
def State.outPort (s : State) (p : Nat) : Nat := if s.on (wrapBit p) then otherPort p else p

/-- The bytes of a frame's words, low byte first (R258). -/
def toBytes (ws : List Nat) : List Nat := ws.flatMap wordBytes

/-- The words of a frame's bytes; bytes past its end are 0. -/
def toWords (b : List Nat) : List Nat := (List.range ((b.length + 3) / 4)).map (fun i => leNat ((b.drop (4 * i)).take 4))

/-- A frame of bytes with its CRC. -/
def bytesCrc (b : List Nat) : List Nat := b ++ wordBytes (crc32c b)

/-- R261: a received CRC against the one computed: 0 good, 1 damaged upstream, 2 an error on this link. -/
def crcJudge (r c : Nat) : Nat := if r = c then 0 else if r = Nat.xor c 0xFFFFFFFF then 1 else 2

/-- R261: the CRC of a frame of words, or of a segment (R266). -/
def crcKind (ws : List Nat) : Nat := crcJudge (iw ws (ws.length - 1)) (crc32cWords ws.dropLast)

/-- R261: the CRC of a frame of bytes. -/
def byteKind (b : List Nat) : Nat := crcJudge (leNat (b.drop (b.length - 4))) (crc32c (b.take (b.length - 4)))

/-- R289: the claim frame of this device, on the ring that leaves at port `p`. -/
def State.claimFrame (s : State) (p : Nat) : List Nat :=
  withCrc [32 * 2 ^ 16 + p * 2 ^ 8 + 0x04, s.get F.RING_CTRL_RANK * 2 ^ 16 + s.get F.RING_OWN_VER, s.otp.uid % 2 ^ 32,
    s.otp.uid / 2 ^ 32, iw s.mram.schedImage 2, s.ring.claimRound, 0]

/-- R290: the ports whose link is up. -/
def State.upPorts (s : State) : List Nat := [0, 1].filter (fun p => s.on (linkBit p))

/-- R290: a claim with the present ROUND leaves on each port whose link is up. -/
def State.sendClaim (s : State) : State :=
  let ps := s.upPorts
  let s1 := { s with ring := { s.ring with claimOut := ps.foldl (fun m p => m + 2 ^ p) 0 } }
  s1.putOut (ps.map (fun p => (p, toBytes (s.claimFrame p))))

/-- R290: the next claim, with ROUND + 1. -/
def State.nextClaim (s : State) : State :=
  { s with ring := { s.ring with claimRound := (s.ring.claimRound + 1) % 256 } }.sendClaim

/-- R287, R290: CLAIM is entered; a candidate competes. -/
def State.enterClaim (s : State) : State :=
  let r : RingInt := { s.dropSched.ring with claimRound := 0, claimOut := 0, claimLower := false, capHist := [] }
  let r1 := { r with inBound := 0, noSample := 0, refMiss := 0, masters := [], admitted := none, blks := [], distImg := [] }
  let s1 := (({ s.dropSched with ring := r1 }.put F.RING_WITHDRAWN 0).put F.RING_RETURNS 0).setRingSt rsCLAIM
  if s1.candidate then s1.sendClaim else s1

/-- R285: the counters clear when RUN goes from 0 to 1. -/
def State.clearRingCounters (s : State) : State :=
  let as := (List.range 2).flatMap (fun p => (List.range 8).map (fun i => bRING + 0x100 + 0x40 * p + 4 * i))
  (as ++ (List.range 8).map (fun i => bRING + 0x180 + 4 * i)).foldl (fun (t : State) a => t.setWord a 0) s

/-- R287, R306: RUN is set. -/
def State.ringStart (s : State) : State :=
  let s1 := (s.put F.RING_CTRL_RUN 1).clearRingCounters
  let s2 := [0, 1].foldl (fun (t : State) p => if t.on (linkBit p) then t else t.startWrap p) s1
  (s2.put F.RING_STAT_ROLE 0).enterClaim

/-- R91, R287, R301: RUN is cleared: DOWN, the role given up, the RING source lost. -/
def State.ringStop (s : State) : State :=
  let s1 := (s.put F.RING_CTRL_RUN 0).giveUpRole.abandonLoad
  let s2 := ((s1.put F.RING_STAT_ROLE 0).put (wrapBit 0) 0).put (wrapBit 1) 0
  let s3 := (s2.put F.RING_STAT_STATE rsDOWN).dropSched
  let r : RingInt := { s3.ring with claimOut := 0, switchPend := false, blks := [], newMaster := false }
  ({ s3 with ring := { r with ended := true } }.dropSource 1).sourceLost 1

/-- R28: the run-locked fields of RING_CTRL. -/
def ringCtrlLock : Nat := 0xF0E

/-- R28, R287: a write to RING_CTRL. -/
def State.ringCtrl (s : State) (v : Nat) : State :=
  let a := F.RING_CTRL_RUN.addr
  let old := (s.word a).toNat
  let run := bitOf old 0
  let new := if run then Nat.land old ringCtrlLock + Nat.land v 0x10 + 1 else Nat.land v 0xF1E
  let s1 := if run && decide (Nat.land old ringCtrlLock ≠ Nat.land v ringCtrlLock)
    then s.lockReject bRING 0 (a - bRING) false else s
  let s2 := s1.setWord a (Word.of new)
  let s3 := s2.put F.RING_OWN_VER (if s2.h1 then 0x0101 else 0x0202)
  if bitOf v 0 then (if run then s3 else s3.ringStart) else (if run then s3.ringStop else s3)

/-- R287: RUN is written. -/
def execRingRunWrite (v : Word) (s : State) : Out := .next (s.ringCtrl v.toNat)

/-- R291: a candidate has completed three rounds: master, BOOTSTRAP, the first cycle is cycle 0. -/
def State.winClaim (s : State) : State :=
  let r : RingInt := { s.ring with newMaster := true, claimOut := 0, capRec := false }
  let s1 := (({ s with ring := r }.put F.RING_CYCLE_NS 1000000).becomeMaster).setRingSt rsBOOTSTRAP
  s1.ringRec 4 0

/-- R290, R291: this device's own claim comes back on the ring that left at port `p`. -/
def State.claimBack (s : State) (p round : Nat) : State :=
  if round ≠ s.ring.claimRound || s.ring.claimOut = 0 then s
  else
    let left := putBit s.ring.claimOut p false
    let s1 := { s with ring := { s.ring with claimOut := left } }
    if left ≠ 0 then s1
    else if s.ring.claimLower then s1
    else
      let n := s.get F.RING_RETURNS + 1
      let s2 := s1.put F.RING_RETURNS n
      if 3 ≤ n then s2.winClaim else s2.nextClaim

/-- R290, R291: a good claim of another device is forwarded; a lower one makes the candidate withdraw. -/
def State.claimOther (s : State) (port rank uid : Nat) (ws : List Nat) : State :=
  let s1 := s.putOut [(s.outPort (otherPort port), toBytes (withCrc ws.dropLast))]
  let own := s.get F.RING_CTRL_RANK
  if s.candidate && (decide (rank < own) || (decide (rank = own) && decide (uid < s.otp.uid))) then
    ({ s1 with ring := { s1.ring with claimLower := true, claimOut := 0 } }.put F.RING_WITHDRAWN 1).put F.RING_RETURNS 0
  else s1

/-- R290: a claim frame arrives at a port in CLAIM. -/
def execClaimFrameRx (port : Nat) (ws : List Word) (s : State) : Out := s.awake (
  let f := ws.map (fun w => w.toNat)
  let uid := iw f 2 + 2 ^ 32 * iw f 3
  let rank := bits (iw f 1) 19 16
  .next (if s.ringSt ≠ rsCLAIM || decide (2 ≤ port) || f.length ≠ 8 || crcKind f ≠ 0 || iw f 0 / 2 ^ 16 ≠ 32 ||
      iw f 0 % 256 ≠ 4 || s.on (wrapBit port) then s
    else if s.candidate && uid = s.otp.uid then s.claimBack (bits (iw f 0) 8 8) (iw f 5 % 256)
    else s.claimOther port rank uid f))

/-- R290: 100 us have passed since a claim was sent; the round is not complete and the next claim leaves. -/
def execClaimTimeout (s : State) : Out := s.awake (
  .next (if s.ringSt = rsCLAIM && s.candidate && !s.on F.RING_WITHDRAWN then (s.put F.RING_RETURNS 0).nextClaim else s))

/-- R287: 256 consecutive cycles without a good reference frame: a node that is not master goes back to CLAIM. -/
def execRefLossTimeout (s : State) : Out := s.awake (
  .next (if s.ringRuns && !s.timeMaster && decide (256 ≤ s.ring.refMiss) then
    (s.put F.RING_STAT_ROLE 0).enterClaim else s))

/-- R255, R264, R306, R308: the link of port `p` goes down. -/
def State.linkDown (s : State) (p : Nat) : State :=
  let s1 := (((s.put (linkBit p) 0).put (linkValid p) 0).incSat (F.RPORT_LINK_DOWN p)).incSat (F.RPORT_PCS_ERR p)
  let r : RingInt := { s1.ring with linkSamples := tabSet [] s1.ring.linkSamples p [] }
  let r1 := { r with upSince := tabSet 0 r.upSince p 0, tTx := tabSet [] r.tTx p [], tRx := tabSet [] r.tRx p [] }
  let s2 := { s1 with ring := r1 }.raise bRING 13
  if s2.ringSt = rsDOWN then s2
  else if s2.timeMaster then (s2.put (breakFld p) 0).put (breakValid p) 1
  else s2.startWrap p

/-- R306: a ring port's link goes down. -/
def execRingLinkDown (port : Nat) (s : State) : Out :=
  .next (if port < 2 && s.on (linkBit port) then s.linkDown port else s)

/-- R307: the link of port `p` comes up. -/
def State.linkUp (s : State) (p : Nat) : State :=
  let s1 := (s.put (linkBit p) 1).raise bRING 13
  { s1 with ring := { s1.ring with upSince := tabSet 0 s1.ring.upSince p (s1.now + 1) } }

/-- R255, R307: a ring port's link comes up; only an enabled port whose SerDes PLL has locked can. A neighbour of the other generation
counts PCS_ERR and the link stays down. -/
def execRingLinkUp (port : Nat) (h1 : Bool) (s : State) : Out :=
  .next (if decide (port < 2) && !s.on (linkBit port) && s.on (portEn port) && s.on (sdsLock (if s.h1 then 1 else 0)) && !s.sys.inReset then
    (if h1 = s.h1 then s.linkUp port else s.incSat (F.RPORT_PCS_ERR port))
  else s)

/-- R307: at the start of a cycle whose number is a multiple of 4,096, with the link up for 1 ms, port `p` stops turning
frames back. -/
def execTurnBackStop (port : Nat) (s : State) : Out := s.awake (
  let up := tabGet 0 s.ring.upSince port
  .next (if port < 2 && s.on (wrapBit port) && s.get F.RING_CYCLE_NUM % 4096 = 0 && up ≠ 0 && decide (up - 1 + 1000000 ≤ s.now) then
    let s1 := s.put (wrapBit port) 0
    { s1 with ring := { s1.ring with resumed := putBit s1.ring.resumed port true } }
  else s))

/-- R307: a port that stopped turning back and heard no good frame in the cycle turns frames back again. -/
def State.resumeCheck (s : State) : State :=
  let s1 := [0, 1].foldl (fun (t : State) p =>
    if bitOf t.ring.resumed p && !bitOf t.ring.goodOn p then t.startWrap p else t) s
  { s1 with ring := { s1.ring with resumed := 0, goodOn := 0 } }

/-- R304: an OPERATIONAL node that is not master enters LISTEN. -/
def State.toListen (s : State) : State :=
  if s.ringSt = rsOPERATIONAL && !s.timeMaster then (s.setRingSt rsLISTEN).incSat F.RING_LISTEN_ENTRY else s

/-- GUARD_NS in force: the schedule's, or that of the bootstrap cycle (R293). -/
def State.guardNs (s : State) : Nat := match s.curSched with | some sc => sc.guardNs | none => 320

/-- R304: an offset sample that the servo takes, in 1/16 ns, is judged against the bound. -/
def State.judgeBound (s : State) (o : Int) : State :=
  let ok := decide (o.natAbs ≤ 8 * s.guardNs)
  let n := if ok then s.ring.inBound + 1 else 0
  let s1 := { s with ring := { s.ring with sampled := true, noSample := 0, inBound := n } }
  if !ok then s1.toListen
  else if s1.ringSt = rsLISTEN && decide (16 ≤ n) then s1.setRingSt rsOPERATIONAL else s1

/-- R91, R92, R104: an offset sample of the RING source, in 1/16 ns. -/
def State.ringSample (s : State) (o : Int) : State :=
  let s1 := s.judgeBound o
  if s1.get F.TIME_BLK_STAT_ACTIVE_SRC = 1 then s1.timeSample o else s1

/-- R104: a cycle in which the preferred port brought no valid copy uses the other port's, at the end of the cycle (log entry 128). -/
def State.altSample (s : State) : State :=
  match s.ring.alt with
  | none => s
  | some o => if s.ring.sampled then s else { s with ring := { s.ring with alt := none } }.ringSample o

/-- R304: a cycle that ends without an offset sample; after three, LISTEN. -/
def State.sampleEnd (s : State) : State :=
  if s.ring.sampled then { s with ring := { s.ring with sampled := false, alt := none } }
  else
    let n := s.ring.noSample + 1
    let s1 := { s with ring := { s.ring with noSample := n, inBound := 0, alt := none } }
    if 3 ≤ n then s1.toListen else s1

/-- R285, R287: a cycle that ends without good reference frames. -/
def State.refEnd (s : State) : State :=
  let s1 := if s.ring.refHA then s else s.incSat (F.RPORT_REF_MISS 0)
  let s2 := if s.ring.refHB then s1 else s1.incSat (F.RPORT_REF_MISS 1)
  let none' := !s.ring.refHA && !s.ring.refHB
  let s3 := if none' then s2.raise bRING 11 else s2
  let r : RingInt := { s3.ring with refMiss := if none' then s3.ring.refMiss + 1 else 0, refHA := false, refHB := false }
  { s3 with ring := { r with noMsg := false } }

/-- The lowest pair of a list of (RANK, UID). -/
def lowestMaster : List (Nat × Nat) → Option (Nat × Nat)
  | [] => none
  | (r, u) :: t =>
    match lowestMaster t with
    | none => some (r, u)
    | some (r', u') => if r < r' || (decide (r = r') && decide (u < u')) then some (r, u) else some (r', u')

/-- R300: after a cycle that brought reference frames of two masters, only those of the lower one are admitted, as long as they come in every
cycle (DEDUCED, log entry 148: the spec does not say when it ends); a master that heard a lower one gives up its role. -/
def State.mastersEnd (s : State) : State :=
  let ms := s.ring.masters
  let own := (s.get F.RING_CTRL_RANK, s.otp.uid)
  let s1 := { s with ring := { s.ring with masters := [] } }
  if s.timeMaster then
    match lowestMaster (own :: ms) with
    | some m => if m = own then s1 else
        (({ s1 with ring := { s1.ring with admitted := some m, blks := [] } }.handBack).ringRec 4 0)
    | none => s1
  else { s1 with ring := { s1.ring with admitted := if 2 ≤ ms.length then lowestMaster ms else s.ring.admitted.filter ms.contains } }

/-- R312: the versions and capabilities of this cycle as the master knows them. -/
def State.capEnd (s : State) : State :=
  if s.timeMaster then
    let h := (s.get F.RING_RX_VER, s.get64 F.RING_RX_CAP_LO) :: s.ring.capHist
    { s with ring := { s.ring with capHist := h.take 16 } }
  else s

/-- R312: the last 16 cycles covered an image's capabilities and PROTO. -/
def State.ringCovers (s : State) (ws : List Nat) : Bool :=
  let cap := iw ws 11 + 2 ^ 32 * iw ws 12
  let proto := bits (iw ws 1) 31 24
  decide (s.ring.capHist.length = 16) &&
    s.ring.capHist.all (fun (ver, c) => !outside cap c && decide (ver % 256 ≤ proto) && decide (proto ≤ ver / 256))

/-- R293, R295: the slots the master may send image blocks in: the bootstrap slot, or its first owned slot with MAXLEN of
at least 1,060; as (START, END) in ns. -/
def State.blockSlot (s : State) : Option (Nat × Nat × Nat) :=
  match s.curSched with
  | none => if s.ringSt = rsBOOTSTRAP then some (0, 10000, 990000) else none
  | some sc =>
    let is := (List.range sc.slots.length).filter (fun i =>
      match sc.slots[i]? with | some (len, o, _, _) => decide (o = sc.node) && decide (1060 ≤ len) | none => false)
    match is with
    | [] => none
    | i :: _ => match sc.slots[i]? with | some (_, _, a, b) => some (i, a, b) | none => none

/-- R295: blocks of an image of `n` words. -/
def nBlocks (n : Nat) : Nat := (n + 255) / 256

/-- R295: how many blocks fit in one cycle. -/
def State.blocksPerCycle (s : State) : Nat :=
  match s.blockSlot with
  | none => 0
  | some (_, a, b) => 10 * (b - a) / occupancy s.h1 1060

/-- R295: the master starts to distribute an image; its first block leaves in cycle `c0`. -/
def State.startDist (s : State) (ws : List Nat) (c0 : Nat) : State :=
  let f := max 1 s.blocksPerCycle
  let n := nBlocks ws.length
  let sw := (c0 + 64 + 2 * ((n + f - 1) / f)) % 2 ^ 32
  let s1 := { s with ring := { s.ring with distImg := ws, distSwitch := sw, distNext := 0, distFrom := c0 } }
  ((s1.storeBank s1.spareBank ws).takeRank ws).commitBank s1.spareBank sw

/-- R295, R312: in BOOTSTRAP the master distributes its stored image once 16 cycles have covered it; otherwise it posts
a record and stays. -/
def State.bootDist (s : State) : State :=
  let ws := s.mram.schedImage
  if s.timeMaster && s.ringSt = rsBOOTSTRAP && !ws.isEmpty && s.ring.distImg.isEmpty && !s.ring.switchPend &&
      decide (s.ring.capHist.length = 16) && !s.commitPending bRING 0 then
    if (s.imageFault ws).isNone && s.ringCovers ws then s.startDist ws (s.get F.RING_CYCLE_NUM)
    else if s.ring.capRec then s
    else { s with ring := { s.ring with capRec := true } }.ringRec 3 stVERSION_MISMATCH
  else s

/-- R286, R295: cycle SWITCH_CYC starts at a node that lacks a block of the image: in SCHED_WAIT it reads and writes no segment. -/
def State.lackBlock (s : State) (k : Nat) : State :=
  if s.ring.blks.isEmpty || s.ring.blkSwitch = 0 || k ≠ s.ring.blkSwitch then s
  else
    let s1 := { s with ring := { s.ring with blks := [] } }
    if s1.timeMaster then s1 else s1.dropSched.setRingSt rsSCHED_WAIT

/-- R309: the copies of the cycle that ended count towards the presence of every node with owned segments. -/
def State.presenceEnd (s : State) : State :=
  match s.curSched with
  | none => s
  | some sc =>
    let owners := (sc.nodes.map (fun e => e.2.2)).filter (fun n => decide (n ≠ sc.node) && sc.segs.any (fun (_, _, _, o, _, _) => decide (o = n)))
    owners.foldl (fun (t : State) n =>
      let v := t.nodeI n
      t.setNode n { v with since := if v.seen then 0 else v.since + 1, seen := false }) s

/-- The number of the cycle that starts. -/
def State.nextCycle (s : State) : Nat := if s.ring.newMaster then 0 else (s.get F.RING_CYCLE_NUM + 1) % 2 ^ 32

/-- R99: the RING block starts cycles from device time: CYCLE_NS after the last start. -/
def State.cycleTime (s : State) : State :=
  if s.ring.newMaster then s else s.advanceTo (s.get64 F.RING_CYC_START_LO + s.get F.RING_CYCLE_NS)

/-- What the cycle that ends leaves to be judged at the start of the next one. -/
def State.cycleEnd (s : State) : State := (((((s.altSample).sampleEnd).refEnd).mastersEnd).capEnd).resumeCheck

/-- R270, R283: per-cycle state of the cycle that starts. -/
def State.cycleOpen (s : State) (k : Nat) : State :=
  let s1 := (s.put F.RING_CYCLE_NUM k).put64 F.RING_CYC_START_LO s.now
  let r : RingInt := { s1.ring with newMaster := false, ended := s1.curSched.isNone, released := false, out := [] }
  { s1 with ring := { r with rx := r.rx.map (fun (n, v) => (n, { v with taken := false, now := false })) } }

/-- R197: the sync event of the generators that follow this node's ring cycle. -/
def State.ringSync (s : State) : State :=
  ((List.range 48).filter (fun g => s.genRuns g && s.get (F.PWM_CFG_SYNC g) = 2)).foldl
    (fun (t : State) g => t.syncGen (boundaryN 48) g s.time.tick) s

/-- R259: what the start of a ring cycle drives in the other blocks: PWM sync, ADC triggers, encoder latches, servo
boundaries, the snapshot, event line 9, source 256. -/
def State.cycleDrive (s : State) (k : Nat) : State :=
  let s1 := ((s.ringSync).adcTriggers 0xFF 19).encLatchRing
  (((s1.servoBoundaries k (s1.get64 F.RING_CYC_START_LO)).takeSnap).eventLine 9).pulse 256

/-- R259: a ring cycle starts at this node: time, presence, what the last cycle showed, the number and the bank. -/
def State.ringOpen (s : State) : State :=
  let s1 := s.cycleTime.presenceEnd.cycleEnd
  if !s1.ringRuns then s1
  else
    let k := s1.nextCycle
    let s2 := s1.safePoint bRING 0 0 s1.time.tick (fun _ => false) State.commitRing
    ((((s2.cycleOpen k).bankCycle k).lackBlock k)).bootDist

/-- Device time in 1/16 ns (R103). -/
def State.now16 (s : State) : Nat := s.fine / 2 ^ 28

/-- R264: the sum that is twice a link-delay sample, in 1/16 ns, modulo 2^32 ns. -/
def linkSum (trx hopTx hopRx ttx : Nat) : Int :=
  sgn 36 ((trx + 2 ^ 36 - hopTx % 2 ^ 36) % 2 ^ 36) + sgn 36 ((hopRx % 2 ^ 36 + 2 ^ 36 - ttx % 2 ^ 36) % 2 ^ 36)

/-- R264: a sample of the delay of the cable on port `p`. -/
def State.linkSample (s : State) (p : Nat) (sum : Int) : State :=
  let l := (sum :: tabGet [] s.ring.linkSamples p).take 16
  let s1 := { s with ring := { s.ring with linkSamples := tabSet [] s.ring.linkSamples p l } }
  if l.length < 16 then s1
  else (s1.put (linkDelay p) (unsgn 24 (rne (l.foldl (fun a x => a + x) 0) 5))).put (linkValid p) 1

/-- R263, R264: the cycle that RX_CYC names in a reference frame of cycle `k`: that one, or the one before; none else. -/
def rxCycle (k c : Nat) : Option Nat :=
  if k % 4 = c then some k else if (k + 3) % 4 = c then some ((k + 2 ^ 32 - 1) % 2 ^ 32) else none

/-- R264: the link-delay exchange on a good reference frame `f` at port `p`, received at `stamp`. -/
def State.linkExchange (s : State) (p : Nat) (f : List Nat) (stamp : Nat) : State :=
  let x := iw f 14
  if !bitOf x 10 then s
  else
    match (rxCycle (iw f 1) (bits x 9 8)).bind (fun c => (tabGet [] s.ring.tTx p).find? (fun e => e.1 = c)) with
    | none => s
    | some (_, ttx) => s.linkSample p (linkSum stamp (16 * iw f 12 + bits x 3 0) (16 * iw f 13 + bits x 7 4) ttx)

/-- R263: the cycle's receive stamp at port `p` of the other ring's reference frame: words 0x34 and 0x38 of a frame sent
at `tx`. -/
def State.hopWords (s : State) (p k tx : Nat) : List Nat :=
  let l := tabGet [] s.ring.tRx p
  let e := match l.find? (fun e => e.1 = k) with
    | some e => some e
    | none => l.find? (fun e => e.1 = (k + 2 ^ 32 - 1) % 2 ^ 32)
  match e with
  | some (c, t) => [tx / 16 % 2 ^ 32, t / 16 % 2 ^ 32, 2 ^ 10 + c % 4 * 2 ^ 8 + t % 16 * 2 ^ 4 + tx % 16]
  | none => [tx / 16 % 2 ^ 32, 0, tx % 16]

/-- R263: a stamp joins those of a port. -/
def pushStamp (t : List (Nat × List (Nat × Nat))) (p : Nat) (e : Nat × Nat) : List (Nat × List (Nat × Nat)) :=
  tabSet [] t p ((e :: tabGet [] t p).take 4)

/-- R263, R264: the transmit stamp of a reference frame at port `p`. -/
def State.noteTx (s : State) (p k tx : Nat) : State := { s with ring := { s.ring with tTx := pushStamp s.ring.tTx p (k, tx) } }

/-- SCHED_ID that the reference frames carry: 0 in BOOTSTRAP. -/
def State.schedId (s : State) : Nat := match s.curSched with | some sc => sc.id | none => 0

/-- R263, R298: the reference frame of cycle `k` that this master sends at port `p` at device time `tx`, with DEP_OFS. -/
def State.refFrame (s : State) (p k tx dep : Nat) : List Nat :=
  withCrc ([64 * 2 ^ 16 + p * 2 ^ 8 + 0x01, k, tx / 16 % 2 ^ 32, tx / 16 / 2 ^ 32 % 2 ^ 32,
    s.get F.RING_CTRL_RANK * 2 ^ 16 + tx % 16 * 2 ^ 12, s.schedId, s.otp.uid % 2 ^ 32, s.otp.uid / 2 ^ 32, 0xFF00, dep,
    0xFFFFFFFF, 0xFFFFFFFF] ++ s.hopWords p k tx)

/-- R263, R306: the master sends the reference frame on every port whose link is up. -/
def State.sendRef (s : State) (dep : Nat) : State :=
  let k := s.get F.RING_CYCLE_NUM
  let tx := s.now16
  let s1 := s.upPorts.foldl (fun (t : State) p => t.noteTx p k tx) s
  s1.putOut (s.upPorts.map (fun p => (p, toBytes (s.refFrame p k tx dep))))

/-- R263: the master sends the reference frame at the start of a cycle. -/
def execReferenceFrameTx (s : State) : Out := s.awake (
  .next (if s.timeMaster then s.sendRef 0 else s))

/-- R299: a node-table node with this UID has RANK `rank`. -/
def Sched.hasRank (sc : Sched) (uid rank : Nat) : Bool := sc.nodes.any (fun (u, r, _) => decide (u = uid) && decide (r = rank))

/-- R299: reference frame `f` is judged by its source at port `p`: case (a), case (b). -/
def State.refCaseA (s : State) (p : Nat) (f : List Nat) : Bool :=
  let l := tabGet (0, 0) s.ring.refLast p
  decide (l.1 ≠ 0) && (decide (l.1 ≠ iw f 6 + 2 ^ 32 * iw f 7 + 1) || decide (l.2 ≠ bits (iw f 8) 22 16 + 1))

/-- R299: the reference frame of the previous cycle on port `p` was judged under case (a). -/
def State.refCaseB (s : State) (p k : Nat) : Bool :=
  decide (tabGet none s.ring.refCaseA p = some ((k + 2 ^ 32 - 1) % 2 ^ 32))

/-- R300: the node admits frames of the master of reference frame `f`. -/
def State.refAdmitted (s : State) (f : List Nat) : Bool :=
  match s.ring.admitted with
  | none => true
  | some m => decide (m = (bits (iw f 4) 19 16, iw f 6 + 2 ^ 32 * iw f 7))

/-- R278: a span in 1/160 ns of device time, from and until, of a frame whose coordinates are `a` to `b` ns and that
occupies `occ` (0.1 ns) beyond `b`. -/
def State.spanOf (s : State) (p a b occ : Nat) : Int × Int :=
  let st : Int := 160 * (s.get64 F.RING_CYC_START_LO : Int)
  let d : Int := 10 * s.geti (if p = 1 then F.RING_POS_A else F.RING_POS_B)
  let g : Int := 80 * (s.guardNs : Int)
  (st + 160 * (a : Int) + d - g, st + 160 * (b : Int) + 16 * (occ : Int) + d + g)

/-- R299: the end of the span of the master's reference frame, in 1/160 ns: at the port where it ends first (DEDUCED, log entry 149). -/
def State.refSpanEnd (s : State) : Int := min (s.spanOf 0 0 0 (occupancy s.h1 64)).2 (s.spanOf 1 0 0 (occupancy s.h1 64)).2

/-- R299, R300: the source of reference frame `f`, which arrives at `t` (1/160 ns), is valid: the master in force, the master that the node
admits, or a node of the table with this rank once the master's own frame can no longer come. -/
def State.refSourceOk (s : State) (f : List Nat) (t : Int) : Bool :=
  let uid := iw f 6 + 2 ^ 32 * iw f 7
  decide (uid = s.get64 F.RING_MASTER_UID_LO) || decide (s.ring.admitted = some (bits (iw f 4) 19 16, uid)) ||
  (match s.curSched with
   | none => false
   | some sc => sc.hasRank uid (bits (iw f 4) 19 16) && !s.ring.refHA && !s.ring.refHB && decide (s.refSpanEnd ≤ t))

/-- R278, R293: the slot table in force: the schedule's, or the bootstrap slot of the master. -/
def State.slotTable (s : State) : List (Nat × Nat × Nat × Nat) :=
  match s.curSched with
  | some sc => sc.slots
  | none => if s.ringSt = rsBOOTSTRAP then [(1518, s.get F.RING_M_NODE, 10000, 990000)] else []

/-- What the slot guardian finds: nothing, or an abort code with the bytes left (R279). -/
abbrev Cut := Option (Nat × Nat)

/-- R278, R279: frame of `len` bytes that starts at `t` (1/160 ns) against its span. -/
def State.cutSpan (s : State) (p a b occ len : Nat) (t : Int) : Cut :=
  let w := s.spanOf p a b occ
  let bt : Int := 16 * (byteTime s.h1 : Int)
  if t < w.1 then some (1, 4)
  else if w.2 < t then some (2, 4)
  else if w.2 < t + (len : Int) * bt then some (2, ((w.2 - t) / bt).toNat) else none

/-- R278, R299, R305: the slot guardian on frame `f` of `n` bytes at port `p`, whose first bit arrived at `t0` (1/16 ns). Spans are
checked in OPERATIONAL and BOOTSTRAP; a node in SCHED_WAIT holds no schedule to check against. -/
def State.guardian (s : State) (p : Nat) (f : List Nat) (n t0 : Nat) : Cut :=
  let ty := iw f 0 % 256
  let t : Int := 10 * (t0 : Int)
  let spans := s.ringSt = rsOPERATIONAL || s.ringSt = rsBOOTSTRAP
  let off := match s.curSched with | some sc => sc.bightOff | none => 0
  if !s.ringRuns then none
  else if ty = 4 then some (4, 4)
  else if ty = 1 then
    (if s.refAdmitted f && (s.refCaseA p f || s.refCaseB p (iw f 1)) then (if s.refSourceOk f t then none else some (3, 4))
     else if !s.refAdmitted f then some (3, 4)
     else if spans then s.cutSpan p 0 0 (occupancy s.h1 64) n t else none)
  else if ty = 2 then
    (if spans && s.curSched.isSome then s.cutSpan p off off (occupancy s.h1 ((s.curSched.map Sched.bightLen).getD 0)) n t else none)
  else if ty = 3 then
    (if s.ringSt = rsSCHED_WAIT then none
     else match s.slotTable[bits (iw f 1) 23 16]? with
      | none => some (3, 4)
      | some (maxlen, owner, a, b) =>
        if owner ≠ bits (iw f 1) 6 0 then some (3, 4)
        else if maxlen < iw f 0 / 2 ^ 16 then some (4, 4)
        else if spans then s.cutSpan p a b 0 n t else none)
  else none

/-- R287, R292: the bank, or MRAM configuration, that holds the image with SCHED_ID `id`. -/
def State.bankWith (s : State) (id : Nat) : Option Nat :=
  [s.get F.RING_STAT_BANK, s.spareBank].find? (fun b => match tabGet none s.ring.banks b with | some sc => decide (sc.id = id) | none => false)

/-- R287, R289: a node in CLAIM joins on a good reference frame; the image in MRAM configuration is accepted where it is the one in force. -/
def State.joinRing (s : State) (f : List Nat) : State :=
  let id := iw f 5
  let s0 := if s.candidate then s.put F.RING_WITHDRAWN 1 else s
  let s1 := { s0 with ring := { s0.ring with claimOut := 0, refLast := [], refCaseA := [] } }
  let s1' := if s1.bankWith id = none && iw s1.mram.schedImage 2 = id && (s1.imageFault s1.mram.schedImage).isNone
    then (s1.storeBank s1.spareBank s1.mram.schedImage).takeRank s1.mram.schedImage else s1
  let s2 := s1'.put F.RING_STAT_ROLE s1'.stationRole
  if id = 0 then (s2.put F.RING_CYCLE_NS 1000000).setRingSt rsBOOTSTRAP
  else
    match s2.bankWith id with
    | none => s2.setRingSt rsSCHED_WAIT
    | some b =>
      let cyc := match tabGet none s2.ring.banks b with | some sc => sc.cycleNs | none => 0
      (({ s2 with ring := { s2.ring with inForce := true } }.put F.RING_STAT_BANK b).put F.RING_CYCLE_NS cyc).setRingSt rsLISTEN

/-- R299: the last good reference frame at port `p` had another MASTER_UID than `f`. -/
def State.refDiffers (s : State) (p : Nat) (f : List Nat) : Bool :=
  let l := (tabGet (0, 0) s.ring.refLast p).1
  decide (l ≠ 0) && decide (l ≠ iw f 6 + 2 ^ 32 * iw f 7 + 1)

/-- R288, R295, R299, R314: the node follows the master that sent reference frame `f`; `differs` tells whether the frame before it had another
MASTER_UID. -/
def State.followMaster (s : State) (f : List Nat) (differs : Bool) : State :=
  let uid := iw f 6 + 2 ^ 32 * iw f 7
  let changed := decide (uid ≠ s.get64 F.RING_MASTER_UID_LO)
  let node := match s.curSched with
    | some sc => (match sc.nodes.find? (fun e => e.1 = uid) with | some (_, _, n) => n | none => 0x7F)
    | none => 0x7F
  let s1 := ((s.put64 F.RING_MASTER_UID_LO uid).put F.RING_M_RANK (bits (iw f 4) 19 16)).put F.RING_M_NODE node
  { s1 with ring := { s1.ring with blks := if changed then [] else s1.ring.blks, noMsg := s1.ring.noMsg || changed || differs } }

/-- R296: a node in SCHED_WAIT that holds the image with the SCHED_ID in force needs no blocks: it commits it as if the last block had just come
(DEDUCED, log entry 147). -/
def State.heldImage (s : State) (f : List Nat) : State :=
  match (if s.ringSt = rsSCHED_WAIT && decide (iw f 5 ≠ 0) && !s.ring.switchPend && !s.commitPending bRING 0 then s.bankWith (iw f 5) else none) with
  | some b => s.commitBank b ((iw f 1 + 2) % 2 ^ 32)
  | none => s

/-- R103, R265: the receive delay of port `p`, in 1/16 ns. -/
def State.rxDelay (s : State) (p : Nat) : Int := (s.get (linkDelay p) : Int) + s.geti (linkAsym p)

/-- R265: RING_POS of the ring that arrives at port `p`, the position, and the start of the cycle, from frame `f`. -/
def State.takePos (s : State) (p : Nat) (f : List Nat) : State :=
  let d := (iw f 9 : Int) + s.rxDelay p
  let hop := min 127 (bits (iw f 8) 22 16 + 1)
  let origin : Nat := 16 * (iw f 2 + 2 ^ 32 * iw f 3) + bits (iw f 4) 15 12
  let start := ((origin : Int) + s.rxDelay p - d) / 16
  let s1 := if p = 1 then (s.puti F.RING_POS_A d).put F.RING_STAT_POS_A hop else (s.puti F.RING_POS_B d).put F.RING_STAT_POS_B hop
  (s1.put F.RING_CYCLE_NUM (iw f 1)).puti64 F.RING_CYC_START_LO start

/-- R103, R104: the offset of reference frame `f` at port `p`, in 1/16 ns: the servo takes the preferred port's. A port whose LINK_VALID is
clear brings none (R264), so that a cycle may then use the other port's (log entry 128). -/
def State.takeOffset (s : State) (p : Nat) (f : List Nat) (stamp : Nat) : State :=
  let sub := bits (iw f 4) 15 0
  let origin : Nat := 2 ^ 16 * (iw f 2 + 2 ^ 32 * iw f 3) + sub
  let o := rne ((2 ^ 12 * stamp : Int) - origin - 2 ^ 12 * s.rxDelay p) 12
  if !s.on (linkValid p) then s
  else if p = 1 - s.get F.TIME_RING_PORT_PREF then (if s.ring.sampled then s else s.ringSample o)
  else { s with ring := { s.ring with alt := some o } }

/-- R19: the forwarding delay, in 1/16 ns. -/
def State.fwdDelay (s : State) : Nat := 16 * (if s.h1 then 640 else 80)

/-- R263: reference frame `f`, received at port `p` at `stamp`, as it leaves at port `q` at `tx`. -/
def State.fwdRef (s : State) (p q : Nat) (f : List Nat) (tx : Nat) : List Nat :=
  let o := (((2 ^ 16 * (iw f 2 + 2 ^ 32 * iw f 3) + bits (iw f 4) 15 0 : Nat) : Int) +
    2 ^ 12 * (s.rxDelay p + (s.fwdDelay : Int))) % 2 ^ 80
  let on := o.toNat
  let v := iw f 8
  let own := s.get F.RING_OWN_VER
  let hop := min 127 (bits v 22 16 + 1)
  let dep := unsgn 32 ((iw f 9 : Int) + s.rxDelay p + s.fwdDelay)
  let cap := s.ringCap
  withCrc ([iw f 0, iw f 1, on / 2 ^ 16 % 2 ^ 32, on / 2 ^ 48, setBits (iw f 4) 15 0 (on % 2 ^ 16), iw f 5, iw f 6, iw f 7,
    hop * 2 ^ 16 + min (bits v 15 8) (own / 256) * 2 ^ 8 + max (bits v 7 0) (own % 256), dep,
    Nat.land (iw f 10) (cap % 2 ^ 32), Nat.land (iw f 11) (cap / 2 ^ 32)] ++ s.hopWords q (iw f 1) tx)

/-- R263, R306: a reference frame is forwarded, or turned back. -/
def State.forwardRef (s : State) (p : Nat) (f : List Nat) (stamp : Nat) : State :=
  let q := s.outPort (otherPort p)
  let tx := stamp + s.fwdDelay
  (s.noteTx q (iw f 1) tx).putOut [(q, toBytes (s.fwdRef p q f tx))]

/-- R300: a reference frame of the master that frame `f` names has come in this cycle. -/
def State.noteMaster (s : State) (f : List Nat) : State :=
  let m := (bits (iw f 4) 19 16, iw f 6 + 2 ^ 32 * iw f 7)
  if s.ring.masters.contains m then s else { s with ring := { s.ring with masters := m :: s.ring.masters } }

/-- R299, R307: what a node notes of a good reference frame at port `p`. -/
def State.noteRef (s : State) (p : Nat) (f : List Nat) (stamp : Nat) : State :=
  let uid := iw f 6 + 2 ^ 32 * iw f 7
  let a := s.refCaseA p f
  let r : RingInt := { s.ring with refLast := tabSet (0, 0) s.ring.refLast p (uid + 1, bits (iw f 8) 22 16 + 1) }
  let r1 := { r with refCaseA := tabSet none r.refCaseA p (if a then some (iw f 1) else none) }
  let r2 := { r1 with refHA := r1.refHA || p = 0, refHB := r1.refHB || p = 1, goodOn := putBit r1.goodOn p true }
  { s with ring := { r2 with refMiss := 0, tRx := pushStamp r2.tRx p (iw f 1, stamp) } }.noteMaster f

/-- R262-R265, R288: a node that is not master takes a good reference frame. -/
def State.stationRef (s : State) (p : Nat) (f : List Nat) (stamp : Nat) : State :=
  let s0 := if s.ringSt = rsCLAIM then s.joinRing f else s
  let s1 := (((s0.noteRef p f stamp).linkExchange p f stamp).followMaster f (s0.refDiffers p f)).heldImage f
  let s2 := { s1.takePos p f with time := { s1.time with ringSeen := true } }
  ((s2.sourceBack 1).forwardRef p f stamp).takeOffset p f stamp

/-- R284: a lap longer than LAP_NS. -/
def State.lapCheck (s : State) (lap : Nat) : State :=
  match s.curSched with
  | none => s
  | some sc =>
    if lap ≤ sc.lapNs then s
    else
      let s1 := s.raise bRING 15
      if s.ring.lapRec = 0 ∨ s.ring.lapRec - 1 + 1000000000 ≤ s.now then
        { s1 with ring := { s1.ring with lapRec := s.now + 1 } }.ringRec 2 0
      else s1

/-- R308: the master's own reference frame of the ring that left at port `q` comes back at port `p`. -/
def State.breakNote (s : State) (p q hop : Nat) : State :=
  if p = q then (s.put (breakFld q) ((hop + 1) / 2)).put (breakValid q) 1
  else s.put (breakValid q) 0

/-- R313: the ring stops covering REQ_CAP of the schedule in force. -/
def State.capCheck (s : State) (cap : Nat) : State :=
  match s.curSched with
  | none => s
  | some sc => if outside sc.reqCap cap && !s.ring.capRec then { s with ring := { s.ring with capRec := true } }.ringRec 5 0 else s

/-- R263, R284, R308, R312: the master measures its own reference frame on its return. -/
def State.masterRef (s : State) (p : Nat) (f : List Nat) (stamp : Nat) : State :=
  let q := bits (iw f 0) 8 8
  let cap := iw f 10 + 2 ^ 32 * iw f 11
  let s1 := (s.noteRef p f stamp).linkExchange p f stamp
  let lap := match (tabGet [] s1.ring.tTx q).find? (fun e => e.1 = iw f 1) with | some (_, t) => (stamp - t) / 16 | none => 0
  let s2 := (s1.put ⟨0x200900A0 + 4 * q, 31, 0⟩ lap).lapCheck lap
  let s3 := (s2.put F.RING_RX_VER (bits (iw f 8) 15 0)).put64 F.RING_RX_CAP_LO cap
  ((s3.breakNote p q (bits (iw f 8) 22 16)).capCheck cap)

/-- R262: a reference frame arrives at a port, stamped in 1/16 ns of device time; one that is not good, that the slot
guardian cuts, or that comes to a port at which frames are turned back is not taken. -/
def execReferenceFrameRx (port : Nat) (ws : List Word) (stamp : Nat) (s : State) : Out := s.awake (
  let f := ws.map (fun w => w.toNat)
  .next (if s.ringSt = rsDOWN || decide (2 ≤ port) || f.length ≠ 16 || crcKind f ≠ 0 || iw f 0 / 2 ^ 16 ≠ 64 ||
      iw f 0 % 256 ≠ 1 || s.on (wrapBit port) then s
    else if s.timeMaster then
      (if iw f 6 + 2 ^ 32 * iw f 7 = s.otp.uid then s.masterRef port f stamp else (s.noteRef port f stamp).linkExchange port f stamp)
    else if (s.guardian port f 64 stamp).isSome then s.noteMaster f
    else s.stationRef port f stamp))

/-- R298: t_miss of this backup, in 1/160 ns from the start of the cycle. -/
def State.tMiss (s : State) : Nat :=
  10 * min (s.get F.RING_POS_A) (s.get F.RING_POS_B) + 16 * occupancy s.h1 64 + 80 * s.guardNs + 160000 * s.get F.RING_CTRL_RANK

/-- R298: a backup reaches t_miss without a reference frame: it sends the cycle's frames and becomes master. -/
def execMasterTakeover (s : State) : Out := s.awake (
  .next (if s.ringSt = rsOPERATIONAL && !s.timeMaster && s.candidate && !s.ring.refHA && !s.ring.refHB then
    let t := s.tMiss
    let s1 := s.advanceTo (s.get64 F.RING_CYC_START_LO + (t + 159) / 160)
    let s2 := { s1 with ring := { s1.ring with noMsg := true, blks := [] } }.becomeMaster
    ((s2.incSat F.RING_TAKEOVER).ringRec 1 0).sendRef (t / 10)
  else s))

end Sys2Proof.Machine
end

