-- ==== Sys2Proof/Machine/RingMsg.lean ====
section
/-! DEFINITION. The slot guardian, the bight frame's departure, message frames, and the ring commands
(10_hawser_ring_cycle R259-R261, R268, R275-R279; 11_hawser_ring_master R294-R296, R315). -/

namespace Sys2Proof.Machine

/-- R261: a frame's CRC is counted at port `p`; a good frame lets a port that stopped turning back stay (R307). -/
def State.countCrc (s : State) (p kind : Nat) : State :=
  if kind = 0 then { s with ring := { s.ring with goodOn := putBit s.ring.goodOn p true } }
  else if kind = 1 then s.incSat (F.RPORT_CRC_FWD p)
  else ((s.incSat (F.RPORT_CRC_ERR p)).lifeAdd64 (0x20 + 8 * p) 1).raise bRING 8

/-- R279: the abort words of a truncated frame. -/
def abortWord (rr : Nat) : Nat := 0xA5A50000 + rr

/-- R267: KIND codes. -/
def kdREQUEST : Nat := 1
def kdANSWER : Nat := 2
def kdSAFETY : Nat := 3

/-- R331: words of the process image while no program is loaded. -/
def imageMax : Nat := 262144

/-- R273: the words that answer the REQUEST paired with ANSWER segment `seg`; none without a valid request. -/
def State.answerWords (s : State) (sc : Sched) (seg len : Nat) : Option (List Nat) :=
  match (List.range sc.nseg).find? (fun r => match sc.seg? r with
    | some (_, _, k, _, pair, _) => k = kdREQUEST && pair = seg
    | none => false) with
  | none => none
  | some r =>
    match (s.rxSeg r).fresh with
    | none => none
    | some _ =>
      let w := iw (s.rxSeg r).data 0
      let n := bits w 31 24
      let ix := bits w 23 0
      let size := match s.prog.active with
        | some p => p.words
        | none => imageMax
      if n = 0 || decide (len < n) || decide (size < ix + n) then none
      else some ((List.range len).map (fun i => if i < n then s.img (ix + i) else 0))

/-- R273: an owned ANSWER segment passes; FRESH advances once in a cycle. -/
def State.passAnswer (s : State) (sc : Sched) (seg len : Nat) : State :=
  let t := s.txSeg seg
  let again := (s.rxSeg seg).taken
  let s1 := s.setRx seg { s.rxSeg seg with taken := true }
  match s.answerWords sc seg len with
  | some ws => s1.setTx seg { t with null := false, latched := ws, fresh := if again && !t.null then t.fresh else (t.fresh + 1) % 256 }
  | none =>
    let s2 := s1.setTx seg { t with null := true, latched := [] }
    if again then s2 else (s2.incSat F.RING_NULL_TX).raise bRING 9

/-- R267, R268, R271, R311: segment `n` as the master, or its owner, sends it: status, data, CRC; this device writes format version 1. -/
def State.segDefault (s : State) (sc : Sched) (n : Nat) : List Nat :=
  match sc.seg? n with
  | none => []
  | some (len, ver, kind, owner, _, _) =>
    let t := s.txSeg n
    let own := s.writesOwner sc owner && ver = 1
    let st := (if own then t.fresh * 2 ^ 16 else 0) + ver * 2 ^ 12 + kind * 2 ^ 9 + b2n (!own || t.null) * 2 ^ 8 + b2n own * 2 ^ 7 + owner
    withCrc (st :: (List.range len).map (fun i => if own && !t.null then t.latched.getD i 0 else 0))

/-- R266, R268: the bight frame of the running cycle, on the ring that leaves at port `p`. -/
def State.bightFrame (s : State) (sc : Sched) (p : Nat) : List Nat :=
  withCrc ([sc.bightLen * 2 ^ 16 + p * 2 ^ 8 + 0x02, s.get F.RING_CYCLE_NUM, sc.id, sc.nseg] ++
    (List.range sc.nseg).flatMap (s.segDefault sc))

/-- R273: the ANSWER segments that this device writes are sampled, as the bight frame departs. -/
def State.answerAll (s : State) (sc : Sched) : State :=
  (List.range sc.nseg).foldl (fun (t : State) n =>
    match sc.seg? n with
    | some (len, _, kind, owner, _, _) => if kind = kdANSWER && t.writesOwner sc owner then t.passAnswer sc n len else t
    | none => t) s

/-- R268, R273: the master sends the bight frame. -/
def execBightFrameTx (s : State) : Out := s.awake (
  .next (match s.curSched with
    | some sc =>
      if s.timeMaster then
        let t := s.answerAll sc
        t.putOut (t.upPorts.map (fun p => (p, toBytes (t.bightFrame sc p))))
      else s
    | none => s))

/-- R266, R268: the words of a bight frame of schedule `sc` with the segments that this device writes in their places. -/
def State.writeSegs (s : State) (sc : Sched) (ws : List Nat) : List Nat :=
  (List.range sc.nseg).foldl (fun (l : List Nat) n =>
    match sc.seg? n with
    | some (len, ver, _, owner, _, off) =>
      if s.writesOwner sc owner && ver = 1 then l.take (off / 4) ++ s.segDefault sc n ++ l.drop (off / 4 + len + 2) else l
    | none => l) ws

/-- R261, R263, R266, R268: what leaves of frame `b`, before its CRC: the fields of a reference frame and the owned segments of a bight frame
of the schedule in force are rewritten. -/
def State.fwdBody (s : State) (p q : Nat) (b : List Nat) (t0 : Nat) : List Nat :=
  let f := toWords b
  let ty := iw f 0 % 256
  if ty = 1 && b.length = 64 then toBytes (s.fwdRef p q f (t0 + s.fwdDelay)).dropLast
  else
    match s.curSched with
    | some sc =>
      if s.ringRuns && ty = 2 && iw f 2 = sc.id && iw f 0 / 2 ^ 16 = sc.bightLen && b.length = sc.bightLen then
        toBytes (s.writeSegs sc f).dropLast
      else b.take (b.length - 4)
    | none => b.take (b.length - 4)

/-- R261, R279: a frame with body `body` and its CRC, inverted where it was not good: whole, or cut with the abort word. -/
def forwarded (body : List Nat) (kind : Nat) (cut : Cut) : List Nat :=
  let b := body ++ wordBytes (if kind = 0 then crc32c body else Nat.xor (crc32c body) 0xFFFFFFFF)
  match cut with
  | some (rr, n) => b.take n ++ wordBytes (abortWord rr)
  | none => b

/-- R279: the aborted remnant of a truncated frame: it ends with an abort word that is not its good CRC. -/
def isAborted (b : List Nat) : Bool :=
  let w := leNat (b.drop (b.length - 4))
  decide (abortWord 1 ≤ w) && decide (w ≤ abortWord 4) && (decide (leNat (b.take 4) / 2 ^ 16 ≠ b.length) || decide (byteKind b ≠ 0))

/-- R263, R290: good frames that their own commands put out: a reference frame, a claim in CLAIM. -/
def State.ownRow (s : State) (b : List Nat) (kind : Nat) : Bool :=
  let h := leNat (b.take 4)
  kind = 0 && h / 2 ^ 16 = b.length && ((h % 256 = 1 && b.length = 64) || (h % 256 = 4 && b.length = 32 && !s.ringRuns))

/-- R257: a frame longer than this generation sends. -/
def State.tooLong (s : State) (b : List Nat) : Bool := s.h1 && decide (4096 < b.length)

/-- R257, R259, R261, R278, R279, R306: a frame is checked, judged and forwarded; the master forwards none. -/
def State.forwardFrame (s : State) (p : Nat) (b : List Nat) (t0 : Nat) : State :=
  let q := s.outPort (otherPort p)
  if isAborted b then (s.incSat (F.RPORT_ABORT_RX p)).putOut (if s.timeMaster then [] else [(q, b)])
  else
    let kind := byteKind b
    let s1 := s.countCrc p kind
    if s1.timeMaster || s.tooLong b then s1.putOut []
    else
      let cut := s1.guardian p (toWords b) b.length t0
      let s2 := if cut.isSome then (s1.incSat (F.RPORT_TRUNC p)).raise bRING 10 else s1
      s2.putOut (if cut.isNone && s1.ownRow b kind then [] else [(q, forwarded (s1.fwdBody p q b t0) kind cut)])

/-- R278: a frame of `len` bytes arrives at a port and is forwarded; its first bit came at `t0`, in 1/16 ns of device time. A good
reference frame is put out by REFERENCE_FRAME_RX; the segments of a bight frame pass (SEGMENT_RX) before its end does. -/
def execFrameForward (port len : Nat) (ws : List Word) (t0 : Nat) (s : State) : Out := s.awake (
  .next (if s.ringSt = rsDOWN || decide (2 ≤ port) || decide (len < 4) || s.on (wrapBit port) then s
    else s.forwardFrame port (frameBytes ws len) t0))

/-- R275, R306: a message frame from its bytes before the CRC, on both rings; a master sends no copy at a port whose link is down. -/
def State.onBothRings (s : State) (b : List Nat) : List (Nat × List Nat) :=
  ([0, 1].filter (fun p => !s.timeMaster || s.on (linkBit p))).map (fun p => (s.outPort p, bytesCrc (b.set 1 p)))

/-- R275, R294: block `b` of image `img`, as a message frame in slot `slot`. -/
def State.blockFrame (s : State) (slot b sw : Nat) (img : List Nat) : List Nat :=
  let data := (img.drop (256 * b)).take 256
  let flen := 36 + 4 * data.length
  [flen * 2 ^ 16 + 0x03, 0x03 * 2 ^ 24 + slot * 2 ^ 16 + 0x7F * 2 ^ 8 + s.ownNodeNo, s.ring.txSeq,
   b * 2 ^ 16 + nBlocks img.length, iw img 2, 4 * img.length, sw, 4 * data.length] ++ data

/-- A frame the device makes itself is sent and takes the next SEQ. -/
def State.sendOwn (s : State) (ws : List Nat) : State :=
  let s1 := s.putOut (s.ring.out ++ s.onBothRings (toBytes ws))
  { s1 with ring := { s1.ring with txSeq := (s1.ring.txSeq + 1) % 65536 } }

/-- R295: blocks of the distribution leave while they fit the `room` (0.1 ns) left in the slot; each twice. -/
def State.sendDist : Nat → Nat → Nat → State → State × Nat
  | 0, _, room, s => (s, room)
  | k + 1, slot, room, s =>
    let img := s.ring.distImg
    let n := nBlocks img.length
    let i := s.ring.distNext
    let w := s.blockFrame slot (i % n) s.ring.distSwitch img
    let len := iw w 0 / 2 ^ 16
    let need := occupancy s.h1 len
    if img.isEmpty || decide (room < need) then (s, room)
    else
      let s1 := s.sendOwn w
      let s2 := if i + 1 < 2 * n then { s1 with ring := { s1.ring with distNext := i + 1 } }
        else { s1 with ring := { s1.ring with distNext := 0, distImg := [] } }
      State.sendDist k slot (room - need) s2

/-- R296: one block of the image in force leaves, cyclically. -/
def State.sendRepeat (s : State) (slot room : Nat) : State × Nat :=
  match s.curSched with
  | none => (s, room)
  | some sc =>
    let n := nBlocks sc.image.length
    let w := s.blockFrame slot (s.ring.repNext % n) 0 sc.image
    let len := iw w 0 / 2 ^ 16
    let need := occupancy s.h1 len
    if sc.image.isEmpty || decide (room < need) then (s, room)
    else
      let s1 := s.sendOwn w
      ({ s1 with ring := { s1.ring with repNext := (s1.ring.repNext + 1) % n } }, room - need)

/-- R88: the ring node with a UID, by the schedule in force. -/
def State.nodeOfUid (s : State) (uid : Nat) : Option Nat :=
  match s.curSched with
  | none => none
  | some sc => (sc.nodes.find? (fun e => e.1 = uid)).map (fun e => e.2.2)

/-- R88: replies of Q4 to ring nodes leave while they fit; one to a node that is absent, or in no
schedule any more, is discarded and its tag freed. -/
def State.sendReplies : Nat → Nat → Nat → State → State × Nat
  | 0, _, room, s => (s, room)
  | k + 1, slot, room, s =>
    match (s.q 4).held.find? (fun r => !r.splice) with
    | none => (s, room)
    | some r =>
      match s.nodeOfUid r.uid with
      | none => State.sendReplies k slot room (s.takeReply r)
      | some node =>
        let body := replyWords r false 0
        let len := 16 + 4 * body.length
        let need := occupancy s.h1 len
        if !s.nodePresent node then State.sendReplies k slot room (s.takeReply r)
        else if room < need then (s, room)
        else
          let w := [len * 2 ^ 16 + 0x03, 0x02 * 2 ^ 24 + slot * 2 ^ 16 + node * 2 ^ 8 + s.ownNodeNo, s.ring.txSeq] ++ body
          State.sendReplies k slot (room - need) ((s.takeReply r).sendOwn w)

/-- R276: MAXLEN of the longest slot this node owns. -/
def State.maxOwnLen (s : State) : Nat :=
  s.slotTable.foldl (fun m (len, o, _, _) => if o = s.ownNodeNo then max m len else m) 0

/-- R276: the transmit descriptor at TX_HEAD ends: OWN clears, ERR as given, TX_HEAD advances. -/
def State.txDescEnd (s : State) (err : Bool) : State :=
  let h := s.get F.RING_TX_HEAD
  let a := s.get F.RING_MSG_TX_BASE + 16 * h
  let w1 := (s.word (a + 4)).toNat
  (s.setWord (a + 4) (Word.of (w1 % 2 ^ 30 + b2n err * 2 ^ 30))).put F.RING_TX_HEAD ((h + 1) % ringLen (s.get F.RING_TX_LOG))

/-- R276: the frame that a transmit descriptor names, `n` bytes at `a`, as this device sends it: FTYPE, FLEN, SLOT and SRC are its own. -/
def State.queuedFrame (s : State) (slot a n : Nat) : List Nat :=
  let b := s.takeBytes a n
  let x := leNat ((b.drop 4).take 4)
  wordBytes ((n + 4) * 2 ^ 16 + 0x03) ++ wordBytes (setBits (setBits x 23 16 slot) 6 0 s.ownNodeNo) ++ b.drop 8

/-- R276: queued message frames leave in ring order while they fit the slot. A LEN below 16 is returned like a frame that is too long (log
entry 129). -/
def State.sendQueued : Nat → Nat → Nat → State → State
  | 0, _, _, s => s
  | k + 1, slot, room, s =>
    let h := s.get F.RING_TX_HEAD
    let a := s.get F.RING_MSG_TX_BASE + 16 * h
    let w1 := (s.word (a + 4)).toNat
    let n := bits w1 15 0
    let need := occupancy s.h1 (n + 4)
    if h = s.get F.RING_TX_TAIL || !bitOf w1 31 then s
    else if n < 16 ∨ s.maxOwnLen < n + 4 then State.sendQueued k slot room ((s.txDescEnd true).incSat F.RING_MSG_DROP)
    else if room < need then s
    else
      let s1 := s.putOut (s.ring.out ++ s.onBothRings (s.queuedFrame slot (s.word a).toNat n))
      State.sendQueued k slot (room - need) ((s1.txDescEnd false).pulse 259)

/-- R276, R295, R296: an owned slot begins at this node: image blocks, replies, queued frames. -/
def State.slotTx (s : State) (slot a b : Nat) : State :=
  let room := 10 * (b - a)
  let s0 := s.putOut []
  let mine := s.timeMaster && (match s.blockSlot with | some (i, _, _) => decide (i = slot) | none => false)
  let dist := !s0.ring.distImg.isEmpty && cycleDue (s0.get F.RING_CYCLE_NUM) s0.ring.distFrom
  let r1 := if mine then (if dist then State.sendDist 512 slot room s0 else s0.sendRepeat slot room) else (s0, room)
  let r2 := State.sendReplies 32 slot r1.2 r1.1
  State.sendQueued 1024 slot r2.2 r2.1

/-- R276, R298, R299, R305: message frames leave in a slot this node owns. -/
def execMessageFrameTx (slot : Nat) (s : State) : Out := s.awake (
  .next (match s.slotTable[slot]? with
    | none => s
    | some (_, owner, a, b) =>
      let boot := s.ringSt = rsBOOTSTRAP && s.timeMaster
      if (boot || (s.ringSt = rsOPERATIONAL && decide (owner = s.ownNodeNo))) && s.on F.RING_CTRL_ACY_TX_EN && !s.ring.noMsg then s.slotTx slot a b
      else s))

/-- R72, R88: the command packet in the words of a message payload, from the node with UID `uid`. -/
def pktOfWords (ws : List Nat) (uid : Nat) (splice : Bool) : Pkt :=
  { Pkt.ofWords 4 (ws.map Word.of) with uid := uid, splice := splice }

/-- R277: the receive descriptor at RX_HEAD is free. -/
def State.rxDescFree (s : State) : Bool :=
  let h := s.get F.RING_RX_HEAD
  h ≠ s.get F.RING_RX_TAIL && bitOf (s.word (s.get F.RING_MSG_RX_BASE + 32 * h + 4)).toNat 31

/-- R277: an accepted frame of bytes `b` goes to the receive descriptor at RX_HEAD, without its CRC, with the stamp of its start. -/
def State.msgToRing (s : State) (b : List Nat) (stamp : Nat) : State :=
  let h := s.get F.RING_RX_HEAD
  let a := s.get F.RING_MSG_RX_BASE + 32 * h
  let size := bits (s.word (a + 4)).toNat 15 0
  let n := b.length - 4
  let cut := decide (size < n)
  let s1 := s.putBytes (s.word a).toNat (b.take (min size n))
  let s2 := (s1.setWords (a + 4) [b2n cut * 2 ^ 29 + n]).setWords (a + 16) [stamp % 2 ^ 32, stamp / 2 ^ 32 % 2 ^ 32]
  let s3 := if cut then s2.raise bRING 12 else s2
  (s3.put F.RING_RX_HEAD ((h + 1) % ringLen (s.get F.RING_RX_LOG))).pulse 258

/-- R294: the words of an image whose blocks are all held. -/
def blocksImage (n : Nat) (blks : List (Nat × List Nat)) : List Nat := (List.range n).flatMap (tabGet [] blks)

/-- R295, R296: an image block arrives: blocks of one SCHED_ID are collected, a whole image is judged. -/
def State.takeBlock (s : State) (f : List Nat) : State :=
  let id := iw f 4
  let n := bits (iw f 3) 15 0
  let sw := iw f 6
  let data := (f.dropLast.drop 8).take (bits (iw f 7) 15 0 / 4)
  let held := s.ringSt = rsLISTEN || s.ringSt = rsOPERATIONAL
  let known := (s.bankWith id).isSome && (sw = 0 || s.ring.switchPend || s.commitPending bRING 0)
  if s.timeMaster || known || (held && sw = 0) || n = 0 || decide (256 < n) || s.ringSt = rsCLAIM then s
  else
    let r0 : RingInt := if s.ring.blkId = id && s.ring.blkSwitch = sw then s.ring
      else { s.ring with blkId := id, blkCount := n, blkLen := iw f 5, blkSwitch := sw, blks := [] }
    let r : RingInt := { r0 with blks := tabSet [] r0.blks (bits (iw f 3) 31 16) data }
    let s1 := { s with ring := r }
    if r.blks.length < n then s1
    else
      let at' := if sw = 0 then (s.get F.RING_CYCLE_NUM + 2) % 2 ^ 32 else sw
      ({ s1 with ring := { r with blks := [] } }).acceptImage (blocksImage n r.blks) at'

/-- R275: MTYPE values that are reserved. -/
def msgReserved (t : Nat) : Bool := t = 0 || (decide (5 ≤ t) && decide (t < 0x80))

/-- R88, R277: a good frame for this node is accepted: it goes into the receive descriptor ring, and a command packet into Q4, an image block
to the blocks held. Without a free descriptor it is discarded (log entry 129). -/
def State.acceptMsg (s : State) (b : List Nat) (stamp : Nat) : State :=
  let f := toWords b
  let t := bits (iw f 1) 31 24
  let src := bits (iw f 1) 6 0
  let uid := match s.curSched with | some sc => ((sc.nodes.find? (fun e => e.2.2 = src)).map (fun e => e.1)).getD 0 | none => 0
  if msgReserved t then s.incSat F.RING_MSG_RX_DISCARD
  else if !s.rxDescFree then (s.incSat F.RING_MSG_RX_DISCARD).raise bRING 12
  else
    let s1 := s.msgToRing b stamp
    if t = 1 then s1.remoteArrive (pktOfWords (toWords ((b.drop 12).take (b.length - 16))) uid false)
    else if t = 3 then s1.takeBlock f
    else s1

/-- R277: a message frame arrives; its start was stamped `stamp` ns. A second ring copy is discarded. -/
def State.messageRx (s : State) (b : List Nat) (stamp : Nat) : State :=
  let f := toWords b
  let dst := bits (iw f 1) 14 8
  let src := bits (iw f 1) 6 0
  let seq := bits (iw f 2) 15 0
  if dst ≠ 0x7F && (dst ≠ s.ownNodeNo || s.curSched.isNone) then s
  else if tabGet 0 s.ring.msgSeq src = seq + 1 then s
  else ({ s with ring := { s.ring with msgSeq := tabSet 0 s.ring.msgSeq src (seq + 1) } }).acceptMsg b stamp

/-- R275, R279: a frame is a message frame that this node may accept: whole, good, of 20 to 1,518 bytes, and not one that its own slot
guardian cuts. -/
def State.messageOk (s : State) (p : Nat) (b : List Nat) (t0 : Nat) : Bool :=
  decide (20 ≤ b.length) && decide (b.length ≤ 1518) && leNat (b.take 4) / 2 ^ 16 = b.length && b.getD 0 0 = 3 && byteKind b = 0 &&
  (s.timeMaster || (s.guardian p (toWords b) b.length t0).isNone)

/-- R277: a message frame of `len` bytes arrives at a port; its start was stamped `stamp`, in 1/16 ns. -/
def execMessageFrameRx (port len : Nat) (ws : List Word) (stamp : Nat) (s : State) : Out := s.awake (
  let b := frameBytes ws len
  .next (if s.ringRuns && decide (port < 2) && !s.on (wrapBit port) && s.messageOk port b stamp then s.messageRx b (stamp / 16) else s))

/-- R309: WDOG of the schedule in force, at least 1. -/
def State.ringWdog (s : State) : Nat := match s.curSched with | some sc => max 1 sc.wdog | none => 1

/-- R309: node `n` has gone WDOG cycles without a valid copy of a segment it owns. -/
def execNodeAbsent (n : Nat) (s : State) : Out := s.awake (
  .next (if (s.nodeI n).present && decide (s.ringWdog ≤ (s.nodeI n).since) then
    (s.setNode n { s.nodeI n with present := false }).disarm n else s))

/-- R315: what the chunks of RING_SCHEDULE_LOAD hold once `p` is added; none for a gap. -/
def State.loadChunk (s : State) (p : Pkt) : Option (List Nat) :=
  let off := p.w 1
  let data := (p.params.drop 2).map (fun w => w.toNat)
  if off = 0 then some data
  else if off = 4 * s.ring.chunk.length then some (s.ring.chunk ++ data) else none

/-- R295: a distribution is under way until its change of bank. -/
def State.distributing (s : State) : Bool := !s.ring.distImg.isEmpty || s.ring.loadPkt.isSome

/-- The state with the chunks held of a RING_SCHEDULE_LOAD. -/
def State.setChunk (s : State) (l : List Nat) : State := { s with ring := { s.ring with chunk := l } }

/-- R81, R282, R312, R315: why the last chunk of an image is refused; a refused packet leaves the chunks held. -/
def State.loadRefused (s : State) (p : Pkt) (img : List Nat) : Option Nat :=
  let apply := bitOf (p.w 0) 29
  match (if bits (p.w 0) 30 29 = 0 then some stBAD_PARAM else s.imageFault img) with
  | some st => some st
  | none =>
    firstFail [(apply && (!s.timeMaster || (s.curSched.isSome && s.blockSlot.isNone)), stNOT_PERMITTED),
      (apply && !s.ringCovers img, stVERSION_MISMATCH), (s.distributing, stBUSY)]

/-- R315: the last chunk of an image: it is stored, distributed, or both. -/
def State.loadLast (s : State) (p : Pkt) (img : List Nat) : State :=
  match s.loadRefused p img with
  | some st => s.done p st
  | none =>
    let s0 := s.setChunk []
    let s1 := if bitOf (p.w 0) 30 then { s0 with mram := { s0.mram with schedImage := img } } else s0
    if bitOf (p.w 0) 29 then
      ({ (s1.accept p) with ring := { s1.ring with loadPkt := some p } }).startDist img ((s1.get F.RING_CYCLE_NUM + 1) % 2 ^ 32)
    else s1.done p stDONE

/-- R315: RING_SCHEDULE_LOAD. -/
def execRingScheduleLoad (p : Pkt) (s : State) : Out :=
  .next (s.command p opRingScheduleLoad [(outside (p.w 0) 0xE0000000 || outside (p.w 1) 0x3FFFC, stBAD_PARAM)]
    (fun t =>
      match t.loadChunk p with
      | none => (t.setChunk []).done p stBAD_PARAM
      | some img =>
        if 65536 < img.length then t.done p stBAD_PARAM
        else if bitOf (p.w 0) 31 then t.loadLast p img else (t.setChunk img).done p stDONE))

/-- R315: RING_START. -/
def execRingStart (p : Pkt) (s : State) : Out :=
  .next (s.command p opRingStart
    [(outside (p.w 0) 0xE, stBAD_PARAM),
     (s.on F.RING_CTRL_RUN || !(s.stage = STAGE_RING_JOIN || s.stage = STAGE_OPERATIONAL), stNOT_PERMITTED)]
    (fun t => (t.ringCtrl (Nat.land (t.word F.RING_CTRL_RUN.addr).toNat 0xF10 + Nat.land (p.w 0) 0xE + 1)).done p stDONE))

/-- R315: a slot fed or ticked by the ring is in CLOSED or OBSERVER. -/
def State.ringFeedsLoop (s : State) : Bool :=
  s.usedSlots.any (fun n => (s.slotSt n = slCLOSED || s.slotSt n = slOBSERVER) &&
    (s.fbSrc n = 3 || s.tickSrc n = 1))

/-- R315: RING_STOP. -/
def execRingStop (p : Pkt) (s : State) : Out :=
  .next (s.command p opRingStop
    [(outside (p.w 0) 1, stBAD_PARAM), (!bitOf (p.w 0) 0 && s.ringFeedsLoop, stLOOP_CLOSED)]
    (fun t => (if t.on F.RING_CTRL_RUN then t.ringStop else t).done p stDONE))

/-- R315: RING_STATUS. -/
def execRingStatus (p : Pkt) (s : State) : Out :=
  .next (s.command p opRingStatus []
    (fun t => t.doneRes p (t.getWords (bRING + 0x64) 3 ++ [(t.word (bRING + 0xAC)).toNat] ++ t.getWords (bRING + 0xC8) 2 ++
      [(t.word (bRING + 0xA8)).toNat, t.get F.RING_RX_VER] ++ t.getWords (bRING + 0x98) 4 ++ [t.get F.TIME_OFFSET_OFFSET, t.schedId])))

/-- R315: RING_COUNTERS. -/
def execRingCounters (p : Pkt) (s : State) : Out :=
  .next (s.command p opRingCounters []
    (fun t => t.doneRes p (t.getWords (bRING + 0x100) 8 ++ t.getWords (bRING + 0x140) 8 ++ t.getWords (bRING + 0x180) 8)))

/-- R309: whether node `n` has a presence state, or is this device. -/
def Sched.presKnown (sc : Sched) (n : Nat) : Bool := decide (n = sc.node) || sc.segs.any (fun (_, _, _, o, _, _) => decide (o = n))

/-- R315: the result of RING_STATION. -/
def State.stationResult (s : State) (sc : Sched) (uid rank n : Nat) : List Nat :=
  let here := decide (n = sc.node) || (s.nodeI n).present
  [uid % 2 ^ 32, uid / 2 ^ 32, b2n (sc.presKnown n) * 2 ^ 18 + b2n here * 2 ^ 16 + rank * 2 ^ 8 + n,
   if n = sc.node then 0 else if (s.nodeI n).known then min 0xFFFFFFFF (s.nodeI n).since else 0xFFFFFFFF]

/-- R315: RING_STATION. -/
def execRingStation (p : Pkt) (s : State) : Out :=
  let row := s.bankSched.bind (fun sc => (sc.nodes.find? (fun e => e.2.2 = p.w 0)).map (fun e => (sc, e)))
  .next (s.command p opRingStation [(outside (p.w 0) 0x7F || row.isNone, stBAD_PARAM)]
    (fun t => match row with
      | some (sc, uid, rank, n) => t.doneRes p (t.stationResult sc uid rank n)
      | none => t))

/-- R315: RING_MASTER_RANK. -/
def execRingMasterRank (p : Pkt) (s : State) : Out :=
  .next (s.command p opRingMasterRank
    [(outside (p.w 0) 0xF || (decide (4 ≤ p.w 0) && decide (p.w 0 ≤ 14)), stBAD_PARAM), (s.on F.RING_CTRL_RUN, stNOT_PERMITTED)]
    (fun t =>
      let t1 := t.put F.RING_CTRL_RANK (p.w 0)
      ({ t1 with mram := { t1.mram with rank := some (p.w 0) } }).done p stDONE))

end Sys2Proof.Machine
end

