-- ==== Sys2Proof/Machine/SecImage.lean ====
section
/-! DEFINITION. Images and their checks, the key slots, the measurement log (18_security R446, R449-R451, R459). -/

namespace Sys2Proof.Machine

/-- R449: length of an image header in words; the body follows it. -/
def hdrWords : Nat := 4293

/-- R449: image types. -/
def tyLOADER : Nat := 1
def tyFIRMWARE : Nat := 2
def tyCORE_CODE : Nat := 3
def tyPROGRAM : Nat := 4
def tyKEYS : Nat := 5

/-- R451: result codes of a verification. -/
def vfOK : Nat := 0
def vfBAD_DIGEST : Nat := 1
def vfRSA_FAIL : Nat := 2
def vfSLH_FAIL : Nat := 3
def vfSLOT_REVOKED : Nat := 4
def vfKEY_MISMATCH : Nat := 5
def vfDENIED : Nat := 6
def vfSVN : Nat := 7
def vfUID : Nat := 8
def vfFORMAT : Nat := 9

/-- The twelve words of a SHA-384 digest. -/
def digestWords (d : Nat) : List Nat := (List.range 12).map (fun k => d / 2 ^ (32 * k) % 2 ^ 32)

/-- R451: SHA-384 of `bytes` bytes of a list of words, as twelve words. -/
def sha384 (ws : List Nat) (bytes : Nat) : List Nat := digestWords (Config.sha384 ws bytes)

/-- R449: BODY_LEN in range for the type. -/
def bodyLenOk (ty len : Nat) : Bool :=
  match ty with
  | 1 => decide (len ≤ 262144)
  | 2 => decide (len ≤ 4194304)
  | 3 => decide (len ≤ 16777216)
  | 4 => decide (len ≤ 16777216)
  | 5 => decide (440 ≤ len) && decide (len ≤ 1760)
  | _ => false

/-- R450: the class of key slot that a type requires: 0 vendor, 1 owner. -/
def classOf (ty : Nat) : Nat := if ty = 1 ∨ ty = 2 then 0 else 1

/-- R449: the key slot of an image, class * 4 + slot. -/
def imageSlot (ws : List Nat) : Nat := 4 * classOf (bits (iw ws 1) 23 16) + bits (iw ws 1) 1 0

/-- R449: fields of an image header. -/
def imageSvn (ws : List Nat) : Nat := bits (iw ws 1) 15 8
def imageKey (ws : List Nat) : List Nat := (ws.drop 32).take 109

/-- R451 step 1. -/
def imageFormatBad (ws : List Nat) (ty : Nat) : Bool :=
  decide (iw ws 0 ≠ 0x44474931) || decide (bits (iw ws 1) 31 24 ≠ 1) || decide (bits (iw ws 1) 23 16 ≠ ty) ||
  decide (bits (iw ws 1) 7 2 ≠ 0) || decide (iw ws 2 ≠ 17172) || !bodyLenOk ty (iw ws 3) ||
  [10, 11, 24, 25, 26, 27, 28, 29, 30, 31].any (fun i => decide (iw ws i ≠ 0)) ||
  decide (ws.length ≠ hdrWords + (iw ws 3 + 3) / 4)

/-- R446: key slot `k` is provisioned, and not revoked. -/
def State.slotUsable (s : State) (k : Nat) : Bool := decide (tabGet 0 s.otp.hashes k ≠ 0) && !bitOf s.otp.revoked k

/-- R451: the hash of key block `key` is that of slot `k`. -/
def State.keyIs (s : State) (k : Nat) (key : List Nat) : Bool := sha384 key 436 = digestWords (tabGet 0 s.otp.hashes k)

/-- R451: both signatures of an image. -/
def imageSigs (ws : List Nat) : Nat :=
  let d := sha384 (ws.take 141) 564
  if !Config.rsaVerify (imageKey ws) d ((ws.drop 141).take 96) then vfRSA_FAIL
  else if !Config.slhVerify (imageKey ws) d ((ws.drop 237).take 4056) then vfSLH_FAIL
  else vfOK

/-- R451 steps 4 to 8. -/
def State.imageRest (s : State) (ws : List Nat) : Nat :=
  let uid := iw ws 8 + 2 ^ 32 * iw ws 9
  let ty := bits (iw ws 1) 23 16
  if uid ≠ 0 ∧ uid ≠ s.otp.uid then vfUID
  else if (ty = 1 ∨ ty = 2) ∧ imageSvn ws < s.otp.rbCtr then vfSVN
  else if sha384 (ws.drop hdrWords) (iw ws 3) ≠ (ws.drop 12).take 12 then vfBAD_DIGEST
  else imageSigs ws

/-- R451: the verification of an image of type `ty`: the code of the first check that fails. -/
def State.verifyImage (s : State) (ws : List Nat) (ty : Nat) : Nat :=
  if imageFormatBad ws ty then vfFORMAT
  else if !s.slotUsable (imageSlot ws) then vfSLOT_REVOKED
  else if !s.keyIs (imageSlot ws) (imageKey ws) then vfKEY_MISMATCH
  else s.imageRest ws

/-- R466: the code of the last image refused. -/
def State.noteFail (s : State) (code : Nat) : State := if code = vfOK then s else s.put F.SEC_FAIL code

/-- R459: the log entry of an image: KIND 1. -/
def imageEntry (ws : List Nat) : List Nat :=
  let k := imageSlot ws
  [0x01000000 + bits (iw ws 1) 23 8 * 2 ^ 8 + k / 4 * 8 + k % 4, iw ws 6, 1, 0] ++ (ws.drop 12).take 12

/-- R459: an entry joins the measurement log; from the 32nd on it is folded into entry 31. -/
def State.logEntry (s : State) (e : List Nat) : State :=
  let a (i : Nat) : Nat := bSEC + 0x1000 + 64 * i
  let n := s.get F.SEC_LOG_N
  if n < 32 then (s.setWords (a n) e).put F.SEC_LOG_N (n + 1)
  else
    let d := sha384 (s.getWords (a 31 + 16) 12 ++ e.drop 4) 96
    let cnt := (s.word (a 31 + 8)).toNat
    ((s.setWord (a 31 + 8) (Word.of (cnt - cnt % 2 ^ 16 + (cnt + 1) % 2 ^ 16))).setWords (a 31 + 16) d).raise bSEC 12

end Sys2Proof.Machine
end

