-- ==== Sys2Proof/Machine/ProgImage.lean ====
section
/-! DEFINITION. The program image: reading its body and the checks of PROG_LOAD (13_program_and_recipes R334, R343-R348),
and the value of a variable in the process image (R346). -/

namespace Sys2Proof.Machine

/-- R344: entry `i` of the task table. -/
def progTask (ws : List Nat) (i : Nat) : PTask :=
  let b := iw ws 10 / 4 + 8 * i
  let w (k : Nat) : Nat := iw ws (b + k)
  let a : PTask := { event := bitOf (w 0) 24, affinity := bits (w 0) 23 16, prio := bits (w 0) 12 8, num := bits (w 0) 7 0 }
  let c := { a with phase := bits (w 1) 31 16, period := bits (w 1) 15 0, trg2 := w 2, trg3 := w 3, trgVar := w 4 }
  { c with inCount := bits (w 5) 31 16, inFirst := bits (w 5) 15 0, outCount := bits (w 6) 31 16, outFirst := bits (w 6) 15 0,
           entry := w 7 }

/-- R343: the number of tasks of an image. -/
def progTasks (ws : List Nat) : Nat := bits (iw ws 3) 7 0 + bits (iw ws 3) 15 8

/-- R345: entry `i` of the area table as (FIRST, COUNT, OWNER, KIND), of the range table as (FIRST, COUNT). -/
def progArea (ws : List Nat) (i : Nat) : Nat × Nat × Nat × Nat :=
  let b := iw ws 11 / 4 + 3 * i
  (bits (iw ws b) 17 0, bits (iw ws (b + 1)) 18 0, bits (iw ws (b + 2)) 15 8, bits (iw ws (b + 2)) 1 0)
def progRange (ws : List Nat) (i : Nat) : Nat × Nat :=
  let b := iw ws 12 / 4 + 2 * i
  (bits (iw ws b) 17 0, bits (iw ws (b + 1)) 18 0)

/-- R346: entry `i` of the variable table. -/
def progVar (ws : List Nat) (i : Nat) : PVar :=
  let b := iw ws 13 / 4 + 4 * i
  let x := iw ws (b + 1)
  let y := iw ws (b + 2)
  { id := iw ws b, bit := bits x 22 18, word := bits x 17 0, kind := bits y 9 8, ty := bits y 7 0 }

/-- R347: entry `i` of the station table as (SEG, NODE), of the initial-value table as (WORD, VALUE). -/
def progStn (ws : List Nat) (i : Nat) : Nat × Nat :=
  let x := iw ws (iw ws 14 / 4 + i)
  (bits x 24 16, bits x 6 0)
def progInit (ws : List Nat) (i : Nat) : Nat × Nat :=
  let b := iw ws 15 / 4 + 2 * i
  (bits (iw ws b) 17 0, iw ws (b + 1))

/-- R343-R347: what a body holds. -/
def parseProg (ws : List Nat) : PImage :=
  let lead := bits (iw ws 3) 22 16
  let p : PImage := { id := iw ws 2, outLead := if lead = 0 then 2 else lead, words := iw ws 4 }
  let q := { p with tasks := (List.range (progTasks ws)).map (progTask ws), ranges := (List.range (iw ws 6)).map (progRange ws) }
  let r := { q with areas := (List.range (iw ws 5)).map (progArea ws), vars := (List.range (iw ws 7)).map (progVar ws) }
  { r with stns := (List.range (iw ws 8)).map (progStn ws), inits := (List.range (iw ws 9)).map (progInit ws),
           codeOff := iw ws 16, codeLen := iw ws 17, dataLen := iw ws 18, body := ws }

/-- R346: a type of two words. -/
def twoWords (ty : Nat) : Bool := [0x05, 0x09, 0x0B, 0x0F, 0x10].contains ty

/-- The words of ranges `first` to `first + count - 1`, in order. -/
def PImage.rangeWords (p : PImage) (first count : Nat) : List Nat :=
  (List.range count).flatMap (fun i => match p.ranges[first + i]? with
    | some (f, n) => (List.range n).map (fun k => f + k)
    | none => [])

/-- R345: the input section of a task after the system words, and its output section, as image words. -/
def PImage.inWords (p : PImage) (t : PTask) : List Nat := p.rangeWords t.inFirst t.inCount
def PImage.outWords (p : PImage) (t : PTask) : List Nat := p.rangeWords t.outFirst t.outCount

/-- The area that holds image word `i`, as (OWNER, KIND). -/
def PImage.area (p : PImage) (i : Nat) : Option (Nat × Nat) :=
  (p.areas.find? (fun (f, n, _, _) => decide (f ≤ i) && decide (i < f + n))).map (fun (_, _, o, k) => (o, k))

/-- R345: image word `i` lies in an area of kind `k` that `owner` writes. -/
def PImage.wordIs (p : PImage) (i owner k : Nat) : Bool := p.area i = some (owner, k)

/-- Tables as (offset, length in bytes). -/
def progTables (ws : List Nat) : List (Nat × Nat) :=
  [(0, 96), (iw ws 10, 32 * progTasks ws), (iw ws 11, 12 * iw ws 5), (iw ws 12, 8 * iw ws 6), (iw ws 13, 16 * iw ws 7),
   (iw ws 14, 4 * iw ws 8), (iw ws 15, 8 * iw ws 9), (iw ws 16, iw ws 17)]

/-- Two places do not overlap. -/
def apart (a b : Nat × Nat) : Bool := a.2 = 0 || b.2 = 0 || decide (a.1 + a.2 ≤ b.1) || decide (b.1 + b.2 ≤ a.1)

/-- No two places of a list overlap. -/
def allApart : List (Nat × Nat) → Bool
  | [] => true
  | a :: t => t.all (apart a) && allApart t

/-- R343, R348: counts, tables, reserved fields. -/
def progHeadBad (ws : List Nat) : Bool :=
  let lead := bits (iw ws 3) 22 16
  decide (iw ws 1 % 2 ^ 16 ≠ 0) || decide (iw ws 2 = 0) || decide (100 < lead) || decide (16 < bits (iw ws 3) 7 0) || decide (32 < bits (iw ws 3) 15 8) ||
  outside (iw ws 3) 0x7FFFFF || decide (iw ws 4 < 32) || decide (262144 < iw ws 4) || decide (iw ws 5 < 1) || decide (4096 < iw ws 5) ||
  decide (16384 < iw ws 6) || decide (1048576 < iw ws 7) || decide (4096 < iw ws 8) || decide (262144 < iw ws 9) ||
  decide (iw ws 18 % 4096 ≠ 0) || (List.range 5).any (fun i => decide (iw ws (19 + i) ≠ 0)) ||
  (progTables ws).any (fun (o, n) => decide (o % 8 ≠ 0) || decide (4 * ws.length < o + n)) || !allApart (progTables ws)

/-- R344, R348: an entry of the task table. -/
def taskBad (ws : List Nat) (i : Nat) : Bool :=
  let t := progTask ws i
  let b := iw ws 10 / 4 + 8 * i
  outside (iw ws b) 0x01FF1FFF || (t.event && !(decide (16 ≤ t.num) && decide (t.num ≤ 47))) || (!t.event && decide (15 < t.num)) ||
  decide (t.prio < 2) || decide (t.affinity = 0) || decide (t.period < 1) || decide (50000 < t.period) || decide (t.period ≤ t.phase) ||
  (t.event && decide (t.phase ≠ 0)) || (!t.event && (decide (t.trg2 ≠ 0) || decide (t.trg3 ≠ 0))) || outside t.trg2 0x03FFFFFF ||
  outside t.trg3 0xFFFFFF || decide (iw ws 17 ≤ t.entry) || decide (iw ws 6 < t.inFirst + t.inCount) ||
  decide (iw ws 6 < t.outFirst + t.outCount)

/-- R345-R348: areas cover the words from 32 on exactly once; ranges, owners; reserved bits of every table after the tasks. -/
def placesBad (ws : List Nat) (p : PImage) : Bool :=
  let nums := p.tasks.map PTask.num
  decide (p.areas.foldl (fun n (_, c, _, _) => n + c) 0 ≠ p.words - 32) || !allApart (p.areas.map (fun (f, c, _, _) => (f, c))) ||
  p.areas.any (fun (f, c, o, k) => decide (f < 32) || decide (p.words < f + c) || decide (c = 0) || decide (k = 3) ||
    !(decide (o = 0xFF) || nums.contains o) || (decide (k = 0) && decide (o ≠ 0xFF))) ||
  (List.range (iw ws 5)).any (fun i => let b := iw ws 11 / 4 + 3 * i
    outside (iw ws b) 0x3FFFF || outside (iw ws (b + 1)) 0x7FFFF || outside (iw ws (b + 2)) 0xFF03) ||
  (List.range (iw ws 6)).any (fun i => let b := iw ws 12 / 4 + 2 * i
    outside (iw ws b) 0x3FFFF || outside (iw ws (b + 1)) 0x7FFFF) ||
  (List.range (iw ws 8)).any (fun i => outside (iw ws (iw ws 14 / 4 + i)) 0x1FF007F) ||
  (List.range (iw ws 9)).any (fun i => outside (iw ws (iw ws 15 / 4 + 2 * i)) 0x3FFFF) ||
  (List.range (iw ws 7)).any (fun i => let b := iw ws 13 / 4 + 4 * i
    outside (iw ws (b + 1)) 0x7FFFFF || outside (iw ws (b + 2)) 0x3FF || decide (iw ws (b + 3) ≠ 0)) ||
  p.ranges.any (fun (f, c) => decide (f < 32) || decide (c = 0) || decide (p.words < f + c)) ||
  p.tasks.any (fun t => (p.outWords t).any (fun i => !(p.wordIs i t.num 1 || p.wordIs i t.num 2))) || !noRepeat nums

/-- R346, R348: the variables are in rising order and lie in areas of their kind. -/
def varsBad (p : PImage) : Nat → List PVar → Bool
  | _, [] => false
  | prev, v :: t =>
    let kindAt (i : Nat) : Option Nat := (p.area i).map (fun a => a.2)
    decide (v.id ≤ prev) || decide (v.ty = 0) || decide (0x10 < v.ty) || (decide (v.ty ≠ 1) && decide (v.bit ≠ 0)) ||
      decide (kindAt v.word ≠ some v.kind) || (twoWords v.ty && !p.areas.any (fun (f, c, _, _) => decide (f ≤ v.word) && decide (v.word + 1 < f + c))) || varsBad p v.id t

/-- R330: tasks with periods and phases `a`, `b` can fall due at one release point. -/
def canMeet (a b : PTask) : Bool := a.event || b.event || decide ((a.phase : Int) % Nat.gcd a.period b.period = (b.phase : Int) % Nat.gcd a.period b.period)

/-- R334: the largest sum of sizes of tasks that can fall due together with those chosen. -/
def maxMeet (size : PTask → Nat) : List PTask → List PTask → Nat
  | _, [] => 0
  | chosen, t :: r =>
    let without := maxMeet size chosen r
    if chosen.all (canMeet t) then max without (size t + maxMeet size (t :: chosen) r) else without

/-- R334: a copy takes longer than OUT_LEAD at 4.8 GB/s. -/
def boundsBad (p : PImage) : Bool :=
  let limit := 4800 * p.outLead
  decide (limit < maxMeet (fun t => 4 * (p.outWords t).length) [] p.tasks) ||
  decide (limit < maxMeet (fun t => 48 + 4 * (p.inWords t).length) [] p.tasks)

/-- R348: what is wrong with a body. -/
def progFault (ws : List Nat) : Option Nat :=
  if iw ws 0 ≠ 0x50464731 ∨ iw ws 1 / 2 ^ 16 ≠ 1 then some stVERSION_MISMATCH
  else if progHeadBad ws then some stBAD_PARAM
  else
    let p := parseProg ws
    if (List.range (progTasks ws)).any (taskBad ws) || placesBad ws p || varsBad p 0 p.vars || boundsBad p then some stBAD_PARAM
    else none

/-- R348: a station entry names a segment that this device does not own in the schedule in force. -/
def State.stnsBad (s : State) (p : PImage) : Bool :=
  match s.curSched with
  | none => false
  | some sc => p.stns.any (fun (seg, _) => match sc.seg? seg with
      | some (_, _, _, owner, _, _) => !s.ownNode sc owner
      | none => true)

/-- The variable of an image with identifier `id`. -/
def PImage.var? (p : PImage) (id : Nat) : Option PVar := p.vars.find? (fun v => v.id = id)

/-- R346: the word that a value of type `ty` gives a word that held `old`; BOOL sets its bit alone. -/
def varWord (ty bit old lo : Nat) : Nat :=
  match ty with
  | 0x01 => putBit old bit (lo % 2 = 1)
  | 0x02 => unsgn 32 (sgn 8 lo)
  | 0x03 => unsgn 32 (sgn 16 lo)
  | 0x06 => lo % 2 ^ 8
  | 0x07 => lo % 2 ^ 16
  | 0x0C => lo % 2 ^ 8
  | 0x0D => lo % 2 ^ 16
  | _ => lo

/-- R346: variable `v` takes a value in the process image. -/
def State.putVar (s : State) (v : PVar) (lo hi : Nat) : State :=
  let s1 := s.setImg v.word (varWord v.ty v.bit (s.img v.word) lo)
  if twoWords v.ty then s1.setImg (v.word + 1) hi else s1

/-- R346: the value of variable `v`, as two words. -/
def State.getVar (s : State) (v : PVar) : List Nat :=
  if v.ty = 1 then [b2n (bitOf (s.img v.word) v.bit), 0]
  else [s.img v.word, if twoWords v.ty then s.img (v.word + 1) else 0]

/-- R340: the forces in force on variables of the active image, as (variable, low, high). -/
def State.forceVars (s : State) : List (PVar × Nat × Nat) :=
  match s.prog.active with
  | none => []
  | some p => s.prog.forces.filterMap (fun f => (p.var? f.varId).map (fun v => (v, f.lo, f.hi)))

/-- R340: word `i` of the image as a task reads it: forced bits and words replaced. -/
def State.forcedWord (s : State) (i : Nat) : Nat :=
  s.forceVars.foldl (fun w (v, lo, hi) =>
    if v.word = i then varWord v.ty v.bit w lo else if twoWords v.ty && v.word + 1 = i then hi else w) (s.img i)

/-- R340: forces on variables of the kinds in `ks` are written into the image. -/
def State.applyForces (s : State) (ks : List Nat) : State :=
  s.forceVars.foldl (fun (t : State) (v, lo, hi) => if ks.contains v.kind then t.putVar v lo hi else t) s

end Sys2Proof.Machine
end

