-- ==== Sys2Proof/Machine/Recipe.lean ====
section
/-! DEFINITION. The recipe engine (13_program_and_recipes R354-R360, R363). -/

namespace Sys2Proof.Machine

/-- Recipe states (R363). -/
def rcEMPTY : Nat := 0
def rcREADY : Nat := 1
def rcRUNNING : Nat := 2
def rcPAUSED : Nat := 3
def rcDONE : Nat := 4
def rcABORTED : Nat := 5

/-- Recipe `n`. -/
def State.rcp (s : State) (n : Nat) : Recipe := tabGet {} s.prog.recipes n

/-- The state with recipe `n` set. -/
def State.setRcp (s : State) (n : Nat) (r : Recipe) : State :=
  { s with prog := { s.prog with recipes := tabSet {} s.prog.recipes n r } }

/-- R354: word `j` of step `i`. -/
def Recipe.sw (r : Recipe) (i j : Nat) : Nat := iw r.words (4 + 8 * i + j)

/-- R354: index of the last step, first step of the abort chain. -/
def Recipe.last (r : Recipe) : Nat := bits (iw r.words 0) 11 0
def Recipe.abortStep (r : Recipe) : Nat := bits (iw r.words 2) 15 0

/-- R355: ACTION, END and DUR of step `i`; DUR in nanoseconds. -/
def Recipe.action (r : Recipe) (i : Nat) : Nat := bits (r.sw i 0) 31 28
def Recipe.ends (r : Recipe) (i : Nat) : Bool := bitOf (r.sw i 0) 27
def Recipe.dur (r : Recipe) (i : Nat) : Nat := 1000000 * bits (r.sw i 0) 23 0

/-- R355: the bits of words 1 to 5 that an action names. -/
def actionMasks (a : Nat) : List Nat :=
  match a with
  | 1 => [0x1FF, 0xFFFFFFFF, 0xFFFFFFFF, 0, 0]
  | 2 => [0xC007F, 0xFFFFFFFF, 0xFFFFFFFF, 0xFFFFFFFF, 0]
  | 3 => [1, 0xFFFFFFFF, 0xFFFFFFFF, 0, 0]
  | 4 => [0xFFFFFF, 0xFFFFFFFF, 0xFFFFFFFF, 0, 0]
  | 5 => [0xF0FFFFFF, 0xFFFFFFFF, 7, 0xFFFFFFFF, 0x8FFF]
  | 6 => [0xFFF, 0, 0, 0, 0]
  | _ => [0, 0, 0, 0, 0]

/-- R355, R363: a field of step `i` is out of range or a reserved bit is set. -/
def Recipe.stepBad (r : Recipe) (i : Nat) : Bool :=
  let a := r.action i
  decide (6 < a) || outside (r.sw i 0) 0xF8FFFFFF || r.sw i 6 ≠ 0 || r.sw i 7 ≠ 0 ||
  (List.range 5).any (fun k => outside (r.sw i (k + 1)) (iw (actionMasks a) k)) ||
  (a = 2 && decide (96 ≤ bits (r.sw i 1) 6 0)) || (a = 6 && decide (r.last < bits (r.sw i 1) 11 0)) ||
  (a = 4 && decide (2 ^ 18 ≤ bits (r.sw i 1) 23 0)) ||
  (a = 5 && (decide (4 < r.sw i 3) || (!bitOf (r.sw i 5) 15 && decide (r.last < bits (r.sw i 5) 11 0)) || (match bits (r.sw i 1) 31 28 with
    | 0 => decide (2 ^ 18 ≤ bits (r.sw i 1) 23 0)
    | 1 | 2 => decide (512 ≤ bits (r.sw i 1) 23 0)
    | 3 => decide (96 ≤ bits (r.sw i 1) 23 0)
    | _ => true)))

/-- R354, R363: what the last chunk of a RECIPE_LOAD checks. -/
def Recipe.bad (r : Recipe) : Bool :=
  let w := r.words
  decide (bits (iw w 0) 31 16 ≠ 1) || outside (iw w 0) 0xFFFF0FFF || outside (iw w 2) 0xFFFF || decide (w.length ≠ 4 + 8 * (r.last + 1)) ||
  (decide (r.abortStep ≠ 0xFFFF) && decide (r.last < r.abortStep)) || decide (iw w 3 ≠ crc32cWords (w.take 3 ++ w.drop 4)) ||
  (List.range (r.last + 1)).any r.stepBad

/-- What the engine carries while it applies the actions of one boundary: the state, the targets written by each recipe as
(recipe, kind, place), and the image words written as (word, mask, value). -/
structure RcpRun where
  s : State
  keys : List (Nat × Nat × Nat) := []
  imgs : List (Nat × Nat × Nat) := []
  deriving DecidableEq, Repr

/-- R359: recipe `n` writes target (`kind`, `a`): an earlier action of another recipe there makes both set RCP_CONFLICT; its move on the
same axis leaves the axis's requests. Of moves that are mirrored, the later one replaces the earlier when they take effect (mirRun). -/
def RcpRun.claim (e : RcpRun) (n kind a : Nat) : RcpRun :=
  let same (k : Nat × Nat × Nat) : Bool := decide (k.2.1 = kind) && decide (k.2.2 = a) && decide (k.1 ≠ n)
  let theirs := e.keys.filter same
  let s1 := if theirs.isEmpty then e.s
    else (n :: theirs.map (fun k => k.1)).foldl (fun (t : State) m => t.setRcp m { t.rcp m with conflict := true }) e.s
  let s2 := if kind = 2 && !theirs.isEmpty && !(s1.mirrors && s1.appCycle.isSome) then
      let x := s1.ax a
      s1.setAx a { x with reqs := (x.reqs.reverse.eraseP (fun r => r.recipe)).reverse }
    else s1
  { e with s := s2, keys := (n, kind, a) :: e.keys.filter (fun k => !same k) }

/-- The places of the ones of a mask. -/
def onesOf (mask : Nat) : List Nat := (List.range 32).filter (bitOf mask)

/-- R228, R357: the move words of an AXIS_MOVE step. -/
def stepMove (w : Nat → Nat) : List Nat :=
  [b2n (bitOf (w 1) 18) * 2 + b2n (bitOf (w 1) 19) * 8, w 2, w 3, w 4, 0, 0, 0, 0]

/-- R357: the words of the move of step `i`. -/
def Recipe.moveWords (r : Recipe) (i : Nat) : List Nat := stepMove (r.sw i)

/-- R357: the action of step `i` of recipe `n` cannot be applied; a move is judged behind the requests that wait at its axis. -/
def State.actionFails (s : State) (r : Recipe) (i : Nat) : Bool :=
  let t := r.sw i 1
  match r.action i with
  | 1 => decide (s.get (F.SLOT_CFG0_SP_SRC (bits t 8 0)) ≠ 2)
  | 2 =>
    let n := bits t 6 0
    let s1 := (s.ax n).reqs.foldl (fun (u : State) q => if u.axReqStatus n q = stDONE then u.axApply n q else u) (s.setAx n { s.ax n with reqs := [] })
    decide (s1.axReqStatus n { code := 1, words := r.moveWords i } ≠ stDONE)
  | 3 => (onesOf (r.sw i 3)).any (fun k =>
      let pin := 32 * bits t 0 0 + k
      decide (s.gpioFunc pin ≠ 1) || s.owned (5, pin, 0))
  | 4 => decide (s.areaOf (bits t 23 0) ≠ some (0xFF, 1))
  | _ => false

/-- R357, R359: what the action of step `i` of recipe `n` takes hold of. -/
def RcpRun.claims (e : RcpRun) (n i : Nat) : RcpRun :=
  let r := e.s.rcp n
  let t := r.sw i 1
  match r.action i with
  | 1 => e.claim n 1 (bits t 8 0)
  | 2 => e.claim n 2 (bits t 6 0)
  | 3 => (onesOf (r.sw i 3)).foldl (fun (x : RcpRun) k => x.claim n 3 (32 * bits t 0 0 + k)) e
  | 4 => (onesOf (r.sw i 3)).foldl (fun (x : RcpRun) k => x.claim n 4 (32 * bits t 23 0 + k)) e
  | _ => e

/-- R357: set-point and ramp, move, or levels of the step with words `w`. -/
def State.stepEffect (s : State) (w : Nat → Nat) : State :=
  let t := w 1
  match bits (w 0) 31 28 with
  | 1 => (s.put (F.SLOT_SP_REG (bits t 8 0)) (w 2)).put (F.SLOT_RAMP_RATE (bits t 8 0)) (w 3)
  | 2 => s.axEnqueue (bits t 6 0) { code := 1, words := stepMove w, tick := -801, recipe := true }
  | 3 => s.gpioLevels (bits t 0 0) (w 3) (w 2)
  | _ => s

/-- R430, R431: the packet that stands for a recipe action in the mirror stream: opcode 0; recipe, step, S, the clock, and
the words of the step. -/
def Recipe.mirPkt (r : Recipe) (n i : Nat) : Pkt :=
  let tau := unsgn 64 r.tau
  { queue := 5, mir := true, params := ([n, i, r.sync, r.sync / 2 ^ 32, tau, tau / 2 ^ 32] ++ (List.range 8).map (r.sw i)).map Word.of }

/-- R357, R431: the action of step `i` of recipe `n` is applied; an ACTIVE with a partner mirrors it and applies it at its
application cycle. -/
def RcpRun.apply (e : RcpRun) (n i : Nat) : RcpRun :=
  let e1 := e.claims n i
  let r := e1.s.rcp n
  let e2 := if r.action i = 4 then { e1 with imgs := e1.imgs ++ [(bits (r.sw i 1) 23 0, r.sw i 3, r.sw i 2)] } else e1
  match (if e2.s.mirrors then e2.s.appCycle else none) with
  | some c => { e2 with s := e2.s.mirrorCmd (r.mirPkt n i) c }
  | none => { e2 with s := e2.s.stepEffect (r.sw i) }

/-- The recipe of a run set. -/
def RcpRun.setR (e : RcpRun) (n : Nat) (r : Recipe) : RcpRun := { e with s := e.s.setRcp n r }

/-- The recipe that has gone past step `i` with its clock at `tau` ms after `sync`: the next step, or DONE after END or the
last step (R355, R360). -/
def Recipe.next (r : Recipe) (sync : Nat) (tau : Int) : Recipe :=
  let r1 : Recipe := { r with wait := none, met := false, applied := false, sync := sync, tau := tau }
  if r.ends r.step || decide (r.last ≤ r.step) then { r1 with st := rcDONE } else { r1 with step := r.step + 1 }

/-- R358: the wait of a recipe at boundary `b`: the condition wins over the time-out; none while it goes on. -/
def Recipe.waitEnd (r : Recipe) (b : Nat) : Option Recipe :=
  match r.wait with
  | none => none
  | some w =>
    if r.met then some (r.next b 0)
    else if r.dur r.step = 0 ∨ b < w + r.dur r.step then none
    else
      let r1 : Recipe := { r with wait := none, met := false }
      if bitOf (r.sw r.step 5) 15 then some { r1 with reqs := r1.reqs ++ [{ code := 6 }] }
      else some { r1 with applied := false, sync := b, tau := 0, step := bits (r.sw r.step 5) 11 0 }

/-- R360: an abort of a recipe waits for the next boundary. -/
def Recipe.aborting (r : Recipe) : Bool := r.reqs.any (fun q => decide (4 ≤ q.code))

/-- R356, R357: recipe `n` walks through the steps that fall at boundary `b`; the number is how many more steps may be
applied there. -/
def RcpRun.walk (n b : Nat) : Nat → Nat → RcpRun → RcpRun
  | 0, _, e => e
  | fuel + 1, left, e =>
    let r := e.s.rcp n
    if r.st ≠ rcRUNNING || r.aborting then e
    else if !r.applied then
      if left = 0 then e.setR n { r with split := min (r.split + 1) (2 ^ 32 - 1) }
      else if e.s.actionFails r r.step then e.setR n { r with reqs := r.reqs ++ [{ code := 5 }] }
      else
        let e1 := e.apply n r.step
        let r1 := e1.s.rcp n
        if r.action r.step = 5 then e1.setR n { r1 with applied := true, wait := some b }
        else if r.action r.step = 6 && !r.ends r.step then
          RcpRun.walk n b fuel (left - 1) (e1.setR n { r1 with step := bits (r.sw r.step 1) 11 0 })
        else RcpRun.walk n b fuel (left - 1) (e1.setR n { r1 with applied := true })
    else if r.wait.isSome then e
    else
      let tau := r.tau + r.dur r.step
      if (b : Int) < r.sync + tau then e else RcpRun.walk n b fuel left (e.setR n (r.next r.sync tau))

/-- R360: the abort chain of recipe `n` from step `i`: WAIT skipped, GOTO followed, to END or 64 steps; an action that
cannot be applied is passed over. -/
def RcpRun.chain (n : Nat) : Nat → Nat → RcpRun → RcpRun
  | 0, _, e => e
  | fuel + 1, i, e =>
    let r := e.s.rcp n
    if r.last < i then e
    else
      let e1 := if e.s.actionFails r i then e else e.apply n i
      if r.ends i then e1
      else RcpRun.chain n fuel (if r.action i = 6 then bits (r.sw i 1) 11 0 else i + 1) e1

/-- R360: recipe `n` is aborted with `cause`: the record, and the abort chain where steps are applied. -/
def RcpRun.abort (e : RcpRun) (n cause : Nat) (steps : Bool) : RcpRun :=
  let r := e.s.rcp n
  let s1 := e.s.setRcp n { r with st := rcABORTED, cause := cause, wait := none, met := false, applied := false }
  let s2 := s1.post 0x2015 n (cause + r.step * 2 ^ 16) 0
  if r.abortStep = 0xFFFF || !steps then { e with s := s2 } else RcpRun.chain n 64 r.abortStep { e with s := s2 }

/-- R75: the answer, at boundary `b`, to a request whose packet may be absent. -/
def RcpRun.answer (e : RcpRun) (b : Nat) (p : Option Pkt) (st : Nat) : RcpRun :=
  match p with
  | some q => { e with s := e.s.doneAt q st b }
  | none => e

/-- R356, R360: a request to recipe `n` acts at boundary `b`; the abort chain is walked where `steps` tells that steps are applied. -/
def RcpRun.request (n b : Nat) (steps : Bool) (e : RcpRun) (q : RcpReq) : RcpRun :=
  let r := e.s.rcp n
  match q.code with
  | 1 =>
    if r.st = rcREADY || r.st = rcDONE || r.st = rcABORTED then
      let r1 : Recipe := { r with st := rcRUNNING, cause := 0, step := q.step, sync := b, tau := 0 }
      (e.setR n { r1 with applied := false, wait := none, met := false, conflict := false }).answer b q.pkt stDONE
    else e.answer b q.pkt stNOT_PERMITTED
  | 2 =>
    if r.st = rcRUNNING then (e.setR n { r with st := rcPAUSED, pausedAt := b, met := false }).answer b q.pkt stDONE
    else e.answer b q.pkt stNOT_PERMITTED
  | 3 =>
    if r.st = rcPAUSED then
      let gone : Int := (r.pausedAt : Int) - r.sync
      (e.setR n { r with st := rcRUNNING, sync := b, tau := r.tau - gone, wait := r.wait.map (fun w => w + (b - r.pausedAt)) }).answer
        b q.pkt stDONE
    else e.answer b q.pkt stNOT_PERMITTED
  | _ =>
    if r.st = rcRUNNING || r.st = rcPAUSED then (e.abort n (q.code - 3) steps).answer b q.pkt stDONE
    else e.answer b q.pkt stNOT_PERMITTED

/-- R356, R360: the requests to recipe `n` act at boundary `b`. -/
def RcpRun.requests (b : Nat) (steps : Bool) (e : RcpRun) (n : Nat) : RcpRun :=
  (e.s.rcp n).reqs.foldl (RcpRun.request n b steps) (e.setR n { e.s.rcp n with reqs := [] })

/-- R356-R360: recipe `n` at boundary `b`; R356: when its actions are not ready they stand over to the following boundary,
and its clock does not shift. -/
def RcpRun.boundary (b : Nat) (late : List Nat) (e : RcpRun) (n : Nat) : RcpRun :=
  let e1 := e.requests b true n
  let r := e1.s.rcp n
  if r.st ≠ rcRUNNING then e1
  else
    let e2 := match r.waitEnd b with
      | some r1 => e1.setR n r1
      | none => e1
    if late.contains n then
      let r2 := e2.s.rcp n
      e2.setR n { r2 with late := min (r2.late + 1) (2 ^ 32 - 1) }
    else RcpRun.walk n b 200 64 e2

/-- R359: the recipes at boundary `b`, in ascending number; R1, R360: a device of a pair that is not the ACTIVE follows their requests and
applies no step. -/
def State.recipesAt (s : State) (b : Nat) (late : List Nat) : RcpRun :=
  let f : RcpRun → Nat → RcpRun := if s.runsProg then RcpRun.boundary b late else RcpRun.requests b false
  (s.prog.recipes.map (fun x => x.1)).foldl f { s := s }

/-- R356: device time of the next boundary: the next start of a ring cycle, or the next release point while the ring does not run. -/
def State.boundaryTime (s : State) : Nat :=
  if !s.ringRuns then 20000 * s.gridNext 20000 s.time.relGrid
  else if s.ring.newMaster then s.now
  else s.get64 F.RING_CYC_START_LO + s.get F.RING_CYCLE_NS

/-- R357: the bits that IMAGE actions have written go into the process image. -/
def State.putMasked (s : State) (l : List (Nat × Nat × Nat)) : State :=
  l.foldl (fun (t : State) (w, mask, v) => t.setImg w (Nat.lor (Nat.land (t.img w) (0xFFFFFFFF - mask)) (Nat.land v mask))) s

/-- R356-R360: the actions that fall at a boundary are applied. An IMAGE action that no transfer point foresaw (a START since, a cycle shorter
than OUT_LEAD) is written now, so that it leaves in a later frame (log entry 150). -/
def execRecipeBoundary (late : List Nat) (s : State) : Out := s.awake (
  let b := s.boundaryTime
  let e := (s.advanceTo b).recipesAt b late
  .next (e.s.putMasked e.imgs))

/-- R357: IMAGE actions of boundary `b` are written at its transfer point. -/
def State.recipeImages (s : State) (b : Nat) (late : List Nat) : State := s.putMasked ((s.advanceTo b).recipesAt b late).imgs

/-- R358: the condition of step `i` holds. -/
def State.waitHolds (s : State) (r : Recipe) (i : Nat) : Bool :=
  let t := r.sw i 1
  let k := bits t 23 0
  let x := match bits t 31 28 with
    | 0 => s.img k
    | 1 => s.get (F.SLOT_E_CUR (k % 512))
    | 2 => s.slotSt (k % 512)
    | _ => s.axSt (k % 128)
  let v := r.sw i 2
  let m := r.sw i 4
  match bits (r.sw i 3) 2 0 with
  | 0 => Nat.land x m = Nat.land v m
  | 1 => Nat.land x m ≠ Nat.land v m
  | 2 => sgn 32 v ≤ sgn 32 x
  | 3 => sgn 32 x ≤ sgn 32 v
  | _ => (sgn 32 x - sgn 32 v).natAbs ≤ m

/-- R358: at a release point every WAIT evaluates its condition. -/
def State.waitsAt (s : State) : State :=
  s.prog.recipes.foldl (fun (t : State) (n, r) =>
    if r.st = rcRUNNING && r.wait.isSome then t.setRcp n { t.rcp n with met := t.waitHolds r r.step } else t) s

/-- R363: the recipe that a packet names, and the bits of word 0 that it uses beside. -/
def rcpNo (p : Pkt) : Nat := bits (p.w 0) 5 0

/-- R363: a command on a recipe: reserved bits, then the state. -/
def State.rcpCommand (s : State) (p : Pkt) (op : Nat) (bad : Bool) (states : List Nat) (effect : State → State) : State :=
  s.command p op [(outside (p.w 0) 0x3F || bad, stBAD_PARAM), (!states.contains (s.rcp (rcpNo p)).st, stNOT_PERMITTED)] effect

/-- R363: a request to a recipe waits for the next boundary. -/
def State.rcpRequest (s : State) (p : Pkt) (q : RcpReq) : State :=
  let r := s.rcp (rcpNo p)
  s.setRcp (rcpNo p) { r with reqs := r.reqs ++ [{ q with pkt := some p }] }

/-- R363: RECIPE_LOAD. -/
def execRecipeLoad (p : Pkt) (s : State) : Out :=
  let n := rcpNo p
  let r := s.rcp n
  let off := p.w 1
  let data := (p.params.drop 2).map (fun w => w.toNat)
  .next (s.command p opRecipeLoad
    [(outside (p.w 0) 0x8000003F || !(off = 0 || off = 4 * r.chunk.length) ||
        decide (16 + 32 * 4096 < off + 4 * data.length), stBAD_PARAM),
     (r.st = rcRUNNING || r.st = rcPAUSED, stNOT_PERMITTED)]
    (fun t =>
      let ws := if off = 0 then data else r.chunk ++ data
      if !bitOf (p.w 0) 31 then (t.setRcp n { r with chunk := ws }).done p stDONE
      else
        let new : Recipe := { st := rcREADY, words := ws, reqs := r.reqs }
        if new.bad then t.done p stBAD_PARAM else (t.setRcp n new).done p stDONE))

/-- R363: RECIPE_START. -/
def execRecipeStart (p : Pkt) (s : State) : Out :=
  let k := p.w 1
  .next (s.rcpCommand p opRecipeStart (outside k 0xFFF || decide ((s.rcp (rcpNo p)).last < k)) [rcREADY, rcDONE, rcABORTED]
    (fun t => t.rcpRequest p { code := 1, step := k }))

/-- R363: RECIPE_PAUSE. -/
def execRecipePause (p : Pkt) (s : State) : Out :=
  .next (s.rcpCommand p opRecipePause false [rcRUNNING] (fun t => t.rcpRequest p { code := 2 }))

/-- R363: RECIPE_RESUME. -/
def execRecipeResume (p : Pkt) (s : State) : Out :=
  .next (s.rcpCommand p opRecipeResume false [rcPAUSED] (fun t => t.rcpRequest p { code := 3 }))

/-- R363: RECIPE_ABORT. -/
def execRecipeAbort (p : Pkt) (s : State) : Out :=
  .next (s.rcpCommand p opRecipeAbort false [rcRUNNING, rcPAUSED] (fun t => t.rcpRequest p { code := 4 }))

/-- R363: the result of RECIPE_STATUS; the times of a paused recipe are those of its pause. -/
def State.rcpStatus (s : State) (r : Recipe) : List Nat :=
  let t := if r.st = rcPAUSED then r.pausedAt else s.now
  let live := r.st = rcRUNNING ∨ r.st = rcPAUSED
  let w := match r.wait with
    | some w => (t - w) / 1000000 % 2 ^ 32
    | none => 0
  [r.st + r.cause * 2 ^ 8, iw r.words 1, r.step, if live then (t - r.sync) / 1000000 % 2 ^ 32 else 0, w, r.late, r.split,
   b2n r.conflict]

/-- R363: RECIPE_STATUS. -/
def execRecipeStatus (p : Pkt) (s : State) : Out :=
  .next (s.command p opRecipeStatus [(outside (p.w 0) 0x3F, stBAD_PARAM)] (fun t => t.doneRes p (t.rcpStatus (t.rcp (rcpNo p)))))

/-- R363: RECIPE_DELETE; a request that still waits is answered NOT_PERMITTED. -/
def execRecipeDelete (p : Pkt) (s : State) : Out :=
  let r := s.rcp (rcpNo p)
  .next (s.command p opRecipeDelete [(outside (p.w 0) 0x3F, stBAD_PARAM), (r.st = rcRUNNING || r.st = rcPAUSED, stNOT_PERMITTED)]
    (fun t => (r.reqs.foldl (fun (u : State) q => u.doneOpt q.pkt stNOT_PERMITTED) (t.setRcp (rcpNo p) {})).done p stDONE))

end Sys2Proof.Machine
end

