-- ==== Sys2Proof/Machine/Delta.lean ====
section
/-! DEFINITION. Program state in the mirror stream: deltas sent and applied (17_lashing_and_splice R432, R441, R443). -/

namespace Sys2Proof.Machine

/-- R432: a recipe takes the state that a delta gives it. -/
def Recipe.ofDelta (r : Recipe) (d : RcpDelta) : Recipe :=
  { r with st := d.st, cause := d.cause, step := d.step, sync := d.sync, tau := d.tau, applied := d.applied,
           wait := d.wait, pausedAt := d.pausedAt, late := d.late, split := d.split }

/-- R432: the state of a recipe that a delta tells. -/
def Recipe.toDelta (r : Recipe) : RcpDelta :=
  { st := r.st, cause := r.cause, step := r.step, sync := r.sync, tau := r.tau, applied := r.applied,
    wait := r.wait, pausedAt := r.pausedAt, late := r.late, split := r.split }

/-- R441: a commit that waits for its transfer point, as the device that follows keeps it: `c` is the cycle that its period ends with. -/
def State.waitDue (s : State) (c : Nat) : Nat :=
  let k := s.get F.RING_CYCLE_NUM
  if cycleDue k c then s.prog.points else s.prog.points + (c + 2 ^ 32 - k) % 2 ^ 32

/-- R432: the bank status that a delta tells; a change that waits here goes on waiting. -/
def State.deltaSt (s : State) (st : Nat) : Nat := if s.prog.change.isSome then s.prog.st else if st = 3 then 2 else st

/-- R432, R441: a delta is applied: image words, n, the bank status, forces, recipes, the commits that wait. -/
def State.applyDelta (s : State) (d : ProgDelta) : State :=
  let s1 := d.words.foldl (fun (t : State) e => t.setImg e.1 e.2.toNat) s
  let p := s1.prog
  let p1 := { p with n := d.n, st := s.deltaSt d.st, forces := d.forces.map (fun (i, ty, lo, hi) => { varId := i, ty := ty, lo := lo, hi := hi }) }
  let p2 := { p1 with kept := d.waits.map (fun (c, m, ws) =>
    { due := s.waitDue c, outs := some (ws.map (fun e => (e.1, e.2.toNat))), rearm := m }) }
  d.recipes.foldl (fun (t : State) e => t.setRcp e.1 ((t.rcp e.1).ofDelta e.2)) { s1 with prog := p2 }

/-- R440: deltas are held until the image of static state has been loaded. -/
def State.deltaReady (s : State) : Bool := s.lashSt = lsSTANDBY || (s.lashSt = lsSYNCING && s.lash.loaded)

/-- R432, R443: the whole deltas held are applied at a release point, only while PROG_MATCH is set. -/
def State.deltasAt (s : State) : State :=
  if s.lash.delta.isEmpty || !s.deltaReady then s
  else
    let s1 := s.lashI (fun v => { v with delta := [] })
    if s.on F.LASH_PROG_MATCH then s.lash.delta.foldl State.applyDelta s1 else s1

/-- R441: the commits of this device that wait for their transfer point. -/
def State.waitCommits (s : State) : List (Nat × Nat × List (Nat × Word)) :=
  (s.prog.tasks.flatMap (fun e => e.2.periods) ++ s.prog.kept).filterMap (fun d => d.outs.map (fun ws =>
    ((s.get F.RING_CYCLE_NUM + d.due - s.ownPoint) % 2 ^ 32, d.rearm, ws.map (fun e => (e.1, Word.of e.2)))))

/-- R432: what a delta holds: n and the bank status, the changed pages, the forces, the recipe engine's state, the commits that wait. -/
def State.progDelta (s : State) : ProgDelta :=
  { n := s.prog.n, st := s.prog.st, forces := s.prog.forces.map (fun f => (f.varId, f.ty, f.lo, f.hi)),
    recipes := s.prog.recipes.map (fun e => (e.1, e.2.toDelta)), waits := s.waitCommits
    words := s.prog.dirty.flatMap (fun p => (List.range 1024).map (fun i => (1024 * p + i, Word.of (s.img (1024 * p + i))))) }

/-- R424, R432: a delta cut into what its frames hold. -/
def deltaCut (d : ProgDelta) : List ProgDelta :=
  let h : ProgDelta := { n := d.n, st := d.st }
  let ps := (cutList 500 d.words).map (fun l => { h with words := l }) ++ (cutList 250 d.forces).map (fun l => { h with forces := l }) ++
    (cutList 50 d.recipes).map (fun l => { h with recipes := l }) ++ d.waits.flatMap (fun (c, m, ws) =>
      if ws.isEmpty then [{ h with waits := [(c, m, [])] }] else (cutList 490 ws).map (fun l => { h with waits := [(c, m, l)] }))
  if ps.isEmpty then [h] else ps

/-- R432: the delta whose frames have all arrived. -/
def deltaWhole (ps : List ProgDelta) : ProgDelta :=
  let l := ps.getLast?.getD {}
  { n := l.n, st := l.st, words := ps.flatMap (fun d => d.words), forces := ps.flatMap (fun d => d.forces),
    recipes := ps.flatMap (fun d => d.recipes), waits := ps.flatMap (fun d => d.waits) }

/-- R432: a recipe's state as words of a DELTA frame. -/
def rcpWords (n : Nat) (r : RcpDelta) : List Nat :=
  [n, r.st, r.cause, r.step] ++ w64 r.sync ++ w64 (unsgn 64 r.tau) ++ [b2n r.applied + 2 * b2n r.wait.isSome] ++ w64 (r.wait.getD 0) ++
  w64 r.pausedAt ++ [r.late, r.split]

/-- R424, R432: the content of a DELTA frame, the last one of its delta or not. Its layout is the model's (log entry 71). -/
def deltaWords (d : ProgDelta) (last : Bool) : List Nat :=
  [b2n last + 2 * b2n d.n.isSome + 4 * d.st, d.words.length, d.forces.length, d.recipes.length, d.waits.length] ++ w64 (d.n.getD 0) ++
  d.words.flatMap (fun e => [e.1, e.2.toNat]) ++ d.forces.flatMap (fun (i, ty, lo, hi) => [i, ty, lo, hi]) ++
  d.recipes.flatMap (fun e => rcpWords e.1 e.2) ++
  d.waits.flatMap (fun (c, m, ws) => [c, m % 2 ^ 32, m / 2 ^ 32 % 2 ^ 32, m / 2 ^ 64 % 2 ^ 32, m / 2 ^ 96 % 2 ^ 32, ws.length] ++
    ws.flatMap (fun e => [e.1, e.2.toNat]))

/-- R432: a delta leaves in its frames. -/
def State.deltaOut (s : State) : State :=
  let ps := deltaCut s.progDelta
  let s1 := (List.range ps.length).foldl (fun (t : State) i =>
    t.mirrorSend 0x13 (deltaWords (ps.getD i {}) (decide (i + 1 = ps.length)))) s
  { s1 with prog := { s1.prog with dirty := [] } }

/-- R432: the ACTIVE with a partner that follows it sends a delta at the first release point of each millisecond. -/
def State.deltaSend (s : State) : State :=
  let ms := s.now / 1000000
  if s.mirrors && decide (s.lash.deltaMs ≠ ms) then s.deltaOut.lashI (fun v => { v with deltaMs := ms })
  else s

/-- R441: device time in cycles: the first ring cycle that starts at least `k` cycles later. -/
def State.cyclesOn (s : State) (k : Nat) : Nat :=
  let ns := max 1 (s.get F.RING_CYCLE_NS)
  (s.get F.RING_CYCLE_NUM + (s.now + k * ns - s.get64 F.RING_CYC_START_LO + ns - 1) / ns) % 2 ^ 32

/-- R441: LASH_SWITCH reaches a release point at which every task is idle (`idle`): the final delta, the switch cycle. -/
def State.switchAt (s : State) (idle : Bool) : State :=
  if s.lashSt = lsACTIVE && !s.lash.switchPkt.isEmpty && s.lash.switchCyc.isNone && idle then
    let s1 := s.deltaOut.lashI (fun v => { v with switchCyc := some (s.cyclesOn 3) })
    s1.controlSend s1.ownControl
  else s

end Sys2Proof.Machine
end

