-- ==== Sys2Proof/Machine/Prog.lean ====
section
/-! DEFINITION. Program tasks: release points, commits, transfer points, on-line change, forces, the program commands
(13_program_and_recipes R329-R353, R361, R362). -/

namespace Sys2Proof.Machine

/-- R362: program states. -/
def pgEMPTY : Nat := 0
def pgSTOPPED : Nat := 1
def pgRUNNING : Nat := 2
def pgCHANGING : Nat := 3

/-- The state with the program unit changed. -/
def State.progI (s : State) (f : ProgInt → ProgInt) : State := { s with prog := f s.prog }

/-- Task `t` of the running program. -/
def State.pt (s : State) (t : Nat) : PTaskInt := tabGet {} s.prog.tasks t

/-- The state with task `t` set. -/
def State.setPt (s : State) (t : Nat) (v : PTaskInt) : State := s.progI (fun p => { p with tasks := tabSet {} p.tasks t v })

/-- R339: the station rules of node `n`. -/
def State.stn (s : State) (n : Nat) : StnInt := tabGet {} s.prog.stns n

/-- The state with the station rules of node `n` set. -/
def State.setStn (s : State) (n : Nat) (v : StnInt) : State := s.progI (fun p => { p with stns := tabSet {} p.stns n v })

/-- The nodes that a program's station table names. -/
def PImage.nodes (p : PImage) : List Nat := (List.range 128).filter (fun n => p.stns.any (fun e => e.2 = n))

/-- Task `t` of an image. -/
def PImage.task? (p : PImage) (t : Nat) : Option PTask := p.tasks.find? (fun e => e.num = t)

/-- The tasks of the active program image. -/
def State.progTaskList (s : State) : List PTask :=
  match s.prog.active with
  | some p => p.tasks
  | none => []

/-- R350: a task is idle: it is not executing, and has committed or overrun for every release. -/
def PTaskInt.idle (t : PTaskInt) : Bool := !t.executing && t.periods.all (fun p => p.outs.isSome)

/-- R350: every task of the active program is idle. -/
def State.allIdle (s : State) : Bool := s.prog.tasks.all (fun e => e.2.idle)

/-- R341: forces that PROG_FORCE commands still to act will put in force, as (variable, type). -/
def State.comingForces (s : State) : List (Nat × Nat) :=
  s.prog.atRelease.flatMap (fun p => if p.opcode = opProgForce
    then (List.range (bits (p.w 0) 6 0)).map (fun i => (p.w (1 + 4 * i), p.w (2 + 4 * i))) else [])

/-- R341: the record of a force event; a release names its cause: 0 command, 1 on-line change, 2 program stop. -/
def State.forceRec (s : State) (kind cause : Nat) (f : Force) : State := s.post 0x2010 (kind + 4 * cause) f.varId f.lo

/-- R341: a force comes into effect, or its value changes. -/
def State.setForce (s : State) (f : Force) : State :=
  let old := s.prog.forces.any (fun g => g.varId = f.varId)
  let rest := s.prog.forces.filter (fun g => g.varId ≠ f.varId)
  (s.progI (fun p => { p with forces := rest ++ [f] })).forceRec (b2n old) 0 f

/-- R341: the forces that `sel` names are released. -/
def State.dropForces (s : State) (cause : Nat) (sel : Force → Bool) : State :=
  let gone := s.prog.forces.filter sel
  gone.foldl (fun (t : State) f => t.forceRec 2 cause f) (s.progI (fun p => { p with forces := p.forces.filter (fun f => !sel f) }))

/-- R361: a PROG_FORCE, PROG_RELEASE, PROG_WRITE_VAR or PROG_READ_VAR acts at a release point. -/
def State.atReleaseOne (s : State) (p : Pkt) : State :=
  let n := bits (p.w 0) 6 0
  let var (id : Nat) : Option PVar := match s.prog.active with
    | some im => im.var? id
    | none => none
  if p.opcode = opProgForce then
    ((List.range n).foldl (fun (t : State) i =>
      t.setForce { varId := p.w (1 + 4 * i), ty := p.w (2 + 4 * i), lo := p.w (3 + 4 * i), hi := p.w (4 + 4 * i) }) s).done p stDONE
  else if p.opcode = opProgRelease then
    (s.dropForces 0 (fun f => bitOf (p.w 0) 31 || (List.range n).any (fun i => p.w (1 + i) = f.varId))).done p stDONE
  else if p.opcode = opProgWriteVar then
    ((List.range n).foldl (fun (t : State) i => match var (p.w (1 + 3 * i)) with
      | some v => t.putVar v (p.w (2 + 3 * i)) (p.w (3 + 3 * i))
      | none => t) s).done p stDONE
  else s.doneRes p ((List.range n).flatMap (fun i => match var (p.w (1 + i)) with
      | some v => s.getVar v
      | none => [0, 0]))

/-- R361: the commands that wait for a release point, in their order. -/
def State.atReleaseAll (s : State) : State :=
  let l := s.prog.atRelease
  (l.foldl State.atReleaseOne (s.progI (fun p => { p with atRelease := [] }))).refreshForceInd

/-- R352: a variable, given by identifier and type, is affected by a change from `a` to `b`. -/
def affected (a b : PImage) (id : Nat) : Bool :=
  match a.var? id, b.var? id with
  | some x, some y => decide (x.word ≠ y.word) || decide (x.bit ≠ y.bit) || decide (x.ty ≠ y.ty)
  | _, _ => true

/-- R347: the initial value of image word `i`. -/
def PImage.init (p : PImage) (i : Nat) : Nat :=
  match p.inits.find? (fun e => e.1 = i) with
  | some (_, v) => v
  | none => 0

/-- R347: every named word, wherever it lies, and every other output and internal word, for which `keep` does not hold takes its initial
value. -/
def State.initWords (s : State) (p : PImage) (keep : Nat → Bool) : State :=
  let set (t : State) (i : Nat) : State := if keep i then t else t.setImg i (p.init i)
  let s1 := (p.areas.filter (fun (_, _, _, k) => decide (k ≠ 0))).foldl (fun (t : State) (f, c, _, _) =>
    (List.range c).foldl (fun (u : State) i => set u (f + i)) t) s
  p.inits.foldl (fun (t : State) e => set t e.1) s1

/-- R351: the words or the bit of variable `v` as image `old` held them. -/
def State.keepVar (old : State) (t : State) (v : PVar) : State :=
  if v.ty = 1 then t.setImg v.word (putBit (t.img v.word) v.bit (bitOf (old.img v.word) v.bit))
  else
    let t1 := t.setImg v.word (old.img v.word)
    if twoWords v.ty then t1.setImg (v.word + 1) (old.img (v.word + 1)) else t1

/-- R351: the image at a change from `a` to `b`: variables of the same identifier, address and type keep their values;
output words of a task that is gone keep theirs. -/
def State.changeWords (s : State) (a b : PImage) : State :=
  let gone (i : Nat) : Bool := match a.area i with
    | some (o, 1) => decide (o ≠ 0xFF) && !b.tasks.any (fun t => t.num = o)
    | _ => false
  (b.vars.filter (fun v => !affected a b v.id)).foldl s.keepVar (s.initWords b gone)

/-- R339: of the stations `ns`, those that are present are armed. -/
def State.armPresent (s : State) (ns : List Nat) : State :=
  ns.foldl (fun (t : State) n => if t.nodePresent n then t.setStn n { t.stn n with armed := true } else t) s

/-- R352: the forces of a PROG_FORCE that still waits for its release point, without those that a change from `a` to `b` affects. -/
def forceLess (a b : PImage) (p : Pkt) : Pkt :=
  let ks := (List.range (bits (p.w 0) 6 0)).filter (fun i => !affected a b (p.w (1 + 4 * i)))
  { p with params := Word.of ks.length :: ks.flatMap (fun i => (List.range 4).map (fun j => Word.of (p.w (1 + 4 * i + j)))) }

/-- R352: forces accepted and still to act that the change affects are released, each with its record. -/
def State.dropComing (s : State) (a b : PImage) : State :=
  let fs := s.prog.atRelease.filter (fun p => p.opcode = opProgForce)
  let gone := fs.flatMap (fun p => ((List.range (bits (p.w 0) 6 0)).filter (fun i => affected a b (p.w (1 + 4 * i)))).map (fun i =>
    { varId := p.w (1 + 4 * i), ty := p.w (2 + 4 * i), lo := p.w (3 + 4 * i), hi := p.w (4 + 4 * i) }))
  gone.foldl (fun (t : State) f => t.forceRec 2 1 f)
    (s.progI (fun q => { q with atRelease := q.atRelease.map (fun p => if p.opcode = opProgForce then forceLess a b p else p) }))

/-- R350, R353: the spare bank becomes active, the old bank the spare; outputs committed for transfer points to come are
kept; affected forces are released. -/
def State.swapBanks (s : State) : State :=
  match s.prog.spare with
  | none => s
  | some b =>
    let a : PImage := s.prog.active.getD {}
    let outs := s.prog.tasks.flatMap (fun e => e.2.periods.filter (fun p => p.outs.isSome))
    let s1 := (s.progI (fun p => { p with kept := p.kept ++ outs, tasks := [] })).dropForces 1 (fun f => affected a b f.varId)
    let s2 := ((s1.dropComing a b).changeWords a b).progI (fun p => { p with active := some b, spare := s.prog.active })
    (s2.refreshForceInd.logEntry b.meas).post 0x2014 0 b.id a.id

/-- R350: MAX_WAIT has passed: the pending change is abandoned. -/
def State.changeOver (s : State) : State :=
  match s.prog.change with
  | none => s
  | some (p, _, _) => (s.progI (fun q => { q with change := none, st := pgRUNNING })).done p stTIMEOUT

/-- R350: at a release point a pending change comes nearer; at the second and later, once every task is idle, it is
made. -/
def State.changeAt (s : State) : State :=
  match s.prog.change with
  | none => s
  | some (p, rel, left) =>
    let l := left - 1
    if s.prog.changeBy < s.now then s.changeOver
    else if l = 0 && s.allIdle then
      ((s.progI (fun q => { q with change := none, st := pgRUNNING })).swapBanks).done p stDONE
    else s.progI (fun q => { q with change := some (p, rel, l) })

/-- R330, R353: the count of release points; the first one since PROG_RUN answers it. -/
def State.countAt (s : State) : State :=
  if s.progRuns then
    let s1 := s.progI (fun p => { p with n := some (match p.n with | some n => (n + 1) % 2 ^ 64 | none => 0), runPkt := none })
    s1.doneOpt s.prog.runPkt stDONE
  else s

/-- R502: the key maps write the pressed states. -/
def State.keyMaps (s : State) : State :=
  (List.range 24).foldl (fun (t : State) n =>
    if t.on (F.TK_MAP_EN n) then
      let i := t.get (F.TK_INDEX n)
      if t.areaOf i = some (0xFF, 2) then t.setImg i (putBit (t.img i) (t.get (F.TK_BIT n)) (bitOf (t.get F.OPIO_PRESSED) n))
      else t.raise bOPIO 11
    else t) s

/-- Bits of a predicate on nodes, as four words. -/
def nodeWords (f : Nat → Bool) : List Nat :=
  (List.range 4).map (fun w => (List.range 32).foldl (fun v i => putBit v i (f (32 * w + i))) 0)

/-- R337: the system input words of a task whose overrun bit and merged triggers are given. -/
def State.sysWords (s : State) (ovr : Bool) (t2 t3 : Nat) : List Nat :=
  [s.get F.RING_CYCLE_NUM,
   s.prog.n.getD 0 % 2 ^ 16 * 2 ^ 16 + b2n (!s.prog.forces.isEmpty) * 4 + b2n ovr * 2 + b2n s.ringRuns, t2, t3] ++
  nodeWords s.nodePresent ++ nodeWords (fun n => (s.stn n).armed)

/-- R337: the dispatcher writes the system input words. -/
def State.writeSys (s : State) : State :=
  let w := s.sysWords false 0 0
  (List.range 12).foldl (fun (t : State) i => t.setImg i (iw w i)) s

/-- R330: the presence of nodes as one number, and the trigger of a change in it. -/
def State.presTrigger (s : State) : State :=
  let now := (nodeWords s.nodePresent).foldr (fun w a => w + 2 ^ 32 * a) 0
  s.progI (fun p => { p with present := now, ev2 := if now = p.present then p.ev2 else putBit p.ev2 25 true })

/-- R330: triggers since the last release point are merged into the event tasks that name them; a trigger on a variable
(bit 24) is kept per task. -/
def State.mergeTriggers (s : State) : State :=
  let e2 := s.prog.ev2
  let e3 := s.prog.ev3
  let s1 := s.progI (fun p => { p with ev2 := 0, ev3 := 0 })
  (s1.progTaskList.filter (fun t => t.event)).foldl (fun (u : State) t =>
    let v := u.pt t.num
    u.setPt t.num { v with trg2 := Nat.lor v.trg2 (Nat.land e2 (Nat.land t.trg2 0x02FFFFFF)), trg3 := Nat.lor v.trg3 (Nat.land e3 t.trg3) }) s1

/-- R330: task `t` falls due at this release point. -/
def State.taskDue (s : State) (t : PTask) : Bool :=
  if t.event then decide ((s.pt t.num).trg2 ≠ 0) || decide ((s.pt t.num).trg3 ≠ 0)
  else s.prog.n.getD 0 % t.period = t.phase

/-- R332: the dispatcher copies in ascending task number: with the first task whose copy is incomplete, every later one is not copied. -/
def notCopied (late : List Nat) (t : PTask) : Bool := late.any (fun n => decide (n ≤ t.num))

/-- R332, R333, R335: a task that is due is released, or skips the release. -/
def State.releaseTask (p : PImage) (late : List Nat) (s : State) (t : PTask) : State :=
  let v := s.pt t.num
  let skip : PTaskInt := { v with skips := (v.skips + 1) % 2 ^ 32 }
  if !s.taskDue t then s
  else if v.executing then s.setPt t.num skip
  else if notCopied late t then (s.setPt t.num skip).progI (fun q => { q with imageLate := true })
  else
    let ins := s.sysWords v.overrun v.trg2 v.trg3 ++ (p.inWords t).map s.forcedWord
    let due : PPeriod := { due := s.prog.points + t.period }
    s.setPt t.num { v with executing := true, inputs := ins, trg2 := 0, trg3 := 0, periods := v.periods ++ [due] }

/-- R330: the tasks due at this release point are released in ascending number; R1: none on a device of a pair that is not the ACTIVE,
and none between the final delta of a switch and its cycle (R441). -/
def State.releaseTasks (s : State) (late : List Nat) : State :=
  match s.prog.active with
  | none => s
  | some p => if s.progRuns && s.runsProg && s.lash.switchCyc.isNone then ((List.range 48).filterMap p.task?).foldl (State.releaseTask p late) s else s

/-- R333, R335: what was kept for latches before this release point goes. -/
def State.pruneLatch (s : State) : State :=
  let k := s.prog.points
  s.progI (fun p => { p with nullAt := p.nullAt.filter (fun e => decide (k < e.1)), early := p.early.filter (fun e => decide (k < e.1)) })

/-- R330, R337, R340, R341, R350, R358: a release point. `late` names a task whose input copy was still incomplete when the
next frame arrived. -/
def State.releasePoint (s : State) (late : List Nat) : State :=
  let s0 := ((s.progI (fun p => { p with points := p.points + 1 })).pruneLatch.deltasAt.deltaSend.switchAt s.allIdle)
  let s1 := s0.atReleaseAll.changeAt.countAt
  let s2 := ((s1.keyMaps.applyForces [2]).writeSys).presTrigger.mergeTriggers
  (s2.releaseTasks late).waitsAt

/-- R330: a release point: the end of the bight frame, once a cycle; while the ring does not run, the next multiple of 20 microseconds
of device time, which event line 8 shows too. -/
def execReleasePoint (late : List Nat) (s : State) : Out := s.awake (
  let k := s.gridNext 20000 s.time.relGrid
  let s1 := s.advanceTo (20000 * k)
  .next (if !s.ringRuns then (({ s1 with time := { s1.time with relGrid := k + 1 } }).eventLine 8).releasePoint late
    else if s.ring.ended && !s.ring.released then { s with ring := { s.ring with released := true } }.releasePoint late
    else s))

/-- R432: pages of program state that a commit changes. -/
def State.dirtyPages (s : State) (ps : List Nat) : State :=
  s.progI (fun p => { p with dirty := ps.foldl (fun (l : List Nat) i => if l.contains i then l else i :: l) p.dirty })

/-- R330: the value of BOOL variable `v` that a commit gives, if it writes its word. -/
def committedBit (outs : List (Nat × Nat)) (v : PVar) : Bool := outs.any (fun e => decide (e.1 = v.word) && bitOf e.2 v.bit)

/-- R330: the rising edges of trigger variables that the commit of task `t` makes. -/
def State.varTriggers (s : State) (t : Nat) (outs : List (Nat × Nat)) : State :=
  match s.prog.active with
  | none => s
  | some p =>
    (p.tasks.filter (fun e => e.event && bitOf e.trg2 24 && decide (e.num ≠ t))).foldl (fun (u : State) e =>
      match p.var? e.trgVar with
      | none => u
      | some v =>
        let forced := s.prog.forces.any (fun f => f.varId = v.id)
        if v.ty = 1 && committedBit outs v && !bitOf (s.img v.word) v.bit && !forced then
          u.setPt e.num { u.pt e.num with trg2 := putBit (u.pt e.num).trg2 24 true }
        else u) s

/-- R333, R335: task `t` ends its execution with a commit: its output section is that of the period it was released for,
unless the transfer point of the period has passed or the program has stopped. -/
def State.taskCommit (s : State) (t : Nat) (outs : List Nat) (rearm us : Nat) : State :=
  let v := s.pt t
  let v1 : PTaskInt := { v with executing := false, lastUs := us % 2 ^ 32, maxUs := max v.maxUs (us % 2 ^ 32) }
  match s.prog.active, v.periods.getLast? with
  | some p, some d =>
    match p.task? t with
    | none => s.setPt t v1
    | some e =>
      let ws := (p.outWords e).zip outs
      if d.outs.isNone && decide (s.prog.lastXfer < d.due) && s.progRuns then
        ((s.setPt t { v1 with periods := v.periods.dropLast ++ [{ d with outs := some ws, rearm := rearm }] }).varTriggers t ws).dirtyPages
          (ws.map (fun e => e.1 / 1024))
      else s.setPt t v1
  | _, _ => s.setPt t v1

/-- R333: a task that is executing commits. -/
def execTaskCommit (t : Nat) (outs : List Word) (rearm us : Nat) (s : State) : Out := s.awake (
  .next (if (s.pt t).executing then s.taskCommit t (outs.map (fun w => w.toNat)) (rearm % 2 ^ 128) us else s))

/-- R336: the destined segments of a station. -/
def PImage.segsOf (p : PImage) (n : Nat) : List Nat := (p.stns.filter (fun e => e.2 = n)).map (fun e => e.1)

/-- R336: stations whose outputs are withheld: absent, or present and not armed. -/
def State.withheld (s : State) (n : Nat) : Bool := !s.nodePresent n || !(s.stn n).armed

/-- R336: the segments that go out NULL for their station. -/
def State.nullSegs (s : State) : List Nat :=
  match s.prog.active with
  | none => []
  | some p => p.nodes.flatMap (fun n => if s.prog.zero || s.withheld n then p.segsOf n else [])

/-- R281: the segments that carry image word `i` out. -/
def State.outSegs (s : State) (i : Nat) : List Nat :=
  match s.curSched with
  | none => []
  | some sc => (sc.maps.filter (fun (cnt, _, dir, _, ix) => dir = 1 && decide (ix ≤ i) && decide (i < ix + cnt))).map
      (fun (_, _, _, seg, _) => seg)

/-- R333, R336: one word of a committed output section goes into the image, unless every segment that carries it is
withheld. -/
def State.copyOut (nulls : List Nat) (s : State) (e : Nat × Nat) : State :=
  let segs := s.outSegs e.1
  if !segs.isEmpty && segs.all nulls.contains then s else s.setImg e.1 e.2

/-- R336: OUT_SUPPRESS of the stations whose data this period's outputs carry and that are withheld. -/
def State.countSuppress (s : State) (ws : List Nat) : State :=
  match s.prog.active with
  | none => s
  | some p => (p.nodes.filter s.withheld).foldl (fun (t : State) n =>
      if ws.any (fun i => (t.outSegs i).any (p.segsOf n).contains) then
        t.setStn n { t.stn n with suppress := min ((t.stn n).suppress + 1) 65535 }
      else t) s

/-- R333: words that a transfer for release point `x` is about to write, where a latch of an earlier cycle comes first. -/
def State.noteEarly (s : State) (x : Nat) (ws : List (Nat × Nat)) : State :=
  if x ≤ s.ownPoint + 1 then s
  else s.progI (fun p => { p with early := p.early ++ ws.map (fun e => (x, e.1, s.img e.1)) })

/-- R333: a committed period is transferred, at the transfer point before release point `x`. -/
def State.transferOne (x : Nat) (s : State) (d : PPeriod) : State :=
  let ws := d.outs.getD []
  ((ws.foldl (State.copyOut s.nullSegs) (s.noteEarly x ws)).countSuppress (ws.map (fun e => e.1))).dirtyPages (ws.map (fun e => e.1 / 1024))

/-- R335: task `t` has overrun: the flags, the count and the record; every owned segment that carries a word of it goes out NULL at the latch
before release point `x`. -/
def State.taskOverrun (s : State) (x : Nat) (t : PTask) (ws : List Nat) : State :=
  let v := s.pt t.num
  let c := (v.overruns + 1) % 2 ^ 32
  let s1 := (s.setPt t.num { v with overrun := true, overruns := c }).progI (fun p => { p with overrun := true })
  let s2 := s1.post 0x2011 t.num c 0
  s2.progI (fun p => { p with nullAt := p.nullAt ++ (ws.flatMap s2.outSegs).map (fun seg => (x, seg)) })

/-- R333, R335: the periods of task `t` whose transfer point this is. -/
def State.transferTask (p : PImage) (x : Nat) (s : State) (t : PTask) : State :=
  let v := s.pt t.num
  let now := v.periods.filter (fun d => decide (d.due ≤ x))
  let s1 := s.setPt t.num { v with periods := v.periods.filter (fun d => decide (x < d.due)) }
  let ws := p.outWords t
  now.foldl (fun (u : State) d =>
    if d.outs.isSome then (u.setPt t.num { u.pt t.num with overrun := false }).transferOne x d
    else u.taskOverrun x t ws) s1

/-- R339: the nodes that the RE_ARM words committed for this transfer point, and PROG_RE_ARM, name. -/
def State.rearmMask (s : State) (x : Nat) : Nat :=
  let ds := s.prog.tasks.flatMap (fun e => e.2.periods) ++ s.prog.kept
  (ds.filter (fun d => decide (d.due ≤ x) && d.outs.isSome)).foldl (fun m d => Nat.lor m d.rearm) s.prog.rearm

/-- R339: stations that are present and named are armed; PROG_RE_ARM is answered. -/
def State.armAt (s : State) (x : Nat) : State :=
  let m := s.rearmMask x
  let ps := s.prog.rearmPkt
  let s1 := s.armPresent ((List.range 128).filter (bitOf m))
  ps.foldl (fun (t : State) p => t.done p stDONE) (s1.progI (fun p => { p with rearm := 0, rearmPkt := [] }))

/-- R330: the time from one release point to the next. -/
def State.periodNs (s : State) : Nat := if s.ringRuns then max 1 (s.get F.RING_CYCLE_NS) else 20000

/-- R333: device time at which the cycle with release point `x` starts; that of a cycle to come is counted on from this one's. -/
def State.cycleOf (s : State) (x : Nat) : Nat :=
  let own := if s.ringRuns && s.ring.released then s.prog.points else s.prog.points + 1
  let base := if s.ringRuns then s.get64 F.RING_CYC_START_LO else 20000 * s.gridNext 20000 s.time.relGrid
  base + (x - own) * s.periodNs

/-- R333: how far transfer points may run ahead of the last release point. -/
def State.xferAhead (s : State) : Nat :=
  let lead := match s.prog.active with
    | some p => 1000 * p.outLead
    | none => 0
  2 + lead / s.periodNs

/-- R333: the release point that ends the periods of the transfer point to come. -/
def State.nextXfer (s : State) : Nat := max (s.prog.lastXfer + 1) (s.prog.points + 1)

/-- R430: the ACTIVE mirrors, at each transfer point, the image words that slots read, their model blocks included; no axis reads one. -/
def State.mirImages (s : State) : State :=
  if !s.mirrors then s
  else
    let ks := s.usedSlots.flatMap (fun n =>
      (if s.fbSrc n = 5 then [bits (s.get (F.SLOT_FB_SEL n)) 23 0] else []) ++
      (if s.modelEn n && bits (s.mw n 8) 31 28 = 5 then [bits (s.mw n 8) 23 0] else []) ++
      (if s.get (F.SLOT_CFG0_SP_SRC n) = 6 then [bits (s.get (F.SLOT_SP_SEL n)) 23 0] else []))
    ks.foldl (fun (t : State) i => t.mirInput (.img i (Word.of (t.img i)))) s

/-- R333-R336, R339, R340, R357: a transfer point. `late` names recipes whose actions are not ready. -/
def State.transferPoint (s : State) (late : List Nat) : State :=
  let x := s.nextXfer
  let b := s.cycleOf x
  let lead := match s.prog.active with
    | some p => 1000 * p.outLead
    | none => 0
  let s1 := ((s.advanceTo (b - lead)).progI (fun p => { p with lastXfer := x })).armAt x
  let s2 := match s1.prog.active with
    | some p => p.tasks.foldl (State.transferTask p x) s1
    | none => s1
  let old := s2.prog.kept.filter (fun d => decide (d.due ≤ x))
  let s3 := old.foldl (State.transferOne x) (s2.progI (fun p => { p with kept := p.kept.filter (fun d => decide (x < d.due)) }))
  ((s3.recipeImages b late).applyForces [1, 2]).mirImages

/-- R333: a transfer point. -/
def execTransferPoint (late : List Nat) (s : State) : Out := s.awake (
  .next (if s.nextXfer ≤ s.prog.points + s.xferAhead then s.transferPoint late else s))

/-- R350: MAX_WAIT passes without a change instant. -/
def execProgChangeTimeout (s : State) : Out :=
  .next (if s.prog.change.isSome then (s.advanceTo s.prog.changeBy).changeOver else s)

/-- R361: a PROG_LOAD has been verified: the status of the image, and the bank it goes to. -/
def State.progLoaded (s : State) (p : Pkt) (ws : List Nat) : State :=
  let code := s.verifyImage ws tyPROGRAM
  let s1 := ((s.noteFail code).progI (fun q => { q with loads := q.loads.drop 1 })).secBusy
  if code = vfFORMAT then s1.done p stBAD_PARAM
  else if code ≠ vfOK then s1.done p stAUTH_FAILED
  else
    let body := ws.drop hdrWords
    match progFault body with
    | some st => s1.done p st
    | none =>
      let im : PImage := { parseProg body with meas := imageEntry ws }
      if s1.prog.st = pgEMPTY then
        (((s1.progI (fun q => { q with active := some im, st := pgSTOPPED })).initWords im (fun _ => false)).logEntry im.meas).done p stDONE
      else (s1.progI (fun q => { q with spare := some im })).done p stDONE

/-- R361: the verification of a PROG_LOAD ends. -/
def execProgImageVerified (s : State) : Out :=
  .next (match s.prog.loads with
    | [] => s
    | (p, ws) :: _ => s.progLoaded p ws)

/-- R349, R361: PROG_LOAD; the spare bank holds no image from the first chunk until the new one has been verified. -/
def execProgLoad (p : Pkt) (s : State) : Out :=
  let off := p.w 1
  let data := (p.params.drop 2).map (fun w => w.toNat)
  .next (s.command p opProgLoad
    [(outside (p.w 0) 0x80000000 || !(off = 0 || off = 4 * s.prog.chunk.length), stBAD_PARAM),
     (s.prog.st = pgCHANGING, stBUSY)]
    (fun t =>
      let ws := if off = 0 then data else t.prog.chunk ++ data
      if bitOf (p.w 0) 31 then (t.progI (fun q => { q with chunk := [], spare := none, loads := q.loads ++ [(p, ws)] })).secBusy.accept p
      else (t.progI (fun q => { q with chunk := ws, spare := none })).done p stDONE))

/-- R353: PROG_RUN start. -/
def State.progStart (s : State) (p : Pkt) (cold : Bool) : State :=
  if s.progRuns then s.done p stDONE
  else
    let im : PImage := s.prog.active.getD {}
    let s1 := if cold then s.initWords im (fun _ => false) else s
    let s2 := s1.progI (fun q => { q with st := pgRUNNING, n := none, zero := false, runPkt := some p, tasks := q.tasks.map (fun e =>
      (e.1, { e.2 with overrun := false, trg2 := 0, trg3 := 0 })) })
    let s3 := s2.progI (fun q => { q with stns := q.stns.map (fun e => (e.1, { e.2 with armed := false })) })
    s3.armPresent (List.range 128)

/-- R353: the program stops: no further release, commits made later are discarded, all forces are released; a change and a
start that still wait end with it. -/
def State.progStop (s : State) (zero : Bool) : State :=
  let c := s.prog.change
  let r := s.prog.runPkt
  let s1 := s.progI (fun q => { q with st := pgSTOPPED, change := none, runPkt := none, zero := q.zero || zero })
  let kept := s1.prog.tasks.flatMap (fun e => e.2.periods.filter (fun d => d.outs.isSome))
  let s2 := s1.progI (fun q => { q with kept := q.kept ++ kept, tasks := q.tasks.map (fun e => (e.1, { e.2 with periods := [] })) })
  let s3 := (s2.dropForces 2 (fun _ => true)).refreshForceInd
  let s4 := match c with
    | some (p, _, _) => s3.done p stTIMEOUT
    | none => s3
  s4.doneOpt r stDONE

/-- R353: PROG_RUN. -/
def execProgRun (p : Pkt) (s : State) : Out :=
  let run := bitOf (p.w 0) 0
  .next (s.command p opProgRun
    [(outside (p.w 0) 7 || (run && s.stnsBad (s.prog.active.getD {})), stBAD_PARAM),
     (s.prog.st = pgEMPTY, stNOT_PERMITTED)]
    (fun t =>
      if run then t.progStart p (bitOf (p.w 0) 2)
      else if t.progRuns then (t.progStop (bitOf (p.w 0) 1)).done p stDONE
      else (t.progI (fun q => { q with zero := q.zero || bitOf (p.w 0) 1 })).done p stDONE))

/-- The variable of the active image with an identifier. -/
def State.progVar? (s : State) (id : Nat) : Option PVar :=
  match s.prog.active with
  | some p => p.var? id
  | none => none

/-- A command that acts at the next release point. -/
def State.waitRelease (s : State) (p : Pkt) : State :=
  (s.progI (fun q => { q with atRelease := q.atRelease ++ [p] })).refreshForceInd

/-- R340, R341: how many forces stand once those of `ids` and those accepted before are in force. -/
def State.forceCount (s : State) (ids : List Nat) : Nat :=
  let held := s.prog.forces.map (fun f => f.varId) ++ s.comingForces.map (fun e => e.1) ++ ids
  (held.foldl (fun (l : List Nat) i => if l.contains i then l else i :: l) []).length

/-- R352: a force on `id` meets a pending change that would release it without leave. -/
def State.forceClash (s : State) (id : Nat) : Bool :=
  match s.prog.change, s.prog.active, s.prog.spare with
  | some (_, false, _), some a, some b => affected a b id
  | _, _, _ => false

/-- R340, R341, R361: PROG_FORCE. -/
def execProgForce (p : Pkt) (s : State) : Out :=
  let n := bits (p.w 0) 6 0
  let ids := (List.range n).map (fun i => p.w (1 + 4 * i))
  let bad := (List.range n).any (fun i => match s.progVar? (p.w (1 + 4 * i)) with
    | some v => decide (v.ty ≠ p.w (2 + 4 * i))
    | none => true)
  .next (s.command p opProgForce
    [(outside (p.w 0) 0x7F || n = 0 || decide (64 < n) || bad, stBAD_PARAM), (decide (1024 < s.forceCount ids), stQUEUE_FULL),
     (ids.any s.forceClash, stFORCES_PRESENT)]
    (fun t => t.waitRelease p))

/-- R341, R361: PROG_RELEASE. -/
def execProgRelease (p : Pkt) (s : State) : Out :=
  .next (s.command p opProgRelease [(outside (p.w 0) 0x8000007F || decide (64 < bits (p.w 0) 6 0), stBAD_PARAM)] (fun t => t.waitRelease p))

/-- R352: some force is affected by a change to the spare program. -/
def State.forcesAffected (s : State) : Bool :=
  let ids := s.prog.forces.map (fun f => f.varId) ++ s.comingForces.map (fun e => e.1)
  ids.any (fun i => affected (s.prog.active.getD {}) (s.prog.spare.getD {}) i)

/-- R350, R353, R361: PROG_CHANGE. -/
def execProgChange (p : Pkt) (s : State) : Out :=
  let rel := bitOf (p.w 0) 0
  .next (s.command p opProgChange
    [(outside (p.w 0) 1 || s.stnsBad (s.prog.spare.getD {}), stBAD_PARAM),
     (s.prog.st = pgEMPTY || s.prog.spare.isNone, stNOT_PERMITTED), (s.prog.st = pgCHANGING, stBUSY),
     (!rel && s.forcesAffected, stFORCES_PRESENT)]
    (fun t =>
      let t1 := t.accept p
      if t.prog.st = pgSTOPPED then t1.swapBanks.done p stDONE
      else
        let ms := if p.w 1 = 0 then 100 else p.w 1
        t1.progI (fun q => { q with st := pgCHANGING, change := some (p, rel, 2), changeBy := t.now + 1000000 * ms })))

/-- R361: PROG_READ_VAR. -/
def execProgReadVar (p : Pkt) (s : State) : Out :=
  let n := bits (p.w 0) 6 0
  .next (s.command p opProgReadVar
    [(outside (p.w 0) 0x7F || n = 0 || decide (64 < n) || (List.range n).any (fun i => (s.progVar? (p.w (1 + i))).isNone), stBAD_PARAM)]
    (fun t => t.waitRelease p))

/-- R342, R361: PROG_WRITE_VAR. -/
def execProgWriteVar (p : Pkt) (s : State) : Out :=
  let n := bits (p.w 0) 6 0
  let ids := (List.range n).map (fun i => p.w (1 + 3 * i))
  let forced := s.prog.forces.map (fun f => f.varId) ++ s.comingForces.map (fun e => e.1)
  .next (s.command p opProgWriteVar
    [(outside (p.w 0) 0x7F || n = 0 || decide (64 < n) || ids.any (fun i => match s.progVar? i with
        | some v => decide (v.kind = 0)
        | none => true), stBAD_PARAM),
     (ids.any forced.contains, stNOT_PERMITTED)]
    (fun t => t.waitRelease p))

/-- R362: PROG_STAT. -/
def State.progStat (s : State) : Nat :=
  b2n s.prog.imageLate * 2 ^ 8 + s.prog.st * 2 ^ 5 + b2n s.prog.spare.isSome * 2 ^ 4 + b2n s.prog.change.isSome * 2 ^ 3 +
  b2n s.prog.overrun * 2 ^ 2 + b2n (!s.prog.forces.isEmpty) * 2 + b2n s.progRuns

/-- R362: the result of PROG_STATUS. -/
def State.progResult (s : State) : List Nat :=
  [s.progStat, (s.prog.active.getD {}).id, (s.prog.spare.getD {}).id, s.prog.forces.length] ++
  (List.range 48).flatMap (fun t => let v := s.pt t; [v.overruns, v.skips, v.lastUs, v.maxUs]) ++
  (List.range 128).map (fun n => (s.stn n).suppress * 2 ^ 16 + b2n (s.stn n).armed * 2 + b2n (s.nodePresent n))

/-- R362: PROG_STATUS. -/
def execProgStatus (p : Pkt) (s : State) : Out :=
  .next (s.command p opProgStatus [(outside (p.w 0) 1, stBAD_PARAM)]
    (fun t =>
      let t1 := t.doneRes p t.progResult
      if bitOf (p.w 0) 0 then t1.progI (fun q => { q with overrun := false, imageLate := false }) else t1))

/-- R339, R361: PROG_RE_ARM. -/
def execProgReArm (p : Pkt) (s : State) : Out :=
  let m := p.w 1 + 2 ^ 32 * p.w 2 + 2 ^ 64 * p.w 3 + 2 ^ 96 * p.w 4
  .next (s.command p opProgReArm [(decide (p.w 0 ≠ 0), stBAD_PARAM)]
    (fun t => t.progI (fun q => { q with rearm := Nat.lor q.rearm m, rearmPkt := q.rearmPkt ++ [p] })))

end Sys2Proof.Machine
end

