-- ==== Sys2Proof/Machine/Can.lean ====
section
/-! DEFINITION. The CAN controllers (15_can R382-R396). -/

namespace Sys2Proof.Machine

/-- R395: controller states. -/
def cnCONFIG : Nat := 0
def cnSYNC : Nat := 1
def cnACTIVE : Nat := 2
def cnPASSIVE : Nat := 3
def cnBUS_OFF : Nat := 4
def cnRECOVERING : Nat := 5

/-- R391: TXRES codes. -/
def txDONE : Nat := 1
def txARB_LOST : Nat := 2
def txERROR : Nat := 3
def txABORTED : Nat := 4
def txBUS_OFF : Nat := 5

/-- STATE of controller `c`. -/
def State.canSt (s : State) (c : Nat) : Nat := s.get (F.CAN_STATE c)

/-- R385: the mode in force: MODE, or until the next bus idle the one that a write of CONFIG leaves. -/
def State.canMd (s : State) (c : Nat) : Nat := if (s.canI c).leaving then (s.canI c).left else s.get (F.CAN_MODE c)

/-- R385: the controller takes part in bus traffic. -/
def State.canOn (s : State) (c : Nat) : Bool := s.canSt c = cnACTIVE || s.canSt c = cnPASSIVE

/-- Bit of object `m` in a group of four words whose first is `f`. -/
def objBit (f : Fld) (m : Nat) : Fld := ⟨f.addr + 4 * (m / 32), m % 32, m % 32⟩

/-- R390: object `m` has a pending frame. -/
def State.canPending (s : State) (c m : Nat) : Bool := s.on (F.CANO_DIR c m) && s.on (F.CANO_TXREQ c m)

/-- R391: the transmission of object `m` ends. -/
def State.endTx (c res : Nat) (s : State) (m : Nat) : State :=
  let s1 := ((s.put (F.CANO_TXREQ c m) 0).put (objBit (F.CAN_TXREQ c 0) m) 0).put (F.CANO_TXRES c m) res
  let v := s1.canI c
  let s2 := s1.setCan c { v with aborting := v.aborting.filter (fun x => x ≠ m), reqAt := tabSet 0 v.reqAt m 0 }
  if res ≠ txDONE then (s2.put (objBit (F.CAN_TXFAIL c 0) m) 1).raise (bCAN c) 10
  else if s2.on (F.CANO_IRQ c m) then s2.raise (bCAN c) 9
  else s2

/-- R385, R391: every pending transmission ends. -/
def State.endAllTx (s : State) (c res : Nat) : State :=
  ((List.range 128).filter (s.canPending c)).foldl (State.endTx c res) s

/-- R385: the controller enters CONFIG. -/
def State.canConfig (s : State) (c : Nat) : State :=
  let s1 := (s.endAllTx c txABORTED).setCan c { s.canI c with leaving := false }
  (s1.put (F.CAN_STATE c) cnCONFIG).put (F.CAN_MODE c) 0

/-- R385: MODE is written. -/
def State.canMode (s : State) (c mode : Nat) : State :=
  let st := s.canSt c
  if st = cnCONFIG then (if mode = 0 then s else s.canSync c mode)
  else if mode ≠ 0 then (s.put (F.CAN_MODE c) mode).setCan c { s.canI c with leaving := false }
  else if st = cnACTIVE ∨ st = cnPASSIVE then (s.put (F.CAN_MODE c) 0).setCan c { s.canI c with leaving := true, left := s.canMd c }
  else s.canConfig c

/-- R385: MODE of CANc_CTRL is written. -/
def execCanModeWrite (c mode : Nat) (s : State) : Out := .next (if c < 4 then s.canMode c (mode % 4) else s)

/-- R385: recovery from BUS_OFF starts. -/
def State.canRecover (s : State) (c : Nat) : State := if s.canSt c = cnBUS_OFF then s.put (F.CAN_STATE c) cnRECOVERING else s

/-- R385: RECOVER is written. -/
def execRecover (c : Nat) (s : State) : Out := .next (if c < 4 then s.canRecover c else s)

/-- R385: 128 occurrences of 11 recessive bits complete recovery. -/
def execCanRecoveryDone (c : Nat) (s : State) : Out := s.awake (
  .next (if c < 4 && s.canSt c = cnRECOVERING then ((s.put (F.CAN_STATE c) cnACTIVE).put (F.CAN_TEC c) 0).put (F.CAN_REC c) 0 else s))

/-- R383: a value of CANc_NBT outside its ranges or its SJW bound. -/
def nbtBad (v : Nat) : Bool := decide (bits v 15 8 < 1) || decide (bits v 6 0 < bits v 22 16)

/-- R383: a value of CANc_DBT whose SJW is above its SEG2. -/
def dbtBad (v : Nat) : Bool := decide (bits v 3 0 < bits v 19 16)

/-- R396: the timing of a CAN_CONFIG is written and its MODE applies; R394: on the STANDBY the controller stays in LISTEN. -/
def State.canApply (s : State) (p : Pkt) : State :=
  let c := bits (p.w 0) 1 0
  let s1 := (s.canConfig c).setCan c { s.canI c with cfg := [], leaving := false, aborting := [], reqAt := [] }
  let s2 := ((s1.setWord (bCAN c + 0x60) (Word.of (Nat.land (p.w 1) 0x30))).setWord (bCAN c + 0x64) (Word.of (p.w 2))).setWord
    (bCAN c + 0x68) (Word.of (p.w 3))
  let s3 := s2.setWord (bCAN c + 0x6C) (Word.of (p.w 4))
  let mode := if s.lashSt = lsSTANDBY then 2 else bits (p.w 1) 1 0
  (if mode = 0 then s3 else s3.canSync c mode).done p stDONE

/-- R385, R396: a write of CONFIG to MODE, or CAN_CONFIG packets, that waited take effect. -/
def State.canLeave (s : State) (c : Nat) : State :=
  if (s.canI c).cfg.isEmpty then (if (s.canI c).leaving then s.canConfig c else s)
  else (s.canI c).cfg.foldl (fun (t : State) e => t.canApply e.1) s

/-- R385, R396: 11 consecutive recessive bits. -/
def State.canIdle (s : State) (c : Nat) : State :=
  (if s.canSt c = cnSYNC then s.put (F.CAN_STATE c) cnACTIVE else s).canLeave c

/-- R385: the bus of controller `c` is idle. -/
def execCanBusIdle (c : Nat) (s : State) : Out := s.awake (
  .next (if c < 4 then s.canIdle c else s))

/-- R387: frame `f` matches object `m`. -/
def State.canMatch (s : State) (c : Nat) (f : CanFrame) (m : Nat) : Bool :=
  s.on (F.CANO_EN c m) && !s.on (F.CANO_DIR c m) && (s.on (F.CANO_IDE c m) == f.ide) &&
  Nat.land (Nat.xor f.id (s.get (F.CANO_ID c m))) (s.get (F.CANO_MASK c m)) = 0 &&
  ((s.on (F.CANO_FDF c m) == f.fdf) || s.on (F.CANO_FDF_ANY c m))

/-- R387: the object that stores a frame: the lowest matching one whose NEW is clear, else the highest matching one. -/
def State.canTarget (s : State) (c : Nat) (f : CanFrame) : Option Nat :=
  let ms := (List.range 128).filter (s.canMatch c f)
  match ms.find? (fun m => !s.on (F.CANO_NEW c m)) with
  | some m => some m
  | none => ms.getLast?

/-- R395: bytes of a frame by its DLC. -/
def dlcBytes (fdf : Bool) (dlc : Nat) : Nat :=
  if fdf then [0, 1, 2, 3, 4, 5, 6, 7, 8, 12, 16, 20, 24, 32, 48, 64].getD dlc 0 else min dlc 8

/-- R388: the sixteen data words of a frame; bytes beyond its length are 0. -/
def frameWords (f : CanFrame) : List Nat :=
  let n := dlcBytes f.fdf f.dlc
  let b (i : Nat) : Nat := if i < n then f.data.getD i 0 % 256 else 0
  (List.range 16).map (fun k => b (4 * k) + b (4 * k + 1) * 2 ^ 8 + b (4 * k + 2) * 2 ^ 16 + b (4 * k + 3) * 2 ^ 24)

/-- R388: frame `f` is stored in object `m`. -/
def State.canStore (s : State) (c m : Nat) (f : CanFrame) : State :=
  let lost := s.on (F.CANO_NEW c m)
  let s1 := (((s.put (F.CANO_DLC c m) f.dlc).put (F.CANO_R_FDF c m) (b2n f.fdf)).put (F.CANO_R_BRS c m) (b2n f.brs)).put
    (F.CANO_R_ESI c m) (b2n f.esi)
  let s2 := ((s1.put (F.CANO_ID c m) f.id).put64 (F.CANO_TS_LO c m) f.ts).setWords (F.CANO_DATA c m 0).addr (frameWords f)
  let s3 := ((s2.put (F.CANO_NEW c m) 1).put (objBit (F.CAN_RXNEW c 0) m) 1).put (F.CANO_SEQ c m) (s2.get (F.CANO_SEQ c m) + 1)
  let s4 := if lost then (s3.put (F.CANO_LOST c m) 1).raise (bCAN c) 11 else s3
  let s5 := s4.incSat (F.CAN_RXCNT c)
  if s5.on (F.CANO_IRQ c m) then s5.raise (bCAN c) 8 else s5

/-- R387: a valid frame is stored or counted. -/
def State.canReceive (s : State) (c : Nat) (f : CanFrame) : State :=
  match s.canTarget c f with
  | some m => s.canStore c m f
  | none => (s.incSat (F.CAN_NOMATCH c)).raise (bCAN c) 12

/-- R385: the state follows the error counts. -/
def State.canErrSt (s : State) (c : Nat) : State :=
  let high := decide (127 < s.get (F.CAN_TEC c)) || decide (127 < s.get (F.CAN_REC c))
  if s.canSt c = cnACTIVE && high then (s.put (F.CAN_STATE c) cnPASSIVE).raise (bCAN c) 13
  else if s.canSt c = cnPASSIVE && !high then s.put (F.CAN_STATE c) cnACTIVE
  else s

/-- R382: a frame received without error lowers REC as ISO 11898-1 has it: by one; from above 127 to a value of 119 to 127
that the standard leaves open. -/
def State.canRxGood (s : State) (c : Nat) : State :=
  let r := s.get (F.CAN_REC c)
  if 127 < r then let (v, s1) := s.fresh; (s1.put (F.CAN_REC c) (119 + v % 9)).canErrSt c
  else (s.put (F.CAN_REC c) (r - 1)).canErrSt c

/-- R385, R395: an error is detected: LEC, ERRCNT. -/
def State.canError (s : State) (c lec : Nat) : State := (s.put (F.CAN_LEC c) lec).incSat (F.CAN_ERRCNT c)

/-- R382, R385: an error while receiving raises REC. -/
def State.canRxError (s : State) (c lec inc : Nat) : State :=
  ((s.canError c lec).put (F.CAN_REC c) (min 255 (s.get (F.CAN_REC c) + inc))).canErrSt c

/-- The identifier that a frame carries: a base frame has bits [28:18] alone. -/
def canId (ide : Bool) (id : Nat) : Nat := if ide then id else Nat.land id 0x1FFC0000

/-- R393: a received frame with the stamp that the tick of its start of frame gives, its base identifier in ID bits [28:18] alone. -/
def State.canStamp (s : State) (f : CanFrame) : CanFrame :=
  { f with ts := s.timeAt f.ts, id := canId f.ide f.id }

/-- R387, R388: a data frame becomes valid; R382: with FD_EN = 0 the recessive FDF bit of an FD frame is a form error. -/
def execCanFrameRx (c : Nat) (f : CanFrame) (s0 : State) : Out := s0.awake (
  let s := s0.advanceTick f.ts
  let g := s.canStamp f
  .next (if 4 ≤ c || s0.mirCan c || !s0.canOn c then s0
    else if f.fdf && !s.on (F.CAN_FD_EN c) then s.canRxError c 2 1
    else ((s.canReceive c g).canRxGood c).mirInputIf (bitOf (s.get F.LASH_MIR_CAN) c) (.can c g)))

/-- R382: a remote frame is received. -/
def execRemoteFrameRx (c : Nat) (s : State) : Out := s.awake (
  .next (if c < 4 && s.canOn c then (s.raise (bCAN c) 15).canRxGood c else s))


/-- R385: TEC exceeds 255; what waited for a bus idle takes effect at once. -/
def State.canBusOff (s : State) (c : Nat) : State :=
  let s1 := ((s.put (F.CAN_TEC c) 255).put (F.CAN_STATE c) cnBUS_OFF).raise (bCAN c) 14
  let s2 := (s1.endAllTx c txBUS_OFF).post 0x0A10 c (255 + s.get (F.CAN_REC c) * 2 ^ 8) 0
  (if s2.on (F.CAN_AUTO_RECOV c) then s2.canRecover c else s2).canLeave c

/-- R382, R385: an error in a transmitted frame raises TEC by 8, but where ISO 11898-1 leaves it as it is. -/
def State.canTxError (s : State) (c lec inc : Nat) : State :=
  let s1 := s.canError c lec
  let t := s.get (F.CAN_TEC c) + inc
  if s.canMd c = 2 then s1
  else if 255 < t then s1.canBusOff c
  else (s1.put (F.CAN_TEC c) t).canErrSt c

/-- R382, R385: an error that ends no transmission of this controller: `e` says which count ISO 11898-1 raises. -/
def execCanBusError (c lec : Nat) (e : CanErr) (s : State) : Out := s.awake (
  .next (if c < 4 && s.canOn c && decide (1 ≤ lec) && decide (lec ≤ 6) then
      (match e with
       | .rec1 => s.canRxError c lec 1
       | .rec8 => s.canRxError c lec 8
       | .tec8 => s.canTxError c lec 8)
    else s))

/-- R390: the arbitration field of the frame of object `m`, with RTR or RRS and IDE where the bus has them. -/
def State.arbKey (s : State) (c m : Nat) : Nat :=
  let id := s.get (F.CANO_ID c m)
  if s.on (F.CANO_IDE c m) then bits id 28 18 * 2 ^ 21 + 3 * 2 ^ 19 + bits id 17 0 * 2 else bits id 28 18 * 2 ^ 21

/-- R390: object `m` may be offered for a frame that starts at CTL_CLK tick `ts`: its TXREQ was set by then; R382: a Classical CAN node sends
no FD frame (log entry 151). -/
def State.canReady (s : State) (c m ts : Nat) : Bool :=
  s.canPending c m && decide (tabGet 0 (s.canI c).reqAt m ≤ ts) && (!s.on (F.CANO_FDF c m) || s.on (F.CAN_FD_EN c))

/-- R390: object `m` is the one that the controller offers for a frame that starts at CTL_CLK tick `ts`: the lowest
arbitration field among those that may be, ties to the lowest number. -/
def State.canOffered (s : State) (c m ts : Nat) : Bool :=
  s.canReady c m ts &&
  ((List.range 128).filter (fun j => s.canReady c j ts)).all (fun j =>
    decide (s.arbKey c m < s.arbKey c j) || (decide (s.arbKey c m = s.arbKey c j) && decide (m ≤ j)))

/-- The frame that transmit object `m` sends (R382: ESI recessive while error passive; ESI and BRS are bits of an FD frame alone). -/
def State.txFrame (s : State) (c m ts : Nat) : CanFrame :=
  let byte (i : Nat) : Nat := s.get (F.CANO_DATA c m (i / 4)) / 2 ^ (8 * (i % 4)) % 256
  let ide := s.on (F.CANO_IDE c m)
  let a : CanFrame := { ide := ide, id := canId ide (s.get (F.CANO_ID c m)), fdf := s.on (F.CANO_FDF c m) }
  { a with brs := a.fdf && s.on (F.CANO_BRS c m), esi := a.fdf && s.canSt c = cnPASSIVE, dlc := s.get (F.CANO_DLC c m),
           data := (List.range 64).map byte, ts := ts }

/-- R384: the transmitter delay measured in an FD frame. -/
def State.canTdc (s : State) (c : Nat) (tdcv : Option Nat) : State :=
  match tdcv with
  | none => s
  | some v =>
    if !s.on (F.CAN_TDC_EN c) then s
    else if 127 < v then (s.put (F.CAN_TDCV c) 127).raise (bCAN c) 16
    else s.put (F.CAN_TDCV c) v

/-- R388, R391: the frame of object `m` has reached the end of EOF. In LOOPBACK the controller receives it itself. -/
def State.canTxGood (s : State) (c m ts : Nat) : State :=
  let f := s.txFrame c m ts
  let s1 := ((s.put64 (F.CANO_TS_LO c m) ts).put (F.CAN_TEC c) (s.get (F.CAN_TEC c) - 1)).incSat (F.CAN_TXCNT c)
  let s2 := (State.endTx c txDONE s1 m).canErrSt c
  if s.canMd c = 3 then s2.canReceive c f else s2

/-- R391, R392: an attempt to send the frame of object `m` ends: `res` 1 good, 2 arbitration lost, 3 error. -/
def State.canTxEnd (s : State) (c m res lec inc ts : Nat) : State :=
  let once := s.on (F.CANO_ONESHOT c m)
  let stop := (s.canI c).aborting.contains m
  if res = txDONE then s.canTxGood c m ts
  else
    let s1 := if res = txERROR then s.canTxError c lec inc else s
    if !s1.canPending c m then s1
    else if stop then State.endTx c txABORTED s1 m
    else if once then State.endTx c res s1 m
    else s1

/-- R390-R393: an attempt to send the frame of object `m`, whose start of frame was driven at CTL_CLK tick `ts`, ends; R49: no frame is
sent before OUTEN, but in LOOPBACK, which holds the pin recessive. -/
def execCanTxEnd (c m res lec inc ts : Nat) (tdcv : Option Nat) (s0 : State) : Out := s0.awake (
  let s := s0.advanceTick ts
  .next (if c < 4 && m < 128 && s.canOn c && (s.canMd c = 3 || (s.canMd c = 1 && s.on F.SYS_ARM_OUTEN)) &&
      decide (1 ≤ res) && decide (res ≤ 3) && decide (lec ≤ 6) && (inc = 0 || inc = 8) && s.canOffered c m ts then
      (s.canTdc c (if s.on (F.CANO_FDF c m) then tdcv else none)).canTxEnd c m res lec inc (s.timeAt ts)
    else s0))

/-- R390: TXREQ of transmit object `m` is set; R395: ignored for a receive object, with CFG_REJECT. -/
def State.setTxreq (c : Nat) (s : State) (m : Nat) : State :=
  if !s.on (F.CANO_DIR c m) then s.reject (bCAN c)
  else if s.on (F.CANO_TXREQ c m) then s
  else
    let v := s.canI c
    ((s.put (F.CANO_TXREQ c m) 1).put (objBit (F.CAN_TXREQ c 0) m) 1).setCan c { v with reqAt := tabSet 0 v.reqAt m s.time.tick }

/-- The objects that a word of CANc_TXREQk or CANc_TXABORTk names. -/
def objsOf (k v : Nat) : List Nat := ((List.range 32).filter (bitOf v)).map (fun b => 32 * k + b)

/-- R390: CANc_TXREQk is written. -/
def State.canTxreq (s : State) (c k v : Nat) : State := (objsOf k v).foldl (State.setTxreq c) s

/-- R390: CANc_TXREQk is written. -/
def execCanTxreqWrite (c k : Nat) (v : Word) (s : State) : Out := .next (if c < 4 && k < 4 then s.canTxreq c k v.toNat else s)

/-- R392: a frame on the bus runs to its end; one that has not begun is cancelled. -/
def State.canAbort (c : Nat) (onBus : Option Nat) (s : State) (m : Nat) : State :=
  if !s.canPending c m then s
  else if onBus = some m then
    let v := s.canI c
    s.setCan c { v with aborting := v.aborting.filter (fun x => x ≠ m) ++ [m] }
  else State.endTx c txABORTED s m

/-- R392: CANc_TXABORTk is written while the frame of object `onBus` is on the bus. -/
def execCanTxabortWrite (c k : Nat) (v : Word) (onBus : Option Nat) (s : State) : Out :=
  .next (if c < 4 && k < 4 then (objsOf k v.toNat).foldl (State.canAbort c onBus) s else s)

/-- R386: object `m` is locked. -/
def State.objLocked (s : State) (c m : Nat) : Bool :=
  if s.on (F.CANO_DIR c m) then s.on (F.CANO_TXREQ c m) else s.on (F.CANO_EN c m)

/-- R389: NEW of object `m` is cleared against the SEQ that a reader read. -/
def State.clearNew (s : State) (c m seq : Nat) (lost : Bool) : State :=
  if s.get (F.CANO_SEQ c m) ≠ seq then s
  else
    let s1 := (s.put (F.CANO_NEW c m) 0).put (objBit (F.CAN_RXNEW c 0) m) 0
    if lost then s1.put (F.CANO_LOST c m) 0 else s1

/-- R389, R395: OBJ_STAT is written: NEW and LOST under R389, DLC as a run-locked field. -/
def State.objStatWrite (s : State) (c m v : Nat) : State :=
  let s1 := if bits v 3 0 = s.get (F.CANO_DLC c m) then s
    else if s.objLocked c m then s.lockReject (bCAN c) (128 * c + m) (0x4000 * c + 0x100C + 0x60 * m) false
    else s.put (F.CANO_DLC c m) v
  if bitOf v 27 then s1.clearNew c m (bits v 31 28) (bitOf v 26) else s1

/-- R389: OBJ_STAT of object `m` is written. -/
def execCanNewClear (c m : Nat) (v : Word) (s : State) : Out := .next (if c < 4 && m < 128 then s.objStatWrite c m v.toNat else s)

/-- R396: the controller that a packet names, the object, and bits of word 0 that no field uses. -/
def canNo (p : Pkt) : Nat := bits (p.w 0) 1 0
def canObj (p : Pkt) : Nat := bits (p.w 0) 14 8

/-- R396: CAN_CONFIG. -/
def execCanConfig (p : Pkt) (s : State) : Out :=
  let c := canNo p
  .next (s.command p opCanConfig
    [(outside (p.w 0) 3 || outside (p.w 1) 0x73 || outside (p.w 2) 0xFFFFFF7F || outside (p.w 3) 0x1FF1F0F ||
        outside (p.w 4) 0x8000007F || nbtBad (p.w 2) || dbtBad (p.w 3), stBAD_PARAM)]
    (fun t => if t.canOn c then t.setCan c { t.canI c with cfg := (t.canI c).cfg ++ [(p, t.now + 10000000)] } else t.canApply p))

/-- R396: no bus idle has come within 10 ms of a CAN_CONFIG. -/
def execCanConfigTimeout (c : Nat) (s : State) : Out :=
  .next (match (s.canI c).cfg with
    | (p, e) :: r => ((s.advanceTo e).setCan c { s.canI c with cfg := r }).done p stTIMEOUT
    | [] => s)

/-- R396: CAN_OBJECT. -/
def execCanObject (p : Pkt) (s : State) : Out :=
  let c := canNo p
  let m := canObj p
  let clears := s.on (F.CANO_EN c m) && !bitOf (p.w 1) 31
  .next (s.command p opCanObject
    [(outside (p.w 0) 0x7F03 || outside (p.w 1) 0xFF000000 || outside (p.w 2) 0x1FFFFFFF || outside (p.w 3) 0x1FFFFFFF, stBAD_PARAM),
     (s.objLocked c m && !clears, stBUSY)]
    (fun t => (t.setWords (F.CANO_EN c m).addr [p.w 1, p.w 2, p.w 3]).done p stDONE))

/-- R396: CAN_TRANSMIT; R394: a device that follows its partner's commands transmits nothing. -/
def execCanTransmit (p : Pkt) (s : State) : Out :=
  let c := canNo p
  let m := canObj p
  let st := s.canSt c
  .next (s.command p opCanTransmit
    [(outside (p.w 0) 0x7F03 || outside (p.w 1) 0xF, stBAD_PARAM),
     (!s.on (F.CANO_DIR c m) || st = cnCONFIG || s.get (F.CAN_MODE c) = 2 || st = cnBUS_OFF ||
        (s.on (F.CANO_FDF c m) && !s.on (F.CAN_FD_EN c)), stNOT_PERMITTED), (s.on (F.CANO_TXREQ c m), stQUEUE_FULL)]
    (fun t =>
      if t.standby then t.done p stDONE
      else
      let t1 := (t.put (F.CANO_DLC c m) (p.w 1)).setWords (F.CANO_DATA c m 0).addr ((List.range 16).map (fun i => p.w (2 + i)))
      (State.setTxreq c t1 m).done p stDONE))

/-- R396: the 80 bytes of object `m`. -/
def State.objWords (s : State) (c m : Nat) : List Nat :=
  let a := (F.CANO_EN c m).addr
  [(s.word (a + 0x0C)).toNat, (s.word (a + 4)).toNat] ++ s.getWords (a + 0x10) 18

/-- R396: CAN_RECEIVE. -/
def execCanReceive (p : Pkt) (s : State) : Out :=
  let c := canNo p
  let ms := (List.range 4).flatMap (fun k => objsOf k (p.w (k + 1)))
  let now := ms.take 48
  .next (s.command p opCanReceive [(outside (p.w 0) 0x10003, stBAD_PARAM)]
    (fun t =>
      let t1 := t.doneRes p ([b2n (decide (48 < ms.length)) * 2 ^ 8 + now.length] ++ now.flatMap (t.objWords c))
      if bitOf (p.w 0) 16 then now.foldl (fun (u : State) m => u.clearNew c m (u.get (F.CANO_SEQ c m)) false) t1 else t1))

/-- R396: CAN_STATUS. -/
def execCanStatus (p : Pkt) (s : State) : Out :=
  let c := canNo p
  let b := bCAN c
  .next (s.command p opCanStatus [(outside (p.w 0) 0x10003, stBAD_PARAM)]
    (fun t =>
      let w (o : Nat) : Nat := (t.word (b + o)).toNat
      let t1 := t.doneRes p ([w 0x0C, w 0x60, w 0x70, w 0x74, w 0x78, w 0x7C, w 0x80, 0] ++ t.getWords (b + 0x100) 8 ++ t.getWords (b + 0x130) 4)
      if bitOf (p.w 0) 16 then ((t1.put (F.BLK_STICKY b) 0).setWords (b + 0x130) [0, 0, 0, 0]).refreshLine b else t1))

/-- R28, R383, R385, R386, R395: a write to a register of controller `c` at offset 0x60 to 0x6C. -/
def State.canRegWrite (s : State) (c off v : Nat) : State :=
  let runs := decide (s.canSt c ≠ cnCONFIG)
  if off = 0x60 then
    let s1 := if bitOf v 4 = s.on (F.CAN_FD_EN c) then s
      else if runs then s.lockReject (bCAN c) (0x200 + c) (0x4000 * c + off) false else s.put (F.CAN_FD_EN c) (b2n (bitOf v 4))
    let s2 := s1.put (F.CAN_AUTO_RECOV c) (b2n (bitOf v 5))
    let s3 := if bitOf v 5 || bitOf v 6 then s2.canRecover c else s2
    if bits v 1 0 = s3.get (F.CAN_MODE c) then s3 else s3.canMode c (bits v 1 0)
  else
    let mask := if off = 0x64 then 0xFFFFFF7F else if off = 0x68 then 0x1FF1F0F else 0x8000007F
    let n := Nat.land v mask
    if n = (s.word (bCAN c + off)).toNat then s
    else if runs then s.lockReject (bCAN c) (0x200 + c) (0x4000 * c + off) false
    else if (off = 0x64 && nbtBad n) || (off = 0x68 && dbtBad n) then s.reject (bCAN c)
    else s.setWord (bCAN c + off) (Word.of n)

/-- R28, R386, R395: a write to word `o` of object `m` of controller `c`. -/
def State.objWrite (s : State) (c m o v : Nat) : State :=
  let a := (F.CANO_EN c m).addr + o
  let lock (u : State) : State := u.lockReject (bCAN c) (128 * c + m) (0x4000 * c + 0x1000 + 0x60 * m + o) false
  if o = 0 then
    let n := Nat.land v 0xFF000000
    let old := (s.word a).toNat
    if s.objLocked c m then
      let s1 := if bits n 30 24 = bits old 30 24 then s else lock s
      s1.put (F.CANO_EN c m) (b2n (bitOf v 31))
    else s.setWord a (Word.of n)
  else if o = 0x0C then s.objStatWrite c m v
  else if o = 0x10 ∨ o = 0x14 ∨ 0x58 ≤ o then s
  else
    let n := if o = 4 ∨ o = 8 then Nat.land v 0x1FFFFFFF else v
    if n = (s.word a).toNat then s else if s.objLocked c m then lock s else s.setWord a (Word.of n)

end Sys2Proof.Machine
end

