-- ==== Sys2Proof/Machine/Sto.lean ====
section
/-! DEFINITION. The Sluice, the safe-torque-off unit (16_sluice_safe_torque_off R397-R421). -/

namespace Sys2Proof.Machine

/-- R400: Sluice states. -/
def suTEST : Nat := 0
def suSAFE : Nat := 1
def suARMED : Nat := 2
def suFAULT : Nat := 3

/-- R407: channel states. -/
def chOFF : Nat := 0
def chREADY : Nat := 1
def chON : Nat := 2
def chTESTING : Nat := 3
def chLOCKED : Nat := 4

/-- The state with the Sluice changed. -/
def State.stoI (s : State) (f : StoInt → StoInt) : State := { s with sto := f s.sto }

/-- STATE of the Sluice, of channel `k`. -/
def State.suSt (s : State) : Nat := s.get F.STO_BLK_STAT_STATE
def State.chSt (s : State) (k : Nat) : Nat := s.get (F.STO_CH_STATE k)

/-- R417: word `i` of the active configuration. -/
def State.sc (s : State) (i : Nat) : Nat := iw s.sto.cfg i

/-- R417: fields of the configuration. -/
def State.sinFilt (s : State) (i : Nat) : Nat := bits (s.sc (4 + i)) 3 0
def State.sinTpo (s : State) (i : Nat) : Nat := bits (s.sc (4 + i)) 6 4
def State.sinPair (s : State) (i : Nat) : Bool := bitOf (s.sc (4 + i)) 8
def State.sinRst (s : State) (i : Nat) : Bool := bitOf (s.sc (4 + i)) 9
def State.sinDisc (s : State) (i : Nat) : Nat := bits (s.sc (4 + i)) 23 16
def State.chSins (s : State) (k : Nat) : Nat := bits (s.sc (20 + k)) 15 0
def State.chConns (s : State) (k : Nat) : Nat := bits (s.sc (20 + k)) 31 16
def State.chB (s : State) (k : Nat) : Nat := s.sc (32 + k)
def State.chEn (s : State) (k : Nat) : Bool := bitOf (s.chB k) 21
def State.connA (s : State) (j : Nat) : Nat := s.sc (44 + j)
def State.connEn (s : State) (j : Nat) : Bool := bitOf (s.connA j) 15

/-- R404: a channel that names one input of a pair is demanded by either. -/
def State.pairMask (s : State) (m : Nat) : Nat :=
  (List.range 8).foldl (fun v i => if s.sinPair (2 * i) && (bitOf m (2 * i) || bitOf m (2 * i + 1)) then Nat.lor v (3 * 4 ^ i) else v) m

/-- The interior of input `i`, channel `k`, connection `j`. -/
def State.sinI (s : State) (i : Nat) : SinInt := tabGet {} s.sto.sins i
def State.setSin (s : State) (i : Nat) (v : SinInt) : State := s.stoI (fun t => { t with sins := tabSet {} t.sins i v })
def State.stoCh (s : State) (k : Nat) : StoCh := tabGet {} s.sto.chs k
def State.setStoCh (s : State) (k : Nat) (v : StoCh) : State := s.stoI (fun t => { t with chs := tabSet {} t.chs k v })
def State.sfConn (s : State) (j : Nat) : SfConn := tabGet {} s.sto.conns j
def State.setSf (s : State) (j : Nat) (v : SfConn) : State := s.stoI (fun t => { t with conns := tabSet {} t.conns j v })

/-- R407: channel `k` takes state `st`, and its output follows. Every change posts a record but those between ON and
TESTING. -/
def State.setChSt (s : State) (k st : Nat) : State :=
  let old := s.chSt k
  if old = st then s
  else
    let out := b2n (st = chON)
    let c := s.stoCh k
    let s1 := if s.get (F.STO_CH_OUT k) = out then s else (s.put (F.STO_CH_OUT k) out).setStoCh k { c with since := 0, bad := 0 }
    let s2 := (s1.put (F.STO_CH_STATE k) st).pulse (306 + k)
    let quiet := (old = chON && st = chTESTING) || (old = chTESTING && st = chON)
    let sev := if st = chLOCKED then 2 else if st = chOFF ∧ (old = chON ∨ old = chTESTING) then 1 else 0
    if quiet then s2 else s2.postSev sev 0x0D10 k (st + s2.get (F.STO_CH_FAULT k) * 2 ^ 8) 0

/-- R212, R400: the Sluice takes state `st`: leaving ARMED every channel but a LOCKED one goes OFF. -/
def State.setSuSt (s : State) (st : Nat) : State :=
  if s.suSt = st then s
  else
    let s1 := ((s.put F.STO_BLK_STAT_STATE st).put F.PWM_BLK_STAT_SLUICE_ARMED (b2n (st = suARMED))).raise bSTO 8
    let s2 := if st = suARMED then s1
      else (List.range 12).foldl (fun (t : State) k => if t.chSt k = chLOCKED then t else t.setChSt k chOFF) s1
    let s3 := (s2.postSev (if st = suFAULT then 2 else 0) 0x0D10 0xFFFF (st + s2.get F.STO_FAULT_CODE * 2 ^ 8) 0).msix 15
    (s3.pulse 318).applyAllTrips.mirSto s

/-- R400, R402, R420: a fault of class Sluice: the first one is latched; one that comes during the self-test that follows
a CLEAR_FAULT keeps the latch. -/
def State.suFault (s : State) (code : Nat) : State :=
  let s1 := (s.incSat F.STO_FAULT_COUNT).stoI (fun t => { t with clearing := false })
  let s2 := if s1.get F.STO_FAULT_CODE = 0 then s1.put F.STO_FAULT_CODE code else s1
  if s2.suSt = suSAFE ∨ s2.suSt = suARMED then s2.setSuSt suFAULT else s2

/-- R417, R420: a configuration becomes active; its mirror shows 0 for REQ_KEY. -/
def State.useCfg (s : State) (ws : List Nat) : State :=
  let s1 := s.stoI (fun t => { t with cfg := ws, conns := [], disc := [], cross := 0, tpoCnt := 0 })
  let s2 := s1.setWords (F.STO_CFG 0).addr ((List.range 78).map (fun i => if i = 2 then 0 else iw ws i))
  ((s2.put F.STO_BLK_STAT_CFG_VALID (b2n (!ws.isEmpty))).put F.STO_CFG_ID (iw ws 1)).put F.STO_CFG_CRC (iw ws 77)

/-- R400, R402, R415: the self-test ends with `code`, 0 where it passes. A stored configuration whose CRC is wrong is
corrupt, any other is held; a fault latch that a reset left set leads to FAULT, and a CLEAR_FAULT whose test passes clears
it. -/
def State.selfTestDone (s : State) (code : Nat) : State :=
  let ws := s.mram.safety
  let corrupt := !ws.isEmpty && decide (crc32cWords (ws.take 77) ≠ iw ws 77)
  let found := if code ≠ 0 then code else if s.sto.vddBad then 4 else if corrupt then 6 else 0
  let cfg := if corrupt then [] else ws
  let s1 := if s.sto.clearing && found = 0 then s.put F.STO_FAULT_CODE 0 else s
  let s2 := ((if found = 0 then s1 else s1.suFault found).stoI (fun t => { t with clearing := false, staging := cfg })).useCfg cfg
  if s2.get F.STO_FAULT_CODE = 0 then s2.setSuSt suSAFE
  else if s.stage = STAGE_FW_RUN ∨ s.stage = STAGE_RING_JOIN ∨ s.stage = STAGE_OPERATIONAL then (s2.stageFail 0x05).setSuSt suFAULT
  else s2.setSuSt suFAULT

/-- R400: the Sluice self-test ends; R45: STAGE may advance. -/
def execSluiceSelfTestDone (code : Nat) (s : State) : Out :=
  .next (if s.suSt = suTEST && !s.sto.held && decide (code ≤ 7) then (s.selfTestDone code).bootAdvance else s)

/-- R399: the Sluice is held in reset: every output is low and all it holds is gone but the fault latch and the counters (R402, R420); firmware's
SLUICE_REQUEST packets stand outside it. -/
def State.stoHold (s : State) : State :=
  let s1 := (List.range 12).foldl (fun (t : State) k =>
    ((t.put (F.STO_CH_FAULT k) 0).setChSt k chOFF).setWord (F.STO_CH_FAULT k).addr 0) (s.setSuSt suTEST)
  let s2 := (s1.stoI (fun t => { held := true, vddBad := true, waiting := t.waiting, expiry := t.expiry })).useCfg []
  let s3 := (s2.setWords (F.STO_CONN_FAULT 0).addr (List.replicate 16 0)).setWord F.STO_SIN.addr 0
  ((s3.put F.STO_NONCE 0).setWord F.STO_REQ_RES_CODE.addr 0).put F.STO_BLK_STAT_REQ_BUSY 0

/-- R399: VDD_SAFE leaves 3.0-3.6 V; below 2.7 V the Sluice is held in reset. -/
def execVddSafeFault (below27 : Bool) (s : State) : Out :=
  let s0 := { s with sys := { s.sys with railHist := putBit s.sys.railHist 8 true } }
  let s1 := if s.sto.vddBad then s0 else s0.suFault 4
  let s2 := s1.stoI (fun t => { t with vddBad := true })
  .next (if below27 && !s2.sto.held then s2.stoHold else s2)

/-- R38, R40: a window of the cross-monitor ends with a count of CTL_CLK ticks. -/
def execCrossMonitorWindow (count : Nat) (s : State) : Out :=
  .next (if (decide (count < 3600) || decide (4400 < count)) && !s.sto.held then s.suFault 3 else s)

/-- R404, R405: input `i` receives an input fault. -/
def State.inFault (s : State) (i code : Nat) : State :=
  if (s.sinI i).code ≠ 0 then s
  else ((s.setSin i { s.sinI i with code := code }).put F.STO_IN_FLT (putBit (s.get F.STO_IN_FLT) i true)).raise bSTO 11

/-- R403, R405, R406: input `i` takes its sample `v` of this cycle; `own` where it is the test sample of its own TPO. The
inputs whose filtered state falls after a press of 100 ms to 2 s are gathered. -/
def State.sampleSin (s : State) (i : Nat) (v own : Bool) : State × Bool :=
  let filt := bitOf (s.get F.STO_SIN) i
  let x := s.sinI i
  let run := if own then x.run else if v = filt then 0 else x.run + 1
  let flip := !own && decide (s.sinFilt i < run)
  let now := if flip then v else filt
  let press := flip && filt && s.sinRst i && decide (2000 ≤ x.high) && decide (x.high ≤ 40000)
  let high := if now then min 40001 (x.high + 1) else 0
  let s1 := s.setSin i { x with run := if flip then 0 else run, high := high }
  let s2 := if flip then s1.put F.STO_SIN (putBit (s1.get F.STO_SIN) i v) else s1
  let s3 := if s.sinRst i && high = 40001 && x.high = 40000 then s2.raise bSTO 14 else s2
  ((if own && v then s3.inFault i 2 else s3), press)

/-- R405: the cross-fault of input `i`, found at the sample after the test sample of another TPO. -/
def State.crossCheck (s : State) (i : Nat) (v : Bool) : State := if bitOf s.sto.cross i && v then s.inFault i 3 else s

/-- R404: the pair of inputs 2i and 2i + 1. -/
def State.pairCheck (s : State) (i : Nat) : State :=
  let sin := s.get F.STO_SIN
  if !s.sinPair (2 * i) || (bitOf sin (2 * i) == bitOf sin (2 * i + 1)) then s.stoI (fun t => { t with disc := tabSet 0 t.disc i 0 })
  else
    let n := tabGet 0 s.sto.disc i + 1
    let s1 := s.stoI (fun t => { t with disc := tabSet 0 t.disc i (min n 60000) })
    if 200 * s.sinDisc (2 * i) < n then (s1.inFault (2 * i) 1).inFault (2 * i + 1) 1 else s1

/-- R403-R406: the safe inputs at the start of a cycle: the state, and the inputs that gave a reset event. -/
def State.sampleSins (s : State) (sin : Nat) : State × Nat :=
  let tpo := s.sto.tpoLow
  let r := (List.range 16).foldl (fun (t : State × Nat) i =>
    let v := bitOf sin i
    let (u, press) := (t.1.crossCheck i v).sampleSin i v (tpo = some (s.sinTpo i) && decide (s.sinTpo i ≤ 3))
    (u, putBit t.2 i press)) (s, 0)
  let s1 := (List.range 8).foldl State.pairCheck r.1
  let cross := match tpo with
    | none => 0
    | some j => (List.range 16).foldl (fun m i =>
        putBit m i (s.sinTpo i ≠ 7 && s.sinTpo i ≠ j && bitOf s.sto.prev i && !bitOf sin i)) 0
  (s1.stoI (fun t => { t with prev := sin, cross := cross }), r.2)

/-- R405: the test-pulse outputs: one pulse every TPO_PER seconds of 20,000 cycles, the outputs in turn, while some input
is tested. -/
def State.stepTpo (s : State) : State :=
  let used := (List.range 16).any (fun i => decide (s.sinTpo i ≤ 3)) && !s.sto.cfg.isEmpty
  let per := 20000 * bits (s.sc 3) 5 0
  if !used || !s.on F.SYS_ARM_OUTEN then s.stoI (fun t => { t with tpoLow := none, tpoCnt := 0 })
  else if per ≤ s.sto.tpoCnt + 1 then
    s.stoI (fun t => { t with tpoLow := some t.tpoNext, tpoNext := (t.tpoNext + 1) % 4, tpoCnt := 0 })
  else s.stoI (fun t => { t with tpoLow := none, tpoCnt := t.tpoCnt + 1 })

/-- R407, R418, R420: the demands in force on channel `k`: SIN, connection bit, request, not armed, input fault,
connection fault. Masks of a channel with EN = 0 are not in use. -/
def State.chCause (s : State) (k : Nat) : Nat :=
  let sins := if s.chEn k then s.pairMask (s.chSins k) else 0
  let js := (List.range 16).filter (fun j => s.chEn k && bitOf (s.chConns k) j && s.connEn j)
  let a := (List.range 16).any (fun i => bitOf sins i && !bitOf (s.get F.STO_SIN) i)
  let b := js.any (fun j => !bitOf (s.sfConn j).bits k)
  let e := Nat.land sins (s.get F.STO_IN_FLT) ≠ 0
  let f := js.any (fun j => decide (s.get (F.STO_CONN_FAULT j) ≠ 0))
  b2n a + b2n b * 2 + b2n (bitOf s.sto.demand k) * 4 + b2n (s.suSt ≠ suARMED) * 8 + b2n e * 16 + b2n f * 32

/-- R407, R420: a fault locks channel `k`: 1 FB_STATIC, 2 FB_TEST. -/
def State.lockCh (s : State) (k code : Nat) : State :=
  (((s.put (F.STO_CH_FAULT k) code).incSat F.STO_TEST_FAIL).lifeAdd64 0x40 1 |>.raise bSTO 10).setChSt k chLOCKED

/-- R407: FB_STATIC of channel `k`, in two consecutive samples taken FB_T after the last change of the output. -/
def State.chFaults (s : State) (k : Nat) (fb : Bool) : State :=
  let c := { s.stoCh k with since := min 100 ((s.stoCh k).since + 1) }
  let st := s.chSt k
  let differs := fb != s.on (F.STO_CH_OUT k) && decide (bits (s.chB k) 15 12 + 1 ≤ c.since)
  if st = chOFF ∨ st = chREADY ∨ st = chON then
    let n := if differs then c.bad + 1 else 0
    if 2 ≤ n then (s.setStoCh k { c with bad := 0 }).lockCh k 1 else s.setStoCh k { c with bad := n }
  else s.setStoCh k c

/-- R407: demands on channel `k`. -/
def State.chDemands (s : State) (k : Nat) : State :=
  let dem := decide (s.chCause k ≠ 0)
  let st := s.chSt k
  if dem && (st = chON || st = chTESTING) then
    ((s.incSat F.STO_DEMANDS).lifeAdd64 0x38 1 |>.raise bSTO 9).setChSt k chOFF
  else if dem && st = chREADY then (s.raise bSTO 9).setChSt k chOFF
  else if !dem && st = chOFF then s.setChSt k chREADY
  else s

/-- R406: a reset event of channel `k`. -/
def State.chResets (s : State) (k press : Nat) : State :=
  let b := s.chB k
  let ev := if bitOf b 20 then bitOf s.sto.resets k else bitOf press (bits b 19 16)
  if ev && s.chSt k = chREADY then (s.setChSt k chON).setStoCh k { ((s.setChSt k chON).stoCh k) with timer := 0, due := false } else s

/-- R408: no demand source of channel `k` shows a low sample; a test sample of an input's own TPO is none. -/
def State.sinsHigh (s : State) (k sin : Nat) (tpo : Option Nat) : Bool :=
  let m := s.pairMask (s.chSins k)
  (List.range 16).all (fun i => !bitOf m i || bitOf sin i || (tpo = some (s.sinTpo i) && decide (s.sinTpo i ≤ 3)))

/-- R407, R408: the test-pulse step of channel `k`; `free` while no test has started in this cycle. -/
def State.chTests (s : State) (k sin : Nat) (tpo : Option Nat) (fb free : Bool) : State × Bool :=
  let w := bits (s.chB k) 10 8
  let st := s.chSt k
  let c0 := s.stoCh k
  let rnd := decide (20000 * bits (s.chB k) 5 0 ≤ c0.timer)
  let on := st = chON || st = chTESTING
  let c := if on then { c0 with timer := if rnd then 1 else c0.timer + 1, due := c0.due || rnd } else c0
  if st = chTESTING then
    let p := c.pulse + 1
    if p < w then (s.setStoCh k { c with pulse := p, pulseFb := fb }, free)
    else
      let high := if w = 1 then fb else c.pulseFb
      let s1 := (s.setStoCh k { c with pulse := p }).incSat F.STO_TESTS
      if high then (s1.lockCh k 2, free) else (s1.setChSt k chON, free)
  else if st = chON && c.due && free && s.sinsHigh k sin tpo then
    ((s.setStoCh k { c with due := false, pulse := 0, pulseFb := true }).setChSt k chTESTING, false)
  else (s.setStoCh k c, free)

/-- R407: channel `k` in one cycle: faults, demands, reset events, test-pulse steps. -/
def State.chCycle (sin fbs press : Nat) (tpo : Option Nat) (a : State × Bool) (k : Nat) : State × Bool :=
  let fb := bitOf fbs k
  let s := a.1.put (F.STO_CH_FB k) (b2n fb)
  if !s.chEn k then (s.put (F.STO_CH_CAUSE k) (s.chCause k), a.2)
  else
    let s1 := ((s.chFaults k fb).chDemands k).chResets k press
    let (s2, free) := s1.chTests k sin tpo fb a.2
    (s2.put (F.STO_CH_CAUSE k) (s2.chCause k), free)

/-- R411: bits of frames confirmed since the last cycle come into force. -/
def State.takeSfBits (s : State) : State :=
  (List.range 16).foldl (fun (t : State) j =>
    match (t.sfConn j).coming with
    | some b => t.setSf j { t.sfConn j with bits := b, coming := none }
    | none => t) s

/-- R407: a sequencer cycle. -/
def State.suCycle (s : State) (sin fbs diag : Nat) : State :=
  let tpo := s.sto.tpoLow
  let (s1, press) := s.takeSfBits.sampleSins sin
  let s2 := if diag = 0 then s1 else s1.suFault diag
  let s3 := ((List.range 12).foldl (State.chCycle sin fbs press tpo) (s2, true)).1
  (s3.stepTpo.stoI (fun t => { t with resets := 0 })).applyAllTrips.mirSto s

/-- R399, R403, R407: a sequencer cycle: samples of the safe inputs and of the readbacks, and a Sluice fault that a
diagnostic has found, 0 none. Below 2.7 V and in TEST no cycle runs. -/
def execSluiceCycle (sin fb diag : Nat) (s : State) : Out :=
  .next (if s.suSt = suTEST || s.sto.held || decide (7 < diag) then s else s.suCycle (sin % 2 ^ 16) (fb % 2 ^ 12) diag)

/-- R409: one bit of the reflected CRC-32 with polynomial 0xF4ACFB13. -/
def crcF4Bit (c : Nat) : Nat := if c % 2 = 1 then Nat.xor (c / 2) 0xC8DF352F else c / 2

/-- R409, R415: the reflected CRC-32 of a list of words from the initial value given, with the final XOR. -/
def crcF4 (init : Nat) (ws : List Nat) : Nat :=
  let byte (c b : Nat) : Nat := (List.range 8).foldl (fun x _ => crcF4Bit x) (Nat.xor c b)
  Nat.xor ((ws.flatMap wordBytes).foldl byte init) 0xFFFFFFFF

/-- R409: SCRC of a safety segment. -/
def scrc (conn : Nat) (ws : List Nat) : Nat := crcF4 (Nat.xor 0xFFFFFFFF (conn % 2 ^ 16 * 0x00010001)) ws

/-- R410: a copy of a safety segment that is valid for connection `j`. -/
def State.sfValid (s : State) (j : Nat) (ws : List Nat) (valid null : Bool) : Bool :=
  let id := bits (s.connA j) 31 16
  let w1 := iw ws 1
  valid && !null && decide (ws.length = 3) && decide (bits (iw ws 0) 31 16 = id) &&
  decide (bits w1 31 16 = 65535 - bits w1 15 0) && decide (iw ws 2 = scrc id (ws.take 2))

/-- R411: SEQ `q` is newer than the last confirmed number. -/
def SfConn.newer (c : SfConn) (q : Nat) : Bool :=
  match c.last with
  | none => true
  | some l => let d := (q + 65536 - l) % 65536; decide (1 ≤ d) && decide (d ≤ 32767)

/-- R411, R412, R420: FAULT of connection `j`: of two faults in force the one that came first, then the other (log entry 152). -/
def State.showConn (s : State) (j : Nat) : State :=
  let c := s.sfConn j
  let old := s.get (F.STO_CONN_FAULT j)
  s.put (F.STO_CONN_FAULT j) (if old = 2 && c.wd then 2 else if c.mis then 1 else if c.wd then 2 else 0)

/-- R411, R412: the number `q` of connection `j` is confirmed with bits `b`: both timers restart, and a WATCHDOG fault ends
with 16 in succession. -/
def State.sfConfirm (s : State) (j q b : Nat) : State :=
  let c := s.sfConn j
  let n := if c.last = some ((q + 65535) % 65536) then c.good + 1 else 1
  let wait := c.wait.filter (fun e => e.2.1 ≠ q)
  let c1 : SfConn := { c with coming := some b, last := some q, good := min n 16, wait := wait, started := s.time.tick,
                              wd := c.wd && decide (n < 16) }
  ((((s.setSf j c1).put (F.STO_CONN_SEQ j) q).put (F.STO_CONN_OK_A j) 1).put (F.STO_CONN_OK_B j) 1).showConn j

/-- R411, R412: connection `j` receives a fault: 1 MISMATCH, 2 WATCHDOG. -/
def State.connFault (s : State) (j code : Nat) : State :=
  let c := s.sfConn j
  ((s.setSf j (if code = 1 then { c with mis := true } else { c with wd := true })).showConn j).raise bSTO 12

/-- R411: a valid copy of number `q` with bits `b` from `port`. -/
def State.sfCopy (s : State) (j port q b : Nat) : State :=
  let c := s.sfConn j
  let k := s.get F.RING_CYCLE_NUM
  match c.wait.find? (fun e => e.1 ≠ port && e.2.1 = q && decide ((k + 2 ^ 32 - e.2.2.2) % 2 ^ 32 ≤ 2)) with
  | some (_, _, b0, _) =>
    if b0 ≠ b then (s.setSf j { c with wait := c.wait ++ [(port, q, b, k)] }).connFault j 1
    else if c.newer q then s.sfConfirm j q b
    else s.setSf j { c with wait := c.wait ++ [(port, q, b, k)] }
  | none => s.setSf j { c with wait := c.wait ++ [(port, q, b, k)] }

/-- R410: a copy of segment `seg` arrives at `port` for every connection bound to the segment. -/
def State.safetyRx (s : State) (port seg : Nat) (ws : List Nat) (valid null : Bool) : State :=
  if s.suSt = suTEST || s.sto.held then s
  else (List.range 16).foldl (fun (t : State) j =>
    if !(t.connEn j && bits (t.connA j) 8 0 = seg) then t
    else if !t.sfValid j ws valid null then t.incSat F.STO_SF_BAD
    else t.sfCopy j port (bits (iw ws 0) 15 0) (bits (iw ws 1) 15 0)) s

/-- R411: copies left unmatched after two ring cycles. -/
def State.safetyCycleEnd (s : State) : State :=
  let k := s.get F.RING_CYCLE_NUM
  (List.range 16).foldl (fun (t : State) j =>
    let c := t.sfConn j
    let old := c.wait.filter (fun e => decide (2 ≤ (k + 2 ^ 32 - e.2.2.2) % 2 ^ 32))
    if old.isEmpty then t
    else old.foldl (fun (u : State) _ => u.incSat F.STO_SF_UNMATCHED)
      (t.setSf j { c with wait := c.wait.filter (fun e => decide ((k + 2 ^ 32 - e.2.2.2) % 2 ^ 32 < 2)) })) s

/-- R412: the timer of a connection and a port expires, not before 0.9 x SF_WD x 10 microseconds after its restart. -/
def execSfWatchdog (j port : Nat) (s : State) : Out :=
  let f := if port = 0 then F.STO_CONN_OK_B j else F.STO_CONN_OK_A j
  .next (if j < 16 && port < 2 && s.on f && s.connEn j then
      let s1 := (s.advanceTick ((s.sfConn j).started + 3600 * s.sc (60 + j))).put f 0
      (s1.setSf j { s1.sfConn j with good := 0 }).connFault j 2
    else s)

/-- R413: SAFE_BITS that this device produces. -/
def State.safeBits (s : State) : Nat :=
  if s.suSt ≠ suARMED then 0
  else if bitOf (s.sc 76) 12 then (List.range 12).foldl (fun m k => putBit m k (s.chSt k = chON)) 0
  else Nat.land (s.get F.STO_SIN) (65535 - s.get F.STO_IN_FLT)

/-- R413: the segment that the Sluice produces into, while TX_EN. -/
def State.safetySeg (s : State) : Option Nat := if bitOf (s.sc 76) 15 then some (bits (s.sc 76) 8 0) else none

/-- R409, R413: the Sluice delivers its safety segment at a latch; in TEST it delivers nothing. -/
def State.safetyTx (s : State) : State :=
  match s.safetySeg with
  | none => s
  | some seg =>
    if s.suSt = suTEST || s.sto.held then s
    else
      let id := bits (s.sc 76) 31 16
      let q := s.sto.txSeq
      let b := s.safeBits
      let ws := [id * 2 ^ 16 + q, (65535 - b) * 2 ^ 16 + b]
      let s1 := s.stoI (fun t => { t with txSeq := (q + 1) % 65536 })
      s1.setTx seg { s1.txSeg seg with words := [(0, iw ws 0), (1, iw ws 1), (2, scrc id ws)].filter (fun e => e.2 ≠ 0), due := [] }

/-- R418: fields of the inputs that a configuration may not hold. -/
def sinsBad (ws : List Nat) : Bool :=
  (List.range 16).any (fun i =>
    let w := iw ws (4 + i)
    outside w (if i % 2 = 0 then 0xFF037F else 0xFF027F) || !([0, 1, 2, 3, 7].contains (bits w 6 4)) ||
    (i % 2 = 0 && bitOf w 8 && decide (bits w 23 16 = 0)))

/-- R418: the channel words that a configuration may not hold. -/
def chsBad (ws : List Nat) : Bool :=
  let rst (i : Nat) : Bool := bitOf (iw ws (4 + i)) 9
  (List.range 12).any (fun k =>
    let a := iw ws (20 + k)
    let b := iw ws (32 + k)
    let w := bits b 10 8
    let per := bits b 5 0
    outside b 0x3FF73F || (List.range 16).any (fun i => rst i && bitOf a i) ||
    (bitOf b 21 && (w = 0 || decide (5 < w) || per = 0 || decide (60 < per) || (!bitOf b 20 && !rst (bits b 19 16)) ||
      (decide (bits a 15 0 = 0) && !(List.range 16).any (fun j => bitOf a (16 + j) && bitOf (iw ws (44 + j)) 15)))))

/-- R418: the connection words that a configuration may not hold. -/
def connsBad (ws : List Nat) : Bool :=
  let en := (List.range 16).filter (fun j => bitOf (iw ws (44 + j)) 15)
  let ids := en.map (fun j => bits (iw ws (44 + j)) 31 16)
  (List.range 16).any (fun j => outside (iw ws (44 + j)) 0xFFFF81FF || outside (iw ws (60 + j)) 0xFFFF) ||
  en.any (fun j => decide (iw ws (60 + j) = 0)) || ids.contains 0 || !noRepeat ids ||
  outside (iw ws 76) 0xFFFF91FF || (bitOf (iw ws 76) 15 && decide (bits (iw ws 76) 31 16 = 0))

/-- R418: the staging copy that CONFIG_COMMIT refuses. -/
def safetyBad (ws : List Nat) (crc : Nat) : Bool :=
  let per := iw ws 3
  let tested := (List.range 16).any (fun i => decide (bits (iw ws (4 + i)) 6 4 ≤ 3))
  decide (crc32cWords (ws.take 77) ≠ iw ws 77) || decide (iw ws 77 ≠ crc) || decide (iw ws 0 ≠ 0x00010000) || outside per 0x3F ||
  (tested && (per = 0 || decide (60 < per))) || sinsBad ws || chsBad ws || connsBad ws

/-- R415: result codes of a request. -/
def rqOK : Nat := 0
def rqNONCE : Nat := 1
def rqCHECK : Nat := 2
def rqSTATE : Nat := 3
def rqPARAM : Nat := 4

/-- The 78 words of the staging copy. -/
def State.stagingWords (s : State) : List Nat := (List.range 78).map (iw s.sto.staging)

/-- R416: the state check of request `code` with argument `arg`. -/
def State.rqStateBad (s : State) (code arg : Nat) : Bool :=
  let st := s.suSt
  match code with
  | 1 => !(st = suSAFE || st = suFAULT)
  | 2 => st ≠ suSAFE
  | 3 => !(st = suSAFE && s.on F.STO_BLK_STAT_CFG_VALID)
  | 4 => st ≠ suARMED
  | 5 => st ≠ suARMED
  | 8 => bitOf arg 12 && st ≠ suFAULT
  | 9 => st ≠ suARMED
  | _ => false

/-- R416: the parameter check of request `code`. -/
def State.rqParamBad (s : State) (code arg : Nat) (ws : List Nat) : Bool :=
  match code with
  | 1 => outside arg 0x7FF || bits arg 10 8 = 0 || decide (5 < bits arg 10 8) || decide (78 < bits arg 7 0 + bits arg 10 8)
  | 2 => safetyBad s.stagingWords (iw ws 1)
  | 3 => false
  | 4 => false
  | 8 => outside arg 0x1FFF || outside (iw ws 1) 0xFFFF || outside (iw ws 2) 0xFFFF
  | 5 => outside arg 0xFFF
  | 6 => outside arg 0xFFF
  | 7 => outside arg 0xFFF
  | 9 => outside arg 0xFFF
  | _ => true

/-- R415: the checks of a request, in their order. -/
def State.rqCheck (s : State) (ws : List Nat) : Nat :=
  let code := bits (iw ws 0) 31 24
  let arg := bits (iw ws 0) 23 0
  if iw ws 6 ≠ s.get F.STO_NONCE then rqNONCE
  else if iw ws 7 ≠ crcF4 (s.sc 2) (ws.take 7) then rqCHECK
  else if s.rqStateBad code arg then rqSTATE
  else if s.rqParamBad code arg ws then rqPARAM
  else rqOK

/-- R421: the status of a SLUICE_REQUEST by its result. -/
def rqStatus (r : Nat) : Nat := if r = 0 then stDONE else if r ≤ 2 then stAUTH_FAILED else if r = 3 then stNOT_PERMITTED else stBAD_PARAM

/-- R421: the SLUICE_REQUEST `p` ends with status `st`, if it has had no result yet. -/
def State.rqAnswer (s : State) (p : Pkt) (st : Nat) : State :=
  match s.sto.expiry.find? (fun e => e.1 = p) with
  | some e => (s.stoI (fun t => { t with expiry := t.expiry.erase e })).done p st
  | none => s

/-- R415: the Sluice writes the result of the request and draws a new nonce. -/
def State.rqFinish (s : State) (r : Nat) : State :=
  match s.sto.req with
  | none => s
  | some (ws, p) =>
    let (n, s0) := s.fresh
    let s1 := ((s0.put F.STO_REQ_RES_CODE (bits (iw ws 0) 31 24)).put F.STO_REQ_RES_RESULT r).put F.STO_NONCE (n % 2 ^ 32)
    let s2 := (s1.put F.STO_BLK_STAT_REQ_BUSY 0).stoI (fun t => { t with req := none })
    let s3 := if r = 0 then s2 else s2.raise bSTO 13
    match p with
    | some q => s3.rqAnswer q (rqStatus r)
    | none => s3

/-- R415: a request is submitted; one that fails a check is refused, any other waits for its effect. A Sluice held in reset takes none. -/
def State.rqSubmit (s : State) (ws : List Nat) (p : Option Pkt) : State :=
  if s.sto.held then s
  else
    let s1 := (s.put F.STO_BLK_STAT_REQ_BUSY 1).stoI (fun t => { t with req := some (ws, p), mail := ws })
    let r := s1.rqCheck ws
    if r = rqOK then s1 else s1.rqFinish r

/-- R421: the mailbox is free again: firmware relays the SLUICE_REQUEST packets that wait, in their order. -/
def State.rqPump : Nat → State → State
  | 0, s => s
  | n + 1, s =>
    if s.sto.held then s
    else match s.sto.req, s.sto.waiting with
    | none, p :: r => State.rqPump n ((s.stoI (fun t => { t with waiting := r })).rqSubmit ((List.range 8).map p.w) (some p))
    | _, _ => s

/-- The mailbox has done with a request. -/
def State.rqEnd (s : State) (r : Nat) : State := let s1 := s.rqFinish r; State.rqPump s1.sto.waiting.length s1

/-- R415, R416: the Sluice carries out the request that waits, if its code is `code`. -/
def State.rqRun (s : State) (code : Nat) (effect : Nat → List Nat → State → State) : State :=
  match s.sto.req with
  | none => s
  | some (ws, _) =>
    if bits (iw ws 0) 31 24 ≠ code then s
    else
      let r := s.rqCheck ws
      if r ≠ rqOK then s.rqEnd r else (effect (bits (iw ws 0) 23 0) ws s).rqEnd rqOK

/-- R415: STO_REQ7 is written; while a request is being checked the write is ignored (log entry 60). -/
def execStoReq7Write (v : Word) (s : State) : Out :=
  let ws := (List.range 7).map (iw s.sto.mail) ++ [v.toNat]
  .next (if s.sto.req.isSome then s else let s1 := s.rqSubmit ws none; State.rqPump s1.sto.waiting.length s1)

/-- R416: CONFIG_WRITE. -/
def execConfigWrite (s : State) : Out :=
  .next (s.rqRun 1 (fun arg ws t =>
    let first := bits arg 7 0
    let n := bits arg 10 8
    t.stoI (fun u => { u with staging := (List.range 78).map (fun i =>
      if first ≤ i ∧ i < first + n then iw ws (1 + i - first) else iw u.staging i) })))

/-- R418: CONFIG_COMMIT. -/
def execConfigCommit (s : State) : Out :=
  .next (s.rqRun 2 (fun _ _ t =>
    let c := t.stagingWords
    let t1 := { t with mram := { t.mram with safety := c } }
    (t1.useCfg c).post 0x0D11 0 (iw c 1) (iw c 77)))

/-- R416: ARM. -/
def execArm (s : State) : Out := .next (s.rqRun 3 (fun _ _ t => t.setSuSt suARMED))

/-- R416: DISARM. -/
def execDisarm (s : State) : Out := .next (s.rqRun 4 (fun _ _ t => t.setSuSt suSAFE))

/-- R406, R416: RESET; it acts at the next cycle, on channels with RST_SRC = 1. -/
def execReset (s : State) : Out := .next (s.rqRun 5 (fun arg _ t => t.stoI (fun u => { u with resets := Nat.lor u.resets arg })))

/-- R416: DEMAND. -/
def execDemand (s : State) : Out := .next (s.rqRun 6 (fun arg _ t => t.stoI (fun u => { u with demand := Nat.lor u.demand arg })))

/-- R416: RELEASE. -/
def execRelease (s : State) : Out :=
  .next (s.rqRun 7 (fun arg _ t => t.stoI (fun u => { u with demand := Nat.land u.demand (4095 - arg) })))

/-- R404, R416: the fault of input `i` is cleared, if its pair is high. -/
def State.clearIn (s : State) (i : Nat) : State :=
  let sin := s.get F.STO_SIN
  let pair := s.sinPair (i - i % 2)
  if pair && !(bitOf sin (i - i % 2) && bitOf sin (i - i % 2 + 1)) then s
  else (s.setSin i { s.sinI i with code := 0 }).put F.STO_IN_FLT (putBit (s.get F.STO_IN_FLT) i false)

/-- R407, R416: the fault of channel `k` is cleared while its readback is low. -/
def State.clearCh (s : State) (k : Nat) : State :=
  if s.chSt k = chLOCKED && !s.on (F.STO_CH_FB k) then (s.put (F.STO_CH_FAULT k) 0).setChSt k chOFF else s

/-- R411, R412, R416: the faults of connection `j` are cleared, a WATCHDOG only if no timer of it has expired. -/
def State.clearConn (s : State) (j : Nat) : State :=
  let c := s.sfConn j
  (s.setSf j { c with mis := false, wd := c.wd && !(s.on (F.STO_CONN_OK_A j) && s.on (F.STO_CONN_OK_B j)) }).showConn j

/-- R400, R402, R416: CLEAR_FAULT for the Sluice: the full self-test, unless VDD_SAFE is still out of range. -/
def State.clearSluice (s : State) : State :=
  if s.sto.vddBad then s else (s.stoI (fun t => { t with clearing := true })).setSuSt suTEST

/-- R416: CLEAR_FAULT. -/
def execClearFault (s : State) : Out :=
  .next (s.rqRun 8 (fun arg ws t =>
    let t1 := ((List.range 12).filter (bitOf arg)).foldl State.clearCh t
    let t2 := ((List.range 16).filter (bitOf (iw ws 1))).foldl State.clearIn t1
    let t3 := ((List.range 16).filter (bitOf (iw ws 2))).foldl State.clearConn t2
    if bitOf arg 12 then t3.clearSluice else t3))

/-- R416: TEST_NOW. -/
def execTestNow (s : State) : Out :=
  .next (s.rqRun 9 (fun arg _ t =>
    ((List.range 12).filter (fun k => bitOf arg k && t.chSt k = chON)).foldl (fun (u : State) k =>
      u.setStoCh k { u.stoCh k with due := true }) t))

/-- R421: SLUICE_STATUS. -/
def execSluiceStatus (p : Pkt) (s : State) : Out :=
  .next (s.command p opSluiceStatus []
    (fun t =>
      let w (o : Nat) : Nat := (t.word (bSTO + o)).toNat
      t.doneRes p ([w 0x08, w 0x68, w 0x70, w 0x74, w 0x64, w 0x60] ++ t.getWords (bSTO + 0x100) 12 ++ t.getWords (bSTO + 0x200) 16 ++
        [w 0x80, w 0x84, w 0x88])))

/-- R421: SLUICE_REQUEST: firmware relays it to the mailbox, after those that came before it. -/
def execSluiceRequest (p : Pkt) (s : State) : Out :=
  .next (s.command p opSluiceRequest []
    (fun t =>
      let t1 := t.stoI (fun u => { u with waiting := u.waiting ++ [p], expiry := u.expiry ++ [(p, t.now + 1000000)] })
      State.rqPump t1.sto.waiting.length t1))

/-- R421: the oldest SLUICE_REQUEST without a result has had none within 1 ms; one that firmware has not yet relayed is not relayed. -/
def execSluiceRequestTimeout (s : State) : Out :=
  .next (match s.sto.expiry with
    | (p, e) :: _ => ((s.advanceTo e).stoI (fun t => { t with waiting := t.waiting.erase p })).rqAnswer p stTIMEOUT
    | [] => s)

/-- R399, R400: VDD_SAFE returns into range; a Sluice that was held in reset starts its self-test. -/
def execVddSafeRestored (s : State) : Out :=
  let s1 := s.stoI (fun t => { t with held := false, vddBad := false })
  .next (State.rqPump s1.sto.waiting.length s1)

end Sys2Proof.Machine
end

