-- ==== Sys2Proof/Machine/Splice.lean ====
section
/-! DEFINITION. Splice links: link state, shared time, shared results, message frames and their commands
(17_lashing_and_splice R422-R428, R444, R445). -/

namespace Sys2Proof.Machine

/-- R424: the words of a frame received, from its header to its CRC. -/
def splWhole (f : SplFrame) (ftype : Nat) (content : List Nat) : List Nat := splWords ftype f.dst f.src f.schema f.mseq content

/-- R423, R424: a frame arrives: one whose CRC fails is discarded and counted, one longer than 4,096 bytes is discarded; one for another
identifier is forwarded as it is; one for this device is taken. -/
def State.splRx (s : State) (f : SplFrame) (ftype : Nat) (content : List Nat) (body : State → State) : State :=
  if decide (2 ≤ f.link) || !s.splUp f.link then s
  else if !f.crcOk then (s.incSat (F.SPLL_CRC_ERR f.link)).raise bSPLICE 9
  else if decide (1021 < content.length) then s
  else
    let s1 := s.incSat (F.SPLL_RX_FRAMES f.link)
    if f.dst = s.get F.SPL_ID then body s1 else s1.splOut (splWhole f ftype content)

/-- R91, R444: link `l` goes down. -/
def State.splDown (s : State) (l : Nat) : State :=
  let s1 := ((s.put (splUpBit l) 0).put (splPeerValid l) 0).raise bSPLICE 8
  let s2 := (s1.incSat (F.SPLL_LINK_DOWN l)).incSat (F.SPLL_PCS_ERR l)
  if s.splRoute 0 = some l && s.splice.timeUp then (s2.dropSource 4).sourceLost 4 else s2

/-- R422: a link's block lock comes or goes. -/
def execSpliceLinkChange (l : Nat) (up : Bool) (s : State) : Out :=
  .next (if decide (2 ≤ l) || !s.on (splEn l) || s.on (splUpBit l) == up then s
    else if up then (if s.on (sdsLock 0) then (s.put (splUpBit l) 1).raise bSPLICE 8 else s)
    else s.splDown l)

/-- R423, R428: what a neighbour's TIME frame tells of identifier `d` at link `l`: hops and UID. -/
def State.splLearn (s : State) (l src hops : Nat) (uids : List Nat) (d : Nat) : State :=
  if d = s.get F.SPL_ID then (s.put (splHops d) 0).put64 (F.SPL_UID d) (s.get64 F.STAT_UID_LO_UID)
  else if d = src then (s.put (splHops d) 1).put64 (F.SPL_UID d) (uids.getD d 0)
  else if s.splRoute d = some l then
    (s.put (splHops d) (min 3 (bits hops (2 * d + 1) (2 * d) + 1))).put64 (F.SPL_UID d) (uids.getD d 0)
  else s

/-- R426, R529: a TIME exchange on the link towards identifier 0 is an offset sample, in 1/16 ns, for a device other than 0. -/
def State.splTime (s : State) (l : Nat) (offset : Int) : State :=
  if s.get F.SPL_ID = 0 || s.splRoute 0 ≠ some l then s
  else
    let s1 := { s with splice := { s.splice with timeUp := true } }
    if s1.get F.TIME_BLK_STAT_ACTIVE_SRC = 4 then s1.timeSample offset else s1

/-- R426, R428: the content of a TIME frame: the hops to each identifier and their UIDs. Its layout is the model's (log entry 71). -/
def timeWords (hops : Nat) (uids : List Nat) : List Nat := hops :: (List.range 4).flatMap (fun d => w64 (uids.getD d 0))

/-- R426: what this device's TIME frames tell. -/
def State.ownTime (s : State) : List Nat :=
  timeWords (bits (s.word (splHops 0).addr).toNat 15 8) ((List.range 4).map (fun d => s.get64 (F.SPL_UID d)))

/-- R426: the TIME exchange with the neighbour at a link. -/
def execSpliceTimeFrame (f : SplFrame) (offset : Int) (hops : Nat) (uids : List Nat) (s : State) : Out := s.awake (
  .next (s.splRx f 1 (timeWords hops uids) (fun t =>
    let t1 := ((t.put (splPeer f.link) f.src).put (splPeerValid f.link) 1).splEmit [(f.link, t.splFrame 1 f.src t.ownTime)]
    ((List.range 4).foldl (fun (u : State) d => u.splLearn f.link f.src hops uids d) t1).splTime f.link offset)))

/-- A held result joins the list in the order of delivery. -/
def insertSig (e : SigHeld) : List SigHeld → List SigHeld
  | [] => [e]
  | x :: r => if e.at' < x.at' then e :: x :: r else x :: insertSig e r

/-- R123, R427: a partner's result, which left its converter 120 ns after its sample instant `ts`, is held for its delivery, or is too
late. -/
def State.signalRx (s : State) (f : SplFrame) (core word ts : Nat) : State :=
  let e : SigHeld := { at' := ts + 120 + 300 * s.get (splHops f.src), key := (f.src * 8 + core % 8) * 16 + bits word 25 22, word := word, ts := ts }
  if e.at' < s.now then (s.incSat (F.SPLL_LATE_SIG f.link)).raise bSPLICE 10
  else { s with splice := { s.splice with sigs := insertSig e s.splice.sigs } }

/-- R427: a SIGNAL frame arrives. -/
def execSignalFrameRx (f : SplFrame) (core : Nat) (word : Word) (ts : Nat) (s : State) : Out := s.awake (
  .next (s.splRx f 2 ([word.toNat, core] ++ w64 ts) (fun t => t.signalRx f core word.toNat ts)))

/-- R140, R427: slots fed by partner, core and entry `key` are ticked. -/
def State.feedSplice (s : State) (key : Nat) : State :=
  let sel := bits key 6 4 + 2 ^ 4 * (key % 16) + 2 ^ 16 * (key / 128)
  (s.usedSlots.filter (fun n => s.fbSrc n = 4 && s.tickSrc n = 0 &&
    decide (Nat.land (s.get (F.SLOT_FB_SEL n)) 0x300F7 = sel))).foldl (fun (t : State) n => t.tickSlot n false) s

/-- R427: the result at the head of those held reaches its delivery instant. -/
def execSignalDelivery (s : State) : Out := s.awake (
  .next (match s.splice.sigs with
    | [] => s
    | e :: r =>
      let s1 := s.advanceTo e.at'
      let v : AdcRes := { word := e.word, ts := e.ts, seq := s1.loop.seq + 1 }
      { s1 with splice := { s1.splice with sigs := r, res := tabSet {} s1.splice.res e.key v } }.feedSplice e.key))

/-- R428: a COMMAND frame carries a packet into Q4. -/
def execSpliceCommandRx (f : SplFrame) (ws : List Word) (s : State) : Out := s.awake (
  let l := ws.map (fun w => w.toNat)
  .next (s.splRx f 3 l (fun t => t.remoteArrive (pktOfWords l (t.get64 (F.SPL_UID f.src)) true))))

/-- R112, R428: a REPLY frame, without its CRC, goes to the receive descriptor at RX_HEAD; with no descriptor it is discarded. -/
def State.splToRing (s : State) (ws : List Nat) (stamp : Nat) : State :=
  let h := s.get F.SPL_RX_HEAD
  let a := s.get F.SPL_MSG_RX_BASE + 32 * h
  let w1 := (s.word (a + 4)).toNat
  if h = s.get F.SPL_RX_TAIL || !bitOf w1 31 then s
  else
    let size := bits w1 15 0
    let s1 := s.putBytes (s.word a).toNat ((toBytes ws).take size)
    let s2 := (s1.setWords (a + 4) [b2n (decide (size < 4 * ws.length)) * 2 ^ 29 + 4 * ws.length]).setWords (a + 16)
      [stamp % 2 ^ 32, stamp / 2 ^ 32 % 2 ^ 32]
    (s2.put F.SPL_RX_HEAD ((h + 1) % ringLen (s.get F.SPL_RX_LOG))).pulse 264

/-- R428: a REPLY frame arrives. -/
def execSpliceReplyRx (f : SplFrame) (ws : List Word) (stamp : Nat) (s : State) : Out := s.awake (
  let l := ws.map (fun w => w.toNat)
  .next (s.splRx f 4 l (fun t => t.splToRing (splWhole f 4 l).dropLast stamp)))

/-- R111, R428: the frames of the transmit descriptors up to TX_TAIL leave, each with its CRC; one that cannot leave sets ERR. -/
def State.splTxRing : Nat → State → State
  | 0, s => s
  | k + 1, s =>
    let h := s.get F.SPL_TX_HEAD
    let a := s.get F.SPL_MSG_TX_BASE + 16 * h
    let w1 := (s.word (a + 4)).toNat
    if h = s.get F.SPL_TX_TAIL || !bitOf w1 31 then s
    else
      let f := withCrc (toWords (s.takeBytes (s.word a).toNat (bits w1 15 0)))
      let ok := s.splReach (splDst f) && decide (3 ≤ f.length) && decide (f.length ≤ 1024)
      let s1 := if ok then s.splOut f else s
      let s2 := (s1.setWord (a + 4) (Word.of (w1 % 2 ^ 30 + 2 ^ 30 * b2n (!ok)))).put F.SPL_TX_HEAD ((h + 1) % ringLen (s.get F.SPL_TX_LOG))
      State.splTxRing k (s2.pulse 265)

/-- R111: TX_TAIL is written. -/
def State.splTail (s : State) (v : Nat) : State := State.splTxRing 1024 (s.put F.SPL_TX_TAIL (bits v 9 0))

/-- R422, R423, R445: SPL_CTRL takes a value; a link that is disabled goes down. -/
def State.splCtrl (s : State) (v : Nat) : State :=
  let gone := [0, 1].filter (fun l => s.on (splUpBit l) && !bitOf v l)
  (gone.foldl (fun (t : State) l => t.splDown l) s).setWord 0x20100060 (Word.of (Nat.land v 0x33))

/-- R445: a slot fed by a partner over link `l`, or by what core code does, is in CLOSED or OBSERVER. -/
def State.splFeeds (s : State) (l : Nat) : Bool :=
  s.usedSlots.any (fun n => (s.slotSt n = slCLOSED || s.slotSt n = slOBSERVER) && s.fbSrc n = 4 &&
    s.splRoute (bits (s.get (F.SLOT_FB_SEL n)) 17 16) = some l)

/-- R445: a slot in CLOSED or OBSERVER takes its feedback from core `c`. -/
def State.splCoreFeeds (s : State) (c : Nat) : Bool :=
  s.usedSlots.any (fun n => (s.slotSt n = slCLOSED || s.slotSt n = slOBSERVER) && s.fbSrc n = 4 &&
    bits (s.get (F.SLOT_FB_SEL n)) 17 16 = s.get F.SPL_ID && bits (s.get (F.SLOT_FB_SEL n)) 2 0 = c)

/-- R445: reserved values of SPLICE_CONFIG. -/
def spliceCfgBad (p : Pkt) : Bool :=
  outside (p.w 0) 0x10 || outside (p.w 1) 0x33 || outside (p.w 2) 0xFF || outside (p.w 3) 0xFF ||
  (List.range 4).any (fun d => bits (p.w 2) (2 * d + 1) (2 * d) = 3)

/-- R445: what SPLICE_CONFIG writes. -/
def State.spliceCfg (s : State) (w1 w2 w3 : Nat) : State :=
  ((s.splCtrl w1).put F.SPL_ROUTE w2).put F.SPL_CORES w3

/-- R445: SPLICE_CONFIG. -/
def execSpliceConfig (p : Pkt) (s : State) : Out :=
  let off := [0, 1].filter (fun l => s.on (splEn l) && !bitOf (p.w 1) l)
  let cores := (List.range 8).filter (fun c => bitOf (s.get F.SPL_CORES) c && !bitOf (p.w 3) c)
  let paired := s.lash.partner = lsSYNCING || s.lash.partner = lsSTANDBY
  .next (s.command p opSpliceConfig
    [(spliceCfgBad p, stBAD_PARAM),
     (off.any (fun l => s.mirrorLinks.contains l) && s.on F.LASH_EN && paired, stNOT_PERMITTED),
     (off.any s.splFeeds || cores.any s.splCoreFeeds, stLOOP_CLOSED)]
    (fun t =>
      let t1 := t.spliceCfg (p.w 1) (p.w 2) (p.w 3)
      (if bitOf (p.w 0) 4 then { t1 with mram := { t1.mram with splice := some [p.w 1, p.w 2, p.w 3] } } else t1).done p stDONE))

/-- R445: SPLICE_STATUS. -/
def execSpliceStatus (p : Pkt) (s : State) : Out :=
  .next (s.command p opSpliceStatus []
    (fun t => t.doneRes p (t.getWords 0x20100060 4 ++ t.getWords 0x20100100 6 ++ t.getWords 0x20100120 6 ++ t.getWords 0x20100140 8)))

end Sys2Proof.Machine
end

