-- ==== Sys2Proof/Machine/Lash.lean ====
section
/-! DEFINITION. The Lashing: mirror frames, the digest, pair states, takeover, bring-up, switch, and their commands
(17_lashing_and_splice R429-R443, R445). -/

namespace Sys2Proof

/-- R440: the unit that a command of the mirror stream names: slots 0-511, axes 512 + n; none for any other. -/
def Pkt.unit (p : Pkt) : Option Nat :=
  if p.opcode = 0 then
    (if Machine.bits (p.w 6) 31 28 = 1 then some (Machine.bits (p.w 7) 8 0)
     else if Machine.bits (p.w 6) 31 28 = 2 then some (512 + Machine.bits (p.w 7) 6 0) else none)
  else if p.opcode / 0x100 = 2 then some (p.w 0 % 512)
  else if p.opcode / 0x100 = 3 && decide (p.opcode ≠ Machine.opCamTableWrite) && decide (p.opcode ≠ Machine.opAxisStepTable) then
    some (512 + p.w 0 % 128)
  else none

end Sys2Proof

namespace Sys2Proof.Machine

/-- R442: partner schema `p` is accepted by a device of schema `o`. -/
def schemaOk (o p : Nat) : Bool := decide (o ≤ p + 1) && decide (p ≤ o + 1)

/-- R424, R429: how far MSEQ `q` is beyond the last one accepted: 1 where it follows it, or is the first one. -/
def State.mseqStep (s : State) (q : Nat) : Nat :=
  match s.lash.seqRx with
  | some p => (q + 2 ^ 24 - p) % 2 ^ 24
  | none => 1

/-- R429, R437: MSEQ `q` of a mirror frame at a device that follows its partner: `body` where it follows, `again` where it is a repeat; a gap
makes the device LOST. -/
def State.mseqTake (s : State) (q : Nat) (body again : State → State) : State :=
  let d := s.mseqStep q
  if d = 1 then body (s.lashI (fun v => { v with seqRx := some q }))
  else if d = 0 || decide (2 ^ 23 ≤ d) then again s
  else s.lashLost 15

/-- R424, R437: a mirror frame at a device in SYNCING or STANDBY: a repeat is discarded, a gap in MSEQ or a schema out of
range makes it LOST. -/
def State.mirAccept (s : State) (f : SplFrame) (body : State → State) : State :=
  if f.src ≠ s.get F.LASH_PARTNER || !s.mirrorLinks.contains f.link || !s.standby then s
  else if !schemaOk (s.get F.LASH_OWN_SCHEMA) f.schema then s.lashLost 12
  else s.mseqTake f.mseq body id

/-- R429: a mirror frame of type `ftype` with its content arrives. -/
def State.mirRx (s : State) (f : SplFrame) (ftype : Nat) (content : List Nat) (body : State → State) : State :=
  s.splRx f ftype content (fun t => t.mirAccept f body)

/-- PARTNER_SEEN as it stands: a CONTROL frame in the last 1 ms. -/
def State.refreshSeen (s : State) : State :=
  s.put F.LASH_PARTNER_SEEN (b2n (decide (s.lash.seen ≠ 0) && decide (s.now < s.lash.seen + 1000000)))

/-- R437: the partner's state as told; vector 14 on a change; R440: a bring-up begins or ends with it. -/
def State.setPartner (s : State) (st : Nat) : State :=
  if s.lash.partner = st then s
  else (s.lashI (fun v => { v with partner := st, snapSent := false, seedCyc := none, seedSent := [] })).msix 14

/-- R440: what a device starts SYNCING with. -/
def State.startSync (s : State) : State :=
  (s.lashI (fun v => { v with seqRx := none, cmds := v.cmds.filter (fun e => e.2.queue ≠ 5), sto := 0, deltaIn := [], delta := [], inputs := [],
                              snap := [], loaded := false, seeded := [], equal := 0 })).setLash lsSYNCING

/-- R437: in SEEKING: whether this device is the one that becomes ACTIVE. -/
def State.lashWins (s : State) (c : LashControl) : Bool :=
  let own := s.on F.LASH_PREFER
  if own != c.prefer then own else decide (s.get64 F.STAT_UID_LO_UID < c.uid)

/-- R437: SEEKING with a partner that is SEEKING or ACTIVE. -/
def State.seekPartner (s : State) (c : LashControl) : State :=
  let join (t : State) : State := if t.on F.LASH_AUTO_SYNC || c.snapshot then t.startSync else t.setLash lsLOST
  if c.state = lsSEEKING then (if s.lashWins c then s.setLash lsACTIVE else join s)
  else if c.state = lsACTIVE then join s
  else s

/-- R440: the device that is brought up has entered STANDBY: LASH_SNAPSHOT is answered. -/
def State.snapEnd (s : State) : State :=
  if s.lash.snapPkt.isEmpty || s.lash.partner ≠ lsSTANDBY then s
  else s.lash.snapPkt.foldl (fun (t : State) e => t.done e.1 stDONE) ((s.lashI (fun v => { v with snapPkt := [] })).incSat F.LASH_SNAPSHOTS)

/-- R440: the partner has loaded the image: S1 is the next cycle start. -/
def State.seedFrom (s : State) (loaded : Bool) : State :=
  if loaded && decide (s.lash.partner = lsSYNCING) && s.lash.seedCyc.isNone then
    s.lashI (fun v => { v with seedCyc := some ((s.get F.RING_CYCLE_NUM + 1) % 2 ^ 32) })
  else s

/-- R437: what a CONTROL frame of an accepted partner does in each state. -/
def State.controlAct (s : State) (c : LashControl) : State :=
  let st := s.lashSt
  let synced := st = lsSYNCING || st = lsSTANDBY || st = lsLOST
  if st = lsSEEKING then s.seekPartner c
  else if synced && c.detach then s.setLash lsDETACHED
  else if st = lsLOST && c.state = lsACTIVE && (c.snapshot || s.on F.LASH_AUTO_SYNC) then s.startSync
  else if st = lsSTANDBY && c.switchCyc.isSome then s.lashI (fun v => { v with switchCyc := c.switchCyc })
  else if st = lsACTIVE then (s.seedFrom c.loaded).snapEnd
  else s

/-- R432: the identifiers of the two active application images are equal. -/
def State.progMatch (s : State) (c : LashControl) : Bool :=
  match s.prog.active, c.image with
  | some p, some i => p.id = i
  | _, _ => false

/-- R437, R442: a CONTROL frame from the partner. -/
def State.controlRx (s : State) (f : SplFrame) (c : LashControl) : State :=
  if !s.on F.LASH_EN || f.src ≠ s.get F.LASH_PARTNER then s
  else
    let s1 := ((s.put F.LASH_PARTNER_SCHEMA c.schema).put64 F.LASH_PARTNER_UID_LO c.uid).put F.LASH_PROG_MATCH (b2n (s.progMatch c))
    let s2 := (s1.lashI (fun v => { v with seen := s.now + 1, prefer := c.prefer, image := c.image })).refreshSeen.setPartner c.state
    if schemaOk (s2.get F.LASH_OWN_SCHEMA) c.schema then s2.controlAct c else s2.lashLost 12

/-- R437: a CONTROL frame arrives. -/
def execControlFrameRx (f : SplFrame) (c : LashControl) (s : State) : Out := s.awake (
  .next (s.splRx f 8 (controlWords c) (fun t => t.controlRx f c)))

/-- R432: a frame of a delta arrives; the last one makes it whole. -/
def execDeltaRx (f : SplFrame) (d : ProgDelta) (last : Bool) (s : State) : Out := s.awake (
  .next (s.mirRx f 0x13 (deltaWords d last) (fun t => t.lashI (fun v =>
    if last then { v with deltaIn := [], delta := v.delta ++ [deltaWhole (v.deltaIn ++ [d])] } else { v with deltaIn := v.deltaIn ++ [d] }))))

/-- R440: the bits of the word at address `a` that the image of static state holds: what software configures (RW, RWL and staged fields) in the
register maps of ADC, PWM, LOOP, MOTION, CAN, ACQ, OPIO and GPIO beyond the common registers and of the compare and capture units, and the
memories of the array whole (log entry 154). -/
def snapMask (a : Nat) : Nat :=
  let n := (a - 0x20000000) / 0x10000
  let o := if n = 10 then a % 0x4000 else a % 0x10000
  if 0x21000000 ≤ a ∧ a < 0x21300000 then 0xFFFFFFFF
  else if 0x20000000 ≤ a && decide (a < 0x20130000) && (([5, 6, 7, 8, 10, 12, 15, 18].contains n && decide (0x60 ≤ o)) || (n = 4 && decide (0x400 ≤ o))) then
    (match regAt a with
     | some (row, _) => row.fields.foldl (fun m r => if r.acc = .rw ∨ r.acc = .rwl ∨ r.acc = .stg then setBits m r.hi r.lo 0xFFFFFFFF else m) 0
     | none => 0)
  else 0

/-- The bits of `mask` at address `a` become those of `v`. -/
def State.setMasked (s : State) (a mask v : Nat) : State :=
  if mask = 0 then s
  else
    let w := (s.word a).toNat
    s.setWord a (Word.of (w - Nat.land w mask + Nat.land v mask))

/-- R440: what the image of static state does not list stands at reset. -/
def State.snapClear (s : State) : State :=
  (s.words.map Prod.fst).foldl (fun (t : State) a => t.setMasked a (snapMask a) (resetWord a).toNat) s

/-- R440 phase 2: a part of the image of static state is loaded. A running ring has its schedule in force already. -/
def State.loadPart (s : State) (p : SnapPart) : State :=
  match p with
  | .words a ws => (List.range ws.length).foldl (fun (t : State) i => t.setMasked (a + 4 * i) (snapMask (a + 4 * i)) (ws.getD i 0).toNat) s
  | .program ws =>
    let l := ws.map (fun w => w.toNat)
    if (progFault l).isNone then { s with prog := { s.prog with active := some (parseProg l), st := max s.prog.st pgSTOPPED } } else s
  | .spare ws =>
    let l := ws.map (fun w => w.toNat)
    if (progFault l).isNone then { s with prog := { s.prog with spare := some (parseProg l) } } else s
  | .recipe n ws => s.setRcp n { words := ws.map (fun w => w.toNat), st := rcREADY }
  | .schedule inUse ws =>
    let sc := parseSched (ws.map (fun w => w.toNat)) s.otp.uid
    if inUse && s.ringRuns then s
    else { s with ring := { s.ring with banks := tabSet none s.ring.banks (if inUse then s.get F.RING_STAT_BANK else s.spareBank) sc } }

/-- R440: two parts of one body are one part. -/
def joinPart (p q : SnapPart) : Option SnapPart :=
  match p, q with
  | .program a, .program b => some (.program (a ++ b))
  | .spare a, .spare b => some (.spare (a ++ b))
  | .recipe n a, .recipe m b => if n = m then some (.recipe n (a ++ b)) else none
  | .schedule u a, .schedule v b => if u = v then some (.schedule u (a ++ b)) else none
  | _, _ => none

/-- R440: the parts of an image of static state, those of one body joined. -/
def joinParts (ps : List SnapPart) : List SnapPart :=
  ps.foldr (fun p l => match l with
    | q :: r => (match joinPart p q with | some x => x :: r | none => p :: l)
    | [] => [p]) []

/-- R440 phase 2: the image of static state is loaded. -/
def State.loadSnap (s : State) (ps : List SnapPart) : State :=
  ((joinParts ps).foldl State.loadPart s.snapClear).lashI (fun v =>
    { v with snap := [], loaded := true, loadCyc := s.get F.RING_CYCLE_NUM })

/-- Words at rising addresses as runs of neighbours, at most `n` words each. -/
def wordRuns (n : Nat) (l : List (Nat × Word)) : List (Nat × List Word) :=
  (l.foldl (fun (acc : List (Nat × List Word)) e =>
    match acc with
    | (a, ws) :: r => if a + 4 * ws.length = e.1 ∧ ws.length < n then (a, ws ++ [e.2]) :: r else (e.1, [e.2]) :: acc
    | [] => [(e.1, [e.2])]) []).reverse

/-- R440 phase 1: the image of static state, in parts that a frame holds: configuration and cam tables, program banks, recipes, schedule
banks. -/
def State.snapParts (s : State) : List SnapPart :=
  let cut (ws : List Nat) : List (List Word) := cutList 1000 (ws.map Word.of)
  let bank (b : Nat) : List SnapPart := match tabGet none s.ring.banks b with
    | some sc => (cut sc.image).map (.schedule (b = s.get F.RING_STAT_BANK))
    | none => []
  let body (p : Option PImage) : List (List Word) := match p with | some im => cut im.body | none => []
  (wordRuns 1000 (s.words.filter (fun e => snapMask e.1 ≠ 0))).map (fun (a, ws) => .words a ws) ++
    (body s.prog.active).map .program ++ (body s.prog.spare).map .spare ++
    s.prog.recipes.flatMap (fun (n, r) => (cut r.words).map (.recipe n)) ++ bank 0 ++ bank 1

/-- R440: the content of a SNAP frame, the last one of its image or not. Its layout is the model's (log entry 71). -/
def snapWords (p : SnapPart) (last : Bool) : List Nat :=
  let h (k n : Nat) (ws : List Word) : List Nat := [b2n last + 2 * k, n] ++ ws.map (fun w => w.toNat)
  match p with
  | .words a ws => h 0 a ws
  | .program ws => h 1 0 ws
  | .spare ws => h 2 0 ws
  | .recipe n ws => h 3 n ws
  | .schedule u ws => h 4 (b2n u) ws

/-- R440 phase 1: the ACTIVE sends the image of its static state; the next delta holds every page of program state. -/
def State.snapTx (s : State) : State :=
  let ps := s.snapParts
  let s1 := (List.range ps.length).foldl (fun (t : State) i =>
    t.mirrorSend 0x14 (snapWords (ps.getD i (.words 0 [])) (decide (i + 1 = ps.length)))) s
  let pages := match s.prog.active with | some p => List.range ((p.words + 1023) / 1024) | none => []
  { s1 with prog := { s1.prog with dirty := pages } }.lashI (fun v => { v with snapSent := true })

/-- R440 phase 3: what seeds axis `n` at cycle `k`. -/
def State.axSeed (s : State) (n k : Nat) : Seed :=
  let x := s.ax n
  .axis n k ((s.getWords (F.AX_CFG n).addr 64).map Word.of) x.p x.v x.a

/-- R440: what the ACTIVE of a bring-up sends at the start of cycle `k`: the image; from S1 on the axes whose servo boundary this is; 16
cycles later the slots that have had no sample. -/
def State.bringUp (s : State) (k : Nat) : State :=
  if s.lashSt ≠ lsACTIVE || s.lash.partner ≠ lsSYNCING then s
  else
    let s1 := if s.lash.snapSent then s else s.snapTx
    let axs := (List.range 96).filter (fun n => k % (s.get (F.AX_CFG_SERVO_DIV n) + 1) = 0)
    let s2 := axs.foldl (fun (t : State) n => t.seedTx (512 + n) 0 k (t.axSeed n k)) s1
    (List.range 512).foldl (fun (t : State) n => t.seedSlot n 16 k) s2

/-- R440 phase 3: the unit of a seed, and the input cycle at which it was seeded. -/
def seedNo (x : Seed) : Nat := match x with | .slot n _ _ _ _ _ => n | .axis n _ _ _ _ _ => 512 + n
def seedAt (x : Seed) : Nat := match x with | .slot _ c _ _ _ _ => c | .axis _ c _ _ _ _ => c

/-- R440: a seed comes at S1 + (n >> 5) or later, axes at S1 or later; S1 comes after the cycle in which the image was loaded. -/
def State.seedOk (s : State) (x : Seed) : Bool :=
  decide (seedNo x < 608) && cycleDue (seedAt x) (s.lash.loadCyc + 1 + (if seedNo x < 512 then seedNo x / 32 else 0))

/-- R440 phase 3: a unit takes what seeds it; of the commands held for it those whose application point came no later have had their effect. -/
def State.seedUnit (s : State) (x : Seed) : State :=
  let s1 := match x with
    | .slot n _ st mem limits model =>
      let t := (s.setWords (F.SLOT_CFG0 n).addr ((mem.take 64).map (fun (w : Word) => w.toNat))).setWords (F.LOOP_OUT_MIN n).addr
        ((limits.take 4).map (fun (w : Word) => w.toNat))
      let u := if t.modelEn n then t.setWords (t.modelBase n) ((model.take 128).map (fun (w : Word) => w.toNat)) else t
      (u.put (F.LOOP_SLOT_STAT_STATE n) (st % 6)).setSlot n { u.slot n with used := (u.slot n).used || mem.any (fun (w : Word) => w ≠ 0) }
    | .axis n _ mem p v a =>
      (s.setWords (F.AX_CFG n).addr ((mem.take 64).map (fun (w : Word) => w.toNat))).setAx n { s.ax n with p := p, v := v, a := a }
  s1.lashI (fun l => { l with seeded := seedNo x :: l.seeded.filter (fun k => k ≠ seedNo x),
                              cmds := l.cmds.filter (fun e => !(e.2.unit = some (seedNo x) && cycleDue (seedAt x) e.1)) })

/-- R440 phase 3 has ended: every unit has been seeded. -/
def State.seedDone (s : State) : Bool := decide (s.lash.seeded.length = 608)

/-- R435: a 64-bit value of two registers, low word first. -/
def State.two (s : State) (f : Fld) : List Nat := w64 (s.get64 f)

/-- R435: the record of axis `n`. -/
def State.axRec (s : State) (n : Nat) : List Nat := [s.get (F.AX_STATE n)] ++ s.two (F.AX_POS_LO n) ++ s.two (F.AX_VEL_LO n)

/-- R435: the records of every slot, and of the axes of word g. -/
def State.slotRecs (s : State) : List (List Nat) := (List.range 512).map s.slotRec
def State.axRecs (s : State) (g : Nat) : List Nat := (List.range 12).flatMap (fun i => s.axRec (g + 8 * i))

/-- R437: the states in which a device computes digests. -/
def State.lashPaired (s : State) : Bool := s.lashSt = lsACTIVE || s.standby

/-- R435: what D(k) covers is gathered from the start of cycle `k` on: `slots` are the records of the slots before anything of that cycle, which
later samples of earlier input cycles still change (`redig`); the axes' are those of the servo boundary at that start. -/
def State.takeDigest (s : State) (k : Nat) (slots : List (List Nat)) : State :=
  if s.on F.LASH_EN && s.lashPaired then
    s.lashI (fun v => { v with digs := ({ k := k, slots := slots, axes := (List.range 8).map s.axRecs } :: v.digs).take 2 })
  else s

/-- R435: the eight words of a digest. -/
def Dig.digWords (d : Dig) : List Nat :=
  (List.range 8).map (fun g => crc32cWords (((d.slots.drop (64 * g)).take 64).flatten ++ d.axes.getD g []))

/-- R436: the content of the DIGEST frame of cycle `k`. -/
def State.digWords (s : State) (k : Nat) (ws : List Nat) : List Nat :=
  [k, b2n (s.lash.resign && s.lashSt = lsACTIVE) * 2 ^ 8 + s.lashSt] ++ ws

/-- R436: D(k) goes to the registers and to the partner. R437, R439: an ACTIVE that resigns with its partner in STANDBY is
LOST. -/
def State.digSend (s : State) (k : Nat) (ws : List Nat) : State :=
  let s1 := (s.put F.LASH_DIG_CYC k).setWords (F.LASH_DIG 0).addr ws
  let s2 := s1.mirrorSend 0x12 (s1.digWords k ws)
  if s2.lashSt = lsACTIVE && s2.lash.resign && s2.lash.partner = lsSTANDBY then s2.setLash lsLOST else s2

/-- R435, R436: 1 us after the start of cycle k + 1. -/
def execDigestSend (s : State) : Out := s.awake (
  .next (match s.lash.digs with
    | _ :: d :: _ =>
      if s.on F.LASH_EN && s.lashPaired && s.ringRuns then (s.advanceTo (s.get64 F.RING_CYC_START_LO + 1000)).digSend d.k d.digWords else s
    | _ => s))

/-- R436: a bad digest. -/
def State.badDigest (s : State) : State :=
  let n := min 3 (s.get F.LASH_BAD_RUN + 1)
  let s1 := ((s.incSat F.LASH_BAD_DIGESTS).put F.LASH_BAD_RUN n).raise bSPLICE 11
  let s2 := s1.lashI (fun v => { v with equal := 0, firstBad := if n = 1 then some (s.get F.RING_CYCLE_NUM) else v.firstBad })
  if n < 2 then s2
  else if s2.lashSt = lsSTANDBY then
    (match s2.lash.firstBad with
     | some k => if s2.lash.pairCyc.contains k then s2.setLash lsLOST else s2.lashI (fun v => { v with takeover := true })
     | none => s2)
  else if s2.lashSt = lsACTIVE then s2.setPartner 0
  else s2

/-- R436, R438, R440: a good digest: its state, RESIGN and words. -/
def State.goodDigest (s : State) (ws : List Nat) : State :=
  let s1 := ((s.put F.LASH_BAD_RUN 0).setWords (F.LASH_PDIG 0).addr ((ws.drop 4).take 8)).lashI (fun v => { v with firstBad := none })
  let s2 := s1.setPartner (bits (iw ws 3) 3 0)
  if (ws.drop 4).take 8 ≠ (List.range 8).map (fun g => s2.get (F.LASH_DIG g)) then
    let s3 := (s2.incSat F.LASH_DIVERGENCES).raise bSPLICE 12
    s3.lashLost 12
  else if s2.lashSt = lsSTANDBY && bitOf (iw ws 3) 8 then s2.lashI (fun v => { v with takeover := true })
  else if s2.lashSt = lsACTIVE then s2.snapEnd
  else if s2.lashSt = lsSYNCING then
    (if 4 ≤ s2.lash.equal + 1 then s2.setLash lsSTANDBY else s2.lashI (fun v => { v with equal := v.equal + 1 }))
  else s2

/-- R423, R424, R436: a DIGEST frame arrives as (link, words): one whose CRC fails is counted on its link, one for another identifier is
forwarded, and the first one of the partner that a link of MIRROR brings is kept. -/
def State.digCopy (a : State × Option (List Nat)) (e : Nat × List Word) : State × Option (List Nat) :=
  let s := a.1
  let ws := e.2.map (fun w => w.toNat)
  if decide (2 ≤ e.1) || !s.splUp e.1 then a
  else if ws.length ≠ 13 || crcKind ws ≠ 0 then ((s.incSat (F.SPLL_CRC_ERR e.1)).raise bSPLICE 9, a.2)
  else
    let t := s.incSat (F.SPLL_RX_FRAMES e.1)
    if splDst ws ≠ s.get F.SPL_ID then (t.splOut ws, a.2)
    else if splType ws = 0x12 && bits (iw ws 0) 5 4 = s.get F.LASH_PARTNER && s.mirrorLinks.contains e.1 && a.2.isNone then (t, some ws)
    else (t, a.2)

/-- R436: the partner's digest of cycle `k` is good where it names the cycle of the device's own. -/
def State.digTake (ws : List Nat) (s : State) : State := if iw ws 2 = s.get F.LASH_DIG_CYC then s.goodDigest ws else s.badDigest

/-- R436, R437: the partner's digest is judged on the copies that have arrived; its MSEQ is that of any mirror frame. -/
def State.digJudge (s : State) (rx : List (Nat × List Word)) : State :=
  let r := rx.foldl State.digCopy (s, none)
  match r.2 with
  | none => r.1.badDigest
  | some ws =>
    if r.1.standby then r.1.mseqTake (bits (iw ws 1) 23 0) (State.digTake ws) State.badDigest else State.digTake ws r.1

/-- R436: 2 us after the start of cycle k + 1: in SYNCING from phase 4 on. -/
def execDigestDue (rx : List (Nat × List Word)) (s : State) : Out := s.awake (
  .next (if s.on F.LASH_EN && s.ringRuns &&
      (s.lashSt = lsSTANDBY || (s.lashSt = lsACTIVE && s.lash.partner ≠ 0) || (s.lashSt = lsSYNCING && s.seedDone)) then
      (s.advanceTo (s.get64 F.RING_CYC_START_LO + 2000)).digJudge rx
    else s))

/-- R437: LONE_TMO has passed in SEEKING with no partner and no valid copy of a pair segment in 16 cycles. -/
def execLoneTmoExpiry (s : State) : Out := s.awake (
  let tmo := s.lash.since + 10000000 * max 1 (s.get F.LASH_LONE_TMO)
  let alone := !(decide (s.lash.seen ≠ 0) && decide ((s.advanceTo tmo).now < s.lash.seen + 1000000))
  let quiet := match s.lash.pairCyc with
    | k :: _ => !s.ringRuns || decide (k + 16 ≤ s.get F.RING_CYCLE_NUM)
    | [] => true
  .next (if s.lashSt = lsSEEKING && alone && quiet then (s.advanceTo tmo).setLash lsACTIVE else s))

/-- R440: 500 ms have passed: at the ACTIVE the command is answered, the device brought up is LOST. -/
def execSnapshotTimeout (s : State) : Out :=
  .next (match s.lash.snapPkt with
    | (p, e) :: r => ((s.advanceTo e).lashI (fun v => { v with snapPkt := r })).done p stTIMEOUT
    | [] => if s.lashSt = lsSYNCING then (s.advanceTo (s.lash.since + 500000000)).setLash lsLOST else s)

/-- R441: MAX_WAIT has passed without a release point at which every task is idle. -/
def execLashSwitchTimeout (s : State) : Out :=
  .next (match s.lash.switchPkt with
    | (p, e) :: r =>
      if s.lash.switchCyc.isNone then ((s.advanceTo e).lashI (fun v => { v with switchPkt := r })).done p stTIMEOUT else s
    | [] => s)

/-- R443: on a takeover without PROG_MATCH the device's own image starts from its initial values; output words stand. -/
def State.ownImageStart (s : State) : State :=
  match s.prog.active with
  | none => s
  | some p =>
    if s.on F.LASH_PROG_MATCH || !s.progRuns then s
    else { s.initWords p (fun i => match p.area i with | some (_, 1) => true | _ => false) with
             prog := { s.prog with n := none } }

/-- R438: the STANDBY takes over; the last applied delta stands, a commit of the other device that waits for its transfer point is gone. -/
def State.lashTakeover (s : State) : State :=
  let s1 := ((s.incSat F.LASH_TAKEOVERS).raise bSPLICE 13).lifeInc 0x14
  let s2 := s1.ownImageStart
  ({ s2 with prog := { s2.prog with kept := [] } }.lashI (fun v => { v with seqTx := 0, partner := 0 })).setLash lsACTIVE

/-- R441: the roles are exchanged. -/
def State.lashSwap (s : State) : State :=
  let s1 := (s.incSat F.LASH_SWITCHES).lifeInc 0x14
  if s.lashSt = lsACTIVE then
    let at' := s1.get64 F.RING_CYC_START_LO + s1.get F.RING_CYCLE_NS
    let s2 := s1.lash.switchPkt.foldl (fun (t : State) e => t.reply e.1 stDONE [] at' true false) s1
    (s2.lashI (fun v => { v with switchPkt := [], partner := lsACTIVE, seqRx := none })).setLash lsSTANDBY
  else (s1.lashI (fun v => { v with partner := lsSTANDBY })).setLash lsACTIVE

/-- R438, R441: what the latch that ends a cycle makes of the Lashing, before the segments are latched. -/
def State.lashLatch (s : State) : State :=
  if s.lash.takeover && s.lashSt = lsSTANDBY then s.lashTakeover
  else if (s.lashSt = lsACTIVE || s.lashSt = lsSTANDBY) && s.lash.switchCyc = some ((s.get F.RING_CYCLE_NUM + 1) % 2 ^ 32) then s.lashSwap
  else s

/-- R437, R438: a valid copy of a pair segment arrived in cycle `k`. -/
def State.pairSeen (s : State) (k : Nat) : State :=
  if s.lash.pairCyc.head? = some k then s else s.lashI (fun v => { v with pairCyc := (k :: v.pairCyc).take 2 })

/-- R445: PAIR_NODE owns a segment in the schedule held. -/
def State.pairOwns (s : State) (n : Nat) : Bool :=
  match s.bankSched with
  | some sc => sc.segs.any (fun (_, _, _, o, _, _) => decide (o = n))
  | none => false

/-- R445: reserved bits, or a parameter out of range, in LASH_CONFIG. -/
def State.lashCfgBad (s : State) (p : Pkt) : Bool :=
  let c := p.w 1
  outside (p.w 0) 0x11 || (bits (p.w 0) 1 0 = 0 &&
    (outside c 0xFFFFFF1F || outside (p.w 2) 0xFF || p.w 2 = 0 || outside (p.w 7) 0xFFFF || outside (p.w 11) 0xF ||
      !s.pairOwns (bits c 22 16) || bits c 1 0 = s.get F.SPL_ID ||
      [0, 1].any (fun l => bitOf c (2 + l) && !(s.on (splPeerValid l) && s.get (splPeer l) = bits c 1 0))))

/-- R445: the eleven words of a Lashing configuration take effect. -/
def State.lashCfg (s : State) (ws : List Nat) : State :=
  let s1 := ((s.setWord 0x20100200 (Word.of (iw ws 0))).setWord 0x20100204 (Word.of (iw ws 1))).setWords 0x20100300 (ws.drop 2)
  if s1.on F.LASH_EN then (if s1.lashSt = lsOFF || s1.lashSt = lsDETACHED then s1.setLash lsSEEKING else s1)
  else s1.setLash lsOFF

/-- R437: the ACTIVE detaches its partner. -/
def State.detachPartner (s : State) : State := (s.controlSend { s.ownControl with detach := true }).setPartner lsDETACHED

/-- R445: LASH_CONFIG. -/
def execLashConfig (p : Pkt) (s : State) : Out :=
  let op := bits (p.w 0) 1 0
  let paired := s.lash.partner = lsSYNCING || s.lash.partner = lsSTANDBY
  let ws := (p.params.drop 1).map (fun w => w.toNat)
  .next (s.command p opLashConfig
    [(s.lashCfgBad p, stBAD_PARAM), (op = 0 && s.lashSt = lsACTIVE && paired, stNOT_PERMITTED), (op = 1 && s.lashSt ≠ lsACTIVE, stNOT_PERMITTED)]
    (fun t =>
      if op = 1 then t.detachPartner.done p stDONE
      else
        let t1 := t.lashCfg ws
        (if bitOf (p.w 0) 4 then { t1 with mram := { t1.mram with lash := some ws } } else t1).done p stDONE))

/-- R445: LASH_STATUS. -/
def execLashStatus (p : Pkt) (s : State) : Out :=
  .next (s.command p opLashStatus []
    (fun t0 =>
      let t := t0.refreshSeen
      let id := match t.prog.active with | some im => im.id | none => 0
      t.doneRes p (t.getWords 0x20100008 2 ++ t.getWords 0x20100208 1 ++ t.getWords 0x20100210 3 ++ t.getWords 0x20100220 16 ++
        t.getWords 0x20100280 5 ++ [id])))

/-- R445: LASH_SWITCH. -/
def execLashSwitch (p : Pkt) (s : State) : Out :=
  .next (s.command p opLashSwitch
    [(p.w 0 ≠ 0, stBAD_PARAM), (s.lashSt ≠ lsACTIVE || s.lash.partner ≠ lsSTANDBY, stNOT_PERMITTED)]
    (fun t =>
      let ms := if p.w 1 = 0 then 100 else p.w 1
      (t.lashI (fun v => { v with switchPkt := v.switchPkt ++ [(p, t.now + 1000000 * ms)] })).accept p))

/-- R445: LASH_SNAPSHOT. -/
def execLashSnapshot (p : Pkt) (s : State) : Out :=
  .next (s.command p opLashSnapshot
    [(p.w 0 ≠ 0, stBAD_PARAM), (s.lashSt ≠ lsACTIVE || !(s.lash.partner = lsSEEKING || s.lash.partner = lsLOST), stNOT_PERMITTED),
     (!schemaOk (s.get F.LASH_OWN_SCHEMA) (s.get F.LASH_PARTNER_SCHEMA), stVERSION_MISMATCH)]
    (fun t => ((t.controlSend { t.ownControl with snapshot := true }).lashI (fun v => { v with snapPkt := v.snapPkt ++ [(p, t.now + 500000000)] })).accept p))

end Sys2Proof.Machine
end

