-- ==== Sys2Proof/Machine/RingSeg.lean ====
section
/-! DEFINITION. Segments: the latch, a copy that passes, the end of extraction (10_hawser_ring_cycle R267-R273). -/

namespace Sys2Proof.Machine

/-- R272: a slot, in any state, or an axis produces word `i` of segment `seg`. -/
def State.produces (s : State) (seg i : Nat) : Bool :=
  s.usedSlots.any (fun n => (s.slotKeys n).contains (4, seg, i)) ||
  (List.range 96).any (fun n => s.get (F.AX_CFG_TGT n) = 1 && s.get (F.AX_SEGMENT n) = seg && decide (s.get (F.AX_WORD n) ≤ i) &&
    decide (i < s.get (F.AX_WORD n) + (s.axWords n).length))

/-- R333: word `i` of the process image as the latch that closes this cycle finds it: one transferred ahead of its period has the value before. -/
def State.imgLatched (s : State) (i : Nat) : Nat :=
  match s.prog.early.find? (fun e => e.2.1 = i && decide (s.ownPoint + 1 < e.1)) with
  | some (_, _, v) => v
  | none => s.img i

/-- R271, R272, R281: word `i` of owned segment `seg` of kind `kind`: the image word that a DIR 1 entry names, else what its producers have
delivered; a word that no producer writes carries 0. -/
def State.latchWord (s : State) (sc : Sched) (seg kind i : Nat) : Nat :=
  match sc.maps.find? (fun (cnt, first, dir, sg, _) => dir = 1 && sg = seg && decide (first ≤ i) && decide (i < first + cnt)) with
  | some (_, first, _, _, ix) => s.imgLatched (ix + i - first)
  | none => if kind = kdSAFETY || s.produces seg i then tabGet 0 (s.txSeg seg).words i else 0

/-- R272, R335, R336, R413: owned segment `seg` of kind `kind` is incomplete: a due producer has not delivered, a task has overrun, its station
is withheld, or the Sluice has not delivered (`sf` is the segment it delivered into). -/
def State.latchNull (s : State) (nulls : List Nat) (sf : Option Nat) (seg kind : Nat) : Bool :=
  !(s.txSeg seg).due.isEmpty || s.prog.nullAt.contains (s.ownPoint + 1, seg) || nulls.contains seg || (kind = kdSAFETY && decide (sf ≠ some seg))

/-- R271: the latch of one owned segment. -/
def State.latchSeg (sc : Sched) (nulls : List Nat) (sf : Option Nat) (s : State) (seg : Nat) : State :=
  match sc.seg? seg with
  | none => s
  | some (len, _, kind, owner, _, _) =>
    if !s.writesOwner sc owner || kind = kdANSWER then s
    else
      let t := s.txSeg seg
      if s.latchNull nulls sf seg kind then
        (((s.setTx seg { t with due := [], null := true, latched := [] })).incSat F.RING_NULL_TX).raise bRING 9
      else
        s.setTx seg { t with due := [], null := false, fresh := (t.fresh + 1) % 256, latched := (List.range len).map (s.latchWord sc seg kind) }

/-- R413: the segment into which the Sluice has just delivered. -/
def State.sluiceDelivers (s : State) : Option Nat := if s.suSt = suTEST || s.sto.held then none else s.safetySeg

/-- R271: the latch: every segment this device owns. -/
def State.segmentLatch (s : State) : State :=
  match s.curSched with
  | none => s
  | some sc => (List.range sc.nseg).foldl (State.latchSeg sc s.nullSegs s.sluiceDelivers) s.safetyTx

/-- R271, R438, R441: the last FAB_CLK before the start of the next cycle. -/
def execSegmentLatch (s : State) : Out := s.awake (
  .next (if s.ringRuns then s.lashLatch.segmentLatch else s))

/-- R268, R273: an owned segment passes: an ANSWER is sampled; FRAME_FORWARD puts the frame out with what this device writes. The master
wrote its segments at departure. -/
def State.passOwned (s : State) (sc : Sched) (seg len kind : Nat) : State :=
  if kind = kdANSWER && !s.timeMaster then s.passAnswer sc seg len else s

/-- R309: a valid copy of a segment of node `n` has arrived. -/
def State.nodeSeen (s : State) (n : Nat) : State :=
  let s1 := s.setNode n { s.nodeI n with since := 0, known := true, present := true, seen := true }
  if (s.nodeI n).present then s1 else s1.hpJoin n

/-- R147: RING_DIV lets slot `n` be ticked in this cycle. -/
def State.divDue (s : State) (n : Nat) : Bool := s.get F.RING_CYCLE_NUM % (bits (s.get (F.SLOT_TICK n)) 21 16 + 1) = 0

/-- R140: slots whose feedback is segment `seg` and which its arrival ticks. -/
def State.segSlots (s : State) (seg : Nat) : List Nat :=
  s.usedSlots.filter (fun n => s.fbSrc n = 3 && bits (s.get (F.SLOT_FB_SEL n)) 8 0 = seg &&
    (s.tickSrc n = 0 || (s.tickSrc n = 1 && s.divDue n)))

/-- R140, R171: those slots are ticked; `stale` where the copy is not read. -/
def State.tickSegSlots (s : State) (seg : Nat) (stale : Bool) : State :=
  (s.segSlots seg).foldl (fun (t : State) n => t.tickRing n stale) s

/-- R281, R331: data of segment `seg` goes into the image where map entries of direction `dir` name it. -/
def State.mapWords (s : State) (sc : Sched) (dir seg : Nat) (data : List Nat) : State :=
  (sc.maps.filter (fun (_, _, d, sg, _) => d = dir && sg = seg)).foldl (fun (t : State) (cnt, first, _, _, ix) =>
    (List.range cnt).foldl (fun (u : State) i => u.setImg (ix + i) (data.getD (first + i) 0)) t) s

/-- R429: output tracking: a device of the pair that is not ACTIVE copies what the ACTIVE has written into its own output
words. -/
def State.trackPair (s : State) (sc : Sched) (seg owner fresh : Nat) (null : Bool) (data : List Nat) : State :=
  if !s.pairOwner owner then s
  else
    let s1 := s.pairSeen (s.get F.RING_CYCLE_NUM)
    if null || s1.lashSt ≠ lsSTANDBY then s1
    else
      let ws := ((List.range data.length).map (fun i => (i, data.getD i 0))).filter (fun e => e.2 ≠ 0)
      (s1.setTx seg { s1.txSeg seg with words := ws, fresh := fresh }).mapWords sc 1 seg data

/-- R240, R269, R273: this node reads segment `seg`: an input map, a slot, an axis, a connection of the Sluice, or an
ANSWER segment of its own that the segment is paired with. -/
def State.readsSeg (s : State) (sc : Sched) (seg : Nat) : Bool :=
  sc.maps.any (fun (_, _, d, sg, _) => d = 0 && sg = seg) ||
  s.usedSlots.any (fun n => (s.fbSrc n = 3 && bits (s.get (F.SLOT_FB_SEL n)) 8 0 = seg) ||
    (s.modelEn n && bits (s.mw n 8) 31 28 = 3 && bits (s.mw n 8) 8 0 = seg)) ||
  (List.range 96).any (fun n => s.get (F.AX_FE_SRC n) = 2 && s.get (F.AX_FE_INST n) = seg) ||
  (List.range 16).any (fun j => s.connEn j && bits (s.connA j) 8 0 = seg) ||
  (match sc.seg? seg with
   | some (_, _, kind, _, pair, _) =>
     kind = kdREQUEST && (match sc.seg? pair with | some (_, _, _, o, _, _) => s.writesOwner sc o | none => false)
   | none => false)

/-- R269, R285: a counter of copies of the segments that this node reads. -/
def State.countRead (s : State) (sc : Sched) (seg : Nat) (f : Fld) : State := if s.readsSeg sc seg then s.incSat f else s

/-- R269: the first valid copy of segment `seg` in this cycle, with its status and data. -/
def State.takeCopy (s : State) (sc : Sched) (seg owner status : Nat) (data : List Nat) : State :=
  let r := s.rxSeg seg
  let null := bitOf status 8
  let fresh := bits status 23 16
  let s0' := s.nodeSeen owner
  let known := decide (bits status 15 12 = 1)
  let s0 := if known then s0'.trackPair sc seg owner fresh null data
    else if s.pairOwner owner then s0'.pairSeen (s.get F.RING_CYCLE_NUM) else s0'
  if !known then ((s0.setRx seg { r with taken := true, now := false }).countRead sc seg F.RING_VER_SKIP).tickSegSlots seg true
  else if null then ((s0.setRx seg { r with taken := true, now := false }).countRead sc seg F.RING_NULL_RX).tickSegSlots seg false
  else
    let s1 := s0.setRx seg { r with taken := true, now := decide (r.fresh ≠ some fresh), fresh := some fresh, data := data }
    (s1.mapWords sc 0 seg data).tickSegSlots seg false

/-- R269, R311: a copy of a segment that this device does not write arrives; the Sluice reads none of another format version. -/
def State.readCopy (s : State) (sc : Sched) (port seg kind owner : Nat) (ok : Bool) (ws : List Nat) : State :=
  let status := iw ws 0
  let data := ws.tail.dropLast
  let valid := ok && bitOf status 7
  let s1 := if kind = kdSAFETY && (!ok || bits status 15 12 = 1) then s.safetyRx port seg data valid (bitOf status 8) else s
  if !valid || (s1.rxSeg seg).taken || s1.ring.ended then s1 else s1.takeCopy sc seg owner status data

/-- R266, R269: segment `seg` of a bight frame with SCHED_ID `id` and length `len` passes `port`; `ws` are its words. -/
def execSegmentRx (port seg id len : Nat) (ws : List Word) (s : State) : Out := s.awake (
  .next (match s.curSched with
    | none => s
    | some sc =>
      match sc.seg? seg with
      | none => s
      | some (n, _, kind, owner, _, _) =>
        if decide (2 ≤ port) || s.on (wrapBit port) || !s.ringRuns || id ≠ sc.id || len ≠ sc.bightLen || ws.length ≠ n + 2 then s
        else
          let l := ws.map (fun w => w.toNat)
          let ok := crcKind l = 0
          let s1 := if ok then s else (s.incSat (F.RPORT_SEG_CRC_ERR port)).raise bRING 8
          if s1.writesOwner sc owner then s1.passOwned sc seg n kind else s1.readCopy sc port seg kind owner ok l))

/-- R147, R270: slots ticked by the ring that no segment has ticked in this cycle. -/
def State.tickEnd (s : State) (n : Nat) : State :=
  if s.tickSrc n ≠ 1 || !s.divDue n then s
  else if s.fbSrc n = 3 then
    (if (s.rxSeg (bits (s.get (F.SLOT_FB_SEL n)) 8 0)).taken then s else s.tickRing n true)
  else s.tickRing n false

/-- R338: what is current of a segment once the bight frame has ended. -/
def endRx (e : Nat × SegRx) : Nat × SegRx := (e.1, { e.2 with current := e.2.now })

/-- R270, R338: extraction ends: what is current, slots, the Sluice's connections, event line 8, source 257. -/
def State.extractionEnd (s : State) : State :=
  let s1 := { s with ring := { s.ring with ended := true, rx := s.ring.rx.map endRx } }
  ((s1.usedSlots.foldl State.tickEnd s1).safetyCycleEnd.eventLine 8).pulse 257

/-- R270: the end of the bight frame. -/
def execExtractionEnd (s : State) : Out := s.awake (
  .next (if s.ringRuns && s.curSched.isSome && !s.ring.ended then s.extractionEnd else s))

end Sys2Proof.Machine
end

