-- ==== Sys2Proof/Machine/Sec.lean ====
section
/-! DEFINITION. Meanings of the SEC block's commands: signed packets, SEC operations, attestation, image writes, key
revocation, debug unlock, anti-rollback (18_security). -/

namespace Sys2Proof.Machine

/-- The state with SEC's interior changed. -/
def State.secI (s : State) (f : SecInt → SecInt) : State := { s with sec := f s.sec }

/-! ### Ranges of memory -/

/-- R466: bytes `addr` to `addr + len - 1` of memory as words, the last filled up with zeros. -/
def State.memWords (s : State) (addr len : Nat) : List Nat :=
  (List.range ((len + 3) / 4)).map (fun i =>
    let a := addr + 4 * i
    let b := a - a % 4
    let v := ((s.word b).toNat + 2 ^ 32 * (s.word (b + 4)).toNat) / 2 ^ (8 * (a % 4)) % 2 ^ 32
    if 4 * i + 4 ≤ len then v else v % 2 ^ (8 * (len - 4 * i)))

/-- R24, R466: a range in SRAM or in the fitted LPDDR4X. -/
def rangeOk (addr len : Nat) : Bool :=
  (decide (0x08000000 ≤ addr) && decide (addr + len ≤ 0x08800000)) ||
  (decide (0x400000000 ≤ addr) && decide (addr + len ≤ 0x400000000 + Config.dramMiB * 2 ^ 20))

/-- At most `n` bytes of a list of words from byte `off`, as words, the last filled up with zeros. -/
def byteSlice (ws : List Nat) (off n : Nat) : List Nat :=
  let m := min n (4 * ws.length - off)
  (List.range ((m + 3) / 4)).map (fun i =>
    let a := off + 4 * i
    let v := (ws.getD (a / 4) 0 + 2 ^ 32 * ws.getD (a / 4 + 1) 0) / 2 ^ (8 * (a % 4)) % 2 ^ 32
    if 4 * i + 4 ≤ m then v else v % 2 ^ (8 * (m - 4 * i)))

/-- R8: a list of bytes as words, the last filled up with zeros. -/
def packBytes : List Nat → List Nat
  | a :: b :: c :: d :: r => (a % 256 + 256 * (b % 256) + 65536 * (c % 256) + 16777216 * (d % 256)) :: packBytes r
  | [] => []
  | [a] => [a % 256]
  | [a, b] => [a % 256 + 256 * (b % 256)]
  | [a, b, c] => [a % 256 + 256 * (b % 256) + 65536 * (c % 256)]

/-! ### Signed packets -/

end Sys2Proof.Machine

namespace Sys2Proof

/-- R461: what both signatures of packet `p` cover. -/
def Pkt.signedDigest (p : Pkt) : List Nat :=
  Machine.sha384 ([p.opcode + p.len * 2 ^ 16] ++ (p.params ++ p.sig.take 8).map (fun w => w.toNat)) (4 + p.len + 32)

/-- Word `i` of the trailer. -/
def Pkt.t (p : Pkt) (i : Nat) : Nat := (p.sig.getD i 0).toNat

/-- R461: the key slot that a trailer names, class * 4 + slot. -/
def Pkt.keySlot (p : Pkt) : Nat := Machine.bits (p.t 0) 18 16

/-- R463: the class of key that the opcode requires; none where either will do. -/
def Pkt.keyClass (p : Pkt) : Option Nat :=
  if p.opcode = Machine.opRecClear ∨ p.opcode = Machine.opSecRollback then some 1
  else if p.opcode = Machine.opSecKeyRevoke then some (Machine.bits (p.w 0) 2 2)
  else if p.opcode = Machine.opSecDebugUnlock ∧ Machine.bits (p.w 0) 1 0 = 2 then some 0
  else none

/-- R463: UID all ones, which SEC_KEY_REVOKE allows. -/
def Pkt.anyUid (p : Pkt) : Bool := p.opcode = Machine.opSecKeyRevoke && p.t 2 = 0xFFFFFFFF && p.t 3 = 0xFFFFFFFF

end Sys2Proof

namespace Sys2Proof.Machine

/-- R462: the first three checks of a trailer, and CTR. -/
def State.trailerOk (s : State) (p : Pkt) : Bool :=
  decide (p.sig.length = 4160) && decide (bits (p.t 0) 31 24 = 1) && decide (bits (p.t 0) 15 0 = 16640) &&
  decide (bits (p.t 0) 23 19 = 0) && [4, 5, 6, 7].all (fun i => decide (p.t i = 0)) &&
  s.slotUsable p.keySlot && (match p.keyClass with | some c => decide (p.keySlot / 4 = c) | none => true) &&
  (p.anyUid || (decide (p.t 2 + 2 ^ 32 * p.t 3 = s.otp.uid) && decide (s.get F.SEC_CMD_CTR < p.t 1)))

/-- R447, R461: the key block of the store is that of the slot, and both signatures verify under it. -/
def State.trailerSigs (s : State) (p : Pkt) : Bool :=
  let key := tabGet [] s.mram.keyStore p.keySlot
  s.keyIs p.keySlot key &&
  Config.rsaVerify key p.signedDigest (((p.sig.drop 8).take 96).map (fun w => w.toNat)) &&
  Config.slhVerify key p.signedDigest ((p.sig.drop 104).map (fun w => w.toNat))

/-- R462: SEC_CMD_CTR takes CTR, in MRAM too. -/
def State.storeCtr (s : State) (p : Pkt) : State :=
  if p.anyUid then s else { s.put F.SEC_CMD_CTR (p.t 1) with mram := { s.mram with cmdCtr := p.t 1 } }

/-- R462: the verification of packet `p` ends. -/
def State.sigVerdict (s : State) (p : Pkt) : State :=
  if s.trailerOk p && s.trailerSigs p then
    let s1 := s.storeCtr p
    { s1 with host := { s1.host with verified := s1.host.verified ++ [(p.queue, p.tag, p.seq, p.keySlot)] } }
  else (s.raise bSEC 9).done p stAUTH_FAILED

/-- R81, R462: the verification of the oldest signed packet that waits for no FENCE (step 7 before step 8) ends. -/
def execSignatureVerifyDone (s : State) : Out :=
  .next (match s.sec.sigWait.find? (fun p => !s.mustWait p) with
    | none => s
    | some p => (s.secI (fun v => { v with sigWait := v.sigWait.erase p })).secBusy.sigVerdict p)

/-! ### Attestation -/

/-- R460: the words of a report that its signatures cover. -/
def State.reportWords (s : State) (nonce : List Nat) : List Nat :=
  let n := s.get F.SEC_LOG_N
  [0x44474154, 1, s.otp.uid % 2 ^ 32, s.otp.uid / 2 ^ 32 % 2 ^ 32] ++ nonce ++
  [s.now % 2 ^ 32, s.now / 2 ^ 32 % 2 ^ 32,
   s.otp.rbCtr % 256 * 2 ^ 24 + s.otp.revoked % 256 * 2 ^ 16 + s.get F.SEC_BLK_STAT_DBG_LEVEL * 2 ^ 14 + n, s.get F.SEC_CMD_CTR] ++
  s.getWords (bSEC + 0x1000) (16 * n)

/-- R460: signing of a report starts. -/
def State.startReport (s : State) (p : Option Pkt) (nonce : List Nat) : State :=
  (s.secI (fun v => { v with attBusy := true, attPkt := p, attWords := s.reportWords nonce })).secBusy

/-- R460: the report is whole: both signatures follow the words they cover. -/
def State.endReport (s : State) : State :=
  let ws := s.sec.attWords
  let d := sha384 ws (4 * ws.length)
  (s.secI (fun v => { v with attBusy := false, attPkt := none, attWords := [], report := ws ++ (List.range 4152).map (Config.identitySign d) })).secBusy

/-- R460: the signatures of a SEC_ATTEST are complete; its result is the report's length. -/
def execAttestReportDone (s : State) : Out :=
  .next (match s.sec.attPkt with
    | none => s
    | some p => s.endReport.doneRes p [4 * s.sec.attWords.length + 16608])

/-- R460, R467: SEC_ATTEST. -/
def execSecAttest (p : Pkt) (s : State) : Out :=
  let len := 4 * s.sec.report.length
  .next (s.command p opSecAttest
    (if bitOf (p.w 0) 0 then
      [(outside (p.w 0) 1, stBAD_PARAM), (s.sec.report.isEmpty, stNOT_PERMITTED), (decide (len ≤ p.w 1), stBAD_PARAM)]
    else
      [(outside (p.w 0) 1, stBAD_PARAM), (s.get F.SEC_BLK_STAT_DBG_LEVEL = 2, stNOT_PERMITTED), (s.sec.attBusy, stBUSY)])
    (fun t =>
      if bitOf (p.w 0) 0 then t.doneRes p (byteSlice t.sec.report (p.w 1) 4096)
      else (t.startReport (some p) ((List.range 8).map (fun i => p.w (1 + i)))).accept p))

/-- R458, R467: SEC_CERT_READ. -/
def execSecCertRead (p : Pkt) (s : State) : Out :=
  .next (s.command p opSecCertRead [(outside (p.w 0) 1, stBAD_PARAM)]
    (fun t =>
      let c := if bitOf (p.w 0) 0 then t.mram.certSlh else t.mram.certRsa
      t.doneRes p (c.length :: packBytes ((c.drop (p.w 1)).take 4092))))

/-! ### Operations of SEC_OP_CTRL -/

/-- R466: GO with operation `op` by a core of domain 0; while an operation runs it is ignored. -/
def State.secGo (s : State) (r : Requester) (op : Nat) (start : State → State) : State :=
  if s.domainOf r ≠ 0 then s.reject bSEC
  else if s.sec.op.isSome then s
  else (start ((s.put F.SEC_OP op).secI (fun v => { v with op := some op }))).secBusy

/-- R466: HASH. -/
def execHash (r : Requester) (s : State) : Out := .next (s.secGo r 1 (fun t => t))

/-- R466: VERIFY. -/
def execVerify (r : Requester) (s : State) : Out := .next (s.secGo r 2 (fun t => t))

/-- R466: the range of SEC_OP_ADDR and SEC_OP_LEN. -/
def State.opAddr (s : State) : Nat := s.get64 F.SEC_ADDR_LO
def State.opWords (s : State) : List Nat := s.memWords s.opAddr (s.get F.SEC_LEN)

/-- R465, R466: ATTEST; denied (operation 4 of the model) at debug level 2 and while a report is being built. -/
def State.startAttest (s : State) : State :=
  if s.get F.SEC_BLK_STAT_DBG_LEVEL = 2 || s.sec.attBusy || !rangeOk s.opAddr 32 then s.secI (fun v => { v with op := some 4 })
  else s.startReport none (s.memWords s.opAddr 32)

/-- R466: ATTEST. -/
def execAttest (r : Requester) (s : State) : Out := .next (s.secGo r 3 State.startAttest)

/-- R466: RESULT and the digest registers are written. -/
def State.opResult (s : State) (res : Nat) (digest : List Nat) : State :=
  (((s.secI (fun v => { v with op := none })).put F.SEC_RESULT res).setWords (bSEC + 0xA0) digest).secBusy

/-- R466: RESULT with a digest that the manual does not state: a free value (log entry 80). -/
def State.opResultFree (s : State) (res : Nat) : State := s.fresh.2.opResult res (digestWords s.fresh.1)

/-- R466: an operation of SEC_OP_CTRL completes. A range outside SRAM and LPDDR4X has no result stated: a free value. -/
def execSecOpDone (s : State) : Out :=
  .next (match s.sec.op with
    | none => s
    | some op =>
      if op ≤ 2 && !rangeOk s.opAddr (s.get F.SEC_LEN) then s.fresh.2.opResultFree (s.fresh.1 % 16)
      else if op = 1 then s.opResult vfOK (sha384 s.opWords (s.get F.SEC_LEN))
      else if op = 2 then s.opResultFree (s.verifyImage s.opWords (bits (iw s.opWords 1) 23 16))
      else if op = 3 then s.endReport.opResultFree vfOK
      else s.opResultFree vfDENIED)

/-! ### Images -/

/-- R467: a chunk of SEC_IMAGE_WRITE follows what is held. -/
def State.chunkFits (s : State) (ty off : Nat) : Bool :=
  off = 0 || (off = 4 * s.sec.chunk.length && ty = s.sec.chunkType)

/-- R467: SEC_IMAGE_WRITE. -/
def execSecImageWrite (p : Pkt) (s : State) : Out :=
  let ty := bits (p.w 0) 7 0
  let data := (p.params.drop 2).map (fun w => w.toNat)
  .next (s.command p opSecImageWrite
    [(outside (p.w 0) 0x800000FF || !([tyLOADER, tyFIRMWARE, tyCORE_CODE, tyKEYS].contains ty) || !s.chunkFits ty (p.w 1), stBAD_PARAM)]
    (fun t =>
      let ws := if p.w 1 = 0 then data else t.sec.chunk ++ data
      if bitOf (p.w 0) 31 then
        (t.secI (fun v => { v with chunk := [], writes := v.writes ++ [(p, ty, ws)] })).secBusy.accept p
      else (t.secI (fun v => { v with chunk := ws, chunkType := ty })).done p stDONE))

/-- R450: the entries of a KEYS body, as (owner slot, key block). -/
def keysEntries (ws : List Nat) : List (Nat × List Nat) :=
  (List.range (iw ws 3 / 440)).map (fun i => (bits (iw ws (hdrWords + 110 * i)) 1 0, (ws.drop (hdrWords + 110 * i + 1)).take 109))

/-- R448: every owner slot is blank. -/
def State.ownersBlank (s : State) : Bool := (List.range 4).all (fun j => decide (tabGet 0 s.otp.hashes (4 + j) = 0)) && !bitOf s.otp.cfg 2

/-- R448, R451: the verification of a KEYS image: while every owner slot is blank, the key block of its first entry signs. -/
def State.verifyKeys (s : State) (ws : List Nat) : Nat :=
  if !s.ownersBlank then s.verifyImage ws tyKEYS
  else if imageFormatBad ws tyKEYS then vfFORMAT
  else if (keysEntries ws).head?.map (fun e => e.2) ≠ some (imageKey ws) then vfKEY_MISMATCH
  else s.imageRest ws

/-- R467: the verification of an image that SEC_IMAGE_WRITE holds. -/
def State.verifyAny (s : State) (ws : List Nat) (ty : Nat) : Nat := if ty = tyKEYS then s.verifyKeys ws else s.verifyImage ws ty

/-- R467: the status of a verification code; the manual names none for code 1, which is answered as the other signature
failures are (log entry 81). -/
def writeStatus (code : Nat) : Nat :=
  if code = vfOK then stDONE else if code = vfSVN then stVERSION_MISMATCH else if code = vfFORMAT then stBAD_PARAM else stAUTH_FAILED

/-- R467: a verified image goes to its bank. -/
def State.writeBank (s : State) (ws : List Nat) (ty : Nat) : State :=
  let s1 := { s with mram := { s.mram with flash := tabSet [] s.mram.flash (s.imageBank ty) ws } }
  if ty = tyCORE_CODE then s1.secI (fun v => { v with coreBank := 1 - v.coreBank }) else s1

/-- R467: an image has been verified and, where valid, written. -/
def State.imageWritten (s : State) (p : Pkt) (ws : List Nat) (ty : Nat) : State :=
  let code := s.verifyAny ws ty
  let s1 := (s.secI (fun v => { v with writes := v.writes.tail })).secBusy.noteFail code
  (if code = vfOK then s1.writeBank ws ty else s1).done p (writeStatus code)

/-- R455, R467: the verification and the write of the oldest image held end. -/
def execImageWriteDone (s : State) : Out :=
  .next (match s.sec.writes with
    | [] => s
    | (p, ty, ws) :: _ => s.imageWritten p ws ty)

/-! ### OTP -/

/-- R459: the log entry of a signed command: KIND, TYPE, the third field, the signing key, the digest of the signed data.
VERSION of such an entry is a free value (log entry 82). -/
def State.logCommand (s : State) (p : Pkt) (kind ty x : Nat) : State :=
  let k := s.sigKey p
  s.fresh.2.logEntry ([kind * 2 ^ 24 + ty * 2 ^ 16 + x * 2 ^ 8 + k / 4 * 8 + k % 4, s.fresh.1 % 2 ^ 32, 1, 0] ++ p.signedDigest)

/-- R466, R488: OTP was programmed: the registers that show it, OTP_WRITE, a record. -/
def State.otpWritten (s : State) (kind data : Nat) : State := ((s.otpMirror).raise bSEC 10).post 0x0110 kind data 0

/-- R464: revoking slot `k` would leave its class without a usable slot. -/
def State.lastOfClass (s : State) (k : Nat) : Bool :=
  !(List.range 4).any (fun j => decide (k / 4 * 4 + j ≠ k) && s.slotUsable (k / 4 * 4 + j))

/-- R464: slot `k` signed the running loader or firmware. -/
def State.signedRunning (s : State) (k : Nat) : Bool := decide (k = s.get F.SEC_LDR_SLOT) || decide (k = s.get F.SEC_FW_SLOT)

/-- R464, R467: SEC_KEY_REVOKE. -/
def execSecKeyRevoke (p : Pkt) (s : State) : Out :=
  let k := bits (p.w 0) 2 0
  .next (s.command p opSecKeyRevoke
    [(outside (p.w 0) 7, stBAD_PARAM), (!bitOf s.otp.revoked k && (s.lastOfClass k || s.signedRunning k), stNOT_PERMITTED)]
    (fun t =>
      if bitOf t.otp.revoked k then t.done p stDONE
      else
        let t1 := { t with otp := { t.otp with revoked := putBit t.otp.revoked k true } }.otpWritten 1 k
        (t1.logCommand p 4 0 k).done p stDONE))

/-- R456: V lies outside the bounds of SEC_ROLLBACK. -/
def State.rollbackBad (s : State) (v : Nat) : Bool :=
  decide (v < s.otp.rbCtr) || (decide (v ≠ s.otp.rbCtr) && (decide (s.get F.SEC_LDR_SVN < v) || decide (s.get F.SEC_FW_SVN < v)))

/-- R456, R467: SEC_ROLLBACK. -/
def execSecRollback (p : Pkt) (s : State) : Out :=
  let v := bits (p.w 0) 7 0
  .next (s.command p opSecRollback [(outside (p.w 0) 0xFF || s.rollbackBad v, stBAD_PARAM)]
    (fun t =>
      if v = t.otp.rbCtr then t.done p stDONE
      else
        let t1 := { t with otp := { t.otp with rbCtr := v } }.otpWritten 2 v
        (t1.logCommand p 3 0 v).done p stDONE))

/-! ### Debug -/

/-- R465: eight random words. -/
def State.drawWords : Nat → State → List Nat × State
  | 0, s => ([], s)
  | n + 1, s => let r := State.drawWords n s.fresh.2; (s.fresh.1 % 2 ^ 32 :: r.1, r.2)

/-- R465, R467: SEC_DEBUG_CHALLENGE. -/
def execSecDebugChallenge (p : Pkt) (s : State) : Out :=
  .next (s.command p opSecDebugChallenge []
    (fun t =>
      let r := State.drawWords 8 t
      let t1 := r.2.secI (fun v => { v with challenge := some r.1, challengeEnd := r.2.deadline 600000000 })
      t1.doneRes p (r.1 ++ [t1.otp.uid % 2 ^ 32, t1.otp.uid / 2 ^ 32 % 2 ^ 32, t1.get F.SEC_BLK_STAT_DBG_LEVEL, 0])))

/-- R465: debug opens at a level; level 2 clears the unwrapped seeds. -/
def State.openDebug (s : State) (level : Nat) : State :=
  let s1 := s.put F.SEC_BLK_STAT_DBG_LEVEL (max level (s.get F.SEC_BLK_STAT_DBG_LEVEL))
  ((if level = 2 then s1.put F.SEC_BLK_STAT_KEYS_READY 0 else s1).secI (fun v => { v with challenge := none })).raise bSEC 11

/-- R465, R467: SEC_DEBUG_UNLOCK; with DBG_DIS set every unlock is answered NOT_PERMITTED, whatever its challenge. -/
def execSecDebugUnlock (p : Pkt) (s : State) : Out :=
  let level := bits (p.w 0) 1 0
  .next (s.command p opSecDebugUnlock
    [(outside (p.w 0) 3 || level = 0 || level = 3, stBAD_PARAM), (bitOf s.otp.cfg 1, stNOT_PERMITTED),
     (s.sec.challenge ≠ some ((List.range 8).map (fun i => p.w (1 + i))), stBAD_PARAM)]
    (fun t => ((t.openDebug level).logCommand p 2 level 0).done p stDONE))

/-- R465: ten minutes have passed since the challenge was drawn. -/
def execDebugChallengeExpiry (s : State) : Out :=
  .next (if s.sec.challenge.isSome then (s.advanceTo s.sec.challengeEnd).secI (fun v => { v with challenge := none }) else s)

/-! ### KEYS images at boot -/

/-- R448: the owner slots that a KEYS image fills: blank ones only. -/
def State.keysToFill (s : State) (ws : List Nat) : List (Nat × List Nat) :=
  (keysEntries ws).filter (fun e => decide (tabGet 0 s.otp.hashes (4 + e.1) = 0))

/-- R447, R448: an owner slot and its entry of the key store are programmed; a provisioned one is never overwritten. -/
def State.fillSlot (s : State) (e : Nat × List Nat) : State :=
  if tabGet 0 s.otp.hashes (4 + e.1) ≠ 0 then s
  else
  { s with
    otp := { s.otp with hashes := tabSet 0 s.otp.hashes (4 + e.1) (Config.sha384 e.2 436 % 2 ^ 384), cfg := putBit s.otp.cfg 2 true }
    mram := { s.mram with keyStore := tabSet [] s.mram.keyStore (4 + e.1) e.2 } }

/-- R448, R453, R459: the loader applies the KEYS image of bank K where it is valid and something is left to program. -/
def State.applyKeys (s : State) : State :=
  let ws := tabGet [] s.mram.flash 4
  let es := s.keysToFill ws
  if ws.isEmpty || s.verifyKeys ws ≠ vfOK || es.isEmpty then s
  else
    let s1 := es.foldl State.fillSlot s
    (s1.otpWritten 3 (es.foldl (fun m e => putBit m e.1 true) 0)).logEntry (imageEntry ws)

end Sys2Proof.Machine
end

