-- ==== Sys2Proof/Machine/Opio.lean ====
section
/-! DEFINITION. Meanings of the touch-key and hot-plug commands (21_operator_inputs). -/

namespace Sys2Proof.Machine

/-- R503: states of a connector. -/
def hpEMPTY : Nat := 0
def hpINSERTING : Nat := 1
def hpDELAY : Nat := 2
def hpPOWERED : Nat := 3
def hpJOINED : Nat := 4
def hpREMOVING : Nat := 5

/-! ### Touch keys -/

/-- R500: TKn is pressed. -/
def State.pressed (s : State) (n : Nat) : Bool := bitOf (s.get F.OPIO_PRESSED) n

/-- R500, R502: TKn is pressed or released: the state, the run counter back at 0, source 266 + n. -/
def State.setPressed (s : State) (n : Nat) (b : Bool) : State :=
  let s1 := s.put F.OPIO_PRESSED (putBit (s.get F.OPIO_PRESSED) n b)
  { s1 with opio := { s1.opio with run := tabSet 0 s1.opio.run n 0 } }

/-- R500: a measurement of channel `n` gives count `c`. -/
def State.touchMeasure (s : State) (n c : Nat) : State :=
  let d : Int := Int.ofNat c - Int.ofNat (s.get (F.TK_BASE n))
  let run (b : Bool) : Nat := if b then tabGet 0 s.opio.run n + 1 else 0
  let setRun (t : State) (r : Nat) : State := { t with opio := { t.opio with run := tabSet 0 t.opio.run n r } }
  let s0 := s.put (F.TK_COUNT n) c
  if !s.pressed n then
    let r := run (Int.ofNat (s.get (F.TK_THRESH n)) ≤ d)
    let s1 := s0.put (F.TK_BASE n) (Int.ofNat (s.get (F.TK_BASE n)) + d / 2 ^ s.get (F.TK_BL_SHIFT n)).toNat
    if r = s.get (F.TK_DEB n) + 1 then ((s1.setPressed n true).pulse (266 + n)).progTrg 0 (2 ^ n) else setRun s1 r
  else
    let r := run (d < Int.ofNat (s.get (F.TK_THRESH n)) - Int.ofNat (s.get (F.TK_HYST n)))
    if r = s.get (F.TK_DEB n) + 1 then (s0.setPressed n false).pulse (266 + n) else setRun s0 r

/-- R500: one scan, with the counts that the channels give. -/
def execTouchScan (counts : List Nat) (s : State) : Out := s.awake (
  .next ((List.range 24).foldl (fun (t : State) n => if t.on (F.TK_EN n) then t.touchMeasure n (counts.getD n 0 % 2 ^ 16) else t) s))

/-- R501: TKn has been pressed for STUCK seconds: it is released by force, without an event. -/
def execTkStuck (n : Nat) (s : State) : Out := s.awake (
  .next (if n < 24 && s.on (F.TK_EN n) && s.pressed n && decide (s.get (F.TK_STUCK n) ≠ 0) then
      (((s.setPressed n false).put F.OPIO_STUCK (putBit (s.get F.OPIO_STUCK) n true)).put (F.TK_BASE n) (s.get (F.TK_COUNT n))).raise bOPIO 10
    else s))

/-! ### Hot-plug connectors -/

/-- R504: slot `k` depends on connector `n`: its feedback, FB2_SEL of its model block, or a target of it. -/
def State.hpAffects (s : State) (n k : Nat) : Bool :=
  let owned (seg : Nat) : Bool := match s.curSched.bind (fun sc => sc.seg? seg) with
    | some (_, _, _, o, _, _) => decide (o = s.get (F.HP_NODE n))
    | none => false
  let fbs : List (Nat × Nat) :=
    (s.fbSrc k, s.get (F.SLOT_FB_SEL k)) :: (if s.modelEn k then [(bits (s.mw k 8) 31 28, s.mw k 8)] else [])
  (s.on (F.HP_NODE_EN n) &&
    (fbs.any (fun f => decide (f.1 = 3) && owned (bits f.2 8 0)) ||
     (decide (s.get (F.SLOT_CFG0_TGT_TYPE k) = 4) && owned (bits (s.get (F.SLOT_TGT_SEL k)) 8 0)) ||
     (s.ringTgt2 k && owned (bits (s.mw k 0xC) 8 0)))) ||
  fbs.any (fun f => decide (f.1 = 0) && bitOf (s.get (F.HP_ADC_MASK n)) (bits f.2 2 0))

/-- R503, R504: HPENn goes low: the slots that depend on the connector hold at their next sample. A removal in the cycle in which
HPENn would rise wins: it has never risen. -/
def State.hpDrop (s : State) (n : Nat) : State :=
  if !s.on (F.HP_HPEN n) then s
  else if tabGet 0 s.opio.rose n = s.time.tick + 1 then s.put (F.HP_HPEN n) 0
  else
    (s.usedSlots.filter (fun k => decide (s.slotSt k ≠ slIDLE) && s.hpAffects n k)).foldl
      (fun (t : State) k => t.setSlot k { t.slot k with hpHold := true }) (s.put (F.HP_HPEN n) 0)

/-- R503: HPENn goes high; a module whose node is present has joined. -/
def State.hpOn (s : State) (n : Nat) : State :=
  let s1 := { s with opio := { s.opio with rose := tabSet 0 s.opio.rose n (s.time.tick + 1) } }.put (F.HP_HPEN n) 1
  s1.put (F.HP_STATE n) (if (s.nodeI (s.get (F.HP_NODE n))).present then hpJOINED else hpPOWERED)

/-- R503, R505: connector `n` supervises: EN is 1 and the outputs are armed. -/
def State.hpRuns (s : State) (n : Nat) : Bool := decide (n < 16) && s.on (F.HP_EN n) && s.on F.SYS_ARM_OUTEN

/-- R503: PIN shows the raw pin after POL. -/
def State.hpPin (s : State) (n : Nat) : State := s.put (F.HP_PIN n) (b2n (bitOf s.opio.raw n = s.on (F.HP_POL n)))

/-- R503: what the level of PIN makes of the state. -/
def State.hpMove (s : State) (n : Nat) : State :=
  let st := s.get (F.HP_STATE n)
  if !s.hpRuns n then s
  else if s.on (F.HP_PIN n) then
    (if st = hpEMPTY then s.put (F.HP_STATE n) hpINSERTING
     else if st = hpREMOVING then ((s.put (F.HP_STATE n) hpINSERTING).incSat (F.HP_GLITCHES n)).raise bOPIO 8
     else s)
  else if st = hpINSERTING then s.put (F.HP_STATE n) hpEMPTY
  else if st = hpDELAY || st = hpPOWERED || st = hpJOINED then (s.put (F.HP_STATE n) hpREMOVING).hpDrop n
  else s

/-- R477, R503: connector `n` sees its pin, also after STANDBY, in which OPIO has stopped. -/
def State.hpSee (s : State) (n : Nat) : State := (s.hpPin n).hpMove n

/-- R481, R503: the raw pin of connector `n` takes a level. -/
def execHpPinChange (n : Nat) (level : Bool) (s : State) : Out :=
  .next (if 16 ≤ n || bitOf s.opio.raw n = level then s
    else
      let s1 := { s with opio := { s.opio with raw := putBit s.opio.raw n level } }
      let s2 := if n < 8 then (s1.wakeSense (290 + n) level).wakeCheck else s1
      if s2.runs then s2.hpSee n else s2)

/-- R503, R495: the pin has held for DEB ms. -/
def execHpDebounceExpiry (n : Nat) (s0 : State) : Out := s0.awake (
  let s := s0.hpSee n
  let st := s.get (F.HP_STATE n)
  .next (if s.hpRuns n && decide (st = hpINSERTING) && s.on (F.HP_PIN n) then
      ((((s.put (F.HP_STATE n) hpDELAY).line (290 + n) true).lifeInc (0x340 + 4 * n)).progTrg (2 ^ (8 + n)) 0)
    else if s.hpRuns n && decide (st = hpREMOVING) && !s.on (F.HP_PIN n) then
      ((s.put (F.HP_STATE n) hpEMPTY).line (290 + n) false).progTrg (2 ^ (8 + n)) 0
    else s))

/-- R503: PWR_DLY has passed. -/
def execHpPowerDelayExpiry (n : Nat) (s0 : State) : Out := s0.awake (
  let s := s0.hpSee n
  .next (if s.hpRuns n && decide (s.get (F.HP_STATE n) = hpDELAY) && s.on (F.HP_AUTO_PWR n) then s.hpOn n else s))

/-- R503: JOIN_TMO has passed in POWERED. -/
def execJoinFail (n : Nat) (s : State) : Out := s.awake (
  .next (if s.hpRuns n && decide (s.get (F.HP_STATE n) = hpPOWERED) && decide (s.get (F.HP_JOIN_TMO n) ≠ 0) then s.raise bOPIO 9 else s))

/-! ### Operator commands -/

/-- R507: channel `n` counts as running, word 1 leaves EN at 1, and a run-locked field changes: `m1`, `m2` are the run-locked
bits of the words at `a` and `a + 4`. -/
def State.opioLocked (s : State) (p : Pkt) (a m1 m2 : Nat) : Bool :=
  let old (i : Nat) : Nat := (s.word (a + 4 * i)).toNat
  bitOf (old 0) 31 && bitOf (p.w 1) 31 &&
  (decide (Nat.land (old 0) m1 ≠ Nat.land (p.w 1) m1) || decide (Nat.land (old 1) m2 ≠ Nat.land (p.w 2) m2))

/-- R508: TOUCH_CONFIG. -/
def execTouchConfig (p : Pkt) (s : State) : Out :=
  let n := bits (p.w 0) 4 0
  let a := bOPIO + 0x100 + 0x10 * n
  .next (s.command p opTouchConfig
    [(23 < n || outside (p.w 0) 0x1F || outside (p.w 1) 0x8F0FFF00 || outside (p.w 3) 0x9F03FFFF, stBAD_PARAM),
     (n < 24 && s.opioLocked p a 0x0F0FFF00 0xFFFFFFFF, stNOT_PERMITTED)]
    (fun t => (t.setWords a [p.w 1, p.w 2, p.w 3]).done p stDONE))

/-- R508: TOUCH_STATUS. -/
def execTouchStatus (p : Pkt) (s : State) : Out :=
  .next (s.command p opTouchStatus [(outside (p.w 0) 0x1F, stBAD_PARAM)]
    (fun t => t.doneRes p (t.getWords (bOPIO + 0x64) 2 ++ (List.range 24).map (fun n => (t.word (bOPIO + 0x10C + 0x10 * n)).toNat))))

/-- R508: HOTPLUG_CONFIG. -/
def execHotplugConfig (p : Pkt) (s : State) : Out :=
  let n := bits (p.w 0) 4 0
  let a := bOPIO + 0x400 + 0x10 * n
  .next (s.command p opHotplugConfig
    [(15 < n || outside (p.w 0) 0x1F || outside (p.w 1) 0xE0FFFFFF || outside (p.w 2) 0xFF00FFFF, stBAD_PARAM),
     (n < 16 && s.opioLocked p a 0x60FFFFFF 0xFF00FFFF, stNOT_PERMITTED)]
    (fun t => ((t.setWords a [p.w 1, p.w 2]).hpSee n).done p stDONE))

/-- R508: HOTPLUG_STATUS. -/
def execHotplugStatus (p : Pkt) (s : State) : Out :=
  .next (s.command p opHotplugStatus [(outside (p.w 0) 0x1F, stBAD_PARAM)]
    (fun t => t.doneRes p ((List.range 16).map (fun n => (t.word (bOPIO + 0x408 + 0x10 * n)).toNat))))

/-- R504: turning HPENn off would hold a slot in CLOSED or OBSERVER. -/
def State.hpCloses (s : State) (n : Nat) : Bool :=
  s.usedSlots.any (fun k => (decide (s.slotSt k = slCLOSED) || decide (s.slotSt k = slOBSERVER)) && s.hpAffects n k)

/-- R503, R508: HOTPLUG_POWER. -/
def execHotplugPower (p : Pkt) (s : State) : Out :=
  let n := bits (p.w 0) 4 0
  let on := bitOf (p.w 1) 0
  let st := s.get (F.HP_STATE n)
  let lit := decide (st = hpPOWERED) || decide (st = hpJOINED)
  .next (s.command p opHotplugPower
    [(15 < n || outside (p.w 0) 0x1F || outside (p.w 1) 1, stBAD_PARAM),
     (n < 16 && on && !(s.hpRuns n && decide (st = hpDELAY)), stNOT_PERMITTED),
     (!on && lit && s.hpCloses n, stLOOP_CLOSED)]
    (fun t => (if on then t.hpOn n else if lit then (t.put (F.HP_STATE n) hpDELAY).hpDrop n else t).done p stDONE))

end Sys2Proof.Machine
end

