-- ==== Sys2Proof/Machine/Late.lean ====
section
/-! DEFINITION. Meanings that touch many blocks: loss of clocks, start-up, the host going away, fatal faults, STANDBY
(02_reset_and_startup, 03 R58, R63, 17 R439, 19 R478-R486). -/

namespace Sys2Proof.Machine

/-- R237: entries 0 on of the table that firmware loads. -/
def msTab0 : List Nat :=
  [0, 13176712, 26352928, 39528151, 52701887, 65873638, 79042909, 92209205, 105372028, 118530885,
   131685278, 144834714, 157978697, 171116732, 184248325, 197372981, 210490206, 223599506, 236700388, 249792358,
   262874923, 275947592, 289009871, 302061269, 315101294, 328129457, 341145265, 354148229, 367137860, 380113669,
   393075166, 406021864, 418953276, 431868915, 444768293, 457650927, 470516330, 483364019, 496193509, 509004318,
   521795963, 534567963, 547319836, 560051103, 572761285, 585449903, 598116478, 610760535, 623381597, 635979190,
   648552837, 661102068]

/-- R237: entries 52 on of the table that firmware loads. -/
def msTab1 : List Nat :=
  [673626408, 686125386, 698598533, 711045377, 723465451, 735858287, 748223418, 760560379, 772868706, 785147934,
   797397602, 809617248, 821806413, 833964637, 846091463, 858186434, 870249095, 882278991, 894275670, 906238681,
   918167571, 930061894, 941921200, 953745043, 965532978, 977284561, 988999351, 1000676905, 1012316784, 1023918549,
   1035481765, 1047005996, 1058490807, 1069935767, 1081340445, 1092704410, 1104027236, 1115308496, 1126547765, 1137744620,
   1148898640, 1160009404, 1171076495, 1182099495, 1193077990, 1204011566, 1214899812, 1225742318, 1236538675, 1247288477,
   1257991319, 1268646799]

/-- R237: entries 104 on of the table that firmware loads. -/
def msTab2 : List Nat :=
  [1279254515, 1289814068, 1300325059, 1310787095, 1321199780, 1331562722, 1341875532, 1352137822, 1362349204, 1372509294,
   1382617710, 1392674071, 1402677999, 1412629117, 1422527050, 1432371426, 1442161874, 1451898025, 1461579513, 1471205973,
   1480777044, 1490292364, 1499751575, 1509154322, 1518500249, 1527789006, 1537020243, 1546193612, 1555308767, 1564365366,
   1573363067, 1582301533, 1591180425, 1599999410, 1608758157, 1617456334, 1626093615, 1634669675, 1643184190, 1651636840,
   1660027308, 1668355276, 1676620431, 1684822463, 1692961061, 1701035921, 1709046738, 1716993211, 1724875039, 1732691927,
   1740443580, 1748129706]

/-- R237: entries 156 on of the table that firmware loads. -/
def msTab3 : List Nat :=
  [1755750016, 1763304223, 1770792043, 1778213194, 1785567395, 1792854372, 1800073848, 1807225552, 1814309215, 1821324571,
   1828271355, 1835149305, 1841958164, 1848697673, 1855367580, 1861967633, 1868497585, 1874957188, 1881346201, 1887664382,
   1893911493, 1900087300, 1906191569, 1912224072, 1918184580, 1924072870, 1929888719, 1935631909, 1941302224, 1946899450,
   1952423376, 1957873795, 1963250500, 1968553291, 1973781966, 1978936330, 1984016188, 1989021349, 1993951624, 1998806828,
   2003586778, 2008291295, 2012920200, 2017473320, 2021950483, 2026351521, 2030676268, 2034924561, 2039096240, 2043191149,
   2047209132, 2051150040]

/-- R237: entries 208 on of the table that firmware loads. -/
def msTab4 : List Nat :=
  [2055013722, 2058800035, 2062508835, 2066139982, 2069693341, 2073168776, 2076566159, 2079885359, 2083126253, 2086288719,
   2089372637, 2092377891, 2095304369, 2098151959, 2100920555, 2103610053, 2106220351, 2108751351, 2111202958, 2113575079,
   2115867625, 2118080510, 2120213650, 2122266966, 2124240379, 2126133816, 2127947205, 2129680479, 2131333571, 2132906419,
   2134398965, 2135811152, 2137142926, 2138394239, 2139565042, 2140655292, 2141664947, 2142593970, 2143442325, 2144209981,
   2144896909, 2145503082, 2146028479, 2146473079, 2146836865, 2147119824, 2147321945, 2147443221, 2147483647]

/-- R237: MS_TAB[i] = round(sin(i pi / 512) (2^31 - 1)), ties away from zero. -/
def msTab : List Nat := msTab0 ++ msTab1 ++ msTab2 ++ msTab3 ++ msTab4

/-- R58: the host is gone: the host queues are disabled, replies not yet posted are discarded, the acquisition stream to the
host stops. -/
def State.hostLost (s : State) : State := s.killQueues.acqHalt

/-- R58: the PCI Express link goes down. -/
def State.pcieDown (s : State) : State :=
  if s.host.linkUp then ({ s with host := { s.host with linkUp := false, linkSpeed := 0, linkWidth := 0 } }.pciReset false).hostLost else s

/-! ### Clocks -/

/-- R38: the links on SerDes PLL `pll` go down: 0 H10 and Splice, 1 H1, 2 PCIe. -/
def State.pllLinksDown (s : State) (pll : Nat) : State :=
  let ring (t : State) : State := [0, 1].foldl (fun (u : State) p => if u.on (linkBit p) then u.linkDown p else u)
    (if t.timeMaster then t.handBack else t)
  if pll = 0 then
    let s1 := if s.h1 then s else ring s
    [0, 1].foldl (fun (t : State) l => if t.on (splUpBit l) then t.splDown l else t) s1
  else if pll = 1 then (if s.h1 then ring s else s)
  else s.pcieDown

/-- R37: SerDes PLL `pll` is enabled: that of PCI Express by the boot ROM, from STAGE = ROM on (R45); the H10 and H1 ones by
RING, for the generation of its ports, the H10 one by SPLICE too. -/
def State.sdsEnabled (s : State) (pll : Nat) : Bool :=
  let ports := s.on F.RING_CTRL_HA_EN || s.on F.RING_CTRL_HB_EN
  if pll = 0 then (ports && !s.h1) || s.on (splEn 0) || s.on (splEn 1)
  else if pll = 1 then ports && s.h1
  else pll = 2 && decide (s.stage ≠ STAGE_RESET)

/-- R37: a SerDes PLL locks. -/
def execSerdesPllLock (pll : Nat) (s : State) : Out :=
  .next (if s.sys.inReset || !s.sdsEnabled pll then s else s.put (sdsLock pll) 1)

/-- R38: a SerDes PLL loses lock. -/
def execSerdesPllUnlock (pll : Nat) (s : State) : Out :=
  .next (if 3 ≤ pll || !s.on (sdsLock pll) then s
    else ((s.put (sdsLock pll) 0).raise bSYS (8 + pll)).pllLinksDown pll)

/-- R39: the clock monitor trips every generator, and a PLL_LOSS reset follows. -/
def State.clockLoss (s : State) : State :=
  let s1 := { s.put F.SYS_CLK_STAT_PLL_LOCK 0 with pwm := { s.pwm with clkTrip := true }, sys := { s.sys with pllLossPending := true } }
  s1.applyAllTrips

/-- R38, R39: XIN shows no edge for 1 us. In reset the outputs hold their pre-arm state already (R49). -/
def execCrystalLoss (s : State) : Out :=
  let s1 := { s.put F.SYS_CLK_STAT_XTAL_OK 0 with sys := { s.sys with xtalGone := true, pllLossPending := true } }
  .next (if s.sys.inReset then s1 else s1.clockLoss)

/-- R39: the system PLL loses lock; in reset it has none to lose (R36). -/
def execPllLossOfLock (s : State) : Out := .next (if s.sys.inReset then s else s.clockLoss)

/-! ### Start-up -/

/-- R459: the log entry of an image that the boot chain started, signed by a vendor slot. -/
def bootEntry (ty svn slot version digest : Nat) : List Nat :=
  [0x01000000 + ty * 2 ^ 16 + svn % 256 * 2 ^ 8 + slot % 4, version % 2 ^ 32, 1, 0] ++ digestWords digest

/-- R453, R457, R462: what the ROM does before it reads the flash: the seeds are unwrapped, SEC_CMD_CTR is loaded. -/
def State.romStart (s : State) : State := (s.put F.SEC_BLK_STAT_KEYS_READY 1).put F.SEC_CMD_CTR s.mram.cmdCtr

/-- R453: boot enters RECOVERY. -/
def State.enterRecovery (s : State) : State := (s.put F.SEC_BLK_STAT_RECOVERY 1).setStage STAGE_RECOVERY

/-- R47: boot halts. -/
def State.haltBoot (s : State) : State := { s with sys := { s.sys with bootHalted := true } }

/-- R453: the image of type `ty` in flash bank `i`, where the model holds that bank, passes the checks. -/
def State.bankOk (s : State) (ty i : Nat) : Bool := s.verifyImage (tabGet [] s.mram.flash i) ty = vfOK

/-- R453: bank `b` of the pair that begins at flash bank `i` is the one that boot chooses first: the higher SEQ, ties to bank 0;
nothing is known of a pair of which a bank is not held. -/
def State.bankFirst (s : State) (i b : Nat) : Option Bool :=
  let w0 := tabGet [] s.mram.flash i
  let w1 := tabGet [] s.mram.flash (i + 1)
  if w0.isEmpty || w1.isEmpty then none else some (decide ((if iw w0 7 < iw w1 7 then 1 else 0) = b))

/-- R453: what the boot chain says of an image that it started from bank `b` of a pair agrees with the banks that are held: the image
is valid and is this one, and a bank chosen second stands behind one that is not valid. -/
def State.bankFits (s : State) (ty i b slot svn version digest : Nat) : Bool :=
  let ws := tabGet [] s.mram.flash (i + b)
  decide (b < 2) &&
  (ws.isEmpty || (s.bankOk ty (i + b) && decide (imageSlot ws % 4 = slot) && decide (imageSvn ws = svn) && decide (iw ws 6 = version) &&
    decide ((ws.drop 12).take 12 = digestWords digest))) &&
  (s.bankFirst i b != some false || !s.bankOk ty (i + (1 - b)))

/-- R453: an outcome of the boot chain that the flash banks allow; what a bank holds that is not held here is open. -/
def State.bootFits (s : State) (r : BootChain) : Bool :=
  match r with
  | .flashRead => true
  | .imageAuth _ => !((s.bankOk tyLOADER 0 || s.bankOk tyLOADER 1) && (s.bankOk tyFIRMWARE 2 || s.bankOk tyFIRMWARE 3))
  | .started lb fb ls fs lv lsvn fsvn fallback ld fd fv _ =>
    s.bankFits tyLOADER 0 lb ls lsvn lv ld && s.bankFits tyFIRMWARE 2 fb fs fsvn fv fd &&
    (match s.bankFirst 0 lb, s.bankFirst 2 fb with
     | some x, some y => fallback == !(x && y)
     | some false, _ => fallback
     | _, some false => fallback
     | _, _ => true)

/-- R453: what the boot chain's end makes of the device. -/
def State.bootEnd (s : State) (r : BootChain) : State :=
  match r with
  | .flashRead => s.haltBoot.stageFail 0x01
  | .imageAuth fail =>
    let s1 := (s.noteFail fail).stageFail 0x02
    if bitOf s.otp.cfg 0 then s1.haltBoot.setStage STAGE_HALTED else s1.enterRecovery
  | .started lb fb ls fs lv lsvn fsvn fallback ld fd fv fail =>
    let s1 := ((s.put F.SEC_BLK_STAT_LDR_BANK lb).put F.SEC_BLK_STAT_FW_BANK fb).noteFail fail
    let s2 := (((s1.put F.SEC_LDR_SLOT ls).put F.SEC_FW_SLOT fs).put F.SEC_LDR_SVN lsvn).put F.SEC_FW_SVN fsvn
    let s3 := (if fallback then s2.raise bSEC 8 else s2).logEntry (bootEntry tyLOADER lsvn ls lv ld)
    let s4 := (s3.logEntry (bootEntry tyFIRMWARE fsvn fs fv fd)).applyKeys.setWord 0x2011200C (Word.of fv)
    { s4 with sys := { s4.sys with bootDone := true, ldrVersion := lv } }.setStage STAGE_DRAM_TRAIN

/-- R45, R453: the boot ROM and the loader end. A BOOT_IF strap of 1 enters RECOVERY without reading the flash. An outcome that the
banks contradict does not occur. -/
def execBootChainDone (r : BootChain) (s : State) : Out :=
  .next (if s.stage ≠ STAGE_ROM || s.sys.bootHalted then s
    else if s.on F.SYS_STRAP_BOOT_IF && !bitOf s.otp.cfg 0 then s.romStart.enterRecovery
    else if s.bootFits r then s.romStart.bootEnd r
    else s)

/-- R63: READY, FATAL: the status window changes, so vector 4 is raised. -/
def State.setReady (s : State) : State := (s.put F.STAT_BOOT_READY 1).msix 4

/-- R342: forces that were active before the reset are recorded once. -/
def State.noteForces (s : State) : State :=
  let n := s.sys.forcesLost
  if n = 0 then s else { s with sys := { s.sys with forcesLost := 0 } }.post 0x2013 0 n 0

/-- R445: what SPLICE_CONFIG and LASH_CONFIG stored takes effect. -/
def State.restorePair (s : State) : State :=
  let s1 := match s.mram.splice with
    | some ws => s.spliceCfg (iw ws 0) (iw ws 1) (iw ws 2)
    | none => s
  match s.mram.lash with
  | some ws => s1.lashCfg ws
  | none => s1

/-- R45, R237, R310, R315, R442: what firmware writes at FW_INIT. -/
def State.fwWrites (s : State) : State :=
  let s1 := ((s.put64 F.RING_CAP_LO 0xF).put F.LASH_OWN_SCHEMA Config.mirrorSchema).setWords (F.MS_TAB 0).addr msTab
  match s.mram.rank with
  | some r => s1.put F.RING_CTRL_RANK r
  | none => s1

/-- R45, R342, R488, R492: firmware initialisation ends. -/
def execFwInitDone (s : State) : Out :=
  .next (if s.stage ≠ STAGE_FW_INIT then s
    else
      let s1 := (s.fwWrites.post 0x0010 0 (s.word 0x20000060).toNat (s.word 0x20000084).toNat).noteForces.timeSync
      let s2 := s1.setReady.restorePair
      ((List.range 8).foldl State.calGo s2).setStage STAGE_ADC_CAL)

/-! ### PCI Express -/

/-- R58: the function is placed in D3hot. -/
def execD3hotEntry (s : State) : Out := .next s.hostLost

/-- R57, R58: function level reset. -/
def State.functionReset (s : State) : State := (s.pciReset true).hostLost

/-- R58: function level reset. -/
def execFunctionLevelReset (s : State) : Out := .next s.functionReset

/-- R58: the link goes down. -/
def execPcieLinkDown (s : State) : Out := .next s.pcieDown

/-! ### Faults of firmware and memory -/

/-- R63, R439: firmware stops serving the queues; `code` is its fault code. -/
def execFirmwareFatal (code : Nat) (s : State) : Out :=
  .next (if s.on F.STAT_BOOT_FATAL then s
    else (((s.put F.STAT_BOOT_FATAL 1).msix 4).post 0x2012 0 code (code / 2 ^ 32)).noteResign)

/-- R326, R439: an uncorrectable ECC error: 0 loop memory, 1 cam tables, 2 program memory, 3 the scheduler's task table, 4
LPDDR4X, where the programs lie. That of the task table raises a watchdog reset through firmware. -/
def execUncorrectableEccError (mem : Nat) (s : State) : Out :=
  .next (if mem = 3 then s.assertReset .wdog else if mem ≤ 4 then s.noteResign else s)

/-! ### Power -/

/-- R479: the conditions that REQ = STANDBY finds failing: bit 0 SLOTS, bit 1 PWM, bit 2 SLUICE. -/
def State.standbyRefuse (s : State) : Nat :=
  b2n (s.usedSlots.any (fun n => decide (s.slotSt n ≠ slIDLE) && decide (s.slotSt n ≠ slOPEN))) +
  2 * b2n ((List.range 48).any (fun g => s.on (F.PWM_STAT_RUN g) || s.on (F.PWM_STAT_STOPPING g))) +
  4 * b2n ((List.range 12).any (fun k => !s.stoSafe k))

/-- R478, R479, R484: REQ = STANDBY in RUN or IDLE. -/
def State.reqStandby (s : State) : State :=
  let r := s.standbyRefuse
  if 2 ≤ s.get F.IRQ_BLK_STAT_POWER then s
  else if r ≠ 0 then (s.put F.PWR_STAT_REFUSE r).raise bIRQ 10
  else { (s.put F.IRQ_BLK_STAT_POWER 2).put F.IRQ_WAKE_LATCH 0 with irq := { s.irq with sensing := true } }.wakeCheck

/-- R479: core code writes REQ = STANDBY. -/
def execPwrReqStandby (s : State) : Out := .next s.reqStandby

/-- R480: the sequencer of ADC core `c` is disarmed. -/
def State.gateAdc (s : State) (c : Nat) : State :=
  ((s.put (F.ADC_CTRL_ARM c) 0).put (F.ADC_STAT_BUSY c) 0).setCore c { s.core c with running := false, pass := [], next := none }

/-- R480, R494: the lifetime values are flushed and the domains are gated. -/
def execStandbyGate (s : State) : Out :=
  let s0 := s.wakeCheck
  .next (if s0.get F.IRQ_BLK_STAT_POWER ≠ 2 then s0
    else
      let s1 := ((List.range 8).foldl State.gateAdc (s0.holdGpio.lifetimeFlush.put F.IRQ_BLK_STAT_POWER 3)).put F.ADC_BLK_STAT_REF_SETTLED 0
      { s1 with irq := { s1.irq with gateTime := s1.now }, adc := { s1.adc with settling := true } })

/-- R479: what SYS_POWER_STATE asks beside: [16] RING, [17] ACQ, [18] PROG, [19] LASH. -/
def State.standbyDenied (s : State) : Nat :=
  2 ^ 16 * b2n (s.on F.RING_CTRL_RUN) + 2 ^ 17 * b2n (decide (s.acqSt ≠ aqIDLE)) + 2 ^ 18 * b2n s.progRuns +
  2 ^ 19 * b2n (decide (s.lashSt ≠ lsOFF) && decide (s.lashSt ≠ lsDETACHED))

/-- R486: SYS_POWER_STATE asks for STANDBY; the reply comes after wake. -/
def State.powerStandby (s : State) (p : Pkt) : State :=
  let d := s.standbyDenied
  if d ≠ 0 then s.reply p stSTANDBY_DENIED [s.get F.PWR_STAT_REFUSE * 256 + d] s.now true false
  else if s.standbyRefuse ≠ 0 then
    let s1 := s.reqStandby
    s1.reply p stSTANDBY_DENIED [s1.get F.PWR_STAT_REFUSE * 256] s1.now true false
  else { s with irq := { s.irq with pwrPkts := s.irq.pwrPkts ++ [p] } }.reqStandby

/-- R478: REQ = RUN, REQ = IDLE. -/
def State.powerAwake (s : State) (p : Pkt) (st : Nat) : State :=
  (if s.get F.IRQ_BLK_STAT_POWER < 2 then s.put F.IRQ_BLK_STAT_POWER st else s).done p stDONE

/-- R486: SYS_POWER_STATE. -/
def execSysPowerState (p : Pkt) (s : State) : Out :=
  .next (s.command p opSysPowerState [(2 < p.w 0, stBAD_PARAM)]
    (fun t => if p.w 0 = 2 then t.powerStandby p else t.powerAwake p (p.w 0)))

/-- What passes while no command waits: one CTL_CLK tick of the timebase (R89, log entry 2), with the expiries of that tick (R320);
none before the PLL has locked (R36), and none in reset, where the cycle of the assertion ends (R44, log entry 114). -/
def State.idle (s : State) : State :=
  if s.sys.inReset then { s with sys := { s.sys with sameCycle := false } }
  else if s.on F.SYS_CLK_STAT_PLL_LOCK then (let t := s.advance 1; if t.runs then t.expireDue else t)
  else s

end Sys2Proof.Machine
end

