-- ==== Sys2Proof/Machine/RegWrite.lean ====
section
/-! DEFINITION. Writes to registers and memories by address (R9-R12, R24-R28, R30), commits by key (R31-R33), and the
reads and writes of 64-bit pairs (R34, R102). -/

namespace Sys2Proof.Machine

/-- The state that a meaning leaves, for a meaning that always ends in a next state. -/
def State.via (s : State) (f : State → Out) : State :=
  match f s with
  | .next t => t
  | _ => s

/-- R11, R28: the value of one field after the word `v` is written over `old`. -/
def fieldNew (lock : Bool) (old v : Nat) (f : RegField) : Nat :=
  let o := bits old f.hi f.lo
  let n := bits v f.hi f.lo
  match f.acc with
  | .ro => o
  | .wo => o
  | .stg => o
  | .rw => n
  | .w1c => o - Nat.land o n
  | .w1s => Nat.lor o n
  | .rwl => if lock then o else n

/-- R28: a locked field whose written value differs. -/
def fieldRefused (old v : Nat) (f : RegField) : Bool := f.acc = .rwl && decide (bits old f.hi f.lo ≠ bits v f.hi f.lo)

/-- R10, R11: the word after a write; bits that no field holds are 0. -/
def wordNew (lock : Bool) (old v : Nat) : List RegField → Nat
  | [] => 0
  | f :: t => fieldNew lock old v f * 2 ^ f.lo + wordNew lock old v t

/-- R30: the staged fields of a written word. -/
def wordStaged (v : Nat) : List RegField → Nat
  | [] => 0
  | f :: t => (if isStg f then bits v f.hi f.lo * 2 ^ f.lo else 0) + wordStaged v t

/-- R28, R30, R32: a word of unit `u` of the block at base `b` is written field by field; `lock` says that the unit runs;
`off` and `region` name the word in a record. -/
def State.unitWord (s : State) (b u off : Nat) (region lock : Bool) (a v : Nat) : State :=
  match regAt a with
  | none => s
  | some (r, _) =>
    let old := (s.word a).toNat
    let s1 := if lock && r.fields.any (fieldRefused old v) then s.lockReject b u off region else s
    let s2 := s1.setWord a (Word.of (wordNew lock old v r.fields))
    if !r.fields.any isStg then s2
    else if s.commitPending b u then s2.reject b
    else s2.setWord (a + 0x800) (Word.of (wordStaged v r.fields))

/-- R30, R32: the staged copy of a word of unit `u` of the block at base `b` is written at its own address `a`. -/
def State.stageWord (s : State) (b u a v : Nat) : State :=
  match regAt (a - 0x800) with
  | none => s
  | some (r, _) => if s.commitPending b u then s.reject b else s.setWord a (Word.of (wordStaged v r.fields))

/-- R30: address `a` is that of a staged copy. -/
def isStagedCopy (a : Nat) : Bool :=
  (regAt a).isNone &&
  (match regAt (a - 0x800) with
   | some (r, _) => r.fields.any isStg
   | none => false)

/-- R31: the unit whose staged field stands at offset `o` of block `n`. -/
def stagedUnit (n o : Nat) : Nat :=
  match n with
  | 5 => (o - 0x100) / 128
  | 6 => (o - 0x100) / 32
  | 7 => 128 * ((o - 0x4000) / 0x1000) + o % 0x1000 / 16
  | 8 => 32 * ((o - 0xA000) / 0x1000) + o % 0x1000 / 64
  | _ => 0

/-- R127: a LEN of 0 or above 16 is not staged. -/
def stagedBad (n o v : Nat) : Bool :=
  n = 5 && decide (0x100 ≤ o) && decide (o < 0x500) && o % 128 = 0 && (bits v 4 0 = 0 || decide (16 < bits v 4 0))

/-- A word without run-locked or staged fields is written. -/
def State.plainWord (s : State) (a v : Nat) : State := s.unitWord 0 0 0 false false a v

/-- A word of a block's window is written, with the lock of unit `u`. -/
def State.lockWord (s : State) (b u : Nat) (lock : Bool) (a v : Nat) : State :=
  s.unitWord b u (a % 0x10000) false lock a v

/-- R31: how many units the block with number `n` commits. -/
def unitCount (n : Nat) : Nat := if n = 5 then 8 else if n = 6 then 48 else if n = 7 then 512 else if n = 8 then 96 else if n = 9 then 1 else 0

/-- R29: a unit of the block at base `b` runs, so that CLKEN may not be cleared. -/
def State.blockRuns (s : State) (b : Nat) : Bool :=
  match (b - 0x20000000) / 0x10000 with
  | 3 => s.sched.tasks.any (fun e => e.2.st ≠ .free)
  | 4 => (List.range 32).any (fun n => s.on (F.CMP_CTRL_EN n) || s.on (F.CAP_CTRL_EN n))
  | 5 => (List.range 8).any s.adcArmed
  | 6 => (List.range 48).any s.genRuns
  | 7 => s.usedSlots.any s.slotRuns || (List.range 4).any (fun i => s.on (F.INJ_BUSY i))
  | 8 => (List.range 96).any s.axRuns || (List.range 16).any (fun n => s.on (F.ENC_EN n))
  | 9 => s.on F.RING_CTRL_RUN
  | 10 => let c := (b - 0x200A0000) / 0x4000; decide (s.canSt c ≠ cnCONFIG) || (List.range 128).any (s.objLocked c)
  | 11 => s.on (F.ETH_CTRL_EN 0) || s.on (F.ETH_CTRL_EN 1)
  | 12 => decide (s.acqSt ≠ aqIDLE) || (List.range 4).any (fun t => s.on (F.ACQT_EN t))
  | 15 => (List.range 24).any (fun n => s.on (F.TK_EN n)) || (List.range 16).any (fun n => s.on (F.HP_EN n))
  | 16 => s.on (splEn 0) || s.on (splEn 1) || s.on F.LASH_EN
  | 18 => (List.range 64).any (fun n => decide (s.gpioFunc n ≠ 0))
  | _ => false

/-- R27, R328: BLK_CTRL. CLKEN cannot be cleared while a unit runs, and never in SYS, SEC, IRQ, STO, EVREC, HOSTIF;
SCHED's PREFETCH is run-locked. -/
def State.ctrlWord (s : State) (b v : Nat) : State :=
  let n := (b - 0x20000000) / 0x10000
  let s1 := if n = 3 && decide (bits v 1 1 ≠ s.get F.SCHED_BLK_CTRL_PREFETCH) then
      (if s.blockRuns b then s.lockReject b 0 4 false else (s.put F.SCHED_BLK_CTRL_PREFETCH (bits v 1 1)).refreshPf)
    else s
  if [0, 1, 2, 13, 14, 17].contains n then s1
  else if bitOf v 0 then s1.put (F.BLK_CLKEN b) 1
  else if s.blockRuns b then s1.reject b
  else s1.put (F.BLK_CLKEN b) 0

/-- R27: sticky flags are cleared by 1 and the block's line follows. -/
def State.stickyWord (s : State) (b v : Nat) : State :=
  (s.put (F.BLK_STICKY b) (s.get (F.BLK_STICKY b) - Nat.land (s.get (F.BLK_STICKY b)) v)).refreshLine b

/-- R31: the units that the masks of block `n` select. -/
def State.maskUnits (s : State) (n : Nat) : List Nat :=
  (List.range (unitCount n)).filter (fun u => bitOf (s.word (blkBase n + 0x20 + 4 * (u / 32))).toNat (u % 32))

/-- R31: a commit of unit `u` of block `n` starts; a unit that does not run, an ADC core with no pass running (R127), and a slot,
which is between two samples, takes its staged fields at once. -/
def State.startCommit (n : Nat) (s : State) (u : Nat) : State :=
  let t := s.askCommit (blkBase n) u none
  if n = 5 then (if ((s.acqNow u).core u).running then t.acqNow u else (t.acqNow u).commitAdc u t.now)
  else if n = 6 then (if s.genRuns u then t else t.commitPwm u t.now)
  else if n = 7 then t.commitLoop u
  else if n = 8 then (if s.axRuns u then t else t.commitAxis u t.now)
  else if s.on F.RING_CTRL_RUN then t else t.commitRing

/-- R31, R32: a word is written to BLK_COMMIT of the block at base `b`. -/
def State.commitKey (s : State) (b v : Nat) : State :=
  let n := (b - 0x20000000) / 0x10000
  if v ≠ 0xA5 ∨ s.cmtPending b then s.reject b
  else (s.maskUnits n).foldl (State.startCommit n) s

/-- R31-R32: a write to BLK_COMMIT. -/
def execBlkCommitWrite (base : Nat) (v : Word) (s : State) : Out := .next (s.commitKey base v.toNat)

/-- R33: 1 ms passes since the first commit of the block that waits: what has not reached its safe point is abandoned. -/
def State.abandon (s : State) (b : Nat) : State :=
  match s.commits.filter (fun c => c.base = b) with
  | [] => s
  | c :: _ =>
    let t := s.advanceTick (c.since + commitTicks)
    t.abandonAt b (t.time.tick + 1) (if b = bPWM then s.genReach else fun _ => false)

/-- R33: a selected unit has not reached its safe point. -/
def execCommitAbandon (base : Nat) (s : State) : Out := .next (s.abandon base)

/-- R27: a common register of the block at base `b` is written. -/
def State.commonWord (s : State) (b o v : Nat) : State :=
  let n := (b - 0x20000000) / 0x10000
  if o = 0x04 then s.ctrlWord b v
  else if o = 0x0C then s.stickyWord b v
  else if o = 0x10 then (s.setWord (b + 0x10) (Word.of v)).refreshLine b
  else if o = 0x14 then s.commitKey b v
  else if 0x20 ≤ o ∧ o < 0x60 ∧ 5 ≤ n ∧ n ≤ 9 then
    s.setWord (b + o) (Word.of (v % 2 ^ min 32 (unitCount n - 8 * (o - 0x20))))
  else s

/-- A word of SYS. -/
def State.sysWord (s : State) (o v : Nat) : State :=
  if o = 0x60 then (s.plainWord (bSYS + o) v).mirrorCause
  else if o = 0x70 then s.via (execSysWdogCtrlWrite (Word.of v))
  else if o = 0x74 then s.via (execSysWdogKickWrite (Word.of v))
  else if o = 0x78 then s.via (execSysSwrstWrite (Word.of v))
  else if o = 0x7C then (if bitOf v 0 then s.armOutputs else s)
  else s

/-- A word of SEC (R466): from 0x080 upwards for cores of domain 0 only. GO with a reserved OP starts nothing. -/
def State.secWord (s : State) (r : Requester) (o v : Nat) : State :=
  if o < 0x80 || (regAt (bSEC + o)).isNone then s
  else if s.domainOf r ≠ 0 then s.reject bSEC
  else if o = 0x80 then
    let s1 := s.put F.SEC_OP v
    let op := bits v 7 0
    if !bitOf v 31 then s1
    else if op = 1 then s1.secGo r 1 (fun t => t)
    else if op = 2 then s1.secGo r 2 (fun t => t)
    else if op = 3 then s1.secGo r 3 State.startAttest
    else s1
  else s.plainWord (bSEC + o) v

/-- R469, R475, R476, R485: a write to IRQ_SRCn. -/
def State.srcWord (s : State) (n v : Nat) : State :=
  let a := (F.IRQS_EN n).addr
  let old := (s.word a).toNat
  let new := Nat.land v 0x9FF03F9F
  if (s.irqPend n || s.irqInService n) && decide (Nat.land old 0xF0009F ≠ Nat.land new 0xF0009F) then s.reject bIRQ
  else
    let s1 := s.setWord a (Word.of new)
    let s2 := if bitOf old 7 && !bitOf new 7 then s1.setReleased n false else s1
    let s3 := if bitOf old 28 = bitOf new 28 then s2 else s2.line n (bitOf s2.irq.raw n)
    s3.hostDeliver n

/-- A word of IRQ. -/
def State.irqWord (s : State) (o v : Nat) : State :=
  if o = 0x60 then
    (match bits v 1 0 with
     | 0 => s.via execPwrReqRun
     | 1 => s.via execPwrReqIdle
     | 2 => s.reqStandby
     | _ => s.reject bIRQ)
  else if o = 0x68 then (s.plainWord (bIRQ + o) v).wakeCheck
  else if 0x100 ≤ o ∧ o < 0x130 then s.via (execIrqPendWrite ((o - 0x100) / 4) (Word.of v))
  else if 0x200 ≤ o ∧ o < 0x290 ∧ o % 16 = 8 then s.via (execIrqComplete ((o - 0x200) / 16) (Word.of v))
  else if o = 0x280 then (s.plainWord (bIRQ + o) v).hostSweep
  else if 0x1000 ≤ o ∧ o < 0x1600 then s.srcWord ((o - 0x1000) / 4) v
  else s.plainWord (bIRQ + o) v

/-- R325, R328: an offset of SCHED belongs to a core's own set, or to its SCHED_PFc, and requester `r` is not that core. -/
def schedBarred (r : Requester) (o : Nat) : Bool :=
  (decide (0x200 ≤ o) && decide (o < 0x300) && decide (r ≠ .core ((o - 0x200) / 32))) ||
  (decide (0x400 ≤ o) && decide (o < 0x420) && decide (r ≠ .core ((o - 0x400) / 4)))

/-- A word of SCHED (R328): the domains are run-locked; a write to SCHEDC_CMD runs the operation of that core; another core's set ignores
writes. -/
def State.schedWord (s : State) (r : Requester) (o v : Nat) : State :=
  if schedBarred r o then s
  else if 0x200 ≤ o ∧ o < 0x300 ∧ o % 32 = 0 then s.schedCmd ((o - 0x200) / 32) (Word.of v)
  else s.lockWord bSCHED 0 (s.blockRuns bSCHED) (bSCHED + o) v

/-- A word of TIME. -/
def State.timeWord (s : State) (o v : Nat) : State :=
  if o = 0x108 then s.timeSrcWrite v
  else if o = 0x110 then s.timeRateWrite v
  else if o = 0x118 then s.ptpOffset v
  else if 0x400 ≤ o ∧ o < 0x800 then
    let n := (o - 0x400) / 32
    if o % 32 = 0 then s.cmpCtrl n v else s.lockWord bTIME n (s.on (F.CMP_CTRL_EN n)) (bTIME + o) v
  else if 0x900 ≤ o ∧ o < 0xB00 ∧ o % 16 = 0 then s.capCtrl ((o - 0x900) / 16) v
  else s.plainWord (bTIME + o) v

/-- R126, R28: a write to ADCc_CTRL: the locked fields, ARM, then CAL_GO. -/
def State.adcCtrlWord (s : State) (c v : Nat) : State :=
  let s2 := ((s.acqNow c).trigWrite c v).armWrite c (bitOf v 0)
  if bitOf v 1 then s2.calGo c else s2

/-- A word of ADC. -/
def State.adcRegWord (s : State) (o v : Nat) : State :=
  if o = 0x60 then s.refWrite (bits v 1 0)
  else if o = 0x64 then s.adcTriggers v 16
  else if o < 0x1000 then s.lockWord bADC ((o - 0x100) / 128) false (bADC + o) v
  else if o < 0x1800 then
    let c := (o - 0x1000) / 256
    let k := o % 256
    if k = 0 then s.adcCtrlWord c v
    else if 0xC0 ≤ k ∧ k < 0xE0 ∧ k % 8 = 4 then s.winCtrlWrite c ((k - 0xC0) / 8) v
    else s.plainWord (bADC + o) v
  else s

/-- R198, R206, R28: a write to PWMn_CTRL. -/
def State.pwmCtrlWord (s : State) (g v : Nat) : State :=
  let s1 := if bitOf v 3 then s.tripClr g else s
  let s2 := if bitOf v 2 then s1.setLoadnow g else s1
  if bitOf v 0 = s2.on (F.PWM_CTRL_EN g) && !s2.on (F.PWM_STAT_STOPPING g) then s2
  else if bitOf v 0 then s2.startAt g else s2.stopGen g

/-- A word of PWM. -/
def State.pwmWord (s : State) (o v : Nat) : State :=
  if o = 0x60 then s.via (execPwmStartWrite 0 (Word.of v))
  else if o = 0x64 then s.via (execPwmStartWrite 1 (Word.of v))
  else if 0x80 ≤ o ∧ o < 0xC0 then
    let k := (o - 0x80) / 4
    let new := v % 512
    if !s.pinLocked k then s.setTripPin k new
    else if new = (s.word (bPWM + o)).toNat then s
    else s.lockReject bPWM (0x40 + k) o false
  else if 0x100 ≤ o ∧ o < 0x700 then
    let g := (o - 0x100) / 32
    if o % 32 = 0x14 then
      (let new := Nat.land v 0xF0F
       if new = (s.word (bPWM + o)).toNat then (if s.on F.PWM_BLK_STAT_SLUICE_ARMED then s.reject bPWM else s)
       else if s.genRuns g then s.lockReject bPWM g o false
       else if s.on F.PWM_BLK_STAT_SLUICE_ARMED then s.reject bPWM
       else s.setGrp g new)
    else s.lockWord bPWM g (s.genRuns g) (bPWM + o) v
  else if 0x1000 ≤ o ∧ o < 0x1C00 then
    let g := (o - 0x1000) / 64
    let k := o % 64
    if k = 0 then s.pwmCtrlWord g v
    else if 0x10 ≤ k ∧ k ≤ 0x20 then s.shadowWrite g ((k - 0x10) / 4) v
    else s.plainWord (bPWM + o) v
  else s

/-- R187, R191: a word of injector `i`: run-locked while BUSY; GO starts it. -/
def State.injWord (s : State) (i o v : Nat) : State :=
  let k := o % 64
  let s1 := s.lockWord bLOOP (0x200 + i) (s.on (F.INJ_BUSY i)) (bLOOP + o)
    (if k = 0 then Nat.land v 0xFFFFFFFE + (s.word (bLOOP + o)).toNat % 2 else v)
  if k = 0 && bitOf v 0 then s1.via (execInjGo i) else s1

/-- A word of LOOP's window. -/
def State.loopWord (s : State) (o v : Nat) : State :=
  if 0x1000 ≤ o ∧ o < 0x2000 ∧ o % 8 = 0 then s.slotReqWrite ((o - 0x1000) / 8) (bits v 31 28)
  else if 0x2000 ≤ o ∧ o < 0x2800 then s.stickyClear ((o - 0x2000) / 4) v
  else if 0x4000 ≤ o ∧ o < 0x8000 ∧ o % 0x1000 < 0x800 then
    s.lockWord bLOOP (128 * ((o - 0x4000) / 0x1000) + o % 0x1000 / 16) false (bLOOP + o) v
  else if 0x8000 ≤ o ∧ o < 0x8100 then s.injWord ((o - 0x8000) / 64) o v
  else s.plainWord (bLOOP + o) v

/-- R159, R164, R165: a word of loop memory: a slot's words are locked while it runs, a model block's while a slot that is
bound to it runs. -/
def State.loopMemWord (s : State) (a v : Nat) : State :=
  let o := a - 0x21000000
  if o < 0x20000 then
    let n := o / 256
    let t := s.unitWord bLOOP n o true (s.slotRuns n) a v
    if o % 256 = 0x34 then t.refreshModels else if o % 256 = 0xA0 then t.refreshSv else t
  else
    let b := (o - 0x20000) / 0x200
    match s.usedSlots.find? (fun n => s.slotRuns n && s.modelEn n && decide (s.get (F.SLOT_MODEL n) % 32 = b)) with
    | some n => s.unitWord bLOOP n o true true a v
    | none => s.unitWord bLOOP 0 o true false a v

/-- R236: a word of a cam table; every write to one that a CAMMING axis uses is ignored and sets CFG_REJECT. -/
def State.camWord (s : State) (a v : Nat) : State :=
  let o := a - 0x21200000
  let t := o / 32768
  match (List.range 96).find? (fun n => s.axSt n = axCAMMING && decide ((s.ax n).eng.tab = t)) with
  | some n => s.lockReject bMOTION n o true
  | none => s.unitWord bMOTION 0 o true false a v

/-- R221-R245: a word of axis `n`. -/
def State.axWord (s : State) (n o v : Nat) : State :=
  let k := o % 256
  if k = 0x40 then
    (match bits v 31 28 with
     | 1 => s.axReg n 1 ((s.getWords (bMOTION + 0x1080 + 256 * n) 8))
     | 8 => s.axReg n 8 [s.get (F.AX_TRIM_DELTA n)]
     | c => if c = 0 ∨ 8 < c then s.reject bMOTION else s.axReg n c [])
  else if k = 0x64 then s.axStickyClear n v
  else if k = 0x70 then s.setWord (bMOTION + o) (Word.of v)
  else
    let t := s.lockWord bMOTION n (s.axRuns n) (bMOTION + o) v
    if k = 0 then t.refreshSteppers else t

/-- R253: a word of encoder `n`. -/
def State.encWord (s : State) (n o v : Nat) : State :=
  let k := o % 64
  if k = 0 then s.encCfgWrite n v
  else if k = 0x0C then (if bitOf v 1 then s.encErrClear n else s)
  else s.lockWord bMOTION (0x100 + n) (s.on (F.ENC_EN n)) (bMOTION + o) v

/-- A word of MOTION's window. -/
def State.motionWord (s : State) (o v : Nat) : State :=
  if 0x1000 ≤ o ∧ o < 0x7000 then s.axWord ((o - 0x1000) / 256) o v
  else if 0x8000 ≤ o ∧ o < 0x9000 then s.lockWord bMOTION 0x200 s.anyStepper (bMOTION + o) v
  else if 0x9000 ≤ o ∧ o < 0x9400 then
    s.lockWord bMOTION (0x210 + (o - 0x9000) / 64) (s.stepTabUsed ((o - 0x9000) / 64)) (bMOTION + o) v
  else if 0xA000 ≤ o ∧ o < 0xD000 ∧ o % 0x1000 < 0x800 then
    s.lockWord bMOTION (32 * ((o - 0xA000) / 0x1000) + o % 0x1000 / 64) false (bMOTION + o) v
  else if 0xD000 ≤ o ∧ o < 0xD400 then s.encWord ((o - 0xD000) / 64) o v
  else s.plainWord (bMOTION + o) v

/-- A word of RING (R283, R285): the bank in use takes no write; the other bank's image is read again. -/
def State.ringWord (s : State) (o v : Nat) : State :=
  if o = 0x60 then s.ringCtrl v
  else if 0x8000 ≤ o then
    let b := (o - 0x8000) / 0x4000
    if s.ring.inForce && decide (b = s.get F.RING_STAT_BANK) then s.reject bRING
    else (s.setWord (bRING + o) (Word.of v)).readBank b
  else s.lockWord bRING 0 (s.on F.RING_CTRL_RUN) (bRING + o) v

/-- R386-R392: a word of CAN controller `c`, at offset `o` of its own registers. -/
def State.canWord (s : State) (c o v : Nat) : State :=
  if o = 0x60 ∨ o = 0x64 ∨ o = 0x68 ∨ o = 0x6C then s.canRegWrite c o v
  else if 0x110 ≤ o ∧ o < 0x120 then s.canTxreq c ((o - 0x110) / 4) v
  else if 0x120 ≤ o ∧ o < 0x130 then s.via (execCanTxabortWrite c ((o - 0x120) / 4) (Word.of v) none)
  else if 0x1000 ≤ o then s.objWrite c ((o - 0x1000) / 96) ((o - 0x1000) % 96) v
  else s.plainWord (bCAN c + o) v

/-- R114: a word of ETH. -/
def State.ethWord (s : State) (o v : Nat) : State :=
  let p := (o - 0x100) / 128
  let k := o % 128
  if o < 0x100 ∨ 0x200 ≤ o then s
  else if k = 0 then s.ethCtrl p v
  else if k = 4 then s.mdioWrite p v
  else s.lockWord bETH p (s.on (F.ETH_CTRL_EN p)) (bETH + o) v

/-- R374, R380: a word of ACQ. RUN arms from IDLE and stops otherwise; what a stop leaves is delivered. -/
def State.acqWord (s : State) (o v : Nat) : State :=
  let lock := decide (s.acqSt ≠ aqIDLE)
  if o = 0x60 then
    let s1 := s.lockWord bACQ 0 lock (bACQ + o) (Nat.land v 0xFFFFFFFE + s.get F.ACQ_RUN)
    if bitOf v 0 then (if lock then s1 else s1.acqArm) else s1.acqStop false
  else if 0x800 ≤ o ∧ o < 0x880 then
    let t := (o - 0x800) / 32
    let en := s.on (F.ACQT_EN t)
    if o % 32 = 0 then
      (let old := (s.word (bACQ + o)).toNat
       let new := Nat.land v 0xF8FFFFFF
       let m := 0x78FFFFFF
       if en && decide (Nat.land old m ≠ Nat.land new m) then
         (s.lockReject bACQ (1 + t) o false).unitWrite t (Nat.land old m + Nat.land v 0x80000000)
       else s.unitWrite t new)
    else s.lockWord bACQ (1 + t) en (bACQ + o) v
  else s.lockWord bACQ 0 lock (bACQ + o) v

/-- R415: a word of STO: the mailbox; a write to STO_REQ7 submits the request. -/
def State.stoWord (s : State) (o v : Nat) : State :=
  if o = 0x31C then s.via (execStoReq7Write (Word.of v))
  else if 0x300 ≤ o ∧ o < 0x31C then
    let i := (o - 0x300) / 4
    { s with sto := { s.sto with mail := (List.range 8).map (fun j => if j = i then v else iw s.sto.mail j) } }
  else s.plainWord (bSTO + o) v

/-- R507: a word of OPIO. -/
def State.opioWord (s : State) (o v : Nat) : State :=
  if 0x100 ≤ o ∧ o < 0x280 then s.lockWord bOPIO ((o - 0x100) / 16) (s.on (F.TK_EN ((o - 0x100) / 16))) (bOPIO + o) v
  else if 0x400 ≤ o ∧ o < 0x500 then
    let n := (o - 0x400) / 16
    let t := s.lockWord bOPIO (24 + n) (s.on (F.HP_EN n)) (bOPIO + o) v
    if o % 16 = 0 then t.hpSee n else t
  else s.plainWord (bOPIO + o) v

/-- R444, R445: a word of SPLICE. -/
def State.spliceWord (s : State) (o v : Nat) : State :=
  let link := s.on (splEn 0) || s.on (splEn 1)
  let pair := s.on F.LASH_EN
  if o = 0x60 then
    let id := Nat.land v 0x30
    if link && decide (bits v 5 4 ≠ s.get F.SPL_ID) then
      (s.lockReject bSPLICE 0 o false).splCtrl (s.get F.SPL_ID * 16 + v % 4)
    else s.splCtrl (id + v % 4)
  else if o = 0x7C then s.splTail v
  else if 0x200 ≤ o then
    let t := s.lockWord bSPLICE 2 pair (bSPLICE + o) v
    if o = 0x200 && t.on F.LASH_EN && !pair && (t.lashSt = lsOFF || t.lashSt = lsDETACHED) then t.setLash lsSEEKING else t
  else s.lockWord bSPLICE 0 link (bSPLICE + o) v

/-- R60, R61: a word of the doorbell page as the host writes it. R28: a refused write is flagged and recorded as any other; the unit
is the queue. -/
def State.doorbellWord (s : State) (o v : Nat) : State :=
  let n := (o - 0x1000) / 64
  let k := o % 64
  let a := bHOSTIF + o
  if 0x1100 ≤ o then s
  else if k = 0x18 then s.via (execQnctlWrite n (Word.of v))
  else if k = 0x1C then s.via (execQnsqTailWrite n (Word.of v))
  else if k = 0x20 then s.via (execQncqHeadWrite n (Word.of v))
  else if k < 0x14 then
    (match regAt a with
     | none => s
     | some (r, _) =>
       let runs := s.on (F.Q_CTL_EN n) || decide (s.get (F.Q_STAT_STATE n) = 2)
       let old := (s.word a).toNat
       let s1 := s.setWord a (Word.of (wordNew runs old v r.fields))
       if runs && r.fields.any (fieldRefused old v) then (s1.put (F.Q_STAT_CFG_REJ n) 1).lockReject bHOSTIF n o false else s1)
  else s.plainWord a v

/-- R60, R63: the cores write the status window and the STATE, ERR, SQ_HEAD and INFLIGHT fields of QnSTAT; a change of
STAT_BOOT raises vector 4. -/
def State.windowWord (s : State) (o v : Nat) : State :=
  let a := bHOSTIF + o
  if 0x1000 ≤ o ∧ o < 0x1100 ∧ o % 64 = 0x24 then
    s.setWord a (Word.of (Nat.land v 0xFFFDFCF7 + Nat.land (s.word a).toNat 0x20000))
  else if 0x2000 ≤ o ∧ o < 0x2018 then
    match regAt a with
    | none => s
    | some (r, _) =>
      let new := Word.of (wordNew false 0 v (r.fields.map (fun f => { f with acc := .rw })))
      let t := s.setWord a new
      if o = 0x2000 && decide (new ≠ s.word a) then t.msix 4 else t
  else s

/-- A word of HOSTIF. -/
def State.hostifWord (s : State) (r : Requester) (o v : Nat) : State :=
  match r with
  | .host => if 0x1000 ≤ o ∧ o < 0x2000 then s.doorbellWord o v else s
  | _ => s.windowWord o v

/-- R216, R217: a word of GPIO. -/
def State.gpioWord (s : State) (o v : Nat) : State :=
  if o = 0x70 ∨ o = 0x74 then s.via (execGpioSetWrite ((o - 0x70) / 4) (Word.of v))
  else if o = 0x78 ∨ o = 0x7C then s.via (execGpioClrWrite ((o - 0x78) / 4) (Word.of v))
  else if 0x100 ≤ o ∧ o < 0x200 then s.gpioCfgWrite ((o - 0x100) / 4) v
  else s.plainWord (bGPIO + o) v

/-- A word of EVREC: EVREC_WR_GO submits a record. -/
def State.evrecWord (s : State) (r : Requester) (o v : Nat) : State :=
  if o = 0x9C then s.via (execEvrecWrGo r (Word.of v)) else s.plainWord (bEVREC + o) v

/-- R24-R30: the aligned word at address `a` of the peripheral blocks, loop memory or the cam tables is written. -/
def State.regWord (s : State) (r : Requester) (a v : Nat) : State :=
  if a < 0x20130000 then
    let n := (a - 0x20000000) / 0x10000
    let o := a % 0x10000
    if n = 10 then
      (if o % 0x4000 < 0x60 then s.commonWord (bCAN (o / 0x4000)) (o % 0x4000) v else s.canWord (o / 0x4000) (o % 0x4000) v)
    else if o < 0x60 then s.commonWord (blkBase n) o v
    else if isStagedCopy a then
      (if stagedBad n (o - 0x800) v then s.reject (blkBase n) else s.stageWord (blkBase n) (stagedUnit n (o - 0x800)) a v)
    else if stagedBad n o v then s.reject (blkBase n)
    else
      match n with
      | 0 => s.sysWord o v
      | 1 => s.secWord r o v
      | 2 => s.irqWord o v
      | 3 => s.schedWord r o v
      | 4 => s.timeWord o v
      | 5 => s.adcRegWord o v
      | 6 => s.pwmWord o v
      | 7 => s.loopWord o v
      | 8 => s.motionWord o v
      | 9 => s.ringWord o v
      | 11 => s.ethWord o v
      | 12 => s.acqWord o v
      | 13 => s.stoWord o v
      | 14 => s.evrecWord r o v
      | 15 => s.opioWord o v
      | 16 => s.spliceWord o v
      | 17 => s.hostifWord r o v
      | _ => s.gpioWord o v
  else if a < 0x21200000 then s.loopMemWord a v
  else s.camWord a v

/-- R34: a row of registers, as first address with strides and counts, and an address. -/
def inRow (a base : Nat) (dims : List (Nat × Nat)) : Bool := decide (base ≤ a) && (dimIndex (a - base) dims).isSome

/-- R34, R99, R253: the _LO registers of the 64-bit values that are written as a pair. -/
def pairWrites : List (Nat × List (Nat × Nat)) :=
  [(0x20040120, []), (0x20040404, [(32, 32)]), (0x2008D030, [(64, 16)]), (0x200C080C, [(32, 4)]), (0x200C0064, []),
   (0x21000060, [(256, 512), (8, 3)]), (0x20090090, []), (0x20010084, [])]

/-- R34: the _LO registers of the 64-bit values that are only read as a pair. -/
def pairReads : List (Nat × List (Nat × Nat)) :=
  [(0x20112010, []), (0x20112018, []), (0x20040100, []), (0x20040904, [(16, 32)]), (0x200B0130, [(128, 2)]),
   (0x2005100C, [(256, 8)]), (0x20051018, [(256, 8)]), (0x21000098, [(256, 512)]), (0x20078018, [(64, 4)]),
   (0x20078020, [(64, 4)]), (0x20078030, [(64, 4)]), (0x20081048, [(256, 96), (8, 3)]), (0x2008D010, [(64, 16), (8, 4)]),
   (0x20090070, []), (0x20090098, []), (0x200900C8, []), (0x200C0080, [(8, 2)]), (0x200C0098, []),
   (0x200A1010, [(0x4000, 4), (96, 128)]), (0x20100210, []), (0x20020078, []), (0x200E0070, [])]

/-- The _LO register of a pair that is written as one. -/
def isPairWrite (a : Nat) : Bool := pairWrites.any (fun e => inRow a e.1 e.2)

/-- The _LO register of a 64-bit value. -/
def isPair (a : Nat) : Bool := isPairWrite a || pairReads.any (fun e => inRow a e.1 e.2)

/-- R34: the block whose holding registers an address uses; a region a block owns counts as the block's. -/
def pairBlock (a : Nat) : Nat := if a < 0x20130000 then (a - 0x20000000) / 0x10000 else if a < 0x21200000 then 7 else 8

/-- R27, R34: the base of the common registers that show PAIR_ORDER for an address. -/
def pairBase (a : Nat) : Nat :=
  if pairBlock a = 10 then bCAN ((a - 0x200A0000) / 0x4000) else blkBase (pairBlock a)

/-- The number of a requester among the holding registers of a block: cores 0-7, 8 the debug port, 9 the host. -/
def reqNo (r : Requester) : Nat :=
  match r with
  | .core c => c % 8
  | .debug => 8
  | .host => 9

/-- R34: the key of a holding register. -/
def pairKey (r : Requester) (a : Nat) : Nat := 16 * pairBlock a + reqNo r

/-- R34: the read holding register of a requester. -/
def State.setPairRd (s : State) (r : Requester) (a : Nat) (v : PairRead) : State :=
  { s with pairRd := tabSet {} s.pairRd (pairKey r a) v }

/-- R102: the write holding register of a requester. -/
def State.setPairWr (s : State) (r : Requester) (a : Nat) (v : PairWrite) : State :=
  { s with pairWr := tabSet {} s.pairWr (pairKey r a) v }

/-- R193, R253: the word at address `a` as it stands at this instant, for the registers that move without a command. -/
def State.liveWord (s : State) (a : Nat) : Word :=
  let o := a % 0x10000
  if 0x2008D000 ≤ a ∧ a < 0x2008D400 ∧ a % 64 = 0x0C then (s.encBusyNow ((a - 0x2008D000) / 64)).word a
  else if 0x20061000 ≤ a ∧ a < 0x20061C00 ∧ a % 64 = 0x08 then Word.of (s.genPos ((o - 0x1000) / 64))
  else if 0x20051000 ≤ a ∧ a < 0x20051800 ∧ a % 256 = 0x04 then (s.acqNow ((o - 0x1000) / 256)).word a
  else if a = 0x20100208 then s.refreshSeen.word a
  else if a = 0x200E0074 then Word.of (s.opMs * 2 ^ 16 + s.get F.EVREC_OPSEC_HI)
  else if 0x200C0800 ≤ a ∧ a < 0x200C0880 ∧ a % 32 = 0x14 then
    (s.put (F.ACQT_OUT ((o - 0x800) / 32)) (b2n (s.unitOut ((o - 0x800) / 32) s.now))).word a
  else s.word a

/-- R34, R102: the 64-bit value of the pair at _LO address `a`, and the state after its read: device time is taken as it is,
a queue's pair removes the head entry, a write-only pair and SEC from another domain read 0. -/
def State.pairValue (s : State) (r : Requester) (a : Nat) : Nat × State :=
  let w := (s.word a).toNat + 2 ^ 32 * (s.liveWord (a + 4)).toNat
  if a = 0x20040100 ∨ a = 0x20112018 then (s.now, s)
  else if inRow a 0x20040904 [(16, 32)] then
    let n := (a - 0x20040904) / 16
    match s.capFifo n with
    | [] => (0, s)
    | e :: t => (e.1, s.setCapFifo n t)
  else if inRow a 0x200B0130 [(128, 2)] then
    s.tsqPop ((a - 0x200B0130) / 128)
  else if a = 0x20040120 || inRow a 0x2008D030 [(64, 16)] || (a = 0x20010084 && s.domainOf r ≠ 0) then (0, s)
  else (w, s)

/-- R34: a read of a _LO register. -/
def State.pairLoRead (s : State) (r : Requester) (a : Nat) : State :=
  let v := s.pairValue r a
  { v.2 with answer := v.1 % 2 ^ 32 }.setPairRd r a { hi := Word.of (v.1 / 2 ^ 32), tag := a }

/-- R34, R102: a read of a _HI register. In the sequence _LO, _LO, _HI on a FIFO pair two rows of R102 meet: the flag is set where a handler
that read _LO of the same pair also read its _HI, and not where it did not: DEDUCED (log entry 136). -/
def State.pairHiRead (s : State) (r : Requester) (a : Nat) : State :=
  let p := tabGet {} s.pairRd (pairKey r a)
  let s1 := { s with answer := p.hi.toNat }.setPairRd r a { p with tag := 0 }
  if p.tag + 4 = a then s1 else s1.raise (pairBase a) 2

/-- R102: a write to a _LO register of a pair. -/
def State.pairLoWrite (s : State) (r : Requester) (a v : Nat) : State := s.setPairWr r a { lo := Word.of v, tag := a }

/-- R96, R253, R102: the 64-bit value of the pair at _LO address `a` takes effect. -/
def State.pairApply (s : State) (r : Requester) (a lo hi : Nat) : State :=
  if a = 0x20040120 then s.timeStepWrite (lo + 2 ^ 32 * hi)
  else if inRow a 0x2008D030 [(64, 16)] then
    let n := (a - 0x2008D030) / 64
    if s.on (F.ENC_EN n) then s.reject bMOTION else s.put64 (F.ENC_POS_LO n) (lo + 2 ^ 32 * hi)
  else (s.regWord r a lo).regWord r (a + 4) hi

/-- R102: a write to a _HI register of a pair. -/
def State.pairHiWrite (s : State) (r : Requester) (a v : Nat) : State :=
  let p := tabGet {} s.pairWr (pairKey r a)
  let s1 := (s.setPairWr r a { p with tag := 0 }).pairApply r (a - 4) p.lo.toNat v
  if p.tag + 4 = a then s1 else s1.raise (pairBase a) 2

/-- R24, R59: the regions that an access reaches: 0 none, 1 memory, 2 the MRAM window, 3 boot ROM, 4 registers and the
regions blocks own, 5 what the host alone reaches: the MSI-X table and pending bits behind its doorbell page and status window, and
the configuration space, which the model puts at 0x30000000 (DESIGN CHOICE, log entry 110). -/
def regionOf (r : Requester) (a : Nat) : Nat :=
  if r = .host then
    (if 0x20111000 ≤ a ∧ a < 0x20113000 then 4
     else if (0x20113000 ≤ a ∧ a < 0x20115000) ∨ (0x30000000 ≤ a ∧ a < 0x30001000) then 5 else 0)
  else if a < 0x40000 then 3
  else if 0x04000000 ≤ a ∧ a < 0x04020000 then (if r = .debug then 0 else 1)
  else if 0x04100000 ≤ a ∧ a < 0x04200000 then 1
  else if 0x08000000 ≤ a ∧ a < 0x08800000 then 1
  else if 0x10000000 ≤ a ∧ a < 0x10400000 then 2
  else if 0x20000000 ≤ a ∧ a < 0x20130000 then 4
  else if 0x21000000 ≤ a ∧ a < 0x21300000 then 4
  else if 0x400000000 ≤ a ∧ a < 0x400000000 + Config.dramMiB * 0x100000 then 1
  else 0

/-- R24, R465: the regions that an access reaches now: the debug port reaches nothing before a debug unlock, and never SEC. -/
def State.regionAt (s : State) (r : Requester) (a : Nat) : Nat :=
  if r = .debug && (decide (s.get F.SEC_BLK_STAT_DBG_LEVEL = 0) || (decide (0x20010000 ≤ a) && decide (a < 0x20020000))) then 0
  else regionOf r a

/-- R25: a core of a domain other than 0 uses the common window for another core's TCM. -/
def State.tcmBarred (s : State) (r : Requester) (a : Nat) : Bool :=
  match r with
  | .core c => decide (0x04100000 ≤ a) && decide (a < 0x04200000) && decide (s.domainOf r ≠ 0) &&
    decide ((a - 0x04100000) / 0x20000 ≠ c)
  | _ => false

/-- R24, R25: the access raises an access-fault exception in the core that issued it. -/
def State.accessFaults (s : State) (r : Requester) (a size : Nat) : Bool :=
  (match r with | .core _ => true | _ => false) &&
  (s.regionAt r a = 0 || s.regionAt r (a + (size - 1)) = 0 || s.tcmBarred r a)

/-- R25: the address at which memory is kept: a core's own TCM is the one of the common window. -/
def memAddr (r : Requester) (a : Nat) : Nat :=
  match r with
  | .core c => if 0x04000000 ≤ a ∧ a < 0x04020000 then a + 0x100000 + 0x20000 * c else a
  | _ => a

/-- R498: the record store, the lifetime copies and the clear history. -/
def mramKept (a : Nat) : Bool := decide (a < 0x10200800) || (decide (0x10201000 ≤ a) && decide (a < 0x10203000))

/-- R57, R58: the host writes configuration word `o`: D3hot and a function level reset lose the host. -/
def State.pciWrite (s : State) (o v : Nat) : State :=
  let s1 := s.pciSet o v
  if o = 0x78 && bitOf v 15 then s1.functionReset else if o = 0x44 && bits v 1 0 = 3 then s1.hostLost else s1

/-- R57, R59: the host writes a word that it alone reaches; the pending bits are read-only. -/
def State.hostOwnWrite (s : State) (a v : Nat) : State :=
  if 0x30000000 ≤ a then s.pciWrite (a - 0x30000000) v
  else if a < 0x20113400 then s.msixWrite ((a - 0x20113000) / 4) v
  else s

/-- R57, R59: the word that the host alone reaches at address `a`. -/
def State.hostOwnRead (s : State) (a : Nat) : Nat :=
  if 0x30000000 ≤ a then s.pciRead (a - 0x30000000)
  else if a < 0x20113400 then s.msixWord ((a - 0x20113000) / 4)
  else if a = 0x20114000 then s.host.msixPend % 2 ^ 32
  else if a = 0x20114004 then s.host.msixPend / 2 ^ 32
  else 0

/-- R9-R11, R24-R28: a write of `size` bytes at address `a` that faults nowhere. -/
def State.busWrite (s : State) (r : Requester) (a size v : Nat) : State :=
  match s.regionAt r a with
  | 1 => if size = 1 ∨ size = 2 ∨ size = 4 then s.putBytes (memAddr r a) ((List.range size).map (fun i => v / 256 ^ i % 256)) else s
  | 2 => if mramKept a then s.reject bEVREC else s
  | 4 =>
    if size ≠ 4 ∨ a % 4 ≠ 0 then s
    else if isPairWrite a then s.pairLoWrite r a v
    else if isPairWrite (a - 4) then s.pairHiWrite r a v
    else s.regWord r a v
  | 5 => if size ≠ 4 ∨ a % 4 ≠ 0 then s else s.hostOwnWrite a v
  | _ => s

/-- R24, R28: a write to a register, or to a memory. -/
def execRegisterWrite (r : Requester) (addr size : Nat) (v : Word) (s : State) : Out :=
  if s.accessFaults r addr size then .fault (.accessFault addr) else .next (s.busWrite r addr size v.toNat)

/-- R11: a word as a read shows it: write-only fields read 0. -/
def wordVisible (w : Nat) (fs : List RegField) : Nat := fs.foldl (fun (x : Nat) f => if f.acc = .wo then setBits x f.hi f.lo 0 else x) w

/-- R24, R30, R466: the register word at address `a` as requester `r` reads it; a staged copy where one stands. -/
def State.regRead (s : State) (r : Requester) (a : Nat) : Nat :=
  if 0x20010080 ≤ a && decide (a < 0x20020000) && decide (s.domainOf r ≠ 0) then 0
  else if 0x20030000 ≤ a && decide (a < 0x20040000) && schedBarred r (a - 0x20030000) then 0
  else
    match regAt a with
    | some (row, _) => wordVisible (s.liveWord a).toNat row.fields
    | none => (s.word a).toNat

/-- R130, R319, R327, R471: the reads of registers that do more than answer their word. -/
def State.readEffect (s : State) (r : Requester) (a : Nat) : Option State :=
  let o := a % 0x10000
  if 0x20051000 ≤ a && decide (a < 0x20051800) && o % 256 = 8 then some (s.via (execAdcFifoRead ((o - 0x1000) / 256)))
  else if 0x20020200 ≤ a && decide (a < 0x20020280) && o % 16 = 4 then some (s.via (execIrqClaim ((o - 0x200) / 16)))
  else if 0x20030200 ≤ a && decide (a < 0x20030300) && r = .core ((o - 0x200) / 32) then
    (if o % 32 = 0x14 then some (s.via (execSchedDispRead ((o - 0x200) / 32))) else none)
  else if 0x20030400 ≤ a && decide (a < 0x20030420) && r = .core ((o - 0x400) / 4) then some (s.via (execSchedPfRead ((o - 0x400) / 4)))
  else none

/-- R9, R24: a read of `size` bytes at address `a` that is no half of a pair. A register read in bytes or half-words answers 0, and
nothing is there where the requester reaches nothing. -/
def State.busRead (s : State) (r : Requester) (a size : Nat) : State :=
  match s.regionAt r a with
  | 0 => { s with answer := 0 }
  | 4 =>
    if size ≠ 4 ∨ a % 4 ≠ 0 then { s with answer := 0 }
    else
      match s.readEffect r a with
      | some t => t
      | none => { s with answer := s.regRead r a }
  | 5 => { s with answer := if size ≠ 4 ∨ a % 4 ≠ 0 then 0 else s.hostOwnRead a }
  | _ => { s with answer := leNat (s.takeBytes (memAddr r a) size) }

/-- R34: a read of a _LO register; a word that is no such register is only read. -/
def execPairLoRead (r : Requester) (addr size : Nat) (s : State) : Out :=
  if s.accessFaults r addr size then .fault (.accessFault addr)
  else .next (if s.regionAt r addr = 4 && size = 4 && isPair addr then s.pairLoRead r addr else s.busRead r addr size)

/-- R34, R102: a read of a _HI register; a word that is no such register is only read. -/
def execPairHiRead (r : Requester) (addr size : Nat) (s : State) : Out :=
  if s.accessFaults r addr size then .fault (.accessFault addr)
  else .next (if s.regionAt r addr = 4 && size = 4 && isPair (addr - 4) then s.pairHiRead r addr else s.busRead r addr size)

/-- R102: a write to a _LO register; a word that is no such register is written as any other. -/
def execPairLoWrite (r : Requester) (addr : Nat) (v : Word) (s : State) : Out :=
  if s.accessFaults r addr 4 then .fault (.accessFault addr) else .next (s.busWrite r addr 4 v.toNat)

/-- R102: a write to a _HI register; a word that is no such register is written as any other. -/
def execPairHiWrite (r : Requester) (addr : Nat) (v : Word) (s : State) : Out :=
  if s.accessFaults r addr 4 then .fault (.accessFault addr) else .next (s.busWrite r addr 4 v.toNat)

end Sys2Proof.Machine
end

