-- ==== Sys2Proof/Machine/Mirror.lean ====
section
/-! DEFINITION. The receiving side of the mirror stream (17_lashing_and_splice R430, R431), and the start of a ring cycle,
at which mirrored commands take effect (R431). -/

namespace Sys2Proof.Machine

/-- R430: the meaning of a mirrored packet of the SYS, LOOP and AXIS groups. -/
def mirLow (p : Pkt) (s : State) : Out :=
  match p.opcode with
  | 0x0102 => execSysReset p s
  | 0x0103 => execSysArm p s
  | 0x0105 => execSysPowerState p s
  | 0x0106 => execSysWakeConfig p s
  | 0x0107 => execSysRemotePermit p s
  | 0x010B => execTimeConfig p s
  | 0x0201 => execLoopConfig p s
  | 0x0202 => execLoopOpen p s
  | 0x0203 => execLoopClose p s
  | 0x0204 => execLoopCoefWrite p s
  | 0x0205 => execLoopSetpoint p s
  | 0x0206 => execLoopManual p s
  | 0x0208 => execLoopObserver p s
  | 0x0209 => execLoopSafe p s
  | 0x020A => execLoopSupervise p s
  | 0x020B => execLoopStep p s
  | 0x020C => execLoopSweep p s
  | 0x020D => execLoopRelease p s
  | 0x020E => execLoopStickyClear p s
  | 0x0301 => execAxisConfig p s
  | 0x0302 => execAxisMove p s
  | 0x0303 => execAxisStop p s
  | 0x0304 => execAxisEnable p s
  | 0x0305 => execAxisGear p s
  | 0x0306 => execAxisCam p s
  | 0x0307 => execCamTableWrite p s
  | 0x0308 => execAxisPhaseTrim p s
  | 0x030A => execAxisStepTable p s
  | _ => .next (s.done p stBAD_OPCODE)

/-- R430: the meaning of a mirrored packet of the RECIPE, PROG, ACQ, RING and SEC groups. -/
def mirMid (p : Pkt) (s : State) : Out :=
  match p.opcode with
  | 0x0401 => execRecipeLoad p s
  | 0x0402 => execRecipeStart p s
  | 0x0403 => execRecipePause p s
  | 0x0404 => execRecipeResume p s
  | 0x0405 => execRecipeAbort p s
  | 0x0407 => execRecipeDelete p s
  | 0x0501 => execProgLoad p s
  | 0x0502 => execProgRun p s
  | 0x0503 => execProgForce p s
  | 0x0504 => execProgRelease p s
  | 0x0505 => execProgChange p s
  | 0x0507 => execProgWriteVar p s
  | 0x0509 => execProgReArm p s
  | 0x0601 => execAcqChannel p s
  | 0x0602 => execAcqTrigger p s
  | 0x0603 => execAcqArm p s
  | 0x0604 => execAcqStop p s
  | 0x0605 => execAcqStream p s
  | 0x0701 => execRingScheduleLoad p s
  | 0x0702 => execRingStart p s
  | 0x0703 => execRingStop p s
  | 0x0707 => execRingMasterRank p s
  | 0x0803 => execSecImageWrite p s
  | 0x0804 => execSecKeyRevoke p s
  | 0x0807 => execSecRollback p s
  | _ => .next (s.done p stBAD_OPCODE)

/-- R430: the meaning of a mirrored packet of the REC, I/O, CAN and operator groups. -/
def mirHigh (p : Pkt) (s : State) : Out :=
  match p.opcode with
  | 0x0902 => execRecClear p s
  | 0x0905 => execRecWrite p s
  | 0x0B01 => execAdcConfig p s
  | 0x0B02 => execAdcCalibrate p s
  | 0x0B03 => execAdcSequence p s
  | 0x0B05 => execPwmConfig p s
  | 0x0B06 => execPwmDuty p s
  | 0x0B07 => execPwmTripClear p s
  | 0x0B08 => execPwmEnable p s
  | 0x0B09 => execGpioConfig p s
  | 0x0B0A => execGpioWrite p s
  | 0x0B0C => execEncConfig p s
  | 0x0C01 => execCanConfig p s
  | 0x0C02 => execCanObject p s
  | 0x0C03 => execCanTransmit p s
  | 0x0D01 => execTouchConfig p s
  | 0x0D03 => execHotplugConfig p s
  | 0x0D05 => execHotplugPower p s
  | _ => .next (s.done p stBAD_OPCODE)

/-- R430: the meaning of a packet of the mirror stream, by its opcode. -/
def execMirrored (p : Pkt) (s : State) : Out :=
  if p.opcode < 0x400 then mirLow p s else if p.opcode < 0x900 then mirMid p s else mirHigh p s

/-- R430, R432: a recipe action: its effect, but where a later move of the same boundary replaces it (`lost`, R359); on the device that follows,
the recipe's position and clocks advance with it. -/
def State.mirAction (s : State) (p : Pkt) (lost : Bool) : State :=
  let n := p.w 0 % 64
  let s1 := if lost then s else s.stepEffect (fun k => p.w (6 + k))
  if s.standby then
    s1.setRcp n { s1.rcp n with st := rcRUNNING, step := p.w 1, applied := true, sync := p.w 2 + 2 ^ 32 * p.w 3,
                                tau := sgn 64 (p.w 4 + 2 ^ 32 * p.w 5),
                                wait := if bits (p.w 6) 31 28 = 5 then some s1.now else none }
  else s1

/-- R431: a command of the mirror stream takes effect: what it leaves to a next sample or boundary has its application cycle `c`, which starts
at device time `at'`. -/
def State.mirApply (s : State) (c at' : Nat) (p : Pkt) (lost : Bool) : State :=
  let t := s.lashI (fun v => { v with appCyc := some (c, at') })
  (if p.opcode = 0 then t.mirAction p lost else t.via (execMirrored p)).lashI (fun v => { v with appCyc := none })

/-- R359: mirrored recipe action `q` moves the axis that action `p` of another recipe moves. -/
def moveOver (p q : Pkt) : Bool :=
  let move (r : Pkt) : Bool := r.opcode = 0 && bits (r.w 6) 31 28 = 2
  move p && move q && decide (p.w 0 ≠ q.w 0) && bits (p.w 7) 6 0 = bits (q.w 7) 6 0

/-- R431, R359: the commands of the mirror stream whose application cycle has come take effect, in their order. -/
def State.mirAll (at' : Nat) : List (Nat × Pkt) → State → State
  | [], s => s
  | e :: r, s => State.mirAll at' r (s.mirApply e.1 at' e.2 (r.any (fun x => decide (x.1 = e.1) && moveOver e.2 x.2)))

/-- R440: while a device is brought up, a command waits until the image is loaded and, if it names a unit, until that unit is seeded. -/
def State.mirWaits (s : State) (p : Pkt) : Bool :=
  s.lashSt = lsSYNCING && (!s.lash.loaded || (match p.unit with | some u => !s.lash.seeded.contains u | none => false))

/-- R431: at cycle `k` the mirrored commands whose application cycle has come, and that need not wait, take effect. -/
def State.mirRun (s : State) (k : Nat) : State :=
  let go (e : Nat × Pkt) : Bool := cycleDue k e.1 && !s.mirWaits e.2
  let s1 := s.lashI (fun v => { v with cmds := v.cmds.filter (fun e => !go e) })
  (State.mirAll (s.get64 F.RING_CYC_START_LO) (s.lash.cmds.filter go) s1).setQ 5 {}

/-- R259, R435, R431: a ring cycle starts at this node: its digest is taken, mirrored commands take effect, and the cycle
drives what follows it. -/
def execRingCycleStart (s : State) : Out := s.awake (
  .next (if !s.ringRuns then s
    else
      let t := s.ringOpen
      if !t.ringRuns then t
      else
        let k := t.get F.RING_CYCLE_NUM
        ((((t.mirRun k).cycleDrive k).takeDigest k t.slotRecs).bringUp k)))

/-- R431: the status with which this device's checks end for packet `p`: DONE where they refuse nothing. -/
def State.mirStatus (s : State) (p : Pkt) : Nat :=
  match ((s.setQ 5 {}).via (execMirrored p)).q 5 |>.held with
  | [] => stDONE
  | r :: _ => if r.status < 0x100 then stDONE else r.status

/-- R394, R431: the checks of these commands rest on state that each device has of its own: a STANDBY's controllers are in LISTEN and send
nothing (log entry 155). -/
def ownState (opcode : Nat) : Bool := opcode = opCanConfig || opcode = opCanObject || opcode = opCanTransmit

/-- R431: a mirrored command with application cycle `c` and the ACTIVE's status is checked, its status goes back, and it
is held. -/
def State.mirTake (s : State) (c : Nat) (p : Pkt) (status : Nat) : State :=
  let q : Pkt := { p with queue := 5, mir := true, noReply := false, signed := false, fence := false }
  let st := if status < 0x100 then stDONE else status
  let own := if p.opcode = 0 || ownState p.opcode || s.mirWaits q then st else s.mirStatus q
  if cycleDue (s.get F.RING_CYCLE_NUM) c then s.lashLost 15
  else if own ≠ st then s.lashLost 12
  else (s.mirrorSend 0x10 (cmdWords c p own)).lashI (fun v => { v with cmds := v.cmds ++ [(c, q)] })

/-- R431: an M_CMD frame arrives. -/
def execMCmdRx (f : SplFrame) (c : Nat) (p : Pkt) (status : Nat) (s : State) : Out := s.awake (
  .next (s.mirRx f 0x10 (cmdWords c p status) (fun t => t.mirTake c p status)))

/-- R252, R430: encoder `n` takes the count and the error bit that the ACTIVE has; R251: in SSI mode a good transfer releases slots. -/
def State.mirEncIn (s : State) (n : Nat) (pos : Int) (err : Bool) : State :=
  let s1 := ((s.puti64 (F.ENC_POS_LO n) pos).put (F.ENC_ERR n) (b2n err)).line (152 + n) err
  if s.get (F.ENC_MODE n) = mdSSI && (s.on (F.ENC_ERR n) == err) then s1.encRelease n else s1

/-- R430: what a mirrored input does: it stands for the device's own. -/
def State.mirItem (s : State) (x : MirItem) : State :=
  match x with
  | .adc c k w ts => s.adcDeliver (c % 8) (k % 16) w.toNat ts
  | .enc n pos err => s.mirEncIn (n % 16) pos err
  | .cap n rising ts => s.capEdge (n % 32) rising ts
  | .gpio n level => s.gpioIn (n % 64) level
  | .can c f => s.canReceive (c % 4) f
  | .tick mask => s.tickGroups mask
  | .trip g sto => (s.usedSlots.filter (fun n => s.slotGen n = some g)).foldl (fun (t : State) n => t.slotTrip n sto) s
  | .sto k safe => s.lashI (fun v => { v with sto := if k < 12 then putBit v.sto k safe else v.sto })
  | .img i v => s.setImg (i % 262144) v.toNat

/-- R431: a mirrored input acts with its input cycle `c`. -/
def State.mirIn (s : State) (c : Nat) (x : MirItem) : State :=
  ((s.lashI (fun v => { v with inCyc := some c })).mirItem x).lashI (fun v => { v with inCyc := none })

/-- R431: the cycle of the newest digest has passed input cycle `c`: its application point is over. -/
def State.inputLate (s : State) (c : Nat) : Bool :=
  match s.lash.digs with
  | [] => false
  | d :: _ => cycleDue d.k (c + 1)

/-- R430, R431: a mirrored input arrives; R440: until the image of static state is loaded it is held. -/
def State.mirInputRx (s : State) (c : Nat) (x : MirItem) : State :=
  if s.lashSt = lsSYNCING && !s.lash.loaded then s.lashI (fun v => { v with inputs := v.inputs ++ [(c, x)] })
  else if s.inputLate c then s.lashLost 15
  else s.mirIn c x

/-- R430, R431: an M_INPUT frame arrives with its input cycle. -/
def execMInputRx (f : SplFrame) (c : Nat) (item : MirItem) (s : State) : Out := s.awake (
  .next (s.mirRx f 0x11 (c :: itemWords item) (fun t => t.mirInputRx c item)))

/-- R440 phase 2: a part of the image of static state arrives; the last one loads it, the inputs held follow, and the ACTIVE is told. -/
def State.snapRx (s : State) (part : SnapPart) (last : Bool) : State :=
  let ps := s.lash.snap ++ [part]
  if s.lashSt ≠ lsSYNCING then s
  else if !last then s.lashI (fun v => { v with snap := ps })
  else
    let s1 := (s.loadSnap ps).lashI (fun v => { v with inputs := [] })
    let s2 := s.lash.inputs.foldl (fun (t : State) e => t.mirIn e.1 e.2) s1
    s2.controlSend s2.ownControl

/-- R440: a SNAP frame arrives. -/
def execSnapRx (f : SplFrame) (part : SnapPart) (last : Bool) (s : State) : Out := s.awake (
  .next (s.mirRx f 0x14 (snapWords part last) (fun t => t.snapRx part last)))

/-- R440 phase 3: a seed arrives; the commands held for its unit that are due take effect. -/
def State.seedRx (s : State) (x : Seed) : State :=
  if s.lashSt = lsSYNCING && s.lash.loaded && s.seedOk x then (s.seedUnit x).mirRun (s.get F.RING_CYCLE_NUM) else s

/-- R440: a SEED frame arrives. -/
def execSeedRx (f : SplFrame) (seed : Seed) (s : State) : Out := s.awake (
  .next (s.mirRx f 0x15 (seedWords seed) (fun t => t.seedRx seed)))

end Sys2Proof.Machine
end

