-- ==== Sys2Proof/Machine/Dispatch.lean ====
section
/-! DEFINITION. The meaning of every command, one arm per constructor of Instr. -/

namespace Sys2Proof.Machine

def exec (i : Instr) (s : State) : Host.Outcome State Fault Refusal :=
  match i with
  | .porAssert lowNs => Sys2Proof.Machine.execPorAssert lowNs s
  | .sysResetnAssert lowNs => Sys2Proof.Machine.execSysResetnAssert lowNs s
  | .supplyUnderVoltage => Sys2Proof.Machine.execSupplyUnderVoltage s
  | .debugResetRequest => Sys2Proof.Machine.execDebugResetRequest s
  | .resetRelease bootIf pcieRefsel => Sys2Proof.Machine.execResetRelease bootIf pcieRefsel s
  | .xtalOk => Sys2Proof.Machine.execXtalOk s
  | .pllLock => Sys2Proof.Machine.execPllLock s
  | .serdesPllLock pll => Sys2Proof.Machine.execSerdesPllLock pll s
  | .serdesPllUnlock pll => Sys2Proof.Machine.execSerdesPllUnlock pll s
  | .crystalLoss => Sys2Proof.Machine.execCrystalLoss s
  | .pllLossOfLock => Sys2Proof.Machine.execPllLossOfLock s
  | .pllLossReset => Sys2Proof.Machine.execPllLossReset s
  | .crossMonitorWindow count => Sys2Proof.Machine.execCrossMonitorWindow count s
  | .bootChainDone r => Sys2Proof.Machine.execBootChainDone r s
  | .dramTrainDone ok => Sys2Proof.Machine.execDramTrainDone ok s
  | .fwInitDone => Sys2Proof.Machine.execFwInitDone s
  | .ringJoinTimeout => Sys2Proof.Machine.execRingJoinTimeout s
  | .sysWdogKickWrite v => Sys2Proof.Machine.execSysWdogKickWrite v s
  | .sysWdogCtrlWrite v => Sys2Proof.Machine.execSysWdogCtrlWrite v s
  | .wdogWarn => Sys2Proof.Machine.execWdogWarn s
  | .wdogTimeout => Sys2Proof.Machine.execWdogTimeout s
  | .sysSwrstWrite v => Sys2Proof.Machine.execSysSwrstWrite v s
  | .sysArmWrite v => Sys2Proof.Machine.execSysArmWrite v s
  | .registerWrite r addr size v => Sys2Proof.Machine.execRegisterWrite r addr size v s
  | .blkCommitWrite base v => Sys2Proof.Machine.execBlkCommitWrite base v s
  | .commitAbandon base => Sys2Proof.Machine.execCommitAbandon base s
  | .pairLoRead r addr size => Sys2Proof.Machine.execPairLoRead r addr size s
  | .pairHiRead r addr size => Sys2Proof.Machine.execPairHiRead r addr size s
  | .pairLoWrite r addr v => Sys2Proof.Machine.execPairLoWrite r addr v s
  | .pairHiWrite r addr v => Sys2Proof.Machine.execPairHiWrite r addr v s
  | .qnsqTailWrite n v => Sys2Proof.Machine.execQnsqTailWrite n v s
  | .qncqHeadWrite n v => Sys2Proof.Machine.execQncqHeadWrite n v s
  | .qnctlWrite n v => Sys2Proof.Machine.execQnctlWrite n v s
  | .packetFetch n mem dmaError => Sys2Proof.Machine.execPacketFetch n mem dmaError s
  | .signatureVerifyDone => Sys2Proof.Machine.execSignatureVerifyDone s
  | .replyPost n dmaError => Sys2Proof.Machine.execReplyPost n dmaError s
  | .queueCoalTimeout n => Sys2Proof.Machine.execQueueCoalTimeout n s
  | .pcieLinkDown => Sys2Proof.Machine.execPcieLinkDown s
  | .functionLevelReset => Sys2Proof.Machine.execFunctionLevelReset s
  | .d3hotEntry => Sys2Proof.Machine.execD3hotEntry s
  | .statHeartbeat => Sys2Proof.Machine.execStatHeartbeat s
  | .sysNop p => Sys2Proof.Machine.execSysNop p s
  | .sysInfo p => Sys2Proof.Machine.execSysInfo p s
  | .sysReset p => Sys2Proof.Machine.execSysReset p s
  | .sysResetTakesEffect => Sys2Proof.Machine.execSysResetTakesEffect s
  | .sysArm p => Sys2Proof.Machine.execSysArm p s
  | .sysBootStatus p => Sys2Proof.Machine.execSysBootStatus p s
  | .sysPowerState p => Sys2Proof.Machine.execSysPowerState p s
  | .sysWakeConfig p => Sys2Proof.Machine.execSysWakeConfig p s
  | .sysRemotePermit p => Sys2Proof.Machine.execSysRemotePermit p s
  | .sysHealth p h => Sys2Proof.Machine.execSysHealth p h s
  | .sluiceStatus p => Sys2Proof.Machine.execSluiceStatus p s
  | .sluiceRequest p => Sys2Proof.Machine.execSluiceRequest p s
  | .timeConfig p => Sys2Proof.Machine.execTimeConfig p s
  | .timeRead p ports => Sys2Proof.Machine.execTimeRead p ports s
  | .timeSrcWrite v => Sys2Proof.Machine.execTimeSrcWrite v s
  | .ptpOffsetWrite v => Sys2Proof.Machine.execPtpOffsetWrite v s
  | .timeSourceLost src => Sys2Proof.Machine.execTimeSourceLost src s
  | .holdLimitExpiry => Sys2Proof.Machine.execHoldLimitExpiry s
  | .cmpFire n => Sys2Proof.Machine.execCmpFire n s
  | .cmpnCtrlWrite n v => Sys2Proof.Machine.execCmpnCtrlWrite n v s
  | .capEdge n rising samples => Sys2Proof.Machine.execCapEdge n rising samples s
  | .ethFrameSent port ok stamp => Sys2Proof.Machine.execEthFrameSent port ok stamp s
  | .ethFrameRx port len data bad stamp => Sys2Proof.Machine.execEthFrameRx port len data bad stamp s
  | .ethMdioGo port v => Sys2Proof.Machine.execEthMdioGo port v s
  | .ethMdioDone port data => Sys2Proof.Machine.execEthMdioDone port data s
  | .adcSwtrigWrite v => Sys2Proof.Machine.execAdcSwtrigWrite v s
  | .adcResult c raw => Sys2Proof.Machine.execAdcResult c raw s
  | .adcFifoRead c => Sys2Proof.Machine.execAdcFifoRead c s
  | .adcRefWrite v => Sys2Proof.Machine.execAdcRefWrite v s
  | .refSettled => Sys2Proof.Machine.execRefSettled s
  | .adcArmWrite c v => Sys2Proof.Machine.execAdcArmWrite c v s
  | .calGo c => Sys2Proof.Machine.execCalGo c s
  | .adcCalDone c factors => Sys2Proof.Machine.execAdcCalDone c factors s
  | .avddLow => Sys2Proof.Machine.execAvddLow s
  | .avddReturn => Sys2Proof.Machine.execAvddReturn s
  | .adcConfig p => Sys2Proof.Machine.execAdcConfig p s
  | .adcCalibrate p => Sys2Proof.Machine.execAdcCalibrate p s
  | .adcSequence p => Sys2Proof.Machine.execAdcSequence p s
  | .adcRead p => Sys2Proof.Machine.execAdcRead p s
  | .slotSample n late => Sys2Proof.Machine.execSlotSample n late s
  | .fbTmoExpiry n => Sys2Proof.Machine.execFbTmoExpiry n s
  | .slotRequestTimeout n k => Sys2Proof.Machine.execSlotRequestTimeout n k s
  | .snapshotTick => Sys2Proof.Machine.execSnapshotTick s
  | .slotReqOpen n => Sys2Proof.Machine.execSlotReqOpen n s
  | .slotReqClose n => Sys2Proof.Machine.execSlotReqClose n s
  | .slotReqObserver n => Sys2Proof.Machine.execSlotReqObserver n s
  | .slotReqSafe n => Sys2Proof.Machine.execSlotReqSafe n s
  | .slotReqRelease n => Sys2Proof.Machine.execSlotReqRelease n s
  | .injGo k => Sys2Proof.Machine.execInjGo k s
  | .loopConfig p => Sys2Proof.Machine.execLoopConfig p s
  | .loopOpen p => Sys2Proof.Machine.execLoopOpen p s
  | .loopClose p => Sys2Proof.Machine.execLoopClose p s
  | .loopCoefWrite p => Sys2Proof.Machine.execLoopCoefWrite p s
  | .loopSetpoint p => Sys2Proof.Machine.execLoopSetpoint p s
  | .loopManual p => Sys2Proof.Machine.execLoopManual p s
  | .loopRead p => Sys2Proof.Machine.execLoopRead p s
  | .loopObserver p => Sys2Proof.Machine.execLoopObserver p s
  | .loopSafe p => Sys2Proof.Machine.execLoopSafe p s
  | .loopSupervise p => Sys2Proof.Machine.execLoopSupervise p s
  | .loopStep p => Sys2Proof.Machine.execLoopStep p s
  | .loopSweep p => Sys2Proof.Machine.execLoopSweep p s
  | .loopRelease p => Sys2Proof.Machine.execLoopRelease p s
  | .loopStickyClear p => Sys2Proof.Machine.execLoopStickyClear p s
  | .pwmBoundary g => Sys2Proof.Machine.execPwmBoundary g s
  | .pwmSamplePoint g => Sys2Proof.Machine.execPwmSamplePoint g s
  | .pwmEnWrite g b => Sys2Proof.Machine.execPwmEnWrite g b s
  | .pwmStartWrite k v => Sys2Proof.Machine.execPwmStartWrite k v s
  | .loadnow g => Sys2Proof.Machine.execLoadnow g s
  | .tripClr g => Sys2Proof.Machine.execTripClr g s
  | .tripPinAssert k samples => Sys2Proof.Machine.execTripPinAssert k samples s
  | .tripPinDeassert k samples => Sys2Proof.Machine.execTripPinDeassert k samples s
  | .coreDebugHalt c => Sys2Proof.Machine.execCoreDebugHalt c s
  | .coreDebugResume c => Sys2Proof.Machine.execCoreDebugResume c s
  | .pwmConfig p => Sys2Proof.Machine.execPwmConfig p s
  | .pwmDuty p => Sys2Proof.Machine.execPwmDuty p s
  | .pwmTripClear p => Sys2Proof.Machine.execPwmTripClear p s
  | .pwmEnable p => Sys2Proof.Machine.execPwmEnable p s
  | .gpioSetWrite k v => Sys2Proof.Machine.execGpioSetWrite k v s
  | .gpioClrWrite k v => Sys2Proof.Machine.execGpioClrWrite k v s
  | .gpioInputChange n level samples => Sys2Proof.Machine.execGpioInputChange n level samples s
  | .outMismatch n => Sys2Proof.Machine.execOutMismatch n s
  | .gpioConfig p => Sys2Proof.Machine.execGpioConfig p s
  | .gpioWrite p => Sys2Proof.Machine.execGpioWrite p s
  | .gpioRead p => Sys2Proof.Machine.execGpioRead p s
  | .servoBoundary k => Sys2Proof.Machine.execServoBoundary k s
  | .axisReqPush n => Sys2Proof.Machine.execAxisReqPush n s
  | .axisReqStop n => Sys2Proof.Machine.execAxisReqStop n s
  | .axisReqQuickStop n => Sys2Proof.Machine.execAxisReqQuickStop n s
  | .axisReqEnable n => Sys2Proof.Machine.execAxisReqEnable n s
  | .axisReqDisable n => Sys2Proof.Machine.execAxisReqDisable n s
  | .axisReqGear n => Sys2Proof.Machine.execAxisReqGear n s
  | .axisReqCam n => Sys2Proof.Machine.execAxisReqCam n s
  | .axisReqTrim n => Sys2Proof.Machine.execAxisReqTrim n s
  | .axisConfig p => Sys2Proof.Machine.execAxisConfig p s
  | .axisMove p => Sys2Proof.Machine.execAxisMove p s
  | .axisStop p => Sys2Proof.Machine.execAxisStop p s
  | .axisEnable p => Sys2Proof.Machine.execAxisEnable p s
  | .axisGear p => Sys2Proof.Machine.execAxisGear p s
  | .axisCam p => Sys2Proof.Machine.execAxisCam p s
  | .camTableWrite p => Sys2Proof.Machine.execCamTableWrite p s
  | .axisPhaseTrim p => Sys2Proof.Machine.execAxisPhaseTrim p s
  | .axisRead p => Sys2Proof.Machine.execAxisRead p s
  | .axisStepTable p => Sys2Proof.Machine.execAxisStepTable p s
  | .encEdge n a b samples => Sys2Proof.Machine.execEncEdge n a b samples s
  | .encIndex n level samples => Sys2Proof.Machine.execEncIndex n level samples s
  | .ssiTransferDone n raw lineLow => Sys2Proof.Machine.execSsiTransferDone n raw lineLow s
  | .encErrClr n => Sys2Proof.Machine.execEncErrClr n s
  | .encErrHoldExpiry n => Sys2Proof.Machine.execEncErrHoldExpiry n s
  | .encConfig p => Sys2Proof.Machine.execEncConfig p s
  | .encRead p => Sys2Proof.Machine.execEncRead p s
  | .ringCycleStart => Sys2Proof.Machine.execRingCycleStart s
  | .segmentLatch => Sys2Proof.Machine.execSegmentLatch s
  | .referenceFrameTx => Sys2Proof.Machine.execReferenceFrameTx s
  | .bightFrameTx => Sys2Proof.Machine.execBightFrameTx s
  | .referenceFrameRx port ws stamp => Sys2Proof.Machine.execReferenceFrameRx port ws stamp s
  | .segmentRx port seg id len ws => Sys2Proof.Machine.execSegmentRx port seg id len ws s
  | .extractionEnd => Sys2Proof.Machine.execExtractionEnd s
  | .frameForward port len ws t0 => Sys2Proof.Machine.execFrameForward port len ws t0 s
  | .messageFrameTx slot => Sys2Proof.Machine.execMessageFrameTx slot s
  | .messageFrameRx port len ws stamp => Sys2Proof.Machine.execMessageFrameRx port len ws stamp s
  | .ringRunWrite v => Sys2Proof.Machine.execRingRunWrite v s
  | .claimFrameRx port ws => Sys2Proof.Machine.execClaimFrameRx port ws s
  | .claimTimeout => Sys2Proof.Machine.execClaimTimeout s
  | .refLossTimeout => Sys2Proof.Machine.execRefLossTimeout s
  | .masterTakeover => Sys2Proof.Machine.execMasterTakeover s
  | .ringLinkDown port => Sys2Proof.Machine.execRingLinkDown port s
  | .ringLinkUp port h1 => Sys2Proof.Machine.execRingLinkUp port h1 s
  | .turnBackStop port => Sys2Proof.Machine.execTurnBackStop port s
  | .nodeAbsent n => Sys2Proof.Machine.execNodeAbsent n s
  | .ringScheduleLoad p => Sys2Proof.Machine.execRingScheduleLoad p s
  | .ringStart p => Sys2Proof.Machine.execRingStart p s
  | .ringStop p => Sys2Proof.Machine.execRingStop p s
  | .ringStatus p => Sys2Proof.Machine.execRingStatus p s
  | .ringCounters p => Sys2Proof.Machine.execRingCounters p s
  | .ringStation p => Sys2Proof.Machine.execRingStation p s
  | .ringMasterRank p => Sys2Proof.Machine.execRingMasterRank p s
  | .create c arg0 => Sys2Proof.Machine.execCreate c arg0 s
  | .signal c arg0 arg1 => Sys2Proof.Machine.execSignal c arg0 arg1 s
  | .wait c arg0 arg1 nowait forever => Sys2Proof.Machine.execWait c arg0 arg1 nowait forever s
  | .yield c => Sys2Proof.Machine.execYield c s
  | .sleep c arg1 forever => Sys2Proof.Machine.execSleep c arg1 forever s
  | .exit c => Sys2Proof.Machine.execExit c s
  | .schedDispRead c => Sys2Proof.Machine.execSchedDispRead c s
  | .schedPfRead c => Sys2Proof.Machine.execSchedPfRead c s
  | .schedEventLine e => Sys2Proof.Machine.execSchedEventLine e s
  | .schedTimeout t => Sys2Proof.Machine.execSchedTimeout t s
  | .schedSleepExpiry t => Sys2Proof.Machine.execSchedSleepExpiry t s
  | .qmemUe offset => Sys2Proof.Machine.execQmemUe offset s
  | .releasePoint late => Sys2Proof.Machine.execReleasePoint late s
  | .taskCommit t outs rearm us => Sys2Proof.Machine.execTaskCommit t outs rearm us s
  | .transferPoint late => Sys2Proof.Machine.execTransferPoint late s
  | .progChangeTimeout => Sys2Proof.Machine.execProgChangeTimeout s
  | .progLoad p => Sys2Proof.Machine.execProgLoad p s
  | .progRun p => Sys2Proof.Machine.execProgRun p s
  | .progForce p => Sys2Proof.Machine.execProgForce p s
  | .progRelease p => Sys2Proof.Machine.execProgRelease p s
  | .progChange p => Sys2Proof.Machine.execProgChange p s
  | .progReadVar p => Sys2Proof.Machine.execProgReadVar p s
  | .progWriteVar p => Sys2Proof.Machine.execProgWriteVar p s
  | .progStatus p => Sys2Proof.Machine.execProgStatus p s
  | .progReArm p => Sys2Proof.Machine.execProgReArm p s
  | .recipeBoundary late => Sys2Proof.Machine.execRecipeBoundary late s
  | .recipeLoad p => Sys2Proof.Machine.execRecipeLoad p s
  | .recipeStart p => Sys2Proof.Machine.execRecipeStart p s
  | .recipePause p => Sys2Proof.Machine.execRecipePause p s
  | .recipeResume p => Sys2Proof.Machine.execRecipeResume p s
  | .recipeAbort p => Sys2Proof.Machine.execRecipeAbort p s
  | .recipeStatus p => Sys2Proof.Machine.execRecipeStatus p s
  | .recipeDelete p => Sys2Proof.Machine.execRecipeDelete p s
  | .acqValue sig edge => Sys2Proof.Machine.execAcqValue sig edge s
  | .spillwayCheck => Sys2Proof.Machine.execSpillwayCheck s
  | .posttrigEnd => Sys2Proof.Machine.execPosttrigEnd s
  | .drainDone => Sys2Proof.Machine.execDrainDone s
  | .holdoffExpiry => Sys2Proof.Machine.execHoldoffExpiry s
  | .bufferHandover n => Sys2Proof.Machine.execBufferHandover n s
  | .acqChannel p => Sys2Proof.Machine.execAcqChannel p s
  | .acqTrigger p => Sys2Proof.Machine.execAcqTrigger p s
  | .acqArm p => Sys2Proof.Machine.execAcqArm p s
  | .acqStop p => Sys2Proof.Machine.execAcqStop p s
  | .acqStream p => Sys2Proof.Machine.execAcqStream p s
  | .acqStatus p => Sys2Proof.Machine.execAcqStatus p s
  | .acqMeasure p => Sys2Proof.Machine.execAcqMeasure p s
  | .canModeWrite c mode => Sys2Proof.Machine.execCanModeWrite c mode s
  | .canBusIdle c => Sys2Proof.Machine.execCanBusIdle c s
  | .canFrameRx c f => Sys2Proof.Machine.execCanFrameRx c f s
  | .canTxreqWrite c k v => Sys2Proof.Machine.execCanTxreqWrite c k v s
  | .canTxEnd c m res lec inc ts tdcv => Sys2Proof.Machine.execCanTxEnd c m res lec inc ts tdcv s
  | .canTxabortWrite c k v onBus => Sys2Proof.Machine.execCanTxabortWrite c k v onBus s
  | .recover c => Sys2Proof.Machine.execRecover c s
  | .canRecoveryDone c => Sys2Proof.Machine.execCanRecoveryDone c s
  | .canNewClear c m v => Sys2Proof.Machine.execCanNewClear c m v s
  | .canConfig p => Sys2Proof.Machine.execCanConfig p s
  | .canObject p => Sys2Proof.Machine.execCanObject p s
  | .canTransmit p => Sys2Proof.Machine.execCanTransmit p s
  | .canReceive p => Sys2Proof.Machine.execCanReceive p s
  | .canStatus p => Sys2Proof.Machine.execCanStatus p s
  | .sluiceCycle sin fb diag => Sys2Proof.Machine.execSluiceCycle sin fb diag s
  | .sluiceSelfTestDone code => Sys2Proof.Machine.execSluiceSelfTestDone code s
  | .vddSafeFault below27 => Sys2Proof.Machine.execVddSafeFault below27 s
  | .sfWatchdog j port => Sys2Proof.Machine.execSfWatchdog j port s
  | .stoReq7Write v => Sys2Proof.Machine.execStoReq7Write v s
  | .configWrite => Sys2Proof.Machine.execConfigWrite s
  | .configCommit => Sys2Proof.Machine.execConfigCommit s
  | .arm => Sys2Proof.Machine.execArm s
  | .disarm => Sys2Proof.Machine.execDisarm s
  | .reset => Sys2Proof.Machine.execReset s
  | .demand => Sys2Proof.Machine.execDemand s
  | .release => Sys2Proof.Machine.execRelease s
  | .clearFault => Sys2Proof.Machine.execClearFault s
  | .testNow => Sys2Proof.Machine.execTestNow s
  | .spliceLinkChange l up => Sys2Proof.Machine.execSpliceLinkChange l up s
  | .spliceTimeFrame f offset hops uids => Sys2Proof.Machine.execSpliceTimeFrame f offset hops uids s
  | .signalFrameRx f core word ts => Sys2Proof.Machine.execSignalFrameRx f core word ts s
  | .signalDelivery => Sys2Proof.Machine.execSignalDelivery s
  | .spliceCommandRx f ws => Sys2Proof.Machine.execSpliceCommandRx f ws s
  | .spliceReplyRx f ws stamp => Sys2Proof.Machine.execSpliceReplyRx f ws stamp s
  | .controlFrameRx f c => Sys2Proof.Machine.execControlFrameRx f c s
  | .mCmdRx f c p status => Sys2Proof.Machine.execMCmdRx f c p status s
  | .mInputRx f c item => Sys2Proof.Machine.execMInputRx f c item s
  | .deltaRx f d last => Sys2Proof.Machine.execDeltaRx f d last s
  | .snapRx f part last => Sys2Proof.Machine.execSnapRx f part last s
  | .seedRx f seed => Sys2Proof.Machine.execSeedRx f seed s
  | .digestSend => Sys2Proof.Machine.execDigestSend s
  | .digestDue rx => Sys2Proof.Machine.execDigestDue rx s
  | .loneTmoExpiry => Sys2Proof.Machine.execLoneTmoExpiry s
  | .snapshotTimeout => Sys2Proof.Machine.execSnapshotTimeout s
  | .lashConfig p => Sys2Proof.Machine.execLashConfig p s
  | .lashStatus p => Sys2Proof.Machine.execLashStatus p s
  | .lashSwitch p => Sys2Proof.Machine.execLashSwitch p s
  | .lashSnapshot p => Sys2Proof.Machine.execLashSnapshot p s
  | .spliceConfig p => Sys2Proof.Machine.execSpliceConfig p s
  | .spliceStatus p => Sys2Proof.Machine.execSpliceStatus p s
  | .hash r => Sys2Proof.Machine.execHash r s
  | .verify r => Sys2Proof.Machine.execVerify r s
  | .attest r => Sys2Proof.Machine.execAttest r s
  | .secOpDone => Sys2Proof.Machine.execSecOpDone s
  | .attestReportDone => Sys2Proof.Machine.execAttestReportDone s
  | .secAttest p => Sys2Proof.Machine.execSecAttest p s
  | .secCertRead p => Sys2Proof.Machine.execSecCertRead p s
  | .secImageWrite p => Sys2Proof.Machine.execSecImageWrite p s
  | .secKeyRevoke p => Sys2Proof.Machine.execSecKeyRevoke p s
  | .secDebugChallenge p => Sys2Proof.Machine.execSecDebugChallenge p s
  | .secDebugUnlock p => Sys2Proof.Machine.execSecDebugUnlock p s
  | .debugChallengeExpiry => Sys2Proof.Machine.execDebugChallengeExpiry s
  | .secRollback p => Sys2Proof.Machine.execSecRollback p s
  | .irqEdge n level => Sys2Proof.Machine.execIrqEdge n level s
  | .irqClaim t => Sys2Proof.Machine.execIrqClaim t s
  | .irqComplete t v => Sys2Proof.Machine.execIrqComplete t v s
  | .irqPendWrite k v => Sys2Proof.Machine.execIrqPendWrite k v s
  | .irqGroupTimeout g => Sys2Proof.Machine.execIrqGroupTimeout g s
  | .pwrReqRun => Sys2Proof.Machine.execPwrReqRun s
  | .pwrReqIdle => Sys2Proof.Machine.execPwrReqIdle s
  | .pwrReqStandby => Sys2Proof.Machine.execPwrReqStandby s
  | .standbyGate => Sys2Proof.Machine.execStandbyGate s
  | .standbyEntryTimeout => Sys2Proof.Machine.execStandbyEntryTimeout s
  | .wakeLatch w => Sys2Proof.Machine.execWakeLatch w s
  | .recordWrite => Sys2Proof.Machine.execRecordWrite s
  | .evrecWrGo r v => Sys2Proof.Machine.execEvrecWrGo r v s
  | .lifetimeSample h => Sys2Proof.Machine.execLifetimeSample h s
  | .lifetimeFlush => Sys2Proof.Machine.execLifetimeFlush s
  | .timeSync => Sys2Proof.Machine.execTimeSync s
  | .mramRefreshSlice percent ended ecc => Sys2Proof.Machine.execMramRefreshSlice percent ended ecc s
  | .recRead p => Sys2Proof.Machine.execRecRead p s
  | .recClear p => Sys2Proof.Machine.execRecClear p s
  | .recHead p => Sys2Proof.Machine.execRecHead p s
  | .lifeRead p => Sys2Proof.Machine.execLifeRead p s
  | .recWrite p => Sys2Proof.Machine.execRecWrite p s
  | .touchScan counts => Sys2Proof.Machine.execTouchScan counts s
  | .tkStuck n => Sys2Proof.Machine.execTkStuck n s
  | .hpPinChange n level => Sys2Proof.Machine.execHpPinChange n level s
  | .hpDebounceExpiry n => Sys2Proof.Machine.execHpDebounceExpiry n s
  | .hpPowerDelayExpiry n => Sys2Proof.Machine.execHpPowerDelayExpiry n s
  | .joinFail n => Sys2Proof.Machine.execJoinFail n s
  | .touchConfig p => Sys2Proof.Machine.execTouchConfig p s
  | .touchStatus p => Sys2Proof.Machine.execTouchStatus p s
  | .hotplugConfig p => Sys2Proof.Machine.execHotplugConfig p s
  | .hotplugStatus p => Sys2Proof.Machine.execHotplugStatus p s
  | .hotplugPower p => Sys2Proof.Machine.execHotplugPower p s
  | .lashSwitchTimeout => Sys2Proof.Machine.execLashSwitchTimeout s
  | .adcReadTimeout p => Sys2Proof.Machine.execAdcReadTimeout p s
  | .canConfigTimeout c => Sys2Proof.Machine.execCanConfigTimeout c s
  | .sluiceRequestTimeout => Sys2Proof.Machine.execSluiceRequestTimeout s
  | .progImageVerified => Sys2Proof.Machine.execProgImageVerified s
  | .imageWriteDone => Sys2Proof.Machine.execImageWriteDone s
  | .acqTimeTrigger t => Sys2Proof.Machine.execAcqTimeTrigger t s
  | .canBusError c lec e => Sys2Proof.Machine.execCanBusError c lec e s
  | .remoteFrameRx c => Sys2Proof.Machine.execRemoteFrameRx c s
  | .uncorrectableEccError mem => Sys2Proof.Machine.execUncorrectableEccError mem s
  | .firmwareFatal code => Sys2Proof.Machine.execFirmwareFatal code s
  | .pcieLinkUp => Sys2Proof.Machine.execPcieLinkUp s
  | .msixUnmask v => Sys2Proof.Machine.execMsixUnmask v s
  | .vddSafeRestored => Sys2Proof.Machine.execVddSafeRestored s

end Sys2Proof.Machine
end

