-- ==== Sys2Proof/Safety.lean ====
section
/-! DEFINITION. What claims call a safe state and a safe run. -/

namespace Sys2Proof.Machine

/-- The store of words is in its canonical form: addresses strictly rising, no word at its default. -/
def State.canonical (s : State) : Bool := s.words.wf

/-- R81: nothing turns packet `p` of opcode `o` away or holds it back: its turn has come (R79), the common checks pass, none of the
opcode's own `checks` fails, and the mirror stream does not hold it for a later cycle (R431). -/
abbrev State.accepts (s : State) (p : Pkt) (o : Nat) (checks : List (Bool × Nat)) : Prop :=
  s.mustWait p = false ∧ s.precheck p o = none ∧ firstFail checks = none ∧ s.mirrorCycle p o = none

/-- R79, R81: what the row of an opcode does with a packet before its own checks. While the packet's turn has not come, nothing; when
it has, and a check common to all opcodes fails, the packet is answered with that status and nothing else happens. -/
def PacketRow (row : Pkt → Instr) (op : Nat) : Prop :=
  ∀ (p : Pkt) (s : State), (s.mustWait p = true → exec (row p) s = .next s) ∧
    ∀ st, s.mustWait p = false → s.precheck p op = some st → exec (row p) s = .next (s.done p st)

/-- R429, R442: a frame of the mirror stream is taken: it comes from the partner over a mirror link, in SYNCING or STANDBY, in a
schema this device reads, and carries the next sequence number. -/
def State.mirTakes (s : State) (f : SplFrame) : Bool :=
  decide (f.src = s.get F.LASH_PARTNER) && s.mirrorLinks.contains f.link && (s.lashSt = lsSYNCING || s.lashSt = lsSTANDBY) &&
  schemaOk (s.get F.LASH_OWN_SCHEMA) f.schema &&
  (match s.lash.seqRx with
   | some q => decide ((f.mseq + 2 ^ 24 - q) % 2 ^ 24 = 1)
   | none => true)

/-- R446, R448, R456: what may become of the OTP of one device: fuses are blown, never un-blown. The UID, the subsystem
ID and the wrapped seeds stay; a revoked slot stays revoked, a set bit of the word at 0x00C stays set, the rollback counter
never falls, and the hash of a provisioned slot is never overwritten. -/
structure OtpInt.BurnsTo (a b : OtpInt) : Prop where
  uid : b.uid = a.uid
  subsystem : b.subsystem = a.subsystem
  seedRsa : b.seedRsa = a.seedRsa
  seedSlh : b.seedSlh = a.seedSlh
  revoked : ∀ k, bitOf a.revoked k = true → bitOf b.revoked k = true
  cfg : ∀ k, bitOf a.cfg k = true → bitOf b.cfg k = true
  rbCtr : a.rbCtr ≤ b.rbCtr
  hashes : ∀ k, tabGet 0 a.hashes k ≠ 0 → tabGet 0 b.hashes k = tabGet 0 a.hashes k

/-- A step from `s` ends in a next state. -/
def State.stepsOn (s : State) : Prop := ∃ t, step s = .next t

/-- R24, R25: the state after `k` steps, where none of them ends in an access fault. -/
def runSafe : Nat → State → Option State
  | 0, s => some s
  | k + 1, s =>
    match step s with
    | .next t => runSafe k t
    | _ => none

end Sys2Proof.Machine
end

