-- ==== Sys2Proof/Certificates/Slice0/Obligations.lean ====
section
/-! DEFINITION. The statements for the provers: the queue, the invariants, what is refused, frames, and for every command that it
completes, with the state it completes in. -/

open Sys2Proof Sys2Proof.Machine

/-- The queue: with command `c` at its front, a step is the command's effect on the state with the queue's rest (the model's
form of a step, log entry 7). -/
def Obligations.StepRunsFrontCommand : Prop :=
  ∀ (c : Instr) (rest : List Instr) (s : State), step { s with pending := c :: rest } = exec c { s with pending := rest }

/-- R36, R89 and R320 with the model's choice of an idle step (log entry 2): on an empty queue a step is one tick of CTL_CLK while
CTL_CLK runs, with the time-outs and sleeps of tasks that this tick ends, but in STANDBY; before the PLL has locked nothing passes, and in
reset none of device time does; idling queues nothing and never stops. -/
def Obligations.IdleStepIsATick : Prop :=
  ∀ s : State, s.pending = [] →
    (s.sys.inReset = false → s.on F.SYS_CLK_STAT_PLL_LOCK = true → s.get F.IRQ_BLK_STAT_POWER ≠ 3 →
      step s = .next (s.advance 1).expireDue) ∧
    (s.sys.inReset = false → s.on F.SYS_CLK_STAT_PLL_LOCK = true → s.get F.IRQ_BLK_STAT_POWER = 3 → step s = .next (s.advance 1)) ∧
    (s.sys.inReset = false → s.on F.SYS_CLK_STAT_PLL_LOCK = false → step s = .next s) ∧
    (s.sys.inReset = true → step s = .next { s with sys := { s.sys with sameCycle := false } }) ∧
    ∃ t, step s = .next t ∧ t.pending = [] ∧
      t.time.tick = s.time.tick + (if s.sys.inReset = false ∧ s.on F.SYS_CLK_STAT_PLL_LOCK = true then 1 else 0)

/-- The queue, first in first out (log entry 7): a step takes the one command at the front, and no command of the device puts
another into the queue or takes one out of it. -/
def Obligations.StepTakesOneCommand : Prop :=
  ∀ (s t : State) (c : Instr) (rest : List Instr), s.canonical = true → s.pending = c :: rest → step s = .next t → t.pending = rest

/-- R12: every word the device holds stands once, at a value other than the one it reads as unwritten; every command and
every tick keep this form of the store. -/
def Obligations.StepKeepsStoreCanonical : Prop :=
  ∀ s t : State, s.canonical = true → step s = .next t → t.canonical = true

/-- R43, R446, R448, R456, R464: from every state with a canonical store, whatever the next command is, the step only blows
fuses: the UID, subsystem ID and wrapped seeds of OTP stay, a revoked slot stays revoked, no bit of the word at 0x00C clears,
the rollback counter never falls, and the hash of a provisioned key slot is never overwritten. -/
def Obligations.StepOnlyBurnsFuses : Prop :=
  ∀ s t : State, s.canonical = true → step s = .next t → s.otp.BurnsTo t.otp

/-- R12, R27, R45, R60, R62: the state after reset, as the spec gives it: an empty queue (the model's own field), a canonical
store, STAGE RESET, every host queue disabled, every interrupt source disabled, every block clocked and without a sticky flag,
no PWM generator, converter or axis running, the loop limits and the last ADC result at their reset values. -/
def Obligations.ResetStateIsAsGiven : Prop :=
  State.reset.pending = [] ∧ State.reset.canonical = true ∧ State.reset.stage = STAGE_RESET ∧
  (∀ q < 4, State.reset.get (F.Q_STAT_STATE q) = 0) ∧ (∀ n < 352, State.reset.on (F.IRQS_EN n) = false) ∧
  (∀ b ∈ [bSYS, bSEC, bIRQ, bSCHED, bTIME, bADC, bPWM, bLOOP, bMOTION, bRING, bCAN 0, bCAN 1, bCAN 2, bCAN 3, bETH, bACQ, bSTO,
      bEVREC, bOPIO, bSPLICE, bHOSTIF, bGPIO], State.reset.on (F.BLK_CLKEN b) = true ∧ State.reset.get (F.BLK_STICKY b) = 0) ∧
  (∀ g < 48, State.reset.genRuns g = false) ∧ (∀ c < 8, State.reset.adcArmed c = false) ∧ (∀ x < 96, State.reset.axRuns x = false) ∧
  State.reset.word 0x20074000 = 0x80000000 ∧ State.reset.word 0x20074004 = 0x7FFFFFFF ∧ State.reset.word 0x20051008 = 0x80000000

/-- R24, R25: a register write and the four accesses to a pair stop with an access fault exactly where the region map or the
tightly coupled memory's rule refuses the access; every other command, in every state, ends in a next state. -/
def Obligations.OnlyRefusedAccessesStop : Prop :=
  (∀ (r : Requester) (a n : Nat) (v : Word) (s : State), s.accessFaults r a n = true →
    exec (.registerWrite r a n v) s = .fault (.accessFault a) ∧ exec (.pairLoRead r a n) s = .fault (.accessFault a) ∧
    exec (.pairHiRead r a n) s = .fault (.accessFault a)) ∧
  (∀ (r : Requester) (a : Nat) (v : Word) (s : State), s.accessFaults r a 4 = true →
    exec (.pairLoWrite r a v) s = .fault (.accessFault a) ∧ exec (.pairHiWrite r a v) s = .fault (.accessFault a)) ∧
  (∀ (c : Instr) (s : State), (∃ t, exec c s = .next t) ∨
    ∃ r a n, s.accessFaults r a n = true ∧ ((∃ v, c = .registerWrite r a n v) ∨ c = .pairLoRead r a n ∨ c = .pairHiRead r a n ∨
      (n = 4 ∧ ∃ v, c = .pairLoWrite r a v ∨ c = .pairHiWrite r a v)))

/-- R79, R81: whichever opcode a packet carries, while its turn has not come the command changes nothing; when it has, a check that is
the same for every opcode (steps 6, 8 and 9) and fails gives the status of the reply, and the reply is all that happens. -/
def Obligations.PrecheckRefusesEveryPacket : Prop :=
  PacketRow .sysNop opSysNop ∧ PacketRow .sysInfo opSysInfo ∧ PacketRow .sysReset opSysReset ∧ PacketRow .sysArm opSysArm ∧
  PacketRow .sysBootStatus opSysBootStatus ∧ PacketRow .sysPowerState opSysPowerState ∧ PacketRow .sysWakeConfig opSysWakeConfig ∧
  PacketRow .sysRemotePermit opSysRemotePermit ∧ (∀ h : Health, PacketRow (fun p => .sysHealth p h) opSysHealth) ∧
  PacketRow .sluiceStatus opSluiceStatus ∧ PacketRow .sluiceRequest opSluiceRequest ∧ PacketRow .timeConfig opTimeConfig ∧
  (∀ ports : Nat, PacketRow (fun p => .timeRead p ports) opTimeRead) ∧ PacketRow .adcConfig opAdcConfig ∧
  PacketRow .adcCalibrate opAdcCalibrate ∧ PacketRow .adcSequence opAdcSequence ∧ PacketRow .adcRead opAdcRead ∧
  PacketRow .loopConfig opLoopConfig ∧ PacketRow .loopOpen opLoopOpen ∧ PacketRow .loopClose opLoopClose ∧
  PacketRow .loopCoefWrite opLoopCoefWrite ∧ PacketRow .loopSetpoint opLoopSetpoint ∧ PacketRow .loopManual opLoopManual ∧
  PacketRow .loopRead opLoopRead ∧ PacketRow .loopObserver opLoopObserver ∧ PacketRow .loopSafe opLoopSafe ∧
  PacketRow .loopSupervise opLoopSupervise ∧ PacketRow .loopStep opLoopStep ∧ PacketRow .loopSweep opLoopSweep ∧
  PacketRow .loopRelease opLoopRelease ∧ PacketRow .loopStickyClear opLoopStickyClear ∧ PacketRow .pwmConfig opPwmConfig ∧
  PacketRow .pwmDuty opPwmDuty ∧ PacketRow .pwmTripClear opPwmTripClear ∧
  PacketRow .pwmEnable opPwmEnable ∧ PacketRow .gpioConfig opGpioConfig ∧
  PacketRow .gpioWrite opGpioWrite ∧ PacketRow .gpioRead opGpioRead ∧ PacketRow .axisConfig opAxisConfig ∧
  PacketRow .axisMove opAxisMove ∧ PacketRow .axisStop opAxisStop ∧ PacketRow .axisEnable opAxisEnable ∧
  PacketRow .axisGear opAxisGear ∧ PacketRow .axisCam opAxisCam ∧ PacketRow .camTableWrite opCamTableWrite ∧
  PacketRow .axisPhaseTrim opAxisPhaseTrim ∧ PacketRow .axisRead opAxisRead ∧ PacketRow .axisStepTable opAxisStepTable ∧
  PacketRow .encConfig opEncConfig ∧ PacketRow .encRead opEncRead ∧ PacketRow .ringScheduleLoad opRingScheduleLoad ∧
  PacketRow .ringStart opRingStart ∧ PacketRow .ringStop opRingStop ∧ PacketRow .ringStatus opRingStatus ∧
  PacketRow .ringCounters opRingCounters ∧ PacketRow .ringStation opRingStation ∧ PacketRow .ringMasterRank opRingMasterRank ∧
  PacketRow .progLoad opProgLoad ∧ PacketRow .progRun opProgRun ∧ PacketRow .progForce opProgForce ∧
  PacketRow .progRelease opProgRelease ∧ PacketRow .progChange opProgChange ∧ PacketRow .progReadVar opProgReadVar ∧
  PacketRow .progWriteVar opProgWriteVar ∧ PacketRow .progStatus opProgStatus ∧ PacketRow .progReArm opProgReArm ∧
  PacketRow .recipeLoad opRecipeLoad ∧ PacketRow .recipeStart opRecipeStart ∧ PacketRow .recipePause opRecipePause ∧
  PacketRow .recipeResume opRecipeResume ∧ PacketRow .recipeAbort opRecipeAbort ∧ PacketRow .recipeStatus opRecipeStatus ∧
  PacketRow .recipeDelete opRecipeDelete ∧ PacketRow .acqChannel opAcqChannel ∧ PacketRow .acqTrigger opAcqTrigger ∧
  PacketRow .acqArm opAcqArm ∧ PacketRow .acqStop opAcqStop ∧ PacketRow .acqStream opAcqStream ∧ PacketRow .acqStatus opAcqStatus ∧
  PacketRow .acqMeasure opAcqMeasure ∧ PacketRow .canConfig opCanConfig ∧ PacketRow .canObject opCanObject ∧
  PacketRow .canTransmit opCanTransmit ∧ PacketRow .canReceive opCanReceive ∧ PacketRow .canStatus opCanStatus ∧
  PacketRow .lashConfig opLashConfig ∧ PacketRow .lashStatus opLashStatus ∧ PacketRow .lashSwitch opLashSwitch ∧
  PacketRow .lashSnapshot opLashSnapshot ∧ PacketRow .spliceConfig opSpliceConfig ∧ PacketRow .spliceStatus opSpliceStatus ∧
  PacketRow .secAttest opSecAttest ∧ PacketRow .secCertRead opSecCertRead ∧ PacketRow .secImageWrite opSecImageWrite ∧
  PacketRow .secKeyRevoke opSecKeyRevoke ∧ PacketRow .secDebugChallenge opSecDebugChallenge ∧
  PacketRow .secDebugUnlock opSecDebugUnlock ∧ PacketRow .secRollback opSecRollback ∧ PacketRow .recRead opRecRead ∧
  PacketRow .recClear opRecClear ∧ PacketRow .recHead opRecHead ∧ PacketRow .lifeRead opLifeRead ∧ PacketRow .recWrite opRecWrite ∧
  PacketRow .touchConfig opTouchConfig ∧ PacketRow .touchStatus opTouchStatus ∧ PacketRow .hotplugConfig opHotplugConfig ∧
  PacketRow .hotplugStatus opHotplugStatus ∧ PacketRow .hotplugPower opHotplugPower

/-- R86 (with R81): in RECOVERY, the common checks turn away with NOT_PERMITTED every packet that passes those of length and
signature, unless it came from Q0 and carries one of the five opcodes the boot ROM executes; such a packet they let through.
PrecheckRefusesEveryPacket says what a command then does. -/
def Obligations.RecoveryServesFiveOpcodes : Prop :=
  ∀ (p : Pkt) (s : State), opLenOk p = true → p.params.length * 4 = p.len → (p.queue = 4 → p.len ≤ 1024) → (p.noReply && opFlagA p.opcode) = false →
    (p.queue < 4 && (p.signed || opFlagS p.opcode) && !(p.signed && s.sigOk p)) = false → s.stage = STAGE_RECOVERY →
    ((p.queue ≠ 0 ∨ p.opcode ∉ [opSysInfo, opSysBootStatus, opSysReset, opSecCertRead, opSecImageWrite]) →
      s.precheck p p.opcode = some stNOT_PERMITTED) ∧
    (p.queue = 0 → p.mir = false → p.opcode ∈ [opSysInfo, opSysBootStatus, opSecCertRead] → s.precheck p p.opcode = none)

/-- R32: while a commit is pending, a key is refused with CFG_REJECT; a write to a register of staged fields of the unit, or to
the copy itself, leaves the staging copy and sets CFG_REJECT; the pending commit stays. Said of every staged register through the two
operations that write such words, and of a core's write to every staged word of every PWM generator and to its copy as a command. -/
def Obligations.PendingCommitRefusesStaging : Prop :=
  (∀ (b : Nat) (v : Word) (s : State), b ∈ [bADC, bPWM, bLOOP, bMOTION, bRING] → s.canonical = true → s.cmtPending b = true →
    ∃ t, exec (.blkCommitWrite b v) s = .next t ∧ t.commits = s.commits ∧ bitOf (t.get (F.BLK_STICKY b)) 0 = true ∧
      ∀ a, (a < 0x20020000 ∨ 0x20030000 ≤ a) → a ≠ b + 0xC → t.word a = s.word a) ∧
  (∀ (b u off a v : Nat) (region lock : Bool) (r : RegRow) (l : List Nat) (s : State), b ∈ [bADC, bPWM, bLOOP, bMOTION, bRING] →
    b + 0x80 ≤ a → a < b + 0xF800 → regAt a = some (r, l) → r.fields ≠ [] → r.fields.all isStg = true → s.canonical = true →
    s.commitPending b u = true →
    (s.unitWord b u off region lock a v).word (a + 0x800) = s.word (a + 0x800) ∧
    (s.unitWord b u off region lock a v).commits = s.commits ∧
    bitOf ((s.unitWord b u off region lock a v).get (F.BLK_STICKY b)) 0 = true) ∧
  (∀ (b u a v : Nat) (r : RegRow) (l : List Nat) (s : State), b ∈ [bADC, bPWM, bLOOP, bMOTION, bRING] → b + 0x80 ≤ a → a < b + 0xF800 →
    regAt a = some (r, l) → s.canonical = true → s.commitPending b u = true →
    (s.stageWord b u (a + 0x800) v).word (a + 0x800) = s.word (a + 0x800) ∧ (s.stageWord b u (a + 0x800) v).commits = s.commits ∧
    bitOf ((s.stageWord b u (a + 0x800) v).get (F.BLK_STICKY b)) 0 = true) ∧
  (∀ (c n k o : Nat) (v : Word) (s : State), n < 48 → k < 5 → o = 0x100 ∨ o = 0x900 → s.canonical = true → s.commitPending bPWM n = true →
    ∃ t, exec (.registerWrite (.core c) (bPWM + o + 0x20 * n + 4 * k) 4 v) s = .next t ∧ t.commits = s.commits ∧
      t.word (bPWM + 0x900 + 0x20 * n + 4 * k) = s.word (bPWM + 0x900 + 0x20 * n + 4 * k) ∧ bitOf (t.get (F.BLK_STICKY bPWM)) 0 = true)

/-- R471: a claim at a target answers the deliverable source of the highest priority, the lowest number among equals; its PEND
clears, it is in service, and PEND and in-service of every other source stay. Where nothing is deliverable the answer's VALID
is 0, CLAIM_EMPTY counts (held at its largest value) and no source changes. A source is deliverable to one target only. -/
def Obligations.ClaimTakesTheBestSource : Prop :=
  (∀ (t : Nat) (s : State), t < 8 → s.canonical = true → (∀ n < 384, s.deliverable t n = false) →
    ∃ u, exec (.irqClaim t) s = .next u ∧ bitOf u.answer 31 = false ∧
      u.get (F.IRQT_CLAIM_EMPTY t) = min (s.get (F.IRQT_CLAIM_EMPTY t) + 1) (2 ^ 32 - 1) ∧
      ∀ n < 384, u.irqPend n = s.irqPend n ∧ u.irqInService n = s.irqInService n) ∧
  (∀ (t n : Nat) (s : State), t < 8 → n < 384 → s.canonical = true → s.deliverable t n = true →
    (∀ m < 384, s.deliverable t m = true →
      s.get (F.IRQS_PRIO m) < s.get (F.IRQS_PRIO n) ∨ (s.get (F.IRQS_PRIO m) = s.get (F.IRQS_PRIO n) ∧ n ≤ m)) →
    ∃ u, exec (.irqClaim t) s = .next u ∧ bitOf u.answer 31 = true ∧ bits u.answer 8 0 = n ∧ u.irqPend n = false ∧
      u.irqInService n = true ∧ ∀ m < 384, m ≠ n → u.irqPend m = s.irqPend m ∧ u.irqInService m = s.irqInService m) ∧
  (∀ (t t' n : Nat) (s : State), s.deliverable t n = true → s.deliverable t' n = true → t = t')

/-- R501: a key pressed for STUCK seconds is released without an event: its source is not made pending, its bit in OPIO_TK_STUCK
and TK_STUCK are set, its baseline takes the present count, and the other keys stay as they are; with STUCK = 0, and while the
block does not run (STANDBY, reset, no PLL), nothing happens. -/
def Obligations.StuckKeyIsReleased : Prop :=
  (∀ (n : Nat) (s : State), n < 24 → s.canonical = true → s.runs = true → s.on (F.TK_EN n) = true → s.pressed n = true → s.get (F.TK_STUCK n) ≠ 0 →
    ∃ u, exec (.tkStuck n) s = .next u ∧ u.pressed n = false ∧ (∀ m < 24, m ≠ n → u.pressed m = s.pressed m) ∧
      bitOf (u.get F.OPIO_STUCK) n = true ∧ (∀ m < 24, m ≠ n → bitOf (u.get F.OPIO_STUCK) m = bitOf (s.get F.OPIO_STUCK) m) ∧
      u.on F.OPIO_BLK_STICKY_TK_STUCK = true ∧ u.get (F.TK_BASE n) = s.get (F.TK_COUNT n) ∧
      (s.irqPend (266 + n) = false → u.irqPend (266 + n) = false)) ∧
  (∀ (n : Nat) (s : State), s.get (F.TK_STUCK n) = 0 ∨ s.runs = false → exec (.tkStuck n) s = .next s)

/-- R42, R43, R44: a reset of any kind leaves OTP, and MRAM's configuration but for what R56 and R455 name; any reset but a
power-on reset leaves the Sluice's fault latch, and, unless the watchdog raised it, the watchdog's control word; the queue of
waiting commands is the model's own and stays. -/
def Obligations.ResetKeepsWhatSurvives : Prop :=
  ∀ (k : ResetKind) (s : State), s.canonical = true →
    (s.assertReset k).otp = s.otp ∧ (s.assertReset k).pending = s.pending ∧ (s.assertReset k).sys.inReset = true ∧
    (k ≠ .por → (s.assertReset k).mram.permit = s.mram.permit) ∧
    (s.sec.writes = [] → (s.assertReset k).mram = { s.mram with permit := if k = .por then 0 else s.mram.permit }) ∧
    (k ≠ .por → (s.assertReset k).word 0x200D0064 = s.word 0x200D0064) ∧
    (k ≠ .por → k ≠ .wdog → (s.assertReset k).word 0x20000070 = s.word 0x20000070)

/-- R58: when the link goes down, at a function level reset and in D3hot, the four host queues are disabled, no reply not yet
posted is posted any more and the acquisition stream to the host is stopped; every other word of the device outside HOSTIF
stays, and with it the state of the loops, axes, ring, program, recipes, Sluice and every other block. -/
def Obligations.HostLossLeavesThePress : Prop :=
  ∀ (c : Instr) (s : State), c = .pcieLinkDown ∧ s.host.linkUp = true ∨ c = .functionLevelReset ∨ c = .d3hotEntry → s.canonical = true →
    ∃ t, exec c s = .next t ∧ (∀ q < 4, t.get (F.Q_STAT_STATE q) = 0 ∧ ∀ e, exec (.replyPost q e) t = .next t) ∧
      (∀ a, a < 0x20110000 ∨ 0x20120000 ≤ a → t.word a = s.word a) ∧
      t = { s with words := t.words, host := t.host, acq := { s.acq with halted := true } }

/-- R317, R319, R321, R322, R323, R324, R327: the commands of the scheduler end in a next state that differs from the state before
in the scheduler's tables, in the words of SCHED and in the word a read answers alone. A time-out and the end of a sleep, which come at
the instant the task's deadline names, differ in the same way from the state at that instant. -/
def Obligations.SchedulerCommandsStayInSched : Prop :=
  (∀ (k v : Nat) (a b : Word) (x y : Bool) (s : State) (c : Instr),
    c ∈ [.create k a, .signal k a b, .wait k a b x y, .yield k, .sleep k b y, .exit k, .schedDispRead k, .schedPfRead k,
      .schedEventLine v] →
    ∃ u, exec c s = .next u ∧ (∀ i, (i < 0x20030000 ∨ 0x20040000 ≤ i) → u.word i = s.word i) ∧
      u = { s with words := u.words, sched := u.sched, answer := u.answer }) ∧
  (∀ (t : Nat) (s : State) (c : Instr), c ∈ [.schedTimeout t, .schedSleepExpiry t] →
    ∃ u v, exec c s = .next u ∧ (v = s ∨ ∃ d, (s.task t).deadline = some d ∧ v = s.advanceTo d) ∧
      (∀ i, (i < 0x20030000 ∨ 0x20040000 ≤ i) → u.word i = v.word i) ∧ u = { v with words := u.words, sched := u.sched, answer := u.answer })

/-- R55, R56, R115, R167, R219, R246, R315, R363, R381, R421, R445, R467, R499, R508: an opcode that reads, in a packet that asks
for a reply, ends in a next state that differs from the state before in the host queues alone, whatever its checks answer: their
records, and INFLIGHT in the status word of the packet's queue, whose other fields stay. Every other word, flag, record and counter of
the device stays. -/
def Obligations.ReadOpcodesOnlyAnswer : Prop :=
  ∀ (p : Pkt) (n : Nat) (s : State) (c : Instr), p.noReply = false → s.canonical = true →
    c ∈ [.sysInfo p, .sysBootStatus p, .timeRead p n, .loopRead p, .gpioRead p, .axisRead p, .ringStatus p, .ringCounters p,
      .recipeStatus p, .acqStatus p, .spliceStatus p, .recRead p, .recHead p, .lifeRead p, .touchStatus p, .hotplugStatus p,
      .sluiceStatus p, .secCertRead p] →
    ∃ t, exec c s = .next t ∧ t = { s with host := t.host, words := t.words } ∧
      (∀ a, a ≠ (F.Q_STAT_INFLIGHT p.queue).addr → t.word a = s.word a) ∧
      ∀ f ∈ [F.Q_STAT_SQ_HEAD p.queue, F.Q_STAT_CFG_REJ p.queue, F.Q_STAT_ERR p.queue, F.Q_STAT_STATE p.queue], t.get f = s.get f

/-- R506: no touch channel and no detect input of a connector, and no command of theirs, reaches the Sluice: its state and every
word of its block stay. -/
def Obligations.OperatorInputsNeverReachSluice : Prop :=
  ∀ (n : Nat) (cs : List Nat) (b : Bool) (p : Pkt) (s t : State) (c : Instr),
    c ∈ [.touchScan cs, .tkStuck n, .hpPinChange n b, .hpDebounceExpiry n, .hpPowerDelayExpiry n, .joinFail n, .touchConfig p,
      .touchStatus p, .hotplugConfig p, .hotplugStatus p, .hotplugPower p] →
    exec c s = .next t → t.sto = s.sto ∧ ∀ a, 0x200D0000 ≤ a → a < 0x200E0000 → t.word a = s.word a

/-- R477, R480: in STANDBY the clocks of the units that it stops do not run: an event row of such a unit changes nothing. -/
def Obligations.StandbyStopsUnits : Prop :=
  ∀ s : State, s.get F.IRQ_BLK_STAT_POWER = 3 →
    (∀ (port : Nat) (ok : Bool) (stamp : Nat), exec (.ethFrameSent port ok stamp) s = .next s) ∧
    (∀ (port len : Nat) (data : List Word) (bad : Bool) (stamp : Nat), exec (.ethFrameRx port len data bad stamp) s = .next s) ∧
    (∀ (port data : Nat), exec (.ethMdioDone port data) s = .next s) ∧ (∀ (c raw : Nat), exec (.adcResult c raw) s = .next s) ∧
    exec .refSettled s = .next s ∧ (∀ (c : Nat) (factors : Option (Nat × Nat × List Nat)), exec (.adcCalDone c factors) s = .next s) ∧
    (∀ (n : Nat) (late : Nat), exec (.slotSample n late) s = .next s) ∧ (∀ (n : Nat), exec (.fbTmoExpiry n) s = .next s) ∧
    exec .snapshotTick s = .next s ∧ (∀ (g : Nat), exec (.pwmBoundary g) s = .next s) ∧
    (∀ (g : Nat), exec (.pwmSamplePoint g) s = .next s) ∧ (∀ (k : Nat), exec (.servoBoundary k) s = .next s) ∧
    (∀ (n : Nat) (a b : Bool) (samples : Nat), exec (.encEdge n a b samples) s = .next s) ∧
    (∀ (n : Nat) (level : Bool) (samples : Nat), exec (.encIndex n level samples) s = .next s) ∧
    (∀ (n raw : Nat) (lineLow : Bool), exec (.ssiTransferDone n raw lineLow) s = .next s) ∧
    (∀ (n : Nat), exec (.encErrHoldExpiry n) s = .next s) ∧ exec .ringCycleStart s = .next s ∧ exec .segmentLatch s = .next s ∧
    exec .referenceFrameTx s = .next s ∧ exec .bightFrameTx s = .next s ∧
    (∀ (port : Nat) (ws : List Word) (stamp : Nat), exec (.referenceFrameRx port ws stamp) s = .next s) ∧
    (∀ (port seg id len : Nat) (ws : List Word), exec (.segmentRx port seg id len ws) s = .next s) ∧ exec .extractionEnd s = .next s ∧
    (∀ (port len : Nat) (ws : List Word) (t0 : Nat), exec (.frameForward port len ws t0) s = .next s) ∧
    (∀ (slot : Nat), exec (.messageFrameTx slot) s = .next s) ∧
    (∀ (port len : Nat) (ws : List Word) (stamp : Nat), exec (.messageFrameRx port len ws stamp) s = .next s) ∧
    (∀ (port : Nat) (ws : List Word), exec (.claimFrameRx port ws) s = .next s) ∧ exec .claimTimeout s = .next s ∧
    exec .refLossTimeout s = .next s ∧ exec .masterTakeover s = .next s ∧ (∀ (port : Nat), exec (.turnBackStop port) s = .next s) ∧
    (∀ (n : Nat), exec (.nodeAbsent n) s = .next s) ∧ (∀ (e : Nat), exec (.schedEventLine e) s = .next s) ∧
    (∀ (t : Nat), exec (.schedTimeout t) s = .next s) ∧ (∀ (t : Nat), exec (.schedSleepExpiry t) s = .next s) ∧
    (∀ (late : List Nat), exec (.releasePoint late) s = .next s) ∧
    (∀ (t : Nat) (outs : List Word) (rearm us : Nat), exec (.taskCommit t outs rearm us) s = .next s) ∧
    (∀ (late : List Nat), exec (.transferPoint late) s = .next s) ∧ (∀ (late : List Nat), exec (.recipeBoundary late) s = .next s) ∧
    (∀ (sig edge : Nat), exec (.acqValue sig edge) s = .next s) ∧ exec .spillwayCheck s = .next s ∧
    exec .posttrigEnd s = .next s ∧ exec .drainDone s = .next s ∧ exec .holdoffExpiry s = .next s ∧
    (∀ (n : Nat), exec (.bufferHandover n) s = .next s) ∧ (∀ (c : Nat), exec (.canBusIdle c) s = .next s) ∧
    (∀ (c : Nat) (f : CanFrame), exec (.canFrameRx c f) s = .next s) ∧
    (∀ (c m res lec inc ts : Nat) (tdcv : Option Nat), exec (.canTxEnd c m res lec inc ts tdcv) s = .next s) ∧
    (∀ (c : Nat), exec (.canRecoveryDone c) s = .next s) ∧
    (∀ (f : SplFrame) (offset : Int) (hops : Nat) (uids : List Nat), exec (.spliceTimeFrame f offset hops uids) s = .next s) ∧
    (∀ (f : SplFrame) (core : Nat) (word : Word) (ts : Nat), exec (.signalFrameRx f core word ts) s = .next s) ∧
    exec .signalDelivery s = .next s ∧ (∀ (f : SplFrame) (ws : List Word), exec (.spliceCommandRx f ws) s = .next s) ∧
    (∀ (f : SplFrame) (ws : List Word) (stamp : Nat), exec (.spliceReplyRx f ws stamp) s = .next s) ∧
    (∀ (f : SplFrame) (c : LashControl), exec (.controlFrameRx f c) s = .next s) ∧
    (∀ (f : SplFrame) (c : Nat) (p : Pkt) (status : Nat), exec (.mCmdRx f c p status) s = .next s) ∧
    (∀ (f : SplFrame) (c : Nat) (item : MirItem), exec (.mInputRx f c item) s = .next s) ∧
    (∀ (f : SplFrame) (d : ProgDelta) (last : Bool), exec (.deltaRx f d last) s = .next s) ∧
    (∀ (f : SplFrame) (part : SnapPart) (last : Bool), exec (.snapRx f part last) s = .next s) ∧
    (∀ (f : SplFrame) (seed : Seed), exec (.seedRx f seed) s = .next s) ∧ exec .digestSend s = .next s ∧
    (∀ (rx : List (Nat × List Word)), exec (.digestDue rx) s = .next s) ∧ exec .loneTmoExpiry s = .next s ∧
    (∀ (counts : List Nat), exec (.touchScan counts) s = .next s) ∧ (∀ (n : Nat), exec (.tkStuck n) s = .next s) ∧
    (∀ (n : Nat), exec (.hpDebounceExpiry n) s = .next s) ∧ (∀ (n : Nat), exec (.hpPowerDelayExpiry n) s = .next s) ∧
    (∀ (n : Nat), exec (.joinFail n) s = .next s) ∧ (∀ (t : Nat), exec (.acqTimeTrigger t) s = .next s) ∧
    (∀ (c lec : Nat) (e : CanErr), exec (.canBusError c lec e) s = .next s) ∧ (∀ (c : Nat), exec (.remoteFrameRx c) s = .next s)

/-- Reset commands: Each trigger of a reset asserts the reset of its kind: the pins once low for the whole filter time, the
supplies, the debug port while debug is unlocked, the watchdog, the software key, the loss of the system PLL, the scheduled
software reset and an uncorrectable error of the task table; RESET_RELEASE takes the straps; an uncorrectable error of another
memory makes an ACTIVE resign. Covers POR_ASSERT, SYS_RESETN_ASSERT, SUPPLY_UNDER_VOLTAGE, DEBUG_RESET_REQUEST, RESET_RELEASE,
PLL_LOSS_RESET, WDOG_TIMEOUT, SYS_SWRST_WRITE, SYS_RESET_TAKES_EFFECT, UNCORRECTABLE_ECC_ERROR. -/
def Obligations.ResetCommandsComplete : Prop :=
  (∀ (lowNs : Nat) (s : State), 1000 ≤ lowNs → exec (.porAssert lowNs) s = .next (s.assertReset .por)) ∧
  (∀ (lowNs : Nat) (s : State), 1000 ≤ lowNs → exec (.sysResetnAssert lowNs) s = .next (s.assertReset .pin)) ∧
  (∀ (s : State),
    exec .supplyUnderVoltage s = .next (s.assertReset .por)) ∧
  (∀ (s : State),
    ¬(s.get F.SEC_BLK_STAT_DBG_LEVEL = 0) →
    exec .debugResetRequest s = .next (s.assertReset .dbg)) ∧
  (∀ (bootIf pcieRefsel : Bool) (s : State),
    ¬(!s.sys.inReset || s.sys.pllLossPending || s.sys.xtalGone) →
    exec (.resetRelease bootIf pcieRefsel) s = .next (((({ s with sys := { s.sys with inReset := false, porSeen := false, sameCycle := false } }.put F.SYS_STRAP_BOOT_IF
      (b2n (bootIf && !bitOf s.otp.cfg 0))).put
      F.SYS_STRAP_PCIE_REFSEL (b2n pcieRefsel)).put F.SYS_CLK_STAT_PCIE_REF (b2n pcieRefsel)))) ∧
  (∀ (s : State),
    (s.sys.pllLossPending) →
    exec .pllLossReset s = .next (s.assertReset .pllLoss)) ∧
  (∀ (s : State),
    (s.wdogRuns) →
    exec .wdogTimeout s = .next (s.assertReset .wdog)) ∧
  (∀ s : State, exec (.sysSwrstWrite 0x00003C96) s = .next (s.assertReset .swrst)) ∧
  (∀ (v : Word) (s : State), v ≠ 0x00003C96 → exec (.sysSwrstWrite v) s = .next (s.reject bSYS)) ∧
  (∀ (s : State),
    (s.sys.swResetPending) →
    exec .sysResetTakesEffect s = .next (s.assertReset .swrst)) ∧
  (∀ s : State, exec (.uncorrectableEccError 3) s = .next (s.assertReset .wdog)) ∧
  (∀ (mem : Nat) (s : State), mem ≠ 3 → mem ≤ 4 → exec (.uncorrectableEccError mem) s = .next s.noteResign)

/-- Clock, start-up, watchdog and arming commands: Outside reset, or in the stage each belongs to, every clock event and every
end of a start-up stage completes with the state written out here; so do a watchdog kick, a write of the watchdog control
word, the half-way warning and a write of 1 to OUTEN; any other kick value, and a control write once EN is set, set
CFG_REJECT. Covers XTAL_OK, PLL_LOCK, SERDES_PLL_LOCK, SERDES_PLL_UNLOCK, CRYSTAL_LOSS, PLL_LOSS_OF_LOCK, BOOT_CHAIN_DONE,
DRAM_TRAIN_DONE, FW_INIT_DONE, RING_JOIN_TIMEOUT, SYS_WDOG_KICK_WRITE, SYS_WDOG_CTRL_WRITE, WDOG_WARN, SYS_ARM_WRITE. -/
def Obligations.ClockBootAndWatchdogComplete : Prop :=
  (∀ (s : State),
    let s1 := { s with sys := { s.sys with xtalGone := false } }
    exec .xtalOk s = .next (if s.sys.inReset then s1 else s1.put F.SYS_CLK_STAT_XTAL_OK 1)) ∧
  (∀ (s : State),
    ¬(s.sys.inReset || !s.on F.SYS_CLK_STAT_XTAL_OK || s.on F.SYS_CLK_STAT_PLL_LOCK) →
    exec .pllLock s = .next ((s.put F.SYS_CLK_STAT_PLL_LOCK 1).setStage STAGE_ROM)) ∧
  (∀ (pll : Nat) (s : State),
    ¬(s.sys.inReset || !s.sdsEnabled pll) →
    exec (.serdesPllLock pll) s = .next (s.put (sdsLock pll) 1)) ∧
  (∀ (pll : Nat) (s : State),
    ¬(3 ≤ pll || !s.on (sdsLock pll)) →
    exec (.serdesPllUnlock pll) s = .next (((s.put (sdsLock pll) 0).raise bSYS (8 + pll)).pllLinksDown pll)) ∧
  (∀ (s : State),
    let s1 := { s.put F.SYS_CLK_STAT_XTAL_OK 0 with sys := { s.sys with xtalGone := true, pllLossPending := true } }
    exec .crystalLoss s = .next (if s.sys.inReset then s1 else s1.clockLoss)) ∧
  (∀ (s : State),
    ¬(s.sys.inReset) →
    exec .pllLossOfLock s = .next (s.clockLoss)) ∧
  (∀ (r : BootChain) (s : State),
    ¬(s.stage ≠ STAGE_ROM || s.sys.bootHalted) →
    exec (.bootChainDone r) s = .next (if s.on F.SYS_STRAP_BOOT_IF && !bitOf s.otp.cfg 0 then s.romStart.enterRecovery
    else if s.bootFits r then s.romStart.bootEnd r
    else s)) ∧
  (∀ (ok : Bool) (s : State),
    ¬(s.stage ≠ STAGE_DRAM_TRAIN || s.sys.bootHalted) →
    exec (.dramTrainDone ok) s = .next (if ok then s.setStage STAGE_FW_INIT
    else { s with sys := { s.sys with bootHalted := true } }.stageFail 0x03)) ∧
  (∀ (s : State),
    ¬(s.stage ≠ STAGE_FW_INIT) →
    exec .fwInitDone s = .next (let s1 := (s.fwWrites.post 0x0010 0 (s.word 0x20000060).toNat (s.word 0x20000084).toNat).noteForces.timeSync
      let s2 := s1.setReady.restorePair
      ((List.range 8).foldl State.calGo s2).setStage STAGE_ADC_CAL)) ∧
  (∀ (s : State),
    ¬(s.stage ≠ STAGE_RING_JOIN) →
    exec .ringJoinTimeout s = .next (let s1 := if s.get F.SYS_BOOT_STAT_ERR = 0x06 then s else s.setErr 0x06
      { s1 with sys := { s1.sys with joinTimedOut := true } }.post 0x0011 0 (STAGE_RING_JOIN + 256 * 0x06) 0)) ∧
  (∀ s : State, exec (.sysWdogKickWrite 0x0000C35A) s = .next { s with sys := { s.sys with wdogMs := 0 } }) ∧
  (∀ (v : Word) (s : State), v ≠ 0x0000C35A → exec (.sysWdogKickWrite v) s = .next (s.reject bSYS)) ∧
  (∀ (v : Word) (s : State), s.on F.SYS_WDOG_CTRL_EN = false →
    exec (.sysWdogCtrlWrite v) s = .next (
      let s1 := s.put F.SYS_WDOG_CTRL_TIMEOUT (bits v.toNat 15 0)
      if bitOf v.toNat 31 then { s1.put F.SYS_WDOG_CTRL_EN 1 with sys := { s1.sys with wdogMs := 0 } } else s1)) ∧
  (∀ (v : Word) (s : State), s.on F.SYS_WDOG_CTRL_EN = true → exec (.sysWdogCtrlWrite v) s = .next (s.reject bSYS)) ∧
  (∀ (s : State),
    (s.wdogRuns) →
    exec .wdogWarn s = .next ({ s with sys := { s.sys with wdogMs := s.wdogTimeout / 2 } }.noteResign.raise bSYS 11)) ∧
  (∀ (v : Word) (s : State), bitOf v.toNat 0 = true → exec (.sysArmWrite v) s = .next s.armOutputs)

/-- Register writes and pair accesses: An access that does not fault completes: a write with the bus write of its word, an
accepted commit key with a commit of every unit in the mask, an abandoned commit, the four pair accesses at words of a pair.
Covers REGISTER_WRITE, BLK_COMMIT_WRITE, COMMIT_ABANDON, PAIR_LO_READ, PAIR_HI_READ, PAIR_LO_WRITE, PAIR_HI_WRITE. -/
def Obligations.RegisterAccessComplete : Prop :=
  (∀ (r : Requester) (addr size : Nat) (v : Word) (s : State), s.accessFaults r addr size = false →
    exec (.registerWrite r addr size v) s = .next (s.busWrite r addr size v.toNat)) ∧
  (∀ (base : Nat) (v : Word) (s : State), v.toNat = 0xA5 → s.cmtPending base = false →
    exec (.blkCommitWrite base v) s =
      .next ((s.maskUnits ((base - 0x20000000) / 0x10000)).foldl (State.startCommit ((base - 0x20000000) / 0x10000)) s)) ∧
  (∀ (base : Nat) (s : State),
    exec (.commitAbandon base) s = .next (s.abandon base)) ∧
  (∀ (r : Requester) (addr : Nat) (s : State), s.accessFaults r addr 4 = false → s.regionAt r addr = 4 → isPair addr = true →
    exec (.pairLoRead r addr 4) s = .next (s.pairLoRead r addr)) ∧
  (∀ (r : Requester) (addr size : Nat) (s : State), s.accessFaults r addr size = false →
    s.regionAt r addr ≠ 4 ∨ size ≠ 4 ∨ isPair addr = false → exec (.pairLoRead r addr size) s = .next (s.busRead r addr size)) ∧
  (∀ (r : Requester) (addr : Nat) (s : State), s.accessFaults r addr 4 = false → s.regionAt r addr = 4 → isPair (addr - 4) = true →
    exec (.pairHiRead r addr 4) s = .next (s.pairHiRead r addr)) ∧
  (∀ (r : Requester) (addr size : Nat) (s : State), s.accessFaults r addr size = false →
    s.regionAt r addr ≠ 4 ∨ size ≠ 4 ∨ isPair (addr - 4) = false → exec (.pairHiRead r addr size) s = .next (s.busRead r addr size)) ∧
  (∀ (r : Requester) (addr : Nat) (v : Word) (s : State), s.accessFaults r addr 4 = false →
    exec (.pairLoWrite r addr v) s = .next (s.busWrite r addr 4 v.toNat)) ∧
  (∀ (r : Requester) (addr : Nat) (v : Word) (s : State), s.accessFaults r addr 4 = false →
    exec (.pairHiWrite r addr v) s = .next (s.busWrite r addr 4 v.toNat))

/-- Host queues: Doorbells, queue control, packet fetch, verification of a signed packet, posting of a reply and the coalescing
time-out of a host queue complete with the state written out here. Covers QNSQ_TAIL_WRITE, QNCQ_HEAD_WRITE, QNCTL_WRITE,
PACKET_FETCH, SIGNATURE_VERIFY_DONE, REPLY_POST, QUEUE_COAL_TIMEOUT. -/
def Obligations.HostQueueCommandsComplete : Prop :=
  (∀ (n : Nat) (v : Word) (s : State),
    ¬(4 ≤ n) →
    exec (.qnsqTailWrite n v) s = .next ((if s.get (F.Q_STAT_STATE n) = 1 then s.sqDoorbell n (bits v.toNat 13 0)
      else s.put (F.Q_SQ_TAIL_TAIL n) v.toNat).pulse 319)) ∧
  (∀ (n : Nat) (v : Word) (s : State),
    let size := s.cqSize n
    let u := (bits v.toNat 14 0 + size - s.get (F.Q_CQ_HEAD_HEAD n) % size) % size
    let q := s.q n
    (n < 4) →
    exec (.qncqHeadWrite n v) s = .next ((s.setQ n { q with posted := dropConsumed u q.posted }).put (F.Q_CQ_HEAD_HEAD n) v.toNat)) ∧
  (∀ (n : Nat) (v : Word) (s : State), n < 4 → bitOf v.toNat 0 = true → s.get (F.Q_STAT_STATE n) = 0 →
    exec (.qnctlWrite n v) s = .next (s.enableQueue n)) ∧
  (∀ (n : Nat) (v : Word) (s : State), n < 4 → bitOf v.toNat 0 = false → s.get (F.Q_STAT_STATE n) = 1 ∨ s.get (F.Q_STAT_STATE n) = 3 →
    exec (.qnctlWrite n v) s = .next (((s.put (F.Q_CTL_EN n) 0).put (F.Q_STAT_STATE n) 2).drainCheck n)) ∧
  (∀ (n : Nat) (mem : List (Nat × List Word)) (s : State), n < 4 → s.packetWaits mem n = true → s.outranked mem n = false →
    exec (.packetFetch n mem false) s = .next (s.fetchHost (s.headPkt mem n))) ∧
  (∀ (mem : List (Nat × List Word)) (d : Bool) (s : State), s.packetWaits mem 4 = true → s.outranked mem 4 = false →
    exec (.packetFetch 4 mem d) s = .next s.fetchRemote) ∧
  (∀ (n : Nat) (mem : List (Nat × List Word)) (s : State), n < 4 → s.get (F.Q_STAT_STATE n) = 1 →
    exec (.packetFetch n mem true) s = .next (s.stopQueue n 6)) ∧
  (∀ (p : Pkt) (s : State), s.sec.sigWait.find? (fun q => !s.mustWait q) = some p →
    exec .signatureVerifyDone s = .next ((s.secI (fun v => { v with sigWait := v.sigWait.erase p })).secBusy.sigVerdict p)) ∧
  (∀ (d : Bool) (s : State), exec (.replyPost 4 d) s = .next s.postRemote) ∧
  (∀ (n : Nat) (s : State), n ≠ 4 → s.get (F.Q_STAT_STATE n) ≠ 0 → exec (.replyPost n false) s = .next (s.postHost n)) ∧
  (∀ (n : Nat) (s : State), n ≠ 4 → s.get (F.Q_STAT_STATE n) = 1 → exec (.replyPost n true) s = .next (s.stopQueue n 6)) ∧
  (∀ (n : Nat) (s : State),
    ¬(s.get (F.Q_COAL_TIME n) = 0 ∨ (s.q n).unsignalled = 0) →
    exec (.queueCoalTimeout n) s = .next ((s.setQ n { s.q n with unsignalled := 0 }).msix n))

/-- Host link, heartbeat, vectors: Loss of the link, function level reset, D3hot, the heartbeat, a firmware fault, link-up and
the unmasking of a vector complete with the state written out here. Covers PCIE_LINK_DOWN, FUNCTION_LEVEL_RESET, D3HOT_ENTRY,
STAT_HEARTBEAT, FIRMWARE_FATAL, PCIE_LINK_UP, MSIX_UNMASK. -/
def Obligations.HostLinkCommandsComplete : Prop :=
  (∀ (s : State), s.host.linkUp = true →
    exec .pcieLinkDown s =
      .next ({ s with host := { s.host with linkUp := false, linkSpeed := 0, linkWidth := 0 } }.pciReset false).hostLost) ∧
  (∀ (s : State),
    exec .functionLevelReset s = .next (s.functionReset)) ∧
  (∀ (s : State),
    exec .d3hotEntry s = .next (s.hostLost)) ∧
  (∀ (s : State),
    (s.on F.STAT_BOOT_READY) →
    exec .statHeartbeat s = .next (s.incWrap F.STAT_HEARTBEAT_COUNT)) ∧
  (∀ (code : Nat) (s : State),
    ¬(s.on F.STAT_BOOT_FATAL) →
    exec (.firmwareFatal code) s = .next ((((s.put F.STAT_BOOT_FATAL 1).msix 4).post 0x2012 0 code (code / 2 ^ 32)).noteResign)) ∧
  (∀ (s : State),
    ¬(s.sys.inReset || !s.on F.SYS_CLK_STAT_SDS_PCIE_LOCK || s.host.linkUp) →
    exec .pcieLinkUp s = .next (s.trainLink)) ∧
  (∀ (v : Nat) (s : State),
    exec (.msixUnmask v) s = .next (s.msixMaskWrite v false))

/-- System opcodes: Every accepted packet of the system group completes with its effect and its reply. Covers SYS_NOP, SYS_INFO,
SYS_RESET, SYS_ARM, SYS_BOOT_STATUS, SYS_POWER_STATE, SYS_WAKE_CONFIG, SYS_REMOTE_PERMIT, SYS_HEALTH. -/
def Obligations.SystemPacketsComplete : Prop :=
  (∀ (p : Pkt) (s : State),
    s.accepts p opSysNop [] →
    exec (.sysNop p) s = .next (s.done p stDONE)) ∧
  (∀ (p : Pkt) (s : State),
    s.accepts p opSysInfo [] →
    exec (.sysInfo p) s = .next (s.doneRes p s.sysInfo)) ∧
  (∀ (p : Pkt) (s : State),
    s.accepts p opSysReset [(p.w 0 ≠ 0x3C96, stBAD_PARAM)] →
    exec (.sysReset p) s = .next ({ s with sys := { s.sys with swResetPending := true } }.done p stDONE)) ∧
  (∀ (p : Pkt) (s : State), s.accepts p opSysArm [] → s.fwRun = true →
    exec (.sysArm p) s = .next (s.armOutputs.done p stDONE)) ∧
  (∀ (p : Pkt) (s : State),
    s.accepts p opSysBootStatus [] →
    exec (.sysBootStatus p) s = .next (s.doneRes p [(s.word 0x20000064).toNat, (s.word 0x20000060).toNat, (s.word 0x20000068).toNat,
      (s.word 0x20000084).toNat])) ∧
  (∀ (p : Pkt) (s : State), s.accepts p opSysPowerState [(2 < p.w 0, stBAD_PARAM)] →
    p.w 0 ≠ 2 → exec (.sysPowerState p) s = .next (s.powerAwake p (p.w 0))) ∧
  (∀ (p : Pkt) (s : State), s.accepts p opSysPowerState [(2 < p.w 0, stBAD_PARAM)] →
    p.w 0 = 2 → s.standbyDenied = 0 → s.standbyRefuse = 0 →
    exec (.sysPowerState p) s = .next { s with irq := { s.irq with pwrPkts := s.irq.pwrPkts ++ [p] } }.reqStandby) ∧
  (∀ (p : Pkt) (s : State),
    s.accepts p opSysWakeConfig [(s.get F.IRQ_BLK_STAT_POWER = 2, stBUSY)] →
    exec (.sysWakeConfig p) s = .next (((s.put F.IRQ_WAKE_EN (p.w 1)).put F.IRQ_WAKE_POL (p.w 2)).done p stDONE)) ∧
  (∀ (p : Pkt) (s : State),
    s.accepts p opSysRemotePermit [(p.queue = 4, stNOT_PERMITTED),
     (bitOf (p.w 0) 0 || bitOf (p.w 0) 14 || bitOf (p.w 0) 15 || bits (p.w 0) 31 16 ≠ 0, stBAD_PARAM)] →
    exec (.sysRemotePermit p) s = .next ({ s with mram := { s.mram with permit := p.w 0 } }.done p stDONE)) ∧
  (∀ (p : Pkt) (h : Health) (s : State),
    s.accepts p opSysHealth [(p.w 0 ≥ 2, stBAD_PARAM)] →
    exec (.sysHealth p h) s = .next (let t1 := s.noteHealth h
      let t2 := t1.doneRes p (t1.healthResult h)
      if bitOf (p.w 0) 0 then { t2 with sys := { t2.sys with railHist := 0 } } else t2))

/-- Timebase events: Writes of the time source and the external offset, loss of a source, the holdover limit, a compare unit that
fires, its control word and a captured edge complete with the state written out here. Covers TIME_SRC_WRITE, PTP_OFFSET_WRITE,
TIME_SOURCE_LOST, HOLD_LIMIT_EXPIRY, CMP_FIRE, CMPN_CTRL_WRITE, CAP_EDGE. -/
def Obligations.TimeEventsComplete : Prop :=
  (∀ (v : Word) (s : State),
    exec (.timeSrcWrite v) s = .next (s.timeSrcWrite v.toNat)) ∧
  (∀ (v : Word) (s : State),
    exec (.ptpOffsetWrite v) s = .next (s.ptpOffset v.toNat)) ∧
  (∀ (src : Nat) (s : State), 1 ≤ src → src ≤ 4 → exec (.timeSourceLost src) s = .next ((s.dropSource src).sourceLost src)) ∧
  (∀ (s : State),
    let fb := s.get F.TIME_SRC_FALLBACK
    ¬(s.timeSt ≠ tmHOLDOVER) →
    exec .holdLimitExpiry s = .next (if fb ≠ 0 && s.srcPresent fb then (s.setTimeSt tmACQUIRE fb false).firstSample
    else (s.setRate s.time.servoF).setTimeSt tmFREE (s.get F.TIME_BLK_STAT_ACTIVE_SRC) false)) ∧
  (∀ (n : Nat) (s : State),
    (s.clocked && decide (n < 32) && s.on (F.CMP_CTRL_EN n) && (s.on (F.CMP_CTRL_PERIODIC n) || !bitOf s.time.fired n)) →
    exec (.cmpFire n) s = .next (s.cmpFire n)) ∧
  (∀ (n : Nat) (v : Word) (s : State),
    (n < 32) →
    exec (.cmpnCtrlWrite n v) s = .next (s.cmpCtrl n v.toNat)) ∧
  (∀ (n : Nat) (rising : Bool) (samples : Nat) (s : State),
    (n < 32 && !s.mirCap n && s.on (F.CAP_CTRL_EN n) && decide (s.get (F.CAP_CTRL_FILTER n) < samples) &&
      edgeOk (s.get (F.CAP_CTRL_EDGE n)) rising) →
    exec (.capEdge n rising samples) s = .next ((s.capEdge n rising s.now).mirInputIf (bitOf (s.get F.LASH_MIR_CAP) n) (.cap n rising s.now)))

/-- Time opcodes and plant Ethernet: TIME_CONFIG, TIME_READ, a frame sent or received at an enabled port and the two MDIO steps
complete with the state written out here. Covers TIME_CONFIG, TIME_READ, ETH_FRAME_SENT, ETH_FRAME_RX, ETH_MDIO_GO,
ETH_MDIO_DONE. -/
def Obligations.TimePacketsAndEthernetComplete : Prop :=
  (∀ (p : Pkt) (s : State),
    s.accepts p opTimeConfig [(timeConfigBad p, stBAD_PARAM), (isPtp (bits (p.w 0) 2 0) && s.ringRuns && !s.timeMaster, stNOT_PERMITTED)] →
    exec (.timeConfig p) s = .next (let c0 : PtpCfg := { domain := p.w 7, transport := p.w 8, p2p := bitOf (p.w 9) 0, intervals := p.w 13 }
      let c : PtpCfg := { c0 with priority1 := p.w 10, priority2 := p.w 11, clockClass := p.w 12 }
      let t1 := (s.setWord F.TIME_SERVO_STEP_THRESH.addr (Word.of (p.w 1))).put F.TIME_RING_PORT_PREF (p.w 2)
      let t2 := ((t1.put F.TIME_ASYM_HA_ASYM (p.w 3)).put F.TIME_ASYM_HB_ASYM (p.w 4)).put (F.ETH_ASYM_ASYM 0) (p.w 5)
      let t3 := t2.put (F.ETH_ASYM_ASYM 1) (p.w 6)
      ({ t3 with time := { t3.time with ptp := c } }.timeSrcWrite (p.w 0)).done p stDONE)) ∧
  (∀ (p : Pkt) (ports : Nat) (s : State),
    s.accepts p opTimeRead [] →
    exec (.timeRead p ports) s = .next (s.doneRes p [s.now % 2 ^ 32, s.now / 2 ^ 32, (s.word (bTIME + 8)).toNat, s.get F.TIME_OFFSET_OFFSET,
      s.get F.TIME_LINK_HA_LINK_DELAY, s.get F.TIME_LINK_HB_LINK_DELAY, s.get F.TIME_RATE_RATE,
      s.ptpShown 0 (bits ports 7 0) + 256 * s.ptpShown 1 (bits ports 15 8)])) ∧
  (∀ (port : Nat) (ok : Bool) (stamp : Nat) (s : State), s.runs = true →
    (port < 2 && s.on F.SYS_ARM_OUTEN && s.on (F.ETH_CTRL_EN port) &&
      decide (s.get (F.ETH_TX_IDX_HEAD port) ≠ s.get (F.ETH_TX_IDX_TAIL port))) →
    exec (.ethFrameSent port ok stamp) s = .next (s.ethSent port ok stamp)) ∧
  (∀ (port len : Nat) (data : List Word) (bad : Bool) (stamp : Nat) (s : State), s.runs = true →
    (port < 2 && s.on F.SYS_ARM_OUTEN && s.on (F.ETH_CTRL_EN port) && s.ethTakes port data) →
    exec (.ethFrameRx port len data bad stamp) s = .next (s.ethRx port len data bad stamp)) ∧
  (∀ (port : Nat) (v : Word) (s : State),
    (port < 2) →
    exec (.ethMdioGo port v) s = .next (s.mdioWrite port v.toNat)) ∧
  (∀ (port data : Nat) (s : State), s.runs = true →
    (port < 2 && s.on (F.ETH_MDIO_GO port)) →
    exec (.ethMdioDone port data) s = .next (let s1 := s.put (F.ETH_MDIO_GO port) 0
    if s.on (F.ETH_MDIO_READ port) then s1.put (F.ETH_MDIO_DATA port) data else s1))

/-- Converter events: Triggers, results, FIFO reads, the reference, arming, calibration, AVDD and the time-out of a triggered
read complete with the state written out here. Covers ADC_SWTRIG_WRITE, ADC_RESULT, ADC_FIFO_READ, ADC_REF_WRITE, REF_SETTLED,
ADC_ARM_WRITE, CAL_GO, ADC_CAL_DONE, AVDD_LOW, AVDD_RETURN, ADC_READ_TIMEOUT. -/
def Obligations.AdcEventsComplete : Prop :=
  (∀ (v : Word) (s : State),
    exec (.adcSwtrigWrite v) s = .next (s.adcTriggers v.toNat 16)) ∧
  (∀ (c raw : Nat) (s : State), s.runs = true →
    (decide (c < 8) && (s.core c).running) →
    exec (.adcResult c raw) s = .next (s.adcResult c raw)) ∧
  (∀ (c : Nat) (s : State),
    (c < 8) →
    exec (.adcFifoRead c) s = .next (s.fifoRead c)) ∧
  (∀ (v : Word) (s : State),
    exec (.adcRefWrite v) s = .next (s.refWrite (bits v.toNat 1 0))) ∧
  (∀ (s : State), s.runs = true →
    (s.adc.settling && !s.sys.inReset) →
    exec .refSettled s = .next (let t := s.holdAllFlags
      { t.put F.ADC_BLK_STAT_REF_SETTLED 1 with adc := { t.adc with settling := false } })) ∧
  (∀ (c : Nat) (v : Word) (s : State),
    (c < 8) →
    exec (.adcArmWrite c v) s = .next (s.armWrite c (bitOf v.toNat 0))) ∧
  (∀ (c : Nat) (s : State),
    (c < 8) →
    exec (.calGo c) s = .next (s.calGo c)) ∧
  (∀ (c : Nat) (factors : Option (Nat × Nat × List Nat)) (s : State), s.runs = true →
    (decide (c < 8) && s.calBusy c && s.on F.ADC_BLK_STAT_REF_SETTLED) →
    exec (.adcCalDone c factors) s = .next (s.calDone c factors)) ∧
  (∀ (s0 : State),
    let s := { s0 with sys := { s0.sys with railHist := putBit s0.sys.railHist 3 true } }.holdAllFlags
    exec (.avddLow) s0 = .next ({ s.put F.ADC_BLK_STAT_REF_SETTLED 0 with adc := { s.adc with settling := false } })) ∧
  (∀ (s : State),
    ¬(s.on F.ADC_BLK_STAT_REF_SETTLED) →
    exec .avddReturn s = .next ({ s with adc := { s.adc with settling := true } })) ∧
  (∀ (p : Pkt) (s : State),
    (s.adc.readWait.any (fun w => w.pkt = p)) →
    exec (.adcReadTimeout p) s = .next ({ s with adc := { s.adc with readWait := s.adc.readWait.filter (fun w => w.pkt ≠ p) } }.done p stTIMEOUT))

/-- Converter opcodes: Every accepted packet of the converter group completes with its effect. Covers ADC_CONFIG, ADC_CALIBRATE,
ADC_SEQUENCE, ADC_READ. -/
def Obligations.AdcPacketsComplete : Prop :=
  (∀ (p : Pkt) (s : State),
    s.accepts p opAdcConfig [(adcConfigBad p, stBAD_PARAM), (s.adcConfigBusy p, stBUSY),
     ((List.range 8).any (fun c => cfgDisarms p c && s.adcArmed c && s.coreFeeds c), stLOOP_CLOSED)] →
    exec (.adcConfig p) s = .next (let t1 := (List.range 8).foldl (fun u c => if cfgDisarms p c then u.armWrite c false else u) s
      { t1 with adc := { t1.adc with cfgWait := t1.adc.cfgWait ++ [p] } }.cfgCheck)) ∧
  (∀ (p : Pkt) (s : State),
    let cs := (List.range 8).filter (fun c => bitOf (p.w 0) c)
    s.accepts p opAdcCalibrate [(decide (p.w 0 = 0) || outside (p.w 0) 0xFF, stBAD_PARAM), (cs.any (fun c => s.adcArmed c || s.calBusy c), stBUSY)] →
    exec (.adcCalibrate p) s = .next (let t1 := cs.foldl State.calStart (s.accept p)
      { t1 with adc := { t1.adc with calWait := t1.adc.calWait ++ [(p, p.w 0)] } })) ∧
  (∀ (p : Pkt) (s : State),
    let c := bits (p.w 0) 2 0
    s.accepts p opAdcSequence [(outside (p.w 0) 7 || decide (p.w 1 = 0) || decide (16 < p.w 1) ||
        (List.range 16).any (fun k => outside (p.w (k + 2)) 0xFFF3F), stBAD_PARAM),
     (s.keyPending bADC, stBUSY)] →
    exec (.adcSequence p) s = .next (let t1 := (List.range 17).foldl (fun u k =>
        u.setWord ((F.ADC_SEQ_CFG_LEN c).addr + 0x800 + 4 * k) (Word.of (p.w (k + 1)))) s
      let t2 := (t1.acqNow c).askCommit bADC c (some p)
      if (t2.core c).running then t2 else t2.commitAdc c t2.now)) ∧
  (∀ (p : Pkt) (s : State),
    let c := bits (p.w 0) 2 0
    let n := bits (p.w 0) 22 16
    let trig := bitOf (p.w 0) 9
    s.accepts p opAdcRead [(outside (p.w 0) 0x7F0307 || decide (n = 0) || decide (64 < n), stBAD_PARAM),
     (trig && !(s.on (F.ADC_CTRL_ARM c) && bitOf (s.get (F.ADC_CTRL_TRIG_EN c)) 0), stNOT_PERMITTED)] →
    exec (.adcRead p) s = .next (if trig then
        let t1 := s.acqNow c
        let e := adcEdge t1.time.tick
        let w : AdcWait := { pkt := p, core := c, lost := decide (t1.trigFate c e = .lost), started := (t1.core c).running && decide ((t1.core c).edge = e) }
        { t1 with adc := { t1.adc with readWait := t1.adc.readWait ++ [w] } }.adcTrigger c 16
      else s.answerRead p false))

/-- Loop engine events: A slot at the head of a pipeline is sampled; time-outs, the snapshot, the five slot requests and an
injector start complete with the state written out here. Covers SLOT_SAMPLE, FB_TMO_EXPIRY, SLOT_REQUEST_TIMEOUT,
SNAPSHOT_TICK, SLOT_REQ_OPEN, SLOT_REQ_CLOSE, SLOT_REQ_OBSERVER, SLOT_REQ_SAFE, SLOT_REQ_RELEASE, INJ_GO. -/
def Obligations.LoopEventsComplete : Prop :=
  (∀ (n late : Nat) (s : State), s.runs = true →
    s.loop.q0.head? = some n →
    exec (.slotSample n late) s = .next ({ s with loop := { s.loop with q0 := s.loop.q0.tail } }.sampleAll n late)) ∧
  (∀ (n late : Nat) (s : State), s.runs = true →
    s.loop.q0.head? ≠ some n → s.loop.q1.head? = some n →
    exec (.slotSample n late) s = .next ({ s with loop := { s.loop with q1 := s.loop.q1.tail } }.sampleAll n late)) ∧
  (∀ (n : Nat) (s : State), s.runs = true →
    (n < 512 && decide (s.tickSrc n = 0) && !s.waiting n) →
    exec (.fbTmoExpiry n) s = .next ((s.advanceTick (s.fbTmoAt n)).tickSlot n true)) ∧
  (∀ (n k : Nat) (r : SlotReq) (s : State), (s.slot n).reqs[k]? = some r →
    exec (.slotRequestTimeout n k) s = .next (
      let t := s.advanceTo r.tmo
      ((t.setSlot n { t.slot n with reqs := (t.slot n).reqs.eraseIdx k }).refreshPend n).answerReq n { r with cyc := none } stTIMEOUT)) ∧
  (∀ (s : State),
    let k := s.gridNext 20000 s.time.snapGrid
    let s1 := s.advanceTo (20000 * k)
    s.runs = true →
    ¬(s.ringRuns) →
    exec .snapshotTick s = .next (({ s1 with time := { s1.time with snapGrid := k + 1 } }).takeSnap)) ∧
  (∀ (n : Nat) (s : State), n < 512 → s.reqSafe n 1 = false → firstFail (s.reqChecks n 1) = none →
    exec (.slotReqOpen n) s = .next (s.queueReq n { kind := 1 })) ∧
  (∀ (n : Nat) (s : State), n < 512 → s.reqSafe n 2 = false → firstFail (s.reqChecks n 2) = none →
    exec (.slotReqClose n) s = .next (s.queueReq n { kind := 2 })) ∧
  (∀ (n : Nat) (s : State), n < 512 → s.reqSafe n 3 = false → firstFail (s.reqChecks n 3) = none →
    exec (.slotReqObserver n) s = .next (s.queueReq n { kind := 3 })) ∧
  (∀ (n : Nat) (s : State), n < 512 → s.slotSt n ≠ slIDLE → s.slotSt n ≠ slSAFE →
    exec (.slotReqSafe n) s = .next (s.safeNow n)) ∧
  (∀ (n : Nat) (s : State), n < 512 → s.reqSafe n 5 = false → firstFail (s.reqChecks n 5) = none →
    exec (.slotReqRelease n) s = .next (s.queueReq n { kind := 5 })) ∧
  (∀ (i : Nat) (s : State), i < 4 → s.on (F.INJ_BUSY i) = false → s.get (F.INJ_MODE i) = 1 ∨ s.get (F.INJ_MODE i) = 2 →
    s.injAllowed (s.get (F.INJ_SLOT i)) = true → s.injOf (s.get (F.INJ_SLOT i)) = none →
    (s.get (F.INJ_MODE i) = 1 → 0 < bits (s.get (F.INJ_INC i)) 10 0 ∧ bits (s.get (F.INJ_INC i)) 10 0 ≤ 1020) →
    exec (.injGo i) s = .next (s.startInj i {}))

/-- Loop opcodes: Every accepted packet of the loop group completes with its effect. Covers LOOP_CONFIG, LOOP_OPEN, LOOP_CLOSE,
LOOP_COEF_WRITE, LOOP_SETPOINT, LOOP_MANUAL, LOOP_READ, LOOP_OBSERVER, LOOP_SAFE, LOOP_SUPERVISE, LOOP_STEP, LOOP_SWEEP,
LOOP_RELEASE, LOOP_STICKY_CLEAR. -/
def Obligations.LoopPacketsComplete : Prop :=
  (∀ (p : Pkt) (s : State),
    let n := bits (p.w 0) 8 0
    let only := bitOf (p.w 0) 16
    s.accepts p opLoopConfig [(outside (p.w 0) 0x101FF || badLimits (sgn 32 (p.w 16)) (sgn 32 (p.w 17)) (sgn 32 (p.w 19)) ||
        (!only && s.configBad n (fun i => p.w (i + 1))), stBAD_PARAM),
     (!only && s.slotRuns n, stLOOP_CLOSED),
     (s.cmtPending bLOOP, stBUSY)] →
    exec (.loopConfig p) s = .next (let t0 := s.abortInj n 3
      let t1 := if only then t0 else
        (List.range 15).foldl (fun u i => u.setWord (0x21000000 + 0x100 * n + 4 * i) (Word.of (p.w (i + 1)))) t0
      let t2 := (t1.setSlot n { t1.slot n with used := true }).refreshModels
      let t3 := (((t2.put (F.LOOP_OUT_MIN n).staged (p.w 16)).put (F.LOOP_OUT_MAX n).staged (p.w 17)).put
        (F.LOOP_RATE_MAX n).staged (p.w 18)).put (F.LOOP_SAFE_VAL n).staged (p.w 19)
      (t3.askCommit bLOOP n (some p)).commitLoop n)) ∧
  (∀ (p : Pkt) (s : State),
    let n := bits (p.w 0) 8 0
    s.accepts p opLoopOpen ((s.reqSafe n 1, stSAFE_STATE) :: (outside (p.w 0) 0x101FF, stBAD_PARAM) :: s.reqChecks n 1) →
    exec (.loopOpen p) s = .next ((s.noteStart p).queueReq n { kind := 1, pkt := some p, manual := bitOf (p.w 0) 16 })) ∧
  (∀ (p : Pkt) (s : State),
    let n := bits (p.w 0) 8 0
    s.accepts p opLoopClose ((s.reqSafe n 2, stSAFE_STATE) :: (outside (p.w 0) 0x1FF, stBAD_PARAM) :: s.reqChecks n 2) →
    exec (.loopClose p) s = .next ((s.noteStart p).queueReq n { kind := 2, pkt := some p, manual := false })) ∧
  (∀ (p : Pkt) (s : State),
    let n := bits (p.w 0) 8 0
    let order := bitOf (p.w 1) 0
    s.accepts p opLoopCoefWrite [(outside (p.w 0) 0x1FF, stBAD_PARAM),
     (bits (p.w 1) 31 16 ≠ 1, stVERSION_MISMATCH),
     (decide (crc32cWords ((List.range 8).map (fun i => p.w (i + 1))) ≠ p.w 9), stBAD_PARAM),
     (bits (p.w 1) 15 1 ≠ 0 || (!order && (decide (p.w 5 ≠ 0) || decide (p.w 8 ≠ 0))), stBAD_PARAM),
     (s.slotRuns n, stLOOP_CLOSED)] →
    exec (.loopCoefWrite p) s = .next (let t0 := s.abortInj n 3
      let t1 := (List.range 7).foldl (fun u i => u.setWord (0x21000040 + 0x100 * n + 4 * i) (Word.of (p.w (i + 2)))) t0
      ((t1.put (F.SLOT_CFG0_ORDER n) (b2n order)).put (F.SLOT_COEF_CRC n) (p.w 9)).done p stDONE)) ∧
  (∀ (p : Pkt) (s : State),
    let n := bits (p.w 0) 8 0
    s.accepts p opLoopSetpoint [(outside (p.w 0) 0x1FF, stBAD_PARAM),
     (decide (1 < s.get (F.SLOT_CFG0_SP_SRC n)) || s.owned (6, n, 0), stNOT_PERMITTED)] →
    exec (.loopSetpoint p) s = .next (let t1 := s.put (F.SLOT_SP_REG n) (p.w 1)
      (if s.get (F.SLOT_CFG0_SP_SRC n) = 1 then t1.put (F.SLOT_RAMP_RATE n) (p.w 2) else t1).done p stDONE)) ∧
  (∀ (p : Pkt) (s : State),
    let n := bits (p.w 0) 8 0
    let v := sgn 32 (p.w 1)
    s.accepts p opLoopManual [(outside (p.w 0) 0x1FF || decide (v < (s.lim n).min) || decide ((s.lim n).max < v), stBAD_PARAM),
     (s.slotSt n ≠ slOPEN, stNOT_PERMITTED)] →
    exec (.loopManual p) s = .next (((s.puti (F.SLOT_MANUAL n) v).setSlot n
      { s.slot n with manualNext := some v, manualCyc := s.lash.appCyc.map Prod.fst }).done p stDONE)) ∧
  (∀ (p : Pkt) (s : State),
    s.accepts p opLoopRead [(outside (p.w 0) 0x1FF, stBAD_PARAM)] →
    exec (.loopRead p) s = .next (s.doneRes p (s.loopRead (bits (p.w 0) 8 0)))) ∧
  (∀ (p : Pkt) (s : State),
    let n := bits (p.w 0) 8 0
    let only := bitOf (p.w 0) 24
    let load := bitOf (p.w 0) 25
    let st := s.slotSt n
    s.accepts p opLoopObserver ([(outside (p.w 0) 0x31F01FF, stBAD_PARAM),
      (load && bits (p.w 1) 31 16 ≠ 1, stVERSION_MISMATCH),
      (load && (decide (crc32cWords ((List.range 98).map (fun i => p.w (i + 1))) ≠ p.w 99) || modelBad (p.w 1)), stBAD_PARAM)] ++
     s.observerChecks p ++
     [(!only && (s.slot n).reqs.isEmpty && (st ≠ slOPEN && st ≠ slCLOSED && st ≠ slOBSERVER), stNOT_PERMITTED),
      (!only && decide (4 ≤ (s.slot n).reqs.length), stQUEUE_FULL)]) →
    exec (.loopObserver p) s = .next (let t := s.noteStart p
      if only then (t.observerBind p).done p stDONE else t.queueReq n { kind := 3, pkt := some p })) ∧
  (∀ (p : Pkt) (s : State),
    let n := bits (p.w 0) 8 0
    s.accepts p opLoopSafe [(outside (p.w 0) 0x1FF, stBAD_PARAM), (s.slotSt n = slIDLE || s.slotSt n = slSAFE, stNOT_PERMITTED)] →
    exec (.loopSafe p) s = .next (let t := s.noteStart p
      match t.lash.appCyc with
      | some c => t.setSlot n { t.slot n with safeReqs := (t.slot n).safeReqs ++ [(c.1, c.2, p)] }
      | none => (t.safeNow n).done p stDONE)) ∧
  (∀ (p : Pkt) (s : State),
    let n := bits (p.w 0) 8 0
    s.accepts p opLoopSupervise [(outside (p.w 0) 0x1FF || superviseBad p, stBAD_PARAM), (s.slotRuns n, stLOOP_CLOSED)] →
    exec (.loopSupervise p) s = .next (let t0 := s.abortInj n 3
      let t1 := (List.range 10).foldl (fun u i => u.setWord (0x210000A0 + 0x100 * n + 4 * i) (Word.of (p.w (i + 1)))) t0
      (t1.refreshSv).done p stDONE)) ∧
  (∀ (p : Pkt) (i : Nat) (s : State),
    let n := bits (p.w 0) 8 0
    let stop := decide (p.w 1 = 0) && (s.injOf n).isSome
    s.accepts p opLoopStep [(outside (p.w 0) 0x1FF || outside (p.w 2) 0x302 || bits (p.w 2) 9 8 = 3 || (decide (p.w 4 = 0) || decide (1020 < p.w 4)), stBAD_PARAM),
     (!stop && !s.injAllowed n, stNOT_PERMITTED), (!stop && (s.freeInj.isNone || (s.injOf n).isSome), stBUSY)] →
    stop = false → s.freeInj = some i →
    exec (.loopStep p) s = .next (
      let t := (((((s.put (F.INJ_SLOT i) n).put (F.INJ_MODE i) 1).put (F.INJ_MEAS i) (bits (p.w 2) 9 8)).put (F.INJ_AT i)
        (bits (p.w 2) 1 1)).put (F.INJ_AMP i) (p.w 1)).accept p
      (((t.put (F.INJ_INC i) (bits (p.w 3) 31 16 * 2 ^ 16 + p.w 4)).put (F.INJ_COUNT i) (bits (p.w 3) 15 0)).put (F.INJ_SETTLE i) 0).startInj i
        { pkt := some p })) ∧
  (∀ (p : Pkt) (i : Nat) (s : State),
    let n := bits (p.w 0) 8 0
    let stop := decide (p.w 1 = 0) && (s.injOf n).isSome
    let badInc (x : Nat) : Bool := decide (x = 0) || decide (2 ^ 31 < x)
    let m := bits (p.w 5) 23 16
    let k := bits (p.w 5) 7 0
    s.accepts p opLoopSweep [(outside (p.w 0) 0x1FF || outside (p.w 2) 0x302 || bits (p.w 2) 9 8 = 3 || (badInc (p.w 3) || badInc (p.w 4) || decide (m = 0) || decide (k < 2) || outside (p.w 5) 0xFFFF00FF), stBAD_PARAM),
     (!stop && !s.injAllowed n, stNOT_PERMITTED), (!stop && (s.freeInj.isNone || (s.injOf n).isSome), stBUSY)] →
    stop = false → s.freeInj = some i →
    exec (.loopSweep p) s = .next (
      let t := (((((s.put (F.INJ_SLOT i) n).put (F.INJ_MODE i) 2).put (F.INJ_MEAS i) (bits (p.w 2) 9 8)).put (F.INJ_AT i)
        (bits (p.w 2) 1 1)).put (F.INJ_AMP i) (p.w 1)).accept p
      let inc := sweepInc (p.w 3) (p.w 4) k 0
      ((t.put (F.INJ_SETTLE i) (bits (p.w 5) 31 24)).startInj i
        { pkt := some p, point := 0, points := k, m := m, incStart := p.w 3, incStop := p.w 4 }).startPoint i inc (sweepCount m inc))) ∧
  (∀ (p : Pkt) (s : State),
    let n := bits (p.w 0) 8 0
    s.accepts p opLoopRelease ((outside (p.w 0) 0x1FF, stBAD_PARAM) :: s.reqChecks n 5) →
    exec (.loopRelease p) s = .next (((s.noteStart p).abortInj n 3).queueReq n { kind := 5, pkt := some p })) ∧
  (∀ (p : Pkt) (s : State),
    s.accepts p opLoopStickyClear [(outside (p.w 0) 0x1FF, stBAD_PARAM)] →
    exec (.loopStickyClear p) s = .next ((s.stickyClear (bits (p.w 0) 8 0) (p.w 1)).done p stDONE))

/-- Pulse-width events: A running generator takes its boundary and its sample point; enables, synchronous starts, LOADNOW, trip
clear, trip pins and a core that halts or resumes complete with the state written out here. Covers PWM_BOUNDARY,
PWM_SAMPLE_POINT, PWM_EN_WRITE, PWM_START_WRITE, LOADNOW, TRIP_CLR, TRIP_PIN_ASSERT, TRIP_PIN_DEASSERT, CORE_DEBUG_HALT,
CORE_DEBUG_RESUME. -/
def Obligations.PwmEventsComplete : Prop :=
  (∀ (g : Nat) (s : State), s.runs = true →
    (decide (g < 48) && s.genRuns g) →
    exec (.pwmBoundary g) s = .next ((s.advanceTick (s.dueTick g)).boundary g (s.dueTick g))) ∧
  (∀ (g : Nat) (s : State), s.runs = true →
    (decide (g < 48) && s.genRuns g && !(s.gen g).spGone) →
    exec (.pwmSamplePoint g) s = .next ((s.advanceTick (s.tickOf g (s.ticks g - s.get (F.PWM_LEAD_LEAD g)))).samplePoint g)) ∧
  (∀ (g : Nat) (b : Bool) (s : State),
    (g < 48) →
    exec (.pwmEnWrite g b) s = .next ((if b then s.startAt g else s.stopGen g))) ∧
  (∀ (k : Nat) (v : Word) (s : State),
    exec (.pwmStartWrite k v) s = .next (((List.range (if k = 0 then 32 else if k = 1 then 16 else 0)).filter (fun i => bitOf v.toNat i)).foldl
    (fun (t : State) i => t.startAt (32 * k + i)) s)) ∧
  (∀ (g : Nat) (s : State),
    (g < 48) →
    exec (.loadnow g) s = .next (s.setLoadnow g)) ∧
  (∀ (g : Nat) (s : State),
    (g < 48) →
    exec (.tripClr g) s = .next (s.tripClr g)) ∧
  (∀ (k samples : Nat) (s : State),
    (s.pinPasses k samples) →
    exec (.tripPinAssert k samples) s = .next ((s.tripPin k true).applyAllTrips)) ∧
  (∀ (k samples : Nat) (s : State),
    (s.pinPasses k samples) →
    exec (.tripPinDeassert k samples) s = .next (s.tripPin k false)) ∧
  (∀ (c : Nat) (s : State),
    (c < 8 && decide (s.get F.SEC_BLK_STAT_DBG_LEVEL ≠ 0)) →
    exec (.coreDebugHalt c) s = .next ({ s with pwm := { s.pwm with halted := putBit s.pwm.halted c true } }.applyAllTrips)) ∧
  (∀ (c : Nat) (s : State),
    (c < 8) →
    exec (.coreDebugResume c) s = .next ({ s with pwm := { s.pwm with halted := putBit s.pwm.halted c false } }))

/-- Pulse-width opcodes: Every accepted packet of the PWM opcodes completes with its effect. Covers PWM_CONFIG, PWM_DUTY,
PWM_TRIP_CLEAR, PWM_ENABLE. -/
def Obligations.PwmPacketsComplete : Prop :=
  (∀ (p : Pkt) (s : State), bitOf (p.w 0) 31 = true → s.accepts p opPwmConfig
      [(outside (p.w 0) 0x80000000 || (List.range 16).any (fun k => outside (p.w (k + 1)) 0x1FF), stBAD_PARAM),
       ((List.range 16).any (fun k =>
          decide ((s.word (F.PWM_TRIPPIN_POL k).addr).toNat ≠ p.w (k + 1)) && s.pinLocked k), stBUSY)] →
    exec (.pwmConfig p) s = .next (((List.range 16).foldl (fun u k => if u.pinLocked k then u else u.setTripPin k (p.w (k + 1))) s).done p stDONE)) ∧
  (∀ (p : Pkt) (s : State),
    let g := bits (p.w 0) 5 0
    bitOf (p.w 0) 31 = false → s.accepts p opPwmConfig
      [(pwmConfigBad p, stBAD_PARAM),
       (decide ((s.word (F.PWM_GRP_DBG_EN g).addr).toNat ≠ p.w 6) && s.grpLocked g, stNOT_PERMITTED),
       (s.keyPending bPWM, stBUSY)] →
    exec (.pwmConfig p) s = .next (s.pwmConfigGen p g)) ∧
  (∀ (p : Pkt) (s : State),
    let g := bits (p.w 0) 5 0
    let m := bits (p.w 0) 12 8
    let fs := [0, 1, 2, 3, 4].filter (fun f => bitOf m f)
    s.accepts p opPwmDuty [(decide (48 ≤ g) || outside (p.w 0) 0x11F3F || fs.any (fun f => outside (p.w (f + 1)) (dutyMask f)) ||
        (bitOf m 0 && decide (p.w 1 < 8)), stBAD_PARAM),
     ((bitOf m 1 && s.dutyOwned g 1) || (bitOf m 2 && s.dutyOwned g 2), stNOT_PERMITTED)] →
    exec (.pwmDuty p) s = .next (let t1 := fs.foldl (fun u f => u.shadowWrite g f (p.w (f + 1))) s
      let t2 := if bitOf (p.w 0) 16 then t1.setLoadnow g else t1
      t2.doneRes p [t2.get (F.PWM_SHDW_STAT_WRITTEN g)])) ∧
  (∀ (p : Pkt) (s : State),
    let g := bits (p.w 0) 5 0
    s.accepts p opPwmTripClear [(decide (48 ≤ g) || outside (p.w 0) 0x3F, stBAD_PARAM)] →
    exec (.pwmTripClear p) s = .next (if s.on (F.PWM_STAT_TRIPPED g) && s.tripActive g then (s.refuseClear g).done p stTRIP_ACTIVE
      else if s.on (F.PWM_STAT_TRIPPED g) then (s.clearTrip g).done p stDONE
      else s.done p stDONE)) ∧
  (∀ (p : Pkt) (s : State),
    let en := bitOf (p.w 0) 0
    let gs := (List.range 48).filter (fun g => bitOf (p.w 1 + 2 ^ 32 * p.w 2) g)
    let starts := gs.filter (fun g => !s.genRuns g)
    s.accepts p opPwmEnable [(en && starts.any (fun g => s.groupSafe (s.get (F.PWM_GRP_STO_GRP g))), stSAFE_STATE),
     (outside (p.w 0) 1 || outside (p.w 2) 0xFFFF, stBAD_PARAM),
     (en && starts.any (fun g => s.on (F.PWM_STAT_TRIPPED g)), stTRIP_ACTIVE),
     (!en && gs.any (fun g => s.genRuns g && s.dutyClosed g), stLOOP_CLOSED)] →
    exec (.pwmEnable p) s = .next (let t1 := gs.foldl (fun (u : State) g => if en then u.startAt g else u.stopGen g) s
      if en then t1.done p stDONE else t1.awaitStop p gs))

/-- General pins: Set and clear writes, an input change, a mismatch and the three GPIO opcodes complete with the state written
out here. Covers GPIO_SET_WRITE, GPIO_CLR_WRITE, GPIO_INPUT_CHANGE, OUT_MISMATCH, GPIO_CONFIG, GPIO_WRITE, GPIO_READ. -/
def Obligations.GpioCommandsComplete : Prop :=
  (∀ (k : Nat) (v : Word) (s : State),
    let f : Fld := ⟨F.GPIO_OUT0.addr + 4 * (k % 2), 31, 0⟩
    exec (.gpioSetWrite k v) s = .next (s.put f (Nat.lor (s.get f) v.toNat))) ∧
  (∀ (k : Nat) (v : Word) (s : State),
    let f : Fld := ⟨F.GPIO_OUT0.addr + 4 * (k % 2), 31, 0⟩
    exec (.gpioClrWrite k v) s = .next (s.put f (Nat.land (s.get f) (0xFFFFFFFF - v.toNat)))) ∧
  (∀ (n : Nat) (level : Bool) (samples : Nat) (s : State),
    (n < 64) →
    exec (.gpioInputChange n level samples) s = .next (let s1 := if n < 16 then (s.wakeSense (168 + n) level).wakeCheck else s
    if s.mirGpio n || decide (samples ≤ s.get (F.GPIO_CFG_FILT n)) then s1
    else (s1.gpioIn n level).mirInputIf
      (bitOf (s.get F.LASH_MIR_GPIO_LO + 2 ^ 32 * s.get F.LASH_MIR_GPIO_HI) n) (.gpio n level))) ∧
  (∀ (n : Nat) (s : State),
    (decide (n < 64) && s.on (F.GPIO_CFG_MISM_EN n) && s.pinDiffers n) →
    exec (.outMismatch n) s = .next ((s.put (bit64 F.GPIO_MISM0 n) 1).raise bGPIO 8)) ∧
  (∀ (p : Pkt) (s : State),
    let first := bits (p.w 0) 5 0
    let n := bits (p.w 0) 14 8
    let ix := List.range n
    s.accepts p opGpioConfig [(decide (64 < first + n) || decide (n = 0) || outside (p.w 0) 0x7F3F ||
        ix.any (fun i => outside (p.w (i + 1)) 0xFF003F87 || decide (5 ≤ bits (p.w (i + 1)) 2 0) ||
          decide (bits (p.w (i + 1)) 9 8 = 3)), stBAD_PARAM),
     (ix.any (fun i => s.funcLocked (first + i) (p.w (i + 1))), stNOT_PERMITTED)] →
    exec (.gpioConfig p) s = .next ((ix.foldl (fun u i => u.setWord (F.GPIO_CFG_FUNC (first + i)).addr (Word.of (p.w (i + 1)))) s).done p stDONE)) ∧
  (∀ (p : Pkt) (s : State),
    let m := p.w 1 + 2 ^ 32 * p.w 2
    s.accepts p opGpioWrite [((List.range 64).any (fun n => bitOf m n && (decide (s.gpioFunc n ≠ 1) || s.owned (5, n, 0))), stNOT_PERMITTED)] →
    exec (.gpioWrite p) s = .next (((s.gpioLevels 0 (p.w 1) (p.w 3)).gpioLevels 1 (p.w 2) (p.w 4)).done p stDONE)) ∧
  (∀ (p : Pkt) (s : State),
    s.accepts p opGpioRead [] →
    exec (.gpioRead p) s = .next (s.doneRes p [s.get F.GPIO_IN0, s.get F.GPIO_IN1, s.get F.GPIO_OUT0, s.get F.GPIO_OUT1,
      s.get F.GPIO_MISM0, s.get F.GPIO_MISM1]))

/-- Servo boundary and axis requests: While the ring does not run the servo boundary completes; an axis request that may be made
joins the axis queue and changes nothing else. Covers SERVO_BOUNDARY, AXIS_REQ_PUSH, AXIS_REQ_STOP, AXIS_REQ_QUICK_STOP,
AXIS_REQ_ENABLE, AXIS_REQ_DISABLE, AXIS_REQ_GEAR, AXIS_REQ_CAM, AXIS_REQ_TRIM. -/
def Obligations.AxisRequestsComplete : Prop :=
  (∀ (k : Nat) (s : State), s.runs = true →
    ¬(s.ringRuns || decide (20000 * k + 20000 ≤ s.now)) →
    exec (.servoBoundary k) s = .next (((s.advanceTo (20000 * k)).servoBoundaries k (20000 * k)).takeSnap)) ∧
  (∀ (n : Nat) (s : State), n < 96 →
    let r : AxReq := { code := 1, words := (List.range 8).map (fun i => s.get (F.AX_MOVE n i)) }
    ((s.ax n).reqs = [] → s.axReqStatus n r = stDONE) →
    exec (.axisReqPush n) s = .next (s.setAx n { s.ax n with reqs := (s.ax n).reqs ++ [{ r with tick := r.tick + s.time.tick }] })) ∧
  (∀ (n : Nat) (s : State), n < 96 →
    let r : AxReq := { code := 2, words := [] }
    ((s.ax n).reqs = [] → s.axReqStatus n r = stDONE) →
    exec (.axisReqStop n) s = .next (s.setAx n { s.ax n with reqs := (s.ax n).reqs ++ [{ r with tick := r.tick + s.time.tick }] })) ∧
  (∀ (n : Nat) (s : State), n < 96 →
    let r : AxReq := { code := 3, words := [] }
    ((s.ax n).reqs = [] → s.axReqStatus n r = stDONE) →
    exec (.axisReqQuickStop n) s = .next (s.setAx n { s.ax n with reqs := (s.ax n).reqs ++ [{ r with tick := r.tick + s.time.tick }] })) ∧
  (∀ (n : Nat) (s : State), n < 96 →
    let r : AxReq := { code := 4, words := [] }
    ((s.ax n).reqs = [] → s.axReqStatus n r = stDONE) →
    exec (.axisReqEnable n) s = .next (s.setAx n { s.ax n with reqs := (s.ax n).reqs ++ [{ r with tick := r.tick + s.time.tick }] })) ∧
  (∀ (n : Nat) (s : State), n < 96 →
    let r : AxReq := { code := 5, words := [] }
    ((s.ax n).reqs = [] → s.axReqStatus n r = stDONE) →
    exec (.axisReqDisable n) s = .next (s.setAx n { s.ax n with reqs := (s.ax n).reqs ++ [{ r with tick := r.tick + s.time.tick }] })) ∧
  (∀ (n : Nat) (s : State), n < 96 →
    let r : AxReq := { code := 6, words := [] }
    ((s.ax n).reqs = [] → s.axReqStatus n r = stDONE) →
    exec (.axisReqGear n) s = .next (s.setAx n { s.ax n with reqs := (s.ax n).reqs ++ [{ r with tick := r.tick + s.time.tick }] })) ∧
  (∀ (n : Nat) (s : State), n < 96 →
    let r : AxReq := { code := 7, words := [] }
    ((s.ax n).reqs = [] → s.axReqStatus n r = stDONE) →
    exec (.axisReqCam n) s = .next (s.setAx n { s.ax n with reqs := (s.ax n).reqs ++ [{ r with tick := r.tick + s.time.tick }] })) ∧
  (∀ (n : Nat) (s : State), n < 96 →
    let r : AxReq := { code := 8, words := [s.get (F.AX_TRIM_DELTA n)] }
    ((s.ax n).reqs = [] → s.axReqStatus n r = stDONE) →
    exec (.axisReqTrim n) s = .next (s.setAx n { s.ax n with reqs := (s.ax n).reqs ++ [{ r with tick := r.tick + s.time.tick }] }))

/-- Axis opcodes: Every accepted packet of the axis group completes with its effect; a request joins the axis queue and changes
nothing else. Covers AXIS_CONFIG, AXIS_MOVE, AXIS_STOP, AXIS_ENABLE, AXIS_GEAR, AXIS_CAM, CAM_TABLE_WRITE, AXIS_PHASE_TRIM,
AXIS_READ, AXIS_STEP_TABLE. -/
def Obligations.AxisPacketsComplete : Prop :=
  (∀ (p : Pkt) (s : State),
    let n := bits (p.w 0) 6 0
    let only := bitOf (p.w 0) 16
    let soft := if only then s.on (F.AX_CFG_SOFTLIM_EN n) else bitOf (p.w 1) 30
    let step := if only then s.on (F.AX_CFG_STEPPER n) else bitOf (p.w 1) 31
    s.accepts p opAxisConfig [(outside (p.w 0) 0x1007F || decide (96 ≤ n) || (!only && s.axWordsBad p n) || axSetBad soft step (fun i => p.w (9 + i)), stBAD_PARAM),
     (!only && s.axRuns n, stNOT_PERMITTED),
     (s.commits.any (fun c => c.base = bMOTION && c.pkt = none), stBUSY)] →
    exec (.axisConfig p) s = .next (s.axConfig p n)) ∧
  (∀ (p : Pkt) (s : State),
    let n := bits (p.w 0) 6 0
    let r : AxReq := { code := 1, words := pktWs p 1 8, pkt := some p }
    s.accepts p opAxisMove [(false, stSAFE_STATE), (outside (p.w 0) 0x7F || decide (96 ≤ n) || false, stBAD_PARAM)] →
    ((s.ax n).reqs = [] → (s.noteStart p).axReqStatus n r = stDONE) →
    exec (.axisMove p) s = .next (
      let t := s.noteStart p
      t.setAx n { t.ax n with reqs := (t.ax n).reqs ++ [{ r with tick := r.tick + t.time.tick }] })) ∧
  (∀ (p : Pkt) (s : State),
    let n := bits (p.w 0) 6 0
    let r : AxReq := { code := (if bitOf (p.w 1) 0 then 3 else 2), words := [], pkt := some p }
    s.accepts p opAxisStop [(false, stSAFE_STATE), (outside (p.w 0) 0x7F || decide (96 ≤ n) || outside (p.w 1) 1, stBAD_PARAM)] →
    ((s.ax n).reqs = [] → (s.noteStart p).axReqStatus n r = stDONE) →
    exec (.axisStop p) s = .next (
      let t := s.noteStart p
      t.setAx n { t.ax n with reqs := (t.ax n).reqs ++ [{ r with tick := r.tick + t.time.tick }] })) ∧
  (∀ (p : Pkt) (s : State),
    let n := bits (p.w 0) 6 0
    let r : AxReq := { code := (if bitOf (p.w 1) 0 then 4 else 5), words := [], pkt := some p }
    s.accepts p opAxisEnable [(s.enableUnsafe p, stSAFE_STATE), (outside (p.w 0) 0x7F || decide (96 ≤ n) || outside (p.w 1) 1, stBAD_PARAM)] →
    ((s.ax n).reqs = [] → (s.noteStart p).axReqStatus n r = stDONE) →
    exec (.axisEnable p) s = .next (
      let t := s.noteStart p
      t.setAx n { t.ax n with reqs := (t.ax n).reqs ++ [{ r with tick := r.tick + t.time.tick }] })) ∧
  (∀ (p : Pkt) (s : State),
    let n := bits (p.w 0) 6 0
    let r : AxReq := { code := 6, words := pktWs p 1 5, pkt := some p }
    s.accepts p opAxisGear [(false, stSAFE_STATE), (outside (p.w 0) 0x7F || decide (96 ≤ n) || false, stBAD_PARAM)] →
    ((s.ax n).reqs = [] → (s.noteStart p).axReqStatus n r = stDONE) →
    exec (.axisGear p) s = .next (
      let t := s.noteStart p
      t.setAx n { t.ax n with reqs := (t.ax n).reqs ++ [{ r with tick := r.tick + t.time.tick }] })) ∧
  (∀ (p : Pkt) (s : State),
    let n := bits (p.w 0) 6 0
    let r : AxReq := { code := 7, words := pktWs p 1 5, pkt := some p }
    s.accepts p opAxisCam [(false, stSAFE_STATE), (outside (p.w 0) 0x7F || decide (96 ≤ n) || false, stBAD_PARAM)] →
    ((s.ax n).reqs = [] → (s.noteStart p).axReqStatus n r = stDONE) →
    exec (.axisCam p) s = .next (
      let t := s.noteStart p
      t.setAx n { t.ax n with reqs := (t.ax n).reqs ++ [{ r with tick := r.tick + t.time.tick }] })) ∧
  (∀ (p : Pkt) (s : State),
    let t := bits (p.w 0) 4 0
    let first := bits (p.w 1) 11 0
    let n := p.w 2
    s.accepts p opCamTableWrite [(outside (p.w 0) 0x1F || outside (p.w 1) 0xFFF || n = 0 || decide (510 < n) || decide (4096 < first + n), stBAD_PARAM),
     (s.camUsed t, stNOT_PERMITTED)] →
    exec (.camTableWrite p) s = .next (((List.range (2 * n)).foldl (fun v i =>
      v.setWord ((F.CAM_PT t first).addr + 4 * i) (Word.of (p.w (3 + i)))) s).done p stDONE)) ∧
  (∀ (p : Pkt) (s : State),
    let n := bits (p.w 0) 6 0
    let r : AxReq := { code := 8, words := pktWs p 1 1, pkt := some p }
    s.accepts p opAxisPhaseTrim [(false, stSAFE_STATE), (outside (p.w 0) 0x7F || decide (96 ≤ n) || false, stBAD_PARAM)] →
    ((s.ax n).reqs = [] → (s.noteStart p).axReqStatus n r = stDONE) →
    exec (.axisPhaseTrim p) s = .next (
      let t := s.noteStart p
      t.setAx n { t.ax n with reqs := (t.ax n).reqs ++ [{ r with tick := r.tick + t.time.tick }] })) ∧
  (∀ (p : Pkt) (s : State),
    let n := bits (p.w 0) 6 0
    s.accepts p opAxisRead [(outside (p.w 0) 0x7F || decide (96 ≤ n), stBAD_PARAM)] →
    exec (.axisRead p) s = .next (s.doneRes p ([(s.word (F.AX_STATE n).addr).toNat, s.get (F.AX_STICKY n)] ++ s.pairWords (F.AX_POS_LO n) ++
      s.pairWords (F.AX_VEL_LO n) ++ s.pairWords (F.AX_ACT_LO n) ++
      [s.get (F.AX_FE n), s.get (F.AX_TRIM_LEFT n), s.get (F.AX_MOVES_DONE n), 0]))) ∧
  (∀ (p : Pkt) (s : State),
    let wave := bitOf (p.w 0) 16
    let k := bits (p.w 0) 3 0
    s.accepts p opAxisStepTable [(outside (p.w 0) 0x1000F || (wave && (List.range 257).any (fun i => bitOf (p.w (i + 1)) 31)), stBAD_PARAM),
     (if wave then s.anyStepper else s.stepTabUsed k, stBUSY)] →
    exec (.axisStepTable p) s = .next ((if wave then (List.range 257).foldl (fun u i => u.setWord (F.MS_TAB i).addr (Word.of (p.w (i + 1)))) s
      else (List.range 10).foldl (fun u i => u.setWord ((F.SPD_UP k 0).addr + 4 * i) (Word.of (p.w (i + 1)))) s).done p stDONE))

/-- Encoders: Edges, index, a finished SSI transfer, error clearing and the two encoder opcodes complete with the state written
out here. Covers ENC_EDGE, ENC_INDEX, SSI_TRANSFER_DONE, ENC_ERR_CLR, ENC_ERR_HOLD_EXPIRY, ENC_CONFIG, ENC_READ. -/
def Obligations.EncoderCommandsComplete : Prop :=
  (∀ (n : Nat) (a b : Bool) (samples : Nat) (s : State), s.runs = true →
    (decide (n < 16) && !s.mirEnc n && s.encPasses n samples) →
    exec (.encEdge n a b samples) s = .next ((s.encEdge n a b).mirEncOut s n)) ∧
  (∀ (n : Nat) (level : Bool) (samples : Nat) (s : State), s.runs = true →
    (decide (n < 16) && !s.mirEnc n && s.encPasses n samples) →
    exec (.encIndex n level samples) s = .next ((s.encZ n level).mirEncOut s n)) ∧
  (∀ (n raw : Nat) (lineLow : Bool) (s : State), s.runs = true →
    (decide (n < 16) && s.on (F.ENC_EN n) && s.get (F.ENC_MODE n) = mdSSI && s.on (F.ENC_BUSY n) && (s.encI n).tmEnd = none) →
    exec (.ssiTransferDone n raw lineLow) s = .next ((if s.mirEnc n then s.ssiPause n else s.ssiDone n raw lineLow))) ∧
  (∀ (n : Nat) (s : State),
    (n < 16) →
    exec (.encErrClr n) s = .next ((s.encErrClear n).mirEncOut s n)) ∧
  (∀ (n : Nat) (s : State), s.runs = true →
    (decide (n < 16) && !s.mirEnc n && s.on (F.ENC_ERR n) && decide (s.get (F.ENC_ERR_HOLD n) ≠ 0)) →
    exec (.encErrHoldExpiry n) s = .next (let t := s.advanceTo ((s.encI n).errAt + 10000 * s.get (F.ENC_ERR_HOLD n))
      (t.encErrClear n).mirEncOut t n)) ∧
  (∀ (p : Pkt) (s : State),
    let n := bits (p.w 0) 3 0
    let stays := s.on (F.ENC_EN n) && bitOf (p.w 1) 31
    let clears := s.on (F.ENC_EN n) && !bitOf (p.w 1) 31
    let changes := decide (Nat.land (s.word (F.ENC_EN n).addr).toNat encCfgLock ≠ Nat.land (p.w 1) encCfgLock) ||
    decide ((s.word (F.ENC_SSI_HALF n).addr).toNat ≠ p.w 2) || decide ((s.word (F.ENC_MAXJUMP n).addr).toNat ≠ p.w 3)
    s.accepts p opEncConfig [(encConfigBad p, stBAD_PARAM), (stays && (changes || bitOf (p.w 0) 16), stNOT_PERMITTED),
     (clears && s.encFeeds n, stLOOP_CLOSED), (clears && s.encOnAxis n, stBUSY)] →
    exec (.encConfig p) s = .next (s.encConfig p n)) ∧
  (∀ (p : Pkt) (s : State),
    let n := bits (p.w 0) 3 0
    s.accepts p opEncRead [(outside (p.w 0) 0xF, stBAD_PARAM)] →
    exec (.encRead p) s = .next (let t := s.encBusyNow n
      t.doneRes p ([(t.word (F.ENC_EN n).addr).toNat, (t.word (F.ENC_ERR n).addr).toNat] ++ t.pairWords (F.ENC_POS_LO n) ++
        t.pairWords (F.ENC_LATCH_LO n) ++ t.pairWords (F.ENC_ZPOS_LO n) ++ t.pairWords (F.ENC_LTS_LO n))))

/-- Ring cycle and frames: Cycle start, segment latch, the frames sent and received and the end of extraction complete with the
state written out here. Covers RING_CYCLE_START, SEGMENT_LATCH, REFERENCE_FRAME_TX, BIGHT_FRAME_TX, REFERENCE_FRAME_RX,
SEGMENT_RX, EXTRACTION_END, FRAME_FORWARD, MESSAGE_FRAME_TX, MESSAGE_FRAME_RX. -/
def Obligations.RingCycleCommandsComplete : Prop :=
  (∀ (s : State), s.runs = true →
    s.ringRuns = true → s.ringOpen.ringRuns = true →
    exec .ringCycleStart s = .next (
      let t := s.ringOpen
      let k := t.get F.RING_CYCLE_NUM
      (((t.mirRun k).cycleDrive k).takeDigest k t.slotRecs).bringUp k)) ∧
  (∀ (s : State), s.runs = true →
    (s.ringRuns) →
    exec .segmentLatch s = .next (s.lashLatch.segmentLatch)) ∧
  (∀ (s : State), s.runs = true →
    (s.timeMaster) →
    exec .referenceFrameTx s = .next (s.sendRef 0)) ∧
  (∀ (sc : Sched) (s : State), s.runs = true →
    s.curSched = some sc → s.timeMaster = true →
    exec .bightFrameTx s = .next (
      let t := s.answerAll sc
      t.putOut (t.upPorts.map (fun p => (p, toBytes (t.bightFrame sc p)))))) ∧
  (∀ (port : Nat) (ws : List Word) (stamp : Nat) (s : State),
    let f := ws.map (fun w => w.toNat)
    s.runs = true →
    s.ringSt ≠ rsDOWN → port < 2 → f.length = 16 → crcKind f = 0 → iw f 0 / 2 ^ 16 = 64 → iw f 0 % 256 = 1 → s.on (wrapBit port) = false →
    (s.timeMaster = true → iw f 6 + 2 ^ 32 * iw f 7 = s.otp.uid →
      exec (.referenceFrameRx port ws stamp) s = .next (s.masterRef port f stamp)) ∧
    (s.timeMaster = true → iw f 6 + 2 ^ 32 * iw f 7 ≠ s.otp.uid →
      exec (.referenceFrameRx port ws stamp) s = .next ((s.noteRef port f stamp).linkExchange port f stamp)) ∧
    (s.timeMaster = false → (s.guardian port f 64 stamp).isSome = true →
      exec (.referenceFrameRx port ws stamp) s = .next (s.noteMaster f)) ∧
    (s.timeMaster = false → (s.guardian port f 64 stamp).isSome = false →
      exec (.referenceFrameRx port ws stamp) s = .next (s.stationRef port f stamp))) ∧
  (∀ (port seg id len : Nat) (ws : List Word) (s : State) (sc : Sched) (n a kind owner x y : Nat),
    let l := ws.map (fun w => w.toNat)
    s.runs = true →
    s.curSched = some sc → sc.seg? seg = some (n, a, kind, owner, x, y) → port < 2 → s.on (wrapBit port) = false → s.ringRuns = true →
    id = sc.id → len = sc.bightLen → ws.length = n + 2 →
    exec (.segmentRx port seg id len ws) s = .next (
      let ok := decide (crcKind l = 0)
      let s1 := if ok then s else (s.incSat (F.RPORT_SEG_CRC_ERR port)).raise bRING 8
      if s1.writesOwner sc owner then s1.passOwned sc seg n kind else s1.readCopy sc port seg kind owner ok l)) ∧
  (∀ (s : State), s.runs = true →
    (s.ringRuns && s.curSched.isSome && !s.ring.ended) →
    exec .extractionEnd s = .next (s.extractionEnd)) ∧
  (∀ (port len : Nat) (ws : List Word) (t0 : Nat) (s : State), s.runs = true →
    ¬(s.ringSt = rsDOWN || decide (2 ≤ port) || decide (len < 4) || s.on (wrapBit port)) →
    exec (.frameForward port len ws t0) s = .next (s.forwardFrame port (frameBytes ws len) t0)) ∧
  (∀ (slot : Nat) (s : State) (i owner a b : Nat), s.runs = true →
    s.slotTable[slot]? = some (i, owner, a, b) →
    (s.ringSt = rsBOOTSTRAP ∧ s.timeMaster = true) ∨ (s.ringSt = rsOPERATIONAL ∧ owner = s.ownNodeNo) →
    s.on F.RING_CTRL_ACY_TX_EN = true → s.ring.noMsg = false →
    exec (.messageFrameTx slot) s = .next (s.slotTx slot a b)) ∧
  (∀ (port len : Nat) (ws : List Word) (stamp : Nat) (s : State),
    let b := frameBytes ws len
    s.runs = true →
    s.ringRuns = true → port < 2 → s.on (wrapBit port) = false → s.messageOk port b stamp = true →
    exec (.messageFrameRx port len ws stamp) s = .next (s.messageRx b (stamp / 16)))

/-- Ring control, claim and faults: The ring control write, claim frames, claim and reference time-outs, takeover, link changes
and absence of a node complete with the state written out here. Covers RING_RUN_WRITE, CLAIM_FRAME_RX, CLAIM_TIMEOUT,
REF_LOSS_TIMEOUT, MASTER_TAKEOVER, RING_LINK_DOWN, RING_LINK_UP, TURN_BACK_STOP, NODE_ABSENT. -/
def Obligations.RingMasterCommandsComplete : Prop :=
  (∀ (v : Word) (s : State),
    exec (.ringRunWrite v) s = .next (s.ringCtrl v.toNat)) ∧
  (∀ (port : Nat) (ws : List Word) (s : State),
    let f := ws.map (fun w => w.toNat)
    s.runs = true →
    s.ringSt = rsCLAIM → port < 2 → f.length = 8 → crcKind f = 0 → iw f 0 / 2 ^ 16 = 32 → iw f 0 % 256 = 4 → s.on (wrapBit port) = false →
    exec (.claimFrameRx port ws) s = .next (
      if s.candidate && iw f 2 + 2 ^ 32 * iw f 3 = s.otp.uid then s.claimBack (bits (iw f 0) 8 8) (iw f 5 % 256)
      else s.claimOther port (bits (iw f 1) 19 16) (iw f 2 + 2 ^ 32 * iw f 3) f)) ∧
  (∀ (s : State), s.runs = true →
    (s.ringSt = rsCLAIM && s.candidate && !s.on F.RING_WITHDRAWN) →
    exec .claimTimeout s = .next ((s.put F.RING_RETURNS 0).nextClaim)) ∧
  (∀ (s : State), s.runs = true →
    (s.ringRuns && !s.timeMaster && decide (256 ≤ s.ring.refMiss)) →
    exec .refLossTimeout s = .next ((s.put F.RING_STAT_ROLE 0).enterClaim)) ∧
  (∀ (s : State), s.runs = true →
    (s.ringSt = rsOPERATIONAL && !s.timeMaster && s.candidate && !s.ring.refHA && !s.ring.refHB) →
    exec .masterTakeover s = .next (let t := s.tMiss
    let s1 := s.advanceTo (s.get64 F.RING_CYC_START_LO + (t + 159) / 160)
    let s2 := { s1 with ring := { s1.ring with noMsg := true, blks := [] } }.becomeMaster
    ((s2.incSat F.RING_TAKEOVER).ringRec 1 0).sendRef (t / 10))) ∧
  (∀ (port : Nat) (s : State),
    (port < 2 && s.on (linkBit port)) →
    exec (.ringLinkDown port) s = .next (s.linkDown port)) ∧
  (∀ (port : Nat) (h1 : Bool) (s : State),
    (decide (port < 2) && !s.on (linkBit port) && s.on (portEn port) && s.on (sdsLock (if s.h1 then 1 else 0)) && !s.sys.inReset) →
    exec (.ringLinkUp port h1) s = .next ((if h1 = s.h1 then s.linkUp port else s.incSat (F.RPORT_PCS_ERR port)))) ∧
  (∀ (port : Nat) (s : State),
    let up := tabGet 0 s.ring.upSince port
    s.runs = true →
    (port < 2 && s.on (wrapBit port) && s.get F.RING_CYCLE_NUM % 4096 = 0 && up ≠ 0 && decide (up - 1 + 1000000 ≤ s.now)) →
    exec (.turnBackStop port) s = .next (let s1 := s.put (wrapBit port) 0
    { s1 with ring := { s1.ring with resumed := putBit s1.ring.resumed port true } })) ∧
  (∀ (n : Nat) (s : State), s.runs = true →
    ((s.nodeI n).present && decide (s.ringWdog ≤ (s.nodeI n).since)) →
    exec (.nodeAbsent n) s = .next ((s.setNode n { s.nodeI n with present := false }).disarm n))

/-- Ring opcodes: Every accepted packet of the ring group completes with its effect. Covers RING_SCHEDULE_LOAD, RING_START,
RING_STOP, RING_STATUS, RING_COUNTERS, RING_STATION, RING_MASTER_RANK. -/
def Obligations.RingPacketsComplete : Prop :=
  (∀ (p : Pkt) (s : State),
    s.accepts p opRingScheduleLoad [(outside (p.w 0) 0xE0000000 || outside (p.w 1) 0x3FFFC, stBAD_PARAM)] →
    exec (.ringScheduleLoad p) s = .next (match s.loadChunk p with
      | none => (s.setChunk []).done p stBAD_PARAM
      | some img =>
        if 65536 < img.length then s.done p stBAD_PARAM
        else if bitOf (p.w 0) 31 then s.loadLast p img else (s.setChunk img).done p stDONE)) ∧
  (∀ (p : Pkt) (s : State),
    s.accepts p opRingStart [(outside (p.w 0) 0xE, stBAD_PARAM),
     (s.on F.RING_CTRL_RUN || !(s.stage = STAGE_RING_JOIN || s.stage = STAGE_OPERATIONAL), stNOT_PERMITTED)] →
    exec (.ringStart p) s = .next ((s.ringCtrl (Nat.land (s.word F.RING_CTRL_RUN.addr).toNat 0xF10 + Nat.land (p.w 0) 0xE + 1)).done p stDONE)) ∧
  (∀ (p : Pkt) (s : State),
    s.accepts p opRingStop [(outside (p.w 0) 1, stBAD_PARAM), (!bitOf (p.w 0) 0 && s.ringFeedsLoop, stLOOP_CLOSED)] →
    exec (.ringStop p) s = .next ((if s.on F.RING_CTRL_RUN then s.ringStop else s).done p stDONE)) ∧
  (∀ (p : Pkt) (s : State),
    s.accepts p opRingStatus [] →
    exec (.ringStatus p) s = .next (s.doneRes p (s.getWords (bRING + 0x64) 3 ++ [(s.word (bRING + 0xAC)).toNat] ++ s.getWords (bRING + 0xC8) 2 ++
      [(s.word (bRING + 0xA8)).toNat, s.get F.RING_RX_VER] ++ s.getWords (bRING + 0x98) 4 ++ [s.get F.TIME_OFFSET_OFFSET, s.schedId]))) ∧
  (∀ (p : Pkt) (s : State),
    s.accepts p opRingCounters [] →
    exec (.ringCounters p) s = .next (s.doneRes p (s.getWords (bRING + 0x100) 8 ++ s.getWords (bRING + 0x140) 8 ++ s.getWords (bRING + 0x180) 8))) ∧
  (∀ (p : Pkt) (s : State),
    let row := s.bankSched.bind (fun sc => (sc.nodes.find? (fun e => e.2.2 = p.w 0)).map (fun e => (sc, e)))
    s.accepts p opRingStation [(outside (p.w 0) 0x7F || row.isNone, stBAD_PARAM)] →
    exec (.ringStation p) s = .next (match row with
      | some (sc, uid, rank, n) => s.doneRes p (s.stationResult sc uid rank n)
      | none => s)) ∧
  (∀ (p : Pkt) (s : State),
    s.accepts p opRingMasterRank [(outside (p.w 0) 0xF || (decide (4 ≤ p.w 0) && decide (p.w 0 ≤ 14)), stBAD_PARAM), (s.on F.RING_CTRL_RUN, stNOT_PERMITTED)] →
    exec (.ringMasterRank p) s = .next (let t1 := s.put F.RING_CTRL_RANK (p.w 0)
      ({ t1 with mram := { t1.mram with rank := some (p.w 0) } }).done p stDONE))

/-- Task scheduler: On cores 0-7 every operation of the scheduler completes; a dispatch or prefetch read that finds a task
switches to it; event lines, time-outs and a queue-memory error complete with the state written out here. Covers CREATE,
SIGNAL, WAIT, YIELD, SLEEP, EXIT, SCHED_DISP_READ, SCHED_PF_READ, SCHED_EVENT_LINE, SCHED_TIMEOUT, SCHED_SLEEP_EXPIRY,
QMEM_UE. -/
def Obligations.SchedulerCommandsComplete : Prop :=
  (∀ (c : Nat) (arg0 : Word) (s : State), c < 8 →
    exec (.create c arg0) s = .next ((s.setWord (F.SCHEDC_ARG0 c).addr arg0).schedAt (fun t => t.opCreate c arg0.toNat))) ∧
  (∀ (c : Nat) (arg0 arg1 : Word) (s : State), c < 8 →
    exec (.signal c arg0 arg1) s = .next ((s.schedArgs c arg0 arg1).schedAt (fun t => t.opSignal c arg0.toNat arg1.toNat))) ∧
  (∀ (c : Nat) (arg0 arg1 : Word) (nowait forever : Bool) (s : State), c < 8 →
    exec (.wait c arg0 arg1 nowait forever) s =
      .next ((s.schedArgs c arg0 arg1).schedAt (fun t => t.opWait c arg0.toNat arg1.toNat nowait forever))) ∧
  (∀ (c : Nat) (s : State), c < 8 → exec (.yield c) s = .next (s.schedAt (fun t => t.opYield c))) ∧
  (∀ (c : Nat) (arg1 : Word) (forever : Bool) (s : State), c < 8 →
    exec (.sleep c arg1 forever) s =
      .next ((s.setWord (F.SCHEDC_ARG1 c).addr arg1).schedAt (fun t => t.opSleep c arg1.toNat forever))) ∧
  (∀ (c : Nat) (s : State), c < 8 → exec (.exit c) s = .next (s.schedAt (fun t => t.opExit c))) ∧
  (∀ (c t : Nat) (s : State), c < 8 → s.choice c = some t →
    exec (.schedDispRead c) s = .next (
      ({ s with answer := (s.word (F.SCHEDC_DISP_TASK c).addr).toNat }.setWord (F.SCHEDC_DISP_TASK c).addr 0).switchTo c t)) ∧
  (∀ (c t : Nat) (s : State), c < 8 → s.on F.SCHED_BLK_CTRL_PREFETCH = true → s.headFor c = some t →
    exec (.schedPfRead c) s = .next (({ s with answer := s.pfWord c }.dequeue t).switchTo c t)) ∧
  (∀ (e : Nat) (s : State), s.runs = true →
    exec (.schedEventLine e) s = .next (s.schedAt (fun t => t.eventLine e))) ∧
  (∀ (t d : Nat) (s : State), s.runs = true →
    (s.task t).st = .waiting → (s.task t).deadline = some d →
    exec (.schedTimeout t) s = .next ((s.advanceTo d).schedAt id)) ∧
  (∀ (t d : Nat) (s : State), s.runs = true →
    (s.task t).st = .sleeping → (s.task t).deadline = some d →
    exec (.schedSleepExpiry t) s = .next ((s.advanceTo d).schedAt id)) ∧
  (∀ (offset : Nat) (s : State),
    ¬(s.on F.SCHED_BLK_STAT_FALLBACK) →
    exec (.qmemUe offset) s = .next ((((({ s with sched := { s.sched with levels := [] } }.put F.SCHED_BLK_STAT_FALLBACK 1).raise bSCHED 8).post
      0x0310 0 offset 0).lifeInc 0x18).refreshPf))

/-- Program events: Release and transfer points, a task commit, a change that times out and a verified image complete with the
state written out here. Covers RELEASE_POINT, TASK_COMMIT, TRANSFER_POINT, PROG_CHANGE_TIMEOUT, PROG_IMAGE_VERIFIED. -/
def Obligations.ProgramEventsComplete : Prop :=
  (∀ (late : List Nat) (s : State),
    let k := s.gridNext 20000 s.time.relGrid
    let s1 := s.advanceTo (20000 * k)
    s.runs = true →
    exec (.releasePoint late) s = .next (if !s.ringRuns then (({ s1 with time := { s1.time with relGrid := k + 1 } }).eventLine 8).releasePoint late
    else if s.ring.ended && !s.ring.released then { s with ring := { s.ring with released := true } }.releasePoint late
    else s)) ∧
  (∀ (t : Nat) (outs : List Word) (rearm us : Nat) (s : State), s.runs = true →
    ((s.pt t).executing) →
    exec (.taskCommit t outs rearm us) s = .next (s.taskCommit t (outs.map (fun w => w.toNat)) (rearm % 2 ^ 128) us)) ∧
  (∀ (late : List Nat) (s : State), s.runs = true →
    (s.nextXfer ≤ s.prog.points + s.xferAhead) →
    exec (.transferPoint late) s = .next (s.transferPoint late)) ∧
  (∀ (s : State),
    (s.prog.change.isSome) →
    exec .progChangeTimeout s = .next ((s.advanceTo s.prog.changeBy).changeOver)) ∧
  (∀ (p : Pkt) (ws : List Nat) (r : List (Pkt × List Nat)) (s : State), s.prog.loads = (p, ws) :: r →
    exec .progImageVerified s = .next (s.progLoaded p ws))

/-- Program opcodes: Every accepted packet of the program group completes with its effect. Covers PROG_LOAD, PROG_RUN,
PROG_FORCE, PROG_RELEASE, PROG_CHANGE, PROG_READ_VAR, PROG_WRITE_VAR, PROG_STATUS, PROG_RE_ARM. -/
def Obligations.ProgramPacketsComplete : Prop :=
  (∀ (p : Pkt) (s : State),
    let off := p.w 1
    let data := (p.params.drop 2).map (fun w => w.toNat)
    s.accepts p opProgLoad [(outside (p.w 0) 0x80000000 || !(off = 0 || off = 4 * s.prog.chunk.length), stBAD_PARAM),
     (s.prog.st = pgCHANGING, stBUSY)] →
    exec (.progLoad p) s = .next (let ws := if off = 0 then data else s.prog.chunk ++ data
      if bitOf (p.w 0) 31 then (s.progI (fun q => { q with chunk := [], spare := none, loads := q.loads ++ [(p, ws)] })).secBusy.accept p
      else (s.progI (fun q => { q with chunk := ws, spare := none })).done p stDONE)) ∧
  (∀ (p : Pkt) (s : State),
    let run := bitOf (p.w 0) 0
    s.accepts p opProgRun [(outside (p.w 0) 7 || (run && s.stnsBad (s.prog.active.getD {})), stBAD_PARAM),
     (s.prog.st = pgEMPTY, stNOT_PERMITTED)] →
    exec (.progRun p) s = .next (if run then s.progStart p (bitOf (p.w 0) 2)
      else if s.progRuns then (s.progStop (bitOf (p.w 0) 1)).done p stDONE
      else (s.progI (fun q => { q with zero := q.zero || bitOf (p.w 0) 1 })).done p stDONE)) ∧
  (∀ (p : Pkt) (s : State),
    let n := bits (p.w 0) 6 0
    let ids := (List.range n).map (fun i => p.w (1 + 4 * i))
    let bad := (List.range n).any (fun i => match s.progVar? (p.w (1 + 4 * i)) with
    | some v => decide (v.ty ≠ p.w (2 + 4 * i))
    | none => true)
    s.accepts p opProgForce [(outside (p.w 0) 0x7F || n = 0 || decide (64 < n) || bad, stBAD_PARAM), (decide (1024 < s.forceCount ids), stQUEUE_FULL),
     (ids.any s.forceClash, stFORCES_PRESENT)] →
    exec (.progForce p) s = .next ((s.noteStart p).waitRelease p)) ∧
  (∀ (p : Pkt) (s : State),
    s.accepts p opProgRelease [(outside (p.w 0) 0x8000007F || decide (64 < bits (p.w 0) 6 0), stBAD_PARAM)] →
    exec (.progRelease p) s = .next ((s.noteStart p).waitRelease p)) ∧
  (∀ (p : Pkt) (s : State),
    let rel := bitOf (p.w 0) 0
    s.accepts p opProgChange [(outside (p.w 0) 1 || s.stnsBad (s.prog.spare.getD {}), stBAD_PARAM),
     (s.prog.st = pgEMPTY || s.prog.spare.isNone, stNOT_PERMITTED), (s.prog.st = pgCHANGING, stBUSY),
     (!rel && s.forcesAffected, stFORCES_PRESENT)] →
    exec (.progChange p) s = .next (let t1 := s.accept p
      if s.prog.st = pgSTOPPED then t1.swapBanks.done p stDONE
      else
        let ms := if p.w 1 = 0 then 100 else p.w 1
        t1.progI (fun q => { q with st := pgCHANGING, change := some (p, rel, 2), changeBy := s.now + 1000000 * ms }))) ∧
  (∀ (p : Pkt) (s : State),
    let n := bits (p.w 0) 6 0
    s.accepts p opProgReadVar [(outside (p.w 0) 0x7F || n = 0 || decide (64 < n) || (List.range n).any (fun i => (s.progVar? (p.w (1 + i))).isNone), stBAD_PARAM)] →
    exec (.progReadVar p) s = .next ((s.noteStart p).waitRelease p)) ∧
  (∀ (p : Pkt) (s : State),
    let n := bits (p.w 0) 6 0
    let ids := (List.range n).map (fun i => p.w (1 + 3 * i))
    let forced := s.prog.forces.map (fun f => f.varId) ++ s.comingForces.map (fun e => e.1)
    s.accepts p opProgWriteVar [(outside (p.w 0) 0x7F || n = 0 || decide (64 < n) || ids.any (fun i => match s.progVar? i with
        | some v => decide (v.kind = 0)
        | none => true), stBAD_PARAM),
     (ids.any forced.contains, stNOT_PERMITTED)] →
    exec (.progWriteVar p) s = .next ((s.noteStart p).waitRelease p)) ∧
  (∀ (p : Pkt) (s : State),
    s.accepts p opProgStatus [(outside (p.w 0) 1, stBAD_PARAM)] →
    exec (.progStatus p) s = .next (let t1 := s.doneRes p s.progResult
      if bitOf (p.w 0) 0 then t1.progI (fun q => { q with overrun := false, imageLate := false }) else t1)) ∧
  (∀ (p : Pkt) (s : State),
    let m := p.w 1 + 2 ^ 32 * p.w 2 + 2 ^ 64 * p.w 3 + 2 ^ 96 * p.w 4
    s.accepts p opProgReArm [(decide (p.w 0 ≠ 0), stBAD_PARAM)] →
    exec (.progReArm p) s = .next (s.progI (fun q => { q with rearm := Nat.lor q.rearm m, rearmPkt := q.rearmPkt ++ [p] })))

/-- Recipes: The recipe boundary and every accepted packet of the recipe group complete with their effect. Covers
RECIPE_BOUNDARY, RECIPE_LOAD, RECIPE_START, RECIPE_PAUSE, RECIPE_RESUME, RECIPE_ABORT, RECIPE_STATUS, RECIPE_DELETE. -/
def Obligations.RecipeCommandsComplete : Prop :=
  (∀ (late : List Nat) (s : State), s.runs = true →
    exec (.recipeBoundary late) s = .next (
      let e := (s.advanceTo s.boundaryTime).recipesAt s.boundaryTime late
      e.s.putMasked e.imgs)) ∧
  (∀ (p : Pkt) (s : State),
    let n := rcpNo p
    let r := s.rcp n
    let off := p.w 1
    let data := (p.params.drop 2).map (fun w => w.toNat)
    s.accepts p opRecipeLoad [(outside (p.w 0) 0x8000003F || !(off = 0 || off = 4 * r.chunk.length) ||
        decide (16 + 32 * 4096 < off + 4 * data.length), stBAD_PARAM),
     (r.st = rcRUNNING || r.st = rcPAUSED, stNOT_PERMITTED)] →
    exec (.recipeLoad p) s = .next (let ws := if off = 0 then data else r.chunk ++ data
      if !bitOf (p.w 0) 31 then (s.setRcp n { r with chunk := ws }).done p stDONE
      else
        let new : Recipe := { st := rcREADY, words := ws, reqs := r.reqs }
        if new.bad then s.done p stBAD_PARAM else (s.setRcp n new).done p stDONE)) ∧
  (∀ (p : Pkt) (s : State), s.accepts p opRecipeStart
      [(outside (p.w 0) 0x3F || (outside (p.w 1) 0xFFF || decide ((s.rcp (rcpNo p)).last < p.w 1)), stBAD_PARAM), (!([rcREADY, rcDONE, rcABORTED] : List Nat).contains (s.rcp (rcpNo p)).st, stNOT_PERMITTED)] →
    exec (.recipeStart p) s = .next ((s.noteStart p).rcpRequest p { code := 1, step := p.w 1 })) ∧
  (∀ (p : Pkt) (s : State), s.accepts p opRecipePause
      [(outside (p.w 0) 0x3F || false, stBAD_PARAM), (!([rcRUNNING] : List Nat).contains (s.rcp (rcpNo p)).st, stNOT_PERMITTED)] →
    exec (.recipePause p) s = .next ((s.noteStart p).rcpRequest p { code := 2 })) ∧
  (∀ (p : Pkt) (s : State), s.accepts p opRecipeResume
      [(outside (p.w 0) 0x3F || false, stBAD_PARAM), (!([rcPAUSED] : List Nat).contains (s.rcp (rcpNo p)).st, stNOT_PERMITTED)] →
    exec (.recipeResume p) s = .next ((s.noteStart p).rcpRequest p { code := 3 })) ∧
  (∀ (p : Pkt) (s : State), s.accepts p opRecipeAbort
      [(outside (p.w 0) 0x3F || false, stBAD_PARAM), (!([rcRUNNING, rcPAUSED] : List Nat).contains (s.rcp (rcpNo p)).st, stNOT_PERMITTED)] →
    exec (.recipeAbort p) s = .next ((s.noteStart p).rcpRequest p { code := 4 })) ∧
  (∀ (p : Pkt) (s : State),
    s.accepts p opRecipeStatus [(outside (p.w 0) 0x3F, stBAD_PARAM)] →
    exec (.recipeStatus p) s = .next (s.doneRes p (s.rcpStatus (s.rcp (rcpNo p))))) ∧
  (∀ (p : Pkt) (s : State),
    let r := s.rcp (rcpNo p)
    s.accepts p opRecipeDelete [(outside (p.w 0) 0x3F, stBAD_PARAM), (r.st = rcRUNNING || r.st = rcPAUSED, stNOT_PERMITTED)] →
    exec (.recipeDelete p) s = .next ((r.reqs.foldl (fun (u : State) q => u.doneOpt q.pkt stNOT_PERMITTED) (s.setRcp (rcpNo p) {})).done p stDONE))

/-- Acquisition events: A tapped value, the spillway check, the ends of post-trigger, drain and hold-off, a buffer handover and a
TIME trigger complete with the state written out here. Covers ACQ_VALUE, SPILLWAY_CHECK, POSTTRIG_END, DRAIN_DONE,
HOLDOFF_EXPIRY, BUFFER_HANDOVER, ACQ_TIME_TRIGGER. -/
def Obligations.AcquisitionEventsComplete : Prop :=
  (∀ (sig edge : Nat) (s : State), s.runs = true →
    exec (.acqValue sig edge) s = .next (s.acqValue sig edge)) ∧
  (∀ (s : State),
    let k := s.gridNext 1000000 s.time.spillGrid
    let s1 := s.advanceTo (1000000 * k)
    s.runs = true →
    (s.acqSt = aqSTREAM || s.acqSt = aqPOSTTRIG || s.acqSt = aqDRAIN) →
    exec .spillwayCheck s = .next (({ s1 with time := { s1.time with spillGrid := k + 1 } }).spillCheck)) ∧
  (∀ (s : State), s.runs = true →
    (s.acqSt = aqPOSTTRIG && !s.acq.stopping) →
    exec .posttrigEnd s = .next (((s.advanceTo s.acqEnd).captureEnd s.acqEnd false).put F.ACQ_BLK_STAT_STATE aqDRAIN)) ∧
  (∀ (s : State), s.runs = true →
    (s.acqSt = aqDRAIN && s.acq.recs.isEmpty && !s.acq.stopping) →
    exec .drainDone s = .next (let s1 := ({ s with acq := { s.acq with capture := some (s.acq.capRecs, s.get64 F.ACQ_TRIG_TS_LO), captures := s.acq.captures + 1 } }.raise bACQ 12).msix 7
      if s1.on F.ACQ_AUTO_REARM then
        { s1 with acq := { s1.acq with holdEnd := s1.now + 1000 * s1.get F.ACQ_HOLDOFF } }.put F.ACQ_BLK_STAT_STATE aqHOLDOFF
      else s1.acqIdle)) ∧
  (∀ (s : State), s.runs = true →
    (s.acqSt = aqHOLDOFF) →
    exec .holdoffExpiry s = .next ((s.advanceTo s.acq.holdEnd).acqPretrig)) ∧
  (∀ (n : Nat) (s : State), s.runs = true →
    (s.acqDelivers) →
    exec (.bufferHandover n) s = .next (s.handover n)) ∧
  (∀ (t : Nat) (s : State), s.runs = true →
    (decide (t < 4) && s.unitsRun && s.on (F.ACQT_EN t) && s.get (F.ACQT_KIND t) = 5 && !(s.acqUnit t).timed) →
    exec (.acqTimeTrigger t) s = .next (let s1 := s.advanceTo (s.get64 (F.ACQT_TIME_LO t))
      s1.unitsChange s1.now (fun u => u.unitChange t u.now true { u.acqUnit t with timed := true, pulseEnd := u.pulseEndOf t u.now })))

/-- Acquisition opcodes: Every accepted packet of the acquisition group completes with its effect. Covers ACQ_CHANNEL,
ACQ_TRIGGER, ACQ_ARM, ACQ_STOP, ACQ_STREAM, ACQ_STATUS, ACQ_MEASURE. -/
def Obligations.AcquisitionPacketsComplete : Prop :=
  (∀ (p : Pkt) (s : State),
    let map := bitOf (p.w 0) 31
    let first := bits (p.w 0) 26 16
    let n := bits (p.w 0) 9 0
    let bad (w : Nat) : Bool := if map then outside w 0x8003FFFF else (outside w 0xFFCF1FFF || !sigOkId (bits w 12 0))
    s.accepts p opAcqChannel [(outside (p.w 0) 0x87FF03FF || decide ((if map then 2048 else 256) < first + n) ||
        (List.range n).any (fun i => bad (p.w (1 + i))), stBAD_PARAM),
     (s.acqSt ≠ aqIDLE, stNOT_PERMITTED)] →
    exec (.acqChannel p) s = .next (((List.range n).foldl (fun (u : State) i =>
      let a := if map then (F.ACQ_IMGMAP_EN (first + i)).addr else (F.ACQC_EN (first + i)).addr
      u.setWord a (Word.of (p.w (1 + i)))) s).done p stDONE)) ∧
  (∀ (p : Pkt) (s : State),
    let us := (List.range 4).filter (fun t => bitOf (p.w 0) t)
    let ix := List.range us.length
    let w (i k : Nat) : Nat := p.w (2 + 5 * i + k)
    s.accepts p opAcqTrigger [(outside (p.w 0) 0xF || outside (p.w 1) 0xFF || ix.any (fun i => outside (w i 0) 0xF8FFFFFF || decide (6 ≤ bits (w i 0) 30 28) ||
        (bits (w i 0) 30 28 = 4 && decide (64 ≤ bits (w i 0) 23 16))), stBAD_PARAM),
     (s.acqSt ≠ aqIDLE || us.any (fun t => s.on (F.ACQT_EN t)), stNOT_PERMITTED)] →
    exec (.acqTrigger p) s = .next (let t1 := s.setWord F.ACQ_OR_SET.addr (Word.of (p.w 1))
      (ix.foldl (fun (u : State) i =>
        let k := us.getD i 0
        let u1 := ((u.put (F.ACQT_A k) (w i 1)).put (F.ACQT_B k) (w i 2)).put64 (F.ACQT_TIME_LO k) (w i 3 + 2 ^ 32 * w i 4)
        u1.unitWrite k (w i 0)) t1).done p stDONE)) ∧
  (∀ (p : Pkt) (s : State),
    let log := p.w 1
    s.accepts p opAcqArm [(outside (p.w 0) 0xF6 || decide (log < 20) || decide (31 < log) || decide (Config.dramMiB * 2 ^ 19 < 2 ^ log) ||
        decide (2 ^ log < p.w 2 * 8192) || decide (p.w 3 = 0), stBAD_PARAM),
     (s.acqSt ≠ aqIDLE || !(List.range 256).any (fun c => s.on (F.ACQC_EN c)), stNOT_PERMITTED)] →
    exec (.acqArm p) s = .next (let f := s.fresh
      let t1 := (f.2.put64 F.ACQ_BUF_BASE_LO (f.1 * 2 ^ log)).setWord F.ACQ_RUN.addr (Word.of (p.w 0))
      let t2 := (((t1.put F.ACQ_BUF_LOG log).put F.ACQ_PRE (p.w 2)).put F.ACQ_POST (p.w 3)).put F.ACQ_HOLDOFF (p.w 4)
      t2.acqArm.done p stDONE)) ∧
  (∀ (p : Pkt) (s : State),
    s.accepts p opAcqStop [(outside (p.w 0) 1, stBAD_PARAM)] →
    exec (.acqStop p) s = .next ((s.acqStop (bitOf (p.w 0) 0)).done p stDONE)) ∧
  (∀ (p : Pkt) (s : State), bits (p.w 0) 1 0 = 1 → s.accepts p opAcqStream [(outside (p.w 0) 3, stBAD_PARAM)] →
    exec (.acqStream p) s = .next ((s.releaseBufs (p.w 1 + 2 ^ 32 * p.w 2)).done p stDONE)) ∧
  (∀ (p : Pkt) (s : State),
    let n := bits (p.w 0) 15 8
    bits (p.w 0) 1 0 = 0 → s.accepts p opAcqStream
      [(outside (p.w 0) 0xFF03 || decide (bits (p.w 0) 1 0 ≠ 0) || n = 0 || decide (64 < n) || (streamBufs p n).any bufBad, stBAD_PARAM),
       (s.acq.bufs.any AcqBuf.handed, stNOT_PERMITTED)] →
    exec (.acqStream p) s = .next ({ s with acq := { s.acq with bufs := streamBufs p n, fill := 0, halted := false } }.done p stDONE)) ∧
  (∀ (p : Pkt) (s : State),
    s.accepts p opAcqStatus [(decide (p.w 0 ≠ 0), stBAD_PARAM)] →
    exec (.acqStatus p) s = .next (s.doneRes p ([(s.word F.ACQ_BLK_STAT_STATE.addr).toNat, s.get F.ACQ_BACKLOG, s.get F.ACQ_LOST,
      (s.word F.ACQ_STEPS.addr).toNat, s.get F.ACQ_TRIG_TS_LO, s.get F.ACQ_TRIG_TS_HI, 0, 0] ++
      (List.range 32).map (fun w => (List.range 8).foldl (fun v k => v + s.get (F.ACQC_SPILL (8 * w + k)) * 16 ^ k) 0)))) ∧
  (∀ (p : Pkt) (s : State),
    let c := bits (p.w 0) 7 0
    s.accepts p opAcqMeasure [(outside (p.w 0) 0xFF || !bitOf (s.acqRed c) 3, stBAD_PARAM), (!s.captureHeld, stNOT_PERMITTED)] →
    exec (.acqMeasure p) s = .next (match s.acq.capture with
      | none => s.done p stNOT_PERMITTED
      | some (recs, trig) =>
        let r := s.measureRes (capturePts c recs) trig
        r.2.doneRes p r.1))

/-- CAN events: Mode writes, bus idle, frames and remote frames received, transmit requests, ends and aborts, errors, recovery
and the clearing of NEW complete with the state written out here. Covers CAN_MODE_WRITE, CAN_BUS_IDLE, CAN_FRAME_RX,
CAN_TXREQ_WRITE, CAN_TX_END, CAN_TXABORT_WRITE, RECOVER, CAN_RECOVERY_DONE, CAN_NEW_CLEAR, CAN_CONFIG_TIMEOUT, CAN_BUS_ERROR,
REMOTE_FRAME_RX. -/
def Obligations.CanEventsComplete : Prop :=
  (∀ (c mode : Nat) (s : State),
    (c < 4) →
    exec (.canModeWrite c mode) s = .next (s.canMode c (mode % 4))) ∧
  (∀ (c : Nat) (s : State), s.runs = true →
    (c < 4) →
    exec (.canBusIdle c) s = .next (s.canIdle c)) ∧
  (∀ (c : Nat) (f : CanFrame) (s0 : State),
    let s := s0.advanceTick f.ts
    let g := s.canStamp f
    s0.runs = true →
    ¬(4 ≤ c || s0.mirCan c || !s0.canOn c) →
    exec (.canFrameRx c f) s0 = .next (if f.fdf && !s.on (F.CAN_FD_EN c) then s.canRxError c 2 1
    else ((s.canReceive c g).canRxGood c).mirInputIf (bitOf (s.get F.LASH_MIR_CAN) c) (.can c g))) ∧
  (∀ (c k : Nat) (v : Word) (s : State),
    (c < 4 && k < 4) →
    exec (.canTxreqWrite c k v) s = .next (s.canTxreq c k v.toNat)) ∧
  (∀ (c m res lec inc ts : Nat) (tdcv : Option Nat) (s0 : State),
    let s := s0.advanceTick ts
    s0.runs = true →
    (c < 4 && m < 128 && s.canOn c && (s.canMd c = 3 || (s.canMd c = 1 && s.on F.SYS_ARM_OUTEN)) &&
      decide (1 ≤ res) && decide (res ≤ 3) && decide (lec ≤ 6) && (inc = 0 || inc = 8) && s.canOffered c m ts) →
    exec (.canTxEnd c m res lec inc ts tdcv) s0 = .next ((s.canTdc c (if s.on (F.CANO_FDF c m) then tdcv else none)).canTxEnd c m res lec inc (s.timeAt ts))) ∧
  (∀ (c k : Nat) (v : Word) (onBus : Option Nat) (s : State), c < 4 → k < 4 →
    exec (.canTxabortWrite c k v onBus) s = .next ((objsOf k v.toNat).foldl (State.canAbort c onBus) s)) ∧
  (∀ (c : Nat) (s : State),
    (c < 4) →
    exec (.recover c) s = .next (s.canRecover c)) ∧
  (∀ (c : Nat) (s : State), s.runs = true →
    (c < 4 && s.canSt c = cnRECOVERING) →
    exec (.canRecoveryDone c) s = .next (((s.put (F.CAN_STATE c) cnACTIVE).put (F.CAN_TEC c) 0).put (F.CAN_REC c) 0)) ∧
  (∀ (c m : Nat) (v : Word) (s : State),
    (c < 4 && m < 128) →
    exec (.canNewClear c m v) s = .next (s.objStatWrite c m v.toNat)) ∧
  (∀ (c : Nat) (p : Pkt) (e : Nat) (r : List (Pkt × Nat)) (s : State), (s.canI c).cfg = (p, e) :: r →
    exec (.canConfigTimeout c) s = .next (((s.advanceTo e).setCan c { s.canI c with cfg := r }).done p stTIMEOUT)) ∧
  (∀ (c lec : Nat) (e : CanErr) (s : State), s.runs = true →
    (c < 4 && s.canOn c && decide (1 ≤ lec) && decide (lec ≤ 6)) →
    exec (.canBusError c lec e) s = .next ((match e with
       | .rec1 => s.canRxError c lec 1
       | .rec8 => s.canRxError c lec 8
       | .tec8 => s.canTxError c lec 8))) ∧
  (∀ (c : Nat) (s : State), s.runs = true →
    (c < 4 && s.canOn c) →
    exec (.remoteFrameRx c) s = .next ((s.raise (bCAN c) 15).canRxGood c))

/-- CAN opcodes: Every accepted packet of the CAN group completes with its effect. Covers CAN_CONFIG, CAN_OBJECT, CAN_TRANSMIT,
CAN_RECEIVE, CAN_STATUS. -/
def Obligations.CanPacketsComplete : Prop :=
  (∀ (p : Pkt) (s : State),
    let c := canNo p
    s.accepts p opCanConfig [(outside (p.w 0) 3 || outside (p.w 1) 0x73 || outside (p.w 2) 0xFFFFFF7F || outside (p.w 3) 0x1FF1F0F ||
        outside (p.w 4) 0x8000007F || nbtBad (p.w 2) || dbtBad (p.w 3), stBAD_PARAM)] →
    exec (.canConfig p) s = .next (if s.canOn c then s.setCan c { s.canI c with cfg := (s.canI c).cfg ++ [(p, s.now + 10000000)] } else s.canApply p)) ∧
  (∀ (p : Pkt) (s : State),
    let c := canNo p
    let m := canObj p
    let clears := s.on (F.CANO_EN c m) && !bitOf (p.w 1) 31
    s.accepts p opCanObject [(outside (p.w 0) 0x7F03 || outside (p.w 1) 0xFF000000 || outside (p.w 2) 0x1FFFFFFF || outside (p.w 3) 0x1FFFFFFF, stBAD_PARAM),
     (s.objLocked c m && !clears, stBUSY)] →
    exec (.canObject p) s = .next ((s.setWords (F.CANO_EN c m).addr [p.w 1, p.w 2, p.w 3]).done p stDONE)) ∧
  (∀ (p : Pkt) (s : State),
    let c := canNo p
    let m := canObj p
    let st := s.canSt c
    s.accepts p opCanTransmit [(outside (p.w 0) 0x7F03 || outside (p.w 1) 0xF, stBAD_PARAM),
     (!s.on (F.CANO_DIR c m) || st = cnCONFIG || s.get (F.CAN_MODE c) = 2 || st = cnBUS_OFF ||
        (s.on (F.CANO_FDF c m) && !s.on (F.CAN_FD_EN c)), stNOT_PERMITTED), (s.on (F.CANO_TXREQ c m), stQUEUE_FULL)] →
    exec (.canTransmit p) s = .next (if s.standby then s.done p stDONE
      else
      let t1 := (s.put (F.CANO_DLC c m) (p.w 1)).setWords (F.CANO_DATA c m 0).addr ((List.range 16).map (fun i => p.w (2 + i)))
      (State.setTxreq c t1 m).done p stDONE)) ∧
  (∀ (p : Pkt) (s : State),
    let c := canNo p
    let ms := (List.range 4).flatMap (fun k => objsOf k (p.w (k + 1)))
    let now := ms.take 48
    s.accepts p opCanReceive [(outside (p.w 0) 0x10003, stBAD_PARAM)] →
    exec (.canReceive p) s = .next (let t1 := s.doneRes p ([b2n (decide (48 < ms.length)) * 2 ^ 8 + now.length] ++ now.flatMap (s.objWords c))
      if bitOf (p.w 0) 16 then now.foldl (fun (u : State) m => u.clearNew c m (u.get (F.CANO_SEQ c m)) false) t1 else t1)) ∧
  (∀ (p : Pkt) (s : State),
    let c := canNo p
    let b := bCAN c
    s.accepts p opCanStatus [(outside (p.w 0) 0x10003, stBAD_PARAM)] →
    exec (.canStatus p) s = .next (let w (o : Nat) : Nat := (s.word (b + o)).toNat
      let t1 := s.doneRes p ([w 0x0C, w 0x60, w 0x70, w 0x74, w 0x78, w 0x7C, w 0x80, 0] ++ s.getWords (b + 0x100) 8 ++ s.getWords (b + 0x130) 4)
      if bitOf (p.w 0) 16 then ((t1.put (F.BLK_STICKY b) 0).setWords (b + 0x130) [0, 0, 0, 0]).refreshLine b else t1))

/-- Sluice events and opcodes: A sequencer cycle, the self-test, the supply and cross-monitor faults, a safety-frame watchdog,
the mailbox and the two Sluice opcodes complete with the state written out here. Covers CROSS_MONITOR_WINDOW, SLUICE_STATUS,
SLUICE_REQUEST, SLUICE_CYCLE, SLUICE_SELF_TEST_DONE, VDD_SAFE_FAULT, SF_WATCHDOG, STO_REQ7_WRITE, SLUICE_REQUEST_TIMEOUT,
VDD_SAFE_RESTORED. -/
def Obligations.SluiceEventsComplete : Prop :=
  (∀ (count : Nat) (s : State),
    ((decide (count < 3600) || decide (4400 < count)) && !s.sto.held) →
    exec (.crossMonitorWindow count) s = .next (s.suFault 3)) ∧
  (∀ (p : Pkt) (s : State),
    s.accepts p opSluiceStatus [] →
    exec (.sluiceStatus p) s = .next (let w (o : Nat) : Nat := (s.word (bSTO + o)).toNat
      s.doneRes p ([w 0x08, w 0x68, w 0x70, w 0x74, w 0x64, w 0x60] ++ s.getWords (bSTO + 0x100) 12 ++ s.getWords (bSTO + 0x200) 16 ++
        [w 0x80, w 0x84, w 0x88]))) ∧
  (∀ (p : Pkt) (s : State),
    s.accepts p opSluiceRequest [] →
    exec (.sluiceRequest p) s = .next (let t1 := s.stoI (fun u => { u with waiting := u.waiting ++ [p], expiry := u.expiry ++ [(p, s.now + 1000000)] })
      State.rqPump t1.sto.waiting.length t1)) ∧
  (∀ (sin fb diag : Nat) (s : State),
    ¬(s.suSt = suTEST || s.sto.held || decide (7 < diag)) →
    exec (.sluiceCycle sin fb diag) s = .next (s.suCycle (sin % 2 ^ 16) (fb % 2 ^ 12) diag)) ∧
  (∀ (code : Nat) (s : State),
    (s.suSt = suTEST && !s.sto.held && decide (code ≤ 7)) →
    exec (.sluiceSelfTestDone code) s = .next ((s.selfTestDone code).bootAdvance)) ∧
  (∀ (below27 : Bool) (s : State),
    let s0 := { s with sys := { s.sys with railHist := putBit s.sys.railHist 8 true } }
    let s1 := if s.sto.vddBad then s0 else s0.suFault 4
    let s2 := s1.stoI (fun t => { t with vddBad := true })
    exec (.vddSafeFault below27) s = .next (if below27 && !s2.sto.held then s2.stoHold else s2)) ∧
  (∀ (j port : Nat) (s : State),
    let f := if port = 0 then F.STO_CONN_OK_B j else F.STO_CONN_OK_A j
    (j < 16 && port < 2 && s.on f && s.connEn j) →
    exec (.sfWatchdog j port) s = .next (let s1 := (s.advanceTick ((s.sfConn j).started + 3600 * s.sc (60 + j))).put f 0
      (s1.setSf j { s1.sfConn j with good := 0 }).connFault j 2)) ∧
  (∀ (v : Word) (s : State),
    let ws := (List.range 7).map (iw s.sto.mail) ++ [v.toNat]
    ¬(s.sto.req.isSome) →
    exec (.stoReq7Write v) s = .next (let s1 := s.rqSubmit ws none; State.rqPump s1.sto.waiting.length s1)) ∧
  (∀ (p : Pkt) (e : Nat) (r : List (Pkt × Nat)) (s : State), s.sto.expiry = (p, e) :: r →
    exec .sluiceRequestTimeout s =
      .next (((s.advanceTo e).stoI (fun t => { t with waiting := t.waiting.erase p })).rqAnswer p stTIMEOUT)) ∧
  (∀ (s : State),
    let s1 := s.stoI (fun t => { t with held := false, vddBad := false })
    exec .vddSafeRestored s = .next (State.rqPump s1.sto.waiting.length s1))

/-- Sluice requests: A request in the mailbox whose check passes has its effect and ends with the code OK. Covers CONFIG_WRITE,
CONFIG_COMMIT, ARM, DISARM, RESET, DEMAND, RELEASE, CLEAR_FAULT, TEST_NOW. -/
def Obligations.SluiceRequestsComplete : Prop :=
  (∀ (ws : List Nat) (p : Option Pkt) (s : State), s.sto.req = some (ws, p) → bits (iw ws 0) 31 24 = 1 → s.sto.held = false → s.rqCheck ws = rqOK →
    exec .configWrite s = .next ((s.stoI (fun u => { u with staging := (List.range 78).map (fun i => if bits (bits (iw ws 0) 23 0) 7 0 ≤ i ∧ i < bits (bits (iw ws 0) 23 0) 7 0 + bits (bits (iw ws 0) 23 0) 10 8 then iw ws (1 + i - bits (bits (iw ws 0) 23 0) 7 0) else iw u.staging i) })).rqEnd rqOK)) ∧
  (∀ (ws : List Nat) (p : Option Pkt) (s : State), s.sto.req = some (ws, p) → bits (iw ws 0) 31 24 = 2 → s.sto.held = false → s.rqCheck ws = rqOK →
    exec .configCommit s = .next ((({ s with mram := { s.mram with safety := s.stagingWords } }.useCfg s.stagingWords).post 0x0D11 0
      (iw s.stagingWords 1) (iw s.stagingWords 77)).rqEnd rqOK)) ∧
  (∀ (ws : List Nat) (p : Option Pkt) (s : State), s.sto.req = some (ws, p) → bits (iw ws 0) 31 24 = 3 → s.sto.held = false → s.rqCheck ws = rqOK →
    exec .arm s = .next ((s.setSuSt suARMED).rqEnd rqOK)) ∧
  (∀ (ws : List Nat) (p : Option Pkt) (s : State), s.sto.req = some (ws, p) → bits (iw ws 0) 31 24 = 4 → s.sto.held = false → s.rqCheck ws = rqOK →
    exec .disarm s = .next ((s.setSuSt suSAFE).rqEnd rqOK)) ∧
  (∀ (ws : List Nat) (p : Option Pkt) (s : State), s.sto.req = some (ws, p) → bits (iw ws 0) 31 24 = 5 → s.sto.held = false → s.rqCheck ws = rqOK →
    exec .reset s = .next ((s.stoI (fun u => { u with resets := Nat.lor u.resets (bits (iw ws 0) 23 0) })).rqEnd rqOK)) ∧
  (∀ (ws : List Nat) (p : Option Pkt) (s : State), s.sto.req = some (ws, p) → bits (iw ws 0) 31 24 = 6 → s.sto.held = false → s.rqCheck ws = rqOK →
    exec .demand s = .next ((s.stoI (fun u => { u with demand := Nat.lor u.demand (bits (iw ws 0) 23 0) })).rqEnd rqOK)) ∧
  (∀ (ws : List Nat) (p : Option Pkt) (s : State), s.sto.req = some (ws, p) → bits (iw ws 0) 31 24 = 7 → s.sto.held = false → s.rqCheck ws = rqOK →
    exec .release s = .next ((s.stoI (fun u => { u with demand := Nat.land u.demand (4095 - bits (iw ws 0) 23 0) })).rqEnd rqOK)) ∧
  (∀ (ws : List Nat) (p : Option Pkt) (s : State), s.sto.req = some (ws, p) → bits (iw ws 0) 31 24 = 8 → s.sto.held = false → s.rqCheck ws = rqOK →
    exec .clearFault s = .next ((
      let arg := bits (iw ws 0) 23 0
      let t1 := ((List.range 12).filter (bitOf arg)).foldl State.clearCh s
      let t2 := ((List.range 16).filter (bitOf (iw ws 1))).foldl State.clearIn t1
      let t3 := ((List.range 16).filter (bitOf (iw ws 2))).foldl State.clearConn t2
      if bitOf arg 12 then t3.clearSluice else t3).rqEnd rqOK)) ∧
  (∀ (ws : List Nat) (p : Option Pkt) (s : State), s.sto.req = some (ws, p) → bits (iw ws 0) 31 24 = 9 → s.sto.held = false → s.rqCheck ws = rqOK →
    exec .testNow s = .next ((
      ((List.range 12).filter (fun k => bitOf (bits (iw ws 0) 23 0) k && s.chSt k = chON)).foldl (fun (u : State) k =>
        u.setStoCh k { u.stoCh k with due := true }) s).rqEnd rqOK))

/-- Splice links: Link changes and good frames addressed to this device complete with the state written out here. Covers
SPLICE_LINK_CHANGE, SPLICE_TIME_FRAME, SIGNAL_FRAME_RX, SIGNAL_DELIVERY, SPLICE_COMMAND_RX, SPLICE_REPLY_RX. -/
def Obligations.SpliceCommandsComplete : Prop :=
  (∀ (l : Nat) (s : State), l < 2 → s.on (splEn l) = true → s.on (splUpBit l) = false → s.on (sdsLock 0) = true →
    exec (.spliceLinkChange l true) s = .next ((s.put (splUpBit l) 1).raise bSPLICE 8)) ∧
  (∀ (l : Nat) (s : State), l < 2 → s.on (splEn l) = true → s.on (splUpBit l) = true →
    exec (.spliceLinkChange l false) s = .next (s.splDown l)) ∧
  (∀ (f : SplFrame) (offset : Int) (hops : Nat) (uids : List Nat) (s : State), s.runs = true →
    f.link < 2 → s.splUp f.link = true → f.crcOk = true → (timeWords hops uids).length ≤ 1021 →
    f.dst = s.get F.SPL_ID →
    exec (.spliceTimeFrame f offset hops uids) s = .next (
      let t := s.incSat (F.SPLL_RX_FRAMES f.link)
      let t1 := ((t.put (splPeer f.link) f.src).put (splPeerValid f.link) 1).splEmit [(f.link, t.splFrame 1 f.src t.ownTime)]
      ((List.range 4).foldl (fun (u : State) d => u.splLearn f.link f.src hops uids d) t1).splTime f.link offset)) ∧
  (∀ (f : SplFrame) (core : Nat) (word : Word) (ts : Nat) (s : State), s.runs = true →
    f.link < 2 → s.splUp f.link = true → f.crcOk = true → ([word.toNat, core] ++ w64 ts).length ≤ 1021 →
    f.dst = s.get F.SPL_ID →
    exec (.signalFrameRx f core word ts) s =
      .next ((s.incSat (F.SPLL_RX_FRAMES f.link)).signalRx f core word.toNat ts)) ∧
  (∀ (e : SigHeld) (r : List SigHeld) (s : State), s.runs = true →
    s.splice.sigs = e :: r →
    exec .signalDelivery s = .next (
      let s1 := s.advanceTo e.at'
      let v : AdcRes := { word := e.word, ts := e.ts, seq := s1.loop.seq + 1 }
      { s1 with splice := { s1.splice with sigs := r, res := tabSet {} s1.splice.res e.key v } }.feedSplice e.key)) ∧
  (∀ (f : SplFrame) (ws : List Word) (s : State), s.runs = true →
    f.link < 2 → s.splUp f.link = true → f.crcOk = true → (ws.map (fun w => w.toNat)).length ≤ 1021 →
    f.dst = s.get F.SPL_ID →
    exec (.spliceCommandRx f ws) s = .next (
      let t := s.incSat (F.SPLL_RX_FRAMES f.link)
      t.remoteArrive (pktOfWords (ws.map (fun w => w.toNat)) (t.get64 (F.SPL_UID f.src)) true))) ∧
  (∀ (f : SplFrame) (ws : List Word) (stamp : Nat) (s : State),
    let l := ws.map (fun w => w.toNat)
    s.runs = true →
    f.link < 2 → s.splUp f.link = true → f.crcOk = true → l.length ≤ 1021 →
    f.dst = s.get F.SPL_ID →
    exec (.spliceReplyRx f ws stamp) s =
      .next ((s.incSat (F.SPLL_RX_FRAMES f.link)).splToRing (splWhole f 4 l).dropLast stamp))

/-- Lashing streams: A good frame of the partner with the next sequence number, the digests and the time-outs of the Lashing
complete with the state written out here. Covers CONTROL_FRAME_RX, M_CMD_RX, M_INPUT_RX, DELTA_RX, SNAP_RX, SEED_RX,
DIGEST_SEND, DIGEST_DUE, LONE_TMO_EXPIRY, SNAPSHOT_TIMEOUT, LASH_SWITCH_TIMEOUT. -/
def Obligations.LashingStreamsComplete : Prop :=
  (∀ (f : SplFrame) (c : LashControl) (s : State), s.runs = true →
    f.link < 2 → s.splUp f.link = true → f.crcOk = true → (controlWords c).length ≤ 1021 →
    f.dst = s.get F.SPL_ID →
    exec (.controlFrameRx f c) s = .next ((s.incSat (F.SPLL_RX_FRAMES f.link)).controlRx f c)) ∧
  (∀ (f : SplFrame) (c : Nat) (p : Pkt) (status : Nat) (s : State), s.runs = true →
    f.link < 2 → s.splUp f.link = true → f.crcOk = true → (cmdWords c p status).length ≤ 1021 →
    f.dst = s.get F.SPL_ID → (s.incSat (F.SPLL_RX_FRAMES f.link)).mirTakes f = true →
    exec (.mCmdRx f c p status) s = .next (((s.incSat (F.SPLL_RX_FRAMES f.link)).lashI (fun v => { v with seqRx := some f.mseq })).mirTake c p status)) ∧
  (∀ (f : SplFrame) (c : Nat) (item : MirItem) (s : State), s.runs = true →
    f.link < 2 → s.splUp f.link = true → f.crcOk = true → (c :: itemWords item).length ≤ 1021 →
    f.dst = s.get F.SPL_ID → (s.incSat (F.SPLL_RX_FRAMES f.link)).mirTakes f = true →
    exec (.mInputRx f c item) s = .next (((s.incSat (F.SPLL_RX_FRAMES f.link)).lashI (fun v => { v with seqRx := some f.mseq })).mirInputRx c item)) ∧
  (∀ (f : SplFrame) (d : ProgDelta) (last : Bool) (s : State), s.runs = true →
    f.link < 2 → s.splUp f.link = true → f.crcOk = true → (deltaWords d last).length ≤ 1021 →
    f.dst = s.get F.SPL_ID → (s.incSat (F.SPLL_RX_FRAMES f.link)).mirTakes f = true →
    exec (.deltaRx f d last) s = .next (((s.incSat (F.SPLL_RX_FRAMES f.link)).lashI (fun v => { v with seqRx := some f.mseq })).lashI (fun v =>
      if last then { v with deltaIn := [], delta := v.delta ++ [deltaWhole (v.deltaIn ++ [d])] } else { v with deltaIn := v.deltaIn ++ [d] }))) ∧
  (∀ (f : SplFrame) (part : SnapPart) (last : Bool) (s : State), s.runs = true →
    f.link < 2 → s.splUp f.link = true → f.crcOk = true → (snapWords part last).length ≤ 1021 →
    f.dst = s.get F.SPL_ID → (s.incSat (F.SPLL_RX_FRAMES f.link)).mirTakes f = true →
    exec (.snapRx f part last) s = .next (((s.incSat (F.SPLL_RX_FRAMES f.link)).lashI (fun v => { v with seqRx := some f.mseq })).snapRx part last)) ∧
  (∀ (f : SplFrame) (seed : Seed) (s : State), s.runs = true →
    f.link < 2 → s.splUp f.link = true → f.crcOk = true → (seedWords seed).length ≤ 1021 →
    f.dst = s.get F.SPL_ID → (s.incSat (F.SPLL_RX_FRAMES f.link)).mirTakes f = true →
    exec (.seedRx f seed) s = .next (((s.incSat (F.SPLL_RX_FRAMES f.link)).lashI (fun v => { v with seqRx := some f.mseq })).seedRx seed)) ∧
  (∀ (x d : Dig) (r : List Dig) (s : State), s.runs = true →
    s.lash.digs = x :: d :: r →
    s.on F.LASH_EN = true → s.lashPaired = true → s.ringRuns = true →
    exec .digestSend s = .next ((s.advanceTo (s.get64 F.RING_CYC_START_LO + 1000)).digSend d.k d.digWords)) ∧
  (∀ (rx : List (Nat × List Word)) (s : State), s.runs = true →
    (s.on F.LASH_EN && s.ringRuns &&
      (s.lashSt = lsSTANDBY || (s.lashSt = lsACTIVE && s.lash.partner ≠ 0) || (s.lashSt = lsSYNCING && s.seedDone))) →
    exec (.digestDue rx) s = .next ((s.advanceTo (s.get64 F.RING_CYC_START_LO + 2000)).digJudge rx)) ∧
  (∀ s : State,
    let tmo := s.lash.since + 10000000 * max 1 (s.get F.LASH_LONE_TMO)
    s.runs = true →
    s.lashSt = lsSEEKING → s.lash.seen = 0 ∨ s.lash.seen + 1000000 ≤ (s.advanceTo tmo).now →
    (∀ k r, s.lash.pairCyc = k :: r → s.ringRuns = false ∨ k + 16 ≤ s.get F.RING_CYCLE_NUM) →
    exec .loneTmoExpiry s = .next ((s.advanceTo tmo).setLash lsACTIVE)) ∧
  (∀ (p : Pkt) (e : Nat) (r : List (Pkt × Nat)) (s : State), s.lash.snapPkt = (p, e) :: r →
    exec .snapshotTimeout s = .next (((s.advanceTo e).lashI (fun v => { v with snapPkt := r })).done p stTIMEOUT)) ∧
  (∀ s : State, s.lash.snapPkt = [] → s.lashSt = lsSYNCING →
    exec .snapshotTimeout s = .next ((s.advanceTo (s.lash.since + 500000000)).setLash lsLOST)) ∧
  (∀ (p : Pkt) (e : Nat) (r : List (Pkt × Nat)) (s : State), s.lash.switchPkt = (p, e) :: r → s.lash.switchCyc = none →
    exec .lashSwitchTimeout s = .next (((s.advanceTo e).lashI (fun v => { v with switchPkt := r })).done p stTIMEOUT))

/-- Lashing and Splice opcodes: Every accepted packet of the Lashing and Splice opcodes completes with its effect. Covers
LASH_CONFIG, LASH_STATUS, LASH_SWITCH, LASH_SNAPSHOT, SPLICE_CONFIG, SPLICE_STATUS. -/
def Obligations.LashSplicePacketsComplete : Prop :=
  (∀ (p : Pkt) (s : State),
    let op := bits (p.w 0) 1 0
    let paired := s.lash.partner = lsSYNCING || s.lash.partner = lsSTANDBY
    let ws := (p.params.drop 1).map (fun w => w.toNat)
    s.accepts p opLashConfig [(s.lashCfgBad p, stBAD_PARAM), (op = 0 && s.lashSt = lsACTIVE && paired, stNOT_PERMITTED), (op = 1 && s.lashSt ≠ lsACTIVE, stNOT_PERMITTED)] →
    exec (.lashConfig p) s = .next (if op = 1 then s.detachPartner.done p stDONE
      else
        let t1 := s.lashCfg ws
        (if bitOf (p.w 0) 4 then { t1 with mram := { t1.mram with lash := some ws } } else t1).done p stDONE)) ∧
  (∀ (p : Pkt) (s : State),
    s.accepts p opLashStatus [] →
    exec (.lashStatus p) s = .next (let t := s.refreshSeen
      let id := match t.prog.active with | some im => im.id | none => 0
      t.doneRes p (t.getWords 0x20100008 2 ++ t.getWords 0x20100208 1 ++ t.getWords 0x20100210 3 ++ t.getWords 0x20100220 16 ++
        t.getWords 0x20100280 5 ++ [id]))) ∧
  (∀ (p : Pkt) (s : State),
    s.accepts p opLashSwitch [(p.w 0 ≠ 0, stBAD_PARAM), (s.lashSt ≠ lsACTIVE || s.lash.partner ≠ lsSTANDBY, stNOT_PERMITTED)] →
    exec (.lashSwitch p) s = .next (let ms := if p.w 1 = 0 then 100 else p.w 1
      (s.lashI (fun v => { v with switchPkt := v.switchPkt ++ [(p, s.now + 1000000 * ms)] })).accept p)) ∧
  (∀ (p : Pkt) (s : State),
    s.accepts p opLashSnapshot [(p.w 0 ≠ 0, stBAD_PARAM), (s.lashSt ≠ lsACTIVE || !(s.lash.partner = lsSEEKING || s.lash.partner = lsLOST), stNOT_PERMITTED),
     (!schemaOk (s.get F.LASH_OWN_SCHEMA) (s.get F.LASH_PARTNER_SCHEMA), stVERSION_MISMATCH)] →
    exec (.lashSnapshot p) s = .next (((s.controlSend { s.ownControl with snapshot := true }).lashI (fun v => { v with snapPkt := v.snapPkt ++ [(p, s.now + 500000000)] })).accept p)) ∧
  (∀ (p : Pkt) (s : State),
    let off := [0, 1].filter (fun l => s.on (splEn l) && !bitOf (p.w 1) l)
    let cores := (List.range 8).filter (fun c => bitOf (s.get F.SPL_CORES) c && !bitOf (p.w 3) c)
    let paired := s.lash.partner = lsSYNCING || s.lash.partner = lsSTANDBY
    s.accepts p opSpliceConfig [(spliceCfgBad p, stBAD_PARAM),
     (off.any (fun l => s.mirrorLinks.contains l) && s.on F.LASH_EN && paired, stNOT_PERMITTED),
     (off.any s.splFeeds || cores.any s.splCoreFeeds, stLOOP_CLOSED)] →
    exec (.spliceConfig p) s = .next (let t1 := s.spliceCfg (p.w 1) (p.w 2) (p.w 3)
      (if bitOf (p.w 0) 4 then { t1 with mram := { t1.mram with splice := some [p.w 1, p.w 2, p.w 3] } } else t1).done p stDONE)) ∧
  (∀ (p : Pkt) (s : State),
    s.accepts p opSpliceStatus [] →
    exec (.spliceStatus p) s = .next (s.doneRes p (s.getWords 0x20100060 4 ++ s.getWords 0x20100100 6 ++ s.getWords 0x20100120 6 ++ s.getWords 0x20100140 8)))

/-- Security operations: An operation started by domain 0 runs; the end of an operation, of a report, of an image write and of a
challenge complete with the state written out here. Covers HASH, VERIFY, ATTEST, SEC_OP_DONE, ATTEST_REPORT_DONE,
DEBUG_CHALLENGE_EXPIRY, IMAGE_WRITE_DONE. -/
def Obligations.SecurityOperationsComplete : Prop :=
  (∀ (r : Requester) (s : State), s.domainOf r = 0 → s.sec.op = none →
    exec (.hash r) s = .next (((s.put F.SEC_OP 1).secI (fun v => { v with op := some 1 })).secBusy)) ∧
  (∀ (r : Requester) (s : State), s.domainOf r = 0 → s.sec.op = none →
    exec (.verify r) s = .next (((s.put F.SEC_OP 2).secI (fun v => { v with op := some 2 })).secBusy)) ∧
  (∀ (r : Requester) (s : State), s.domainOf r = 0 → s.sec.op = none →
    exec (.attest r) s = .next (((s.put F.SEC_OP 3).secI (fun v => { v with op := some 3 })).startAttest.secBusy)) ∧
  (∀ s : State, s.sec.op = some 1 → rangeOk s.opAddr (s.get F.SEC_LEN) = true →
    exec .secOpDone s = .next (s.opResult vfOK (sha384 s.opWords (s.get F.SEC_LEN)))) ∧
  (∀ s : State, s.sec.op = some 2 → rangeOk s.opAddr (s.get F.SEC_LEN) = true →
    exec .secOpDone s = .next (s.opResultFree (s.verifyImage s.opWords (bits (iw s.opWords 1) 23 16)))) ∧
  (∀ (op : Nat) (s : State), s.sec.op = some op → op ≤ 2 → rangeOk s.opAddr (s.get F.SEC_LEN) = false →
    exec .secOpDone s = .next (s.fresh.2.opResultFree (s.fresh.1 % 16))) ∧
  (∀ s : State, s.sec.op = some 3 → exec .secOpDone s = .next (s.endReport.opResultFree vfOK)) ∧
  (∀ (p : Pkt) (s : State), s.sec.attPkt = some p →
    exec .attestReportDone s = .next (s.endReport.doneRes p [4 * s.sec.attWords.length + 16608])) ∧
  (∀ (s : State),
    (s.sec.challenge.isSome) →
    exec .debugChallengeExpiry s = .next ((s.advanceTo s.sec.challengeEnd).secI (fun v => { v with challenge := none }))) ∧
  (∀ (p : Pkt) (ty : Nat) (ws : List Nat) (r : List (Pkt × Nat × List Nat)) (s : State), s.sec.writes = (p, ty, ws) :: r →
    exec .imageWriteDone s = .next (s.imageWritten p ws ty))

/-- Security opcodes: Every accepted packet of the security group completes with its effect. Covers SEC_ATTEST, SEC_CERT_READ,
SEC_IMAGE_WRITE, SEC_KEY_REVOKE, SEC_DEBUG_CHALLENGE, SEC_DEBUG_UNLOCK, SEC_ROLLBACK. -/
def Obligations.SecurityPacketsComplete : Prop :=
  (∀ (p : Pkt) (s : State),
    let len := 4 * s.sec.report.length
    s.accepts p opSecAttest (if bitOf (p.w 0) 0 then
      [(outside (p.w 0) 1, stBAD_PARAM), (s.sec.report.isEmpty, stNOT_PERMITTED), (decide (len ≤ p.w 1), stBAD_PARAM)]
    else
      [(outside (p.w 0) 1, stBAD_PARAM), (s.get F.SEC_BLK_STAT_DBG_LEVEL = 2, stNOT_PERMITTED), (s.sec.attBusy, stBUSY)]) →
    exec (.secAttest p) s = .next (if bitOf (p.w 0) 0 then s.doneRes p (byteSlice s.sec.report (p.w 1) 4096)
      else (s.startReport (some p) ((List.range 8).map (fun i => p.w (1 + i)))).accept p)) ∧
  (∀ (p : Pkt) (s : State),
    s.accepts p opSecCertRead [(outside (p.w 0) 1, stBAD_PARAM)] →
    exec (.secCertRead p) s = .next (let c := if bitOf (p.w 0) 0 then s.mram.certSlh else s.mram.certRsa
      s.doneRes p (c.length :: packBytes ((c.drop (p.w 1)).take 4092)))) ∧
  (∀ (p : Pkt) (s : State),
    let ty := bits (p.w 0) 7 0
    let data := (p.params.drop 2).map (fun w => w.toNat)
    s.accepts p opSecImageWrite [(outside (p.w 0) 0x800000FF || !([tyLOADER, tyFIRMWARE, tyCORE_CODE, tyKEYS].contains ty) || !s.chunkFits ty (p.w 1), stBAD_PARAM)] →
    exec (.secImageWrite p) s = .next (let ws := if p.w 1 = 0 then data else s.sec.chunk ++ data
      if bitOf (p.w 0) 31 then
        (s.secI (fun v => { v with chunk := [], writes := v.writes ++ [(p, ty, ws)] })).secBusy.accept p
      else (s.secI (fun v => { v with chunk := ws, chunkType := ty })).done p stDONE)) ∧
  (∀ (p : Pkt) (s : State),
    let k := bits (p.w 0) 2 0
    s.accepts p opSecKeyRevoke [(outside (p.w 0) 7, stBAD_PARAM), (!bitOf s.otp.revoked k && (s.lastOfClass k || s.signedRunning k), stNOT_PERMITTED)] →
    exec (.secKeyRevoke p) s = .next (if bitOf s.otp.revoked k then s.done p stDONE
      else
        let t1 := { s with otp := { s.otp with revoked := putBit s.otp.revoked k true } }.otpWritten 1 k
        (t1.logCommand p 4 0 k).done p stDONE)) ∧
  (∀ (p : Pkt) (s : State),
    s.accepts p opSecDebugChallenge [] →
    exec (.secDebugChallenge p) s = .next (let r := State.drawWords 8 s
      let t1 := r.2.secI (fun v => { v with challenge := some r.1, challengeEnd := r.2.deadline 600000000 })
      t1.doneRes p (r.1 ++ [t1.otp.uid % 2 ^ 32, t1.otp.uid / 2 ^ 32 % 2 ^ 32, t1.get F.SEC_BLK_STAT_DBG_LEVEL, 0]))) ∧
  (∀ (p : Pkt) (s : State),
    let level := bits (p.w 0) 1 0
    s.accepts p opSecDebugUnlock [(outside (p.w 0) 3 || level = 0 || level = 3, stBAD_PARAM), (bitOf s.otp.cfg 1, stNOT_PERMITTED),
     (s.sec.challenge ≠ some ((List.range 8).map (fun i => p.w (1 + i))), stBAD_PARAM)] →
    exec (.secDebugUnlock p) s = .next (((s.openDebug level).logCommand p 2 level 0).done p stDONE)) ∧
  (∀ (p : Pkt) (s : State),
    let v := bits (p.w 0) 7 0
    s.accepts p opSecRollback [(outside (p.w 0) 0xFF || s.rollbackBad v, stBAD_PARAM)] →
    exec (.secRollback p) s = .next (if v = s.otp.rbCtr then s.done p stDONE
      else
        let t1 := { s with otp := { s.otp with rbCtr := v } }.otpWritten 2 v
        (t1.logCommand p 3 0 v).done p stDONE))

/-- Interrupt controller: Edges, claims, completions, pending writes and group time-outs complete with the state written out
here. Covers IRQ_EDGE, IRQ_CLAIM, IRQ_COMPLETE, IRQ_PEND_WRITE, IRQ_GROUP_TIMEOUT. -/
def Obligations.InterruptCommandsComplete : Prop :=
  (∀ (n : Nat) (s : State), irqHasLine n = true → exec (.irqEdge n none) s = .next (s.pulse n)) ∧
  (∀ (n : Nat) (l : Bool) (s : State), irqHasLine n = true → exec (.irqEdge n (some l)) s = .next (s.line n l)) ∧
  (∀ (t : Nat) (s : State), t < 8 →
    exec (.irqClaim t) s = .next { s.claim t with answer := ((s.claim t).word (F.IRQT_CLAIM_SOURCE t).addr).toNat }) ∧
  (∀ (t : Nat) (v : Word) (s : State),
    let n := bits v.toNat 8 0
    let s1 := s.setInService n false
    t < 8 → s.irqInService n = true → s.get (F.IRQS_TARGET n) = t →
    exec (.irqComplete t v) s = .next (if irqIsLevel n && s1.irqLine n then ((s1.setPend n true).setReleased n true).wakeCheck else s1)) ∧
  (∀ (k : Nat) (v : Word) (s : State),
    exec (.irqPendWrite k v) s = .next ((List.range 32).foldl (fun (t : State) b =>
      if bitOf v.toNat b && irqExists (32 * k + b) then t.edgeCore (32 * k + b) else t) s).wakeCheck) ∧
  (∀ (g : Nat) (s : State),
    (s.on (F.IRQG_HOLDING g) && decide (s.get (F.IRQG_TIME g) ≠ 0)) →
    exec (.irqGroupTimeout g) s = .next ((s.advanceTo (tabGet 0 s.irq.heldAt g + 1000 * s.get (F.IRQG_TIME g))).groupFire g))

/-- Power states: The three requests, the gating instant, the entry time-out and a wake edge complete with the state written out
here. Covers PWR_REQ_RUN, PWR_REQ_IDLE, PWR_REQ_STANDBY, STANDBY_GATE, STANDBY_ENTRY_TIMEOUT, WAKE_LATCH. -/
def Obligations.PowerCommandsComplete : Prop :=
  (∀ (s : State),
    (s.get F.IRQ_BLK_STAT_POWER = 1) →
    exec .pwrReqRun s = .next (s.put F.IRQ_BLK_STAT_POWER 0)) ∧
  (∀ (s : State),
    (s.get F.IRQ_BLK_STAT_POWER = 0) →
    exec .pwrReqIdle s = .next (s.put F.IRQ_BLK_STAT_POWER 1)) ∧
  (∀ s : State, s.get F.IRQ_BLK_STAT_POWER < 2 → s.standbyRefuse = 0 →
    exec .pwrReqStandby s = .next { (s.put F.IRQ_BLK_STAT_POWER 2).put F.IRQ_WAKE_LATCH 0 with irq := { s.irq with sensing := true } }.wakeCheck) ∧
  (∀ (s : State),
    let s0 := s.wakeCheck
    exec .standbyGate s = .next (if s0.get F.IRQ_BLK_STAT_POWER ≠ 2 then s0
    else
      let s1 := ((List.range 8).foldl State.gateAdc (s0.holdGpio.lifetimeFlush.put F.IRQ_BLK_STAT_POWER 3)).put F.ADC_BLK_STAT_REF_SETTLED 0
      { s1 with irq := { s1.irq with gateTime := s1.now }, adc := { s1.adc with settling := true } })) ∧
  (∀ (s : State),
    ¬(s.get F.IRQ_BLK_STAT_POWER ≠ 2) →
    exec .standbyEntryTimeout s = .next ((((({ s with irq := { s.irq with sensing := false } }.put F.IRQ_BLK_STAT_POWER 0).put F.PWR_STAT_REFUSE 8).raise
      bIRQ 10).answerDenied))) ∧
  (∀ (w : Nat) (s : State),
    (s.irq.sensing && decide (w < 32)) →
    exec (.wakeLatch w) s = .next ((s.put F.IRQ_WAKE_LATCH (putBit (s.get F.IRQ_WAKE_LATCH) w true)).wakeCheck))

/-- Recorder events: A queued record is written, core code submits one, lifetime values are sampled and flushed, and MRAM is
refreshed with the state written out here. Covers RECORD_WRITE, EVREC_WR_GO, LIFETIME_SAMPLE, LIFETIME_FLUSH, TIME_SYNC,
MRAM_REFRESH_SLICE. -/
def Obligations.RecorderEventsComplete : Prop :=
  (∀ (r : Rec) (q : List Rec) (s : State), s.ev.queue = r :: q → r.clear = none → r.answer = none →
    exec .recordWrite s = .next ({ s with ev := { s.ev with queue := q } }.writeRec r)) ∧
  (∀ (r : Rec) (p : Pkt) (q : List Rec) (s : State), s.ev.queue = r :: q → r.clear = none → r.answer = some p →
    exec .recordWrite s = .next (({ s with ev := { s.ev with queue := q } }.writeRec r).doneRes p [s.get F.EVREC_HEAD])) ∧
  (∀ (r : Rec) (p : Pkt) (upto key : Nat) (q : List Rec) (s : State), s.ev.queue = r :: q → r.clear = some (p, upto, key) →
    exec .recordWrite s = .next ({ s with ev := { s.ev with queue := q } }.writeClear r p upto key)) ∧
  (∀ (r : Requester) (v : Word) (s : State), s.domainOf r = 0 ∨ 0xF800 ≤ s.get F.EVREC_CODE →
    exec (.evrecWrGo r v) s = .next (s.postRec { code := s.get F.EVREC_CODE, source := s.get F.EVREC_SOURCE, dataLo := s.get F.EVREC_DATA_LO, dataHi := s.get F.EVREC_DATA_HI, sev := bits v.toNat 1 0, ext := true })) ∧
  (∀ (h : Health) (s : State),
    let s1 := (s.opSecond.noteHealth h).noteTj h.junction
    let s2 := s1.lifeInc (0x80 + 4 * tjBin h.junction)
    let s3 := (List.range 9).foldl (fun t r => t.lifeInc (0x100 + 0x40 * r + 4 * supBin (h.rails.getD r (0, 0)).1)) s2
    let s4 := s3.lifeAdd64 0x08 1
    let op := s4.opSec + 1
    let s5 := ((s4.put F.EVREC_OPSEC_LO op).put F.EVREC_OPSEC_HI (op / 2 ^ 32)).passAge op
    exec (.lifetimeSample h) s = .next ({ s5 with ev := { s5.ev with syncDue := s5.ev.syncDue || decide (op % 3600 = 0), flushDue := s5.ev.flushDue || decide (op % 60 = 0) } })) ∧
  (∀ (s : State), s.ev.flushDue = true →
    exec .lifetimeFlush s = .next { s with ev := { s.ev with flushDue := false } }.lifetimeFlush) ∧
  (∀ (s : State),
    (s.ev.syncDue) →
    exec .timeSync s = .next ({ s with ev := { s.ev with syncDue := false } }.timeSync)) ∧
  (∀ (percent : Nat) (ended : Bool) (ecc : Option (Nat × Bool)) (s : State),
    let s1 := match ecc with
    | none => s
    | some (off, true) => (s.raise bEVREC 10).post 0x0E12 1 off 0
    | some (off, false) => (s.lifeInc 0x1C).post 0x0E12 0 off 0
    exec (.mramRefreshSlice percent ended ecc) s = .next (if ended then
      let s2 := ((s1.lifeInc 0x5C).put F.EVREC_PROGRESS 0).put F.EVREC_AGE 0
      { s2 with mram := { s2.mram with passSec := s2.opSec } }
    else s1.put F.EVREC_PROGRESS (min percent 99)))

/-- Recorder opcodes: Every accepted packet of the recorder group completes with its effect. Covers REC_READ, REC_CLEAR,
REC_HEAD, LIFE_READ, REC_WRITE. -/
def Obligations.RecorderPacketsComplete : Prop :=
  (∀ (p : Pkt) (s : State),
    s.accepts p opRecRead [(bits (p.w 1) 6 0 = 0 || p.w 1 ≥ 128, stBAD_PARAM)] →
    exec (.recRead p) s = .next (s.doneRes p ([s.get F.EVREC_HEAD, s.get F.EVREC_TAIL, s.get F.EVREC_EPOCH] ++
      s.readRecs (p.w 0) (bits (p.w 1) 6 0)))) ∧
  (∀ (p : Pkt) (s : State),
    s.accepts p opRecClear [(s.sigKey p < 4, stAUTH_FAILED), (256 ≤ s.get F.EVREC_CLEARS, stNOT_PERMITTED)] →
    exec (.recClear p) s = .next (let r : Rec := { code := 0x0E11, source := 0, dataLo := 0, dataHi := 0, sev := 0 }
      s.postFor p { r with clear := some (p, p.w 0, s.sigKey p) })) ∧
  (∀ (p : Pkt) (s : State),
    s.accepts p opRecHead [] →
    exec (.recHead p) s = .next (s.doneRes p [s.get F.EVREC_HEAD, s.get F.EVREC_TAIL, s.get F.EVREC_EPOCH, s.get F.EVREC_DROP,
      s.get F.EVREC_OPSEC_LO, s.get F.EVREC_OPSEC_HI])) ∧
  (∀ (p : Pkt) (s : State),
    let area := bits (p.w 0) 1 0
    let first := bits (p.w 0) 23 16
    let count := bits (p.w 0) 30 24
    s.accepts p opLifeRead [(2 ≤ area || outside (p.w 0) 0x7FFF0003, stBAD_PARAM),
     (area = 1 && (count = 0 || decide (s.get F.EVREC_CLEARS < first + count)), stBAD_PARAM)] →
    exec (.lifeRead p) s = .next (s.doneRes p (if area = 0 then s.getWords (0x10200000 + 0x400 * (1 - s.ev.nextCopy)) 256
      else s.getWords (0x10201000 + 32 * first) (8 * count)))) ∧
  (∀ (p : Pkt) (s : State),
    let code := bits (p.w 0) 15 0
    s.accepts p opRecWrite [(code < 0xF000 || 0xF7FF < code || 4 ≤ p.w 3, stBAD_PARAM)] →
    exec (.recWrite p) s = .next (let r : Rec := { code := code, source := bits (p.w 0) 31 16, dataLo := p.w 1, dataHi := p.w 2, sev := bits (p.w 3) 1 0 }
      s.postFor p { r with ext := true, answer := some p }))

/-- Touch and connector events: A scan, a stuck key, a pin change and the connector time-outs complete with the state written out
here. Covers TOUCH_SCAN, TK_STUCK, HP_PIN_CHANGE, HP_DEBOUNCE_EXPIRY, HP_POWER_DELAY_EXPIRY, JOIN_FAIL. -/
def Obligations.OperatorEventsComplete : Prop :=
  (∀ (counts : List Nat) (s : State), s.runs = true →
    exec (.touchScan counts) s = .next ((List.range 24).foldl (fun (t : State) n => if t.on (F.TK_EN n) then t.touchMeasure n (counts.getD n 0 % 2 ^ 16) else t) s)) ∧
  (∀ (n : Nat) (s : State), s.runs = true →
    (n < 24 && s.on (F.TK_EN n) && s.pressed n && decide (s.get (F.TK_STUCK n) ≠ 0)) →
    exec (.tkStuck n) s = .next ((((s.setPressed n false).put F.OPIO_STUCK (putBit (s.get F.OPIO_STUCK) n true)).put (F.TK_BASE n) (s.get (F.TK_COUNT n))).raise bOPIO 10)) ∧
  (∀ (n : Nat) (level : Bool) (s : State),
    ¬(16 ≤ n || bitOf s.opio.raw n = level) →
    exec (.hpPinChange n level) s = .next (let s1 := { s with opio := { s.opio with raw := putBit s.opio.raw n level } }
      let s2 := if n < 8 then (s1.wakeSense (290 + n) level).wakeCheck else s1
      if s2.runs then s2.hpSee n else s2)) ∧
  (∀ (n : Nat) (s0 : State),
    let s := s0.hpSee n
    s0.runs = true →
    s.hpRuns n = true → s.get (F.HP_STATE n) = hpINSERTING → s.on (F.HP_PIN n) = true →
    exec (.hpDebounceExpiry n) s0 =
      .next ((((s.put (F.HP_STATE n) hpDELAY).line (290 + n) true).lifeInc (0x340 + 4 * n)).progTrg (2 ^ (8 + n)) 0)) ∧
  (∀ (n : Nat) (s0 : State),
    let s := s0.hpSee n
    s0.runs = true →
    s.hpRuns n = true → s.get (F.HP_STATE n) = hpREMOVING → s.on (F.HP_PIN n) = false →
    exec (.hpDebounceExpiry n) s0 = .next (((s.put (F.HP_STATE n) hpEMPTY).line (290 + n) false).progTrg (2 ^ (8 + n)) 0)) ∧
  (∀ (n : Nat) (s0 : State),
    let s := s0.hpSee n
    s0.runs = true →
    exec (.hpPowerDelayExpiry n) s0 = .next (if s.hpRuns n && decide (s.get (F.HP_STATE n) = hpDELAY) && s.on (F.HP_AUTO_PWR n) then s.hpOn n else s)) ∧
  (∀ (n : Nat) (s : State), s.runs = true →
    (s.hpRuns n && decide (s.get (F.HP_STATE n) = hpPOWERED) && decide (s.get (F.HP_JOIN_TMO n) ≠ 0)) →
    exec (.joinFail n) s = .next (s.raise bOPIO 9))

/-- Touch and connector opcodes: Every accepted packet of the operator group completes with its effect. Covers TOUCH_CONFIG,
TOUCH_STATUS, HOTPLUG_CONFIG, HOTPLUG_STATUS, HOTPLUG_POWER. -/
def Obligations.OperatorPacketsComplete : Prop :=
  (∀ (p : Pkt) (s : State),
    let n := bits (p.w 0) 4 0
    let a := bOPIO + 0x100 + 0x10 * n
    s.accepts p opTouchConfig [(23 < n || outside (p.w 0) 0x1F || outside (p.w 1) 0x8F0FFF00 || outside (p.w 3) 0x9F03FFFF, stBAD_PARAM),
     (n < 24 && s.opioLocked p a 0x0F0FFF00 0xFFFFFFFF, stNOT_PERMITTED)] →
    exec (.touchConfig p) s = .next ((s.setWords a [p.w 1, p.w 2, p.w 3]).done p stDONE)) ∧
  (∀ (p : Pkt) (s : State),
    s.accepts p opTouchStatus [(outside (p.w 0) 0x1F, stBAD_PARAM)] →
    exec (.touchStatus p) s = .next (s.doneRes p (s.getWords (bOPIO + 0x64) 2 ++ (List.range 24).map (fun n => (s.word (bOPIO + 0x10C + 0x10 * n)).toNat)))) ∧
  (∀ (p : Pkt) (s : State),
    let n := bits (p.w 0) 4 0
    let a := bOPIO + 0x400 + 0x10 * n
    s.accepts p opHotplugConfig [(15 < n || outside (p.w 0) 0x1F || outside (p.w 1) 0xE0FFFFFF || outside (p.w 2) 0xFF00FFFF, stBAD_PARAM),
     (n < 16 && s.opioLocked p a 0x60FFFFFF 0xFF00FFFF, stNOT_PERMITTED)] →
    exec (.hotplugConfig p) s = .next (((s.setWords a [p.w 1, p.w 2]).hpSee n).done p stDONE)) ∧
  (∀ (p : Pkt) (s : State),
    s.accepts p opHotplugStatus [(outside (p.w 0) 0x1F, stBAD_PARAM)] →
    exec (.hotplugStatus p) s = .next (s.doneRes p ((List.range 16).map (fun n => (s.word (bOPIO + 0x408 + 0x10 * n)).toNat)))) ∧
  (∀ (p : Pkt) (s : State),
    let n := bits (p.w 0) 4 0
    let on := bitOf (p.w 1) 0
    let st := s.get (F.HP_STATE n)
    let lit := decide (st = hpPOWERED) || decide (st = hpJOINED)
    s.accepts p opHotplugPower [(15 < n || outside (p.w 0) 0x1F || outside (p.w 1) 1, stBAD_PARAM),
     (n < 16 && on && !(s.hpRuns n && decide (st = hpDELAY)), stNOT_PERMITTED),
     (!on && lit && s.hpCloses n, stLOOP_CLOSED)] →
    exec (.hotplugPower p) s = .next ((if on then s.hpOn n else if lit then (s.put (F.HP_STATE n) hpDELAY).hpDrop n else s).done p stDONE))
end

