-- ==== Sys2Proof/Laws/State.lean ====
section
/-! SUPPORT. What each update of State leaves alone: one lemma per field per update, true by unfolding. -/

namespace Sys2Proof.Machine

@[simp] theorem State.setWord_free (s : State) (a : Nat) (v : Word) : (s.setWord a v).free = s.free := rfl
@[simp] theorem State.setWord_answer (s : State) (a : Nat) (v : Word) : (s.setWord a v).answer = s.answer := rfl
@[simp] theorem State.setWord_pairRd (s : State) (a : Nat) (v : Word) : (s.setWord a v).pairRd = s.pairRd := rfl
@[simp] theorem State.setWord_pairWr (s : State) (a : Nat) (v : Word) : (s.setWord a v).pairWr = s.pairWr := rfl
@[simp] theorem State.setWord_commits (s : State) (a : Nat) (v : Word) : (s.setWord a v).commits = s.commits := rfl
@[simp] theorem State.setWord_sys (s : State) (a : Nat) (v : Word) : (s.setWord a v).sys = s.sys := rfl
@[simp] theorem State.setWord_host (s : State) (a : Nat) (v : Word) : (s.setWord a v).host = s.host := rfl
@[simp] theorem State.setWord_ev (s : State) (a : Nat) (v : Word) : (s.setWord a v).ev = s.ev := rfl
@[simp] theorem State.setWord_irq (s : State) (a : Nat) (v : Word) : (s.setWord a v).irq = s.irq := rfl
@[simp] theorem State.setWord_time (s : State) (a : Nat) (v : Word) : (s.setWord a v).time = s.time := rfl
@[simp] theorem State.setWord_otp (s : State) (a : Nat) (v : Word) : (s.setWord a v).otp = s.otp := rfl
@[simp] theorem State.setWord_mram (s : State) (a : Nat) (v : Word) : (s.setWord a v).mram = s.mram := rfl
@[simp] theorem State.setWord_adc (s : State) (a : Nat) (v : Word) : (s.setWord a v).adc = s.adc := rfl
@[simp] theorem State.setWord_sched (s : State) (a : Nat) (v : Word) : (s.setWord a v).sched = s.sched := rfl
@[simp] theorem State.setWord_pwm (s : State) (a : Nat) (v : Word) : (s.setWord a v).pwm = s.pwm := rfl
@[simp] theorem State.setWord_loop (s : State) (a : Nat) (v : Word) : (s.setWord a v).loop = s.loop := rfl
@[simp] theorem State.setWord_motion (s : State) (a : Nat) (v : Word) : (s.setWord a v).motion = s.motion := rfl
@[simp] theorem State.setWord_ring (s : State) (a : Nat) (v : Word) : (s.setWord a v).ring = s.ring := rfl
@[simp] theorem State.setWord_prog (s : State) (a : Nat) (v : Word) : (s.setWord a v).prog = s.prog := rfl
@[simp] theorem State.setWord_splice (s : State) (a : Nat) (v : Word) : (s.setWord a v).splice = s.splice := rfl
@[simp] theorem State.setWord_lash (s : State) (a : Nat) (v : Word) : (s.setWord a v).lash = s.lash := rfl
@[simp] theorem State.setWord_sec (s : State) (a : Nat) (v : Word) : (s.setWord a v).sec = s.sec := rfl
@[simp] theorem State.setWord_can (s : State) (a : Nat) (v : Word) : (s.setWord a v).can = s.can := rfl
@[simp] theorem State.setWord_sto (s : State) (a : Nat) (v : Word) : (s.setWord a v).sto = s.sto := rfl
@[simp] theorem State.setWord_acq (s : State) (a : Nat) (v : Word) : (s.setWord a v).acq = s.acq := rfl
@[simp] theorem State.setWord_opio (s : State) (a : Nat) (v : Word) : (s.setWord a v).opio = s.opio := rfl
@[simp] theorem State.setWord_pending (s : State) (a : Nat) (v : Word) : (s.setWord a v).pending = s.pending := rfl

@[simp] theorem State.put_free (s : State) (f : Fld) (v : Nat) : (s.put f v).free = s.free := rfl
@[simp] theorem State.put_answer (s : State) (f : Fld) (v : Nat) : (s.put f v).answer = s.answer := rfl
@[simp] theorem State.put_pairRd (s : State) (f : Fld) (v : Nat) : (s.put f v).pairRd = s.pairRd := rfl
@[simp] theorem State.put_pairWr (s : State) (f : Fld) (v : Nat) : (s.put f v).pairWr = s.pairWr := rfl
@[simp] theorem State.put_commits (s : State) (f : Fld) (v : Nat) : (s.put f v).commits = s.commits := rfl
@[simp] theorem State.put_sys (s : State) (f : Fld) (v : Nat) : (s.put f v).sys = s.sys := rfl
@[simp] theorem State.put_host (s : State) (f : Fld) (v : Nat) : (s.put f v).host = s.host := rfl
@[simp] theorem State.put_ev (s : State) (f : Fld) (v : Nat) : (s.put f v).ev = s.ev := rfl
@[simp] theorem State.put_irq (s : State) (f : Fld) (v : Nat) : (s.put f v).irq = s.irq := rfl
@[simp] theorem State.put_time (s : State) (f : Fld) (v : Nat) : (s.put f v).time = s.time := rfl
@[simp] theorem State.put_otp (s : State) (f : Fld) (v : Nat) : (s.put f v).otp = s.otp := rfl
@[simp] theorem State.put_mram (s : State) (f : Fld) (v : Nat) : (s.put f v).mram = s.mram := rfl
@[simp] theorem State.put_adc (s : State) (f : Fld) (v : Nat) : (s.put f v).adc = s.adc := rfl
@[simp] theorem State.put_sched (s : State) (f : Fld) (v : Nat) : (s.put f v).sched = s.sched := rfl
@[simp] theorem State.put_pwm (s : State) (f : Fld) (v : Nat) : (s.put f v).pwm = s.pwm := rfl
@[simp] theorem State.put_loop (s : State) (f : Fld) (v : Nat) : (s.put f v).loop = s.loop := rfl
@[simp] theorem State.put_motion (s : State) (f : Fld) (v : Nat) : (s.put f v).motion = s.motion := rfl
@[simp] theorem State.put_ring (s : State) (f : Fld) (v : Nat) : (s.put f v).ring = s.ring := rfl
@[simp] theorem State.put_prog (s : State) (f : Fld) (v : Nat) : (s.put f v).prog = s.prog := rfl
@[simp] theorem State.put_splice (s : State) (f : Fld) (v : Nat) : (s.put f v).splice = s.splice := rfl
@[simp] theorem State.put_lash (s : State) (f : Fld) (v : Nat) : (s.put f v).lash = s.lash := rfl
@[simp] theorem State.put_sec (s : State) (f : Fld) (v : Nat) : (s.put f v).sec = s.sec := rfl
@[simp] theorem State.put_can (s : State) (f : Fld) (v : Nat) : (s.put f v).can = s.can := rfl
@[simp] theorem State.put_sto (s : State) (f : Fld) (v : Nat) : (s.put f v).sto = s.sto := rfl
@[simp] theorem State.put_acq (s : State) (f : Fld) (v : Nat) : (s.put f v).acq = s.acq := rfl
@[simp] theorem State.put_opio (s : State) (f : Fld) (v : Nat) : (s.put f v).opio = s.opio := rfl
@[simp] theorem State.put_pending (s : State) (f : Fld) (v : Nat) : (s.put f v).pending = s.pending := rfl

@[simp] theorem State.put64_free (s : State) (f : Fld) (v : Nat) : (s.put64 f v).free = s.free := rfl
@[simp] theorem State.put64_answer (s : State) (f : Fld) (v : Nat) : (s.put64 f v).answer = s.answer := rfl
@[simp] theorem State.put64_pairRd (s : State) (f : Fld) (v : Nat) : (s.put64 f v).pairRd = s.pairRd := rfl
@[simp] theorem State.put64_pairWr (s : State) (f : Fld) (v : Nat) : (s.put64 f v).pairWr = s.pairWr := rfl
@[simp] theorem State.put64_commits (s : State) (f : Fld) (v : Nat) : (s.put64 f v).commits = s.commits := rfl
@[simp] theorem State.put64_sys (s : State) (f : Fld) (v : Nat) : (s.put64 f v).sys = s.sys := rfl
@[simp] theorem State.put64_host (s : State) (f : Fld) (v : Nat) : (s.put64 f v).host = s.host := rfl
@[simp] theorem State.put64_ev (s : State) (f : Fld) (v : Nat) : (s.put64 f v).ev = s.ev := rfl
@[simp] theorem State.put64_irq (s : State) (f : Fld) (v : Nat) : (s.put64 f v).irq = s.irq := rfl
@[simp] theorem State.put64_time (s : State) (f : Fld) (v : Nat) : (s.put64 f v).time = s.time := rfl
@[simp] theorem State.put64_otp (s : State) (f : Fld) (v : Nat) : (s.put64 f v).otp = s.otp := rfl
@[simp] theorem State.put64_mram (s : State) (f : Fld) (v : Nat) : (s.put64 f v).mram = s.mram := rfl
@[simp] theorem State.put64_adc (s : State) (f : Fld) (v : Nat) : (s.put64 f v).adc = s.adc := rfl
@[simp] theorem State.put64_sched (s : State) (f : Fld) (v : Nat) : (s.put64 f v).sched = s.sched := rfl
@[simp] theorem State.put64_pwm (s : State) (f : Fld) (v : Nat) : (s.put64 f v).pwm = s.pwm := rfl
@[simp] theorem State.put64_loop (s : State) (f : Fld) (v : Nat) : (s.put64 f v).loop = s.loop := rfl
@[simp] theorem State.put64_motion (s : State) (f : Fld) (v : Nat) : (s.put64 f v).motion = s.motion := rfl
@[simp] theorem State.put64_ring (s : State) (f : Fld) (v : Nat) : (s.put64 f v).ring = s.ring := rfl
@[simp] theorem State.put64_prog (s : State) (f : Fld) (v : Nat) : (s.put64 f v).prog = s.prog := rfl
@[simp] theorem State.put64_splice (s : State) (f : Fld) (v : Nat) : (s.put64 f v).splice = s.splice := rfl
@[simp] theorem State.put64_lash (s : State) (f : Fld) (v : Nat) : (s.put64 f v).lash = s.lash := rfl
@[simp] theorem State.put64_sec (s : State) (f : Fld) (v : Nat) : (s.put64 f v).sec = s.sec := rfl
@[simp] theorem State.put64_can (s : State) (f : Fld) (v : Nat) : (s.put64 f v).can = s.can := rfl
@[simp] theorem State.put64_sto (s : State) (f : Fld) (v : Nat) : (s.put64 f v).sto = s.sto := rfl
@[simp] theorem State.put64_acq (s : State) (f : Fld) (v : Nat) : (s.put64 f v).acq = s.acq := rfl
@[simp] theorem State.put64_opio (s : State) (f : Fld) (v : Nat) : (s.put64 f v).opio = s.opio := rfl
@[simp] theorem State.put64_pending (s : State) (f : Fld) (v : Nat) : (s.put64 f v).pending = s.pending := rfl

@[simp] theorem State.puti_free (s : State) (f : Fld) (v : Int) : (s.puti f v).free = s.free := rfl
@[simp] theorem State.puti_answer (s : State) (f : Fld) (v : Int) : (s.puti f v).answer = s.answer := rfl
@[simp] theorem State.puti_pairRd (s : State) (f : Fld) (v : Int) : (s.puti f v).pairRd = s.pairRd := rfl
@[simp] theorem State.puti_pairWr (s : State) (f : Fld) (v : Int) : (s.puti f v).pairWr = s.pairWr := rfl
@[simp] theorem State.puti_commits (s : State) (f : Fld) (v : Int) : (s.puti f v).commits = s.commits := rfl
@[simp] theorem State.puti_sys (s : State) (f : Fld) (v : Int) : (s.puti f v).sys = s.sys := rfl
@[simp] theorem State.puti_host (s : State) (f : Fld) (v : Int) : (s.puti f v).host = s.host := rfl
@[simp] theorem State.puti_ev (s : State) (f : Fld) (v : Int) : (s.puti f v).ev = s.ev := rfl
@[simp] theorem State.puti_irq (s : State) (f : Fld) (v : Int) : (s.puti f v).irq = s.irq := rfl
@[simp] theorem State.puti_time (s : State) (f : Fld) (v : Int) : (s.puti f v).time = s.time := rfl
@[simp] theorem State.puti_otp (s : State) (f : Fld) (v : Int) : (s.puti f v).otp = s.otp := rfl
@[simp] theorem State.puti_mram (s : State) (f : Fld) (v : Int) : (s.puti f v).mram = s.mram := rfl
@[simp] theorem State.puti_adc (s : State) (f : Fld) (v : Int) : (s.puti f v).adc = s.adc := rfl
@[simp] theorem State.puti_sched (s : State) (f : Fld) (v : Int) : (s.puti f v).sched = s.sched := rfl
@[simp] theorem State.puti_pwm (s : State) (f : Fld) (v : Int) : (s.puti f v).pwm = s.pwm := rfl
@[simp] theorem State.puti_loop (s : State) (f : Fld) (v : Int) : (s.puti f v).loop = s.loop := rfl
@[simp] theorem State.puti_motion (s : State) (f : Fld) (v : Int) : (s.puti f v).motion = s.motion := rfl
@[simp] theorem State.puti_ring (s : State) (f : Fld) (v : Int) : (s.puti f v).ring = s.ring := rfl
@[simp] theorem State.puti_prog (s : State) (f : Fld) (v : Int) : (s.puti f v).prog = s.prog := rfl
@[simp] theorem State.puti_splice (s : State) (f : Fld) (v : Int) : (s.puti f v).splice = s.splice := rfl
@[simp] theorem State.puti_lash (s : State) (f : Fld) (v : Int) : (s.puti f v).lash = s.lash := rfl
@[simp] theorem State.puti_sec (s : State) (f : Fld) (v : Int) : (s.puti f v).sec = s.sec := rfl
@[simp] theorem State.puti_can (s : State) (f : Fld) (v : Int) : (s.puti f v).can = s.can := rfl
@[simp] theorem State.puti_sto (s : State) (f : Fld) (v : Int) : (s.puti f v).sto = s.sto := rfl
@[simp] theorem State.puti_acq (s : State) (f : Fld) (v : Int) : (s.puti f v).acq = s.acq := rfl
@[simp] theorem State.puti_opio (s : State) (f : Fld) (v : Int) : (s.puti f v).opio = s.opio := rfl
@[simp] theorem State.puti_pending (s : State) (f : Fld) (v : Int) : (s.puti f v).pending = s.pending := rfl

@[simp] theorem State.puti64_free (s : State) (f : Fld) (v : Int) : (s.puti64 f v).free = s.free := rfl
@[simp] theorem State.puti64_answer (s : State) (f : Fld) (v : Int) : (s.puti64 f v).answer = s.answer := rfl
@[simp] theorem State.puti64_pairRd (s : State) (f : Fld) (v : Int) : (s.puti64 f v).pairRd = s.pairRd := rfl
@[simp] theorem State.puti64_pairWr (s : State) (f : Fld) (v : Int) : (s.puti64 f v).pairWr = s.pairWr := rfl
@[simp] theorem State.puti64_commits (s : State) (f : Fld) (v : Int) : (s.puti64 f v).commits = s.commits := rfl
@[simp] theorem State.puti64_sys (s : State) (f : Fld) (v : Int) : (s.puti64 f v).sys = s.sys := rfl
@[simp] theorem State.puti64_host (s : State) (f : Fld) (v : Int) : (s.puti64 f v).host = s.host := rfl
@[simp] theorem State.puti64_ev (s : State) (f : Fld) (v : Int) : (s.puti64 f v).ev = s.ev := rfl
@[simp] theorem State.puti64_irq (s : State) (f : Fld) (v : Int) : (s.puti64 f v).irq = s.irq := rfl
@[simp] theorem State.puti64_time (s : State) (f : Fld) (v : Int) : (s.puti64 f v).time = s.time := rfl
@[simp] theorem State.puti64_otp (s : State) (f : Fld) (v : Int) : (s.puti64 f v).otp = s.otp := rfl
@[simp] theorem State.puti64_mram (s : State) (f : Fld) (v : Int) : (s.puti64 f v).mram = s.mram := rfl
@[simp] theorem State.puti64_adc (s : State) (f : Fld) (v : Int) : (s.puti64 f v).adc = s.adc := rfl
@[simp] theorem State.puti64_sched (s : State) (f : Fld) (v : Int) : (s.puti64 f v).sched = s.sched := rfl
@[simp] theorem State.puti64_pwm (s : State) (f : Fld) (v : Int) : (s.puti64 f v).pwm = s.pwm := rfl
@[simp] theorem State.puti64_loop (s : State) (f : Fld) (v : Int) : (s.puti64 f v).loop = s.loop := rfl
@[simp] theorem State.puti64_motion (s : State) (f : Fld) (v : Int) : (s.puti64 f v).motion = s.motion := rfl
@[simp] theorem State.puti64_ring (s : State) (f : Fld) (v : Int) : (s.puti64 f v).ring = s.ring := rfl
@[simp] theorem State.puti64_prog (s : State) (f : Fld) (v : Int) : (s.puti64 f v).prog = s.prog := rfl
@[simp] theorem State.puti64_splice (s : State) (f : Fld) (v : Int) : (s.puti64 f v).splice = s.splice := rfl
@[simp] theorem State.puti64_lash (s : State) (f : Fld) (v : Int) : (s.puti64 f v).lash = s.lash := rfl
@[simp] theorem State.puti64_sec (s : State) (f : Fld) (v : Int) : (s.puti64 f v).sec = s.sec := rfl
@[simp] theorem State.puti64_can (s : State) (f : Fld) (v : Int) : (s.puti64 f v).can = s.can := rfl
@[simp] theorem State.puti64_sto (s : State) (f : Fld) (v : Int) : (s.puti64 f v).sto = s.sto := rfl
@[simp] theorem State.puti64_acq (s : State) (f : Fld) (v : Int) : (s.puti64 f v).acq = s.acq := rfl
@[simp] theorem State.puti64_opio (s : State) (f : Fld) (v : Int) : (s.puti64 f v).opio = s.opio := rfl
@[simp] theorem State.puti64_pending (s : State) (f : Fld) (v : Int) : (s.puti64 f v).pending = s.pending := rfl

@[simp] theorem State.incSat_free (s : State) (f : Fld) : (s.incSat f).free = s.free := rfl
@[simp] theorem State.incSat_answer (s : State) (f : Fld) : (s.incSat f).answer = s.answer := rfl
@[simp] theorem State.incSat_pairRd (s : State) (f : Fld) : (s.incSat f).pairRd = s.pairRd := rfl
@[simp] theorem State.incSat_pairWr (s : State) (f : Fld) : (s.incSat f).pairWr = s.pairWr := rfl
@[simp] theorem State.incSat_commits (s : State) (f : Fld) : (s.incSat f).commits = s.commits := rfl
@[simp] theorem State.incSat_sys (s : State) (f : Fld) : (s.incSat f).sys = s.sys := rfl
@[simp] theorem State.incSat_host (s : State) (f : Fld) : (s.incSat f).host = s.host := rfl
@[simp] theorem State.incSat_ev (s : State) (f : Fld) : (s.incSat f).ev = s.ev := rfl
@[simp] theorem State.incSat_irq (s : State) (f : Fld) : (s.incSat f).irq = s.irq := rfl
@[simp] theorem State.incSat_time (s : State) (f : Fld) : (s.incSat f).time = s.time := rfl
@[simp] theorem State.incSat_otp (s : State) (f : Fld) : (s.incSat f).otp = s.otp := rfl
@[simp] theorem State.incSat_mram (s : State) (f : Fld) : (s.incSat f).mram = s.mram := rfl
@[simp] theorem State.incSat_adc (s : State) (f : Fld) : (s.incSat f).adc = s.adc := rfl
@[simp] theorem State.incSat_sched (s : State) (f : Fld) : (s.incSat f).sched = s.sched := rfl
@[simp] theorem State.incSat_pwm (s : State) (f : Fld) : (s.incSat f).pwm = s.pwm := rfl
@[simp] theorem State.incSat_loop (s : State) (f : Fld) : (s.incSat f).loop = s.loop := rfl
@[simp] theorem State.incSat_motion (s : State) (f : Fld) : (s.incSat f).motion = s.motion := rfl
@[simp] theorem State.incSat_ring (s : State) (f : Fld) : (s.incSat f).ring = s.ring := rfl
@[simp] theorem State.incSat_prog (s : State) (f : Fld) : (s.incSat f).prog = s.prog := rfl
@[simp] theorem State.incSat_splice (s : State) (f : Fld) : (s.incSat f).splice = s.splice := rfl
@[simp] theorem State.incSat_lash (s : State) (f : Fld) : (s.incSat f).lash = s.lash := rfl
@[simp] theorem State.incSat_sec (s : State) (f : Fld) : (s.incSat f).sec = s.sec := rfl
@[simp] theorem State.incSat_can (s : State) (f : Fld) : (s.incSat f).can = s.can := rfl
@[simp] theorem State.incSat_sto (s : State) (f : Fld) : (s.incSat f).sto = s.sto := rfl
@[simp] theorem State.incSat_acq (s : State) (f : Fld) : (s.incSat f).acq = s.acq := rfl
@[simp] theorem State.incSat_opio (s : State) (f : Fld) : (s.incSat f).opio = s.opio := rfl
@[simp] theorem State.incSat_pending (s : State) (f : Fld) : (s.incSat f).pending = s.pending := rfl

@[simp] theorem State.incWrap_free (s : State) (f : Fld) : (s.incWrap f).free = s.free := rfl
@[simp] theorem State.incWrap_answer (s : State) (f : Fld) : (s.incWrap f).answer = s.answer := rfl
@[simp] theorem State.incWrap_pairRd (s : State) (f : Fld) : (s.incWrap f).pairRd = s.pairRd := rfl
@[simp] theorem State.incWrap_pairWr (s : State) (f : Fld) : (s.incWrap f).pairWr = s.pairWr := rfl
@[simp] theorem State.incWrap_commits (s : State) (f : Fld) : (s.incWrap f).commits = s.commits := rfl
@[simp] theorem State.incWrap_sys (s : State) (f : Fld) : (s.incWrap f).sys = s.sys := rfl
@[simp] theorem State.incWrap_host (s : State) (f : Fld) : (s.incWrap f).host = s.host := rfl
@[simp] theorem State.incWrap_ev (s : State) (f : Fld) : (s.incWrap f).ev = s.ev := rfl
@[simp] theorem State.incWrap_irq (s : State) (f : Fld) : (s.incWrap f).irq = s.irq := rfl
@[simp] theorem State.incWrap_time (s : State) (f : Fld) : (s.incWrap f).time = s.time := rfl
@[simp] theorem State.incWrap_otp (s : State) (f : Fld) : (s.incWrap f).otp = s.otp := rfl
@[simp] theorem State.incWrap_mram (s : State) (f : Fld) : (s.incWrap f).mram = s.mram := rfl
@[simp] theorem State.incWrap_adc (s : State) (f : Fld) : (s.incWrap f).adc = s.adc := rfl
@[simp] theorem State.incWrap_sched (s : State) (f : Fld) : (s.incWrap f).sched = s.sched := rfl
@[simp] theorem State.incWrap_pwm (s : State) (f : Fld) : (s.incWrap f).pwm = s.pwm := rfl
@[simp] theorem State.incWrap_loop (s : State) (f : Fld) : (s.incWrap f).loop = s.loop := rfl
@[simp] theorem State.incWrap_motion (s : State) (f : Fld) : (s.incWrap f).motion = s.motion := rfl
@[simp] theorem State.incWrap_ring (s : State) (f : Fld) : (s.incWrap f).ring = s.ring := rfl
@[simp] theorem State.incWrap_prog (s : State) (f : Fld) : (s.incWrap f).prog = s.prog := rfl
@[simp] theorem State.incWrap_splice (s : State) (f : Fld) : (s.incWrap f).splice = s.splice := rfl
@[simp] theorem State.incWrap_lash (s : State) (f : Fld) : (s.incWrap f).lash = s.lash := rfl
@[simp] theorem State.incWrap_sec (s : State) (f : Fld) : (s.incWrap f).sec = s.sec := rfl
@[simp] theorem State.incWrap_can (s : State) (f : Fld) : (s.incWrap f).can = s.can := rfl
@[simp] theorem State.incWrap_sto (s : State) (f : Fld) : (s.incWrap f).sto = s.sto := rfl
@[simp] theorem State.incWrap_acq (s : State) (f : Fld) : (s.incWrap f).acq = s.acq := rfl
@[simp] theorem State.incWrap_opio (s : State) (f : Fld) : (s.incWrap f).opio = s.opio := rfl
@[simp] theorem State.incWrap_pending (s : State) (f : Fld) : (s.incWrap f).pending = s.pending := rfl

@[simp] theorem State.activate_free (s : State) (f : Fld) : (s.activate f).free = s.free := rfl
@[simp] theorem State.activate_answer (s : State) (f : Fld) : (s.activate f).answer = s.answer := rfl
@[simp] theorem State.activate_pairRd (s : State) (f : Fld) : (s.activate f).pairRd = s.pairRd := rfl
@[simp] theorem State.activate_pairWr (s : State) (f : Fld) : (s.activate f).pairWr = s.pairWr := rfl
@[simp] theorem State.activate_commits (s : State) (f : Fld) : (s.activate f).commits = s.commits := rfl
@[simp] theorem State.activate_sys (s : State) (f : Fld) : (s.activate f).sys = s.sys := rfl
@[simp] theorem State.activate_host (s : State) (f : Fld) : (s.activate f).host = s.host := rfl
@[simp] theorem State.activate_ev (s : State) (f : Fld) : (s.activate f).ev = s.ev := rfl
@[simp] theorem State.activate_irq (s : State) (f : Fld) : (s.activate f).irq = s.irq := rfl
@[simp] theorem State.activate_time (s : State) (f : Fld) : (s.activate f).time = s.time := rfl
@[simp] theorem State.activate_otp (s : State) (f : Fld) : (s.activate f).otp = s.otp := rfl
@[simp] theorem State.activate_mram (s : State) (f : Fld) : (s.activate f).mram = s.mram := rfl
@[simp] theorem State.activate_adc (s : State) (f : Fld) : (s.activate f).adc = s.adc := rfl
@[simp] theorem State.activate_sched (s : State) (f : Fld) : (s.activate f).sched = s.sched := rfl
@[simp] theorem State.activate_pwm (s : State) (f : Fld) : (s.activate f).pwm = s.pwm := rfl
@[simp] theorem State.activate_loop (s : State) (f : Fld) : (s.activate f).loop = s.loop := rfl
@[simp] theorem State.activate_motion (s : State) (f : Fld) : (s.activate f).motion = s.motion := rfl
@[simp] theorem State.activate_ring (s : State) (f : Fld) : (s.activate f).ring = s.ring := rfl
@[simp] theorem State.activate_prog (s : State) (f : Fld) : (s.activate f).prog = s.prog := rfl
@[simp] theorem State.activate_splice (s : State) (f : Fld) : (s.activate f).splice = s.splice := rfl
@[simp] theorem State.activate_lash (s : State) (f : Fld) : (s.activate f).lash = s.lash := rfl
@[simp] theorem State.activate_sec (s : State) (f : Fld) : (s.activate f).sec = s.sec := rfl
@[simp] theorem State.activate_can (s : State) (f : Fld) : (s.activate f).can = s.can := rfl
@[simp] theorem State.activate_sto (s : State) (f : Fld) : (s.activate f).sto = s.sto := rfl
@[simp] theorem State.activate_acq (s : State) (f : Fld) : (s.activate f).acq = s.acq := rfl
@[simp] theorem State.activate_opio (s : State) (f : Fld) : (s.activate f).opio = s.opio := rfl
@[simp] theorem State.activate_pending (s : State) (f : Fld) : (s.activate f).pending = s.pending := rfl

@[simp] theorem State.setPend_free (s : State) (n : Nat) (b : Bool) : (s.setPend n b).free = s.free := rfl
@[simp] theorem State.setPend_answer (s : State) (n : Nat) (b : Bool) : (s.setPend n b).answer = s.answer := rfl
@[simp] theorem State.setPend_pairRd (s : State) (n : Nat) (b : Bool) : (s.setPend n b).pairRd = s.pairRd := rfl
@[simp] theorem State.setPend_pairWr (s : State) (n : Nat) (b : Bool) : (s.setPend n b).pairWr = s.pairWr := rfl
@[simp] theorem State.setPend_commits (s : State) (n : Nat) (b : Bool) : (s.setPend n b).commits = s.commits := rfl
@[simp] theorem State.setPend_sys (s : State) (n : Nat) (b : Bool) : (s.setPend n b).sys = s.sys := rfl
@[simp] theorem State.setPend_host (s : State) (n : Nat) (b : Bool) : (s.setPend n b).host = s.host := rfl
@[simp] theorem State.setPend_ev (s : State) (n : Nat) (b : Bool) : (s.setPend n b).ev = s.ev := rfl
@[simp] theorem State.setPend_irq (s : State) (n : Nat) (b : Bool) : (s.setPend n b).irq = s.irq := rfl
@[simp] theorem State.setPend_time (s : State) (n : Nat) (b : Bool) : (s.setPend n b).time = s.time := rfl
@[simp] theorem State.setPend_otp (s : State) (n : Nat) (b : Bool) : (s.setPend n b).otp = s.otp := rfl
@[simp] theorem State.setPend_mram (s : State) (n : Nat) (b : Bool) : (s.setPend n b).mram = s.mram := rfl
@[simp] theorem State.setPend_adc (s : State) (n : Nat) (b : Bool) : (s.setPend n b).adc = s.adc := rfl
@[simp] theorem State.setPend_sched (s : State) (n : Nat) (b : Bool) : (s.setPend n b).sched = s.sched := rfl
@[simp] theorem State.setPend_pwm (s : State) (n : Nat) (b : Bool) : (s.setPend n b).pwm = s.pwm := rfl
@[simp] theorem State.setPend_loop (s : State) (n : Nat) (b : Bool) : (s.setPend n b).loop = s.loop := rfl
@[simp] theorem State.setPend_motion (s : State) (n : Nat) (b : Bool) : (s.setPend n b).motion = s.motion := rfl
@[simp] theorem State.setPend_ring (s : State) (n : Nat) (b : Bool) : (s.setPend n b).ring = s.ring := rfl
@[simp] theorem State.setPend_prog (s : State) (n : Nat) (b : Bool) : (s.setPend n b).prog = s.prog := rfl
@[simp] theorem State.setPend_splice (s : State) (n : Nat) (b : Bool) : (s.setPend n b).splice = s.splice := rfl
@[simp] theorem State.setPend_lash (s : State) (n : Nat) (b : Bool) : (s.setPend n b).lash = s.lash := rfl
@[simp] theorem State.setPend_sec (s : State) (n : Nat) (b : Bool) : (s.setPend n b).sec = s.sec := rfl
@[simp] theorem State.setPend_can (s : State) (n : Nat) (b : Bool) : (s.setPend n b).can = s.can := rfl
@[simp] theorem State.setPend_sto (s : State) (n : Nat) (b : Bool) : (s.setPend n b).sto = s.sto := rfl
@[simp] theorem State.setPend_acq (s : State) (n : Nat) (b : Bool) : (s.setPend n b).acq = s.acq := rfl
@[simp] theorem State.setPend_opio (s : State) (n : Nat) (b : Bool) : (s.setPend n b).opio = s.opio := rfl
@[simp] theorem State.setPend_pending (s : State) (n : Nat) (b : Bool) : (s.setPend n b).pending = s.pending := rfl

@[simp] theorem State.setInService_free (s : State) (n : Nat) (b : Bool) : (s.setInService n b).free = s.free := rfl
@[simp] theorem State.setInService_answer (s : State) (n : Nat) (b : Bool) : (s.setInService n b).answer = s.answer := rfl
@[simp] theorem State.setInService_pairRd (s : State) (n : Nat) (b : Bool) : (s.setInService n b).pairRd = s.pairRd := rfl
@[simp] theorem State.setInService_pairWr (s : State) (n : Nat) (b : Bool) : (s.setInService n b).pairWr = s.pairWr := rfl
@[simp] theorem State.setInService_commits (s : State) (n : Nat) (b : Bool) : (s.setInService n b).commits = s.commits := rfl
@[simp] theorem State.setInService_sys (s : State) (n : Nat) (b : Bool) : (s.setInService n b).sys = s.sys := rfl
@[simp] theorem State.setInService_host (s : State) (n : Nat) (b : Bool) : (s.setInService n b).host = s.host := rfl
@[simp] theorem State.setInService_ev (s : State) (n : Nat) (b : Bool) : (s.setInService n b).ev = s.ev := rfl
@[simp] theorem State.setInService_irq (s : State) (n : Nat) (b : Bool) : (s.setInService n b).irq = s.irq := rfl
@[simp] theorem State.setInService_time (s : State) (n : Nat) (b : Bool) : (s.setInService n b).time = s.time := rfl
@[simp] theorem State.setInService_otp (s : State) (n : Nat) (b : Bool) : (s.setInService n b).otp = s.otp := rfl
@[simp] theorem State.setInService_mram (s : State) (n : Nat) (b : Bool) : (s.setInService n b).mram = s.mram := rfl
@[simp] theorem State.setInService_adc (s : State) (n : Nat) (b : Bool) : (s.setInService n b).adc = s.adc := rfl
@[simp] theorem State.setInService_sched (s : State) (n : Nat) (b : Bool) : (s.setInService n b).sched = s.sched := rfl
@[simp] theorem State.setInService_pwm (s : State) (n : Nat) (b : Bool) : (s.setInService n b).pwm = s.pwm := rfl
@[simp] theorem State.setInService_loop (s : State) (n : Nat) (b : Bool) : (s.setInService n b).loop = s.loop := rfl
@[simp] theorem State.setInService_motion (s : State) (n : Nat) (b : Bool) : (s.setInService n b).motion = s.motion := rfl
@[simp] theorem State.setInService_ring (s : State) (n : Nat) (b : Bool) : (s.setInService n b).ring = s.ring := rfl
@[simp] theorem State.setInService_prog (s : State) (n : Nat) (b : Bool) : (s.setInService n b).prog = s.prog := rfl
@[simp] theorem State.setInService_splice (s : State) (n : Nat) (b : Bool) : (s.setInService n b).splice = s.splice := rfl
@[simp] theorem State.setInService_lash (s : State) (n : Nat) (b : Bool) : (s.setInService n b).lash = s.lash := rfl
@[simp] theorem State.setInService_sec (s : State) (n : Nat) (b : Bool) : (s.setInService n b).sec = s.sec := rfl
@[simp] theorem State.setInService_can (s : State) (n : Nat) (b : Bool) : (s.setInService n b).can = s.can := rfl
@[simp] theorem State.setInService_sto (s : State) (n : Nat) (b : Bool) : (s.setInService n b).sto = s.sto := rfl
@[simp] theorem State.setInService_acq (s : State) (n : Nat) (b : Bool) : (s.setInService n b).acq = s.acq := rfl
@[simp] theorem State.setInService_opio (s : State) (n : Nat) (b : Bool) : (s.setInService n b).opio = s.opio := rfl
@[simp] theorem State.setInService_pending (s : State) (n : Nat) (b : Bool) : (s.setInService n b).pending = s.pending := rfl

@[simp] theorem State.refreshCmtPend_free (s : State) (b : Nat) : (s.refreshCmtPend b).free = s.free := rfl
@[simp] theorem State.refreshCmtPend_answer (s : State) (b : Nat) : (s.refreshCmtPend b).answer = s.answer := rfl
@[simp] theorem State.refreshCmtPend_pairRd (s : State) (b : Nat) : (s.refreshCmtPend b).pairRd = s.pairRd := rfl
@[simp] theorem State.refreshCmtPend_pairWr (s : State) (b : Nat) : (s.refreshCmtPend b).pairWr = s.pairWr := rfl
@[simp] theorem State.refreshCmtPend_commits (s : State) (b : Nat) : (s.refreshCmtPend b).commits = s.commits := rfl
@[simp] theorem State.refreshCmtPend_sys (s : State) (b : Nat) : (s.refreshCmtPend b).sys = s.sys := rfl
@[simp] theorem State.refreshCmtPend_host (s : State) (b : Nat) : (s.refreshCmtPend b).host = s.host := rfl
@[simp] theorem State.refreshCmtPend_ev (s : State) (b : Nat) : (s.refreshCmtPend b).ev = s.ev := rfl
@[simp] theorem State.refreshCmtPend_irq (s : State) (b : Nat) : (s.refreshCmtPend b).irq = s.irq := rfl
@[simp] theorem State.refreshCmtPend_time (s : State) (b : Nat) : (s.refreshCmtPend b).time = s.time := rfl
@[simp] theorem State.refreshCmtPend_otp (s : State) (b : Nat) : (s.refreshCmtPend b).otp = s.otp := rfl
@[simp] theorem State.refreshCmtPend_mram (s : State) (b : Nat) : (s.refreshCmtPend b).mram = s.mram := rfl
@[simp] theorem State.refreshCmtPend_adc (s : State) (b : Nat) : (s.refreshCmtPend b).adc = s.adc := rfl
@[simp] theorem State.refreshCmtPend_sched (s : State) (b : Nat) : (s.refreshCmtPend b).sched = s.sched := rfl
@[simp] theorem State.refreshCmtPend_pwm (s : State) (b : Nat) : (s.refreshCmtPend b).pwm = s.pwm := rfl
@[simp] theorem State.refreshCmtPend_loop (s : State) (b : Nat) : (s.refreshCmtPend b).loop = s.loop := rfl
@[simp] theorem State.refreshCmtPend_motion (s : State) (b : Nat) : (s.refreshCmtPend b).motion = s.motion := rfl
@[simp] theorem State.refreshCmtPend_ring (s : State) (b : Nat) : (s.refreshCmtPend b).ring = s.ring := rfl
@[simp] theorem State.refreshCmtPend_prog (s : State) (b : Nat) : (s.refreshCmtPend b).prog = s.prog := rfl
@[simp] theorem State.refreshCmtPend_splice (s : State) (b : Nat) : (s.refreshCmtPend b).splice = s.splice := rfl
@[simp] theorem State.refreshCmtPend_lash (s : State) (b : Nat) : (s.refreshCmtPend b).lash = s.lash := rfl
@[simp] theorem State.refreshCmtPend_sec (s : State) (b : Nat) : (s.refreshCmtPend b).sec = s.sec := rfl
@[simp] theorem State.refreshCmtPend_can (s : State) (b : Nat) : (s.refreshCmtPend b).can = s.can := rfl
@[simp] theorem State.refreshCmtPend_sto (s : State) (b : Nat) : (s.refreshCmtPend b).sto = s.sto := rfl
@[simp] theorem State.refreshCmtPend_acq (s : State) (b : Nat) : (s.refreshCmtPend b).acq = s.acq := rfl
@[simp] theorem State.refreshCmtPend_opio (s : State) (b : Nat) : (s.refreshCmtPend b).opio = s.opio := rfl
@[simp] theorem State.refreshCmtPend_pending (s : State) (b : Nat) : (s.refreshCmtPend b).pending = s.pending := rfl

@[simp] theorem State.setReleased_words (s : State) (n : Nat) (b : Bool) : (s.setReleased n b).words = s.words := rfl
@[simp] theorem State.setReleased_free (s : State) (n : Nat) (b : Bool) : (s.setReleased n b).free = s.free := rfl
@[simp] theorem State.setReleased_answer (s : State) (n : Nat) (b : Bool) : (s.setReleased n b).answer = s.answer := rfl
@[simp] theorem State.setReleased_pairRd (s : State) (n : Nat) (b : Bool) : (s.setReleased n b).pairRd = s.pairRd := rfl
@[simp] theorem State.setReleased_pairWr (s : State) (n : Nat) (b : Bool) : (s.setReleased n b).pairWr = s.pairWr := rfl
@[simp] theorem State.setReleased_commits (s : State) (n : Nat) (b : Bool) : (s.setReleased n b).commits = s.commits := rfl
@[simp] theorem State.setReleased_sys (s : State) (n : Nat) (b : Bool) : (s.setReleased n b).sys = s.sys := rfl
@[simp] theorem State.setReleased_host (s : State) (n : Nat) (b : Bool) : (s.setReleased n b).host = s.host := rfl
@[simp] theorem State.setReleased_ev (s : State) (n : Nat) (b : Bool) : (s.setReleased n b).ev = s.ev := rfl
@[simp] theorem State.setReleased_time (s : State) (n : Nat) (b : Bool) : (s.setReleased n b).time = s.time := rfl
@[simp] theorem State.setReleased_otp (s : State) (n : Nat) (b : Bool) : (s.setReleased n b).otp = s.otp := rfl
@[simp] theorem State.setReleased_mram (s : State) (n : Nat) (b : Bool) : (s.setReleased n b).mram = s.mram := rfl
@[simp] theorem State.setReleased_adc (s : State) (n : Nat) (b : Bool) : (s.setReleased n b).adc = s.adc := rfl
@[simp] theorem State.setReleased_sched (s : State) (n : Nat) (b : Bool) : (s.setReleased n b).sched = s.sched := rfl
@[simp] theorem State.setReleased_pwm (s : State) (n : Nat) (b : Bool) : (s.setReleased n b).pwm = s.pwm := rfl
@[simp] theorem State.setReleased_loop (s : State) (n : Nat) (b : Bool) : (s.setReleased n b).loop = s.loop := rfl
@[simp] theorem State.setReleased_motion (s : State) (n : Nat) (b : Bool) : (s.setReleased n b).motion = s.motion := rfl
@[simp] theorem State.setReleased_ring (s : State) (n : Nat) (b : Bool) : (s.setReleased n b).ring = s.ring := rfl
@[simp] theorem State.setReleased_prog (s : State) (n : Nat) (b : Bool) : (s.setReleased n b).prog = s.prog := rfl
@[simp] theorem State.setReleased_splice (s : State) (n : Nat) (b : Bool) : (s.setReleased n b).splice = s.splice := rfl
@[simp] theorem State.setReleased_lash (s : State) (n : Nat) (b : Bool) : (s.setReleased n b).lash = s.lash := rfl
@[simp] theorem State.setReleased_sec (s : State) (n : Nat) (b : Bool) : (s.setReleased n b).sec = s.sec := rfl
@[simp] theorem State.setReleased_can (s : State) (n : Nat) (b : Bool) : (s.setReleased n b).can = s.can := rfl
@[simp] theorem State.setReleased_sto (s : State) (n : Nat) (b : Bool) : (s.setReleased n b).sto = s.sto := rfl
@[simp] theorem State.setReleased_acq (s : State) (n : Nat) (b : Bool) : (s.setReleased n b).acq = s.acq := rfl
@[simp] theorem State.setReleased_opio (s : State) (n : Nat) (b : Bool) : (s.setReleased n b).opio = s.opio := rfl
@[simp] theorem State.setReleased_pending (s : State) (n : Nat) (b : Bool) : (s.setReleased n b).pending = s.pending := rfl

@[simp] theorem State.setQ_words (s : State) (n : Nat) (v : QInt) : (s.setQ n v).words = s.words := rfl
@[simp] theorem State.setQ_free (s : State) (n : Nat) (v : QInt) : (s.setQ n v).free = s.free := rfl
@[simp] theorem State.setQ_answer (s : State) (n : Nat) (v : QInt) : (s.setQ n v).answer = s.answer := rfl
@[simp] theorem State.setQ_pairRd (s : State) (n : Nat) (v : QInt) : (s.setQ n v).pairRd = s.pairRd := rfl
@[simp] theorem State.setQ_pairWr (s : State) (n : Nat) (v : QInt) : (s.setQ n v).pairWr = s.pairWr := rfl
@[simp] theorem State.setQ_commits (s : State) (n : Nat) (v : QInt) : (s.setQ n v).commits = s.commits := rfl
@[simp] theorem State.setQ_sys (s : State) (n : Nat) (v : QInt) : (s.setQ n v).sys = s.sys := rfl
@[simp] theorem State.setQ_ev (s : State) (n : Nat) (v : QInt) : (s.setQ n v).ev = s.ev := rfl
@[simp] theorem State.setQ_irq (s : State) (n : Nat) (v : QInt) : (s.setQ n v).irq = s.irq := rfl
@[simp] theorem State.setQ_time (s : State) (n : Nat) (v : QInt) : (s.setQ n v).time = s.time := rfl
@[simp] theorem State.setQ_otp (s : State) (n : Nat) (v : QInt) : (s.setQ n v).otp = s.otp := rfl
@[simp] theorem State.setQ_mram (s : State) (n : Nat) (v : QInt) : (s.setQ n v).mram = s.mram := rfl
@[simp] theorem State.setQ_adc (s : State) (n : Nat) (v : QInt) : (s.setQ n v).adc = s.adc := rfl
@[simp] theorem State.setQ_sched (s : State) (n : Nat) (v : QInt) : (s.setQ n v).sched = s.sched := rfl
@[simp] theorem State.setQ_pwm (s : State) (n : Nat) (v : QInt) : (s.setQ n v).pwm = s.pwm := rfl
@[simp] theorem State.setQ_loop (s : State) (n : Nat) (v : QInt) : (s.setQ n v).loop = s.loop := rfl
@[simp] theorem State.setQ_motion (s : State) (n : Nat) (v : QInt) : (s.setQ n v).motion = s.motion := rfl
@[simp] theorem State.setQ_ring (s : State) (n : Nat) (v : QInt) : (s.setQ n v).ring = s.ring := rfl
@[simp] theorem State.setQ_prog (s : State) (n : Nat) (v : QInt) : (s.setQ n v).prog = s.prog := rfl
@[simp] theorem State.setQ_splice (s : State) (n : Nat) (v : QInt) : (s.setQ n v).splice = s.splice := rfl
@[simp] theorem State.setQ_lash (s : State) (n : Nat) (v : QInt) : (s.setQ n v).lash = s.lash := rfl
@[simp] theorem State.setQ_sec (s : State) (n : Nat) (v : QInt) : (s.setQ n v).sec = s.sec := rfl
@[simp] theorem State.setQ_can (s : State) (n : Nat) (v : QInt) : (s.setQ n v).can = s.can := rfl
@[simp] theorem State.setQ_sto (s : State) (n : Nat) (v : QInt) : (s.setQ n v).sto = s.sto := rfl
@[simp] theorem State.setQ_acq (s : State) (n : Nat) (v : QInt) : (s.setQ n v).acq = s.acq := rfl
@[simp] theorem State.setQ_opio (s : State) (n : Nat) (v : QInt) : (s.setQ n v).opio = s.opio := rfl
@[simp] theorem State.setQ_pending (s : State) (n : Nat) (v : QInt) : (s.setQ n v).pending = s.pending := rfl

@[simp] theorem State.lashI_words (s : State) (f : LashInt → LashInt) : (s.lashI f).words = s.words := rfl
@[simp] theorem State.lashI_free (s : State) (f : LashInt → LashInt) : (s.lashI f).free = s.free := rfl
@[simp] theorem State.lashI_answer (s : State) (f : LashInt → LashInt) : (s.lashI f).answer = s.answer := rfl
@[simp] theorem State.lashI_pairRd (s : State) (f : LashInt → LashInt) : (s.lashI f).pairRd = s.pairRd := rfl
@[simp] theorem State.lashI_pairWr (s : State) (f : LashInt → LashInt) : (s.lashI f).pairWr = s.pairWr := rfl
@[simp] theorem State.lashI_commits (s : State) (f : LashInt → LashInt) : (s.lashI f).commits = s.commits := rfl
@[simp] theorem State.lashI_sys (s : State) (f : LashInt → LashInt) : (s.lashI f).sys = s.sys := rfl
@[simp] theorem State.lashI_host (s : State) (f : LashInt → LashInt) : (s.lashI f).host = s.host := rfl
@[simp] theorem State.lashI_ev (s : State) (f : LashInt → LashInt) : (s.lashI f).ev = s.ev := rfl
@[simp] theorem State.lashI_irq (s : State) (f : LashInt → LashInt) : (s.lashI f).irq = s.irq := rfl
@[simp] theorem State.lashI_time (s : State) (f : LashInt → LashInt) : (s.lashI f).time = s.time := rfl
@[simp] theorem State.lashI_otp (s : State) (f : LashInt → LashInt) : (s.lashI f).otp = s.otp := rfl
@[simp] theorem State.lashI_mram (s : State) (f : LashInt → LashInt) : (s.lashI f).mram = s.mram := rfl
@[simp] theorem State.lashI_adc (s : State) (f : LashInt → LashInt) : (s.lashI f).adc = s.adc := rfl
@[simp] theorem State.lashI_sched (s : State) (f : LashInt → LashInt) : (s.lashI f).sched = s.sched := rfl
@[simp] theorem State.lashI_pwm (s : State) (f : LashInt → LashInt) : (s.lashI f).pwm = s.pwm := rfl
@[simp] theorem State.lashI_loop (s : State) (f : LashInt → LashInt) : (s.lashI f).loop = s.loop := rfl
@[simp] theorem State.lashI_motion (s : State) (f : LashInt → LashInt) : (s.lashI f).motion = s.motion := rfl
@[simp] theorem State.lashI_ring (s : State) (f : LashInt → LashInt) : (s.lashI f).ring = s.ring := rfl
@[simp] theorem State.lashI_prog (s : State) (f : LashInt → LashInt) : (s.lashI f).prog = s.prog := rfl
@[simp] theorem State.lashI_splice (s : State) (f : LashInt → LashInt) : (s.lashI f).splice = s.splice := rfl
@[simp] theorem State.lashI_sec (s : State) (f : LashInt → LashInt) : (s.lashI f).sec = s.sec := rfl
@[simp] theorem State.lashI_can (s : State) (f : LashInt → LashInt) : (s.lashI f).can = s.can := rfl
@[simp] theorem State.lashI_sto (s : State) (f : LashInt → LashInt) : (s.lashI f).sto = s.sto := rfl
@[simp] theorem State.lashI_acq (s : State) (f : LashInt → LashInt) : (s.lashI f).acq = s.acq := rfl
@[simp] theorem State.lashI_opio (s : State) (f : LashInt → LashInt) : (s.lashI f).opio = s.opio := rfl
@[simp] theorem State.lashI_pending (s : State) (f : LashInt → LashInt) : (s.lashI f).pending = s.pending := rfl

@[simp] theorem State.setSlot_words (s : State) (n : Nat) (v : SlotInt) : (s.setSlot n v).words = s.words := rfl
@[simp] theorem State.setSlot_free (s : State) (n : Nat) (v : SlotInt) : (s.setSlot n v).free = s.free := rfl
@[simp] theorem State.setSlot_answer (s : State) (n : Nat) (v : SlotInt) : (s.setSlot n v).answer = s.answer := rfl
@[simp] theorem State.setSlot_pairRd (s : State) (n : Nat) (v : SlotInt) : (s.setSlot n v).pairRd = s.pairRd := rfl
@[simp] theorem State.setSlot_pairWr (s : State) (n : Nat) (v : SlotInt) : (s.setSlot n v).pairWr = s.pairWr := rfl
@[simp] theorem State.setSlot_commits (s : State) (n : Nat) (v : SlotInt) : (s.setSlot n v).commits = s.commits := rfl
@[simp] theorem State.setSlot_sys (s : State) (n : Nat) (v : SlotInt) : (s.setSlot n v).sys = s.sys := rfl
@[simp] theorem State.setSlot_host (s : State) (n : Nat) (v : SlotInt) : (s.setSlot n v).host = s.host := rfl
@[simp] theorem State.setSlot_ev (s : State) (n : Nat) (v : SlotInt) : (s.setSlot n v).ev = s.ev := rfl
@[simp] theorem State.setSlot_irq (s : State) (n : Nat) (v : SlotInt) : (s.setSlot n v).irq = s.irq := rfl
@[simp] theorem State.setSlot_time (s : State) (n : Nat) (v : SlotInt) : (s.setSlot n v).time = s.time := rfl
@[simp] theorem State.setSlot_otp (s : State) (n : Nat) (v : SlotInt) : (s.setSlot n v).otp = s.otp := rfl
@[simp] theorem State.setSlot_mram (s : State) (n : Nat) (v : SlotInt) : (s.setSlot n v).mram = s.mram := rfl
@[simp] theorem State.setSlot_adc (s : State) (n : Nat) (v : SlotInt) : (s.setSlot n v).adc = s.adc := rfl
@[simp] theorem State.setSlot_sched (s : State) (n : Nat) (v : SlotInt) : (s.setSlot n v).sched = s.sched := rfl
@[simp] theorem State.setSlot_pwm (s : State) (n : Nat) (v : SlotInt) : (s.setSlot n v).pwm = s.pwm := rfl
@[simp] theorem State.setSlot_motion (s : State) (n : Nat) (v : SlotInt) : (s.setSlot n v).motion = s.motion := rfl
@[simp] theorem State.setSlot_ring (s : State) (n : Nat) (v : SlotInt) : (s.setSlot n v).ring = s.ring := rfl
@[simp] theorem State.setSlot_prog (s : State) (n : Nat) (v : SlotInt) : (s.setSlot n v).prog = s.prog := rfl
@[simp] theorem State.setSlot_splice (s : State) (n : Nat) (v : SlotInt) : (s.setSlot n v).splice = s.splice := rfl
@[simp] theorem State.setSlot_lash (s : State) (n : Nat) (v : SlotInt) : (s.setSlot n v).lash = s.lash := rfl
@[simp] theorem State.setSlot_sec (s : State) (n : Nat) (v : SlotInt) : (s.setSlot n v).sec = s.sec := rfl
@[simp] theorem State.setSlot_can (s : State) (n : Nat) (v : SlotInt) : (s.setSlot n v).can = s.can := rfl
@[simp] theorem State.setSlot_sto (s : State) (n : Nat) (v : SlotInt) : (s.setSlot n v).sto = s.sto := rfl
@[simp] theorem State.setSlot_acq (s : State) (n : Nat) (v : SlotInt) : (s.setSlot n v).acq = s.acq := rfl
@[simp] theorem State.setSlot_opio (s : State) (n : Nat) (v : SlotInt) : (s.setSlot n v).opio = s.opio := rfl
@[simp] theorem State.setSlot_pending (s : State) (n : Nat) (v : SlotInt) : (s.setSlot n v).pending = s.pending := rfl

@[simp] theorem State.setInj_words (s : State) (n : Nat) (v : InjInt) : (s.setInj n v).words = s.words := rfl
@[simp] theorem State.setInj_free (s : State) (n : Nat) (v : InjInt) : (s.setInj n v).free = s.free := rfl
@[simp] theorem State.setInj_answer (s : State) (n : Nat) (v : InjInt) : (s.setInj n v).answer = s.answer := rfl
@[simp] theorem State.setInj_pairRd (s : State) (n : Nat) (v : InjInt) : (s.setInj n v).pairRd = s.pairRd := rfl
@[simp] theorem State.setInj_pairWr (s : State) (n : Nat) (v : InjInt) : (s.setInj n v).pairWr = s.pairWr := rfl
@[simp] theorem State.setInj_commits (s : State) (n : Nat) (v : InjInt) : (s.setInj n v).commits = s.commits := rfl
@[simp] theorem State.setInj_sys (s : State) (n : Nat) (v : InjInt) : (s.setInj n v).sys = s.sys := rfl
@[simp] theorem State.setInj_host (s : State) (n : Nat) (v : InjInt) : (s.setInj n v).host = s.host := rfl
@[simp] theorem State.setInj_ev (s : State) (n : Nat) (v : InjInt) : (s.setInj n v).ev = s.ev := rfl
@[simp] theorem State.setInj_irq (s : State) (n : Nat) (v : InjInt) : (s.setInj n v).irq = s.irq := rfl
@[simp] theorem State.setInj_time (s : State) (n : Nat) (v : InjInt) : (s.setInj n v).time = s.time := rfl
@[simp] theorem State.setInj_otp (s : State) (n : Nat) (v : InjInt) : (s.setInj n v).otp = s.otp := rfl
@[simp] theorem State.setInj_mram (s : State) (n : Nat) (v : InjInt) : (s.setInj n v).mram = s.mram := rfl
@[simp] theorem State.setInj_adc (s : State) (n : Nat) (v : InjInt) : (s.setInj n v).adc = s.adc := rfl
@[simp] theorem State.setInj_sched (s : State) (n : Nat) (v : InjInt) : (s.setInj n v).sched = s.sched := rfl
@[simp] theorem State.setInj_pwm (s : State) (n : Nat) (v : InjInt) : (s.setInj n v).pwm = s.pwm := rfl
@[simp] theorem State.setInj_motion (s : State) (n : Nat) (v : InjInt) : (s.setInj n v).motion = s.motion := rfl
@[simp] theorem State.setInj_ring (s : State) (n : Nat) (v : InjInt) : (s.setInj n v).ring = s.ring := rfl
@[simp] theorem State.setInj_prog (s : State) (n : Nat) (v : InjInt) : (s.setInj n v).prog = s.prog := rfl
@[simp] theorem State.setInj_splice (s : State) (n : Nat) (v : InjInt) : (s.setInj n v).splice = s.splice := rfl
@[simp] theorem State.setInj_lash (s : State) (n : Nat) (v : InjInt) : (s.setInj n v).lash = s.lash := rfl
@[simp] theorem State.setInj_sec (s : State) (n : Nat) (v : InjInt) : (s.setInj n v).sec = s.sec := rfl
@[simp] theorem State.setInj_can (s : State) (n : Nat) (v : InjInt) : (s.setInj n v).can = s.can := rfl
@[simp] theorem State.setInj_sto (s : State) (n : Nat) (v : InjInt) : (s.setInj n v).sto = s.sto := rfl
@[simp] theorem State.setInj_acq (s : State) (n : Nat) (v : InjInt) : (s.setInj n v).acq = s.acq := rfl
@[simp] theorem State.setInj_opio (s : State) (n : Nat) (v : InjInt) : (s.setInj n v).opio = s.opio := rfl
@[simp] theorem State.setInj_pending (s : State) (n : Nat) (v : InjInt) : (s.setInj n v).pending = s.pending := rfl

@[simp] theorem State.setGen_words (s : State) (n : Nat) (v : PwmGen) : (s.setGen n v).words = s.words := rfl
@[simp] theorem State.setGen_free (s : State) (n : Nat) (v : PwmGen) : (s.setGen n v).free = s.free := rfl
@[simp] theorem State.setGen_answer (s : State) (n : Nat) (v : PwmGen) : (s.setGen n v).answer = s.answer := rfl
@[simp] theorem State.setGen_pairRd (s : State) (n : Nat) (v : PwmGen) : (s.setGen n v).pairRd = s.pairRd := rfl
@[simp] theorem State.setGen_pairWr (s : State) (n : Nat) (v : PwmGen) : (s.setGen n v).pairWr = s.pairWr := rfl
@[simp] theorem State.setGen_commits (s : State) (n : Nat) (v : PwmGen) : (s.setGen n v).commits = s.commits := rfl
@[simp] theorem State.setGen_sys (s : State) (n : Nat) (v : PwmGen) : (s.setGen n v).sys = s.sys := rfl
@[simp] theorem State.setGen_host (s : State) (n : Nat) (v : PwmGen) : (s.setGen n v).host = s.host := rfl
@[simp] theorem State.setGen_ev (s : State) (n : Nat) (v : PwmGen) : (s.setGen n v).ev = s.ev := rfl
@[simp] theorem State.setGen_irq (s : State) (n : Nat) (v : PwmGen) : (s.setGen n v).irq = s.irq := rfl
@[simp] theorem State.setGen_time (s : State) (n : Nat) (v : PwmGen) : (s.setGen n v).time = s.time := rfl
@[simp] theorem State.setGen_otp (s : State) (n : Nat) (v : PwmGen) : (s.setGen n v).otp = s.otp := rfl
@[simp] theorem State.setGen_mram (s : State) (n : Nat) (v : PwmGen) : (s.setGen n v).mram = s.mram := rfl
@[simp] theorem State.setGen_adc (s : State) (n : Nat) (v : PwmGen) : (s.setGen n v).adc = s.adc := rfl
@[simp] theorem State.setGen_sched (s : State) (n : Nat) (v : PwmGen) : (s.setGen n v).sched = s.sched := rfl
@[simp] theorem State.setGen_loop (s : State) (n : Nat) (v : PwmGen) : (s.setGen n v).loop = s.loop := rfl
@[simp] theorem State.setGen_motion (s : State) (n : Nat) (v : PwmGen) : (s.setGen n v).motion = s.motion := rfl
@[simp] theorem State.setGen_ring (s : State) (n : Nat) (v : PwmGen) : (s.setGen n v).ring = s.ring := rfl
@[simp] theorem State.setGen_prog (s : State) (n : Nat) (v : PwmGen) : (s.setGen n v).prog = s.prog := rfl
@[simp] theorem State.setGen_splice (s : State) (n : Nat) (v : PwmGen) : (s.setGen n v).splice = s.splice := rfl
@[simp] theorem State.setGen_lash (s : State) (n : Nat) (v : PwmGen) : (s.setGen n v).lash = s.lash := rfl
@[simp] theorem State.setGen_sec (s : State) (n : Nat) (v : PwmGen) : (s.setGen n v).sec = s.sec := rfl
@[simp] theorem State.setGen_can (s : State) (n : Nat) (v : PwmGen) : (s.setGen n v).can = s.can := rfl
@[simp] theorem State.setGen_sto (s : State) (n : Nat) (v : PwmGen) : (s.setGen n v).sto = s.sto := rfl
@[simp] theorem State.setGen_acq (s : State) (n : Nat) (v : PwmGen) : (s.setGen n v).acq = s.acq := rfl
@[simp] theorem State.setGen_opio (s : State) (n : Nat) (v : PwmGen) : (s.setGen n v).opio = s.opio := rfl
@[simp] theorem State.setGen_pending (s : State) (n : Nat) (v : PwmGen) : (s.setGen n v).pending = s.pending := rfl

@[simp] theorem State.setRx_words (s : State) (n : Nat) (v : SegRx) : (s.setRx n v).words = s.words := rfl
@[simp] theorem State.setRx_free (s : State) (n : Nat) (v : SegRx) : (s.setRx n v).free = s.free := rfl
@[simp] theorem State.setRx_answer (s : State) (n : Nat) (v : SegRx) : (s.setRx n v).answer = s.answer := rfl
@[simp] theorem State.setRx_pairRd (s : State) (n : Nat) (v : SegRx) : (s.setRx n v).pairRd = s.pairRd := rfl
@[simp] theorem State.setRx_pairWr (s : State) (n : Nat) (v : SegRx) : (s.setRx n v).pairWr = s.pairWr := rfl
@[simp] theorem State.setRx_commits (s : State) (n : Nat) (v : SegRx) : (s.setRx n v).commits = s.commits := rfl
@[simp] theorem State.setRx_sys (s : State) (n : Nat) (v : SegRx) : (s.setRx n v).sys = s.sys := rfl
@[simp] theorem State.setRx_host (s : State) (n : Nat) (v : SegRx) : (s.setRx n v).host = s.host := rfl
@[simp] theorem State.setRx_ev (s : State) (n : Nat) (v : SegRx) : (s.setRx n v).ev = s.ev := rfl
@[simp] theorem State.setRx_irq (s : State) (n : Nat) (v : SegRx) : (s.setRx n v).irq = s.irq := rfl
@[simp] theorem State.setRx_time (s : State) (n : Nat) (v : SegRx) : (s.setRx n v).time = s.time := rfl
@[simp] theorem State.setRx_otp (s : State) (n : Nat) (v : SegRx) : (s.setRx n v).otp = s.otp := rfl
@[simp] theorem State.setRx_mram (s : State) (n : Nat) (v : SegRx) : (s.setRx n v).mram = s.mram := rfl
@[simp] theorem State.setRx_adc (s : State) (n : Nat) (v : SegRx) : (s.setRx n v).adc = s.adc := rfl
@[simp] theorem State.setRx_sched (s : State) (n : Nat) (v : SegRx) : (s.setRx n v).sched = s.sched := rfl
@[simp] theorem State.setRx_pwm (s : State) (n : Nat) (v : SegRx) : (s.setRx n v).pwm = s.pwm := rfl
@[simp] theorem State.setRx_loop (s : State) (n : Nat) (v : SegRx) : (s.setRx n v).loop = s.loop := rfl
@[simp] theorem State.setRx_motion (s : State) (n : Nat) (v : SegRx) : (s.setRx n v).motion = s.motion := rfl
@[simp] theorem State.setRx_prog (s : State) (n : Nat) (v : SegRx) : (s.setRx n v).prog = s.prog := rfl
@[simp] theorem State.setRx_splice (s : State) (n : Nat) (v : SegRx) : (s.setRx n v).splice = s.splice := rfl
@[simp] theorem State.setRx_lash (s : State) (n : Nat) (v : SegRx) : (s.setRx n v).lash = s.lash := rfl
@[simp] theorem State.setRx_sec (s : State) (n : Nat) (v : SegRx) : (s.setRx n v).sec = s.sec := rfl
@[simp] theorem State.setRx_can (s : State) (n : Nat) (v : SegRx) : (s.setRx n v).can = s.can := rfl
@[simp] theorem State.setRx_sto (s : State) (n : Nat) (v : SegRx) : (s.setRx n v).sto = s.sto := rfl
@[simp] theorem State.setRx_acq (s : State) (n : Nat) (v : SegRx) : (s.setRx n v).acq = s.acq := rfl
@[simp] theorem State.setRx_opio (s : State) (n : Nat) (v : SegRx) : (s.setRx n v).opio = s.opio := rfl
@[simp] theorem State.setRx_pending (s : State) (n : Nat) (v : SegRx) : (s.setRx n v).pending = s.pending := rfl

@[simp] theorem State.setTx_words (s : State) (n : Nat) (v : SegTx) : (s.setTx n v).words = s.words := rfl
@[simp] theorem State.setTx_free (s : State) (n : Nat) (v : SegTx) : (s.setTx n v).free = s.free := rfl
@[simp] theorem State.setTx_answer (s : State) (n : Nat) (v : SegTx) : (s.setTx n v).answer = s.answer := rfl
@[simp] theorem State.setTx_pairRd (s : State) (n : Nat) (v : SegTx) : (s.setTx n v).pairRd = s.pairRd := rfl
@[simp] theorem State.setTx_pairWr (s : State) (n : Nat) (v : SegTx) : (s.setTx n v).pairWr = s.pairWr := rfl
@[simp] theorem State.setTx_commits (s : State) (n : Nat) (v : SegTx) : (s.setTx n v).commits = s.commits := rfl
@[simp] theorem State.setTx_sys (s : State) (n : Nat) (v : SegTx) : (s.setTx n v).sys = s.sys := rfl
@[simp] theorem State.setTx_host (s : State) (n : Nat) (v : SegTx) : (s.setTx n v).host = s.host := rfl
@[simp] theorem State.setTx_ev (s : State) (n : Nat) (v : SegTx) : (s.setTx n v).ev = s.ev := rfl
@[simp] theorem State.setTx_irq (s : State) (n : Nat) (v : SegTx) : (s.setTx n v).irq = s.irq := rfl
@[simp] theorem State.setTx_time (s : State) (n : Nat) (v : SegTx) : (s.setTx n v).time = s.time := rfl
@[simp] theorem State.setTx_otp (s : State) (n : Nat) (v : SegTx) : (s.setTx n v).otp = s.otp := rfl
@[simp] theorem State.setTx_mram (s : State) (n : Nat) (v : SegTx) : (s.setTx n v).mram = s.mram := rfl
@[simp] theorem State.setTx_adc (s : State) (n : Nat) (v : SegTx) : (s.setTx n v).adc = s.adc := rfl
@[simp] theorem State.setTx_sched (s : State) (n : Nat) (v : SegTx) : (s.setTx n v).sched = s.sched := rfl
@[simp] theorem State.setTx_pwm (s : State) (n : Nat) (v : SegTx) : (s.setTx n v).pwm = s.pwm := rfl
@[simp] theorem State.setTx_loop (s : State) (n : Nat) (v : SegTx) : (s.setTx n v).loop = s.loop := rfl
@[simp] theorem State.setTx_motion (s : State) (n : Nat) (v : SegTx) : (s.setTx n v).motion = s.motion := rfl
@[simp] theorem State.setTx_prog (s : State) (n : Nat) (v : SegTx) : (s.setTx n v).prog = s.prog := rfl
@[simp] theorem State.setTx_splice (s : State) (n : Nat) (v : SegTx) : (s.setTx n v).splice = s.splice := rfl
@[simp] theorem State.setTx_lash (s : State) (n : Nat) (v : SegTx) : (s.setTx n v).lash = s.lash := rfl
@[simp] theorem State.setTx_sec (s : State) (n : Nat) (v : SegTx) : (s.setTx n v).sec = s.sec := rfl
@[simp] theorem State.setTx_can (s : State) (n : Nat) (v : SegTx) : (s.setTx n v).can = s.can := rfl
@[simp] theorem State.setTx_sto (s : State) (n : Nat) (v : SegTx) : (s.setTx n v).sto = s.sto := rfl
@[simp] theorem State.setTx_acq (s : State) (n : Nat) (v : SegTx) : (s.setTx n v).acq = s.acq := rfl
@[simp] theorem State.setTx_opio (s : State) (n : Nat) (v : SegTx) : (s.setTx n v).opio = s.opio := rfl
@[simp] theorem State.setTx_pending (s : State) (n : Nat) (v : SegTx) : (s.setTx n v).pending = s.pending := rfl

@[simp] theorem State.setNode_words (s : State) (n : Nat) (v : NodeInt) : (s.setNode n v).words = s.words := rfl
@[simp] theorem State.setNode_free (s : State) (n : Nat) (v : NodeInt) : (s.setNode n v).free = s.free := rfl
@[simp] theorem State.setNode_answer (s : State) (n : Nat) (v : NodeInt) : (s.setNode n v).answer = s.answer := rfl
@[simp] theorem State.setNode_pairRd (s : State) (n : Nat) (v : NodeInt) : (s.setNode n v).pairRd = s.pairRd := rfl
@[simp] theorem State.setNode_pairWr (s : State) (n : Nat) (v : NodeInt) : (s.setNode n v).pairWr = s.pairWr := rfl
@[simp] theorem State.setNode_commits (s : State) (n : Nat) (v : NodeInt) : (s.setNode n v).commits = s.commits := rfl
@[simp] theorem State.setNode_sys (s : State) (n : Nat) (v : NodeInt) : (s.setNode n v).sys = s.sys := rfl
@[simp] theorem State.setNode_host (s : State) (n : Nat) (v : NodeInt) : (s.setNode n v).host = s.host := rfl
@[simp] theorem State.setNode_ev (s : State) (n : Nat) (v : NodeInt) : (s.setNode n v).ev = s.ev := rfl
@[simp] theorem State.setNode_irq (s : State) (n : Nat) (v : NodeInt) : (s.setNode n v).irq = s.irq := rfl
@[simp] theorem State.setNode_time (s : State) (n : Nat) (v : NodeInt) : (s.setNode n v).time = s.time := rfl
@[simp] theorem State.setNode_otp (s : State) (n : Nat) (v : NodeInt) : (s.setNode n v).otp = s.otp := rfl
@[simp] theorem State.setNode_mram (s : State) (n : Nat) (v : NodeInt) : (s.setNode n v).mram = s.mram := rfl
@[simp] theorem State.setNode_adc (s : State) (n : Nat) (v : NodeInt) : (s.setNode n v).adc = s.adc := rfl
@[simp] theorem State.setNode_sched (s : State) (n : Nat) (v : NodeInt) : (s.setNode n v).sched = s.sched := rfl
@[simp] theorem State.setNode_pwm (s : State) (n : Nat) (v : NodeInt) : (s.setNode n v).pwm = s.pwm := rfl
@[simp] theorem State.setNode_loop (s : State) (n : Nat) (v : NodeInt) : (s.setNode n v).loop = s.loop := rfl
@[simp] theorem State.setNode_motion (s : State) (n : Nat) (v : NodeInt) : (s.setNode n v).motion = s.motion := rfl
@[simp] theorem State.setNode_prog (s : State) (n : Nat) (v : NodeInt) : (s.setNode n v).prog = s.prog := rfl
@[simp] theorem State.setNode_splice (s : State) (n : Nat) (v : NodeInt) : (s.setNode n v).splice = s.splice := rfl
@[simp] theorem State.setNode_lash (s : State) (n : Nat) (v : NodeInt) : (s.setNode n v).lash = s.lash := rfl
@[simp] theorem State.setNode_sec (s : State) (n : Nat) (v : NodeInt) : (s.setNode n v).sec = s.sec := rfl
@[simp] theorem State.setNode_can (s : State) (n : Nat) (v : NodeInt) : (s.setNode n v).can = s.can := rfl
@[simp] theorem State.setNode_sto (s : State) (n : Nat) (v : NodeInt) : (s.setNode n v).sto = s.sto := rfl
@[simp] theorem State.setNode_acq (s : State) (n : Nat) (v : NodeInt) : (s.setNode n v).acq = s.acq := rfl
@[simp] theorem State.setNode_opio (s : State) (n : Nat) (v : NodeInt) : (s.setNode n v).opio = s.opio := rfl
@[simp] theorem State.setNode_pending (s : State) (n : Nat) (v : NodeInt) : (s.setNode n v).pending = s.pending := rfl

@[simp] theorem State.setChunk_words (s : State) (l : List Nat) : (s.setChunk l).words = s.words := rfl
@[simp] theorem State.setChunk_free (s : State) (l : List Nat) : (s.setChunk l).free = s.free := rfl
@[simp] theorem State.setChunk_answer (s : State) (l : List Nat) : (s.setChunk l).answer = s.answer := rfl
@[simp] theorem State.setChunk_pairRd (s : State) (l : List Nat) : (s.setChunk l).pairRd = s.pairRd := rfl
@[simp] theorem State.setChunk_pairWr (s : State) (l : List Nat) : (s.setChunk l).pairWr = s.pairWr := rfl
@[simp] theorem State.setChunk_commits (s : State) (l : List Nat) : (s.setChunk l).commits = s.commits := rfl
@[simp] theorem State.setChunk_sys (s : State) (l : List Nat) : (s.setChunk l).sys = s.sys := rfl
@[simp] theorem State.setChunk_host (s : State) (l : List Nat) : (s.setChunk l).host = s.host := rfl
@[simp] theorem State.setChunk_ev (s : State) (l : List Nat) : (s.setChunk l).ev = s.ev := rfl
@[simp] theorem State.setChunk_irq (s : State) (l : List Nat) : (s.setChunk l).irq = s.irq := rfl
@[simp] theorem State.setChunk_time (s : State) (l : List Nat) : (s.setChunk l).time = s.time := rfl
@[simp] theorem State.setChunk_otp (s : State) (l : List Nat) : (s.setChunk l).otp = s.otp := rfl
@[simp] theorem State.setChunk_mram (s : State) (l : List Nat) : (s.setChunk l).mram = s.mram := rfl
@[simp] theorem State.setChunk_adc (s : State) (l : List Nat) : (s.setChunk l).adc = s.adc := rfl
@[simp] theorem State.setChunk_sched (s : State) (l : List Nat) : (s.setChunk l).sched = s.sched := rfl
@[simp] theorem State.setChunk_pwm (s : State) (l : List Nat) : (s.setChunk l).pwm = s.pwm := rfl
@[simp] theorem State.setChunk_loop (s : State) (l : List Nat) : (s.setChunk l).loop = s.loop := rfl
@[simp] theorem State.setChunk_motion (s : State) (l : List Nat) : (s.setChunk l).motion = s.motion := rfl
@[simp] theorem State.setChunk_prog (s : State) (l : List Nat) : (s.setChunk l).prog = s.prog := rfl
@[simp] theorem State.setChunk_splice (s : State) (l : List Nat) : (s.setChunk l).splice = s.splice := rfl
@[simp] theorem State.setChunk_lash (s : State) (l : List Nat) : (s.setChunk l).lash = s.lash := rfl
@[simp] theorem State.setChunk_sec (s : State) (l : List Nat) : (s.setChunk l).sec = s.sec := rfl
@[simp] theorem State.setChunk_can (s : State) (l : List Nat) : (s.setChunk l).can = s.can := rfl
@[simp] theorem State.setChunk_sto (s : State) (l : List Nat) : (s.setChunk l).sto = s.sto := rfl
@[simp] theorem State.setChunk_acq (s : State) (l : List Nat) : (s.setChunk l).acq = s.acq := rfl
@[simp] theorem State.setChunk_opio (s : State) (l : List Nat) : (s.setChunk l).opio = s.opio := rfl
@[simp] theorem State.setChunk_pending (s : State) (l : List Nat) : (s.setChunk l).pending = s.pending := rfl

@[simp] theorem State.setCore_words (s : State) (n : Nat) (v : AdcCore) : (s.setCore n v).words = s.words := rfl
@[simp] theorem State.setCore_free (s : State) (n : Nat) (v : AdcCore) : (s.setCore n v).free = s.free := rfl
@[simp] theorem State.setCore_answer (s : State) (n : Nat) (v : AdcCore) : (s.setCore n v).answer = s.answer := rfl
@[simp] theorem State.setCore_pairRd (s : State) (n : Nat) (v : AdcCore) : (s.setCore n v).pairRd = s.pairRd := rfl
@[simp] theorem State.setCore_pairWr (s : State) (n : Nat) (v : AdcCore) : (s.setCore n v).pairWr = s.pairWr := rfl
@[simp] theorem State.setCore_commits (s : State) (n : Nat) (v : AdcCore) : (s.setCore n v).commits = s.commits := rfl
@[simp] theorem State.setCore_sys (s : State) (n : Nat) (v : AdcCore) : (s.setCore n v).sys = s.sys := rfl
@[simp] theorem State.setCore_host (s : State) (n : Nat) (v : AdcCore) : (s.setCore n v).host = s.host := rfl
@[simp] theorem State.setCore_ev (s : State) (n : Nat) (v : AdcCore) : (s.setCore n v).ev = s.ev := rfl
@[simp] theorem State.setCore_irq (s : State) (n : Nat) (v : AdcCore) : (s.setCore n v).irq = s.irq := rfl
@[simp] theorem State.setCore_time (s : State) (n : Nat) (v : AdcCore) : (s.setCore n v).time = s.time := rfl
@[simp] theorem State.setCore_otp (s : State) (n : Nat) (v : AdcCore) : (s.setCore n v).otp = s.otp := rfl
@[simp] theorem State.setCore_mram (s : State) (n : Nat) (v : AdcCore) : (s.setCore n v).mram = s.mram := rfl
@[simp] theorem State.setCore_sched (s : State) (n : Nat) (v : AdcCore) : (s.setCore n v).sched = s.sched := rfl
@[simp] theorem State.setCore_pwm (s : State) (n : Nat) (v : AdcCore) : (s.setCore n v).pwm = s.pwm := rfl
@[simp] theorem State.setCore_loop (s : State) (n : Nat) (v : AdcCore) : (s.setCore n v).loop = s.loop := rfl
@[simp] theorem State.setCore_motion (s : State) (n : Nat) (v : AdcCore) : (s.setCore n v).motion = s.motion := rfl
@[simp] theorem State.setCore_ring (s : State) (n : Nat) (v : AdcCore) : (s.setCore n v).ring = s.ring := rfl
@[simp] theorem State.setCore_prog (s : State) (n : Nat) (v : AdcCore) : (s.setCore n v).prog = s.prog := rfl
@[simp] theorem State.setCore_splice (s : State) (n : Nat) (v : AdcCore) : (s.setCore n v).splice = s.splice := rfl
@[simp] theorem State.setCore_lash (s : State) (n : Nat) (v : AdcCore) : (s.setCore n v).lash = s.lash := rfl
@[simp] theorem State.setCore_sec (s : State) (n : Nat) (v : AdcCore) : (s.setCore n v).sec = s.sec := rfl
@[simp] theorem State.setCore_can (s : State) (n : Nat) (v : AdcCore) : (s.setCore n v).can = s.can := rfl
@[simp] theorem State.setCore_sto (s : State) (n : Nat) (v : AdcCore) : (s.setCore n v).sto = s.sto := rfl
@[simp] theorem State.setCore_acq (s : State) (n : Nat) (v : AdcCore) : (s.setCore n v).acq = s.acq := rfl
@[simp] theorem State.setCore_opio (s : State) (n : Nat) (v : AdcCore) : (s.setCore n v).opio = s.opio := rfl
@[simp] theorem State.setCore_pending (s : State) (n : Nat) (v : AdcCore) : (s.setCore n v).pending = s.pending := rfl

@[simp] theorem State.setEnc_words (s : State) (n : Nat) (v : EncInt) : (s.setEnc n v).words = s.words := rfl
@[simp] theorem State.setEnc_free (s : State) (n : Nat) (v : EncInt) : (s.setEnc n v).free = s.free := rfl
@[simp] theorem State.setEnc_answer (s : State) (n : Nat) (v : EncInt) : (s.setEnc n v).answer = s.answer := rfl
@[simp] theorem State.setEnc_pairRd (s : State) (n : Nat) (v : EncInt) : (s.setEnc n v).pairRd = s.pairRd := rfl
@[simp] theorem State.setEnc_pairWr (s : State) (n : Nat) (v : EncInt) : (s.setEnc n v).pairWr = s.pairWr := rfl
@[simp] theorem State.setEnc_commits (s : State) (n : Nat) (v : EncInt) : (s.setEnc n v).commits = s.commits := rfl
@[simp] theorem State.setEnc_sys (s : State) (n : Nat) (v : EncInt) : (s.setEnc n v).sys = s.sys := rfl
@[simp] theorem State.setEnc_host (s : State) (n : Nat) (v : EncInt) : (s.setEnc n v).host = s.host := rfl
@[simp] theorem State.setEnc_ev (s : State) (n : Nat) (v : EncInt) : (s.setEnc n v).ev = s.ev := rfl
@[simp] theorem State.setEnc_irq (s : State) (n : Nat) (v : EncInt) : (s.setEnc n v).irq = s.irq := rfl
@[simp] theorem State.setEnc_time (s : State) (n : Nat) (v : EncInt) : (s.setEnc n v).time = s.time := rfl
@[simp] theorem State.setEnc_otp (s : State) (n : Nat) (v : EncInt) : (s.setEnc n v).otp = s.otp := rfl
@[simp] theorem State.setEnc_mram (s : State) (n : Nat) (v : EncInt) : (s.setEnc n v).mram = s.mram := rfl
@[simp] theorem State.setEnc_adc (s : State) (n : Nat) (v : EncInt) : (s.setEnc n v).adc = s.adc := rfl
@[simp] theorem State.setEnc_sched (s : State) (n : Nat) (v : EncInt) : (s.setEnc n v).sched = s.sched := rfl
@[simp] theorem State.setEnc_pwm (s : State) (n : Nat) (v : EncInt) : (s.setEnc n v).pwm = s.pwm := rfl
@[simp] theorem State.setEnc_loop (s : State) (n : Nat) (v : EncInt) : (s.setEnc n v).loop = s.loop := rfl
@[simp] theorem State.setEnc_ring (s : State) (n : Nat) (v : EncInt) : (s.setEnc n v).ring = s.ring := rfl
@[simp] theorem State.setEnc_prog (s : State) (n : Nat) (v : EncInt) : (s.setEnc n v).prog = s.prog := rfl
@[simp] theorem State.setEnc_splice (s : State) (n : Nat) (v : EncInt) : (s.setEnc n v).splice = s.splice := rfl
@[simp] theorem State.setEnc_lash (s : State) (n : Nat) (v : EncInt) : (s.setEnc n v).lash = s.lash := rfl
@[simp] theorem State.setEnc_sec (s : State) (n : Nat) (v : EncInt) : (s.setEnc n v).sec = s.sec := rfl
@[simp] theorem State.setEnc_can (s : State) (n : Nat) (v : EncInt) : (s.setEnc n v).can = s.can := rfl
@[simp] theorem State.setEnc_sto (s : State) (n : Nat) (v : EncInt) : (s.setEnc n v).sto = s.sto := rfl
@[simp] theorem State.setEnc_acq (s : State) (n : Nat) (v : EncInt) : (s.setEnc n v).acq = s.acq := rfl
@[simp] theorem State.setEnc_opio (s : State) (n : Nat) (v : EncInt) : (s.setEnc n v).opio = s.opio := rfl
@[simp] theorem State.setEnc_pending (s : State) (n : Nat) (v : EncInt) : (s.setEnc n v).pending = s.pending := rfl

@[simp] theorem State.setAx_words (s : State) (n : Nat) (v : AxisInt) : (s.setAx n v).words = s.words := rfl
@[simp] theorem State.setAx_free (s : State) (n : Nat) (v : AxisInt) : (s.setAx n v).free = s.free := rfl
@[simp] theorem State.setAx_answer (s : State) (n : Nat) (v : AxisInt) : (s.setAx n v).answer = s.answer := rfl
@[simp] theorem State.setAx_pairRd (s : State) (n : Nat) (v : AxisInt) : (s.setAx n v).pairRd = s.pairRd := rfl
@[simp] theorem State.setAx_pairWr (s : State) (n : Nat) (v : AxisInt) : (s.setAx n v).pairWr = s.pairWr := rfl
@[simp] theorem State.setAx_commits (s : State) (n : Nat) (v : AxisInt) : (s.setAx n v).commits = s.commits := rfl
@[simp] theorem State.setAx_sys (s : State) (n : Nat) (v : AxisInt) : (s.setAx n v).sys = s.sys := rfl
@[simp] theorem State.setAx_host (s : State) (n : Nat) (v : AxisInt) : (s.setAx n v).host = s.host := rfl
@[simp] theorem State.setAx_ev (s : State) (n : Nat) (v : AxisInt) : (s.setAx n v).ev = s.ev := rfl
@[simp] theorem State.setAx_irq (s : State) (n : Nat) (v : AxisInt) : (s.setAx n v).irq = s.irq := rfl
@[simp] theorem State.setAx_time (s : State) (n : Nat) (v : AxisInt) : (s.setAx n v).time = s.time := rfl
@[simp] theorem State.setAx_otp (s : State) (n : Nat) (v : AxisInt) : (s.setAx n v).otp = s.otp := rfl
@[simp] theorem State.setAx_mram (s : State) (n : Nat) (v : AxisInt) : (s.setAx n v).mram = s.mram := rfl
@[simp] theorem State.setAx_adc (s : State) (n : Nat) (v : AxisInt) : (s.setAx n v).adc = s.adc := rfl
@[simp] theorem State.setAx_sched (s : State) (n : Nat) (v : AxisInt) : (s.setAx n v).sched = s.sched := rfl
@[simp] theorem State.setAx_pwm (s : State) (n : Nat) (v : AxisInt) : (s.setAx n v).pwm = s.pwm := rfl
@[simp] theorem State.setAx_loop (s : State) (n : Nat) (v : AxisInt) : (s.setAx n v).loop = s.loop := rfl
@[simp] theorem State.setAx_ring (s : State) (n : Nat) (v : AxisInt) : (s.setAx n v).ring = s.ring := rfl
@[simp] theorem State.setAx_prog (s : State) (n : Nat) (v : AxisInt) : (s.setAx n v).prog = s.prog := rfl
@[simp] theorem State.setAx_splice (s : State) (n : Nat) (v : AxisInt) : (s.setAx n v).splice = s.splice := rfl
@[simp] theorem State.setAx_lash (s : State) (n : Nat) (v : AxisInt) : (s.setAx n v).lash = s.lash := rfl
@[simp] theorem State.setAx_sec (s : State) (n : Nat) (v : AxisInt) : (s.setAx n v).sec = s.sec := rfl
@[simp] theorem State.setAx_can (s : State) (n : Nat) (v : AxisInt) : (s.setAx n v).can = s.can := rfl
@[simp] theorem State.setAx_sto (s : State) (n : Nat) (v : AxisInt) : (s.setAx n v).sto = s.sto := rfl
@[simp] theorem State.setAx_acq (s : State) (n : Nat) (v : AxisInt) : (s.setAx n v).acq = s.acq := rfl
@[simp] theorem State.setAx_opio (s : State) (n : Nat) (v : AxisInt) : (s.setAx n v).opio = s.opio := rfl
@[simp] theorem State.setAx_pending (s : State) (n : Nat) (v : AxisInt) : (s.setAx n v).pending = s.pending := rfl

@[simp] theorem State.setAcqChan_words (s : State) (n : Nat) (v : AcqChan) : (s.setAcqChan n v).words = s.words := rfl
@[simp] theorem State.setAcqChan_free (s : State) (n : Nat) (v : AcqChan) : (s.setAcqChan n v).free = s.free := rfl
@[simp] theorem State.setAcqChan_answer (s : State) (n : Nat) (v : AcqChan) : (s.setAcqChan n v).answer = s.answer := rfl
@[simp] theorem State.setAcqChan_pairRd (s : State) (n : Nat) (v : AcqChan) : (s.setAcqChan n v).pairRd = s.pairRd := rfl
@[simp] theorem State.setAcqChan_pairWr (s : State) (n : Nat) (v : AcqChan) : (s.setAcqChan n v).pairWr = s.pairWr := rfl
@[simp] theorem State.setAcqChan_commits (s : State) (n : Nat) (v : AcqChan) : (s.setAcqChan n v).commits = s.commits := rfl
@[simp] theorem State.setAcqChan_sys (s : State) (n : Nat) (v : AcqChan) : (s.setAcqChan n v).sys = s.sys := rfl
@[simp] theorem State.setAcqChan_host (s : State) (n : Nat) (v : AcqChan) : (s.setAcqChan n v).host = s.host := rfl
@[simp] theorem State.setAcqChan_ev (s : State) (n : Nat) (v : AcqChan) : (s.setAcqChan n v).ev = s.ev := rfl
@[simp] theorem State.setAcqChan_irq (s : State) (n : Nat) (v : AcqChan) : (s.setAcqChan n v).irq = s.irq := rfl
@[simp] theorem State.setAcqChan_time (s : State) (n : Nat) (v : AcqChan) : (s.setAcqChan n v).time = s.time := rfl
@[simp] theorem State.setAcqChan_otp (s : State) (n : Nat) (v : AcqChan) : (s.setAcqChan n v).otp = s.otp := rfl
@[simp] theorem State.setAcqChan_mram (s : State) (n : Nat) (v : AcqChan) : (s.setAcqChan n v).mram = s.mram := rfl
@[simp] theorem State.setAcqChan_adc (s : State) (n : Nat) (v : AcqChan) : (s.setAcqChan n v).adc = s.adc := rfl
@[simp] theorem State.setAcqChan_sched (s : State) (n : Nat) (v : AcqChan) : (s.setAcqChan n v).sched = s.sched := rfl
@[simp] theorem State.setAcqChan_pwm (s : State) (n : Nat) (v : AcqChan) : (s.setAcqChan n v).pwm = s.pwm := rfl
@[simp] theorem State.setAcqChan_loop (s : State) (n : Nat) (v : AcqChan) : (s.setAcqChan n v).loop = s.loop := rfl
@[simp] theorem State.setAcqChan_motion (s : State) (n : Nat) (v : AcqChan) : (s.setAcqChan n v).motion = s.motion := rfl
@[simp] theorem State.setAcqChan_ring (s : State) (n : Nat) (v : AcqChan) : (s.setAcqChan n v).ring = s.ring := rfl
@[simp] theorem State.setAcqChan_prog (s : State) (n : Nat) (v : AcqChan) : (s.setAcqChan n v).prog = s.prog := rfl
@[simp] theorem State.setAcqChan_splice (s : State) (n : Nat) (v : AcqChan) : (s.setAcqChan n v).splice = s.splice := rfl
@[simp] theorem State.setAcqChan_lash (s : State) (n : Nat) (v : AcqChan) : (s.setAcqChan n v).lash = s.lash := rfl
@[simp] theorem State.setAcqChan_sec (s : State) (n : Nat) (v : AcqChan) : (s.setAcqChan n v).sec = s.sec := rfl
@[simp] theorem State.setAcqChan_can (s : State) (n : Nat) (v : AcqChan) : (s.setAcqChan n v).can = s.can := rfl
@[simp] theorem State.setAcqChan_sto (s : State) (n : Nat) (v : AcqChan) : (s.setAcqChan n v).sto = s.sto := rfl
@[simp] theorem State.setAcqChan_opio (s : State) (n : Nat) (v : AcqChan) : (s.setAcqChan n v).opio = s.opio := rfl
@[simp] theorem State.setAcqChan_pending (s : State) (n : Nat) (v : AcqChan) : (s.setAcqChan n v).pending = s.pending := rfl

@[simp] theorem State.setAcqUnit_words (s : State) (n : Nat) (v : AcqUnit) : (s.setAcqUnit n v).words = s.words := rfl
@[simp] theorem State.setAcqUnit_free (s : State) (n : Nat) (v : AcqUnit) : (s.setAcqUnit n v).free = s.free := rfl
@[simp] theorem State.setAcqUnit_answer (s : State) (n : Nat) (v : AcqUnit) : (s.setAcqUnit n v).answer = s.answer := rfl
@[simp] theorem State.setAcqUnit_pairRd (s : State) (n : Nat) (v : AcqUnit) : (s.setAcqUnit n v).pairRd = s.pairRd := rfl
@[simp] theorem State.setAcqUnit_pairWr (s : State) (n : Nat) (v : AcqUnit) : (s.setAcqUnit n v).pairWr = s.pairWr := rfl
@[simp] theorem State.setAcqUnit_commits (s : State) (n : Nat) (v : AcqUnit) : (s.setAcqUnit n v).commits = s.commits := rfl
@[simp] theorem State.setAcqUnit_sys (s : State) (n : Nat) (v : AcqUnit) : (s.setAcqUnit n v).sys = s.sys := rfl
@[simp] theorem State.setAcqUnit_host (s : State) (n : Nat) (v : AcqUnit) : (s.setAcqUnit n v).host = s.host := rfl
@[simp] theorem State.setAcqUnit_ev (s : State) (n : Nat) (v : AcqUnit) : (s.setAcqUnit n v).ev = s.ev := rfl
@[simp] theorem State.setAcqUnit_irq (s : State) (n : Nat) (v : AcqUnit) : (s.setAcqUnit n v).irq = s.irq := rfl
@[simp] theorem State.setAcqUnit_time (s : State) (n : Nat) (v : AcqUnit) : (s.setAcqUnit n v).time = s.time := rfl
@[simp] theorem State.setAcqUnit_otp (s : State) (n : Nat) (v : AcqUnit) : (s.setAcqUnit n v).otp = s.otp := rfl
@[simp] theorem State.setAcqUnit_mram (s : State) (n : Nat) (v : AcqUnit) : (s.setAcqUnit n v).mram = s.mram := rfl
@[simp] theorem State.setAcqUnit_adc (s : State) (n : Nat) (v : AcqUnit) : (s.setAcqUnit n v).adc = s.adc := rfl
@[simp] theorem State.setAcqUnit_sched (s : State) (n : Nat) (v : AcqUnit) : (s.setAcqUnit n v).sched = s.sched := rfl
@[simp] theorem State.setAcqUnit_pwm (s : State) (n : Nat) (v : AcqUnit) : (s.setAcqUnit n v).pwm = s.pwm := rfl
@[simp] theorem State.setAcqUnit_loop (s : State) (n : Nat) (v : AcqUnit) : (s.setAcqUnit n v).loop = s.loop := rfl
@[simp] theorem State.setAcqUnit_motion (s : State) (n : Nat) (v : AcqUnit) : (s.setAcqUnit n v).motion = s.motion := rfl
@[simp] theorem State.setAcqUnit_ring (s : State) (n : Nat) (v : AcqUnit) : (s.setAcqUnit n v).ring = s.ring := rfl
@[simp] theorem State.setAcqUnit_prog (s : State) (n : Nat) (v : AcqUnit) : (s.setAcqUnit n v).prog = s.prog := rfl
@[simp] theorem State.setAcqUnit_splice (s : State) (n : Nat) (v : AcqUnit) : (s.setAcqUnit n v).splice = s.splice := rfl
@[simp] theorem State.setAcqUnit_lash (s : State) (n : Nat) (v : AcqUnit) : (s.setAcqUnit n v).lash = s.lash := rfl
@[simp] theorem State.setAcqUnit_sec (s : State) (n : Nat) (v : AcqUnit) : (s.setAcqUnit n v).sec = s.sec := rfl
@[simp] theorem State.setAcqUnit_can (s : State) (n : Nat) (v : AcqUnit) : (s.setAcqUnit n v).can = s.can := rfl
@[simp] theorem State.setAcqUnit_sto (s : State) (n : Nat) (v : AcqUnit) : (s.setAcqUnit n v).sto = s.sto := rfl
@[simp] theorem State.setAcqUnit_opio (s : State) (n : Nat) (v : AcqUnit) : (s.setAcqUnit n v).opio = s.opio := rfl
@[simp] theorem State.setAcqUnit_pending (s : State) (n : Nat) (v : AcqUnit) : (s.setAcqUnit n v).pending = s.pending := rfl

@[simp] theorem State.setTask_words (s : State) (n : Nat) (v : Task) : (s.setTask n v).words = s.words := rfl
@[simp] theorem State.setTask_free (s : State) (n : Nat) (v : Task) : (s.setTask n v).free = s.free := rfl
@[simp] theorem State.setTask_answer (s : State) (n : Nat) (v : Task) : (s.setTask n v).answer = s.answer := rfl
@[simp] theorem State.setTask_pairRd (s : State) (n : Nat) (v : Task) : (s.setTask n v).pairRd = s.pairRd := rfl
@[simp] theorem State.setTask_pairWr (s : State) (n : Nat) (v : Task) : (s.setTask n v).pairWr = s.pairWr := rfl
@[simp] theorem State.setTask_commits (s : State) (n : Nat) (v : Task) : (s.setTask n v).commits = s.commits := rfl
@[simp] theorem State.setTask_sys (s : State) (n : Nat) (v : Task) : (s.setTask n v).sys = s.sys := rfl
@[simp] theorem State.setTask_host (s : State) (n : Nat) (v : Task) : (s.setTask n v).host = s.host := rfl
@[simp] theorem State.setTask_ev (s : State) (n : Nat) (v : Task) : (s.setTask n v).ev = s.ev := rfl
@[simp] theorem State.setTask_irq (s : State) (n : Nat) (v : Task) : (s.setTask n v).irq = s.irq := rfl
@[simp] theorem State.setTask_time (s : State) (n : Nat) (v : Task) : (s.setTask n v).time = s.time := rfl
@[simp] theorem State.setTask_otp (s : State) (n : Nat) (v : Task) : (s.setTask n v).otp = s.otp := rfl
@[simp] theorem State.setTask_mram (s : State) (n : Nat) (v : Task) : (s.setTask n v).mram = s.mram := rfl
@[simp] theorem State.setTask_adc (s : State) (n : Nat) (v : Task) : (s.setTask n v).adc = s.adc := rfl
@[simp] theorem State.setTask_pwm (s : State) (n : Nat) (v : Task) : (s.setTask n v).pwm = s.pwm := rfl
@[simp] theorem State.setTask_loop (s : State) (n : Nat) (v : Task) : (s.setTask n v).loop = s.loop := rfl
@[simp] theorem State.setTask_motion (s : State) (n : Nat) (v : Task) : (s.setTask n v).motion = s.motion := rfl
@[simp] theorem State.setTask_ring (s : State) (n : Nat) (v : Task) : (s.setTask n v).ring = s.ring := rfl
@[simp] theorem State.setTask_prog (s : State) (n : Nat) (v : Task) : (s.setTask n v).prog = s.prog := rfl
@[simp] theorem State.setTask_splice (s : State) (n : Nat) (v : Task) : (s.setTask n v).splice = s.splice := rfl
@[simp] theorem State.setTask_lash (s : State) (n : Nat) (v : Task) : (s.setTask n v).lash = s.lash := rfl
@[simp] theorem State.setTask_sec (s : State) (n : Nat) (v : Task) : (s.setTask n v).sec = s.sec := rfl
@[simp] theorem State.setTask_can (s : State) (n : Nat) (v : Task) : (s.setTask n v).can = s.can := rfl
@[simp] theorem State.setTask_sto (s : State) (n : Nat) (v : Task) : (s.setTask n v).sto = s.sto := rfl
@[simp] theorem State.setTask_acq (s : State) (n : Nat) (v : Task) : (s.setTask n v).acq = s.acq := rfl
@[simp] theorem State.setTask_opio (s : State) (n : Nat) (v : Task) : (s.setTask n v).opio = s.opio := rfl
@[simp] theorem State.setTask_pending (s : State) (n : Nat) (v : Task) : (s.setTask n v).pending = s.pending := rfl

@[simp] theorem State.progI_words (s : State) (f : ProgInt → ProgInt) : (s.progI f).words = s.words := rfl
@[simp] theorem State.progI_free (s : State) (f : ProgInt → ProgInt) : (s.progI f).free = s.free := rfl
@[simp] theorem State.progI_answer (s : State) (f : ProgInt → ProgInt) : (s.progI f).answer = s.answer := rfl
@[simp] theorem State.progI_pairRd (s : State) (f : ProgInt → ProgInt) : (s.progI f).pairRd = s.pairRd := rfl
@[simp] theorem State.progI_pairWr (s : State) (f : ProgInt → ProgInt) : (s.progI f).pairWr = s.pairWr := rfl
@[simp] theorem State.progI_commits (s : State) (f : ProgInt → ProgInt) : (s.progI f).commits = s.commits := rfl
@[simp] theorem State.progI_sys (s : State) (f : ProgInt → ProgInt) : (s.progI f).sys = s.sys := rfl
@[simp] theorem State.progI_host (s : State) (f : ProgInt → ProgInt) : (s.progI f).host = s.host := rfl
@[simp] theorem State.progI_ev (s : State) (f : ProgInt → ProgInt) : (s.progI f).ev = s.ev := rfl
@[simp] theorem State.progI_irq (s : State) (f : ProgInt → ProgInt) : (s.progI f).irq = s.irq := rfl
@[simp] theorem State.progI_time (s : State) (f : ProgInt → ProgInt) : (s.progI f).time = s.time := rfl
@[simp] theorem State.progI_otp (s : State) (f : ProgInt → ProgInt) : (s.progI f).otp = s.otp := rfl
@[simp] theorem State.progI_mram (s : State) (f : ProgInt → ProgInt) : (s.progI f).mram = s.mram := rfl
@[simp] theorem State.progI_adc (s : State) (f : ProgInt → ProgInt) : (s.progI f).adc = s.adc := rfl
@[simp] theorem State.progI_sched (s : State) (f : ProgInt → ProgInt) : (s.progI f).sched = s.sched := rfl
@[simp] theorem State.progI_pwm (s : State) (f : ProgInt → ProgInt) : (s.progI f).pwm = s.pwm := rfl
@[simp] theorem State.progI_loop (s : State) (f : ProgInt → ProgInt) : (s.progI f).loop = s.loop := rfl
@[simp] theorem State.progI_motion (s : State) (f : ProgInt → ProgInt) : (s.progI f).motion = s.motion := rfl
@[simp] theorem State.progI_ring (s : State) (f : ProgInt → ProgInt) : (s.progI f).ring = s.ring := rfl
@[simp] theorem State.progI_splice (s : State) (f : ProgInt → ProgInt) : (s.progI f).splice = s.splice := rfl
@[simp] theorem State.progI_lash (s : State) (f : ProgInt → ProgInt) : (s.progI f).lash = s.lash := rfl
@[simp] theorem State.progI_sec (s : State) (f : ProgInt → ProgInt) : (s.progI f).sec = s.sec := rfl
@[simp] theorem State.progI_can (s : State) (f : ProgInt → ProgInt) : (s.progI f).can = s.can := rfl
@[simp] theorem State.progI_sto (s : State) (f : ProgInt → ProgInt) : (s.progI f).sto = s.sto := rfl
@[simp] theorem State.progI_acq (s : State) (f : ProgInt → ProgInt) : (s.progI f).acq = s.acq := rfl
@[simp] theorem State.progI_opio (s : State) (f : ProgInt → ProgInt) : (s.progI f).opio = s.opio := rfl
@[simp] theorem State.progI_pending (s : State) (f : ProgInt → ProgInt) : (s.progI f).pending = s.pending := rfl

@[simp] theorem State.setRcp_words (s : State) (n : Nat) (v : Recipe) : (s.setRcp n v).words = s.words := rfl
@[simp] theorem State.setRcp_free (s : State) (n : Nat) (v : Recipe) : (s.setRcp n v).free = s.free := rfl
@[simp] theorem State.setRcp_answer (s : State) (n : Nat) (v : Recipe) : (s.setRcp n v).answer = s.answer := rfl
@[simp] theorem State.setRcp_pairRd (s : State) (n : Nat) (v : Recipe) : (s.setRcp n v).pairRd = s.pairRd := rfl
@[simp] theorem State.setRcp_pairWr (s : State) (n : Nat) (v : Recipe) : (s.setRcp n v).pairWr = s.pairWr := rfl
@[simp] theorem State.setRcp_commits (s : State) (n : Nat) (v : Recipe) : (s.setRcp n v).commits = s.commits := rfl
@[simp] theorem State.setRcp_sys (s : State) (n : Nat) (v : Recipe) : (s.setRcp n v).sys = s.sys := rfl
@[simp] theorem State.setRcp_host (s : State) (n : Nat) (v : Recipe) : (s.setRcp n v).host = s.host := rfl
@[simp] theorem State.setRcp_ev (s : State) (n : Nat) (v : Recipe) : (s.setRcp n v).ev = s.ev := rfl
@[simp] theorem State.setRcp_irq (s : State) (n : Nat) (v : Recipe) : (s.setRcp n v).irq = s.irq := rfl
@[simp] theorem State.setRcp_time (s : State) (n : Nat) (v : Recipe) : (s.setRcp n v).time = s.time := rfl
@[simp] theorem State.setRcp_otp (s : State) (n : Nat) (v : Recipe) : (s.setRcp n v).otp = s.otp := rfl
@[simp] theorem State.setRcp_mram (s : State) (n : Nat) (v : Recipe) : (s.setRcp n v).mram = s.mram := rfl
@[simp] theorem State.setRcp_adc (s : State) (n : Nat) (v : Recipe) : (s.setRcp n v).adc = s.adc := rfl
@[simp] theorem State.setRcp_sched (s : State) (n : Nat) (v : Recipe) : (s.setRcp n v).sched = s.sched := rfl
@[simp] theorem State.setRcp_pwm (s : State) (n : Nat) (v : Recipe) : (s.setRcp n v).pwm = s.pwm := rfl
@[simp] theorem State.setRcp_loop (s : State) (n : Nat) (v : Recipe) : (s.setRcp n v).loop = s.loop := rfl
@[simp] theorem State.setRcp_motion (s : State) (n : Nat) (v : Recipe) : (s.setRcp n v).motion = s.motion := rfl
@[simp] theorem State.setRcp_ring (s : State) (n : Nat) (v : Recipe) : (s.setRcp n v).ring = s.ring := rfl
@[simp] theorem State.setRcp_splice (s : State) (n : Nat) (v : Recipe) : (s.setRcp n v).splice = s.splice := rfl
@[simp] theorem State.setRcp_lash (s : State) (n : Nat) (v : Recipe) : (s.setRcp n v).lash = s.lash := rfl
@[simp] theorem State.setRcp_sec (s : State) (n : Nat) (v : Recipe) : (s.setRcp n v).sec = s.sec := rfl
@[simp] theorem State.setRcp_can (s : State) (n : Nat) (v : Recipe) : (s.setRcp n v).can = s.can := rfl
@[simp] theorem State.setRcp_sto (s : State) (n : Nat) (v : Recipe) : (s.setRcp n v).sto = s.sto := rfl
@[simp] theorem State.setRcp_acq (s : State) (n : Nat) (v : Recipe) : (s.setRcp n v).acq = s.acq := rfl
@[simp] theorem State.setRcp_opio (s : State) (n : Nat) (v : Recipe) : (s.setRcp n v).opio = s.opio := rfl
@[simp] theorem State.setRcp_pending (s : State) (n : Nat) (v : Recipe) : (s.setRcp n v).pending = s.pending := rfl

@[simp] theorem State.setCan_words (s : State) (n : Nat) (v : CanInt) : (s.setCan n v).words = s.words := rfl
@[simp] theorem State.setCan_free (s : State) (n : Nat) (v : CanInt) : (s.setCan n v).free = s.free := rfl
@[simp] theorem State.setCan_answer (s : State) (n : Nat) (v : CanInt) : (s.setCan n v).answer = s.answer := rfl
@[simp] theorem State.setCan_pairRd (s : State) (n : Nat) (v : CanInt) : (s.setCan n v).pairRd = s.pairRd := rfl
@[simp] theorem State.setCan_pairWr (s : State) (n : Nat) (v : CanInt) : (s.setCan n v).pairWr = s.pairWr := rfl
@[simp] theorem State.setCan_commits (s : State) (n : Nat) (v : CanInt) : (s.setCan n v).commits = s.commits := rfl
@[simp] theorem State.setCan_sys (s : State) (n : Nat) (v : CanInt) : (s.setCan n v).sys = s.sys := rfl
@[simp] theorem State.setCan_host (s : State) (n : Nat) (v : CanInt) : (s.setCan n v).host = s.host := rfl
@[simp] theorem State.setCan_ev (s : State) (n : Nat) (v : CanInt) : (s.setCan n v).ev = s.ev := rfl
@[simp] theorem State.setCan_irq (s : State) (n : Nat) (v : CanInt) : (s.setCan n v).irq = s.irq := rfl
@[simp] theorem State.setCan_time (s : State) (n : Nat) (v : CanInt) : (s.setCan n v).time = s.time := rfl
@[simp] theorem State.setCan_otp (s : State) (n : Nat) (v : CanInt) : (s.setCan n v).otp = s.otp := rfl
@[simp] theorem State.setCan_mram (s : State) (n : Nat) (v : CanInt) : (s.setCan n v).mram = s.mram := rfl
@[simp] theorem State.setCan_adc (s : State) (n : Nat) (v : CanInt) : (s.setCan n v).adc = s.adc := rfl
@[simp] theorem State.setCan_sched (s : State) (n : Nat) (v : CanInt) : (s.setCan n v).sched = s.sched := rfl
@[simp] theorem State.setCan_pwm (s : State) (n : Nat) (v : CanInt) : (s.setCan n v).pwm = s.pwm := rfl
@[simp] theorem State.setCan_loop (s : State) (n : Nat) (v : CanInt) : (s.setCan n v).loop = s.loop := rfl
@[simp] theorem State.setCan_motion (s : State) (n : Nat) (v : CanInt) : (s.setCan n v).motion = s.motion := rfl
@[simp] theorem State.setCan_ring (s : State) (n : Nat) (v : CanInt) : (s.setCan n v).ring = s.ring := rfl
@[simp] theorem State.setCan_prog (s : State) (n : Nat) (v : CanInt) : (s.setCan n v).prog = s.prog := rfl
@[simp] theorem State.setCan_splice (s : State) (n : Nat) (v : CanInt) : (s.setCan n v).splice = s.splice := rfl
@[simp] theorem State.setCan_lash (s : State) (n : Nat) (v : CanInt) : (s.setCan n v).lash = s.lash := rfl
@[simp] theorem State.setCan_sec (s : State) (n : Nat) (v : CanInt) : (s.setCan n v).sec = s.sec := rfl
@[simp] theorem State.setCan_sto (s : State) (n : Nat) (v : CanInt) : (s.setCan n v).sto = s.sto := rfl
@[simp] theorem State.setCan_acq (s : State) (n : Nat) (v : CanInt) : (s.setCan n v).acq = s.acq := rfl
@[simp] theorem State.setCan_opio (s : State) (n : Nat) (v : CanInt) : (s.setCan n v).opio = s.opio := rfl
@[simp] theorem State.setCan_pending (s : State) (n : Nat) (v : CanInt) : (s.setCan n v).pending = s.pending := rfl

@[simp] theorem State.stoI_words (s : State) (f : StoInt → StoInt) : (s.stoI f).words = s.words := rfl
@[simp] theorem State.stoI_free (s : State) (f : StoInt → StoInt) : (s.stoI f).free = s.free := rfl
@[simp] theorem State.stoI_answer (s : State) (f : StoInt → StoInt) : (s.stoI f).answer = s.answer := rfl
@[simp] theorem State.stoI_pairRd (s : State) (f : StoInt → StoInt) : (s.stoI f).pairRd = s.pairRd := rfl
@[simp] theorem State.stoI_pairWr (s : State) (f : StoInt → StoInt) : (s.stoI f).pairWr = s.pairWr := rfl
@[simp] theorem State.stoI_commits (s : State) (f : StoInt → StoInt) : (s.stoI f).commits = s.commits := rfl
@[simp] theorem State.stoI_sys (s : State) (f : StoInt → StoInt) : (s.stoI f).sys = s.sys := rfl
@[simp] theorem State.stoI_host (s : State) (f : StoInt → StoInt) : (s.stoI f).host = s.host := rfl
@[simp] theorem State.stoI_ev (s : State) (f : StoInt → StoInt) : (s.stoI f).ev = s.ev := rfl
@[simp] theorem State.stoI_irq (s : State) (f : StoInt → StoInt) : (s.stoI f).irq = s.irq := rfl
@[simp] theorem State.stoI_time (s : State) (f : StoInt → StoInt) : (s.stoI f).time = s.time := rfl
@[simp] theorem State.stoI_otp (s : State) (f : StoInt → StoInt) : (s.stoI f).otp = s.otp := rfl
@[simp] theorem State.stoI_mram (s : State) (f : StoInt → StoInt) : (s.stoI f).mram = s.mram := rfl
@[simp] theorem State.stoI_adc (s : State) (f : StoInt → StoInt) : (s.stoI f).adc = s.adc := rfl
@[simp] theorem State.stoI_sched (s : State) (f : StoInt → StoInt) : (s.stoI f).sched = s.sched := rfl
@[simp] theorem State.stoI_pwm (s : State) (f : StoInt → StoInt) : (s.stoI f).pwm = s.pwm := rfl
@[simp] theorem State.stoI_loop (s : State) (f : StoInt → StoInt) : (s.stoI f).loop = s.loop := rfl
@[simp] theorem State.stoI_motion (s : State) (f : StoInt → StoInt) : (s.stoI f).motion = s.motion := rfl
@[simp] theorem State.stoI_ring (s : State) (f : StoInt → StoInt) : (s.stoI f).ring = s.ring := rfl
@[simp] theorem State.stoI_prog (s : State) (f : StoInt → StoInt) : (s.stoI f).prog = s.prog := rfl
@[simp] theorem State.stoI_splice (s : State) (f : StoInt → StoInt) : (s.stoI f).splice = s.splice := rfl
@[simp] theorem State.stoI_lash (s : State) (f : StoInt → StoInt) : (s.stoI f).lash = s.lash := rfl
@[simp] theorem State.stoI_sec (s : State) (f : StoInt → StoInt) : (s.stoI f).sec = s.sec := rfl
@[simp] theorem State.stoI_can (s : State) (f : StoInt → StoInt) : (s.stoI f).can = s.can := rfl
@[simp] theorem State.stoI_acq (s : State) (f : StoInt → StoInt) : (s.stoI f).acq = s.acq := rfl
@[simp] theorem State.stoI_opio (s : State) (f : StoInt → StoInt) : (s.stoI f).opio = s.opio := rfl
@[simp] theorem State.stoI_pending (s : State) (f : StoInt → StoInt) : (s.stoI f).pending = s.pending := rfl

@[simp] theorem State.secI_words (s : State) (f : SecInt → SecInt) : (s.secI f).words = s.words := rfl
@[simp] theorem State.secI_free (s : State) (f : SecInt → SecInt) : (s.secI f).free = s.free := rfl
@[simp] theorem State.secI_answer (s : State) (f : SecInt → SecInt) : (s.secI f).answer = s.answer := rfl
@[simp] theorem State.secI_pairRd (s : State) (f : SecInt → SecInt) : (s.secI f).pairRd = s.pairRd := rfl
@[simp] theorem State.secI_pairWr (s : State) (f : SecInt → SecInt) : (s.secI f).pairWr = s.pairWr := rfl
@[simp] theorem State.secI_commits (s : State) (f : SecInt → SecInt) : (s.secI f).commits = s.commits := rfl
@[simp] theorem State.secI_sys (s : State) (f : SecInt → SecInt) : (s.secI f).sys = s.sys := rfl
@[simp] theorem State.secI_host (s : State) (f : SecInt → SecInt) : (s.secI f).host = s.host := rfl
@[simp] theorem State.secI_ev (s : State) (f : SecInt → SecInt) : (s.secI f).ev = s.ev := rfl
@[simp] theorem State.secI_irq (s : State) (f : SecInt → SecInt) : (s.secI f).irq = s.irq := rfl
@[simp] theorem State.secI_time (s : State) (f : SecInt → SecInt) : (s.secI f).time = s.time := rfl
@[simp] theorem State.secI_otp (s : State) (f : SecInt → SecInt) : (s.secI f).otp = s.otp := rfl
@[simp] theorem State.secI_mram (s : State) (f : SecInt → SecInt) : (s.secI f).mram = s.mram := rfl
@[simp] theorem State.secI_adc (s : State) (f : SecInt → SecInt) : (s.secI f).adc = s.adc := rfl
@[simp] theorem State.secI_sched (s : State) (f : SecInt → SecInt) : (s.secI f).sched = s.sched := rfl
@[simp] theorem State.secI_pwm (s : State) (f : SecInt → SecInt) : (s.secI f).pwm = s.pwm := rfl
@[simp] theorem State.secI_loop (s : State) (f : SecInt → SecInt) : (s.secI f).loop = s.loop := rfl
@[simp] theorem State.secI_motion (s : State) (f : SecInt → SecInt) : (s.secI f).motion = s.motion := rfl
@[simp] theorem State.secI_ring (s : State) (f : SecInt → SecInt) : (s.secI f).ring = s.ring := rfl
@[simp] theorem State.secI_prog (s : State) (f : SecInt → SecInt) : (s.secI f).prog = s.prog := rfl
@[simp] theorem State.secI_splice (s : State) (f : SecInt → SecInt) : (s.secI f).splice = s.splice := rfl
@[simp] theorem State.secI_lash (s : State) (f : SecInt → SecInt) : (s.secI f).lash = s.lash := rfl
@[simp] theorem State.secI_can (s : State) (f : SecInt → SecInt) : (s.secI f).can = s.can := rfl
@[simp] theorem State.secI_sto (s : State) (f : SecInt → SecInt) : (s.secI f).sto = s.sto := rfl
@[simp] theorem State.secI_acq (s : State) (f : SecInt → SecInt) : (s.secI f).acq = s.acq := rfl
@[simp] theorem State.secI_opio (s : State) (f : SecInt → SecInt) : (s.secI f).opio = s.opio := rfl
@[simp] theorem State.secI_pending (s : State) (f : SecInt → SecInt) : (s.secI f).pending = s.pending := rfl

@[simp] theorem State.setPairRd_words (s : State) (r : Requester) (a : Nat) (v : PairRead) : (s.setPairRd r a v).words = s.words := rfl
@[simp] theorem State.setPairRd_free (s : State) (r : Requester) (a : Nat) (v : PairRead) : (s.setPairRd r a v).free = s.free := rfl
@[simp] theorem State.setPairRd_answer (s : State) (r : Requester) (a : Nat) (v : PairRead) : (s.setPairRd r a v).answer = s.answer := rfl
@[simp] theorem State.setPairRd_pairWr (s : State) (r : Requester) (a : Nat) (v : PairRead) : (s.setPairRd r a v).pairWr = s.pairWr := rfl
@[simp] theorem State.setPairRd_commits (s : State) (r : Requester) (a : Nat) (v : PairRead) : (s.setPairRd r a v).commits = s.commits := rfl
@[simp] theorem State.setPairRd_sys (s : State) (r : Requester) (a : Nat) (v : PairRead) : (s.setPairRd r a v).sys = s.sys := rfl
@[simp] theorem State.setPairRd_host (s : State) (r : Requester) (a : Nat) (v : PairRead) : (s.setPairRd r a v).host = s.host := rfl
@[simp] theorem State.setPairRd_ev (s : State) (r : Requester) (a : Nat) (v : PairRead) : (s.setPairRd r a v).ev = s.ev := rfl
@[simp] theorem State.setPairRd_irq (s : State) (r : Requester) (a : Nat) (v : PairRead) : (s.setPairRd r a v).irq = s.irq := rfl
@[simp] theorem State.setPairRd_time (s : State) (r : Requester) (a : Nat) (v : PairRead) : (s.setPairRd r a v).time = s.time := rfl
@[simp] theorem State.setPairRd_otp (s : State) (r : Requester) (a : Nat) (v : PairRead) : (s.setPairRd r a v).otp = s.otp := rfl
@[simp] theorem State.setPairRd_mram (s : State) (r : Requester) (a : Nat) (v : PairRead) : (s.setPairRd r a v).mram = s.mram := rfl
@[simp] theorem State.setPairRd_adc (s : State) (r : Requester) (a : Nat) (v : PairRead) : (s.setPairRd r a v).adc = s.adc := rfl
@[simp] theorem State.setPairRd_sched (s : State) (r : Requester) (a : Nat) (v : PairRead) : (s.setPairRd r a v).sched = s.sched := rfl
@[simp] theorem State.setPairRd_pwm (s : State) (r : Requester) (a : Nat) (v : PairRead) : (s.setPairRd r a v).pwm = s.pwm := rfl
@[simp] theorem State.setPairRd_loop (s : State) (r : Requester) (a : Nat) (v : PairRead) : (s.setPairRd r a v).loop = s.loop := rfl
@[simp] theorem State.setPairRd_motion (s : State) (r : Requester) (a : Nat) (v : PairRead) : (s.setPairRd r a v).motion = s.motion := rfl
@[simp] theorem State.setPairRd_ring (s : State) (r : Requester) (a : Nat) (v : PairRead) : (s.setPairRd r a v).ring = s.ring := rfl
@[simp] theorem State.setPairRd_prog (s : State) (r : Requester) (a : Nat) (v : PairRead) : (s.setPairRd r a v).prog = s.prog := rfl
@[simp] theorem State.setPairRd_splice (s : State) (r : Requester) (a : Nat) (v : PairRead) : (s.setPairRd r a v).splice = s.splice := rfl
@[simp] theorem State.setPairRd_lash (s : State) (r : Requester) (a : Nat) (v : PairRead) : (s.setPairRd r a v).lash = s.lash := rfl
@[simp] theorem State.setPairRd_sec (s : State) (r : Requester) (a : Nat) (v : PairRead) : (s.setPairRd r a v).sec = s.sec := rfl
@[simp] theorem State.setPairRd_can (s : State) (r : Requester) (a : Nat) (v : PairRead) : (s.setPairRd r a v).can = s.can := rfl
@[simp] theorem State.setPairRd_sto (s : State) (r : Requester) (a : Nat) (v : PairRead) : (s.setPairRd r a v).sto = s.sto := rfl
@[simp] theorem State.setPairRd_acq (s : State) (r : Requester) (a : Nat) (v : PairRead) : (s.setPairRd r a v).acq = s.acq := rfl
@[simp] theorem State.setPairRd_opio (s : State) (r : Requester) (a : Nat) (v : PairRead) : (s.setPairRd r a v).opio = s.opio := rfl
@[simp] theorem State.setPairRd_pending (s : State) (r : Requester) (a : Nat) (v : PairRead) : (s.setPairRd r a v).pending = s.pending := rfl

@[simp] theorem State.setPairWr_words (s : State) (r : Requester) (a : Nat) (v : PairWrite) : (s.setPairWr r a v).words = s.words := rfl
@[simp] theorem State.setPairWr_free (s : State) (r : Requester) (a : Nat) (v : PairWrite) : (s.setPairWr r a v).free = s.free := rfl
@[simp] theorem State.setPairWr_answer (s : State) (r : Requester) (a : Nat) (v : PairWrite) : (s.setPairWr r a v).answer = s.answer := rfl
@[simp] theorem State.setPairWr_pairRd (s : State) (r : Requester) (a : Nat) (v : PairWrite) : (s.setPairWr r a v).pairRd = s.pairRd := rfl
@[simp] theorem State.setPairWr_commits (s : State) (r : Requester) (a : Nat) (v : PairWrite) : (s.setPairWr r a v).commits = s.commits := rfl
@[simp] theorem State.setPairWr_sys (s : State) (r : Requester) (a : Nat) (v : PairWrite) : (s.setPairWr r a v).sys = s.sys := rfl
@[simp] theorem State.setPairWr_host (s : State) (r : Requester) (a : Nat) (v : PairWrite) : (s.setPairWr r a v).host = s.host := rfl
@[simp] theorem State.setPairWr_ev (s : State) (r : Requester) (a : Nat) (v : PairWrite) : (s.setPairWr r a v).ev = s.ev := rfl
@[simp] theorem State.setPairWr_irq (s : State) (r : Requester) (a : Nat) (v : PairWrite) : (s.setPairWr r a v).irq = s.irq := rfl
@[simp] theorem State.setPairWr_time (s : State) (r : Requester) (a : Nat) (v : PairWrite) : (s.setPairWr r a v).time = s.time := rfl
@[simp] theorem State.setPairWr_otp (s : State) (r : Requester) (a : Nat) (v : PairWrite) : (s.setPairWr r a v).otp = s.otp := rfl
@[simp] theorem State.setPairWr_mram (s : State) (r : Requester) (a : Nat) (v : PairWrite) : (s.setPairWr r a v).mram = s.mram := rfl
@[simp] theorem State.setPairWr_adc (s : State) (r : Requester) (a : Nat) (v : PairWrite) : (s.setPairWr r a v).adc = s.adc := rfl
@[simp] theorem State.setPairWr_sched (s : State) (r : Requester) (a : Nat) (v : PairWrite) : (s.setPairWr r a v).sched = s.sched := rfl
@[simp] theorem State.setPairWr_pwm (s : State) (r : Requester) (a : Nat) (v : PairWrite) : (s.setPairWr r a v).pwm = s.pwm := rfl
@[simp] theorem State.setPairWr_loop (s : State) (r : Requester) (a : Nat) (v : PairWrite) : (s.setPairWr r a v).loop = s.loop := rfl
@[simp] theorem State.setPairWr_motion (s : State) (r : Requester) (a : Nat) (v : PairWrite) : (s.setPairWr r a v).motion = s.motion := rfl
@[simp] theorem State.setPairWr_ring (s : State) (r : Requester) (a : Nat) (v : PairWrite) : (s.setPairWr r a v).ring = s.ring := rfl
@[simp] theorem State.setPairWr_prog (s : State) (r : Requester) (a : Nat) (v : PairWrite) : (s.setPairWr r a v).prog = s.prog := rfl
@[simp] theorem State.setPairWr_splice (s : State) (r : Requester) (a : Nat) (v : PairWrite) : (s.setPairWr r a v).splice = s.splice := rfl
@[simp] theorem State.setPairWr_lash (s : State) (r : Requester) (a : Nat) (v : PairWrite) : (s.setPairWr r a v).lash = s.lash := rfl
@[simp] theorem State.setPairWr_sec (s : State) (r : Requester) (a : Nat) (v : PairWrite) : (s.setPairWr r a v).sec = s.sec := rfl
@[simp] theorem State.setPairWr_can (s : State) (r : Requester) (a : Nat) (v : PairWrite) : (s.setPairWr r a v).can = s.can := rfl
@[simp] theorem State.setPairWr_sto (s : State) (r : Requester) (a : Nat) (v : PairWrite) : (s.setPairWr r a v).sto = s.sto := rfl
@[simp] theorem State.setPairWr_acq (s : State) (r : Requester) (a : Nat) (v : PairWrite) : (s.setPairWr r a v).acq = s.acq := rfl
@[simp] theorem State.setPairWr_opio (s : State) (r : Requester) (a : Nat) (v : PairWrite) : (s.setPairWr r a v).opio = s.opio := rfl
@[simp] theorem State.setPairWr_pending (s : State) (r : Requester) (a : Nat) (v : PairWrite) : (s.setPairWr r a v).pending = s.pending := rfl

end Sys2Proof.Machine
end

