-- ==== Sys2Proof/Laws/Store.lean ====
section
/-! SUPPORT. Laws of sorted tables, of the store of words, and of reading and writing fields. -/

namespace Sys2Proof.Machine

/-- Every index of table `t` lies above `k`. -/
def tabAbove {α : Type} (k : Nat) (t : List (Nat × α)) : Prop := ∀ e ∈ t, k < e.1

/-- Table `t` is in rising order. -/
def tabSorted {α : Type} : List (Nat × α) → Prop
  | [] => True
  | e :: r => tabAbove e.1 r ∧ tabSorted r

theorem tabGet_above {α : Type} (d : α) (t : List (Nat × α)) (k : Nat) (h : tabAbove k t) : tabGet d t k = d := by
  induction t with
  | nil => rfl
  | cons e r ih =>
    have hk : k ≠ e.1 := Nat.ne_of_lt (h e (List.mem_cons_self ..))
    simp only [tabGet, hk, if_false]
    exact ih (fun x hx => h x (List.mem_cons_of_mem _ hx))

theorem tabSet_above {α : Type} [DecidableEq α] (d : α) (t : List (Nat × α)) (k j : Nat) (v : α)
    (hj : j < k) (h : tabAbove j t) : tabAbove j (tabSet d t k v) := by
  induction t with
  | nil =>
    unfold tabSet
    split
    · intro e he; simp at he
    · intro e he; simp at he; rw [he]; exact hj
  | cons e r ih =>
    have hr : tabAbove j r := fun x hx => h x (List.mem_cons_of_mem _ hx)
    have he : j < e.1 := h e (List.mem_cons_self ..)
    unfold tabSet
    split
    · split
      · exact h
      · intro x hx
        rcases List.mem_cons.mp hx with rfl | hx
        · exact hj
        · exact h x hx
    · split
      · split
        · exact hr
        · intro x hx
          rcases List.mem_cons.mp hx with rfl | hx
          · exact hj
          · exact hr x hx
      · intro x hx
        rcases List.mem_cons.mp hx with rfl | hx
        · exact he
        · exact ih hr x hx

theorem tabSet_sorted {α : Type} [DecidableEq α] (d : α) (t : List (Nat × α)) (k : Nat) (v : α)
    (h : tabSorted t) : tabSorted (tabSet d t k v) := by
  induction t with
  | nil =>
    unfold tabSet
    split
    · trivial
    · exact ⟨fun e he => by simp at he, trivial⟩
  | cons e r ih =>
    obtain ⟨ha, hs⟩ := h
    unfold tabSet
    split
    · rename_i hlt
      split
      · exact ⟨ha, hs⟩
      · refine ⟨fun x hx => ?_, ha, hs⟩
        rcases List.mem_cons.mp hx with rfl | hx
        · exact hlt
        · exact Nat.lt_trans hlt (ha x hx)
    · split
      · rename_i heq
        split
        · exact hs
        · exact ⟨fun x hx => heq ▸ ha x hx, hs⟩
      · rename_i h1 h2
        exact ⟨tabSet_above d r k e.1 v (by omega) ha, ih hs⟩

/-- A read after a write of the same index gives the value written. -/
theorem tabGet_tabSet_same {α : Type} [DecidableEq α] (d : α) (t : List (Nat × α)) (k : Nat) (v : α)
    (h : tabSorted t) : tabGet d (tabSet d t k v) k = v := by
  induction t with
  | nil =>
    unfold tabSet
    split
    · rename_i hv; simp [tabGet, hv]
    · simp [tabGet]
  | cons e r ih =>
    obtain ⟨ha, hs⟩ := h
    unfold tabSet
    split
    · rename_i hlt
      split
      · rename_i hv
        have : tabAbove k (e :: r) := fun x hx => by
          rcases List.mem_cons.mp hx with rfl | hx
          · exact hlt
          · exact Nat.lt_trans hlt (ha x hx)
        rw [tabGet_above d _ k this, hv]
      · simp [tabGet]
    · split
      · rename_i heq
        split
        · rename_i hv
          rw [tabGet_above d r k (heq ▸ ha), hv]
        · simp [tabGet]
      · rename_i h2
        simp only [tabGet, h2, if_false]
        exact ih hs

/-- A write leaves every other index alone. -/
theorem tabGet_tabSet_other {α : Type} [DecidableEq α] (d : α) (t : List (Nat × α)) (k j : Nat) (v : α)
    (hj : j ≠ k) : tabGet d (tabSet d t k v) j = tabGet d t j := by
  induction t with
  | nil => unfold tabSet; split <;> simp [tabGet, hj]
  | cons e r ih =>
    unfold tabSet
    split
    · split <;> simp [tabGet, hj]
    · split
      · rename_i heq
        have hje : j ≠ e.1 := heq ▸ hj
        split <;> simp [tabGet, hj, hje]
      · by_cases hje : j = e.1
        · simp [tabGet, hje]
        · simp only [tabGet, hje, if_false]; exact ih

/-- The canonical form, said of the entries: rising order, no entry at its default. -/
theorem wf_iff (m : Store) : Store.wf m = true ↔ tabSorted m ∧ ∀ e ∈ m, e.2 ≠ resetWord e.1 := by
  induction m with
  | nil => simp [Store.wf, tabSorted]
  | cons e r ih =>
    cases r with
    | nil => simp [Store.wf, tabSorted, tabAbove]
    | cons e' r' =>
      simp only [Store.wf, Bool.and_eq_true, decide_eq_true_eq, bne_iff_ne, ne_eq, ih]
      constructor
      · rintro ⟨⟨h1, h2⟩, h3, h4⟩
        refine ⟨⟨fun x hx => ?_, h3⟩, fun x hx => ?_⟩
        · rcases List.mem_cons.mp hx with rfl | hx
          · exact h2
          · exact Nat.lt_trans h2 (h3.1 x hx)
        · rcases List.mem_cons.mp hx with rfl | hx
          · exact h1
          · exact h4 x hx
      · rintro ⟨⟨h1, h2⟩, h3⟩
        exact ⟨⟨h3 e (List.mem_cons_self ..), h1 e' (List.mem_cons_self ..)⟩, h2,
          fun x hx => h3 x (List.mem_cons_of_mem _ hx)⟩

theorem mem_tabSet {α : Type} [DecidableEq α] (d : α) (t : List (Nat × α)) (k : Nat) (v : α) (e : Nat × α)
    (h : e ∈ tabSet d t k v) : e ∈ t ∨ (e = (k, v) ∧ v ≠ d) := by
  induction t with
  | nil =>
    unfold tabSet at h
    split at h
    · simp at h
    · rename_i hv; simp at h; exact Or.inr ⟨h, hv⟩
  | cons x r ih =>
    unfold tabSet at h
    split at h
    · split at h
      · exact Or.inl h
      · rename_i hv
        rcases List.mem_cons.mp h with rfl | h
        · exact Or.inr ⟨rfl, hv⟩
        · exact Or.inl h
    · split at h
      · split at h
        · exact Or.inl (List.mem_cons_of_mem _ h)
        · rename_i hv
          rcases List.mem_cons.mp h with rfl | h
          · exact Or.inr ⟨rfl, hv⟩
          · exact Or.inl (List.mem_cons_of_mem _ h)
      · rcases List.mem_cons.mp h with rfl | h
        · exact Or.inl (List.mem_cons_self ..)
        · rcases ih h with h | h
          · exact Or.inl (List.mem_cons_of_mem _ h)
          · exact Or.inr h

/-- A write of one word keeps the canonical form. -/
theorem storeSet_wf (m : Store) (a : Nat) (v : Word) (h : Store.wf m = true) : Store.wf (storeSet m a v) = true := by
  rw [wf_iff] at h ⊢
  refine ⟨tabSet_sorted _ _ _ _ h.1, fun e he => ?_⟩
  rcases mem_tabSet _ _ _ _ _ he with he | ⟨rfl, hv⟩
  · exact h.2 e he
  · exact hv

/-- Leaving words out keeps the canonical form. -/
theorem filter_wf (m : Store) (f : Nat × Word → Bool) (h : Store.wf m = true) : Store.wf (m.filter f) = true := by
  rw [wf_iff] at h ⊢
  obtain ⟨hs, hd⟩ := h
  refine ⟨?_, fun e he => hd e (List.mem_filter.mp he).1⟩
  clear hd
  induction m with
  | nil => trivial
  | cons e r ih =>
    obtain ⟨ha, hr⟩ := hs
    simp only [List.filter]
    split
    · exact ⟨fun x hx => ha x (List.mem_filter.mp hx).1, ih hr⟩
    · exact ih hr

theorem storeGet_storeSet_same (m : Store) (a : Nat) (v : Word) (h : Store.wf m = true) :
    storeGet (storeSet m a v) a = v := tabGet_tabSet_same _ _ _ _ ((wf_iff m).mp h).1

theorem storeGet_storeSet_other (m : Store) (a b : Nat) (v : Word) (hb : b ≠ a) :
    storeGet (storeSet m a v) b = storeGet m b := by
  unfold storeGet storeSet
  induction m with
  | nil => unfold tabSet; split <;> simp [tabGet, hb]
  | cons e r ih =>
    unfold tabSet
    split
    · split <;> simp [tabGet, hb]
    · split
      · rename_i heq
        have hbe : b ≠ e.1 := heq ▸ hb
        split <;> simp [tabGet, hb, hbe]
      · by_cases hbe : b = e.1
        · simp [tabGet, hbe]
        · simp only [tabGet, hbe, if_false]; exact ih

/-- A word read after it was written. -/
theorem word_setWord_same (s : State) (a : Nat) (v : Word) (h : s.canonical = true) : (s.setWord a v).word a = v :=
  storeGet_storeSet_same s.words a v h

/-- A write of one word leaves every other word. -/
theorem word_setWord_other (s : State) (a b : Nat) (v : Word) (hb : b ≠ a) : (s.setWord a v).word b = s.word b :=
  storeGet_storeSet_other s.words a b v hb

theorem setWord_canonical (s : State) (a : Nat) (v : Word) (h : s.canonical = true) : (s.setWord a v).canonical = true :=
  storeSet_wf s.words a v h

theorem put_canonical (s : State) (f : Fld) (v : Nat) (h : s.canonical = true) : (s.put f v).canonical = true :=
  setWord_canonical s f.addr _ h

theorem put64_canonical (s : State) (f : Fld) (v : Nat) (h : s.canonical = true) : (s.put64 f v).canonical = true :=
  setWord_canonical _ _ _ (setWord_canonical s f.addr _ h)

theorem incSat_canonical (s : State) (f : Fld) (h : s.canonical = true) : (s.incSat f).canonical = true :=
  put_canonical s f _ h

theorem incWrap_canonical (s : State) (f : Fld) (h : s.canonical = true) : (s.incWrap f).canonical = true :=
  put_canonical s f _ h

/-- A field of another word stays. -/
theorem get_put_other (s : State) (f g : Fld) (v : Nat) (h : g.addr ≠ f.addr) : (s.put f v).get g = s.get g := by
  unfold State.get State.put
  rw [word_setWord_other s f.addr g.addr _ h]

/-- The bits of a number after a field was replaced: the field holds the value, modulo its width. -/
theorem bits_setBits_same (n hi lo v : Nat) : bits (setBits n hi lo v) hi lo = v % 2 ^ (hi - lo + 1) := by
  unfold setBits bits
  generalize hw : hi - lo + 1 = w
  have h1 : n = n / 2 ^ lo * 2 ^ lo + n % 2 ^ lo := by rw [Nat.mul_comm]; exact (Nat.div_add_mod n (2 ^ lo)).symm
  have h2 : n / 2 ^ lo = n / 2 ^ lo / 2 ^ w * 2 ^ w + n / 2 ^ lo % 2 ^ w := by
    rw [Nat.mul_comm]; exact (Nat.div_add_mod _ (2 ^ w)).symm
  generalize hq : n / 2 ^ lo = q at h1 h2
  generalize hr : n % 2 ^ lo = r at h1
  generalize hp : q / 2 ^ w = p at h2
  generalize hm : q % 2 ^ w = m at h2
  have hrlt : r < 2 ^ lo := hr ▸ Nat.mod_lt _ (Nat.two_pow_pos lo)
  generalize hv : v % 2 ^ w = x
  have hx : x < 2 ^ w := hv ▸ Nat.mod_lt _ (Nat.two_pow_pos w)
  have e1 : n - m * 2 ^ lo + x * 2 ^ lo = (p * 2 ^ w + x) * 2 ^ lo + r := by
    rw [h1, h2, Nat.add_mul, Nat.add_mul]
    omega
  rw [e1, Nat.mul_comm _ (2 ^ lo), Nat.mul_add_div (Nat.two_pow_pos lo), Nat.div_eq_of_lt hrlt, Nat.add_zero,
    Nat.add_comm, Nat.add_mul_mod_self_right, Nat.mod_eq_of_lt hx]

end Sys2Proof.Machine
end

