-- ==== Sys2Proof/Laws/Irq.lean ====
section
/-! SUPPORT. What raising a sticky flag can change: the block's BLK_STICKY, and words of the interrupt controller. -/

namespace Sys2Proof.Machine

/-- `t` is `s` but for words of IRQ (R26), the host's vectors and the controller's own state; and is canonical where `s` is. -/
def IrqOnly (s t : State) : Prop :=
  (∀ a, a < 0x20020000 ∨ 0x20030000 ≤ a → t.word a = s.word a) ∧ (s.canonical = true → t.canonical = true) ∧
  ∃ w h i, t = { s with words := w, host := h, irq := i }

theorem IrqOnly.refl (s : State) : IrqOnly s s := ⟨fun _ _ => rfl, id, s.words, s.host, s.irq, rfl⟩

theorem IrqOnly.trans {s t u : State} (h : IrqOnly s t) (k : IrqOnly t u) : IrqOnly s u := by
  refine ⟨fun a ha => (k.1 a ha).trans (h.1 a ha), fun hc => k.2.1 (h.2.1 hc), ?_⟩
  obtain ⟨w, ho, i, rfl⟩ := h.2.2
  obtain ⟨w', ho', i', rfl⟩ := k.2.2
  exact ⟨w', ho', i', rfl⟩

theorem put_irqOnly (s : State) (f : Fld) (v : Nat) (h : 0x20020000 ≤ f.addr ∧ f.addr < 0x20030000) : IrqOnly s (s.put f v) :=
  ⟨fun a ha => word_setWord_other s f.addr a _ (by omega), put_canonical s f v, _, s.host, s.irq, rfl⟩

theorem incSat_irqOnly (s : State) (f : Fld) (h : 0x20020000 ≤ f.addr ∧ f.addr < 0x20030000) : IrqOnly s (s.incSat f) :=
  put_irqOnly s f _ h

theorem vectors_irqOnly (s : State) (h : HostInt) (i : IrqInt) : IrqOnly s { s with host := h, irq := i } :=
  ⟨fun _ _ => rfl, id, s.words, h, i, rfl⟩

theorem foldl_irqOnly {α : Type} (f : State → α → State) (l : List α) (s : State) (hf : ∀ a ∈ l, ∀ t, IrqOnly t (f t a)) :
    IrqOnly s (l.foldl f s) := by
  induction l generalizing s with
  | nil => exact IrqOnly.refl s
  | cons a r ih =>
    exact (hf a List.mem_cons_self s).trans (ih (f s a) (fun b hb => hf b (List.mem_cons_of_mem _ hb)))

theorem setPend_irqOnly (s : State) (n : Nat) (b : Bool) (h : n < 512) : IrqOnly s (s.setPend n b) :=
  put_irqOnly s _ _ (by simp only [F.IRQ_PEND]; omega)

theorem setInService_irqOnly (s : State) (n : Nat) (b : Bool) (h : n < 512) : IrqOnly s (s.setInService n b) :=
  put_irqOnly s _ _ (by simp only [F.IRQ_INSV]; omega)

theorem setReleased_irqOnly (s : State) (n : Nat) (b : Bool) : IrqOnly s (s.setReleased n b) := vectors_irqOnly s s.host _

theorem msix_irqOnly (s : State) (v : Nat) : IrqOnly s (s.msix v) := by
  unfold State.msix
  split <;> exact vectors_irqOnly s _ s.irq

theorem hostDeliver_irqOnly (s : State) (n : Nat) (h : n < 512) : IrqOnly s (s.hostDeliver n) := by
  unfold State.hostDeliver
  split
  · exact ((setPend_irqOnly s n false h).trans (setReleased_irqOnly _ n false)).trans (msix_irqOnly _ _)
  · exact IrqOnly.refl s

theorem groupFire_irqOnly (s : State) (g : Nat) (h : g < 32) : IrqOnly s (s.groupFire g) := by
  unfold State.groupFire
  dsimp only
  have h1 : IrqOnly s (((List.range 384).filter (s.groupMember g)).foldl (fun t n => t.setReleased n true) s) :=
    foldl_irqOnly _ _ _ (fun n _ t => setReleased_irqOnly t n true)
  have h2 := (h1.trans (put_irqOnly _ (F.IRQG_HELD g) 0 (by simp only [F.IRQG_HELD]; omega))).trans
    (put_irqOnly _ (F.IRQG_HOLDING g) 0 (by simp only [F.IRQG_HOLDING]; omega))
  refine (h2.trans (incSat_irqOnly _ (F.IRQG_FIRES g) (by simp only [F.IRQG_FIRES]; omega))).trans ?_
  exact foldl_irqOnly _ _ _ (fun n hn t => hostDeliver_irqOnly t n (by
    have := List.mem_range.mp (List.mem_filter.mp hn).1
    omega))

/-- A field's value is below the power of its width. -/
theorem get_lt (s : State) (f : Fld) : s.get f < 2 ^ (f.hi - f.lo + 1) := Nat.mod_lt _ (Nat.two_pow_pos _)

theorem groupHold_irqOnly (s : State) (n : Nat) : IrqOnly s (s.groupHold n) := by
  have hg : s.get (F.IRQS_GROUP n) < 32 := get_lt s (F.IRQS_GROUP n)
  have key : ∀ u : State, IrqOnly s u → ∀ g, g < 32 → ∀ m, IrqOnly s
      (let t := (u.incSat (F.IRQG_HELD g)).put (F.IRQG_HOLDING g) 1
       if m ≤ t.get (F.IRQG_HELD g) then t.groupFire g else t) := fun u hu g hg m => by
    have h1 := hu.trans ((incSat_irqOnly u (F.IRQG_HELD g) (by simp only [F.IRQG_HELD]; omega)).trans
      (put_irqOnly _ (F.IRQG_HOLDING g) 1 (by simp only [F.IRQG_HOLDING]; omega)))
    dsimp only
    split
    · exact h1.trans (groupFire_irqOnly _ _ hg)
    · exact h1
  unfold State.groupHold
  dsimp only
  refine key _ ?_ _ hg _
  split
  · exact IrqOnly.refl s
  · exact vectors_irqOnly s s.host _

theorem edgeCore_irqOnly (s : State) (n : Nat) (h : n < 512) : IrqOnly s (s.edgeCore n) := by
  unfold State.edgeCore
  dsimp only
  split
  · exact (setPend_irqOnly s n true h).trans (hostDeliver_irqOnly _ n h)
  · exact (setPend_irqOnly s n true h).trans (groupHold_irqOnly _ n)

theorem wakeSense_irqOnly (s : State) (n : Nat) (b : Bool) : IrqOnly s (s.wakeSense n b) := by
  unfold State.wakeSense
  split
  · exact IrqOnly.refl s
  · split
    · exact put_irqOnly s _ _ ⟨by decide, by decide⟩
    · exact IrqOnly.refl s

theorem lineCore_irqOnly (s : State) (n : Nat) (l : Bool) (h : n < 512) : IrqOnly s (s.lineCore n l) := by
  have key : ∀ u : State, IrqOnly s u → ∀ v c, IrqOnly s (if c = true then (u.put (F.IRQ_LINE (n / 32)) v).edgeCore n
      else u.put (F.IRQ_LINE (n / 32)) v) := fun u hu v c => by
    have h1 := hu.trans (put_irqOnly u (F.IRQ_LINE (n / 32)) v (by simp only [F.IRQ_LINE]; omega))
    split
    · exact h1.trans (edgeCore_irqOnly _ n h)
    · exact h1
  unfold State.lineCore
  dsimp only
  refine key _ ?_ _ _
  split
  · exact vectors_irqOnly s s.host _
  · exact (vectors_irqOnly s s.host { s.irq with raw := putBit s.irq.raw n l }).trans (wakeSense_irqOnly _ n l)

/-- R27, R468: the line of a block follows its flags; only words of IRQ can change. -/
theorem refreshLine_irqOnly (s : State) (b : Nat) (h : blockSource b < 512) : IrqOnly s (s.refreshLine b) :=
  lineCore_irqOnly s _ _ h

/-- R27: raising a flag changes BLK_STICKY of the block, and words of IRQ. -/
theorem raise_word (s : State) (b n a : Nat) (h : blockSource b < 512) (ha : a < 0x20020000 ∨ 0x20030000 ≤ a) (hs : a ≠ b + 0xC) :
    (s.raise b n).word a = s.word a :=
  ((refreshLine_irqOnly _ b h).1 a ha).trans (word_setWord_other s _ a _ hs)

/-- Bits that lie within a word are those of the number it was made from. -/
theorem bits_word (m hi lo : Nat) (hw : hi < 32) (hl : lo ≤ hi) : bits (m % 2 ^ 32) hi lo = bits m hi lo := by
  unfold bits
  have e : (2 : Nat) ^ 32 = 2 ^ lo * 2 ^ (32 - lo) := by rw [← Nat.pow_add]; congr 1; omega
  rw [e, Nat.mod_mul_right_div_self]
  exact Nat.mod_mod_of_dvd _ (Nat.pow_dvd_pow 2 (by omega))

/-- A field read after it was written holds the value modulo its width. -/
theorem get_put_same (s : State) (f : Fld) (v : Nat) (hc : s.canonical = true) (hw : f.hi < 32) (hl : f.lo ≤ f.hi) :
    (s.put f v).get f = v % 2 ^ (f.hi - f.lo + 1) := by
  unfold State.get State.put
  rw [word_setWord_same s _ _ hc]
  rw [show (Word.of (setBits (s.word f.addr).toNat f.hi f.lo v)).toNat = setBits (s.word f.addr).toNat f.hi f.lo v % 2 ^ 32 from
    BitVec.toNat_ofNat _ _, bits_word _ _ _ hw hl]
  exact bits_setBits_same _ _ _ _

/-- Replacing a field leaves a field of the same word that lies apart from it. -/
theorem bits_setBits_apart (n hi lo v hi' lo' : Nat) (h : lo ≤ hi) (h' : lo' ≤ hi') (hd : hi' < lo ∨ hi < lo') :
    bits (setBits n hi lo v) hi' lo' = bits n hi' lo' := by
  have h1 : n = n / 2 ^ lo * 2 ^ lo + n % 2 ^ lo := by rw [Nat.mul_comm]; exact (Nat.div_add_mod n (2 ^ lo)).symm
  have h2 : n / 2 ^ lo = n / 2 ^ lo / 2 ^ (hi - lo + 1) * 2 ^ (hi - lo + 1) + n / 2 ^ lo % 2 ^ (hi - lo + 1) := by
    rw [Nat.mul_comm]; exact (Nat.div_add_mod _ _).symm
  have hlt : n % 2 ^ lo < 2 ^ lo := Nat.mod_lt _ (Nat.two_pow_pos _)
  have e : setBits n hi lo v = (n / 2 ^ lo / 2 ^ (hi - lo + 1) * 2 ^ (hi - lo + 1) + v % 2 ^ (hi - lo + 1)) * 2 ^ lo + n % 2 ^ lo := by
    unfold setBits bits
    conv_lhs => rw [h1]
    generalize n / 2 ^ lo = q at h2 ⊢
    rw [Nat.mul_comm q, Nat.mul_add_div (Nat.two_pow_pos _), Nat.div_eq_of_lt hlt, Nat.add_zero]
    conv_lhs => rw [h2]
    rw [Nat.mul_comm (2 ^ lo), Nat.add_mul, Nat.add_mul, Nat.mul_add_mod_self_right, Nat.mod_mod]
    omega
  rcases hd with hd | hd
  · have k : ∀ m : Nat, m % 2 ^ lo = n % 2 ^ lo → bits m hi' lo' = bits n hi' lo' := fun m hm => by
      have t : ∀ a : Nat, bits a hi' lo' = bits (a % 2 ^ lo) hi' lo' := fun a => by
        unfold bits
        have e2 : (2 : Nat) ^ lo = 2 ^ lo' * 2 ^ (lo - lo') := by rw [← Nat.pow_add]; congr 1; omega
        rw [e2, Nat.mod_mul_right_div_self]
        exact (Nat.mod_mod_of_dvd _ (Nat.pow_dvd_pow 2 (by omega))).symm
      rw [t m, hm, ← t n]
    exact k _ (by rw [e, Nat.mul_comm, Nat.mul_add_mod, Nat.mod_mod])
  · have t : ∀ a : Nat, a / 2 ^ lo' = a / 2 ^ lo / 2 ^ (hi - lo + 1) / 2 ^ (lo' - hi - 1) := fun a => by
      rw [Nat.div_div_eq_div_mul, Nat.div_div_eq_div_mul, ← Nat.pow_add, ← Nat.pow_add]; congr 2; omega
    unfold bits
    rw [t, t n, e, Nat.mul_comm _ (2 ^ lo), Nat.mul_add_div (Nat.two_pow_pos _), Nat.div_eq_of_lt hlt, Nat.add_zero,
      Nat.mul_comm _ (2 ^ (hi - lo + 1)), Nat.mul_add_div (Nat.two_pow_pos _), Nat.div_eq_of_lt (Nat.mod_lt _ (Nat.two_pow_pos _)),
      Nat.add_zero]

/-- A field apart from the one written, of the same word or another, stays. -/
theorem get_put_apart (s : State) (f g : Fld) (v : Nat) (hc : s.canonical = true) (hf : f.hi < 32 ∧ f.lo ≤ f.hi)
    (hg : g.hi < 32 ∧ g.lo ≤ g.hi) (hd : g.hi < f.lo ∨ f.hi < g.lo) : (s.put f v).get g = s.get g := by
  by_cases ha : g.addr = f.addr
  · unfold State.get State.put
    rw [ha, word_setWord_same s _ _ hc]
    rw [show (Word.of (setBits (s.word f.addr).toNat f.hi f.lo v)).toNat = setBits (s.word f.addr).toNat f.hi f.lo v % 2 ^ 32 from
      BitVec.toNat_ofNat _ _, bits_word _ _ _ hg.1 hg.2]
    exact bits_setBits_apart _ _ _ _ _ _ hf.2 hg.2 hd
  · exact get_put_other s f g v ha

/-- R27: raising a flag sets its bit and keeps the others, in every block but IRQ. -/
theorem raise_sticky (s : State) (b n : Nat) (h : blockSource b < 512) (hb : b + 0xC < 0x20020000 ∨ 0x20030000 ≤ b + 0xC)
    (hc : s.canonical = true) :
    (s.raise b n).get (F.BLK_STICKY b) = putBit (s.get (F.BLK_STICKY b)) n true % 2 ^ 32 := by
  have h1 : (s.raise b n).word (F.BLK_STICKY b).addr = (s.put (F.BLK_STICKY b) (putBit (s.get (F.BLK_STICKY b)) n true)).word (F.BLK_STICKY b).addr :=
    (refreshLine_irqOnly _ b h).1 _ hb
  have h2 := get_put_same s (F.BLK_STICKY b) (putBit (s.get (F.BLK_STICKY b)) n true) hc (by decide : 31 < 32) (by decide : 0 ≤ 31)
  unfold State.get at h1 h2 ⊢
  rw [h1]
  exact h2

theorem raise_canonical (s : State) (b n : Nat) (h : blockSource b < 512) (hc : s.canonical = true) : (s.raise b n).canonical = true :=
  (refreshLine_irqOnly _ b h).2.1 (put_canonical s _ _ hc)

/-- R27: raising a flag changes words, the host's vectors and the controller's own state, and nothing else. -/
theorem raise_frame (s : State) (b n : Nat) (h : blockSource b < 512) :
    ∃ w ho i, s.raise b n = { s with words := w, host := ho, irq := i } := by
  obtain ⟨w, ho, i, e⟩ := (refreshLine_irqOnly (s.put (F.BLK_STICKY b) (putBit (s.get (F.BLK_STICKY b)) n true)) b h).2.2
  exact ⟨w, ho, i, e⟩

end Sys2Proof.Machine
end

