-- ==== Sys2Proof/Laws/KeptOps.lean ====
section
/-! SUPPORT. What every operation keeps (`Kept`: the store canonical, the queue, blown fuses): the named operations, the Lashing's base and the packets. One lemma per operation and
one per command, each citing the lemmas of what it calls. -/

set_option linter.unusedSimpArgs false

namespace Sys2Proof.Machine

/-- What a command finds: the queue behind it, and the OTP. -/
structure Before where
  queue : List Instr
  otp : OtpInt

/-- What every command keeps: the store of words is canonical, the queue is the one found, and fuses were only blown. -/
def Kept (b0 : Before) (s : State) : Prop := s.canonical = true ∧ s.pending = b0.queue ∧ b0.otp.BurnsTo s.otp

/-- The same of an outcome: what a next state keeps. -/
def KeptOut (b0 : Before) : Host.Outcome State Fault Refusal → Prop
  | .next t => Kept b0 t
  | _ => True

theorem keptOut_next {b0 : Before} {t : State} : KeptOut b0 (.next t) = Kept b0 t := propext Iff.rfl
theorem keptOut_fault {b0 : Before} {f : Fault} : KeptOut b0 (.fault f) = True := propext Iff.rfl
theorem keptOut_ite {b0 : Before} {c : Prop} [Decidable c] {a b : Host.Outcome State Fault Refusal} :
    KeptOut b0 (if c then a else b) = ((c → KeptOut b0 a) ∧ (¬c → KeptOut b0 b)) := by
  split <;> simp_all
theorem keptOut_awake {b0 : Before} {s : State} {o : Host.Outcome State Fault Refusal} (h : Kept b0 s) :
    KeptOut b0 (s.awake o) = (s.runs = true → KeptOut b0 o) := by
  unfold State.awake
  split <;> simp_all [KeptOut]
theorem kept_ite {b0 : Before} {c : Prop} [Decidable c] {a b : State} :
    Kept b0 (if c then a else b) = ((c → Kept b0 a) ∧ (¬c → Kept b0 b)) := by
  split <;> simp_all
theorem kept_foldl {b0 : Before} {α : Type} {f : State → α → State} {l : List α} {s : State}
    (hf : ∀ u a, Kept b0 u → Kept b0 (f u a)) (h : Kept b0 s) : Kept b0 (l.foldl f s) := by
  induction l generalizing s with
  | nil => exact h
  | cons a r ih => exact ih (hf s a h)
theorem kept_foldr {b0 : Before} {α : Type} {f : α → State → State} {l : List α} {s : State}
    (hf : ∀ a u, Kept b0 u → Kept b0 (f a u)) (h : Kept b0 s) : Kept b0 (l.foldr f s) := by
  induction l with
  | nil => exact h
  | cons a r ih => exact hf a _ ih
theorem kept_foldl1 {b0 : Before} {α β : Type} {f : State × β → α → State × β} {l : List α} {s : State × β}
    (hf : ∀ u a, Kept b0 u.1 → Kept b0 (f u a).1) (h : Kept b0 s.1) : Kept b0 (l.foldl f s).1 := by
  induction l generalizing s with
  | nil => exact h
  | cons a r ih => exact ih (hf s a h)
theorem State.setWord_kept {b0 : Before} (s : State) (a : Nat) (v : Word) (h : Kept b0 s) : Kept b0 (s.setWord a v) :=
  ⟨setWord_canonical s a v h.1, h.2⟩
theorem kept_upd {b0 : Before} (t : State) (free : Nat) (answer : Nat) (pairRd : List (Nat × PairRead)) (pairWr : List (Nat × PairWrite)) (commits : List Commit) (sys : SysInt) (host : HostInt) (ev : EvInt) (irq : IrqInt) (time : TimeInt) (mram : MramInt) (adc : AdcInt) (sched : SchedInt) (pwm : PwmInt) (loop : LoopInt) (motion : MotionInt) (ring : RingInt) (prog : ProgInt) (splice : SpliceInt) (lash : LashInt) (sec : SecInt) (can : List (Nat × CanInt)) (sto : StoInt) (acq : AcqInt) (opio : OpioInt) :
    Kept b0 (State.mk t.words free answer pairRd pairWr commits sys host ev irq time t.otp mram adc sched pwm loop motion ring prog splice lash sec can sto acq opio t.pending) = Kept b0 t := propext Iff.rfl

theorem kept_filter {b0 : Before} (t : State) (f : Nat × Word → Bool) (free : Nat) (answer : Nat) (pairRd : List (Nat × PairRead)) (pairWr : List (Nat × PairWrite)) (commits : List Commit) (sys : SysInt) (host : HostInt) (ev : EvInt) (irq : IrqInt) (time : TimeInt) (mram : MramInt) (adc : AdcInt) (sched : SchedInt) (pwm : PwmInt) (loop : LoopInt) (motion : MotionInt) (ring : RingInt) (prog : ProgInt) (splice : SpliceInt) (lash : LashInt) (sec : SecInt) (can : List (Nat × CanInt)) (sto : StoInt) (acq : AcqInt) (opio : OpioInt) (h : Kept b0 t) :
    Kept b0 (State.mk (t.words.filter f) free answer pairRd pairWr commits sys host ev irq time t.otp mram adc sched pwm loop motion ring prog splice lash sec can sto acq opio t.pending) := ⟨filter_wf _ f h.1, h.2⟩

theorem kept_optPkt {b0 : Before} (o : Option Pkt) (a : State) (b : Pkt → State) (ha : Kept b0 a) (hb : ∀ p, Kept b0 (b p)) :
    Kept b0 (match o with | none => a | some p => b p) := by
  cases o
  · exact ha
  · exact hb _

theorem State.put_kept {b0 : Before} (s : State) (f : Fld) (v : Nat) (hk : Kept b0 s) : Kept b0 (State.put s f v) := by
  unfold State.put
  simp (maxDischargeDepth := 40) +contextual only [hk, kept_ite, kept_upd, kept_foldl, kept_foldr, implies_true, and_self, keptOut_next, keptOut_ite, keptOut_fault, keptOut_awake, State.setWord_kept]

theorem State.setByte_kept {b0 : Before} (s : State) (a v : Nat) (hk : Kept b0 s) : Kept b0 (State.setByte s a v) := by
  unfold State.setByte
  simp (maxDischargeDepth := 40) +contextual only [hk, kept_ite, kept_upd, kept_foldl, kept_foldr, implies_true, and_self, keptOut_next, keptOut_ite, keptOut_fault, keptOut_awake, State.setWord_kept]

theorem State.putBytes_kept {b0 : Before} (s : State) (a : Nat) (l : List Nat) (h : Kept b0 s) : Kept b0 (s.putBytes a l) := by
  induction l generalizing s a with
  | nil => exact h
  | cons w r ih => exact ih _ _ (State.setByte_kept s a w h)

theorem State.put64_kept {b0 : Before} (s : State) (f : Fld) (v : Nat) (hk : Kept b0 s) : Kept b0 (State.put64 s f v) := by
  unfold State.put64
  simp (maxDischargeDepth := 40) +contextual only [hk, kept_ite, kept_upd, kept_foldl, kept_foldr, implies_true, and_self, keptOut_next, keptOut_ite, keptOut_fault, keptOut_awake, State.setWord_kept]

theorem State.incSat_kept {b0 : Before} (s : State) (f : Fld) (hk : Kept b0 s) : Kept b0 (State.incSat s f) := by
  unfold State.incSat
  simp (maxDischargeDepth := 40) +contextual only [hk, kept_ite, kept_upd, kept_foldl, kept_foldr, implies_true, and_self, keptOut_next, keptOut_ite, keptOut_fault, keptOut_awake, State.put_kept]

theorem State.incWrap_kept {b0 : Before} (s : State) (f : Fld) (hk : Kept b0 s) : Kept b0 (State.incWrap s f) := by
  unfold State.incWrap
  simp (maxDischargeDepth := 40) +contextual only [hk, kept_ite, kept_upd, kept_foldl, kept_foldr, implies_true, and_self, keptOut_next, keptOut_ite, keptOut_fault, keptOut_awake, State.put_kept]

theorem State.setFine_kept {b0 : Before} (s : State) (v : Int) (hk : Kept b0 s) : Kept b0 (State.setFine s v) := by
  unfold State.setFine
  simp (maxDischargeDepth := 40) +contextual only [hk, kept_ite, kept_upd, kept_foldl, kept_foldr, implies_true, and_self, keptOut_next, keptOut_ite, keptOut_fault, keptOut_awake]

theorem State.advance_kept {b0 : Before} (s : State) (n : Nat) (hk : Kept b0 s) : Kept b0 (State.advance s n) := by
  unfold State.advance
  simp (maxDischargeDepth := 40) +contextual only [hk, kept_ite, kept_upd, kept_foldl, kept_foldr, implies_true, and_self, keptOut_next, keptOut_ite, keptOut_fault, keptOut_awake, State.setFine_kept]

theorem State.markTime_kept {b0 : Before} (s : State) (hk : Kept b0 s) : Kept b0 (State.markTime s) := by
  unfold State.markTime
  simp (maxDischargeDepth := 40) +contextual only [hk, kept_ite, kept_upd, kept_foldl, kept_foldr, implies_true, and_self, keptOut_next, keptOut_ite, keptOut_fault, keptOut_awake]

theorem State.setRate_kept {b0 : Before} (s : State) (r : Int) (hk : Kept b0 s) : Kept b0 (State.setRate s r) := by
  unfold State.setRate
  simp (maxDischargeDepth := 40) +contextual only [hk, kept_ite, kept_upd, kept_foldl, kept_foldr, implies_true, and_self, keptOut_next, keptOut_ite, keptOut_fault, keptOut_awake, State.markTime_kept, State.put_kept]

theorem State.advanceTo_kept {b0 : Before} (s : State) (t : Nat) (hk : Kept b0 s) : Kept b0 (State.advanceTo s t) := by
  unfold State.advanceTo
  simp (maxDischargeDepth := 40) +contextual only [hk, kept_ite, kept_upd, kept_foldl, kept_foldr, implies_true, and_self, keptOut_next, keptOut_ite, keptOut_fault, keptOut_awake, State.advance_kept]

theorem State.advanceTick_kept {b0 : Before} (s : State) (k : Nat) (hk : Kept b0 s) : Kept b0 (State.advanceTick s k) := by
  unfold State.advanceTick
  simp (maxDischargeDepth := 40) +contextual only [hk, kept_ite, kept_upd, kept_foldl, kept_foldr, implies_true, and_self, keptOut_next, keptOut_ite, keptOut_fault, keptOut_awake, State.advance_kept]

theorem State.fresh_kept {b0 : Before} (s : State) (hk : Kept b0 s) : Kept b0 (State.fresh s).2 := by
  unfold State.fresh
  simp (maxDischargeDepth := 40) +contextual only [hk, kept_ite, kept_upd, kept_foldl, kept_foldr, implies_true, and_self, keptOut_next, keptOut_ite, keptOut_fault, keptOut_awake]

theorem State.msix_kept {b0 : Before} (s : State) (v : Nat) (hk : Kept b0 s) : Kept b0 (State.msix s v) := by
  unfold State.msix
  simp (maxDischargeDepth := 40) +contextual only [hk, kept_ite, kept_upd, kept_foldl, kept_foldr, implies_true, and_self, keptOut_next, keptOut_ite, keptOut_fault, keptOut_awake]

theorem State.setPend_kept {b0 : Before} (s : State) (n : Nat) (b : Bool) (hk : Kept b0 s) : Kept b0 (State.setPend s n b) := by
  unfold State.setPend
  simp (maxDischargeDepth := 40) +contextual only [hk, kept_ite, kept_upd, kept_foldl, kept_foldr, implies_true, and_self, keptOut_next, keptOut_ite, keptOut_fault, keptOut_awake, State.put_kept]

theorem State.setInService_kept {b0 : Before} (s : State) (n : Nat) (b : Bool) (hk : Kept b0 s) : Kept b0 (State.setInService s n b) := by
  unfold State.setInService
  simp (maxDischargeDepth := 40) +contextual only [hk, kept_ite, kept_upd, kept_foldl, kept_foldr, implies_true, and_self, keptOut_next, keptOut_ite, keptOut_fault, keptOut_awake, State.put_kept]

theorem State.setReleased_kept {b0 : Before} (s : State) (n : Nat) (b : Bool) (hk : Kept b0 s) : Kept b0 (State.setReleased s n b) := by
  unfold State.setReleased
  simp (maxDischargeDepth := 40) +contextual only [hk, kept_ite, kept_upd, kept_foldl, kept_foldr, implies_true, and_self, keptOut_next, keptOut_ite, keptOut_fault, keptOut_awake]

theorem State.hostDeliver_kept {b0 : Before} (s : State) (n : Nat) (hk : Kept b0 s) : Kept b0 (State.hostDeliver s n) := by
  unfold State.hostDeliver
  simp (maxDischargeDepth := 40) +contextual only [hk, kept_ite, kept_upd, kept_foldl, kept_foldr, implies_true, and_self, keptOut_next, keptOut_ite, keptOut_fault, keptOut_awake, State.setPend_kept, State.setReleased_kept, State.msix_kept]

theorem State.hostSweep_kept {b0 : Before} (s : State) (hk : Kept b0 s) : Kept b0 (State.hostSweep s) := by
  unfold State.hostSweep
  simp (maxDischargeDepth := 40) +contextual only [hk, kept_ite, kept_upd, kept_foldl, kept_foldr, implies_true, and_self, keptOut_next, keptOut_ite, keptOut_fault, keptOut_awake, State.hostDeliver_kept]

theorem State.groupFire_kept {b0 : Before} (s : State) (g : Nat) (hk : Kept b0 s) : Kept b0 (State.groupFire s g) := by
  unfold State.groupFire
  simp (maxDischargeDepth := 40) +contextual only [hk, kept_ite, kept_upd, kept_foldl, kept_foldr, implies_true, and_self, keptOut_next, keptOut_ite, keptOut_fault, keptOut_awake, State.setReleased_kept, State.put_kept, State.incSat_kept, State.hostDeliver_kept]

theorem State.groupHold_kept {b0 : Before} (s : State) (n : Nat) (hk : Kept b0 s) : Kept b0 (State.groupHold s n) := by
  unfold State.groupHold
  simp (maxDischargeDepth := 40) +contextual only [hk, kept_ite, kept_upd, kept_foldl, kept_foldr, implies_true, and_self, keptOut_next, keptOut_ite, keptOut_fault, keptOut_awake, State.incSat_kept, State.put_kept, State.groupFire_kept]

theorem State.edgeCore_kept {b0 : Before} (s : State) (n : Nat) (hk : Kept b0 s) : Kept b0 (State.edgeCore s n) := by
  unfold State.edgeCore
  simp (maxDischargeDepth := 40) +contextual only [hk, kept_ite, kept_upd, kept_foldl, kept_foldr, implies_true, and_self, keptOut_next, keptOut_ite, keptOut_fault, keptOut_awake, State.setPend_kept, State.hostDeliver_kept, State.groupHold_kept]

theorem State.wakeSense_kept {b0 : Before} (s : State) (n : Nat) (rising : Bool) (hk : Kept b0 s) : Kept b0 (State.wakeSense s n rising) := by
  unfold State.wakeSense
  split <;> simp (maxDischargeDepth := 40) +contextual only [hk, kept_ite, kept_upd, kept_foldl, kept_foldr, implies_true, and_self, keptOut_next, keptOut_ite, keptOut_fault, keptOut_awake, State.put_kept]

theorem State.lineCore_kept {b0 : Before} (s : State) (n : Nat) (l : Bool) (hk : Kept b0 s) : Kept b0 (State.lineCore s n l) := by
  unfold State.lineCore
  simp (maxDischargeDepth := 40) +contextual only [hk, kept_ite, kept_upd, kept_foldl, kept_foldr, implies_true, and_self, keptOut_next, keptOut_ite, keptOut_fault, keptOut_awake, State.wakeSense_kept, State.put_kept, State.edgeCore_kept]

theorem State.refreshLine_kept {b0 : Before} (s : State) (b : Nat) (hk : Kept b0 s) : Kept b0 (State.refreshLine s b) := by
  unfold State.refreshLine
  simp (maxDischargeDepth := 40) +contextual only [hk, kept_ite, kept_upd, kept_foldl, kept_foldr, implies_true, and_self, keptOut_next, keptOut_ite, keptOut_fault, keptOut_awake, State.lineCore_kept]

theorem State.raise_kept {b0 : Before} (s : State) (b n : Nat) (hk : Kept b0 s) : Kept b0 (State.raise s b n) := by
  unfold State.raise
  simp (maxDischargeDepth := 40) +contextual only [hk, kept_ite, kept_upd, kept_foldl, kept_foldr, implies_true, and_self, keptOut_next, keptOut_ite, keptOut_fault, keptOut_awake, State.put_kept, State.refreshLine_kept]

theorem State.reject_kept {b0 : Before} (s : State) (b : Nat) (hk : Kept b0 s) : Kept b0 (State.reject s b) := by
  unfold State.reject
  simp (maxDischargeDepth := 40) +contextual only [hk, kept_ite, kept_upd, kept_foldl, kept_foldr, implies_true, and_self, keptOut_next, keptOut_ite, keptOut_fault, keptOut_awake, State.raise_kept]

theorem State.pulseCore_kept {b0 : Before} (s : State) (n : Nat) (hk : Kept b0 s) : Kept b0 (State.pulseCore s n) := by
  unfold State.pulseCore
  simp (maxDischargeDepth := 40) +contextual only [hk, kept_ite, kept_upd, kept_foldl, kept_foldr, implies_true, and_self, keptOut_next, keptOut_ite, keptOut_fault, keptOut_awake, State.wakeSense_kept, State.edgeCore_kept]

theorem State.postRec_kept {b0 : Before} (s : State) (r : Rec) (hk : Kept b0 s) : Kept b0 (State.postRec s r) := by
  unfold State.postRec
  simp (maxDischargeDepth := 40) +contextual only [hk, kept_ite, kept_upd, kept_foldl, kept_foldr, implies_true, and_self, keptOut_next, keptOut_ite, keptOut_fault, keptOut_awake, State.incSat_kept, State.raise_kept]

theorem State.postSev_kept {b0 : Before} (s : State) (sev code source dataLo dataHi : Nat) (hk : Kept b0 s) : Kept b0 (State.postSev s sev code source dataLo dataHi) := by
  unfold State.postSev
  simp (maxDischargeDepth := 40) +contextual only [hk, kept_ite, kept_upd, kept_foldl, kept_foldr, implies_true, and_self, keptOut_next, keptOut_ite, keptOut_fault, keptOut_awake, State.postRec_kept]

theorem State.post_kept {b0 : Before} (s : State) (code source dataLo dataHi : Nat) (hk : Kept b0 s) : Kept b0 (State.post s code source dataLo dataHi) := by
  unfold State.post
  simp (maxDischargeDepth := 40) +contextual only [hk, kept_ite, kept_upd, kept_foldl, kept_foldr, implies_true, and_self, keptOut_next, keptOut_ite, keptOut_fault, keptOut_awake, State.postSev_kept]

theorem State.lockReject_kept {b0 : Before} (s : State) (b u o : Nat) (region : Bool) (hk : Kept b0 s) : Kept b0 (State.lockReject s b u o region) := by
  unfold State.lockReject
  simp (maxDischargeDepth := 40) +contextual only [hk, kept_ite, kept_upd, kept_foldl, kept_foldr, implies_true, and_self, keptOut_next, keptOut_ite, keptOut_fault, keptOut_awake, State.reject_kept, State.post_kept]

theorem State.refreshCmtPend_kept {b0 : Before} (s : State) (b : Nat) (hk : Kept b0 s) : Kept b0 (State.refreshCmtPend s b) := by
  unfold State.refreshCmtPend
  simp (maxDischargeDepth := 40) +contextual only [hk, kept_ite, kept_upd, kept_foldl, kept_foldr, implies_true, and_self, keptOut_next, keptOut_ite, keptOut_fault, keptOut_awake, State.put_kept]

theorem State.activate_kept {b0 : Before} (s : State) (f : Fld) (hk : Kept b0 s) : Kept b0 (State.activate s f) := by
  unfold State.activate
  simp (maxDischargeDepth := 40) +contextual only [hk, kept_ite, kept_upd, kept_foldl, kept_foldr, implies_true, and_self, keptOut_next, keptOut_ite, keptOut_fault, keptOut_awake, State.put_kept]

theorem State.activateAll_kept {b0 : Before} (s : State) (fs : List Fld) (hk : Kept b0 s) : Kept b0 (State.activateAll s fs) := by
  unfold State.activateAll
  simp (maxDischargeDepth := 40) +contextual only [hk, kept_ite, kept_upd, kept_foldl, kept_foldr, implies_true, and_self, keptOut_next, keptOut_ite, keptOut_fault, keptOut_awake, State.activate_kept]

theorem State.dropCommit_kept {b0 : Before} (s : State) (b u : Nat) (hk : Kept b0 s) : Kept b0 (State.dropCommit s b u) := by
  unfold State.dropCommit
  simp (maxDischargeDepth := 40) +contextual only [hk, kept_ite, kept_upd, kept_foldl, kept_foldr, implies_true, and_self, keptOut_next, keptOut_ite, keptOut_fault, keptOut_awake, State.refreshCmtPend_kept]

theorem State.lashI_kept {b0 : Before} (s : State) (f : LashInt → LashInt) (hk : Kept b0 s) : Kept b0 (State.lashI s f) := by
  unfold State.lashI
  simp (maxDischargeDepth := 40) +contextual only [hk, kept_ite, kept_upd, kept_foldl, kept_foldr, implies_true, and_self, keptOut_next, keptOut_ite, keptOut_fault, keptOut_awake]

theorem State.splEmit_kept {b0 : Before} (s : State) (fs : List (Nat × List Nat)) (hk : Kept b0 s) : Kept b0 (State.splEmit s fs) := by
  unfold State.splEmit
  simp (maxDischargeDepth := 40) +contextual only [hk, kept_ite, kept_upd, kept_foldl, kept_foldr, implies_true, and_self, keptOut_next, keptOut_ite, keptOut_fault, keptOut_awake, State.incSat_kept]

theorem State.splOut_kept {b0 : Before} (s : State) (f : List Nat) (hk : Kept b0 s) : Kept b0 (State.splOut s f) := by
  unfold State.splOut
  split <;> simp (maxDischargeDepth := 40) +contextual only [hk, kept_ite, kept_upd, kept_foldl, kept_foldr, implies_true, and_self, keptOut_next, keptOut_ite, keptOut_fault, keptOut_awake, State.splEmit_kept]

theorem State.splSend_kept {b0 : Before} (s : State) (ftype d : Nat) (content : List Nat) (hk : Kept b0 s) : Kept b0 (State.splSend s ftype d content) := by
  unfold State.splSend
  simp (maxDischargeDepth := 40) +contextual only [hk, kept_ite, kept_upd, kept_foldl, kept_foldr, implies_true, and_self, keptOut_next, keptOut_ite, keptOut_fault, keptOut_awake, State.splOut_kept]

theorem State.exportSignal_kept {b0 : Before} (s : State) (c word ts : Nat) (hk : Kept b0 s) : Kept b0 (State.exportSignal s c word ts) := by
  unfold State.exportSignal
  simp (maxDischargeDepth := 40) +contextual only [hk, kept_ite, kept_upd, kept_foldl, kept_foldr, implies_true, and_self, keptOut_next, keptOut_ite, keptOut_fault, keptOut_awake, State.splEmit_kept]

theorem State.mirrorSend_kept {b0 : Before} (s : State) (ftype : Nat) (content : List Nat) (hk : Kept b0 s) : Kept b0 (State.mirrorSend s ftype content) := by
  unfold State.mirrorSend
  simp (maxDischargeDepth := 40) +contextual only [hk, kept_ite, kept_upd, kept_foldl, kept_foldr, implies_true, and_self, keptOut_next, keptOut_ite, keptOut_fault, keptOut_awake, State.lashI_kept, State.splEmit_kept]

theorem State.controlSend_kept {b0 : Before} (s : State) (c : LashControl) (hk : Kept b0 s) : Kept b0 (State.controlSend s c) := by
  unfold State.controlSend
  simp (maxDischargeDepth := 40) +contextual only [hk, kept_ite, kept_upd, kept_foldl, kept_foldr, implies_true, and_self, keptOut_next, keptOut_ite, keptOut_fault, keptOut_awake, State.splSend_kept]

theorem State.mirInput_kept {b0 : Before} (s : State) (x : MirItem) (hk : Kept b0 s) : Kept b0 (State.mirInput s x) := by
  unfold State.mirInput
  simp (maxDischargeDepth := 40) +contextual only [hk, kept_ite, kept_upd, kept_foldl, kept_foldr, implies_true, and_self, keptOut_next, keptOut_ite, keptOut_fault, keptOut_awake, State.mirrorSend_kept]

theorem State.mirInputIf_kept {b0 : Before} (s : State) (c : Bool) (x : MirItem) (hk : Kept b0 s) : Kept b0 (State.mirInputIf s c x) := by
  unfold State.mirInputIf
  simp (maxDischargeDepth := 40) +contextual only [hk, kept_ite, kept_upd, kept_foldl, kept_foldr, implies_true, and_self, keptOut_next, keptOut_ite, keptOut_fault, keptOut_awake, State.mirInput_kept]

theorem State.setRole_kept {b0 : Before} (s : State) (r : Nat) (hk : Kept b0 s) : Kept b0 (State.setRole s r) := by
  unfold State.setRole
  simp (maxDischargeDepth := 40) +contextual only [hk, kept_ite, kept_upd, kept_foldl, kept_foldr, implies_true, and_self, keptOut_next, keptOut_ite, keptOut_fault, keptOut_awake, State.put_kept, State.msix_kept]

theorem State.setCan_kept {b0 : Before} (s : State) (c : Nat) (v : CanInt) (hk : Kept b0 s) : Kept b0 (State.setCan s c v) := by
  unfold State.setCan
  simp (maxDischargeDepth := 40) +contextual only [hk, kept_ite, kept_upd, kept_foldl, kept_foldr, implies_true, and_self, keptOut_next, keptOut_ite, keptOut_fault, keptOut_awake]

theorem State.canSync_kept {b0 : Before} (s : State) (c mode : Nat) (hk : Kept b0 s) : Kept b0 (State.canSync s c mode) := by
  unfold State.canSync
  simp (maxDischargeDepth := 40) +contextual only [hk, kept_ite, kept_upd, kept_foldl, kept_foldr, implies_true, and_self, keptOut_next, keptOut_ite, keptOut_fault, keptOut_awake, State.put_kept]

theorem State.canModes_kept {b0 : Before} (s : State) (m : Nat) (hk : Kept b0 s) : Kept b0 (State.canModes s m) := by
  unfold State.canModes
  simp (maxDischargeDepth := 40) +contextual only [hk, kept_ite, kept_upd, kept_foldl, kept_foldr, implies_true, and_self, keptOut_next, keptOut_ite, keptOut_fault, keptOut_awake, State.canSync_kept, State.put_kept, State.setCan_kept]

theorem State.refreshForceInd_kept {b0 : Before} (s : State) (hk : Kept b0 s) : Kept b0 (State.refreshForceInd s) := by
  unfold State.refreshForceInd
  simp (maxDischargeDepth := 40) +contextual only [hk, kept_ite, kept_upd, kept_foldl, kept_foldr, implies_true, and_self, keptOut_next, keptOut_ite, keptOut_fault, keptOut_awake]

theorem State.setOutEn_kept {b0 : Before} (s : State) (hk : Kept b0 s) : Kept b0 (State.setOutEn s) := by
  unfold State.setOutEn
  simp (maxDischargeDepth := 40) +contextual only [hk, kept_ite, kept_upd, kept_foldl, kept_foldr, implies_true, and_self, keptOut_next, keptOut_ite, keptOut_fault, keptOut_awake, State.refreshForceInd_kept, State.put_kept]

theorem State.hpJoin_kept {b0 : Before} (s : State) (n : Nat) (hk : Kept b0 s) : Kept b0 (State.hpJoin s n) := by
  unfold State.hpJoin
  simp (maxDischargeDepth := 40) +contextual only [hk, kept_ite, kept_upd, kept_foldl, kept_foldr, implies_true, and_self, keptOut_next, keptOut_ite, keptOut_fault, keptOut_awake, State.put_kept]

theorem State.dropPeriods_kept {b0 : Before} (s : State) (hk : Kept b0 s) : Kept b0 (State.dropPeriods s) := by
  unfold State.dropPeriods
  simp (maxDischargeDepth := 40) +contextual only [hk, kept_ite, kept_upd, kept_foldl, kept_foldr, implies_true, and_self, keptOut_next, keptOut_ite, keptOut_fault, keptOut_awake]

theorem State.lashEnter_kept {b0 : Before} (s : State) (old st : Nat) (hk : Kept b0 s) : Kept b0 (State.lashEnter s old st) := by
  unfold State.lashEnter
  simp (maxDischargeDepth := 40) +contextual only [hk, kept_ite, kept_upd, kept_foldl, kept_foldr, implies_true, and_self, keptOut_next, keptOut_ite, keptOut_fault, keptOut_awake, State.setOutEn_kept, State.canModes_kept, State.dropPeriods_kept, State.lashI_kept]

theorem State.setLash_kept {b0 : Before} (s : State) (st : Nat) (hk : Kept b0 s) : Kept b0 (State.setLash s st) := by
  unfold State.setLash
  simp (maxDischargeDepth := 40) +contextual only [hk, kept_ite, kept_upd, kept_foldl, kept_foldr, implies_true, and_self, keptOut_next, keptOut_ite, keptOut_fault, keptOut_awake, State.put_kept, State.setRole_kept, State.lashI_kept, State.msix_kept, State.raise_kept, State.postSev_kept, State.lashEnter_kept]

theorem State.lashLost_kept {b0 : Before} (s : State) (sticky : Nat) (hk : Kept b0 s) : Kept b0 (State.lashLost s sticky) := by
  unfold State.lashLost
  simp (maxDischargeDepth := 40) +contextual only [hk, kept_ite, kept_upd, kept_foldl, kept_foldr, implies_true, and_self, keptOut_next, keptOut_ite, keptOut_fault, keptOut_awake, State.raise_kept, State.setLash_kept]

theorem State.noteResign_kept {b0 : Before} (s : State) (hk : Kept b0 s) : Kept b0 (State.noteResign s) := by
  unfold State.noteResign
  simp (maxDischargeDepth := 40) +contextual only [hk, kept_ite, kept_upd, kept_foldl, kept_foldr, implies_true, and_self, keptOut_next, keptOut_ite, keptOut_fault, keptOut_awake, State.lashI_kept]

theorem State.seedTx_kept {b0 : Before} (s : State) (u after cyc : Nat) (x : Seed) (hk : Kept b0 s) : Kept b0 (State.seedTx s u after cyc x) := by
  unfold State.seedTx
  split <;> simp (maxDischargeDepth := 40) +contextual only [hk, kept_ite, kept_upd, kept_foldl, kept_foldr, implies_true, and_self, keptOut_next, keptOut_ite, keptOut_fault, keptOut_awake, State.mirrorSend_kept, State.lashI_kept]

theorem State.setQ_kept {b0 : Before} (s : State) (n : Nat) (v : QInt) (hk : Kept b0 s) : Kept b0 (State.setQ s n v) := by
  unfold State.setQ
  simp (maxDischargeDepth := 40) +contextual only [hk, kept_ite, kept_upd, kept_foldl, kept_foldr, implies_true, and_self, keptOut_next, keptOut_ite, keptOut_fault, keptOut_awake]

theorem State.dropVerified_kept {b0 : Before} (s : State) (p : Pkt) (last dup : Bool) (hk : Kept b0 s) : Kept b0 (State.dropVerified s p last dup) := by
  unfold State.dropVerified
  simp (maxDischargeDepth := 40) +contextual only [hk, kept_ite, kept_upd, kept_foldl, kept_foldr, implies_true, and_self, keptOut_next, keptOut_ite, keptOut_fault, keptOut_awake]

theorem State.setFlight_kept {b0 : Before} (s : State) (n : Nat) (l : List Flight) (hk : Kept b0 s) : Kept b0 (State.setFlight s n l) := by
  unfold State.setFlight
  simp (maxDischargeDepth := 40) +contextual only [hk, kept_ite, kept_upd, kept_foldl, kept_foldr, implies_true, and_self, keptOut_next, keptOut_ite, keptOut_fault, keptOut_awake, State.setQ_kept, State.put_kept]

theorem State.noteEnd_kept {b0 : Before} (s : State) (p : Pkt) (last refused : Bool) (hk : Kept b0 s) : Kept b0 (State.noteEnd s p last refused) := by
  unfold State.noteEnd
  simp (maxDischargeDepth := 40) +contextual only [hk, kept_ite, kept_upd, kept_foldl, kept_foldr, implies_true, and_self, keptOut_next, keptOut_ite, keptOut_fault, keptOut_awake, State.setFlight_kept]

theorem State.noteStart_kept {b0 : Before} (s : State) (p : Pkt) (hk : Kept b0 s) : Kept b0 (State.noteStart s p) := by
  unfold State.noteStart
  simp (maxDischargeDepth := 40) +contextual only [hk, kept_ite, kept_upd, kept_foldl, kept_foldr, implies_true, and_self, keptOut_next, keptOut_ite, keptOut_fault, keptOut_awake, State.setQ_kept]

theorem State.reply_kept {b0 : Before} (s0 : State) (p : Pkt) (status : Nat) (res : List Nat) (time : Nat) (last refused : Bool) (hk : Kept b0 s0) : Kept b0 (State.reply s0 p status res time last refused) := by
  unfold State.reply
  simp (maxDischargeDepth := 40) +contextual only [hk, kept_ite, kept_upd, kept_foldl, kept_foldr, implies_true, and_self, keptOut_next, keptOut_ite, keptOut_fault, keptOut_awake, State.dropVerified_kept, State.noteEnd_kept, State.incSat_kept, State.post_kept, State.setQ_kept]

theorem State.doneAt_kept {b0 : Before} (s : State) (p : Pkt) (status t : Nat) (hk : Kept b0 s) : Kept b0 (State.doneAt s p status t) := by
  unfold State.doneAt
  simp (maxDischargeDepth := 40) +contextual only [hk, kept_ite, kept_upd, kept_foldl, kept_foldr, implies_true, and_self, keptOut_next, keptOut_ite, keptOut_fault, keptOut_awake, State.reply_kept]

theorem State.done_kept {b0 : Before} (s : State) (p : Pkt) (status : Nat) (hk : Kept b0 s) : Kept b0 (State.done s p status) := by
  unfold State.done
  simp (maxDischargeDepth := 40) +contextual only [hk, kept_ite, kept_upd, kept_foldl, kept_foldr, implies_true, and_self, keptOut_next, keptOut_ite, keptOut_fault, keptOut_awake, State.doneAt_kept]

theorem State.doneRes_kept {b0 : Before} (s : State) (p : Pkt) (res : List Nat) (hk : Kept b0 s) : Kept b0 (State.doneRes s p res) := by
  unfold State.doneRes
  simp (maxDischargeDepth := 40) +contextual only [hk, kept_ite, kept_upd, kept_foldl, kept_foldr, implies_true, and_self, keptOut_next, keptOut_ite, keptOut_fault, keptOut_awake, State.reply_kept]

theorem State.accept_kept {b0 : Before} (s : State) (p : Pkt) (hk : Kept b0 s) : Kept b0 (State.accept s p) := by
  unfold State.accept
  simp (maxDischargeDepth := 40) +contextual only [hk, kept_ite, kept_upd, kept_foldl, kept_foldr, implies_true, and_self, keptOut_next, keptOut_ite, keptOut_fault, keptOut_awake, State.reply_kept]

theorem State.doneOpt_kept {b0 : Before} (s : State) (p : Option Pkt) (status : Nat) (hk : Kept b0 s) : Kept b0 (State.doneOpt s p status) := by
  unfold State.doneOpt
  split <;> simp (maxDischargeDepth := 40) +contextual only [hk, kept_ite, kept_upd, kept_foldl, kept_foldr, implies_true, and_self, keptOut_next, keptOut_ite, keptOut_fault, keptOut_awake, State.done_kept]

theorem State.abandonOne_kept {b0 : Before} (s : State) (b : Nat) (late : List Commit) (hk : Kept b0 s) : Kept b0 (State.abandonOne s b late) := by
  unfold State.abandonOne
  split <;> simp (maxDischargeDepth := 40) +contextual only [hk, kept_ite, kept_upd, kept_foldl, kept_foldr, implies_true, and_self, keptOut_next, keptOut_ite, keptOut_fault, keptOut_awake, State.refreshCmtPend_kept, State.raise_kept, State.post_kept, State.doneOpt_kept]

theorem State.abandonAt_kept {b0 : Before} (s : State) (b k : Nat) (reach : Commit → Bool) (hk : Kept b0 s) : Kept b0 (State.abandonAt s b k reach) := by
  unfold State.abandonAt
  simp (maxDischargeDepth := 40) +contextual only [hk, kept_ite, kept_upd, kept_foldl, kept_foldr, implies_true, and_self, keptOut_next, keptOut_ite, keptOut_fault, keptOut_awake, State.abandonOne_kept]

theorem State.safePoint_kept {b0 : Before} (s : State) (b u lead k : Nat) (reach : Commit → Bool) (commit : State → State)
    (hc : ∀ t, Kept b0 t → Kept b0 (commit t)) (h : Kept b0 s) : Kept b0 (s.safePoint b u lead k reach commit) := by
  unfold State.safePoint
  dsimp only
  split
  · exact hc _ (State.abandonAt_kept _ _ _ _ h)
  · exact State.abandonAt_kept _ _ _ _ h

theorem State.mirrorCmd_kept {b0 : Before} (s : State) (p : Pkt) (c : Nat) (hk : Kept b0 s) : Kept b0 (State.mirrorCmd s p c) := by
  unfold State.mirrorCmd
  simp (maxDischargeDepth := 40) +contextual only [hk, kept_ite, kept_upd, kept_foldl, kept_foldr, implies_true, and_self, keptOut_next, keptOut_ite, keptOut_fault, keptOut_awake, State.mirrorSend_kept, State.lashI_kept]

theorem State.secBusy_kept {b0 : Before} (s : State) (hk : Kept b0 s) : Kept b0 (State.secBusy s) := by
  unfold State.secBusy
  simp (maxDischargeDepth := 40) +contextual only [hk, kept_ite, kept_upd, kept_foldl, kept_foldr, implies_true, and_self, keptOut_next, keptOut_ite, keptOut_fault, keptOut_awake, State.put_kept]

theorem State.command_kept {b0 : Before} (s : State) (p : Pkt) (opcode : Nat) (checks : List (Bool × Nat))
    (effect : State → State) (he : ∀ t, Kept b0 t → Kept b0 (effect t)) (h : Kept b0 s) : Kept b0 (s.command p opcode checks effect) := by
  unfold State.command
  split
  · exact h
  · split
    · exact State.done_kept s p _ h
    · split
      · exact State.done_kept s p _ h
      · split
        · exact State.mirrorCmd_kept _ p _ (State.noteStart_kept s p h)
        · exact he _ (State.noteStart_kept s p h)

end Sys2Proof.Machine
end

