-- ==== Sys2Proof/Laws/KeptHost.lean ====
section
/-! SUPPORT. What every operation keeps (`Kept`: the store canonical, the queue, blown fuses): reset, the system block, the host interface, interrupts, records, the scheduler, PWM. One lemma per operation and
one per command, each citing the lemmas of what it calls. -/

set_option linter.unusedSimpArgs false

namespace Sys2Proof.Machine

theorem State.lifetimeFlush_kept {b0 : Before} (s : State) (hk : Kept b0 s) : Kept b0 (State.lifetimeFlush s) := by
  unfold State.lifetimeFlush
  simp (maxDischargeDepth := 40) +contextual only [hk, kept_ite, kept_upd, kept_foldl, kept_foldr, implies_true, and_self, keptOut_next, keptOut_ite, keptOut_fault, keptOut_awake, State.setWord_kept]

theorem State.lifetimeRestore_kept {b0 : Before} (s : State) (hk : Kept b0 s) : Kept b0 (State.lifetimeRestore s) := by
  unfold State.lifetimeRestore
  simp (maxDischargeDepth := 40) +contextual only [hk, kept_ite, kept_upd, kept_foldl, kept_foldr, implies_true, and_self, keptOut_next, keptOut_ite, keptOut_fault, keptOut_awake, State.setWord_kept]

theorem State.noteCause_kept {b0 : Before} (s : State) (k : ResetKind) (hk : Kept b0 s) : Kept b0 (State.noteCause s k) := by
  unfold State.noteCause
  simp (maxDischargeDepth := 40) +contextual only [hk, kept_ite, kept_upd, kept_foldl, kept_foldr, implies_true, and_self, keptOut_next, keptOut_ite, keptOut_fault, keptOut_awake, State.setWord_kept, State.put_kept]

theorem State.mirrorCause_kept {b0 : Before} (s : State) (hk : Kept b0 s) : Kept b0 (State.mirrorCause s) := by
  unfold State.mirrorCause
  simp (maxDischargeDepth := 40) +contextual only [hk, kept_ite, kept_upd, kept_foldl, kept_foldr, implies_true, and_self, keptOut_next, keptOut_ite, keptOut_fault, keptOut_awake, State.setWord_kept]

theorem State.otpMirror_kept {b0 : Before} (s : State) (hk : Kept b0 s) : Kept b0 (State.otpMirror s) := by
  unfold State.otpMirror
  simp (maxDischargeDepth := 40) +contextual only [hk, kept_ite, kept_upd, kept_foldl, kept_foldr, implies_true, and_self, keptOut_next, keptOut_ite, keptOut_fault, keptOut_awake, State.put64_kept, State.put_kept]

theorem State.assertReset_kept {b0 : Before} (s0 : State) (k : ResetKind) (h : Kept b0 s0) : Kept b0 (s0.assertReset k) := by
  have h1 : Kept b0 (if k = .por then s0 else s0.lifetimeFlush) := by
    simp only [h, kept_ite, State.lifetimeFlush_kept, implies_true, and_self]
  unfold State.assertReset
  generalize (if k = .por then s0 else s0.lifetimeFlush) = s at h1
  dsimp only
  repeat' split
  all_goals simp (maxDischargeDepth := 40) only [h1, kept_upd, kept_filter, State.noteCause_kept,
    State.mirrorCause_kept, State.otpMirror_kept, State.lifetimeRestore_kept, State.setWord_kept, State.put_kept, State.incSat_kept]

theorem State.setStage_kept {b0 : Before} (s : State) (v : Nat) (hk : Kept b0 s) : Kept b0 (State.setStage s v) := by
  unfold State.setStage
  simp (maxDischargeDepth := 40) +contextual only [hk, kept_ite, kept_upd, kept_foldl, kept_foldr, implies_true, and_self, keptOut_next, keptOut_ite, keptOut_fault, keptOut_awake, State.put_kept, State.msix_kept]

theorem State.setErr_kept {b0 : Before} (s : State) (v : Nat) (hk : Kept b0 s) : Kept b0 (State.setErr s v) := by
  unfold State.setErr
  simp (maxDischargeDepth := 40) +contextual only [hk, kept_ite, kept_upd, kept_foldl, kept_foldr, implies_true, and_self, keptOut_next, keptOut_ite, keptOut_fault, keptOut_awake, State.put_kept, State.msix_kept]

theorem State.stageFail_kept {b0 : Before} (s : State) (err : Nat) (hk : Kept b0 s) : Kept b0 (State.stageFail s err) := by
  unfold State.stageFail
  simp (maxDischargeDepth := 40) +contextual only [hk, kept_ite, kept_upd, kept_foldl, kept_foldr, implies_true, and_self, keptOut_next, keptOut_ite, keptOut_fault, keptOut_awake, State.setErr_kept, State.post_kept]

theorem State.resetPin_kept {b0 : Before} (s : State) (k : ResetKind) (lowNs : Nat) (hk : Kept b0 s) : Kept b0 (State.resetPin s k lowNs) := by
  unfold State.resetPin
  simp (maxDischargeDepth := 40) +contextual only [hk, kept_ite, kept_upd, kept_foldl, kept_foldr, implies_true, and_self, keptOut_next, keptOut_ite, keptOut_fault, keptOut_awake, State.assertReset_kept]

theorem execPorAssert_kept {b0 : Before} (lowNs : Nat) (s : State) (hk : Kept b0 s) : KeptOut b0 (execPorAssert lowNs s) := by
  unfold execPorAssert
  simp (maxDischargeDepth := 40) +contextual only [hk, kept_ite, kept_upd, kept_foldl, kept_foldr, implies_true, and_self, keptOut_next, keptOut_ite, keptOut_fault, keptOut_awake, State.resetPin_kept]

theorem execSysResetnAssert_kept {b0 : Before} (lowNs : Nat) (s : State) (hk : Kept b0 s) : KeptOut b0 (execSysResetnAssert lowNs s) := by
  unfold execSysResetnAssert
  simp (maxDischargeDepth := 40) +contextual only [hk, kept_ite, kept_upd, kept_foldl, kept_foldr, implies_true, and_self, keptOut_next, keptOut_ite, keptOut_fault, keptOut_awake, State.resetPin_kept]

theorem execSupplyUnderVoltage_kept {b0 : Before} (s : State) (hk : Kept b0 s) : KeptOut b0 (execSupplyUnderVoltage s) := by
  unfold execSupplyUnderVoltage
  simp (maxDischargeDepth := 40) +contextual only [hk, kept_ite, kept_upd, kept_foldl, kept_foldr, implies_true, and_self, keptOut_next, keptOut_ite, keptOut_fault, keptOut_awake, State.assertReset_kept]

theorem execDebugResetRequest_kept {b0 : Before} (s : State) (hk : Kept b0 s) : KeptOut b0 (execDebugResetRequest s) := by
  unfold execDebugResetRequest
  simp (maxDischargeDepth := 40) +contextual only [hk, kept_ite, kept_upd, kept_foldl, kept_foldr, implies_true, and_self, keptOut_next, keptOut_ite, keptOut_fault, keptOut_awake, State.assertReset_kept]

theorem execResetRelease_kept {b0 : Before} (bootIf pcieRefsel : Bool) (s : State) (hk : Kept b0 s) : KeptOut b0 (execResetRelease bootIf pcieRefsel s) := by
  unfold execResetRelease
  simp (maxDischargeDepth := 40) +contextual only [hk, kept_ite, kept_upd, kept_foldl, kept_foldr, implies_true, and_self, keptOut_next, keptOut_ite, keptOut_fault, keptOut_awake, State.put_kept]

theorem execXtalOk_kept {b0 : Before} (s : State) (hk : Kept b0 s) : KeptOut b0 (execXtalOk s) := by
  unfold execXtalOk
  simp (maxDischargeDepth := 40) +contextual only [hk, kept_ite, kept_upd, kept_foldl, kept_foldr, implies_true, and_self, keptOut_next, keptOut_ite, keptOut_fault, keptOut_awake, State.put_kept]

theorem execPllLock_kept {b0 : Before} (s : State) (hk : Kept b0 s) : KeptOut b0 (execPllLock s) := by
  unfold execPllLock
  simp (maxDischargeDepth := 40) +contextual only [hk, kept_ite, kept_upd, kept_foldl, kept_foldr, implies_true, and_self, keptOut_next, keptOut_ite, keptOut_fault, keptOut_awake, State.put_kept, State.setStage_kept]

theorem execPllLossReset_kept {b0 : Before} (s : State) (hk : Kept b0 s) : KeptOut b0 (execPllLossReset s) := by
  unfold execPllLossReset
  simp (maxDischargeDepth := 40) +contextual only [hk, kept_ite, kept_upd, kept_foldl, kept_foldr, implies_true, and_self, keptOut_next, keptOut_ite, keptOut_fault, keptOut_awake, State.assertReset_kept]

theorem execDramTrainDone_kept {b0 : Before} (ok : Bool) (s : State) (hk : Kept b0 s) : KeptOut b0 (execDramTrainDone ok s) := by
  unfold execDramTrainDone
  simp (maxDischargeDepth := 40) +contextual only [hk, kept_ite, kept_upd, kept_foldl, kept_foldr, implies_true, and_self, keptOut_next, keptOut_ite, keptOut_fault, keptOut_awake, State.setStage_kept, State.stageFail_kept]

theorem execRingJoinTimeout_kept {b0 : Before} (s : State) (hk : Kept b0 s) : KeptOut b0 (execRingJoinTimeout s) := by
  unfold execRingJoinTimeout
  simp (maxDischargeDepth := 40) +contextual only [hk, kept_ite, kept_upd, kept_foldl, kept_foldr, implies_true, and_self, keptOut_next, keptOut_ite, keptOut_fault, keptOut_awake, State.setErr_kept, State.post_kept]

theorem execSysWdogKickWrite_kept {b0 : Before} (v : Word) (s : State) (hk : Kept b0 s) : KeptOut b0 (execSysWdogKickWrite v s) := by
  unfold execSysWdogKickWrite
  simp (maxDischargeDepth := 40) +contextual only [hk, kept_ite, kept_upd, kept_foldl, kept_foldr, implies_true, and_self, keptOut_next, keptOut_ite, keptOut_fault, keptOut_awake, State.reject_kept]

theorem execSysWdogCtrlWrite_kept {b0 : Before} (v : Word) (s : State) (hk : Kept b0 s) : KeptOut b0 (execSysWdogCtrlWrite v s) := by
  unfold execSysWdogCtrlWrite
  simp (maxDischargeDepth := 40) +contextual only [hk, kept_ite, kept_upd, kept_foldl, kept_foldr, implies_true, and_self, keptOut_next, keptOut_ite, keptOut_fault, keptOut_awake, State.reject_kept, State.put_kept]

theorem execWdogWarn_kept {b0 : Before} (s : State) (hk : Kept b0 s) : KeptOut b0 (execWdogWarn s) := by
  unfold execWdogWarn
  simp (maxDischargeDepth := 40) +contextual only [hk, kept_ite, kept_upd, kept_foldl, kept_foldr, implies_true, and_self, keptOut_next, keptOut_ite, keptOut_fault, keptOut_awake, State.noteResign_kept, State.raise_kept]

theorem execWdogTimeout_kept {b0 : Before} (s : State) (hk : Kept b0 s) : KeptOut b0 (execWdogTimeout s) := by
  unfold execWdogTimeout
  simp (maxDischargeDepth := 40) +contextual only [hk, kept_ite, kept_upd, kept_foldl, kept_foldr, implies_true, and_self, keptOut_next, keptOut_ite, keptOut_fault, keptOut_awake, State.assertReset_kept]

theorem execSysSwrstWrite_kept {b0 : Before} (v : Word) (s : State) (hk : Kept b0 s) : KeptOut b0 (execSysSwrstWrite v s) := by
  unfold execSysSwrstWrite
  simp (maxDischargeDepth := 40) +contextual only [hk, kept_ite, kept_upd, kept_foldl, kept_foldr, implies_true, and_self, keptOut_next, keptOut_ite, keptOut_fault, keptOut_awake, State.assertReset_kept, State.reject_kept]

theorem State.armOutputs_kept {b0 : Before} (s : State) (hk : Kept b0 s) : Kept b0 (State.armOutputs s) := by
  unfold State.armOutputs
  simp (maxDischargeDepth := 40) +contextual only [hk, kept_ite, kept_upd, kept_foldl, kept_foldr, implies_true, and_self, keptOut_next, keptOut_ite, keptOut_fault, keptOut_awake, State.setOutEn_kept, State.raise_kept]

theorem execSysArmWrite_kept {b0 : Before} (v : Word) (s : State) (hk : Kept b0 s) : KeptOut b0 (execSysArmWrite v s) := by
  unfold execSysArmWrite
  simp (maxDischargeDepth := 40) +contextual only [hk, kept_ite, kept_upd, kept_foldl, kept_foldr, implies_true, and_self, keptOut_next, keptOut_ite, keptOut_fault, keptOut_awake, State.armOutputs_kept]

theorem execSysNop_kept {b0 : Before} (p : Pkt) (s : State) (hk : Kept b0 s) : KeptOut b0 (execSysNop p s) := by
  unfold execSysNop
  simp (maxDischargeDepth := 40) +contextual only [hk, kept_ite, kept_upd, kept_foldl, kept_foldr, implies_true, and_self, keptOut_next, keptOut_ite, keptOut_fault, keptOut_awake, State.command_kept, State.done_kept]

theorem execSysInfo_kept {b0 : Before} (p : Pkt) (s : State) (hk : Kept b0 s) : KeptOut b0 (execSysInfo p s) := by
  unfold execSysInfo
  simp (maxDischargeDepth := 40) +contextual only [hk, kept_ite, kept_upd, kept_foldl, kept_foldr, implies_true, and_self, keptOut_next, keptOut_ite, keptOut_fault, keptOut_awake, State.command_kept, State.doneRes_kept]

theorem execSysReset_kept {b0 : Before} (p : Pkt) (s : State) (hk : Kept b0 s) : KeptOut b0 (execSysReset p s) := by
  unfold execSysReset
  simp (maxDischargeDepth := 40) +contextual only [hk, kept_ite, kept_upd, kept_foldl, kept_foldr, implies_true, and_self, keptOut_next, keptOut_ite, keptOut_fault, keptOut_awake, State.command_kept, State.done_kept]

theorem execSysResetTakesEffect_kept {b0 : Before} (s : State) (hk : Kept b0 s) : KeptOut b0 (execSysResetTakesEffect s) := by
  unfold execSysResetTakesEffect
  simp (maxDischargeDepth := 40) +contextual only [hk, kept_ite, kept_upd, kept_foldl, kept_foldr, implies_true, and_self, keptOut_next, keptOut_ite, keptOut_fault, keptOut_awake, State.assertReset_kept]

theorem execSysArm_kept {b0 : Before} (p : Pkt) (s : State) (hk : Kept b0 s) : KeptOut b0 (execSysArm p s) := by
  unfold execSysArm
  simp (maxDischargeDepth := 40) +contextual only [hk, kept_ite, kept_upd, kept_foldl, kept_foldr, implies_true, and_self, keptOut_next, keptOut_ite, keptOut_fault, keptOut_awake, State.command_kept, State.armOutputs_kept, State.done_kept]

theorem execSysBootStatus_kept {b0 : Before} (p : Pkt) (s : State) (hk : Kept b0 s) : KeptOut b0 (execSysBootStatus p s) := by
  unfold execSysBootStatus
  simp (maxDischargeDepth := 40) +contextual only [hk, kept_ite, kept_upd, kept_foldl, kept_foldr, implies_true, and_self, keptOut_next, keptOut_ite, keptOut_fault, keptOut_awake, State.command_kept, State.doneRes_kept]

theorem execSysRemotePermit_kept {b0 : Before} (p : Pkt) (s : State) (hk : Kept b0 s) : KeptOut b0 (execSysRemotePermit p s) := by
  unfold execSysRemotePermit
  simp (maxDischargeDepth := 40) +contextual only [hk, kept_ite, kept_upd, kept_foldl, kept_foldr, implies_true, and_self, keptOut_next, keptOut_ite, keptOut_fault, keptOut_awake, State.command_kept, State.done_kept]

theorem State.noteHealth_kept {b0 : Before} (s : State) (h : Health) (hk : Kept b0 s) : Kept b0 (State.noteHealth s h) := by
  unfold State.noteHealth
  simp (maxDischargeDepth := 40) +contextual only [hk, kept_ite, kept_upd, kept_foldl, kept_foldr, implies_true, and_self, keptOut_next, keptOut_ite, keptOut_fault, keptOut_awake]

theorem execSysHealth_kept {b0 : Before} (p : Pkt) (h : Health) (s : State) (hk : Kept b0 s) : KeptOut b0 (execSysHealth p h s) := by
  unfold execSysHealth
  simp (maxDischargeDepth := 40) +contextual only [hk, kept_ite, kept_upd, kept_foldl, kept_foldr, implies_true, and_self, keptOut_next, keptOut_ite, keptOut_fault, keptOut_awake, State.command_kept, State.noteHealth_kept, State.doneRes_kept]

theorem State.stopQueue_kept {b0 : Before} (s : State) (n err : Nat) (hk : Kept b0 s) : Kept b0 (State.stopQueue s n err) := by
  unfold State.stopQueue
  simp (maxDischargeDepth := 40) +contextual only [hk, kept_ite, kept_upd, kept_foldl, kept_foldr, implies_true, and_self, keptOut_next, keptOut_ite, keptOut_fault, keptOut_awake, State.put_kept, State.post_kept]

theorem State.sqDoorbell_kept {b0 : Before} (s : State) (n tail : Nat) (hk : Kept b0 s) : Kept b0 (State.sqDoorbell s n tail) := by
  unfold State.sqDoorbell
  simp (maxDischargeDepth := 40) +contextual only [hk, kept_ite, kept_upd, kept_foldl, kept_foldr, implies_true, and_self, keptOut_next, keptOut_ite, keptOut_fault, keptOut_awake, State.stopQueue_kept, State.put_kept]

theorem State.answerPower_kept {b0 : Before} (s : State) (status : Nat) (hk : Kept b0 s) : Kept b0 (State.answerPower s status) := by
  unfold State.answerPower
  simp (maxDischargeDepth := 40) +contextual only [hk, kept_ite, kept_upd, kept_foldl, kept_foldr, implies_true, and_self, keptOut_next, keptOut_ite, keptOut_fault, keptOut_awake, State.done_kept]

theorem State.wakeSources_kept {b0 : Before} (s : State) (hk : Kept b0 s) : Kept b0 (State.wakeSources s) := by
  unfold State.wakeSources
  simp (maxDischargeDepth := 40) +contextual only [hk, kept_ite, kept_upd, kept_foldl, kept_foldr, implies_true, and_self, keptOut_next, keptOut_ite, keptOut_fault, keptOut_awake, State.put_kept, State.put64_kept, State.raise_kept, State.edgeCore_kept, State.hostSweep_kept]

theorem State.answerWoken_kept {b0 : Before} (s : State) (p : Pkt) (hk : Kept b0 s) : Kept b0 (State.answerWoken s p) := by
  unfold State.answerWoken
  simp (maxDischargeDepth := 40) +contextual only [hk, kept_ite, kept_upd, kept_foldl, kept_foldr, implies_true, and_self, keptOut_next, keptOut_ite, keptOut_fault, keptOut_awake, State.reply_kept]

theorem State.wakeUp_kept {b0 : Before} (s : State) (hk : Kept b0 s) : Kept b0 (State.wakeUp s) := by
  unfold State.wakeUp
  simp (maxDischargeDepth := 40) +contextual only [hk, kept_ite, kept_upd, kept_foldl, kept_foldr, implies_true, and_self, keptOut_next, keptOut_ite, keptOut_fault, keptOut_awake, State.wakeSources_kept, State.answerWoken_kept]

theorem State.wakeCheck_kept {b0 : Before} (s : State) (hk : Kept b0 s) : Kept b0 (State.wakeCheck s) := by
  unfold State.wakeCheck
  simp (maxDischargeDepth := 40) +contextual only [hk, kept_ite, kept_upd, kept_foldl, kept_foldr, implies_true, and_self, keptOut_next, keptOut_ite, keptOut_fault, keptOut_awake, State.put_kept, State.raise_kept, State.answerPower_kept, State.wakeUp_kept]

theorem State.line_kept {b0 : Before} (s : State) (n : Nat) (l : Bool) (hk : Kept b0 s) : Kept b0 (State.line s n l) := by
  unfold State.line
  simp (maxDischargeDepth := 40) +contextual only [hk, kept_ite, kept_upd, kept_foldl, kept_foldr, implies_true, and_self, keptOut_next, keptOut_ite, keptOut_fault, keptOut_awake, State.lineCore_kept, State.wakeCheck_kept]

theorem State.pulse_kept {b0 : Before} (s : State) (n : Nat) (hk : Kept b0 s) : Kept b0 (State.pulse s n) := by
  unfold State.pulse
  simp (maxDischargeDepth := 40) +contextual only [hk, kept_ite, kept_upd, kept_foldl, kept_foldr, implies_true, and_self, keptOut_next, keptOut_ite, keptOut_fault, keptOut_awake, State.pulseCore_kept, State.wakeCheck_kept]

theorem execQnsqTailWrite_kept {b0 : Before} (n : Nat) (v : Word) (s : State) (hk : Kept b0 s) : KeptOut b0 (execQnsqTailWrite n v s) := by
  unfold execQnsqTailWrite
  simp (maxDischargeDepth := 40) +contextual only [hk, kept_ite, kept_upd, kept_foldl, kept_foldr, implies_true, and_self, keptOut_next, keptOut_ite, keptOut_fault, keptOut_awake, State.sqDoorbell_kept, State.put_kept, State.pulse_kept]

theorem execQncqHeadWrite_kept {b0 : Before} (n : Nat) (v : Word) (s : State) (hk : Kept b0 s) : KeptOut b0 (execQncqHeadWrite n v s) := by
  unfold execQncqHeadWrite
  simp (maxDischargeDepth := 40) +contextual only [hk, kept_ite, kept_upd, kept_foldl, kept_foldr, implies_true, and_self, keptOut_next, keptOut_ite, keptOut_fault, keptOut_awake, State.setQ_kept, State.put_kept]

theorem State.drainCheck_kept {b0 : Before} (s : State) (n : Nat) (hk : Kept b0 s) : Kept b0 (State.drainCheck s n) := by
  unfold State.drainCheck
  simp (maxDischargeDepth := 40) +contextual only [hk, kept_ite, kept_upd, kept_foldl, kept_foldr, implies_true, and_self, keptOut_next, keptOut_ite, keptOut_fault, keptOut_awake, State.put_kept]

theorem State.enableQueue_kept {b0 : Before} (s : State) (n : Nat) (hk : Kept b0 s) : Kept b0 (State.enableQueue s n) := by
  unfold State.enableQueue
  simp (maxDischargeDepth := 40) +contextual only [hk, kept_ite, kept_upd, kept_foldl, kept_foldr, implies_true, and_self, keptOut_next, keptOut_ite, keptOut_fault, keptOut_awake, State.put_kept, State.setQ_kept]

theorem execQnctlWrite_kept {b0 : Before} (n : Nat) (v : Word) (s : State) (hk : Kept b0 s) : KeptOut b0 (execQnctlWrite n v s) := by
  unfold execQnctlWrite
  simp (maxDischargeDepth := 40) +contextual only [hk, kept_ite, kept_upd, kept_foldl, kept_foldr, implies_true, and_self, keptOut_next, keptOut_ite, keptOut_fault, keptOut_awake, State.enableQueue_kept, State.put_kept, State.drainCheck_kept]

theorem State.takeTag_kept {b0 : Before} (s : State) (p : Pkt) (maxTag maxLen : Nat) (hk : Kept b0 s) : Kept b0 (State.takeTag s p maxTag maxLen) := by
  unfold State.takeTag
  simp (maxDischargeDepth := 40) +contextual only [hk, kept_ite, kept_upd, kept_foldl, kept_foldr, implies_true, and_self, keptOut_next, keptOut_ite, keptOut_fault, keptOut_awake, State.reply_kept, State.setFlight_kept, State.done_kept, State.secBusy_kept]

theorem State.fetchHost_kept {b0 : Before} (s : State) (p : Pkt) (hk : Kept b0 s) : Kept b0 (State.fetchHost s p) := by
  unfold State.fetchHost
  simp (maxDischargeDepth := 40) +contextual only [hk, kept_ite, kept_upd, kept_foldl, kept_foldr, implies_true, and_self, keptOut_next, keptOut_ite, keptOut_fault, keptOut_awake, State.reply_kept, State.stopQueue_kept, State.put_kept, State.setQ_kept, State.takeTag_kept]

theorem State.fetchRemote_kept {b0 : Before} (s : State) (hk : Kept b0 s) : Kept b0 (State.fetchRemote s) := by
  unfold State.fetchRemote
  split <;> simp (maxDischargeDepth := 40) +contextual only [hk, kept_ite, kept_upd, kept_foldl, kept_foldr, implies_true, and_self, keptOut_next, keptOut_ite, keptOut_fault, keptOut_awake, State.takeTag_kept]

theorem execPacketFetch_kept {b0 : Before} (n : Nat) (mem : List (Nat × List Word)) (dmaError : Bool) (s : State) (hk : Kept b0 s) : KeptOut b0 (execPacketFetch n mem dmaError s) := by
  unfold execPacketFetch
  simp (maxDischargeDepth := 40) +contextual only [hk, kept_ite, kept_upd, kept_foldl, kept_foldr, implies_true, and_self, keptOut_next, keptOut_ite, keptOut_fault, keptOut_awake, State.stopQueue_kept, State.fetchRemote_kept, State.fetchHost_kept]

theorem State.remoteArrive_kept {b0 : Before} (s : State) (p : Pkt) (hk : Kept b0 s) : Kept b0 (State.remoteArrive s p) := by
  unfold State.remoteArrive
  simp (maxDischargeDepth := 40) +contextual only [hk, kept_ite, kept_upd, kept_foldl, kept_foldr, implies_true, and_self, keptOut_next, keptOut_ite, keptOut_fault, keptOut_awake, State.reply_kept]

theorem State.coalesce_kept {b0 : Before} (s : State) (n : Nat) (hk : Kept b0 s) : Kept b0 (State.coalesce s n) := by
  unfold State.coalesce
  simp (maxDischargeDepth := 40) +contextual only [hk, kept_ite, kept_upd, kept_foldl, kept_foldr, implies_true, and_self, keptOut_next, keptOut_ite, keptOut_fault, keptOut_awake, State.setQ_kept, State.msix_kept]

theorem State.freeTag_kept {b0 : Before} (s : State) (r : Reply) (hk : Kept b0 s) : Kept b0 (State.freeTag s r) := by
  unfold State.freeTag
  simp (maxDischargeDepth := 40) +contextual only [hk, kept_ite, kept_upd, kept_foldl, kept_foldr, implies_true, and_self, keptOut_next, keptOut_ite, keptOut_fault, keptOut_awake, State.setFlight_kept]

theorem State.postHost_kept {b0 : Before} (s : State) (n : Nat) (hk : Kept b0 s) : Kept b0 (State.postHost s n) := by
  unfold State.postHost
  split <;> simp (maxDischargeDepth := 40) +contextual only [hk, kept_ite, kept_upd, kept_foldl, kept_foldr, implies_true, and_self, keptOut_next, keptOut_ite, keptOut_fault, keptOut_awake, State.drainCheck_kept, State.setQ_kept, State.freeTag_kept, State.coalesce_kept]

theorem State.splReply_kept {b0 : Before} (s : State) (r : Reply) (hk : Kept b0 s) : Kept b0 (State.splReply s r) := by
  unfold State.splReply
  split <;> simp (maxDischargeDepth := 40) +contextual only [hk, kept_ite, kept_upd, kept_foldl, kept_foldr, implies_true, and_self, keptOut_next, keptOut_ite, keptOut_fault, keptOut_awake, State.splSend_kept]

theorem State.takeReply_kept {b0 : Before} (s : State) (r : Reply) (hk : Kept b0 s) : Kept b0 (State.takeReply s r) := by
  unfold State.takeReply
  simp (maxDischargeDepth := 40) +contextual only [hk, kept_ite, kept_upd, kept_foldl, kept_foldr, implies_true, and_self, keptOut_next, keptOut_ite, keptOut_fault, keptOut_awake, State.setQ_kept, State.freeTag_kept]

theorem State.postRemote_kept {b0 : Before} (s : State) (hk : Kept b0 s) : Kept b0 (State.postRemote s) := by
  unfold State.postRemote
  split <;> simp (maxDischargeDepth := 40) +contextual only [hk, kept_ite, kept_upd, kept_foldl, kept_foldr, implies_true, and_self, keptOut_next, keptOut_ite, keptOut_fault, keptOut_awake, State.splReply_kept, State.takeReply_kept]

theorem execReplyPost_kept {b0 : Before} (n : Nat) (dmaError : Bool) (s : State) (hk : Kept b0 s) : KeptOut b0 (execReplyPost n dmaError s) := by
  unfold execReplyPost
  simp (maxDischargeDepth := 40) +contextual only [hk, kept_ite, kept_upd, kept_foldl, kept_foldr, implies_true, and_self, keptOut_next, keptOut_ite, keptOut_fault, keptOut_awake, State.postRemote_kept, State.stopQueue_kept, State.postHost_kept]

theorem execQueueCoalTimeout_kept {b0 : Before} (n : Nat) (s : State) (hk : Kept b0 s) : KeptOut b0 (execQueueCoalTimeout n s) := by
  unfold execQueueCoalTimeout
  simp (maxDischargeDepth := 40) +contextual only [hk, kept_ite, kept_upd, kept_foldl, kept_foldr, implies_true, and_self, keptOut_next, keptOut_ite, keptOut_fault, keptOut_awake, State.setQ_kept, State.msix_kept]

theorem State.killQueue_kept {b0 : Before} (s : State) (n : Nat) (hk : Kept b0 s) : Kept b0 (State.killQueue s n) := by
  unfold State.killQueue
  simp (maxDischargeDepth := 40) +contextual only [hk, kept_ite, kept_upd, kept_foldl, kept_foldr, implies_true, and_self, keptOut_next, keptOut_ite, keptOut_fault, keptOut_awake, State.setQ_kept, State.put_kept]

theorem State.killQueues_kept {b0 : Before} (s : State) (hk : Kept b0 s) : Kept b0 (State.killQueues s) := by
  unfold State.killQueues
  simp (maxDischargeDepth := 40) +contextual only [hk, kept_ite, kept_upd, kept_foldl, kept_foldr, implies_true, and_self, keptOut_next, keptOut_ite, keptOut_fault, keptOut_awake, State.killQueue_kept]

theorem State.trainLink_kept {b0 : Before} (s : State) (hk : Kept b0 s) : Kept b0 (State.trainLink s) := by
  unfold State.trainLink
  simp (maxDischargeDepth := 40) +contextual only [hk, kept_ite, kept_upd, kept_foldl, kept_foldr, implies_true, and_self, keptOut_next, keptOut_ite, keptOut_fault, keptOut_awake, State.fresh_kept]

theorem execPcieLinkUp_kept {b0 : Before} (s : State) (hk : Kept b0 s) : KeptOut b0 (execPcieLinkUp s) := by
  unfold execPcieLinkUp
  simp (maxDischargeDepth := 40) +contextual only [hk, kept_ite, kept_upd, kept_foldl, kept_foldr, implies_true, and_self, keptOut_next, keptOut_ite, keptOut_fault, keptOut_awake, State.trainLink_kept]

theorem execStatHeartbeat_kept {b0 : Before} (s : State) (hk : Kept b0 s) : KeptOut b0 (execStatHeartbeat s) := by
  unfold execStatHeartbeat
  simp (maxDischargeDepth := 40) +contextual only [hk, kept_ite, kept_upd, kept_foldl, kept_foldr, implies_true, and_self, keptOut_next, keptOut_ite, keptOut_fault, keptOut_awake, State.incWrap_kept]

theorem State.msixMaskWrite_kept {b0 : Before} (s : State) (v : Nat) (b : Bool) (hk : Kept b0 s) : Kept b0 (State.msixMaskWrite s v b) := by
  unfold State.msixMaskWrite
  simp (maxDischargeDepth := 40) +contextual only [hk, kept_ite, kept_upd, kept_foldl, kept_foldr, implies_true, and_self, keptOut_next, keptOut_ite, keptOut_fault, keptOut_awake, State.msix_kept]

theorem execMsixUnmask_kept {b0 : Before} (v : Nat) (s : State) (hk : Kept b0 s) : KeptOut b0 (execMsixUnmask v s) := by
  unfold execMsixUnmask
  simp (maxDischargeDepth := 40) +contextual only [hk, kept_ite, kept_upd, kept_foldl, kept_foldr, implies_true, and_self, keptOut_next, keptOut_ite, keptOut_fault, keptOut_awake, State.msixMaskWrite_kept]

theorem State.msixWrite_kept {b0 : Before} (s : State) (i v : Nat) (hk : Kept b0 s) : Kept b0 (State.msixWrite s i v) := by
  unfold State.msixWrite
  simp (maxDischargeDepth := 40) +contextual only [hk, kept_ite, kept_upd, kept_foldl, kept_foldr, implies_true, and_self, keptOut_next, keptOut_ite, keptOut_fault, keptOut_awake, State.msixMaskWrite_kept]

theorem State.sendPending_kept {b0 : Before} (s : State) (hk : Kept b0 s) : Kept b0 (State.sendPending s) := by
  unfold State.sendPending
  simp (maxDischargeDepth := 40) +contextual only [hk, kept_ite, kept_upd, kept_foldl, kept_foldr, implies_true, and_self, keptOut_next, keptOut_ite, keptOut_fault, keptOut_awake, State.msix_kept]

theorem State.pciSet_kept {b0 : Before} (s : State) (o v : Nat) (hk : Kept b0 s) : Kept b0 (State.pciSet s o v) := by
  unfold State.pciSet
  simp (maxDischargeDepth := 40) +contextual only [hk, kept_ite, kept_upd, kept_foldl, kept_foldr, implies_true, and_self, keptOut_next, keptOut_ite, keptOut_fault, keptOut_awake, State.sendPending_kept]

theorem State.pciReset_kept {b0 : Before} (s : State) (level : Bool) (hk : Kept b0 s) : Kept b0 (State.pciReset s level) := by
  unfold State.pciReset
  simp (maxDischargeDepth := 40) +contextual only [hk, kept_ite, kept_upd, kept_foldl, kept_foldr, implies_true, and_self, keptOut_next, keptOut_ite, keptOut_fault, keptOut_awake]

theorem execIrqEdge_kept {b0 : Before} (n : Nat) (level : Option Bool) (s : State) (hk : Kept b0 s) : KeptOut b0 (execIrqEdge n level s) := by
  unfold execIrqEdge
  simp (maxDischargeDepth := 40) +contextual only [hk, kept_ite, kept_upd, kept_foldl, kept_foldr, implies_true, and_self, keptOut_next, keptOut_ite, keptOut_fault, keptOut_awake, State.pulse_kept, State.line_kept]
  split <;> simp (maxDischargeDepth := 40) +contextual only [hk, kept_ite, kept_upd, kept_foldl, kept_foldr, implies_true, and_self, keptOut_next, keptOut_ite, keptOut_fault, keptOut_awake, State.pulse_kept, State.line_kept]

theorem State.claim_kept {b0 : Before} (s : State) (t : Nat) (hk : Kept b0 s) : Kept b0 (State.claim s t) := by
  unfold State.claim
  split <;> simp (maxDischargeDepth := 40) +contextual only [hk, kept_ite, kept_upd, kept_foldl, kept_foldr, implies_true, and_self, keptOut_next, keptOut_ite, keptOut_fault, keptOut_awake, State.put_kept, State.incSat_kept, State.setPend_kept, State.setReleased_kept, State.setInService_kept]

theorem execIrqClaim_kept {b0 : Before} (t : Nat) (s : State) (hk : Kept b0 s) : KeptOut b0 (execIrqClaim t s) := by
  unfold execIrqClaim
  simp (maxDischargeDepth := 40) +contextual only [hk, kept_ite, kept_upd, kept_foldl, kept_foldr, implies_true, and_self, keptOut_next, keptOut_ite, keptOut_fault, keptOut_awake, State.claim_kept]

theorem execIrqComplete_kept {b0 : Before} (t : Nat) (v : Word) (s : State) (hk : Kept b0 s) : KeptOut b0 (execIrqComplete t v s) := by
  unfold execIrqComplete
  simp (maxDischargeDepth := 40) +contextual only [hk, kept_ite, kept_upd, kept_foldl, kept_foldr, implies_true, and_self, keptOut_next, keptOut_ite, keptOut_fault, keptOut_awake, State.setInService_kept, State.setPend_kept, State.setReleased_kept, State.wakeCheck_kept, State.reject_kept]

theorem execIrqPendWrite_kept {b0 : Before} (k : Nat) (v : Word) (s : State) (hk : Kept b0 s) : KeptOut b0 (execIrqPendWrite k v s) := by
  unfold execIrqPendWrite
  simp (maxDischargeDepth := 40) +contextual only [hk, kept_ite, kept_upd, kept_foldl, kept_foldr, implies_true, and_self, keptOut_next, keptOut_ite, keptOut_fault, keptOut_awake, State.edgeCore_kept, State.wakeCheck_kept]

theorem execIrqGroupTimeout_kept {b0 : Before} (g : Nat) (s : State) (hk : Kept b0 s) : KeptOut b0 (execIrqGroupTimeout g s) := by
  unfold execIrqGroupTimeout
  simp (maxDischargeDepth := 40) +contextual only [hk, kept_ite, kept_upd, kept_foldl, kept_foldr, implies_true, and_self, keptOut_next, keptOut_ite, keptOut_fault, keptOut_awake, State.advanceTo_kept, State.groupFire_kept]

theorem execPwrReqRun_kept {b0 : Before} (s : State) (hk : Kept b0 s) : KeptOut b0 (execPwrReqRun s) := by
  unfold execPwrReqRun
  simp (maxDischargeDepth := 40) +contextual only [hk, kept_ite, kept_upd, kept_foldl, kept_foldr, implies_true, and_self, keptOut_next, keptOut_ite, keptOut_fault, keptOut_awake, State.put_kept]

theorem execPwrReqIdle_kept {b0 : Before} (s : State) (hk : Kept b0 s) : KeptOut b0 (execPwrReqIdle s) := by
  unfold execPwrReqIdle
  simp (maxDischargeDepth := 40) +contextual only [hk, kept_ite, kept_upd, kept_foldl, kept_foldr, implies_true, and_self, keptOut_next, keptOut_ite, keptOut_fault, keptOut_awake, State.put_kept]

theorem State.answerDenied_kept {b0 : Before} (s : State) (hk : Kept b0 s) : Kept b0 (State.answerDenied s) := by
  unfold State.answerDenied
  simp (maxDischargeDepth := 40) +contextual only [hk, kept_ite, kept_upd, kept_foldl, kept_foldr, implies_true, and_self, keptOut_next, keptOut_ite, keptOut_fault, keptOut_awake, State.reply_kept]

theorem execStandbyEntryTimeout_kept {b0 : Before} (s : State) (hk : Kept b0 s) : KeptOut b0 (execStandbyEntryTimeout s) := by
  unfold execStandbyEntryTimeout
  simp (maxDischargeDepth := 40) +contextual only [hk, kept_ite, kept_upd, kept_foldl, kept_foldr, implies_true, and_self, keptOut_next, keptOut_ite, keptOut_fault, keptOut_awake, State.put_kept, State.raise_kept, State.answerDenied_kept]

theorem execWakeLatch_kept {b0 : Before} (w : Nat) (s : State) (hk : Kept b0 s) : KeptOut b0 (execWakeLatch w s) := by
  unfold execWakeLatch
  simp (maxDischargeDepth := 40) +contextual only [hk, kept_ite, kept_upd, kept_foldl, kept_foldr, implies_true, and_self, keptOut_next, keptOut_ite, keptOut_fault, keptOut_awake, State.put_kept, State.wakeCheck_kept]

theorem execSysWakeConfig_kept {b0 : Before} (p : Pkt) (s : State) (hk : Kept b0 s) : KeptOut b0 (execSysWakeConfig p s) := by
  unfold execSysWakeConfig
  simp (maxDischargeDepth := 40) +contextual only [hk, kept_ite, kept_upd, kept_foldl, kept_foldr, implies_true, and_self, keptOut_next, keptOut_ite, keptOut_fault, keptOut_awake, State.command_kept, State.put_kept, State.done_kept]

theorem State.setWords_kept {b0 : Before} (s : State) (a : Nat) (l : List Nat) (h : Kept b0 s) : Kept b0 (s.setWords a l) := by
  induction l generalizing s a with
  | nil => exact h
  | cons w r ih => exact ih _ _ (State.setWord_kept s a _ h)

theorem State.writeRec_kept {b0 : Before} (s : State) (r : Rec) (hk : Kept b0 s) : Kept b0 (State.writeRec s r) := by
  unfold State.writeRec
  simp (maxDischargeDepth := 40) +contextual only [hk, kept_ite, kept_upd, kept_foldl, kept_foldr, implies_true, and_self, keptOut_next, keptOut_ite, keptOut_fault, keptOut_awake, State.put_kept, State.setWords_kept, State.raise_kept, State.msix_kept]

theorem State.writeClear_kept {b0 : Before} (s : State) (r : Rec) (p : Pkt) (upto key : Nat) (hk : Kept b0 s) : Kept b0 (State.writeClear s r p upto key) := by
  unfold State.writeClear
  simp (maxDischargeDepth := 40) +contextual only [hk, kept_ite, kept_upd, kept_foldl, kept_foldr, implies_true, and_self, keptOut_next, keptOut_ite, keptOut_fault, keptOut_awake, State.done_kept, State.writeRec_kept, State.put_kept, State.setWords_kept]

theorem execRecordWrite_kept {b0 : Before} (s : State) (hk : Kept b0 s) : KeptOut b0 (execRecordWrite s) := by
  unfold execRecordWrite
  dsimp only
  repeat' split
  all_goals simp (maxDischargeDepth := 40) +contextual only [hk, kept_ite, kept_upd, kept_foldl, kept_foldr, implies_true, and_self, keptOut_next, keptOut_ite, keptOut_fault, keptOut_awake, State.writeClear_kept, State.writeRec_kept, State.doneRes_kept]

theorem execEvrecWrGo_kept {b0 : Before} (r : Requester) (v : Word) (s : State) (hk : Kept b0 s) : KeptOut b0 (execEvrecWrGo r v s) := by
  unfold execEvrecWrGo
  simp (maxDischargeDepth := 40) +contextual only [hk, kept_ite, kept_upd, kept_foldl, kept_foldr, implies_true, and_self, keptOut_next, keptOut_ite, keptOut_fault, keptOut_awake, State.postRec_kept, State.reject_kept]

theorem State.lifeInc_kept {b0 : Before} (s : State) (off : Nat) (hk : Kept b0 s) : Kept b0 (State.lifeInc s off) := by
  unfold State.lifeInc
  simp (maxDischargeDepth := 40) +contextual only [hk, kept_ite, kept_upd, kept_foldl, kept_foldr, implies_true, and_self, keptOut_next, keptOut_ite, keptOut_fault, keptOut_awake, State.setWord_kept]

theorem State.lifeAdd64_kept {b0 : Before} (s : State) (off n : Nat) (hk : Kept b0 s) : Kept b0 (State.lifeAdd64 s off n) := by
  unfold State.lifeAdd64
  simp (maxDischargeDepth := 40) +contextual only [hk, kept_ite, kept_upd, kept_foldl, kept_foldr, implies_true, and_self, keptOut_next, keptOut_ite, keptOut_fault, keptOut_awake, State.setWord_kept]

theorem State.noteTj_kept {b0 : Before} (s : State) (t : Int) (hk : Kept b0 s) : Kept b0 (State.noteTj s t) := by
  unfold State.noteTj
  simp (maxDischargeDepth := 40) +contextual only [hk, kept_ite, kept_upd, kept_foldl, kept_foldr, implies_true, and_self, keptOut_next, keptOut_ite, keptOut_fault, keptOut_awake, State.setWord_kept]

theorem State.opSecond_kept {b0 : Before} (s : State) (hk : Kept b0 s) : Kept b0 (State.opSecond s) := by
  unfold State.opSecond
  simp (maxDischargeDepth := 40) +contextual only [hk, kept_ite, kept_upd, kept_foldl, kept_foldr, implies_true, and_self, keptOut_next, keptOut_ite, keptOut_fault, keptOut_awake, State.advanceTick_kept]

theorem State.passAge_kept {b0 : Before} (s : State) (op : Nat) (hk : Kept b0 s) : Kept b0 (State.passAge s op) := by
  unfold State.passAge
  simp (maxDischargeDepth := 40) +contextual only [hk, kept_ite, kept_upd, kept_foldl, kept_foldr, implies_true, and_self, keptOut_next, keptOut_ite, keptOut_fault, keptOut_awake, State.put_kept]

theorem execLifetimeSample_kept {b0 : Before} (h : Health) (s : State) (hk : Kept b0 s) : KeptOut b0 (execLifetimeSample h s) := by
  unfold execLifetimeSample
  simp (maxDischargeDepth := 40) +contextual only [hk, kept_ite, kept_upd, kept_foldl, kept_foldr, implies_true, and_self, keptOut_next, keptOut_ite, keptOut_fault, keptOut_awake, State.opSecond_kept, State.noteHealth_kept, State.noteTj_kept, State.lifeInc_kept, State.lifeAdd64_kept, State.put_kept, State.passAge_kept]

theorem execLifetimeFlush_kept {b0 : Before} (s : State) (hk : Kept b0 s) : KeptOut b0 (execLifetimeFlush s) := by
  unfold execLifetimeFlush
  simp (maxDischargeDepth := 40) +contextual only [hk, kept_ite, kept_upd, kept_foldl, kept_foldr, implies_true, and_self, keptOut_next, keptOut_ite, keptOut_fault, keptOut_awake, State.lifetimeFlush_kept]

theorem State.timeSync_kept {b0 : Before} (s : State) (hk : Kept b0 s) : Kept b0 (State.timeSync s) := by
  unfold State.timeSync
  simp (maxDischargeDepth := 40) +contextual only [hk, kept_ite, kept_upd, kept_foldl, kept_foldr, implies_true, and_self, keptOut_next, keptOut_ite, keptOut_fault, keptOut_awake, State.post_kept]

theorem execTimeSync_kept {b0 : Before} (s : State) (hk : Kept b0 s) : KeptOut b0 (execTimeSync s) := by
  unfold execTimeSync
  simp (maxDischargeDepth := 40) +contextual only [hk, kept_ite, kept_upd, kept_foldl, kept_foldr, implies_true, and_self, keptOut_next, keptOut_ite, keptOut_fault, keptOut_awake, State.timeSync_kept]

theorem execMramRefreshSlice_kept {b0 : Before} (percent : Nat) (ended : Bool) (ecc : Option (Nat × Bool)) (s : State) (hk : Kept b0 s) : KeptOut b0 (execMramRefreshSlice percent ended ecc s) := by
  unfold execMramRefreshSlice
  split <;> simp (maxDischargeDepth := 40) +contextual only [hk, kept_ite, kept_upd, kept_foldl, kept_foldr, implies_true, and_self, keptOut_next, keptOut_ite, keptOut_fault, keptOut_awake, State.raise_kept, State.post_kept, State.lifeInc_kept, State.put_kept]

theorem execRecRead_kept {b0 : Before} (p : Pkt) (s : State) (hk : Kept b0 s) : KeptOut b0 (execRecRead p s) := by
  unfold execRecRead
  simp (maxDischargeDepth := 40) +contextual only [hk, kept_ite, kept_upd, kept_foldl, kept_foldr, implies_true, and_self, keptOut_next, keptOut_ite, keptOut_fault, keptOut_awake, State.command_kept, State.doneRes_kept]

theorem State.postFor_kept {b0 : Before} (s : State) (p : Pkt) (r : Rec) (hk : Kept b0 s) : Kept b0 (State.postFor s p r) := by
  unfold State.postFor
  simp (maxDischargeDepth := 40) +contextual only [hk, kept_ite, kept_upd, kept_foldl, kept_foldr, implies_true, and_self, keptOut_next, keptOut_ite, keptOut_fault, keptOut_awake, State.postRec_kept, State.done_kept]

theorem execRecClear_kept {b0 : Before} (p : Pkt) (s : State) (hk : Kept b0 s) : KeptOut b0 (execRecClear p s) := by
  unfold execRecClear
  simp (maxDischargeDepth := 40) +contextual only [hk, kept_ite, kept_upd, kept_foldl, kept_foldr, implies_true, and_self, keptOut_next, keptOut_ite, keptOut_fault, keptOut_awake, State.command_kept, State.postFor_kept]

theorem execRecHead_kept {b0 : Before} (p : Pkt) (s : State) (hk : Kept b0 s) : KeptOut b0 (execRecHead p s) := by
  unfold execRecHead
  simp (maxDischargeDepth := 40) +contextual only [hk, kept_ite, kept_upd, kept_foldl, kept_foldr, implies_true, and_self, keptOut_next, keptOut_ite, keptOut_fault, keptOut_awake, State.command_kept, State.doneRes_kept]

theorem execLifeRead_kept {b0 : Before} (p : Pkt) (s : State) (hk : Kept b0 s) : KeptOut b0 (execLifeRead p s) := by
  unfold execLifeRead
  simp (maxDischargeDepth := 40) +contextual only [hk, kept_ite, kept_upd, kept_foldl, kept_foldr, implies_true, and_self, keptOut_next, keptOut_ite, keptOut_fault, keptOut_awake, State.command_kept, State.doneRes_kept]

theorem execRecWrite_kept {b0 : Before} (p : Pkt) (s : State) (hk : Kept b0 s) : KeptOut b0 (execRecWrite p s) := by
  unfold execRecWrite
  simp (maxDischargeDepth := 40) +contextual only [hk, kept_ite, kept_upd, kept_foldl, kept_foldr, implies_true, and_self, keptOut_next, keptOut_ite, keptOut_fault, keptOut_awake, State.command_kept, State.postFor_kept]

theorem State.setTask_kept {b0 : Before} (s : State) (t : Nat) (v : Task) (hk : Kept b0 s) : Kept b0 (State.setTask s t v) := by
  unfold State.setTask
  simp (maxDischargeDepth := 40) +contextual only [hk, kept_ite, kept_upd, kept_foldl, kept_foldr, implies_true, and_self, keptOut_next, keptOut_ite, keptOut_fault, keptOut_awake]

theorem State.enqueue_kept {b0 : Before} (s : State) (t : Nat) (head : Bool) (hk : Kept b0 s) : Kept b0 (State.enqueue s t head) := by
  unfold State.enqueue
  simp (maxDischargeDepth := 40) +contextual only [hk, kept_ite, kept_upd, kept_foldl, kept_foldr, implies_true, and_self, keptOut_next, keptOut_ite, keptOut_fault, keptOut_awake, State.setTask_kept]

theorem State.dequeue_kept {b0 : Before} (s : State) (t : Nat) (hk : Kept b0 s) : Kept b0 (State.dequeue s t) := by
  unfold State.dequeue
  simp (maxDischargeDepth := 40) +contextual only [hk, kept_ite, kept_upd, kept_foldl, kept_foldr, implies_true, and_self, keptOut_next, keptOut_ite, keptOut_fault, keptOut_awake]

theorem State.offer_kept {b0 : Before} (s : State) (c t : Nat) (hk : Kept b0 s) : Kept b0 (State.offer s c t) := by
  unfold State.offer
  simp (maxDischargeDepth := 40) +contextual only [hk, kept_ite, kept_upd, kept_foldl, kept_foldr, implies_true, and_self, keptOut_next, keptOut_ite, keptOut_fault, keptOut_awake, State.setTask_kept, State.put_kept]

theorem State.makeReady_kept {b0 : Before} (n : Nat) (s : State) (t : Nat) (b : Bool) (h : Kept b0 s) :
    Kept b0 (State.makeReady n s t b) := by
  induction n generalizing s t b with
  | zero => exact State.enqueue_kept s t b h
  | succ n ih =>
    unfold State.makeReady
    split
    · exact State.enqueue_kept s t b h
    · split
      · exact State.enqueue_kept s t b h
      · split
        · exact State.offer_kept s _ _ h
        · exact ih _ _ _ (State.offer_kept s _ _ h)

theorem State.refreshPf_kept {b0 : Before} (s : State) (hk : Kept b0 s) : Kept b0 (State.refreshPf s) := by
  unfold State.refreshPf
  simp (maxDischargeDepth := 40) +contextual only [hk, kept_ite, kept_upd, kept_foldl, kept_foldr, implies_true, and_self, keptOut_next, keptOut_ite, keptOut_fault, keptOut_awake, State.put_kept]

theorem State.wakeTask_kept {b0 : Before} (s : State) (t : Nat) (head : Bool) (hk : Kept b0 s) : Kept b0 (State.wakeTask s t head) := by
  unfold State.wakeTask
  simp (maxDischargeDepth := 40) +contextual only [hk, kept_ite, kept_upd, kept_foldl, kept_foldr, implies_true, and_self, keptOut_next, keptOut_ite, keptOut_fault, keptOut_awake, State.makeReady_kept, State.refreshPf_kept]

theorem State.freeCore_kept {b0 : Before} (s : State) (c : Nat) (h : Kept b0 s) : Kept b0 (s.freeCore c) := by
  unfold State.freeCore
  apply State.refreshPf_kept
  split
  · exact h
  · split
    · exact h
    · exact State.offer_kept _ _ _ (State.dequeue_kept _ _ h)

theorem State.schedRes_kept {b0 : Before} (s : State) (c st : Nat) (hk : Kept b0 s) : Kept b0 (State.schedRes s c st) := by
  unfold State.schedRes
  simp (maxDischargeDepth := 40) +contextual only [hk, kept_ite, kept_upd, kept_foldl, kept_foldr, implies_true, and_self, keptOut_next, keptOut_ite, keptOut_fault, keptOut_awake, State.put_kept]

theorem State.signalTask_kept {b0 : Before} (s : State) (t v : Nat) (hk : Kept b0 s) : Kept b0 (State.signalTask s t v) := by
  unfold State.signalTask
  simp (maxDischargeDepth := 40) +contextual only [hk, kept_ite, kept_upd, kept_foldl, kept_foldr, implies_true, and_self, keptOut_next, keptOut_ite, keptOut_fault, keptOut_awake, State.setTask_kept, State.wakeTask_kept]

theorem State.taskExpire_kept {b0 : Before} (s : State) (t : Nat) (hk : Kept b0 s) : Kept b0 (State.taskExpire s t) := by
  unfold State.taskExpire
  dsimp only
  repeat' split
  all_goals simp (maxDischargeDepth := 40) +contextual only [hk, kept_ite, kept_upd, kept_foldl, kept_foldr, implies_true, and_self, keptOut_next, keptOut_ite, keptOut_fault, keptOut_awake, State.setTask_kept, State.wakeTask_kept]

theorem State.expireTill_kept {b0 : Before} (lim n : Nat) (s : State) (h : Kept b0 s) : Kept b0 (State.expireTill lim n s) := by
  induction n generalizing s with
  | zero => exact h
  | succ n ih =>
    unfold State.expireTill
    split
    · exact ih _ (State.taskExpire_kept _ _ h)
    · exact h

theorem State.schedPast_kept {b0 : Before} (s : State) (h : Kept b0 s) : Kept b0 s.schedPast := State.expireTill_kept _ _ _ h

theorem State.expireDue_kept {b0 : Before} (s : State) (hk : Kept b0 s) : Kept b0 (State.expireDue s) := by
  unfold State.expireDue
  simp (maxDischargeDepth := 40) +contextual only [hk, kept_ite, kept_upd, kept_foldl, kept_foldr, implies_true, and_self, keptOut_next, keptOut_ite, keptOut_fault, keptOut_awake, State.taskExpire_kept]

theorem State.schedSettle_kept {b0 : Before} (s : State) (hk : Kept b0 s) : Kept b0 (State.schedSettle s) := by
  unfold State.schedSettle
  split <;> simp (maxDischargeDepth := 40) +contextual only [hk, kept_ite, kept_upd, kept_foldl, kept_foldr, implies_true, and_self, keptOut_next, keptOut_ite, keptOut_fault, keptOut_awake, State.expireDue_kept]

theorem State.schedAt_kept {b0 : Before} (s : State) (f : State → State) (hf : ∀ t, Kept b0 t → Kept b0 (f t)) (h : Kept b0 s) :
    Kept b0 (s.schedAt f) := State.schedSettle_kept _ (hf _ (State.schedPast_kept _ h))

theorem State.schedStep_kept {b0 : Before} (s : State) (old : Nat) (hk : Kept b0 s) : Kept b0 (State.schedStep s old) := by
  unfold State.schedStep
  simp (maxDischargeDepth := 40) +contextual only [hk, kept_ite, kept_upd, kept_foldl, kept_foldr, implies_true, and_self, keptOut_next, keptOut_ite, keptOut_fault, keptOut_awake]

theorem State.opCreate_kept {b0 : Before} (s : State) (c arg0 : Nat) (hk : Kept b0 s) : Kept b0 (State.opCreate s c arg0) := by
  unfold State.opCreate
  simp (maxDischargeDepth := 40) +contextual only [hk, kept_ite, kept_upd, kept_foldl, kept_foldr, implies_true, and_self, keptOut_next, keptOut_ite, keptOut_fault, keptOut_awake, State.schedRes_kept, State.setTask_kept, State.wakeTask_kept]

theorem State.opSignal_kept {b0 : Before} (s : State) (c arg0 arg1 : Nat) (hk : Kept b0 s) : Kept b0 (State.opSignal s c arg0 arg1) := by
  unfold State.opSignal
  simp (maxDischargeDepth := 40) +contextual only [hk, kept_ite, kept_upd, kept_foldl, kept_foldr, implies_true, and_self, keptOut_next, keptOut_ite, keptOut_fault, keptOut_awake, State.schedRes_kept, State.signalTask_kept]

theorem State.leaveCore_kept {b0 : Before} (s : State) (c t : Nat) (k : Task) (hk : Kept b0 s) : Kept b0 (State.leaveCore s c t k) := by
  unfold State.leaveCore
  simp (maxDischargeDepth := 40) +contextual only [hk, kept_ite, kept_upd, kept_foldl, kept_foldr, implies_true, and_self, keptOut_next, keptOut_ite, keptOut_fault, keptOut_awake, State.setTask_kept, State.put_kept, State.freeCore_kept]

theorem State.opWait_kept {b0 : Before} (s : State) (c mask arg1 : Nat) (nowait forever : Bool) (hk : Kept b0 s) : Kept b0 (State.opWait s c mask arg1 nowait forever) := by
  unfold State.opWait
  split <;> simp (maxDischargeDepth := 40) +contextual only [hk, kept_ite, kept_upd, kept_foldl, kept_foldr, implies_true, and_self, keptOut_next, keptOut_ite, keptOut_fault, keptOut_awake, State.schedRes_kept, State.setTask_kept, State.put_kept, State.leaveCore_kept]

theorem State.opYield_kept {b0 : Before} (s : State) (c : Nat) (hk : Kept b0 s) : Kept b0 (State.opYield s c) := by
  unfold State.opYield
  split <;> simp (maxDischargeDepth := 40) +contextual only [hk, kept_ite, kept_upd, kept_foldl, kept_foldr, implies_true, and_self, keptOut_next, keptOut_ite, keptOut_fault, keptOut_awake, State.schedRes_kept, State.enqueue_kept, State.put_kept, State.refreshPf_kept, State.dequeue_kept, State.offer_kept, State.freeCore_kept, State.wakeTask_kept]

theorem State.opSleep_kept {b0 : Before} (s : State) (c arg1 : Nat) (forever : Bool) (hk : Kept b0 s) : Kept b0 (State.opSleep s c arg1 forever) := by
  unfold State.opSleep
  dsimp only
  repeat' split
  all_goals simp (maxDischargeDepth := 40) +contextual only [hk, kept_ite, kept_upd, kept_foldl, kept_foldr, implies_true, and_self, keptOut_next, keptOut_ite, keptOut_fault, keptOut_awake, State.schedRes_kept, State.leaveCore_kept]

theorem State.opExit_kept {b0 : Before} (s : State) (c : Nat) (hk : Kept b0 s) : Kept b0 (State.opExit s c) := by
  unfold State.opExit
  split <;> simp (maxDischargeDepth := 40) +contextual only [hk, kept_ite, kept_upd, kept_foldl, kept_foldr, implies_true, and_self, keptOut_next, keptOut_ite, keptOut_fault, keptOut_awake, State.schedRes_kept, State.leaveCore_kept]

theorem State.schedCmd_kept {b0 : Before} (s : State) (c : Nat) (v : Word) (hk : Kept b0 s) : Kept b0 (State.schedCmd s c v) := by
  unfold State.schedCmd
  dsimp only
  repeat' split
  all_goals simp (maxDischargeDepth := 40) +contextual only [hk, kept_ite, kept_upd, kept_foldl, kept_foldr, implies_true, and_self, keptOut_next, keptOut_ite, keptOut_fault, keptOut_awake, State.schedAt_kept, State.opCreate_kept, State.opSignal_kept, State.opWait_kept, State.opYield_kept, State.opSleep_kept, State.opExit_kept, State.schedRes_kept]

theorem State.schedArgs_kept {b0 : Before} (s : State) (c : Nat) (a0 a1 : Word) (hk : Kept b0 s) : Kept b0 (State.schedArgs s c a0 a1) := by
  unfold State.schedArgs
  simp (maxDischargeDepth := 40) +contextual only [hk, kept_ite, kept_upd, kept_foldl, kept_foldr, implies_true, and_self, keptOut_next, keptOut_ite, keptOut_fault, keptOut_awake, State.setWord_kept]

theorem onCore_kept {b0 : Before} (c : Nat) (s t : State) (h : Kept b0 s) (ht : Kept b0 t) : KeptOut b0 (onCore c s t) := by
  unfold onCore
  simp only [keptOut_next, kept_ite, h, ht, implies_true, and_self]

theorem execCreate_kept {b0 : Before} (c : Nat) (arg0 : Word) (s : State) (hk : Kept b0 s) : KeptOut b0 (execCreate c arg0 s) := by
  unfold execCreate
  simp (maxDischargeDepth := 40) +contextual only [hk, kept_ite, kept_upd, kept_foldl, kept_foldr, implies_true, and_self, keptOut_next, keptOut_ite, keptOut_fault, keptOut_awake, State.setWord_kept, State.schedAt_kept, State.opCreate_kept, onCore_kept]

theorem execSignal_kept {b0 : Before} (c : Nat) (arg0 arg1 : Word) (s : State) (hk : Kept b0 s) : KeptOut b0 (execSignal c arg0 arg1 s) := by
  unfold execSignal
  simp (maxDischargeDepth := 40) +contextual only [hk, kept_ite, kept_upd, kept_foldl, kept_foldr, implies_true, and_self, keptOut_next, keptOut_ite, keptOut_fault, keptOut_awake, State.schedArgs_kept, State.schedAt_kept, State.opSignal_kept, onCore_kept]

theorem execWait_kept {b0 : Before} (c : Nat) (arg0 arg1 : Word) (nowait forever : Bool) (s : State) (hk : Kept b0 s) : KeptOut b0 (execWait c arg0 arg1 nowait forever s) := by
  unfold execWait
  simp (maxDischargeDepth := 40) +contextual only [hk, kept_ite, kept_upd, kept_foldl, kept_foldr, implies_true, and_self, keptOut_next, keptOut_ite, keptOut_fault, keptOut_awake, State.schedArgs_kept, State.schedAt_kept, State.opWait_kept, onCore_kept]

theorem execYield_kept {b0 : Before} (c : Nat) (s : State) (hk : Kept b0 s) : KeptOut b0 (execYield c s) := by
  unfold execYield
  simp (maxDischargeDepth := 40) +contextual only [hk, kept_ite, kept_upd, kept_foldl, kept_foldr, implies_true, and_self, keptOut_next, keptOut_ite, keptOut_fault, keptOut_awake, State.schedAt_kept, State.opYield_kept, onCore_kept]

theorem execSleep_kept {b0 : Before} (c : Nat) (arg1 : Word) (forever : Bool) (s : State) (hk : Kept b0 s) : KeptOut b0 (execSleep c arg1 forever s) := by
  unfold execSleep
  simp (maxDischargeDepth := 40) +contextual only [hk, kept_ite, kept_upd, kept_foldl, kept_foldr, implies_true, and_self, keptOut_next, keptOut_ite, keptOut_fault, keptOut_awake, State.setWord_kept, State.schedAt_kept, State.opSleep_kept, onCore_kept]

theorem execExit_kept {b0 : Before} (c : Nat) (s : State) (hk : Kept b0 s) : KeptOut b0 (execExit c s) := by
  unfold execExit
  simp (maxDischargeDepth := 40) +contextual only [hk, kept_ite, kept_upd, kept_foldl, kept_foldr, implies_true, and_self, keptOut_next, keptOut_ite, keptOut_fault, keptOut_awake, State.schedAt_kept, State.opExit_kept, onCore_kept]

theorem State.switchTo_kept {b0 : Before} (s : State) (c t : Nat) (hk : Kept b0 s) : Kept b0 (State.switchTo s c t) := by
  unfold State.switchTo
  split <;> simp (maxDischargeDepth := 40) +contextual only [hk, kept_ite, kept_upd, kept_foldl, kept_foldr, implies_true, and_self, keptOut_next, keptOut_ite, keptOut_fault, keptOut_awake, State.setTask_kept, State.put_kept, State.refreshPf_kept, State.wakeTask_kept]

theorem execSchedDispRead_kept {b0 : Before} (c : Nat) (s : State) (hk : Kept b0 s) : KeptOut b0 (execSchedDispRead c s) := by
  unfold execSchedDispRead
  split <;> simp (maxDischargeDepth := 40) +contextual only [hk, kept_ite, kept_upd, kept_foldl, kept_foldr, implies_true, and_self, keptOut_next, keptOut_ite, keptOut_fault, keptOut_awake, State.setWord_kept, State.switchTo_kept, onCore_kept]

theorem execSchedPfRead_kept {b0 : Before} (c : Nat) (s : State) (hk : Kept b0 s) : KeptOut b0 (execSchedPfRead c s) := by
  unfold execSchedPfRead
  dsimp only
  repeat' split
  all_goals simp (maxDischargeDepth := 40) +contextual only [hk, kept_ite, kept_upd, kept_foldl, kept_foldr, implies_true, and_self, keptOut_next, keptOut_ite, keptOut_fault, keptOut_awake, State.dequeue_kept, State.switchTo_kept, onCore_kept]

theorem State.eventLine_kept {b0 : Before} (s : State) (e : Nat) (hk : Kept b0 s) : Kept b0 (State.eventLine s e) := by
  unfold State.eventLine
  simp (maxDischargeDepth := 40) +contextual only [hk, kept_ite, kept_upd, kept_foldl, kept_foldr, implies_true, and_self, keptOut_next, keptOut_ite, keptOut_fault, keptOut_awake, State.signalTask_kept]

theorem execSchedEventLine_kept {b0 : Before} (e : Nat) (s : State) (hk : Kept b0 s) : KeptOut b0 (execSchedEventLine e s) := by
  unfold execSchedEventLine
  simp (maxDischargeDepth := 40) +contextual only [hk, kept_ite, kept_upd, kept_foldl, kept_foldr, implies_true, and_self, keptOut_next, keptOut_ite, keptOut_fault, keptOut_awake, State.schedAt_kept, State.eventLine_kept]

theorem execSchedTimeout_kept {b0 : Before} (t : Nat) (s : State) (hk : Kept b0 s) : KeptOut b0 (execSchedTimeout t s) := by
  unfold execSchedTimeout
  rw [keptOut_awake hk]
  intro _
  rw [keptOut_next]
  split
  · exact State.schedAt_kept _ _ (fun _ h => h) (State.advanceTo_kept _ _ hk)
  · exact hk

theorem execSchedSleepExpiry_kept {b0 : Before} (t : Nat) (s : State) (hk : Kept b0 s) : KeptOut b0 (execSchedSleepExpiry t s) := by
  unfold execSchedSleepExpiry
  rw [keptOut_awake hk]
  intro _
  rw [keptOut_next]
  split
  · exact State.schedAt_kept _ _ (fun _ h => h) (State.advanceTo_kept _ _ hk)
  · exact hk

theorem execQmemUe_kept {b0 : Before} (offset : Nat) (s : State) (hk : Kept b0 s) : KeptOut b0 (execQmemUe offset s) := by
  unfold execQmemUe
  simp (maxDischargeDepth := 40) +contextual only [hk, kept_ite, kept_upd, kept_foldl, kept_foldr, implies_true, and_self, keptOut_next, keptOut_ite, keptOut_fault, keptOut_awake, State.put_kept, State.raise_kept, State.post_kept, State.lifeInc_kept, State.refreshPf_kept]

theorem State.puti_kept {b0 : Before} (s : State) (f : Fld) (v : Int) (hk : Kept b0 s) : Kept b0 (State.puti s f v) := by
  unfold State.puti
  simp (maxDischargeDepth := 40) +contextual only [hk, kept_ite, kept_upd, kept_foldl, kept_foldr, implies_true, and_self, keptOut_next, keptOut_ite, keptOut_fault, keptOut_awake, State.put_kept]

theorem State.puti64_kept {b0 : Before} (s : State) (f : Fld) (v : Int) (hk : Kept b0 s) : Kept b0 (State.puti64 s f v) := by
  unfold State.puti64
  simp (maxDischargeDepth := 40) +contextual only [hk, kept_ite, kept_upd, kept_foldl, kept_foldr, implies_true, and_self, keptOut_next, keptOut_ite, keptOut_fault, keptOut_awake, State.put64_kept]

theorem State.setSlot_kept {b0 : Before} (s : State) (n : Nat) (v : SlotInt) (hk : Kept b0 s) : Kept b0 (State.setSlot s n v) := by
  unfold State.setSlot
  simp (maxDischargeDepth := 40) +contextual only [hk, kept_ite, kept_upd, kept_foldl, kept_foldr, implies_true, and_self, keptOut_next, keptOut_ite, keptOut_fault, keptOut_awake]

theorem State.refreshSum_kept {b0 : Before} (s : State) (n : Nat) (hk : Kept b0 s) : Kept b0 (State.refreshSum s n) := by
  unfold State.refreshSum
  simp (maxDischargeDepth := 40) +contextual only [hk, kept_ite, kept_upd, kept_foldl, kept_foldr, implies_true, and_self, keptOut_next, keptOut_ite, keptOut_fault, keptOut_awake, State.put_kept]

theorem State.slotFlags_kept {b0 : Before} (s : State) (n m : Nat) (hk : Kept b0 s) : Kept b0 (State.slotFlags s n m) := by
  unfold State.slotFlags
  simp (maxDischargeDepth := 40) +contextual only [hk, kept_ite, kept_upd, kept_foldl, kept_foldr, implies_true, and_self, keptOut_next, keptOut_ite, keptOut_fault, keptOut_awake, State.setWord_kept, State.refreshSum_kept, State.raise_kept]

theorem State.slotFlagIf_kept {b0 : Before} (s : State) (n bit : Nat) (c : Bool) (hk : Kept b0 s) : Kept b0 (State.slotFlagIf s n bit c) := by
  unfold State.slotFlagIf
  simp (maxDischargeDepth := 40) +contextual only [hk, kept_ite, kept_upd, kept_foldl, kept_foldr, implies_true, and_self, keptOut_next, keptOut_ite, keptOut_fault, keptOut_awake, State.slotFlags_kept]

theorem State.lateSample_kept {b0 : Before} (s : State) (n : Nat) (hk : Kept b0 s) : Kept b0 (State.lateSample s n) := by
  unfold State.lateSample
  simp (maxDischargeDepth := 40) +contextual only [hk, kept_ite, kept_upd, kept_foldl, kept_foldr, implies_true, and_self, keptOut_next, keptOut_ite, keptOut_fault, keptOut_awake, State.incSat_kept, State.slotFlags_kept]

theorem State.setInj_kept {b0 : Before} (s : State) (i : Nat) (v : InjInt) (hk : Kept b0 s) : Kept b0 (State.setInj s i v) := by
  unfold State.setInj
  simp (maxDischargeDepth := 40) +contextual only [hk, kept_ite, kept_upd, kept_foldl, kept_foldr, implies_true, and_self, keptOut_next, keptOut_ite, keptOut_fault, keptOut_awake]

theorem State.endInj_kept {b0 : Before} (s : State) (i : Nat) (hk : Kept b0 s) : Kept b0 (State.endInj s i) := by
  unfold State.endInj
  dsimp only
  repeat' split
  all_goals simp (maxDischargeDepth := 40) +contextual only [hk, kept_ite, kept_upd, kept_foldl, kept_foldr, implies_true, and_self, keptOut_next, keptOut_ite, keptOut_fault, keptOut_awake, State.put_kept, State.slotFlags_kept, State.setInj_kept, State.doneRes_kept]

theorem State.abortInj_kept {b0 : Before} (s : State) (n cause : Nat) (hk : Kept b0 s) : Kept b0 (State.abortInj s n cause) := by
  unfold State.abortInj
  split <;> simp (maxDischargeDepth := 40) +contextual only [hk, kept_ite, kept_upd, kept_foldl, kept_foldr, implies_true, and_self, keptOut_next, keptOut_ite, keptOut_fault, keptOut_awake, State.put_kept, State.slotFlags_kept, State.endInj_kept]

theorem State.leaveIdle_kept {b0 : Before} (s : State) (n : Nat) (hk : Kept b0 s) : Kept b0 (State.leaveIdle s n) := by
  unfold State.leaveIdle
  simp (maxDischargeDepth := 40) +contextual only [hk, kept_ite, kept_upd, kept_foldl, kept_foldr, implies_true, and_self, keptOut_next, keptOut_ite, keptOut_fault, keptOut_awake, State.put_kept, State.setWord_kept, State.setSlot_kept]

theorem State.setSlotSt_kept {b0 : Before} (s : State) (n st cause : Nat) (hk : Kept b0 s) : Kept b0 (State.setSlotSt s n st cause) := by
  unfold State.setSlotSt
  simp (maxDischargeDepth := 40) +contextual only [hk, kept_ite, kept_upd, kept_foldl, kept_foldr, implies_true, and_self, keptOut_next, keptOut_ite, keptOut_fault, keptOut_awake, State.abortInj_kept, State.leaveIdle_kept, State.put_kept, State.setSlot_kept]

theorem State.refreshPend_kept {b0 : Before} (s : State) (n : Nat) (hk : Kept b0 s) : Kept b0 (State.refreshPend s n) := by
  unfold State.refreshPend
  simp (maxDischargeDepth := 40) +contextual only [hk, kept_ite, kept_upd, kept_foldl, kept_foldr, implies_true, and_self, keptOut_next, keptOut_ite, keptOut_fault, keptOut_awake, State.put_kept]

theorem State.answerReq_kept {b0 : Before} (s : State) (n : Nat) (r : SlotReq) (st : Nat) (hk : Kept b0 s) : Kept b0 (State.answerReq s n r st) := by
  unfold State.answerReq
  split <;> simp (maxDischargeDepth := 40) +contextual only [hk, kept_ite, kept_upd, kept_foldl, kept_foldr, implies_true, and_self, keptOut_next, keptOut_ite, keptOut_fault, keptOut_awake, State.doneAt_kept, State.slotFlags_kept]

theorem State.redig_kept {b0 : Before} (s : State) (n c : Nat) (hk : Kept b0 s) : Kept b0 (State.redig s n c) := by
  unfold State.redig
  simp (maxDischargeDepth := 40) +contextual only [hk, kept_ite, kept_upd, kept_foldl, kept_foldr, implies_true, and_self, keptOut_next, keptOut_ite, keptOut_fault, keptOut_awake, State.lashI_kept]

theorem State.slotTrip_kept {b0 : Before} (s : State) (n : Nat) (sto : Bool) (hk : Kept b0 s) : Kept b0 (State.slotTrip s n sto) := by
  unfold State.slotTrip
  simp (maxDischargeDepth := 40) +contextual only [hk, kept_ite, kept_upd, kept_foldl, kept_foldr, implies_true, and_self, keptOut_next, keptOut_ite, keptOut_fault, keptOut_awake, State.setSlotSt_kept, State.slotFlags_kept, State.post_kept, State.redig_kept]

theorem State.enqueueSlot_kept {b0 : Before} (s : State) (n : Nat) (hk : Kept b0 s) : Kept b0 (State.enqueueSlot s n) := by
  unfold State.enqueueSlot
  simp (maxDischargeDepth := 40) +contextual only [hk, kept_ite, kept_upd, kept_foldl, kept_foldr, implies_true, and_self, keptOut_next, keptOut_ite, keptOut_fault, keptOut_awake]

theorem State.seedSlot_kept {b0 : Before} (s : State) (n after cyc : Nat) (hk : Kept b0 s) : Kept b0 (State.seedSlot s n after cyc) := by
  unfold State.seedSlot
  simp (maxDischargeDepth := 40) +contextual only [hk, kept_ite, kept_upd, kept_foldl, kept_foldr, implies_true, and_self, keptOut_next, keptOut_ite, keptOut_fault, keptOut_awake, State.seedTx_kept]

theorem State.latchFb2_kept {b0 : Before} (s : State) (n : Nat) (hk : Kept b0 s) : Kept b0 (State.latchFb2 s n) := by
  unfold State.latchFb2
  simp (maxDischargeDepth := 40) +contextual only [hk, kept_ite, kept_upd, kept_foldl, kept_foldr, implies_true, and_self, keptOut_next, keptOut_ite, keptOut_fault, keptOut_awake, State.setSlot_kept]

theorem State.latchTick_kept {b0 : Before} (s : State) (n : Nat) (stale : Bool) (hk : Kept b0 s) : Kept b0 (State.latchTick s n stale) := by
  unfold State.latchTick
  simp (maxDischargeDepth := 40) +contextual only [hk, kept_ite, kept_upd, kept_foldl, kept_foldr, implies_true, and_self, keptOut_next, keptOut_ite, keptOut_fault, keptOut_awake, State.latchFb2_kept, State.setSlot_kept]

theorem State.tickSlot_kept {b0 : Before} (s : State) (n : Nat) (stale : Bool) (hk : Kept b0 s) : Kept b0 (State.tickSlot s n stale) := by
  unfold State.tickSlot
  simp (maxDischargeDepth := 40) +contextual only [hk, kept_ite, kept_upd, kept_foldl, kept_foldr, implies_true, and_self, keptOut_next, keptOut_ite, keptOut_fault, keptOut_awake, State.setSlot_kept, State.latchTick_kept, State.lateSample_kept, State.enqueueSlot_kept]

theorem State.endCommit_kept {b0 : Before} (s : State) (b u st t : Nat) (hk : Kept b0 s) : Kept b0 (State.endCommit s b u st t) := by
  unfold State.endCommit
  simp (maxDischargeDepth := 40) +contextual only [hk, kept_ite, kept_upd, kept_foldl, kept_foldr, implies_true, and_self, keptOut_next, keptOut_ite, keptOut_fault, keptOut_awake, State.doneAt_kept, State.dropCommit_kept]

theorem State.askCommit_kept {b0 : Before} (s : State) (b u : Nat) (p : Option Pkt) (hk : Kept b0 s) : Kept b0 (State.askCommit s b u p) := by
  unfold State.askCommit
  simp (maxDischargeDepth := 40) +contextual only [hk, kept_ite, kept_upd, kept_foldl, kept_foldr, implies_true, and_self, keptOut_next, keptOut_ite, keptOut_fault, keptOut_awake, State.refreshCmtPend_kept]

theorem State.mirSto_kept {b0 : Before} (s old : State) (h : Kept b0 s) : Kept b0 (s.mirSto old) := by
  unfold State.mirSto
  simp (maxDischargeDepth := 40) +contextual only [h, kept_ite, kept_foldl, State.mirInput_kept, implies_true, and_self]

theorem State.setGen_kept {b0 : Before} (s : State) (g : Nat) (v : PwmGen) (hk : Kept b0 s) : Kept b0 (State.setGen s g v) := by
  unfold State.setGen
  simp (maxDischargeDepth := 40) +contextual only [hk, kept_ite, kept_upd, kept_foldl, kept_foldr, implies_true, and_self, keptOut_next, keptOut_ite, keptOut_fault, keptOut_awake]

theorem State.setPos_kept {b0 : Before} (s : State) (g p k : Nat) (hk : Kept b0 s) : Kept b0 (State.setPos s g p k) := by
  unfold State.setPos
  simp (maxDischargeDepth := 40) +contextual only [hk, kept_ite, kept_upd, kept_foldl, kept_foldr, implies_true, and_self, keptOut_next, keptOut_ite, keptOut_fault, keptOut_awake, State.setGen_kept]

theorem State.noteShadow_kept {b0 : Before} (s : State) (g f k : Nat) (hk : Kept b0 s) : Kept b0 (State.noteShadow s g f k) := by
  unfold State.noteShadow
  simp (maxDischargeDepth := 40) +contextual only [hk, kept_ite, kept_upd, kept_foldl, kept_foldr, implies_true, and_self, keptOut_next, keptOut_ite, keptOut_fault, keptOut_awake, State.setGen_kept]

theorem State.shadowAt_kept {b0 : Before} (s : State) (g f v k : Nat) (hk : Kept b0 s) : Kept b0 (State.shadowAt s g f v k) := by
  unfold State.shadowAt
  simp (maxDischargeDepth := 40) +contextual only [hk, kept_ite, kept_upd, kept_foldl, kept_foldr, implies_true, and_self, keptOut_next, keptOut_ite, keptOut_fault, keptOut_awake, State.noteShadow_kept, State.put_kept]

theorem State.shadowWrite_kept {b0 : Before} (s : State) (g f v : Nat) (hk : Kept b0 s) : Kept b0 (State.shadowWrite s g f v) := by
  unfold State.shadowWrite
  simp (maxDischargeDepth := 40) +contextual only [hk, kept_ite, kept_upd, kept_foldl, kept_foldr, implies_true, and_self, keptOut_next, keptOut_ite, keptOut_fault, keptOut_awake, State.reject_kept, State.shadowAt_kept]

theorem State.setLoadnow_kept {b0 : Before} (s : State) (g : Nat) (hk : Kept b0 s) : Kept b0 (State.setLoadnow s g) := by
  unfold State.setLoadnow
  simp (maxDischargeDepth := 40) +contextual only [hk, kept_ite, kept_upd, kept_foldl, kept_foldr, implies_true, and_self, keptOut_next, keptOut_ite, keptOut_fault, keptOut_awake, State.noteShadow_kept, State.put_kept]

theorem State.undoShadow_kept {b0 : Before} (g : Nat) (e : ShadowOld) (s : State) (hk : Kept b0 s) : Kept b0 (State.undoShadow g e s) := by
  unfold State.undoShadow
  simp (maxDischargeDepth := 40) +contextual only [hk, kept_ite, kept_upd, kept_foldl, kept_foldr, implies_true, and_self, keptOut_next, keptOut_ite, keptOut_fault, keptOut_awake, State.put_kept]

theorem State.redoShadow_kept {b0 : Before} (now : State) (g : Nat) (s : State) (e : ShadowOld) (h : Kept b0 s) :
    Kept b0 (State.redoShadow now g s e) := by
  unfold State.redoShadow
  dsimp only
  split <;> simp only [h, State.put_kept]

theorem State.transfer_kept {b0 : Before} (s : State) (g f : Nat) (hk : Kept b0 s) : Kept b0 (State.transfer s g f) := by
  unfold State.transfer
  simp (maxDischargeDepth := 40) +contextual only [hk, kept_ite, kept_upd, kept_foldl, kept_foldr, implies_true, and_self, keptOut_next, keptOut_ite, keptOut_fault, keptOut_awake, State.put_kept]

theorem State.transferWritten_kept {b0 : Before} (s : State) (g : Nat) (fs : List Nat) (hk : Kept b0 s) : Kept b0 (State.transferWritten s g fs) := by
  unfold State.transferWritten
  simp (maxDischargeDepth := 40) +contextual only [hk, kept_ite, kept_upd, kept_foldl, kept_foldr, implies_true, and_self, keptOut_next, keptOut_ite, keptOut_fault, keptOut_awake, State.transfer_kept]

theorem State.staleCount_kept {b0 : Before} (s : State) (g : Nat) (hk : Kept b0 s) : Kept b0 (State.staleCount s g) := by
  unfold State.staleCount
  simp (maxDischargeDepth := 40) +contextual only [hk, kept_ite, kept_upd, kept_foldl, kept_foldr, implies_true, and_self, keptOut_next, keptOut_ite, keptOut_fault, keptOut_awake, State.incSat_kept, State.put_kept, State.raise_kept, State.setGen_kept, State.post_kept]

theorem State.shadowTest_kept {b0 : Before} (s : State) (g : Nat) (hk : Kept b0 s) : Kept b0 (State.shadowTest s g) := by
  unfold State.shadowTest
  simp (maxDischargeDepth := 40) +contextual only [hk, kept_ite, kept_upd, kept_foldl, kept_foldr, implies_true, and_self, keptOut_next, keptOut_ite, keptOut_fault, keptOut_awake, State.transferWritten_kept, State.put_kept, State.staleCount_kept]

theorem State.trip_kept {b0 : Before} (s : State) (g cause : Nat) (hk : Kept b0 s) : Kept b0 (State.trip s g cause) := by
  unfold State.trip
  simp (maxDischargeDepth := 40) +contextual only [hk, kept_ite, kept_upd, kept_foldl, kept_foldr, implies_true, and_self, keptOut_next, keptOut_ite, keptOut_fault, keptOut_awake, State.put_kept, State.raise_kept, State.slotTrip_kept, State.mirInput_kept]

theorem State.applyTrips_kept {b0 : Before} (s : State) (g : Nat) (hk : Kept b0 s) : Kept b0 (State.applyTrips s g) := by
  unfold State.applyTrips
  simp (maxDischargeDepth := 40) +contextual only [hk, kept_ite, kept_upd, kept_foldl, kept_foldr, implies_true, and_self, keptOut_next, keptOut_ite, keptOut_fault, keptOut_awake, State.trip_kept]

theorem State.applyAllTrips_kept {b0 : Before} (s : State) (hk : Kept b0 s) : Kept b0 (State.applyAllTrips s) := by
  unfold State.applyAllTrips
  simp (maxDischargeDepth := 40) +contextual only [hk, kept_ite, kept_upd, kept_foldl, kept_foldr, implies_true, and_self, keptOut_next, keptOut_ite, keptOut_fault, keptOut_awake, State.applyTrips_kept]

theorem State.commitPwm_kept {b0 : Before} (s : State) (g t : Nat) (hk : Kept b0 s) : Kept b0 (State.commitPwm s g t) := by
  unfold State.commitPwm
  simp (maxDischargeDepth := 40) +contextual only [hk, kept_ite, kept_upd, kept_foldl, kept_foldr, implies_true, and_self, keptOut_next, keptOut_ite, keptOut_fault, keptOut_awake, State.reject_kept, State.endCommit_kept, State.activateAll_kept, State.applyTrips_kept]

theorem State.stopGen_kept {b0 : Before} (s : State) (g : Nat) (hk : Kept b0 s) : Kept b0 (State.stopGen s g) := by
  unfold State.stopGen
  simp (maxDischargeDepth := 40) +contextual only [hk, kept_ite, kept_upd, kept_foldl, kept_foldr, implies_true, and_self, keptOut_next, keptOut_ite, keptOut_fault, keptOut_awake, State.put_kept]

theorem State.clearTrip_kept {b0 : Before} (s : State) (g : Nat) (hk : Kept b0 s) : Kept b0 (State.clearTrip s g) := by
  unfold State.clearTrip
  simp (maxDischargeDepth := 40) +contextual only [hk, kept_ite, kept_upd, kept_foldl, kept_foldr, implies_true, and_self, keptOut_next, keptOut_ite, keptOut_fault, keptOut_awake, State.put_kept, State.setGen_kept]

theorem State.refuseClear_kept {b0 : Before} (s : State) (g : Nat) (hk : Kept b0 s) : Kept b0 (State.refuseClear s g) := by
  unfold State.refuseClear
  simp (maxDischargeDepth := 40) +contextual only [hk, kept_ite, kept_upd, kept_foldl, kept_foldr, implies_true, and_self, keptOut_next, keptOut_ite, keptOut_fault, keptOut_awake, State.put_kept, State.raise_kept]

theorem State.newPart_kept {b0 : Before} (s before : State) (g p x k : Nat) (h : Kept b0 s) : Kept b0 (s.newPart before g p x k) := by
  unfold State.newPart
  exact State.setGen_kept _ _ _ h

theorem State.stopEnds_kept {b0 : Before} (s : State) (g t : Nat) (hk : Kept b0 s) : Kept b0 (State.stopEnds s g t) := by
  unfold State.stopEnds
  simp (maxDischargeDepth := 40) +contextual only [hk, kept_ite, kept_upd, kept_foldl, kept_foldr, implies_true, and_self, keptOut_next, keptOut_ite, keptOut_fault, keptOut_awake, State.doneAt_kept]

theorem State.boundaryCore_kept {b0 : Before} (s : State) (g k : Nat) (hk : Kept b0 s) : Kept b0 (State.boundaryCore s g k) := by
  unfold State.boundaryCore
  simp (maxDischargeDepth := 40) +contextual only [hk, kept_ite, kept_upd, kept_foldl, kept_foldr, implies_true, and_self, keptOut_next, keptOut_ite, keptOut_fault, keptOut_awake, State.safePoint_kept, State.commitPwm_kept, State.undoShadow_kept, State.shadowTest_kept, State.redoShadow_kept, State.setGen_kept, State.newPart_kept, State.put_kept, State.stopEnds_kept, State.pulse_kept]

theorem State.startGen_kept {b0 : Before} (s : State) (g : Nat) (hk : Kept b0 s) : Kept b0 (State.startGen s g) := by
  unfold State.startGen
  simp (maxDischargeDepth := 40) +contextual only [hk, kept_ite, kept_upd, kept_foldl, kept_foldr, implies_true, and_self, keptOut_next, keptOut_ite, keptOut_fault, keptOut_awake, State.put_kept, State.stopEnds_kept, State.reject_kept, State.transferWritten_kept, State.setGen_kept, State.newPart_kept]

theorem execLoadnow_kept {b0 : Before} (g : Nat) (s : State) (hk : Kept b0 s) : KeptOut b0 (execLoadnow g s) := by
  unfold execLoadnow
  simp (maxDischargeDepth := 40) +contextual only [hk, kept_ite, kept_upd, kept_foldl, kept_foldr, implies_true, and_self, keptOut_next, keptOut_ite, keptOut_fault, keptOut_awake, State.setLoadnow_kept]

theorem State.tripClr_kept {b0 : Before} (s : State) (g : Nat) (hk : Kept b0 s) : Kept b0 (State.tripClr s g) := by
  unfold State.tripClr
  simp (maxDischargeDepth := 40) +contextual only [hk, kept_ite, kept_upd, kept_foldl, kept_foldr, implies_true, and_self, keptOut_next, keptOut_ite, keptOut_fault, keptOut_awake, State.refuseClear_kept, State.clearTrip_kept]

theorem execTripClr_kept {b0 : Before} (g : Nat) (s : State) (hk : Kept b0 s) : KeptOut b0 (execTripClr g s) := by
  unfold execTripClr
  simp (maxDischargeDepth := 40) +contextual only [hk, kept_ite, kept_upd, kept_foldl, kept_foldr, implies_true, and_self, keptOut_next, keptOut_ite, keptOut_fault, keptOut_awake, State.tripClr_kept]

theorem State.tripPin_kept {b0 : Before} (s : State) (k : Nat) (b : Bool) (hk : Kept b0 s) : Kept b0 (State.tripPin s k b) := by
  unfold State.tripPin
  simp (maxDischargeDepth := 40) +contextual only [hk, kept_ite, kept_upd, kept_foldl, kept_foldr, implies_true, and_self, keptOut_next, keptOut_ite, keptOut_fault, keptOut_awake, State.put_kept, State.line_kept]

theorem execTripPinAssert_kept {b0 : Before} (k samples : Nat) (s : State) (hk : Kept b0 s) : KeptOut b0 (execTripPinAssert k samples s) := by
  unfold execTripPinAssert
  simp (maxDischargeDepth := 40) +contextual only [hk, kept_ite, kept_upd, kept_foldl, kept_foldr, implies_true, and_self, keptOut_next, keptOut_ite, keptOut_fault, keptOut_awake, State.tripPin_kept, State.applyAllTrips_kept]

theorem execTripPinDeassert_kept {b0 : Before} (k samples : Nat) (s : State) (hk : Kept b0 s) : KeptOut b0 (execTripPinDeassert k samples s) := by
  unfold execTripPinDeassert
  simp (maxDischargeDepth := 40) +contextual only [hk, kept_ite, kept_upd, kept_foldl, kept_foldr, implies_true, and_self, keptOut_next, keptOut_ite, keptOut_fault, keptOut_awake, State.tripPin_kept]

theorem execCoreDebugHalt_kept {b0 : Before} (c : Nat) (s : State) (hk : Kept b0 s) : KeptOut b0 (execCoreDebugHalt c s) := by
  unfold execCoreDebugHalt
  simp (maxDischargeDepth := 40) +contextual only [hk, kept_ite, kept_upd, kept_foldl, kept_foldr, implies_true, and_self, keptOut_next, keptOut_ite, keptOut_fault, keptOut_awake, State.applyAllTrips_kept]

theorem execCoreDebugResume_kept {b0 : Before} (c : Nat) (s : State) (hk : Kept b0 s) : KeptOut b0 (execCoreDebugResume c s) := by
  unfold execCoreDebugResume
  simp (maxDischargeDepth := 40) +contextual only [hk, kept_ite, kept_upd, kept_foldl, kept_foldr, implies_true, and_self, keptOut_next, keptOut_ite, keptOut_fault, keptOut_awake]

theorem State.refreshSv_kept {b0 : Before} (s : State) (hk : Kept b0 s) : Kept b0 (State.refreshSv s) := by
  unfold State.refreshSv
  simp (maxDischargeDepth := 40) +contextual only [hk, kept_ite, kept_upd, kept_foldl, kept_foldr, implies_true, and_self, keptOut_next, keptOut_ite, keptOut_fault, keptOut_awake, State.put_kept, State.line_kept, State.applyAllTrips_kept]

theorem State.winLine_kept {b0 : Before} (s : State) (k : Nat) (b : Bool) (hk : Kept b0 s) : Kept b0 (State.winLine s k b) := by
  unfold State.winLine
  simp (maxDischargeDepth := 40) +contextual only [hk, kept_ite, kept_upd, kept_foldl, kept_foldr, implies_true, and_self, keptOut_next, keptOut_ite, keptOut_fault, keptOut_awake, State.put_kept, State.applyAllTrips_kept]

theorem State.setTripPin_kept {b0 : Before} (s : State) (k v : Nat) (hk : Kept b0 s) : Kept b0 (State.setTripPin s k v) := by
  unfold State.setTripPin
  simp (maxDischargeDepth := 40) +contextual only [hk, kept_ite, kept_upd, kept_foldl, kept_foldr, implies_true, and_self, keptOut_next, keptOut_ite, keptOut_fault, keptOut_awake, State.setWord_kept, State.tripPin_kept]

theorem State.setGrp_kept {b0 : Before} (s : State) (g v : Nat) (hk : Kept b0 s) : Kept b0 (State.setGrp s g v) := by
  unfold State.setGrp
  simp (maxDischargeDepth := 40) +contextual only [hk, kept_ite, kept_upd, kept_foldl, kept_foldr, implies_true, and_self, keptOut_next, keptOut_ite, keptOut_fault, keptOut_awake, State.setWord_kept, State.applyTrips_kept]

theorem State.stagePwm_kept {b0 : Before} (s : State) (g : Nat) (p : Pkt) (hk : Kept b0 s) : Kept b0 (State.stagePwm s g p) := by
  unfold State.stagePwm
  simp (maxDischargeDepth := 40) +contextual only [hk, kept_ite, kept_upd, kept_foldl, kept_foldr, implies_true, and_self, keptOut_next, keptOut_ite, keptOut_fault, keptOut_awake, State.setWord_kept]

theorem State.pwmConfigGen_kept {b0 : Before} (s : State) (p : Pkt) (g : Nat) (hk : Kept b0 s) : Kept b0 (State.pwmConfigGen s p g) := by
  unfold State.pwmConfigGen
  simp (maxDischargeDepth := 40) +contextual only [hk, kept_ite, kept_upd, kept_foldl, kept_foldr, implies_true, and_self, keptOut_next, keptOut_ite, keptOut_fault, keptOut_awake, State.stagePwm_kept, State.setGrp_kept, State.askCommit_kept, State.commitPwm_kept]

theorem execPwmConfig_kept {b0 : Before} (p : Pkt) (s : State) (hk : Kept b0 s) : KeptOut b0 (execPwmConfig p s) := by
  unfold execPwmConfig
  simp (maxDischargeDepth := 40) +contextual only [hk, kept_ite, kept_upd, kept_foldl, kept_foldr, implies_true, and_self, keptOut_next, keptOut_ite, keptOut_fault, keptOut_awake, State.command_kept, State.setTripPin_kept, State.done_kept, State.pwmConfigGen_kept]

theorem execPwmDuty_kept {b0 : Before} (p : Pkt) (s : State) (hk : Kept b0 s) : KeptOut b0 (execPwmDuty p s) := by
  unfold execPwmDuty
  simp (maxDischargeDepth := 40) +contextual only [hk, kept_ite, kept_upd, kept_foldl, kept_foldr, implies_true, and_self, keptOut_next, keptOut_ite, keptOut_fault, keptOut_awake, State.command_kept, State.shadowWrite_kept, State.setLoadnow_kept, State.doneRes_kept]

theorem execPwmTripClear_kept {b0 : Before} (p : Pkt) (s : State) (hk : Kept b0 s) : KeptOut b0 (execPwmTripClear p s) := by
  unfold execPwmTripClear
  simp (maxDischargeDepth := 40) +contextual only [hk, kept_ite, kept_upd, kept_foldl, kept_foldr, implies_true, and_self, keptOut_next, keptOut_ite, keptOut_fault, keptOut_awake, State.command_kept, State.refuseClear_kept, State.done_kept, State.clearTrip_kept]

theorem State.gpioCfgWrite_kept {b0 : Before} (s : State) (n v : Nat) (hk : Kept b0 s) : Kept b0 (State.gpioCfgWrite s n v) := by
  unfold State.gpioCfgWrite
  simp (maxDischargeDepth := 40) +contextual only [hk, kept_ite, kept_upd, kept_foldl, kept_foldr, implies_true, and_self, keptOut_next, keptOut_ite, keptOut_fault, keptOut_awake, State.reject_kept, State.setWord_kept]

theorem execGpioSetWrite_kept {b0 : Before} (k : Nat) (v : Word) (s : State) (hk : Kept b0 s) : KeptOut b0 (execGpioSetWrite k v s) := by
  unfold execGpioSetWrite
  simp (maxDischargeDepth := 40) +contextual only [hk, kept_ite, kept_upd, kept_foldl, kept_foldr, implies_true, and_self, keptOut_next, keptOut_ite, keptOut_fault, keptOut_awake, State.put_kept]

theorem execGpioClrWrite_kept {b0 : Before} (k : Nat) (v : Word) (s : State) (hk : Kept b0 s) : KeptOut b0 (execGpioClrWrite k v s) := by
  unfold execGpioClrWrite
  simp (maxDischargeDepth := 40) +contextual only [hk, kept_ite, kept_upd, kept_foldl, kept_foldr, implies_true, and_self, keptOut_next, keptOut_ite, keptOut_fault, keptOut_awake, State.put_kept]

theorem State.holdGpio_kept {b0 : Before} (s : State) (hk : Kept b0 s) : Kept b0 (State.holdGpio s) := by
  unfold State.holdGpio
  simp (maxDischargeDepth := 40) +contextual only [hk, kept_ite, kept_upd, kept_foldl, kept_foldr, implies_true, and_self, keptOut_next, keptOut_ite, keptOut_fault, keptOut_awake]

theorem State.gpioIn_kept {b0 : Before} (s : State) (n : Nat) (level : Bool) (hk : Kept b0 s) : Kept b0 (State.gpioIn s n level) := by
  unfold State.gpioIn
  simp (maxDischargeDepth := 40) +contextual only [hk, kept_ite, kept_upd, kept_foldl, kept_foldr, implies_true, and_self, keptOut_next, keptOut_ite, keptOut_fault, keptOut_awake, State.put_kept, State.line_kept]

theorem execGpioInputChange_kept {b0 : Before} (n : Nat) (level : Bool) (samples : Nat) (s : State) (hk : Kept b0 s) : KeptOut b0 (execGpioInputChange n level samples s) := by
  unfold execGpioInputChange
  simp (maxDischargeDepth := 40) +contextual only [hk, kept_ite, kept_upd, kept_foldl, kept_foldr, implies_true, and_self, keptOut_next, keptOut_ite, keptOut_fault, keptOut_awake, State.wakeSense_kept, State.wakeCheck_kept, State.gpioIn_kept, State.mirInputIf_kept]

theorem execOutMismatch_kept {b0 : Before} (n : Nat) (s : State) (hk : Kept b0 s) : KeptOut b0 (execOutMismatch n s) := by
  unfold execOutMismatch
  simp (maxDischargeDepth := 40) +contextual only [hk, kept_ite, kept_upd, kept_foldl, kept_foldr, implies_true, and_self, keptOut_next, keptOut_ite, keptOut_fault, keptOut_awake, State.put_kept, State.raise_kept]

theorem execGpioConfig_kept {b0 : Before} (p : Pkt) (s : State) (hk : Kept b0 s) : KeptOut b0 (execGpioConfig p s) := by
  unfold execGpioConfig
  simp (maxDischargeDepth := 40) +contextual only [hk, kept_ite, kept_upd, kept_foldl, kept_foldr, implies_true, and_self, keptOut_next, keptOut_ite, keptOut_fault, keptOut_awake, State.command_kept, State.setWord_kept, State.done_kept]

theorem State.gpioLevels_kept {b0 : Before} (s : State) (bank mask levels : Nat) (hk : Kept b0 s) : Kept b0 (State.gpioLevels s bank mask levels) := by
  unfold State.gpioLevels
  simp (maxDischargeDepth := 40) +contextual only [hk, kept_ite, kept_upd, kept_foldl, kept_foldr, implies_true, and_self, keptOut_next, keptOut_ite, keptOut_fault, keptOut_awake, State.put_kept]

theorem execGpioWrite_kept {b0 : Before} (p : Pkt) (s : State) (hk : Kept b0 s) : KeptOut b0 (execGpioWrite p s) := by
  unfold execGpioWrite
  simp (maxDischargeDepth := 40) +contextual only [hk, kept_ite, kept_upd, kept_foldl, kept_foldr, implies_true, and_self, keptOut_next, keptOut_ite, keptOut_fault, keptOut_awake, State.command_kept, State.gpioLevels_kept, State.done_kept]

theorem execGpioRead_kept {b0 : Before} (p : Pkt) (s : State) (hk : Kept b0 s) : KeptOut b0 (execGpioRead p s) := by
  unfold execGpioRead
  simp (maxDischargeDepth := 40) +contextual only [hk, kept_ite, kept_upd, kept_foldl, kept_foldr, implies_true, and_self, keptOut_next, keptOut_ite, keptOut_fault, keptOut_awake, State.command_kept, State.doneRes_kept]

theorem State.setRx_kept {b0 : Before} (s : State) (n : Nat) (v : SegRx) (hk : Kept b0 s) : Kept b0 (State.setRx s n v) := by
  unfold State.setRx
  simp (maxDischargeDepth := 40) +contextual only [hk, kept_ite, kept_upd, kept_foldl, kept_foldr, implies_true, and_self, keptOut_next, keptOut_ite, keptOut_fault, keptOut_awake]

theorem State.setTx_kept {b0 : Before} (s : State) (n : Nat) (v : SegTx) (hk : Kept b0 s) : Kept b0 (State.setTx s n v) := by
  unfold State.setTx
  simp (maxDischargeDepth := 40) +contextual only [hk, kept_ite, kept_upd, kept_foldl, kept_foldr, implies_true, and_self, keptOut_next, keptOut_ite, keptOut_fault, keptOut_awake]

theorem State.setNode_kept {b0 : Before} (s : State) (n : Nat) (v : NodeInt) (hk : Kept b0 s) : Kept b0 (State.setNode s n v) := by
  unfold State.setNode
  simp (maxDischargeDepth := 40) +contextual only [hk, kept_ite, kept_upd, kept_foldl, kept_foldr, implies_true, and_self, keptOut_next, keptOut_ite, keptOut_fault, keptOut_awake]

theorem State.disarm_kept {b0 : Before} (s : State) (n : Nat) (hk : Kept b0 s) : Kept b0 (State.disarm s n) := by
  unfold State.disarm
  simp (maxDischargeDepth := 40) +contextual only [hk, kept_ite, kept_upd, kept_foldl, kept_foldr, implies_true, and_self, keptOut_next, keptOut_ite, keptOut_fault, keptOut_awake]

theorem State.disarmAbsent_kept {b0 : Before} (s : State) (hk : Kept b0 s) : Kept b0 (State.disarmAbsent s) := by
  unfold State.disarmAbsent
  simp (maxDischargeDepth := 40) +contextual only [hk, kept_ite, kept_upd, kept_foldl, kept_foldr, implies_true, and_self, keptOut_next, keptOut_ite, keptOut_fault, keptOut_awake, State.disarm_kept]

theorem State.dropSched_kept {b0 : Before} (s : State) (hk : Kept b0 s) : Kept b0 (State.dropSched s) := by
  unfold State.dropSched
  simp (maxDischargeDepth := 40) +contextual only [hk, kept_ite, kept_upd, kept_foldl, kept_foldr, implies_true, and_self, keptOut_next, keptOut_ite, keptOut_fault, keptOut_awake, State.disarmAbsent_kept]

theorem State.deliver_kept {b0 : Before} (s : State) (who seg w : Nat) (v : Nat) (hk : Kept b0 s) : Kept b0 (State.deliver s who seg w v) := by
  unfold State.deliver
  simp (maxDischargeDepth := 40) +contextual only [hk, kept_ite, kept_upd, kept_foldl, kept_foldr, implies_true, and_self, keptOut_next, keptOut_ite, keptOut_fault, keptOut_awake, State.setTx_kept]

theorem State.setDue_kept {b0 : Before} (s : State) (who seg : Nat) (hk : Kept b0 s) : Kept b0 (State.setDue s who seg) := by
  unfold State.setDue
  simp (maxDischargeDepth := 40) +contextual only [hk, kept_ite, kept_upd, kept_foldl, kept_foldr, implies_true, and_self, keptOut_next, keptOut_ite, keptOut_fault, keptOut_awake, State.setTx_kept]

theorem State.clearDue_kept {b0 : Before} (s : State) (who : Nat) (hk : Kept b0 s) : Kept b0 (State.clearDue s who) := by
  unfold State.clearDue
  simp (maxDischargeDepth := 40) +contextual only [hk, kept_ite, kept_upd, kept_foldl, kept_foldr, implies_true, and_self, keptOut_next, keptOut_ite, keptOut_fault, keptOut_awake, State.setTx_kept]

theorem State.setImg_kept {b0 : Before} (s : State) (i v : Nat) (hk : Kept b0 s) : Kept b0 (State.setImg s i v) := by
  unfold State.setImg
  simp (maxDischargeDepth := 40) +contextual only [hk, kept_ite, kept_upd, kept_foldl, kept_foldr, implies_true, and_self, keptOut_next, keptOut_ite, keptOut_fault, keptOut_awake, State.setWord_kept]

theorem State.dueAt_kept {b0 : Before} (s : State) (n sel : Nat) (hk : Kept b0 s) : Kept b0 (State.dueAt s n sel) := by
  unfold State.dueAt
  simp (maxDischargeDepth := 40) +contextual only [hk, kept_ite, kept_upd, kept_foldl, kept_foldr, implies_true, and_self, keptOut_next, keptOut_ite, keptOut_fault, keptOut_awake, State.setDue_kept]

theorem State.tickRing_kept {b0 : Before} (s : State) (n : Nat) (stale : Bool) (hk : Kept b0 s) : Kept b0 (State.tickRing s n stale) := by
  unfold State.tickRing
  simp (maxDischargeDepth := 40) +contextual only [hk, kept_ite, kept_upd, kept_foldl, kept_foldr, implies_true, and_self, keptOut_next, keptOut_ite, keptOut_fault, keptOut_awake, State.tickSlot_kept, State.dueAt_kept]

theorem State.takeSnap_kept {b0 : Before} (s : State) (hk : Kept b0 s) : Kept b0 (State.takeSnap s) := by
  unfold State.takeSnap
  simp (maxDischargeDepth := 40) +contextual only [hk, kept_ite, kept_upd, kept_foldl, kept_foldr, implies_true, and_self, keptOut_next, keptOut_ite, keptOut_fault, keptOut_awake]

end Sys2Proof.Machine
end

