-- ==== Sys2Proof/Laws/KeptLoop.lean ====
section
/-! SUPPORT. What every operation keeps (`Kept`: the store canonical, the queue, blown fuses): the loop engine and the ADC. One lemma per operation and
one per command, each citing the lemmas of what it calls. -/

set_option linter.unusedSimpArgs false

namespace Sys2Proof.Machine

theorem State.freshI_kept {b0 : Before} (s : State) (hk : Kept b0 s) : Kept b0 (State.freshI s).2 := by
  unfold State.freshI
  simp (maxDischargeDepth := 40) +contextual only [hk, kept_ite, kept_upd, kept_foldl, kept_foldr, implies_true, and_self, keptOut_next, keptOut_ite, keptOut_fault, keptOut_awake, State.fresh_kept]

theorem State.readFb_kept {b0 : Before} (s : State) (n src sel : Nat) (live : Bool) (seen : FbSeen) (latch : Option (Int × Bool)) (hk : Kept b0 s) : Kept b0 (State.readFb s n src sel live seen latch).2 := by
  unfold State.readFb
  dsimp only
  repeat' split
  all_goals simp (maxDischargeDepth := 40) +contextual only [hk, kept_ite, kept_upd, kept_foldl, kept_foldr, implies_true, and_self, keptOut_next, keptOut_ite, keptOut_fault, keptOut_awake, State.freshI_kept, State.fresh_kept]

theorem State.pulseRaw_kept {b0 : Before} (s : State) (n : Nat) (hk : Kept b0 s) : Kept b0 (State.pulseRaw s n).2 := by
  unfold State.pulseRaw
  dsimp only
  repeat' split
  all_goals simp (maxDischargeDepth := 40) +contextual only [hk, kept_ite, kept_upd, kept_foldl, kept_foldr, implies_true, and_self, keptOut_next, keptOut_ite, keptOut_fault, keptOut_awake, State.setSlot_kept, State.freshI_kept]

theorem State.setPoint_kept {b0 : Before} (s : State) (n : Nat) (live : Bool) (h : Kept b0 s) : Kept b0 (s.setPoint n live).2 := by
  unfold State.setPoint
  dsimp only
  split <;> (try split) <;> simp only [h, State.pulseRaw_kept, State.freshI_kept]

theorem State.freezeCheck_kept {b0 : Before} (s : State) (n : Nat) (fb u : Int) (hk : Kept b0 s) : Kept b0 (State.freezeCheck s n fb u).2 := by
  unfold State.freezeCheck
  split <;> simp (maxDischargeDepth := 40) +contextual only [hk, kept_ite, kept_upd, kept_foldl, kept_foldr, implies_true, and_self, keptOut_next, keptOut_ite, keptOut_fault, keptOut_awake, State.puti_kept, State.put_kept, State.incSat_kept]

theorem State.confirm_kept {b0 : Before} (s : State) (n : Nat) (cnt : Fld) (en hit : Bool) (hk : Kept b0 s) : Kept b0 (State.confirm s n cnt en hit).2 := by
  unfold State.confirm
  dsimp only
  repeat' split
  all_goals simp (maxDischargeDepth := 40) +contextual only [hk, kept_ite, kept_upd, kept_foldl, kept_foldr, implies_true, and_self, keptOut_next, keptOut_ite, keptOut_fault, keptOut_awake, State.put_kept]

theorem State.judge_kept {b0 : Before} (s : State) (n : Nat) (fresh : Bool) (fbNew : Int) (h : Kept b0 s) :
    Kept b0 (s.judge n fresh fbNew).2.2 := by
  unfold State.judge
  dsimp only
  split
  · simp (maxDischargeDepth := 40) only [h, State.incSat_kept, State.put_kept]
  · simp (maxDischargeDepth := 40) only [h, kept_ite, State.incSat_kept, State.put_kept, State.setSlot_kept, State.puti_kept, State.confirm_kept,
      State.freezeCheck_kept, implies_true, and_self]

theorem State.supvRecord_kept {b0 : Before} (s : State) (n det taken state configured dets : Nat) (hk : Kept b0 s) : Kept b0 (State.supvRecord s n det taken state configured dets) := by
  unfold State.supvRecord
  simp (maxDischargeDepth := 40) +contextual only [hk, kept_ite, kept_upd, kept_foldl, kept_foldr, implies_true, and_self, keptOut_next, keptOut_ite, keptOut_fault, keptOut_awake, State.postSev_kept]

theorem State.enterHold_kept {b0 : Before} (s : State) (n cause : Nat) (hk : Kept b0 s) : Kept b0 (State.enterHold s n cause) := by
  unfold State.enterHold
  simp (maxDischargeDepth := 40) +contextual only [hk, kept_ite, kept_upd, kept_foldl, kept_foldr, implies_true, and_self, keptOut_next, keptOut_ite, keptOut_fault, keptOut_awake, State.setSlotSt_kept, State.put_kept]

theorem State.takeAction_kept {b0 : Before} (s : State) (n code : Nat) (hk : Kept b0 s) : Kept b0 (State.takeAction s n code) := by
  unfold State.takeAction
  simp (maxDischargeDepth := 40) +contextual only [hk, kept_ite, kept_upd, kept_foldl, kept_foldr, implies_true, and_self, keptOut_next, keptOut_ite, keptOut_fault, keptOut_awake, State.abortInj_kept, State.enterHold_kept, State.slotFlags_kept, State.setSlotSt_kept, State.put_kept, State.setSlot_kept, State.puti_kept, State.refreshSv_kept]

theorem State.actOn_kept {b0 : Before} (s : State) (n dets : Nat) (hk : Kept b0 s) : Kept b0 (State.actOn s n dets) := by
  unfold State.actOn
  split <;> simp (maxDischargeDepth := 40) +contextual only [hk, kept_ite, kept_upd, kept_foldl, kept_foldr, implies_true, and_self, keptOut_next, keptOut_ite, keptOut_fault, keptOut_awake, State.slotFlags_kept, State.takeAction_kept, State.supvRecord_kept]

theorem State.expire_kept {b0 : Before} (s : State) (n dets : Nat) (hk : Kept b0 s) : Kept b0 (State.expire s n dets) := by
  unfold State.expire
  simp (maxDischargeDepth := 40) +contextual only [hk, kept_ite, kept_upd, kept_foldl, kept_foldr, implies_true, and_self, keptOut_next, keptOut_ite, keptOut_fault, keptOut_awake, State.setSlotSt_kept, State.setSlot_kept, State.supvRecord_kept, State.put_kept, State.slotFlags_kept]

theorem State.applyReq_kept {b0 : Before} (s : State) (n kind : Nat) (manual : Bool) (hk : Kept b0 s) : Kept b0 (State.applyReq s n kind manual) := by
  unfold State.applyReq
  split <;> simp (maxDischargeDepth := 40) +contextual only [hk, kept_ite, kept_upd, kept_foldl, kept_foldr, implies_true, and_self, keptOut_next, keptOut_ite, keptOut_fault, keptOut_awake, State.setSlotSt_kept, State.puti_kept, State.setSlot_kept, State.clearDue_kept]

theorem State.refreshModels_kept {b0 : Before} (s : State) (hk : Kept b0 s) : Kept b0 (State.refreshModels s) := by
  unfold State.refreshModels
  simp (maxDischargeDepth := 40) +contextual only [hk, kept_ite, kept_upd, kept_foldl, kept_foldr, implies_true, and_self, keptOut_next, keptOut_ite, keptOut_fault, keptOut_awake, State.put_kept]

theorem State.loadModel_kept {b0 : Before} (s : State) (b : Nat) (p : Pkt) (hk : Kept b0 s) : Kept b0 (State.loadModel s b p) := by
  unfold State.loadModel
  simp (maxDischargeDepth := 40) +contextual only [hk, kept_ite, kept_upd, kept_foldl, kept_foldr, implies_true, and_self, keptOut_next, keptOut_ite, keptOut_fault, keptOut_awake, State.setWord_kept]

theorem State.bindModel_kept {b0 : Before} (s : State) (n b : Nat) (hk : Kept b0 s) : Kept b0 (State.bindModel s n b) := by
  unfold State.bindModel
  simp (maxDischargeDepth := 40) +contextual only [hk, kept_ite, kept_upd, kept_foldl, kept_foldr, implies_true, and_self, keptOut_next, keptOut_ite, keptOut_fault, keptOut_awake, State.put_kept, State.setSlot_kept, State.refreshModels_kept]

theorem State.observerBind_kept {b0 : Before} (s : State) (p : Pkt) (hk : Kept b0 s) : Kept b0 (State.observerBind s p) := by
  unfold State.observerBind
  simp (maxDischargeDepth := 40) +contextual only [hk, kept_ite, kept_upd, kept_foldl, kept_foldr, implies_true, and_self, keptOut_next, keptOut_ite, keptOut_fault, keptOut_awake, State.loadModel_kept, State.bindModel_kept]

theorem State.reqEffect_kept {b0 : Before} (s : State) (n : Nat) (r : SlotReq) (hk : Kept b0 s) : Kept b0 (State.reqEffect s n r) := by
  unfold State.reqEffect
  split <;> simp (maxDischargeDepth := 40) +contextual only [hk, kept_ite, kept_upd, kept_foldl, kept_foldr, implies_true, and_self, keptOut_next, keptOut_ite, keptOut_fault, keptOut_awake, State.observerBind_kept, State.applyReq_kept]

theorem State.takeReq_kept {b0 : Before} (s : State) (n : Nat) (hk : Kept b0 s) : Kept b0 (State.takeReq s n) := by
  unfold State.takeReq
  split <;> simp (maxDischargeDepth := 40) +contextual only [hk, kept_ite, kept_upd, kept_foldl, kept_foldr, implies_true, and_self, keptOut_next, keptOut_ite, keptOut_fault, keptOut_awake, State.reqEffect_kept, State.setSlot_kept, State.refreshPend_kept, State.answerReq_kept]

theorem State.accum_kept {b0 : Before} (s : State) (f : Fld) (x : Int) (hk : Kept b0 s) : Kept b0 (State.accum s f x) := by
  unfold State.accum
  simp (maxDischargeDepth := 40) +contextual only [hk, kept_ite, kept_upd, kept_foldl, kept_foldr, implies_true, and_self, keptOut_next, keptOut_ite, keptOut_fault, keptOut_awake, State.puti64_kept]

theorem State.startPoint_kept {b0 : Before} (s : State) (i inc count : Nat) (hk : Kept b0 s) : Kept b0 (State.startPoint s i inc count) := by
  unfold State.startPoint
  simp (maxDischargeDepth := 40) +contextual only [hk, kept_ite, kept_upd, kept_foldl, kept_foldr, implies_true, and_self, keptOut_next, keptOut_ite, keptOut_fault, keptOut_awake, State.put_kept, State.put64_kept, State.setInj_kept]

theorem State.endPoint_kept {b0 : Before} (s : State) (i : Nat) (hk : Kept b0 s) : Kept b0 (State.endPoint s i) := by
  unfold State.endPoint
  dsimp only
  repeat' split
  all_goals simp (maxDischargeDepth := 40) +contextual only [hk, kept_ite, kept_upd, kept_foldl, kept_foldr, implies_true, and_self, keptOut_next, keptOut_ite, keptOut_fault, keptOut_awake, State.endInj_kept, State.setInj_kept, State.startPoint_kept]

theorem State.injMeasure_kept {b0 : Before} (s : State) (i : Nat) (y : Int) (sat : Bool) (hk : Kept b0 s) : Kept b0 (State.injMeasure s i y sat) := by
  unfold State.injMeasure
  simp (maxDischargeDepth := 40) +contextual only [hk, kept_ite, kept_upd, kept_foldl, kept_foldr, implies_true, and_self, keptOut_next, keptOut_ite, keptOut_fault, keptOut_awake, State.put64_kept, State.puti_kept, State.put_kept, State.setInj_kept, State.endInj_kept, State.accum_kept, State.incSat_kept, State.endPoint_kept]

theorem State.obsUpdate_kept {b0 : Before} (s : State) (n : Nat) (d : Dims) (u inn : Nat → Int) (h : Kept b0 s) :
    Kept b0 (s.obsUpdate n d u inn).1 := by
  unfold State.obsUpdate
  exact kept_foldl1 (fun t i ht => State.setWord_kept _ _ _ ht) h

theorem State.slotDuty_kept {b0 : Before} (s : State) (g f d late : Nat) (hk : Kept b0 s) : Kept b0 (State.slotDuty s g f d late) := by
  unfold State.slotDuty
  simp (maxDischargeDepth := 40) +contextual only [hk, kept_ite, kept_upd, kept_foldl, kept_foldr, implies_true, and_self, keptOut_next, keptOut_ite, keptOut_fault, keptOut_awake, State.shadowAt_kept]

theorem State.writeTarget_kept {b0 : Before} (s : State) (n ty sel : Nat) (u : Int) (late : Nat) (hk : Kept b0 s) : Kept b0 (State.writeTarget s n ty sel u late) := by
  unfold State.writeTarget
  split <;> simp (maxDischargeDepth := 40) +contextual only [hk, kept_ite, kept_upd, kept_foldl, kept_foldr, implies_true, and_self, keptOut_next, keptOut_ite, keptOut_fault, keptOut_awake, State.slotFlagIf_kept, State.slotDuty_kept, State.deliver_kept, State.slotFlags_kept, State.fresh_kept, State.puti_kept]

theorem State.writeOut_kept {b0 : Before} (s : State) (n : Nat) (u : Int) (late : Nat) (hk : Kept b0 s) : Kept b0 (State.writeOut s n u late) := by
  unfold State.writeOut
  simp (maxDischargeDepth := 40) +contextual only [hk, kept_ite, kept_upd, kept_foldl, kept_foldr, implies_true, and_self, keptOut_next, keptOut_ite, keptOut_fault, keptOut_awake, State.writeTarget_kept, State.lateSample_kept]

theorem State.obsDue_kept {b0 : Before} (s : State) (n : Nat) (h : Kept b0 s) : Kept b0 (s.obsDue n).2.2 := by
  unfold State.obsDue
  dsimp only
  repeat' split
  all_goals simp only [h, State.setSlot_kept]

theorem State.readY2_kept {b0 : Before} (s : State) (n : Nat) (live : Bool) (hk : Kept b0 s) : Kept b0 (State.readY2 s n live).2 := by
  unfold State.readY2
  split <;> simp (maxDischargeDepth := 40) +contextual only [hk, kept_ite, kept_upd, kept_foldl, kept_foldr, implies_true, and_self, keptOut_next, keptOut_ite, keptOut_fault, keptOut_awake, State.readFb_kept, State.fresh_kept, State.setSlot_kept]

theorem State.obsEval_kept {b0 : Before} (s : State) (n : Nat) (y : Nat → Int × Bool) (sp inj : Int) (late : Nat) (hk : Kept b0 s) : Kept b0 (State.obsEval s n y sp inj late).1 := by
  unfold State.obsEval
  dsimp only
  repeat' split
  all_goals simp (maxDischargeDepth := 40) +contextual only [hk, kept_ite, kept_upd, kept_foldl, kept_foldr, implies_true, and_self, keptOut_next, keptOut_ite, keptOut_fault, keptOut_awake, State.obsUpdate_kept, State.puti_kept, State.setSlot_kept, State.writeTarget_kept, State.lateSample_kept]

theorem State.obsTrack_kept {b0 : Before} (s : State) (n : Nat) (y : Nat → Int × Bool) (hk : Kept b0 s) : Kept b0 (State.obsTrack s n y) := by
  unfold State.obsTrack
  simp (maxDischargeDepth := 40) +contextual only [hk, kept_ite, kept_upd, kept_foldl, kept_foldr, implies_true, and_self, keptOut_next, keptOut_ite, keptOut_fault, keptOut_awake, State.obsDue_kept, State.lateSample_kept, State.obsUpdate_kept, State.slotFlags_kept]

theorem State.evalClosed_kept {b0 : Before} (s : State) (n : Nat) (e inj : Int) (hk : Kept b0 s) : Kept b0 (State.evalClosed s n e inj).1 := by
  unfold State.evalClosed
  simp (maxDischargeDepth := 40) +contextual only [hk, kept_ite, kept_upd, kept_foldl, kept_foldr, implies_true, and_self, keptOut_next, keptOut_ite, keptOut_fault, keptOut_awake, State.puti64_kept, State.puti_kept, State.setSlot_kept]

theorem State.evalOpen_kept {b0 : Before} (s : State) (n : Nat) (inj : Option Int) (hk : Kept b0 s) : Kept b0 (State.evalOpen s n inj).1 := by
  unfold State.evalOpen
  split <;> simp (maxDischargeDepth := 40) +contextual only [hk, kept_ite, kept_upd, kept_foldl, kept_foldr, implies_true, and_self, keptOut_next, keptOut_ite, keptOut_fault, keptOut_awake, State.puti_kept, State.setSlot_kept]

theorem State.evalSafe_kept {b0 : Before} (s : State) (n : Nat) (hk : Kept b0 s) : Kept b0 (State.evalSafe s n) := by
  unfold State.evalSafe
  simp (maxDischargeDepth := 40) +contextual only [hk, kept_ite, kept_upd, kept_foldl, kept_foldr, implies_true, and_self, keptOut_next, keptOut_ite, keptOut_fault, keptOut_awake, State.puti_kept, State.setSlot_kept]

theorem State.measure_kept {b0 : Before} (s : State) (n : Nat) (fb e : Int) (flags : Nat) (hk : Kept b0 s) : Kept b0 (State.measure s n fb e flags) := by
  unfold State.measure
  split <;> simp (maxDischargeDepth := 40) +contextual only [hk, kept_ite, kept_upd, kept_foldl, kept_foldr, implies_true, and_self, keptOut_next, keptOut_ite, keptOut_fault, keptOut_awake, State.injMeasure_kept]

theorem State.evaluate_kept {b0 : Before} (s : State) (n : Nat) (live fresh : Bool) (late : Nat) (fb fb64 : Int) (y2 : Int × Bool) (hk : Kept b0 s) : Kept b0 (State.evaluate s n live fresh late fb fb64 y2) := by
  unfold State.evaluate
  dsimp only
  repeat' split
  all_goals simp (maxDischargeDepth := 40) +contextual only [hk, kept_ite, kept_upd, kept_foldl, kept_foldr, implies_true, and_self, keptOut_next, keptOut_ite, keptOut_fault, keptOut_awake, State.setPoint_kept, State.setSlot_kept, State.puti_kept, State.evalClosed_kept, State.slotFlags_kept, State.writeOut_kept, State.obsTrack_kept, State.measure_kept, State.obsDue_kept, State.obsEval_kept, State.lateSample_kept, State.evalOpen_kept, State.evalSafe_kept]

theorem State.feedback_kept {b0 : Before} (s : State) (n : Nat) (live stale : Bool) (h : Kept b0 s) :
    Kept b0 (s.feedback n live stale).2 := by
  unfold State.feedback
  dsimp only
  simp only [h, State.setSlot_kept, State.readFb_kept]

theorem State.hpHold_kept {b0 : Before} (s : State) (n : Nat) (hk : Kept b0 s) : Kept b0 (State.hpHold s n) := by
  unfold State.hpHold
  simp (maxDischargeDepth := 40) +contextual only [hk, kept_ite, kept_upd, kept_foldl, kept_foldr, implies_true, and_self, keptOut_next, keptOut_ite, keptOut_fault, keptOut_awake, State.setSlot_kept, State.abortInj_kept, State.enterHold_kept]

theorem State.noteSample_kept {b0 : Before} (s : State) (n : Nat) (hk : Kept b0 s) : Kept b0 (State.noteSample s n) := by
  unfold State.noteSample
  simp (maxDischargeDepth := 40) +contextual only [hk, kept_ite, kept_upd, kept_foldl, kept_foldr, implies_true, and_self, keptOut_next, keptOut_ite, keptOut_fault, keptOut_awake, State.setSlot_kept]

theorem State.readInputs_kept {b0 : Before} (s : State) (n : Nat) (live : Bool) (hk : Kept b0 s) : Kept b0 (State.readInputs s n live).2 := by
  unfold State.readInputs
  simp (maxDischargeDepth := 40) +contextual only [hk, kept_ite, kept_upd, kept_foldl, kept_foldr, implies_true, and_self, keptOut_next, keptOut_ite, keptOut_fault, keptOut_awake, State.feedback_kept, State.readY2_kept, State.noteSample_kept]

theorem State.detect_kept {b0 : Before} (s : State) (n : Nat) (x : SampleIn) (hk : Kept b0 s) : Kept b0 (State.detect s n x).2.2 := by
  unfold State.detect
  simp (maxDischargeDepth := 40) +contextual only [hk, kept_ite, kept_upd, kept_foldl, kept_foldr, implies_true, and_self, keptOut_next, keptOut_ite, keptOut_fault, keptOut_awake, State.judge_kept, State.fresh_kept, State.setSlot_kept, State.put_kept, State.slotFlags_kept]

theorem State.safeNow_kept {b0 : Before} (s : State) (n : Nat) (hk : Kept b0 s) : Kept b0 (State.safeNow s n) := by
  unfold State.safeNow
  simp (maxDischargeDepth := 40) +contextual only [hk, kept_ite, kept_upd, kept_foldl, kept_foldr, implies_true, and_self, keptOut_next, keptOut_ite, keptOut_fault, keptOut_awake, State.setSlotSt_kept, State.puti_kept, State.writeTarget_kept, State.setSlot_kept, State.refreshPend_kept, State.answerReq_kept]

theorem State.safeAt_kept {b0 : Before} (n : Nat) (s : State) (e : Nat × Nat × Pkt) (hk : Kept b0 s) : Kept b0 (State.safeAt n s e) := by
  unfold State.safeAt
  simp (maxDischargeDepth := 40) +contextual only [hk, kept_ite, kept_upd, kept_foldl, kept_foldr, implies_true, and_self, keptOut_next, keptOut_ite, keptOut_fault, keptOut_awake, State.doneAt_kept, State.setSlot_kept, State.safeNow_kept, State.refreshPend_kept]

theorem State.takeSafes_kept {b0 : Before} (s : State) (n : Nat) (hk : Kept b0 s) : Kept b0 (State.takeSafes s n) := by
  unfold State.takeSafes
  simp (maxDischargeDepth := 40) +contextual only [hk, kept_ite, kept_upd, kept_foldl, kept_foldr, implies_true, and_self, keptOut_next, keptOut_ite, keptOut_fault, keptOut_awake, State.safeAt_kept, State.setSlot_kept]

theorem State.sample_kept {b0 : Before} (s : State) (n late : Nat) (hk : Kept b0 s) : Kept b0 (State.sample s n late) := by
  unfold State.sample
  simp (maxDischargeDepth := 40) +contextual only [hk, kept_ite, kept_upd, kept_foldl, kept_foldr, implies_true, and_self, keptOut_next, keptOut_ite, keptOut_fault, keptOut_awake, State.put64_kept, State.readInputs_kept, State.setSlot_kept, State.takeSafes_kept, State.takeReq_kept, State.puti_kept, State.fresh_kept, State.detect_kept, State.actOn_kept, State.evaluate_kept, State.hpHold_kept, State.expire_kept]

theorem State.lifeSample_kept {b0 : Before} (s : State) (n late : Nat) (hk : Kept b0 s) : Kept b0 (State.lifeSample s n late) := by
  unfold State.lifeSample
  simp (maxDischargeDepth := 40) +contextual only [hk, kept_ite, kept_upd, kept_foldl, kept_foldr, implies_true, and_self, keptOut_next, keptOut_ite, keptOut_fault, keptOut_awake, State.lifeAdd64_kept, State.setWord_kept, State.setWords_kept]

theorem State.sampleLife_kept {b0 : Before} (s : State) (n late : Nat) (hk : Kept b0 s) : Kept b0 (State.sampleLife s n late) := by
  unfold State.sampleLife
  simp (maxDischargeDepth := 40) +contextual only [hk, kept_ite, kept_upd, kept_foldl, kept_foldr, implies_true, and_self, keptOut_next, keptOut_ite, keptOut_fault, keptOut_awake, State.sample_kept, State.lifeSample_kept]

theorem State.sampleAll_kept {b0 : Before} (s : State) (n late : Nat) (hk : Kept b0 s) : Kept b0 (State.sampleAll s n late) := by
  unfold State.sampleAll
  simp (maxDischargeDepth := 40) +contextual only [hk, kept_ite, kept_upd, kept_foldl, kept_foldr, implies_true, and_self, keptOut_next, keptOut_ite, keptOut_fault, keptOut_awake, State.sampleLife_kept, State.redig_kept, State.seedSlot_kept]

theorem execSlotSample_kept {b0 : Before} (n late : Nat) (s : State) (hk : Kept b0 s) : KeptOut b0 (execSlotSample n late s) := by
  unfold execSlotSample
  simp (maxDischargeDepth := 40) +contextual only [hk, kept_ite, kept_upd, kept_foldl, kept_foldr, implies_true, and_self, keptOut_next, keptOut_ite, keptOut_fault, keptOut_awake, State.sampleAll_kept]

theorem execFbTmoExpiry_kept {b0 : Before} (n : Nat) (s : State) (hk : Kept b0 s) : KeptOut b0 (execFbTmoExpiry n s) := by
  unfold execFbTmoExpiry
  simp (maxDischargeDepth := 40) +contextual only [hk, kept_ite, kept_upd, kept_foldl, kept_foldr, implies_true, and_self, keptOut_next, keptOut_ite, keptOut_fault, keptOut_awake, State.advanceTick_kept, State.tickSlot_kept]

theorem execSlotRequestTimeout_kept {b0 : Before} (n i : Nat) (s : State) (hk : Kept b0 s) : KeptOut b0 (execSlotRequestTimeout n i s) := by
  unfold execSlotRequestTimeout
  split <;> simp (maxDischargeDepth := 40) +contextual only [hk, kept_ite, kept_upd, kept_foldl, kept_foldr, implies_true, and_self, keptOut_next, keptOut_ite, keptOut_fault, keptOut_awake, State.advanceTo_kept, State.setSlot_kept, State.refreshPend_kept, State.answerReq_kept]

theorem execSnapshotTick_kept {b0 : Before} (s : State) (hk : Kept b0 s) : KeptOut b0 (execSnapshotTick s) := by
  unfold execSnapshotTick
  simp (maxDischargeDepth := 40) +contextual only [hk, kept_ite, kept_upd, kept_foldl, kept_foldr, implies_true, and_self, keptOut_next, keptOut_ite, keptOut_fault, keptOut_awake, State.advanceTo_kept, State.takeSnap_kept]

theorem State.queueReq_kept {b0 : Before} (s : State) (n : Nat) (r : SlotReq) (hk : Kept b0 s) : Kept b0 (State.queueReq s n r) := by
  unfold State.queueReq
  simp (maxDischargeDepth := 40) +contextual only [hk, kept_ite, kept_upd, kept_foldl, kept_foldr, implies_true, and_self, keptOut_next, keptOut_ite, keptOut_fault, keptOut_awake, State.setSlot_kept, State.refreshPend_kept]

theorem State.slotReqWrite_kept {b0 : Before} (s : State) (n kind : Nat) (hk : Kept b0 s) : Kept b0 (State.slotReqWrite s n kind) := by
  unfold State.slotReqWrite
  simp (maxDischargeDepth := 40) +contextual only [hk, kept_ite, kept_upd, kept_foldl, kept_foldr, implies_true, and_self, keptOut_next, keptOut_ite, keptOut_fault, keptOut_awake, State.slotFlags_kept, State.safeNow_kept, State.reject_kept, State.queueReq_kept]

theorem execSlotReqOpen_kept {b0 : Before} (n : Nat) (s : State) (hk : Kept b0 s) : KeptOut b0 (execSlotReqOpen n s) := by
  unfold execSlotReqOpen
  simp (maxDischargeDepth := 40) +contextual only [hk, kept_ite, kept_upd, kept_foldl, kept_foldr, implies_true, and_self, keptOut_next, keptOut_ite, keptOut_fault, keptOut_awake, State.slotReqWrite_kept]

theorem execSlotReqClose_kept {b0 : Before} (n : Nat) (s : State) (hk : Kept b0 s) : KeptOut b0 (execSlotReqClose n s) := by
  unfold execSlotReqClose
  simp (maxDischargeDepth := 40) +contextual only [hk, kept_ite, kept_upd, kept_foldl, kept_foldr, implies_true, and_self, keptOut_next, keptOut_ite, keptOut_fault, keptOut_awake, State.slotReqWrite_kept]

theorem execSlotReqObserver_kept {b0 : Before} (n : Nat) (s : State) (hk : Kept b0 s) : KeptOut b0 (execSlotReqObserver n s) := by
  unfold execSlotReqObserver
  simp (maxDischargeDepth := 40) +contextual only [hk, kept_ite, kept_upd, kept_foldl, kept_foldr, implies_true, and_self, keptOut_next, keptOut_ite, keptOut_fault, keptOut_awake, State.slotReqWrite_kept]

theorem execSlotReqSafe_kept {b0 : Before} (n : Nat) (s : State) (hk : Kept b0 s) : KeptOut b0 (execSlotReqSafe n s) := by
  unfold execSlotReqSafe
  simp (maxDischargeDepth := 40) +contextual only [hk, kept_ite, kept_upd, kept_foldl, kept_foldr, implies_true, and_self, keptOut_next, keptOut_ite, keptOut_fault, keptOut_awake, State.slotReqWrite_kept]

theorem execSlotReqRelease_kept {b0 : Before} (n : Nat) (s : State) (hk : Kept b0 s) : KeptOut b0 (execSlotReqRelease n s) := by
  unfold execSlotReqRelease
  simp (maxDischargeDepth := 40) +contextual only [hk, kept_ite, kept_upd, kept_foldl, kept_foldr, implies_true, and_self, keptOut_next, keptOut_ite, keptOut_fault, keptOut_awake, State.slotReqWrite_kept]

theorem State.startInj_kept {b0 : Before} (s : State) (i : Nat) (e : InjInt) (hk : Kept b0 s) : Kept b0 (State.startInj s i e) := by
  unfold State.startInj
  simp (maxDischargeDepth := 40) +contextual only [hk, kept_ite, kept_upd, kept_foldl, kept_foldr, implies_true, and_self, keptOut_next, keptOut_ite, keptOut_fault, keptOut_awake, State.setWord_kept, State.put_kept, State.put64_kept, State.setInj_kept]

theorem execInjGo_kept {b0 : Before} (i : Nat) (s : State) (hk : Kept b0 s) : KeptOut b0 (execInjGo i s) := by
  unfold execInjGo
  simp (maxDischargeDepth := 40) +contextual only [hk, kept_ite, kept_upd, kept_foldl, kept_foldr, implies_true, and_self, keptOut_next, keptOut_ite, keptOut_fault, keptOut_awake, State.reject_kept, State.startInj_kept]

theorem State.commitLoop_kept {b0 : Before} (s : State) (n : Nat) (hk : Kept b0 s) : Kept b0 (State.commitLoop s n) := by
  unfold State.commitLoop
  simp (maxDischargeDepth := 40) +contextual only [hk, kept_ite, kept_upd, kept_foldl, kept_foldr, implies_true, and_self, keptOut_next, keptOut_ite, keptOut_fault, keptOut_awake, State.slotFlags_kept, State.endCommit_kept, State.activateAll_kept]

theorem execLoopConfig_kept {b0 : Before} (p : Pkt) (s : State) (hk : Kept b0 s) : KeptOut b0 (execLoopConfig p s) := by
  unfold execLoopConfig
  simp (maxDischargeDepth := 40) +contextual only [hk, kept_ite, kept_upd, kept_foldl, kept_foldr, implies_true, and_self, keptOut_next, keptOut_ite, keptOut_fault, keptOut_awake, State.command_kept, State.abortInj_kept, State.setWord_kept, State.setSlot_kept, State.refreshModels_kept, State.put_kept, State.askCommit_kept, State.commitLoop_kept]

theorem State.reqCommand_kept {b0 : Before} (s : State) (p : Pkt) (op kind mask : Nat) (manual : Bool) (hk : Kept b0 s) : Kept b0 (State.reqCommand s p op kind mask manual) := by
  unfold State.reqCommand
  simp (maxDischargeDepth := 40) +contextual only [hk, kept_ite, kept_upd, kept_foldl, kept_foldr, implies_true, and_self, keptOut_next, keptOut_ite, keptOut_fault, keptOut_awake, State.command_kept, State.queueReq_kept]

theorem execLoopOpen_kept {b0 : Before} (p : Pkt) (s : State) (hk : Kept b0 s) : KeptOut b0 (execLoopOpen p s) := by
  unfold execLoopOpen
  simp (maxDischargeDepth := 40) +contextual only [hk, kept_ite, kept_upd, kept_foldl, kept_foldr, implies_true, and_self, keptOut_next, keptOut_ite, keptOut_fault, keptOut_awake, State.reqCommand_kept]

theorem execLoopClose_kept {b0 : Before} (p : Pkt) (s : State) (hk : Kept b0 s) : KeptOut b0 (execLoopClose p s) := by
  unfold execLoopClose
  simp (maxDischargeDepth := 40) +contextual only [hk, kept_ite, kept_upd, kept_foldl, kept_foldr, implies_true, and_self, keptOut_next, keptOut_ite, keptOut_fault, keptOut_awake, State.reqCommand_kept]

theorem execLoopRelease_kept {b0 : Before} (p : Pkt) (s : State) (hk : Kept b0 s) : KeptOut b0 (execLoopRelease p s) := by
  unfold execLoopRelease
  simp (maxDischargeDepth := 40) +contextual only [hk, kept_ite, kept_upd, kept_foldl, kept_foldr, implies_true, and_self, keptOut_next, keptOut_ite, keptOut_fault, keptOut_awake, State.command_kept, State.abortInj_kept, State.queueReq_kept]

theorem execLoopCoefWrite_kept {b0 : Before} (p : Pkt) (s : State) (hk : Kept b0 s) : KeptOut b0 (execLoopCoefWrite p s) := by
  unfold execLoopCoefWrite
  simp (maxDischargeDepth := 40) +contextual only [hk, kept_ite, kept_upd, kept_foldl, kept_foldr, implies_true, and_self, keptOut_next, keptOut_ite, keptOut_fault, keptOut_awake, State.command_kept, State.abortInj_kept, State.setWord_kept, State.put_kept, State.done_kept]

theorem execLoopSetpoint_kept {b0 : Before} (p : Pkt) (s : State) (hk : Kept b0 s) : KeptOut b0 (execLoopSetpoint p s) := by
  unfold execLoopSetpoint
  simp (maxDischargeDepth := 40) +contextual only [hk, kept_ite, kept_upd, kept_foldl, kept_foldr, implies_true, and_self, keptOut_next, keptOut_ite, keptOut_fault, keptOut_awake, State.command_kept, State.put_kept, State.done_kept]

theorem execLoopManual_kept {b0 : Before} (p : Pkt) (s : State) (hk : Kept b0 s) : KeptOut b0 (execLoopManual p s) := by
  unfold execLoopManual
  simp (maxDischargeDepth := 40) +contextual only [hk, kept_ite, kept_upd, kept_foldl, kept_foldr, implies_true, and_self, keptOut_next, keptOut_ite, keptOut_fault, keptOut_awake, State.command_kept, State.puti_kept, State.setSlot_kept, State.done_kept]

theorem execLoopRead_kept {b0 : Before} (p : Pkt) (s : State) (hk : Kept b0 s) : KeptOut b0 (execLoopRead p s) := by
  unfold execLoopRead
  simp (maxDischargeDepth := 40) +contextual only [hk, kept_ite, kept_upd, kept_foldl, kept_foldr, implies_true, and_self, keptOut_next, keptOut_ite, keptOut_fault, keptOut_awake, State.command_kept, State.doneRes_kept]

theorem execLoopObserver_kept {b0 : Before} (p : Pkt) (s : State) (hk : Kept b0 s) : KeptOut b0 (execLoopObserver p s) := by
  unfold execLoopObserver
  simp (maxDischargeDepth := 40) +contextual only [hk, kept_ite, kept_upd, kept_foldl, kept_foldr, implies_true, and_self, keptOut_next, keptOut_ite, keptOut_fault, keptOut_awake, State.command_kept, State.observerBind_kept, State.done_kept, State.queueReq_kept]

theorem execLoopSafe_kept {b0 : Before} (p : Pkt) (s : State) (hk : Kept b0 s) : KeptOut b0 (execLoopSafe p s) := by
  unfold execLoopSafe
  rw [keptOut_next]
  refine State.command_kept s p _ _ _ (fun t ht => ?_) hk
  try dsimp only
  repeat' split
  all_goals simp (maxDischargeDepth := 40) +contextual only [ht, kept_ite, kept_upd, kept_foldl, kept_foldr, implies_true, and_self, keptOut_next, keptOut_ite, keptOut_fault, keptOut_awake, State.command_kept, State.setSlot_kept, State.safeNow_kept, State.done_kept]

theorem execLoopSupervise_kept {b0 : Before} (p : Pkt) (s : State) (hk : Kept b0 s) : KeptOut b0 (execLoopSupervise p s) := by
  unfold execLoopSupervise
  simp (maxDischargeDepth := 40) +contextual only [hk, kept_ite, kept_upd, kept_foldl, kept_foldr, implies_true, and_self, keptOut_next, keptOut_ite, keptOut_fault, keptOut_awake, State.command_kept, State.abortInj_kept, State.setWord_kept, State.refreshSv_kept, State.done_kept]

theorem State.injCommand_kept {b0 : Before} (s : State) (p : Pkt) (op mode : Nat) (bad : Bool) (start : State → Nat → State)
    (hs : ∀ t i, Kept b0 t → Kept b0 (start t i)) (h : Kept b0 s) : Kept b0 (s.injCommand p op mode bad start) := by
  unfold State.injCommand
  refine State.command_kept s p op _ _ (fun t ht => ?_) h
  dsimp only
  split
  · exact State.done_kept _ _ _ (State.abortInj_kept _ _ _ ht)
  · split
    · exact ht
    · apply hs
      simp (maxDischargeDepth := 40) only [ht, State.put_kept, State.accept_kept]

theorem execLoopStep_kept {b0 : Before} (p : Pkt) (s : State) (hk : Kept b0 s) : KeptOut b0 (execLoopStep p s) := by
  unfold execLoopStep
  simp (maxDischargeDepth := 40) +contextual only [hk, kept_ite, kept_upd, kept_foldl, kept_foldr, implies_true, and_self, keptOut_next, keptOut_ite, keptOut_fault, keptOut_awake, State.injCommand_kept, State.put_kept, State.startInj_kept]

theorem execLoopSweep_kept {b0 : Before} (p : Pkt) (s : State) (hk : Kept b0 s) : KeptOut b0 (execLoopSweep p s) := by
  unfold execLoopSweep
  simp (maxDischargeDepth := 40) +contextual only [hk, kept_ite, kept_upd, kept_foldl, kept_foldr, implies_true, and_self, keptOut_next, keptOut_ite, keptOut_fault, keptOut_awake, State.injCommand_kept, State.put_kept, State.startInj_kept, State.startPoint_kept]

theorem State.stickyClear_kept {b0 : Before} (s : State) (n m : Nat) (hk : Kept b0 s) : Kept b0 (State.stickyClear s n m) := by
  unfold State.stickyClear
  simp (maxDischargeDepth := 40) +contextual only [hk, kept_ite, kept_upd, kept_foldl, kept_foldr, implies_true, and_self, keptOut_next, keptOut_ite, keptOut_fault, keptOut_awake, State.setWord_kept, State.refreshSum_kept, State.refreshSv_kept]

theorem execLoopStickyClear_kept {b0 : Before} (p : Pkt) (s : State) (hk : Kept b0 s) : KeptOut b0 (execLoopStickyClear p s) := by
  unfold execLoopStickyClear
  simp (maxDischargeDepth := 40) +contextual only [hk, kept_ite, kept_upd, kept_foldl, kept_foldr, implies_true, and_self, keptOut_next, keptOut_ite, keptOut_fault, keptOut_awake, State.command_kept, State.stickyClear_kept, State.done_kept]

theorem State.setCore_kept {b0 : Before} (s : State) (c : Nat) (v : AdcCore) (hk : Kept b0 s) : Kept b0 (State.setCore s c v) := by
  unfold State.setCore
  simp (maxDischargeDepth := 40) +contextual only [hk, kept_ite, kept_upd, kept_foldl, kept_foldr, implies_true, and_self, keptOut_next, keptOut_ite, keptOut_fault, keptOut_awake]

theorem State.setBit_kept {b0 : Before} (s : State) (f : Fld) (n : Nat) (b : Bool) (hk : Kept b0 s) : Kept b0 (State.setBit s f n b) := by
  unfold State.setBit
  simp (maxDischargeDepth := 40) +contextual only [hk, kept_ite, kept_upd, kept_foldl, kept_foldr, implies_true, and_self, keptOut_next, keptOut_ite, keptOut_fault, keptOut_awake, State.put_kept]

theorem State.setMissed_kept {b0 : Before} (s : State) (g c : Nat) (b : Bool) (hk : Kept b0 s) : Kept b0 (State.setMissed s g c b) := by
  unfold State.setMissed
  simp (maxDischargeDepth := 40) +contextual only [hk, kept_ite, kept_upd, kept_foldl, kept_foldr, implies_true, and_self, keptOut_next, keptOut_ite, keptOut_fault, keptOut_awake, State.setGen_kept]

theorem State.passAcq_kept {b0 : Before} (s : State) (c : Nat) (hk : Kept b0 s) : Kept b0 (State.passAcq s c) := by
  unfold State.passAcq
  simp (maxDischargeDepth := 40) +contextual only [hk, kept_ite, kept_upd, kept_foldl, kept_foldr, implies_true, and_self, keptOut_next, keptOut_ite, keptOut_fault, keptOut_awake, State.setMissed_kept]

theorem State.commitAdc_kept {b0 : Before} (s : State) (c t : Nat) (hk : Kept b0 s) : Kept b0 (State.commitAdc s c t) := by
  unfold State.commitAdc
  simp (maxDischargeDepth := 40) +contextual only [hk, kept_ite, kept_upd, kept_foldl, kept_foldr, implies_true, and_self, keptOut_next, keptOut_ite, keptOut_fault, keptOut_awake, State.activateAll_kept, State.endCommit_kept, State.passAcq_kept]

theorem State.startPass_kept {b0 : Before} (s : State) (c edge h0 : Nat) (hk : Kept b0 s) : Kept b0 (State.startPass s c edge h0) := by
  unfold State.startPass
  simp (maxDischargeDepth := 40) +contextual only [hk, kept_ite, kept_upd, kept_foldl, kept_foldr, implies_true, and_self, keptOut_next, keptOut_ite, keptOut_fault, keptOut_awake, State.setCore_kept, State.put_kept]

theorem State.loseTrigger_kept {b0 : Before} (s : State) (c : Nat) (hk : Kept b0 s) : Kept b0 (State.loseTrigger s c) := by
  unfold State.loseTrigger
  simp (maxDischargeDepth := 40) +contextual only [hk, kept_ite, kept_upd, kept_foldl, kept_foldr, implies_true, and_self, keptOut_next, keptOut_ite, keptOut_fault, keptOut_awake, State.incSat_kept, State.raise_kept, State.setCore_kept]

theorem State.adcTriggerAt_kept {b0 : Before} (s : State) (c bit edge h0 : Nat) (hk : Kept b0 s) : Kept b0 (State.adcTriggerAt s c bit edge h0) := by
  unfold State.adcTriggerAt
  dsimp only
  repeat' split
  all_goals simp (maxDischargeDepth := 40) +contextual only [hk, kept_ite, kept_upd, kept_foldl, kept_foldr, implies_true, and_self, keptOut_next, keptOut_ite, keptOut_fault, keptOut_awake, State.startPass_kept, State.setCore_kept, State.loseTrigger_kept]

theorem State.acqDue_kept {b0 : Before} (s : State) (c k : Nat) (hk : Kept b0 s) : Kept b0 (State.acqDue s c k) := by
  unfold State.acqDue
  simp (maxDischargeDepth := 40) +contextual only [hk, kept_ite, kept_upd, kept_foldl, kept_foldr, implies_true, and_self, keptOut_next, keptOut_ite, keptOut_fault, keptOut_awake, State.adcTriggerAt_kept, State.setMissed_kept]

theorem State.acqNow_kept {b0 : Before} (s : State) (c : Nat) (hk : Kept b0 s) : Kept b0 (State.acqNow s c) := by
  unfold State.acqNow
  simp (maxDischargeDepth := 40) +contextual only [hk, kept_ite, kept_upd, kept_foldl, kept_foldr, implies_true, and_self, keptOut_next, keptOut_ite, keptOut_fault, keptOut_awake, State.acqDue_kept]

theorem State.adcTrigger_kept {b0 : Before} (s : State) (c bit : Nat) (hk : Kept b0 s) : Kept b0 (State.adcTrigger s c bit) := by
  unfold State.adcTrigger
  simp (maxDischargeDepth := 40) +contextual only [hk, kept_ite, kept_upd, kept_foldl, kept_foldr, implies_true, and_self, keptOut_next, keptOut_ite, keptOut_fault, keptOut_awake, State.acqNow_kept, State.adcTriggerAt_kept]

theorem State.heldTrigger_kept {b0 : Before} (s : State) (c : Nat) (hk : Kept b0 s) : Kept b0 (State.heldTrigger s c) := by
  unfold State.heldTrigger
  split <;> simp (maxDischargeDepth := 40) +contextual only [hk, kept_ite, kept_upd, kept_foldl, kept_foldr, implies_true, and_self, keptOut_next, keptOut_ite, keptOut_fault, keptOut_awake, State.startPass_kept]

theorem State.adcTriggers_kept {b0 : Before} (s : State) (mask bit : Nat) (hk : Kept b0 s) : Kept b0 (State.adcTriggers s mask bit) := by
  unfold State.adcTriggers
  simp (maxDischargeDepth := 40) +contextual only [hk, kept_ite, kept_upd, kept_foldl, kept_foldr, implies_true, and_self, keptOut_next, keptOut_ite, keptOut_fault, keptOut_awake, State.adcTrigger_kept]

theorem execAdcSwtrigWrite_kept {b0 : Before} (v : Word) (s : State) (hk : Kept b0 s) : KeptOut b0 (execAdcSwtrigWrite v s) := by
  unfold execAdcSwtrigWrite
  simp (maxDischargeDepth := 40) +contextual only [hk, kept_ite, kept_upd, kept_foldl, kept_foldr, implies_true, and_self, keptOut_next, keptOut_ite, keptOut_fault, keptOut_awake, State.adcTriggers_kept]

theorem State.setWin_kept {b0 : Before} (s : State) (c k : Nat) (b : Bool) (hk : Kept b0 s) : Kept b0 (State.setWin s c k b) := by
  unfold State.setWin
  simp (maxDischargeDepth := 40) +contextual only [hk, kept_ite, kept_upd, kept_foldl, kept_foldr, implies_true, and_self, keptOut_next, keptOut_ite, keptOut_fault, keptOut_awake, State.put_kept, State.winLine_kept]

theorem State.winRun_kept {b0 : Before} (s : State) (c k : Nat) (hit : Bool) (hk : Kept b0 s) : Kept b0 (State.winRun s c k hit) := by
  unfold State.winRun
  simp (maxDischargeDepth := 40) +contextual only [hk, kept_ite, kept_upd, kept_foldl, kept_foldr, implies_true, and_self, keptOut_next, keptOut_ite, keptOut_fault, keptOut_awake, State.setCore_kept, State.setWin_kept, State.setBit_kept]

theorem State.winCtrlWrite_kept {b0 : Before} (s : State) (c k v : Nat) (hk : Kept b0 s) : Kept b0 (State.winCtrlWrite s c k v) := by
  unfold State.winCtrlWrite
  simp (maxDischargeDepth := 40) +contextual only [hk, kept_ite, kept_upd, kept_foldl, kept_foldr, implies_true, and_self, keptOut_next, keptOut_ite, keptOut_fault, keptOut_awake, State.setWord_kept, State.setCore_kept, State.winRun_kept, State.setWin_kept]

theorem State.fifoPush_kept {b0 : Before} (s : State) (c w ts : Nat) (hk : Kept b0 s) : Kept b0 (State.fifoPush s c w ts) := by
  unfold State.fifoPush
  simp (maxDischargeDepth := 40) +contextual only [hk, kept_ite, kept_upd, kept_foldl, kept_foldr, implies_true, and_self, keptOut_next, keptOut_ite, keptOut_fault, keptOut_awake, State.incSat_kept, State.raise_kept, State.setCore_kept, State.put_kept]

theorem State.feedSlots_kept {b0 : Before} (s : State) (c k : Nat) (hk : Kept b0 s) : Kept b0 (State.feedSlots s c k) := by
  unfold State.feedSlots
  simp (maxDischargeDepth := 40) +contextual only [hk, kept_ite, kept_upd, kept_foldl, kept_foldr, implies_true, and_self, keptOut_next, keptOut_ite, keptOut_fault, keptOut_awake, State.tickSlot_kept]

theorem State.adcDeliver_kept {b0 : Before} (s : State) (c k w ts : Nat) (hk : Kept b0 s) : Kept b0 (State.adcDeliver s c k w ts) := by
  unfold State.adcDeliver
  simp (maxDischargeDepth := 40) +contextual only [hk, kept_ite, kept_upd, kept_foldl, kept_foldr, implies_true, and_self, keptOut_next, keptOut_ite, keptOut_fault, keptOut_awake, State.setCore_kept, State.feedSlots_kept]

theorem State.adcReadRes_kept {b0 : Before} (s : State) (c : Nat) (fifo lost : Bool) (maxN : Nat) (hk : Kept b0 s) : Kept b0 (State.adcReadRes s c fifo lost maxN).2 := by
  unfold State.adcReadRes
  dsimp only
  repeat' split
  all_goals simp (maxDischargeDepth := 40) +contextual only [hk, kept_ite, kept_upd, kept_foldl, kept_foldr, implies_true, and_self, keptOut_next, keptOut_ite, keptOut_fault, keptOut_awake, State.setCore_kept, State.put_kept, State.put64_kept]

theorem State.answerRead_kept {b0 : Before} (s : State) (p : Pkt) (lost : Bool) (hk : Kept b0 s) : Kept b0 (State.answerRead s p lost) := by
  unfold State.answerRead
  simp (maxDischargeDepth := 40) +contextual only [hk, kept_ite, kept_upd, kept_foldl, kept_foldr, implies_true, and_self, keptOut_next, keptOut_ite, keptOut_fault, keptOut_awake, State.adcReadRes_kept, State.doneRes_kept]

theorem State.answerReads_kept {b0 : Before} (s : State) (c : Nat) (hk : Kept b0 s) : Kept b0 (State.answerReads s c) := by
  unfold State.answerReads
  simp (maxDischargeDepth := 40) +contextual only [hk, kept_ite, kept_upd, kept_foldl, kept_foldr, implies_true, and_self, keptOut_next, keptOut_ite, keptOut_fault, keptOut_awake, State.answerRead_kept]

theorem State.holdFlags_kept {b0 : Before} (s : State) (c : Nat) (hk : Kept b0 s) : Kept b0 (State.holdFlags s c) := by
  unfold State.holdFlags
  simp (maxDischargeDepth := 40) +contextual only [hk, kept_ite, kept_upd, kept_foldl, kept_foldr, implies_true, and_self, keptOut_next, keptOut_ite, keptOut_fault, keptOut_awake, State.setCore_kept]

theorem State.holdAllFlags_kept {b0 : Before} (s : State) (hk : Kept b0 s) : Kept b0 (State.holdAllFlags s) := by
  unfold State.holdAllFlags
  simp (maxDischargeDepth := 40) +contextual only [hk, kept_ite, kept_upd, kept_foldl, kept_foldr, implies_true, and_self, keptOut_next, keptOut_ite, keptOut_fault, keptOut_awake, State.acqNow_kept, State.holdFlags_kept]

theorem State.setRef_kept {b0 : Before} (s0 : State) (sel : Nat) (hk : Kept b0 s0) : Kept b0 (State.setRef s0 sel) := by
  unfold State.setRef
  simp (maxDischargeDepth := 40) +contextual only [hk, kept_ite, kept_upd, kept_foldl, kept_foldr, implies_true, and_self, keptOut_next, keptOut_ite, keptOut_fault, keptOut_awake, State.holdAllFlags_kept, State.put_kept]

theorem State.armWrite_kept {b0 : Before} (s0 : State) (c : Nat) (b : Bool) (hk : Kept b0 s0) : Kept b0 (State.armWrite s0 c b) := by
  unfold State.armWrite
  simp (maxDischargeDepth := 40) +contextual only [hk, kept_ite, kept_upd, kept_foldl, kept_foldr, implies_true, and_self, keptOut_next, keptOut_ite, keptOut_fault, keptOut_awake, State.acqNow_kept, State.put_kept, State.reject_kept, State.passAcq_kept]

theorem State.trigWrite_kept {b0 : Before} (s : State) (c v : Nat) (hk : Kept b0 s) : Kept b0 (State.trigWrite s c v) := by
  unfold State.trigWrite
  simp (maxDischargeDepth := 40) +contextual only [hk, kept_ite, kept_upd, kept_foldl, kept_foldr, implies_true, and_self, keptOut_next, keptOut_ite, keptOut_fault, keptOut_awake, State.lockReject_kept, State.reject_kept, State.put_kept]

theorem State.cfgCore_kept {b0 : Before} (s : State) (p : Pkt) (c : Nat) (hk : Kept b0 s) : Kept b0 (State.cfgCore s p c) := by
  unfold State.cfgCore
  simp (maxDischargeDepth := 40) +contextual only [hk, kept_ite, kept_upd, kept_foldl, kept_foldr, implies_true, and_self, keptOut_next, keptOut_ite, keptOut_fault, keptOut_awake, State.trigWrite_kept, State.put_kept, State.setWord_kept, State.winCtrlWrite_kept]

theorem State.refWrite_kept {b0 : Before} (s : State) (sel : Nat) (hk : Kept b0 s) : Kept b0 (State.refWrite s sel) := by
  unfold State.refWrite
  simp (maxDischargeDepth := 40) +contextual only [hk, kept_ite, kept_upd, kept_foldl, kept_foldr, implies_true, and_self, keptOut_next, keptOut_ite, keptOut_fault, keptOut_awake, State.reject_kept, State.setRef_kept]

theorem State.cfgFinish_kept {b0 : Before} (s : State) (p : Pkt) (hk : Kept b0 s) : Kept b0 (State.cfgFinish s p) := by
  unfold State.cfgFinish
  simp (maxDischargeDepth := 40) +contextual only [hk, kept_ite, kept_upd, kept_foldl, kept_foldr, implies_true, and_self, keptOut_next, keptOut_ite, keptOut_fault, keptOut_awake, State.refWrite_kept, State.cfgCore_kept, State.armWrite_kept, State.done_kept]

theorem State.cfgCheck_kept {b0 : Before} (s : State) (hk : Kept b0 s) : Kept b0 (State.cfgCheck s) := by
  unfold State.cfgCheck
  simp (maxDischargeDepth := 40) +contextual only [hk, kept_ite, kept_upd, kept_foldl, kept_foldr, implies_true, and_self, keptOut_next, keptOut_ite, keptOut_fault, keptOut_awake, State.cfgFinish_kept]

theorem State.endPass_kept {b0 : Before} (s0 : State) (c : Nat) (hk : Kept b0 s0) : Kept b0 (State.endPass s0 c) := by
  unfold State.endPass
  simp (maxDischargeDepth := 40) +contextual only [hk, kept_ite, kept_upd, kept_foldl, kept_foldr, implies_true, and_self, keptOut_next, keptOut_ite, keptOut_fault, keptOut_awake, State.acqDue_kept, State.put_kept, State.put64_kept, State.setCore_kept, State.pulse_kept, State.answerReads_kept, State.cfgCheck_kept, State.safePoint_kept, State.commitAdc_kept, State.heldTrigger_kept]

theorem State.adcWord_kept {b0 : Before} (s : State) (c raw : Nat) (hk : Kept b0 s) : Kept b0 (State.adcWord s c raw).2 := by
  unfold State.adcWord
  simp (maxDischargeDepth := 40) +contextual only [hk, kept_ite, kept_upd, kept_foldl, kept_foldr, implies_true, and_self, keptOut_next, keptOut_ite, keptOut_fault, keptOut_awake, State.winRun_kept]

theorem State.adcResult_kept {b0 : Before} (s0 : State) (c raw : Nat) (hk : Kept b0 s0) : Kept b0 (State.adcResult s0 c raw) := by
  unfold State.adcResult
  simp (maxDischargeDepth := 40) +contextual only [hk, kept_ite, kept_upd, kept_foldl, kept_foldr, implies_true, and_self, keptOut_next, keptOut_ite, keptOut_fault, keptOut_awake, State.advanceTo_kept, State.acqDue_kept, State.adcWord_kept, State.setCore_kept, State.fifoPush_kept, State.mirInputIf_kept, State.adcDeliver_kept, State.exportSignal_kept, State.endPass_kept]

theorem execAdcResult_kept {b0 : Before} (c raw : Nat) (s : State) (hk : Kept b0 s) : KeptOut b0 (execAdcResult c raw s) := by
  unfold execAdcResult
  simp (maxDischargeDepth := 40) +contextual only [hk, kept_ite, kept_upd, kept_foldl, kept_foldr, implies_true, and_self, keptOut_next, keptOut_ite, keptOut_fault, keptOut_awake, State.adcResult_kept]

theorem State.fifoRead_kept {b0 : Before} (s : State) (c : Nat) (hk : Kept b0 s) : Kept b0 (State.fifoRead s c) := by
  unfold State.fifoRead
  split <;> simp (maxDischargeDepth := 40) +contextual only [hk, kept_ite, kept_upd, kept_foldl, kept_foldr, implies_true, and_self, keptOut_next, keptOut_ite, keptOut_fault, keptOut_awake, State.setCore_kept, State.put_kept, State.put64_kept]

theorem execAdcFifoRead_kept {b0 : Before} (c : Nat) (s : State) (hk : Kept b0 s) : KeptOut b0 (execAdcFifoRead c s) := by
  unfold execAdcFifoRead
  simp (maxDischargeDepth := 40) +contextual only [hk, kept_ite, kept_upd, kept_foldl, kept_foldr, implies_true, and_self, keptOut_next, keptOut_ite, keptOut_fault, keptOut_awake, State.fifoRead_kept]

theorem execAdcRefWrite_kept {b0 : Before} (v : Word) (s : State) (hk : Kept b0 s) : KeptOut b0 (execAdcRefWrite v s) := by
  unfold execAdcRefWrite
  simp (maxDischargeDepth := 40) +contextual only [hk, kept_ite, kept_upd, kept_foldl, kept_foldr, implies_true, and_self, keptOut_next, keptOut_ite, keptOut_fault, keptOut_awake, State.refWrite_kept]

theorem execRefSettled_kept {b0 : Before} (s : State) (hk : Kept b0 s) : KeptOut b0 (execRefSettled s) := by
  unfold execRefSettled
  simp (maxDischargeDepth := 40) +contextual only [hk, kept_ite, kept_upd, kept_foldl, kept_foldr, implies_true, and_self, keptOut_next, keptOut_ite, keptOut_fault, keptOut_awake, State.holdAllFlags_kept, State.put_kept]

theorem execAvddLow_kept {b0 : Before} (s0 : State) (hk : Kept b0 s0) : KeptOut b0 (execAvddLow s0) := by
  unfold execAvddLow
  simp (maxDischargeDepth := 40) +contextual only [hk, kept_ite, kept_upd, kept_foldl, kept_foldr, implies_true, and_self, keptOut_next, keptOut_ite, keptOut_fault, keptOut_awake, State.holdAllFlags_kept, State.put_kept]

theorem execAvddReturn_kept {b0 : Before} (s : State) (hk : Kept b0 s) : KeptOut b0 (execAvddReturn s) := by
  unfold execAvddReturn
  simp (maxDischargeDepth := 40) +contextual only [hk, kept_ite, kept_upd, kept_foldl, kept_foldr, implies_true, and_self, keptOut_next, keptOut_ite, keptOut_fault, keptOut_awake]

theorem execAdcArmWrite_kept {b0 : Before} (c : Nat) (v : Word) (s : State) (hk : Kept b0 s) : KeptOut b0 (execAdcArmWrite c v s) := by
  unfold execAdcArmWrite
  simp (maxDischargeDepth := 40) +contextual only [hk, kept_ite, kept_upd, kept_foldl, kept_foldr, implies_true, and_self, keptOut_next, keptOut_ite, keptOut_fault, keptOut_awake, State.armWrite_kept]

theorem State.calStart_kept {b0 : Before} (s : State) (c : Nat) (hk : Kept b0 s) : Kept b0 (State.calStart s c) := by
  unfold State.calStart
  simp (maxDischargeDepth := 40) +contextual only [hk, kept_ite, kept_upd, kept_foldl, kept_foldr, implies_true, and_self, keptOut_next, keptOut_ite, keptOut_fault, keptOut_awake, State.setBit_kept]

theorem State.calGo_kept {b0 : Before} (s : State) (c : Nat) (hk : Kept b0 s) : Kept b0 (State.calGo s c) := by
  unfold State.calGo
  simp (maxDischargeDepth := 40) +contextual only [hk, kept_ite, kept_upd, kept_foldl, kept_foldr, implies_true, and_self, keptOut_next, keptOut_ite, keptOut_fault, keptOut_awake, State.reject_kept, State.calStart_kept]

theorem execCalGo_kept {b0 : Before} (c : Nat) (s : State) (hk : Kept b0 s) : KeptOut b0 (execCalGo c s) := by
  unfold execCalGo
  simp (maxDischargeDepth := 40) +contextual only [hk, kept_ite, kept_upd, kept_foldl, kept_foldr, implies_true, and_self, keptOut_next, keptOut_ite, keptOut_fault, keptOut_awake, State.calGo_kept]

theorem State.bootAdvance_kept {b0 : Before} (s : State) (hk : Kept b0 s) : Kept b0 (State.bootAdvance s) := by
  unfold State.bootAdvance
  simp (maxDischargeDepth := 40) +contextual only [hk, kept_ite, kept_upd, kept_foldl, kept_foldr, implies_true, and_self, keptOut_next, keptOut_ite, keptOut_fault, keptOut_awake, State.setStage_kept, State.stageFail_kept, State.put_kept]

theorem State.answerCals_kept {b0 : Before} (s : State) (c : Nat) (hk : Kept b0 s) : Kept b0 (State.answerCals s c) := by
  unfold State.answerCals
  simp (maxDischargeDepth := 40) +contextual only [hk, kept_ite, kept_upd, kept_foldl, kept_foldr, implies_true, and_self, keptOut_next, keptOut_ite, keptOut_fault, keptOut_awake, State.done_kept]

theorem State.calDone_kept {b0 : Before} (s : State) (c : Nat) (factors : Option (Nat × Nat × List Nat)) (hk : Kept b0 s) : Kept b0 (State.calDone s c factors) := by
  unfold State.calDone
  split <;> simp (maxDischargeDepth := 40) +contextual only [hk, kept_ite, kept_upd, kept_foldl, kept_foldr, implies_true, and_self, keptOut_next, keptOut_ite, keptOut_fault, keptOut_awake, State.setBit_kept, State.put_kept, State.post_kept, State.stageFail_kept, State.answerCals_kept, State.bootAdvance_kept]

theorem execAdcCalDone_kept {b0 : Before} (c : Nat) (factors : Option (Nat × Nat × List Nat)) (s : State) (hk : Kept b0 s) : KeptOut b0 (execAdcCalDone c factors s) := by
  unfold execAdcCalDone
  simp (maxDischargeDepth := 40) +contextual only [hk, kept_ite, kept_upd, kept_foldl, kept_foldr, implies_true, and_self, keptOut_next, keptOut_ite, keptOut_fault, keptOut_awake, State.calDone_kept]

theorem execAdcConfig_kept {b0 : Before} (p : Pkt) (s : State) (hk : Kept b0 s) : KeptOut b0 (execAdcConfig p s) := by
  unfold execAdcConfig
  simp (maxDischargeDepth := 40) +contextual only [hk, kept_ite, kept_upd, kept_foldl, kept_foldr, implies_true, and_self, keptOut_next, keptOut_ite, keptOut_fault, keptOut_awake, State.command_kept, State.armWrite_kept, State.cfgCheck_kept]

theorem execAdcCalibrate_kept {b0 : Before} (p : Pkt) (s : State) (hk : Kept b0 s) : KeptOut b0 (execAdcCalibrate p s) := by
  unfold execAdcCalibrate
  simp (maxDischargeDepth := 40) +contextual only [hk, kept_ite, kept_upd, kept_foldl, kept_foldr, implies_true, and_self, keptOut_next, keptOut_ite, keptOut_fault, keptOut_awake, State.command_kept, State.calStart_kept, State.accept_kept]

theorem execAdcSequence_kept {b0 : Before} (p : Pkt) (s : State) (hk : Kept b0 s) : KeptOut b0 (execAdcSequence p s) := by
  unfold execAdcSequence
  simp (maxDischargeDepth := 40) +contextual only [hk, kept_ite, kept_upd, kept_foldl, kept_foldr, implies_true, and_self, keptOut_next, keptOut_ite, keptOut_fault, keptOut_awake, State.command_kept, State.setWord_kept, State.acqNow_kept, State.askCommit_kept, State.commitAdc_kept]

theorem execAdcRead_kept {b0 : Before} (p : Pkt) (s : State) (hk : Kept b0 s) : KeptOut b0 (execAdcRead p s) := by
  unfold execAdcRead
  simp (maxDischargeDepth := 40) +contextual only [hk, kept_ite, kept_upd, kept_foldl, kept_foldr, implies_true, and_self, keptOut_next, keptOut_ite, keptOut_fault, keptOut_awake, State.command_kept, State.acqNow_kept, State.adcTrigger_kept, State.answerRead_kept]

theorem execAdcReadTimeout_kept {b0 : Before} (p : Pkt) (s : State) (hk : Kept b0 s) : KeptOut b0 (execAdcReadTimeout p s) := by
  unfold execAdcReadTimeout
  simp (maxDischargeDepth := 40) +contextual only [hk, kept_ite, kept_upd, kept_foldl, kept_foldr, implies_true, and_self, keptOut_next, keptOut_ite, keptOut_fault, keptOut_awake, State.done_kept]

end Sys2Proof.Machine
end

