-- ==== Sys2Proof/Laws/KeptMotion.lean ====
section
/-! SUPPORT. What every operation keeps (`Kept`: the store canonical, the queue, blown fuses): encoders, motion, acquisition and the timebase. One lemma per operation and
one per command, each citing the lemmas of what it calls. -/

set_option linter.unusedSimpArgs false

namespace Sys2Proof.Machine

theorem State.setEnc_kept {b0 : Before} (s : State) (n : Nat) (v : EncInt) (hk : Kept b0 s) : Kept b0 (State.setEnc s n v) := by
  unfold State.setEnc
  simp (maxDischargeDepth := 40) +contextual only [hk, kept_ite, kept_upd, kept_foldl, kept_foldr, implies_true, and_self, keptOut_next, keptOut_ite, keptOut_fault, keptOut_awake]

theorem State.setAx_kept {b0 : Before} (s : State) (n : Nat) (v : AxisInt) (hk : Kept b0 s) : Kept b0 (State.setAx s n v) := by
  unfold State.setAx
  simp (maxDischargeDepth := 40) +contextual only [hk, kept_ite, kept_upd, kept_foldl, kept_foldr, implies_true, and_self, keptOut_next, keptOut_ite, keptOut_fault, keptOut_awake]

theorem State.encCount_kept {b0 : Before} (s : State) (n : Nat) (d : Int) (hk : Kept b0 s) : Kept b0 (State.encCount s n d) := by
  unfold State.encCount
  simp (maxDischargeDepth := 40) +contextual only [hk, kept_ite, kept_upd, kept_foldl, kept_foldr, implies_true, and_self, keptOut_next, keptOut_ite, keptOut_fault, keptOut_awake, State.puti64_kept]

theorem State.encErr_kept {b0 : Before} (s : State) (n code : Nat) (hk : Kept b0 s) : Kept b0 (State.encErr s n code) := by
  unfold State.encErr
  simp (maxDischargeDepth := 40) +contextual only [hk, kept_ite, kept_upd, kept_foldl, kept_foldr, implies_true, and_self, keptOut_next, keptOut_ite, keptOut_fault, keptOut_awake, State.put_kept, State.incSat_kept, State.line_kept, State.setEnc_kept]

theorem State.encErrClear_kept {b0 : Before} (s : State) (n : Nat) (hk : Kept b0 s) : Kept b0 (State.encErrClear s n) := by
  unfold State.encErrClear
  simp (maxDischargeDepth := 40) +contextual only [hk, kept_ite, kept_upd, kept_foldl, kept_foldr, implies_true, and_self, keptOut_next, keptOut_ite, keptOut_fault, keptOut_awake, State.put_kept, State.line_kept]

theorem State.encEdge_kept {b0 : Before} (s : State) (n : Nat) (a b : Bool) (hk : Kept b0 s) : Kept b0 (State.encEdge s n a b) := by
  unfold State.encEdge
  dsimp only
  repeat' split
  all_goals simp (maxDischargeDepth := 40) +contextual only [hk, kept_ite, kept_upd, kept_foldl, kept_foldr, implies_true, and_self, keptOut_next, keptOut_ite, keptOut_fault, keptOut_awake, State.setEnc_kept, State.encErr_kept, State.encCount_kept]

theorem State.mirEncSend_kept {b0 : Before} (s : State) (n : Nat) (hk : Kept b0 s) : Kept b0 (State.mirEncSend s n) := by
  unfold State.mirEncSend
  simp (maxDischargeDepth := 40) +contextual only [hk, kept_ite, kept_upd, kept_foldl, kept_foldr, implies_true, and_self, keptOut_next, keptOut_ite, keptOut_fault, keptOut_awake, State.mirInputIf_kept]

theorem State.mirEncOut_kept {b0 : Before} (s old : State) (n : Nat) (h : Kept b0 s) : Kept b0 (s.mirEncOut old n) := by
  unfold State.mirEncOut
  split
  · exact State.mirEncSend_kept _ _ h
  · exact h

theorem execEncEdge_kept {b0 : Before} (n : Nat) (a b : Bool) (samples : Nat) (s : State) (hk : Kept b0 s) : KeptOut b0 (execEncEdge n a b samples s) := by
  unfold execEncEdge
  simp (maxDischargeDepth := 40) +contextual only [hk, kept_ite, kept_upd, kept_foldl, kept_foldr, implies_true, and_self, keptOut_next, keptOut_ite, keptOut_fault, keptOut_awake, State.encEdge_kept, State.mirEncOut_kept]

theorem State.encIndex_kept {b0 : Before} (s : State) (n : Nat) (hk : Kept b0 s) : Kept b0 (State.encIndex s n) := by
  unfold State.encIndex
  simp (maxDischargeDepth := 40) +contextual only [hk, kept_ite, kept_upd, kept_foldl, kept_foldr, implies_true, and_self, keptOut_next, keptOut_ite, keptOut_fault, keptOut_awake, State.put64_kept, State.put_kept]

theorem State.encZ_kept {b0 : Before} (s : State) (n : Nat) (level : Bool) (hk : Kept b0 s) : Kept b0 (State.encZ s n level) := by
  unfold State.encZ
  simp (maxDischargeDepth := 40) +contextual only [hk, kept_ite, kept_upd, kept_foldl, kept_foldr, implies_true, and_self, keptOut_next, keptOut_ite, keptOut_fault, keptOut_awake, State.setEnc_kept, State.encIndex_kept]

theorem execEncIndex_kept {b0 : Before} (n : Nat) (level : Bool) (samples : Nat) (s : State) (hk : Kept b0 s) : KeptOut b0 (execEncIndex n level samples s) := by
  unfold execEncIndex
  simp (maxDischargeDepth := 40) +contextual only [hk, kept_ite, kept_upd, kept_foldl, kept_foldr, implies_true, and_self, keptOut_next, keptOut_ite, keptOut_fault, keptOut_awake, State.encZ_kept, State.mirEncOut_kept]

theorem State.encBusyNow_kept {b0 : Before} (s : State) (n : Nat) (hk : Kept b0 s) : Kept b0 (State.encBusyNow s n) := by
  unfold State.encBusyNow
  split <;> simp (maxDischargeDepth := 40) +contextual only [hk, kept_ite, kept_upd, kept_foldl, kept_foldr, implies_true, and_self, keptOut_next, keptOut_ite, keptOut_fault, keptOut_awake, State.put_kept, State.setEnc_kept]

theorem State.encTransfer_kept {b0 : Before} (s : State) (n : Nat) (hk : Kept b0 s) : Kept b0 (State.encTransfer s n) := by
  unfold State.encTransfer
  simp (maxDischargeDepth := 40) +contextual only [hk, kept_ite, kept_upd, kept_foldl, kept_foldr, implies_true, and_self, keptOut_next, keptOut_ite, keptOut_fault, keptOut_awake, State.encBusyNow_kept, State.put_kept, State.encErr_kept, State.mirEncOut_kept]

theorem State.encLatch_kept {b0 : Before} (s : State) (n : Nat) (hk : Kept b0 s) : Kept b0 (State.encLatch s n) := by
  unfold State.encLatch
  simp (maxDischargeDepth := 40) +contextual only [hk, kept_ite, kept_upd, kept_foldl, kept_foldr, implies_true, and_self, keptOut_next, keptOut_ite, keptOut_fault, keptOut_awake, State.put64_kept, State.encTransfer_kept]

theorem State.encLatchGen_kept {b0 : Before} (s : State) (g : Nat) (hk : Kept b0 s) : Kept b0 (State.encLatchGen s g) := by
  unfold State.encLatchGen
  simp (maxDischargeDepth := 40) +contextual only [hk, kept_ite, kept_upd, kept_foldl, kept_foldr, implies_true, and_self, keptOut_next, keptOut_ite, keptOut_fault, keptOut_awake, State.encLatch_kept]

theorem State.encLatchRing_kept {b0 : Before} (s : State) (hk : Kept b0 s) : Kept b0 (State.encLatchRing s) := by
  unfold State.encLatchRing
  simp (maxDischargeDepth := 40) +contextual only [hk, kept_ite, kept_upd, kept_foldl, kept_foldr, implies_true, and_self, keptOut_next, keptOut_ite, keptOut_fault, keptOut_awake, State.encLatch_kept]

theorem State.encRelease_kept {b0 : Before} (s0 : State) (n : Nat) (hk : Kept b0 s0) : Kept b0 (State.encRelease s0 n) := by
  unfold State.encRelease
  simp (maxDischargeDepth := 40) +contextual only [hk, kept_ite, kept_upd, kept_foldl, kept_foldr, implies_true, and_self, keptOut_next, keptOut_ite, keptOut_fault, keptOut_awake, State.latchFb2_kept, State.tickSlot_kept]

theorem State.ssiCounted_kept {b0 : Before} (s : State) (n : Nat) (v : Nat) (hk : Kept b0 s) : Kept b0 (State.ssiCounted s n v) := by
  unfold State.ssiCounted
  simp (maxDischargeDepth := 40) +contextual only [hk, kept_ite, kept_upd, kept_foldl, kept_foldr, implies_true, and_self, keptOut_next, keptOut_ite, keptOut_fault, keptOut_awake, State.setEnc_kept, State.mirEncSend_kept, State.encRelease_kept]

theorem State.ssiGood_kept {b0 : Before} (s : State) (n v : Nat) (hk : Kept b0 s) : Kept b0 (State.ssiGood s n v) := by
  unfold State.ssiGood
  dsimp only
  repeat' split
  all_goals simp (maxDischargeDepth := 40) +contextual only [hk, kept_ite, kept_upd, kept_foldl, kept_foldr, implies_true, and_self, keptOut_next, keptOut_ite, keptOut_fault, keptOut_awake, State.put64_kept, State.ssiCounted_kept, State.encErr_kept, State.mirEncOut_kept, State.encCount_kept]

theorem State.ssiPause_kept {b0 : Before} (s : State) (n : Nat) (hk : Kept b0 s) : Kept b0 (State.ssiPause s n) := by
  unfold State.ssiPause
  simp (maxDischargeDepth := 40) +contextual only [hk, kept_ite, kept_upd, kept_foldl, kept_foldr, implies_true, and_self, keptOut_next, keptOut_ite, keptOut_fault, keptOut_awake, State.setEnc_kept]

theorem State.ssiDone_kept {b0 : Before} (s : State) (n raw : Nat) (lineLow : Bool) (hk : Kept b0 s) : Kept b0 (State.ssiDone s n raw lineLow) := by
  unfold State.ssiDone
  simp (maxDischargeDepth := 40) +contextual only [hk, kept_ite, kept_upd, kept_foldl, kept_foldr, implies_true, and_self, keptOut_next, keptOut_ite, keptOut_fault, keptOut_awake, State.ssiPause_kept, State.encErr_kept, State.mirEncOut_kept, State.ssiGood_kept]

theorem execSsiTransferDone_kept {b0 : Before} (n raw : Nat) (lineLow : Bool) (s : State) (hk : Kept b0 s) : KeptOut b0 (execSsiTransferDone n raw lineLow s) := by
  unfold execSsiTransferDone
  simp (maxDischargeDepth := 40) +contextual only [hk, kept_ite, kept_upd, kept_foldl, kept_foldr, implies_true, and_self, keptOut_next, keptOut_ite, keptOut_fault, keptOut_awake, State.ssiPause_kept, State.ssiDone_kept]

theorem execEncErrClr_kept {b0 : Before} (n : Nat) (s : State) (hk : Kept b0 s) : KeptOut b0 (execEncErrClr n s) := by
  unfold execEncErrClr
  simp (maxDischargeDepth := 40) +contextual only [hk, kept_ite, kept_upd, kept_foldl, kept_foldr, implies_true, and_self, keptOut_next, keptOut_ite, keptOut_fault, keptOut_awake, State.encErrClear_kept, State.mirEncOut_kept]

theorem execEncErrHoldExpiry_kept {b0 : Before} (n : Nat) (s : State) (hk : Kept b0 s) : KeptOut b0 (execEncErrHoldExpiry n s) := by
  unfold execEncErrHoldExpiry
  simp (maxDischargeDepth := 40) +contextual only [hk, kept_ite, kept_upd, kept_foldl, kept_foldr, implies_true, and_self, keptOut_next, keptOut_ite, keptOut_fault, keptOut_awake, State.advanceTo_kept, State.encErrClear_kept, State.mirEncOut_kept]

theorem State.encEnable_kept {b0 : Before} (s : State) (n : Nat) (b : Bool) (hk : Kept b0 s) : Kept b0 (State.encEnable s n b) := by
  unfold State.encEnable
  simp (maxDischargeDepth := 40) +contextual only [hk, kept_ite, kept_upd, kept_foldl, kept_foldr, implies_true, and_self, keptOut_next, keptOut_ite, keptOut_fault, keptOut_awake, State.put_kept, State.setEnc_kept]

theorem State.encCfgWrite_kept {b0 : Before} (s : State) (n v : Nat) (hk : Kept b0 s) : Kept b0 (State.encCfgWrite s n v) := by
  unfold State.encCfgWrite
  simp (maxDischargeDepth := 40) +contextual only [hk, kept_ite, kept_upd, kept_foldl, kept_foldr, implies_true, and_self, keptOut_next, keptOut_ite, keptOut_fault, keptOut_awake, State.reject_kept, State.lockReject_kept, State.setWord_kept, State.encEnable_kept]

theorem State.encConfig_kept {b0 : Before} (s : State) (p : Pkt) (n : Nat) (hk : Kept b0 s) : Kept b0 (State.encConfig s p n) := by
  unfold State.encConfig
  split <;> simp (maxDischargeDepth := 40) +contextual only [hk, kept_ite, kept_upd, kept_foldl, kept_foldr, implies_true, and_self, keptOut_next, keptOut_ite, keptOut_fault, keptOut_awake, State.encEnable_kept, State.setWord_kept, State.put64_kept, State.done_kept]

theorem execEncConfig_kept {b0 : Before} (p : Pkt) (s : State) (hk : Kept b0 s) : KeptOut b0 (execEncConfig p s) := by
  unfold execEncConfig
  simp (maxDischargeDepth := 40) +contextual only [hk, kept_ite, kept_upd, kept_foldl, kept_foldr, implies_true, and_self, keptOut_next, keptOut_ite, keptOut_fault, keptOut_awake, State.command_kept, State.encConfig_kept]

theorem execEncRead_kept {b0 : Before} (p : Pkt) (s : State) (hk : Kept b0 s) : KeptOut b0 (execEncRead p s) := by
  unfold execEncRead
  simp (maxDischargeDepth := 40) +contextual only [hk, kept_ite, kept_upd, kept_foldl, kept_foldr, implies_true, and_self, keptOut_next, keptOut_ite, keptOut_fault, keptOut_awake, State.command_kept, State.encBusyNow_kept, State.doneRes_kept]

theorem State.axSum_kept {b0 : Before} (s : State) (n : Nat) (hk : Kept b0 s) : Kept b0 (State.axSum s n) := by
  unfold State.axSum
  simp (maxDischargeDepth := 40) +contextual only [hk, kept_ite, kept_upd, kept_foldl, kept_foldr, implies_true, and_self, keptOut_next, keptOut_ite, keptOut_fault, keptOut_awake, State.put_kept]

theorem State.axFlag_kept {b0 : Before} (s : State) (n b : Nat) (hk : Kept b0 s) : Kept b0 (State.axFlag s n b) := by
  unfold State.axFlag
  simp (maxDischargeDepth := 40) +contextual only [hk, kept_ite, kept_upd, kept_foldl, kept_foldr, implies_true, and_self, keptOut_next, keptOut_ite, keptOut_fault, keptOut_awake, State.put_kept, State.axSum_kept, State.raise_kept]

theorem State.axStickyClear_kept {b0 : Before} (s : State) (n m : Nat) (hk : Kept b0 s) : Kept b0 (State.axStickyClear s n m) := by
  unfold State.axStickyClear
  simp (maxDischargeDepth := 40) +contextual only [hk, kept_ite, kept_upd, kept_foldl, kept_foldr, implies_true, and_self, keptOut_next, keptOut_ite, keptOut_fault, keptOut_awake, State.put_kept, State.axSum_kept]

theorem State.refreshSteppers_kept {b0 : Before} (s : State) (hk : Kept b0 s) : Kept b0 (State.refreshSteppers s) := by
  unfold State.refreshSteppers
  simp (maxDischargeDepth := 40) +contextual only [hk, kept_ite, kept_upd, kept_foldl, kept_foldr, implies_true, and_self, keptOut_next, keptOut_ite, keptOut_fault, keptOut_awake, State.put_kept]

theorem State.startMove_kept {b0 : Before} (s : State) (n : Nat) (hk : Kept b0 s) : Kept b0 (State.startMove s n) := by
  unfold State.startMove
  dsimp only
  repeat' split
  all_goals simp (maxDischargeDepth := 40) +contextual only [hk, kept_ite, kept_upd, kept_foldl, kept_foldr, implies_true, and_self, keptOut_next, keptOut_ite, keptOut_fault, keptOut_awake, State.setAx_kept, State.put_kept]

theorem State.lookAhead_kept {b0 : Before} (s : State) (n : Nat) (hk : Kept b0 s) : Kept b0 (State.lookAhead s n) := by
  unfold State.lookAhead
  dsimp only
  repeat' split
  all_goals simp (maxDischargeDepth := 40) +contextual only [hk, kept_ite, kept_upd, kept_foldl, kept_foldr, implies_true, and_self, keptOut_next, keptOut_ite, keptOut_fault, keptOut_awake, State.setAx_kept]

theorem State.endMove_kept {b0 : Before} (s : State) (n : Nat) (hk : Kept b0 s) : Kept b0 (State.endMove s n) := by
  unfold State.endMove
  simp (maxDischargeDepth := 40) +contextual only [hk, kept_ite, kept_upd, kept_foldl, kept_foldr, implies_true, and_self, keptOut_next, keptOut_ite, keptOut_fault, keptOut_awake, State.incWrap_kept, State.setAx_kept, State.put_kept, State.axFlag_kept, State.startMove_kept]

theorem State.setPva_kept {b0 : Before} (s : State) (n : Nat) (y : Pva) (q : Plan) (hk : Kept b0 s) : Kept b0 (State.setPva s n y q) := by
  unfold State.setPva
  simp (maxDischargeDepth := 40) +contextual only [hk, kept_ite, kept_upd, kept_foldl, kept_foldr, implies_true, and_self, keptOut_next, keptOut_ite, keptOut_fault, keptOut_awake, State.setAx_kept]

theorem State.planStep_kept {b0 : Before} (s : State) (n : Nat) (q : Plan) (hk : Kept b0 s) : Kept b0 (State.planStep s n q) := by
  unfold State.planStep
  simp (maxDischargeDepth := 40) +contextual only [hk, kept_ite, kept_upd, kept_foldl, kept_foldr, implies_true, and_self, keptOut_next, keptOut_ite, keptOut_fault, keptOut_awake, State.setPva_kept, State.endMove_kept]

theorem State.unplanned_kept {b0 : Before} (s : State) (n : Nat) (l : AxLim) (hk : Kept b0 s) : Kept b0 (State.unplanned s n l) := by
  unfold State.unplanned
  simp (maxDischargeDepth := 40) +contextual only [hk, kept_ite, kept_upd, kept_foldl, kept_foldr, implies_true, and_self, keptOut_next, keptOut_ite, keptOut_fault, keptOut_awake, State.setPva_kept, State.endMove_kept]

theorem State.moveStep_kept {b0 : Before} (s : State) (n : Nat) (hk : Kept b0 s) : Kept b0 (State.moveStep s n) := by
  unfold State.moveStep
  dsimp only
  repeat' split
  all_goals simp (maxDischargeDepth := 40) +contextual only [hk, kept_ite, kept_upd, kept_foldl, kept_foldr, implies_true, and_self, keptOut_next, keptOut_ite, keptOut_fault, keptOut_awake, State.lookAhead_kept, State.unplanned_kept, State.planStep_kept]

theorem State.quickStep_kept {b0 : Before} (s : State) (n : Nat) (hk : Kept b0 s) : Kept b0 (State.quickStep s n) := by
  unfold State.quickStep
  simp (maxDischargeDepth := 40) +contextual only [hk, kept_ite, kept_upd, kept_foldl, kept_foldr, implies_true, and_self, keptOut_next, keptOut_ite, keptOut_fault, keptOut_awake, State.setAx_kept]

theorem State.stopStep_kept {b0 : Before} (s : State) (n : Nat) (hk : Kept b0 s) : Kept b0 (State.stopStep s n) := by
  unfold State.stopStep
  simp (maxDischargeDepth := 40) +contextual only [hk, kept_ite, kept_upd, kept_foldl, kept_foldr, implies_true, and_self, keptOut_next, keptOut_ite, keptOut_fault, keptOut_awake, State.setPva_kept]

theorem State.stopping_kept {b0 : Before} (s : State) (n : Nat) (hk : Kept b0 s) : Kept b0 (State.stopping s n) := by
  unfold State.stopping
  simp (maxDischargeDepth := 40) +contextual only [hk, kept_ite, kept_upd, kept_foldl, kept_foldr, implies_true, and_self, keptOut_next, keptOut_ite, keptOut_fault, keptOut_awake, State.put_kept, State.quickStep_kept, State.stopStep_kept]

theorem State.dropMoves_kept {b0 : Before} (s : State) (n : Nat) (hk : Kept b0 s) : Kept b0 (State.dropMoves s n) := by
  unfold State.dropMoves
  simp (maxDischargeDepth := 40) +contextual only [hk, kept_ite, kept_upd, kept_foldl, kept_foldr, implies_true, and_self, keptOut_next, keptOut_ite, keptOut_fault, keptOut_awake, State.setAx_kept, State.put_kept]

theorem State.beginStop_kept {b0 : Before} (s : State) (n : Nat) (quick : Bool) (hk : Kept b0 s) : Kept b0 (State.beginStop s n quick) := by
  unfold State.beginStop
  simp (maxDischargeDepth := 40) +contextual only [hk, kept_ite, kept_upd, kept_foldl, kept_foldr, implies_true, and_self, keptOut_next, keptOut_ite, keptOut_fault, keptOut_awake, State.dropMoves_kept, State.setAx_kept, State.put_kept]

theorem State.quickError_kept {b0 : Before} (s : State) (n : Nat) (hk : Kept b0 s) : Kept b0 (State.quickError s n) := by
  unfold State.quickError
  simp (maxDischargeDepth := 40) +contextual only [hk, kept_ite, kept_upd, kept_foldl, kept_foldr, implies_true, and_self, keptOut_next, keptOut_ite, keptOut_fault, keptOut_awake, State.dropMoves_kept, State.setAx_kept, State.put_kept]

theorem State.trimStep_kept {b0 : Before} (s : State) (n : Nat) (hk : Kept b0 s) : Kept b0 (State.trimStep s n) := by
  unfold State.trimStep
  simp (maxDischargeDepth := 40) +contextual only [hk, kept_ite, kept_upd, kept_foldl, kept_foldr, implies_true, and_self, keptOut_next, keptOut_ite, keptOut_fault, keptOut_awake, State.puti_kept, State.setAx_kept]

theorem State.followStop_kept {b0 : Before} (s : State) (n : Nat) (bad : Bool × Bool) (hk : Kept b0 s) : Kept b0 (State.followStop s n bad) := by
  unfold State.followStop
  simp (maxDischargeDepth := 40) +contextual only [hk, kept_ite, kept_upd, kept_foldl, kept_foldr, implies_true, and_self, keptOut_next, keptOut_ite, keptOut_fault, keptOut_awake, State.axFlag_kept, State.quickError_kept]

theorem State.follow_kept {b0 : Before} (s : State) (n : Nat) (target : Int) (hk : Kept b0 s) : Kept b0 (State.follow s n target) := by
  unfold State.follow
  simp (maxDischargeDepth := 40) +contextual only [hk, kept_ite, kept_upd, kept_foldl, kept_foldr, implies_true, and_self, keptOut_next, keptOut_ite, keptOut_fault, keptOut_awake, State.followStop_kept, State.quickStep_kept, State.setAx_kept]

theorem State.chase_kept {b0 : Before} (s : State) (n : Nat) (m dm : Int) (hk : Kept b0 s) : Kept b0 (State.chase s n m dm) := by
  unfold State.chase
  simp (maxDischargeDepth := 40) +contextual only [hk, kept_ite, kept_upd, kept_foldl, kept_foldr, implies_true, and_self, keptOut_next, keptOut_ite, keptOut_fault, keptOut_awake, State.setAx_kept, State.put_kept]

theorem State.coupledStep_kept {b0 : Before} (s : State) (n : Nat) (hk : Kept b0 s) : Kept b0 (State.coupledStep s n) := by
  unfold State.coupledStep
  simp (maxDischargeDepth := 40) +contextual only [hk, kept_ite, kept_upd, kept_foldl, kept_foldr, implies_true, and_self, keptOut_next, keptOut_ite, keptOut_fault, keptOut_awake, State.trimStep_kept, State.setAx_kept, State.follow_kept, State.chase_kept]

theorem State.axLimits_kept {b0 : Before} (s : State) (n : Nat) (hk : Kept b0 s) : Kept b0 (State.axLimits s n) := by
  unfold State.axLimits
  simp (maxDischargeDepth := 40) +contextual only [hk, kept_ite, kept_upd, kept_foldl, kept_foldr, implies_true, and_self, keptOut_next, keptOut_ite, keptOut_fault, keptOut_awake, State.trimStep_kept, State.followStop_kept]

theorem State.followActual_kept {b0 : Before} (s : State) (n : Nat) (hk : Kept b0 s) : Kept b0 (State.followActual s n) := by
  unfold State.followActual
  simp (maxDischargeDepth := 40) +contextual only [hk, kept_ite, kept_upd, kept_foldl, kept_foldr, implies_true, and_self, keptOut_next, keptOut_ite, keptOut_fault, keptOut_awake, State.setAx_kept]

theorem State.axAdvance_kept {b0 : Before} (s : State) (n : Nat) (hk : Kept b0 s) : Kept b0 (State.axAdvance s n) := by
  unfold State.axAdvance
  simp (maxDischargeDepth := 40) +contextual only [hk, kept_ite, kept_upd, kept_foldl, kept_foldr, implies_true, and_self, keptOut_next, keptOut_ite, keptOut_fault, keptOut_awake, State.moveStep_kept, State.stopping_kept, State.coupledStep_kept, State.followActual_kept, State.quickStep_kept]

theorem State.axReplan_kept {b0 : Before} (s : State) (n : Nat) (hk : Kept b0 s) : Kept b0 (State.axReplan s n) := by
  unfold State.axReplan
  dsimp only
  repeat' split
  all_goals simp (maxDischargeDepth := 40) +contextual only [hk, kept_ite, kept_upd, kept_foldl, kept_foldr, implies_true, and_self, keptOut_next, keptOut_ite, keptOut_fault, keptOut_awake, State.setAx_kept]

theorem State.commitAxis_kept {b0 : Before} (s : State) (n t : Nat) (hk : Kept b0 s) : Kept b0 (State.commitAxis s n t) := by
  unfold State.commitAxis
  simp (maxDischargeDepth := 40) +contextual only [hk, kept_ite, kept_upd, kept_foldl, kept_foldr, implies_true, and_self, keptOut_next, keptOut_ite, keptOut_fault, keptOut_awake, State.axFlag_kept, State.endCommit_kept, State.activateAll_kept, State.axReplan_kept]

theorem State.axisSafePoint_kept {b0 : Before} (s : State) (n t : Nat) (hk : Kept b0 s) : Kept b0 (State.axisSafePoint s n t) := by
  unfold State.axisSafePoint
  simp (maxDischargeDepth := 40) +contextual only [hk, kept_ite, kept_upd, kept_foldl, kept_foldr, implies_true, and_self, keptOut_next, keptOut_ite, keptOut_fault, keptOut_awake, State.safePoint_kept, State.commitAxis_kept]

theorem State.axEnable_kept {b0 : Before} (s : State) (n : Nat) (hk : Kept b0 s) : Kept b0 (State.axEnable s n) := by
  unfold State.axEnable
  simp (maxDischargeDepth := 40) +contextual only [hk, kept_ite, kept_upd, kept_foldl, kept_foldr, implies_true, and_self, keptOut_next, keptOut_ite, keptOut_fault, keptOut_awake, State.setAx_kept, State.put_kept]

theorem State.axEngage_kept {b0 : Before} (s : State) (n : Nat) (e : Engage) (st : Nat) (hk : Kept b0 s) : Kept b0 (State.axEngage s n e st) := by
  unfold State.axEngage
  simp (maxDischargeDepth := 40) +contextual only [hk, kept_ite, kept_upd, kept_foldl, kept_foldr, implies_true, and_self, keptOut_next, keptOut_ite, keptOut_fault, keptOut_awake, State.dropMoves_kept, State.put_kept, State.setAx_kept]

theorem State.axMove_kept {b0 : Before} (s : State) (n : Nat) (ws : List Nat) (hk : Kept b0 s) : Kept b0 (State.axMove s n ws) := by
  unfold State.axMove
  simp (maxDischargeDepth := 40) +contextual only [hk, kept_ite, kept_upd, kept_foldl, kept_foldr, implies_true, and_self, keptOut_next, keptOut_ite, keptOut_fault, keptOut_awake, State.dropMoves_kept, State.setAx_kept, State.put_kept, State.startMove_kept]

theorem State.axApply_kept {b0 : Before} (s : State) (n : Nat) (r : AxReq) (hk : Kept b0 s) : Kept b0 (State.axApply s n r) := by
  unfold State.axApply
  split <;> simp (maxDischargeDepth := 40) +contextual only [hk, kept_ite, kept_upd, kept_foldl, kept_foldr, implies_true, and_self, keptOut_next, keptOut_ite, keptOut_fault, keptOut_awake, State.axMove_kept, State.beginStop_kept, State.setAx_kept, State.axEnable_kept, State.put_kept, State.axEngage_kept, State.puti_kept]

theorem State.axRequests_kept {b0 : Before} (s : State) (n b : Nat) (h : Kept b0 s) : Kept b0 (s.axRequests n b) := by
  unfold State.axRequests
  refine kept_foldl (fun t r ht => ?_) (State.setAx_kept _ _ _ h)
  have h1 : Kept b0 (if t.axReqStatus n r = stDONE then t.axApply n r else t) := by
    simp only [ht, kept_ite, State.axApply_kept, implies_true, and_self]
  dsimp only
  split
  · exact State.doneAt_kept _ _ _ _ h1
  · simp only [h1, kept_ite, State.axFlag_kept, implies_true, and_self]

theorem State.axSto_kept {b0 : Before} (s : State) (n : Nat) (hk : Kept b0 s) : Kept b0 (State.axSto s n) := by
  unfold State.axSto
  simp (maxDischargeDepth := 40) +contextual only [hk, kept_ite, kept_upd, kept_foldl, kept_foldr, implies_true, and_self, keptOut_next, keptOut_ite, keptOut_fault, keptOut_awake, State.dropMoves_kept, State.put_kept, State.setAx_kept, State.followActual_kept, State.axFlag_kept]

theorem State.feFresh_kept {b0 : Before} (s : State) (n : Nat) (hk : Kept b0 s) : Kept b0 (State.feFresh s n).2 := by
  unfold State.feFresh
  split <;> simp (maxDischargeDepth := 40) +contextual only [hk, kept_ite, kept_upd, kept_foldl, kept_foldr, implies_true, and_self, keptOut_next, keptOut_ite, keptOut_fault, keptOut_awake, State.fresh_kept, State.setAx_kept]

theorem State.feJudge_kept {b0 : Before} (s : State) (n : Nat) (fe : Int) (hk : Kept b0 s) : Kept b0 (State.feJudge s n fe) := by
  unfold State.feJudge
  simp (maxDischargeDepth := 40) +contextual only [hk, kept_ite, kept_upd, kept_foldl, kept_foldr, implies_true, and_self, keptOut_next, keptOut_ite, keptOut_fault, keptOut_awake, State.axFlag_kept, State.setAx_kept, State.post_kept, State.setSlot_kept, State.quickError_kept]

theorem State.feStep_kept {b0 : Before} (s : State) (n : Nat) (hk : Kept b0 s) : Kept b0 (State.feStep s n) := by
  unfold State.feStep
  split <;> simp (maxDischargeDepth := 40) +contextual only [hk, kept_ite, kept_upd, kept_foldl, kept_foldr, implies_true, and_self, keptOut_next, keptOut_ite, keptOut_fault, keptOut_awake, State.feJudge_kept, State.axAdvance_kept]

theorem State.coils_kept {b0 : Before} (s : State) (n : Nat) (p0 : Int) (hk : Kept b0 s) : Kept b0 (State.coils s n p0) := by
  unfold State.coils
  simp (maxDischargeDepth := 40) +contextual only [hk, kept_ite, kept_upd, kept_foldl, kept_foldr, implies_true, and_self, keptOut_next, keptOut_ite, keptOut_fault, keptOut_awake, State.setAx_kept, State.put_kept, State.axFlag_kept]

theorem State.axDeliver_kept {b0 : Before} (s : State) (n : Nat) (hk : Kept b0 s) : Kept b0 (State.axDeliver s n) := by
  unfold State.axDeliver
  simp (maxDischargeDepth := 40) +contextual only [hk, kept_ite, kept_upd, kept_foldl, kept_foldr, implies_true, and_self, keptOut_next, keptOut_ite, keptOut_fault, keptOut_awake, State.deliver_kept]

theorem State.axPublish_kept {b0 : Before} (s : State) (n : Nat) (p0 : Int) (fresh : Bool) (hk : Kept b0 s) : Kept b0 (State.axPublish s n p0 fresh) := by
  unfold State.axPublish
  dsimp only
  repeat' split
  all_goals simp (maxDischargeDepth := 40) +contextual only [hk, kept_ite, kept_upd, kept_foldl, kept_foldr, implies_true, and_self, keptOut_next, keptOut_ite, keptOut_fault, keptOut_awake, State.puti64_kept, State.puti_kept, State.setAx_kept, State.coils_kept, State.axDeliver_kept]

theorem State.axBoundary_kept {b0 : Before} (b : Nat) (s : State) (n : Nat) (h : Kept b0 s) : Kept b0 (State.axBoundary b s n) := by
  have h1 : Kept b0 (((s.axisSafePoint n b).axSto n).feFresh n).2 :=
    State.feFresh_kept _ _ (State.axSto_kept _ _ (State.axisSafePoint_kept _ _ _ h))
  unfold State.axBoundary
  refine State.axPublish_kept _ _ _ _ (State.axAdvance_kept _ _ (State.axRequests_kept _ _ _ (State.axLimits_kept _ _ ?_)))
  split
  · exact State.feStep_kept _ _ h1
  · exact h1

theorem State.servoBoundaries_kept {b0 : Before} (s : State) (k b : Nat) (hk : Kept b0 s) : Kept b0 (State.servoBoundaries s k b) := by
  unfold State.servoBoundaries
  simp (maxDischargeDepth := 40) +contextual only [hk, kept_ite, kept_upd, kept_foldl, kept_foldr, implies_true, and_self, keptOut_next, keptOut_ite, keptOut_fault, keptOut_awake, State.axBoundary_kept]

theorem execServoBoundary_kept {b0 : Before} (k : Nat) (s : State) (hk : Kept b0 s) : KeptOut b0 (execServoBoundary k s) := by
  unfold execServoBoundary
  simp (maxDischargeDepth := 40) +contextual only [hk, kept_ite, kept_upd, kept_foldl, kept_foldr, implies_true, and_self, keptOut_next, keptOut_ite, keptOut_fault, keptOut_awake, State.advanceTo_kept, State.servoBoundaries_kept, State.takeSnap_kept]

theorem State.axEnqueue_kept {b0 : Before} (s : State) (n : Nat) (r : AxReq) (hk : Kept b0 s) : Kept b0 (State.axEnqueue s n r) := by
  unfold State.axEnqueue
  split <;> simp (maxDischargeDepth := 40) +contextual only [hk, kept_ite, kept_upd, kept_foldl, kept_foldr, implies_true, and_self, keptOut_next, keptOut_ite, keptOut_fault, keptOut_awake, State.setAx_kept, State.done_kept, State.axFlag_kept]

theorem State.axReg_kept {b0 : Before} (s : State) (n code : Nat) (words : List Nat) (hk : Kept b0 s) : Kept b0 (State.axReg s n code words) := by
  unfold State.axReg
  simp (maxDischargeDepth := 40) +contextual only [hk, kept_ite, kept_upd, kept_foldl, kept_foldr, implies_true, and_self, keptOut_next, keptOut_ite, keptOut_fault, keptOut_awake, State.axEnqueue_kept]

theorem execAxisReqPush_kept {b0 : Before} (n : Nat) (s : State) (hk : Kept b0 s) : KeptOut b0 (execAxisReqPush n s) := by
  unfold execAxisReqPush
  simp (maxDischargeDepth := 40) +contextual only [hk, kept_ite, kept_upd, kept_foldl, kept_foldr, implies_true, and_self, keptOut_next, keptOut_ite, keptOut_fault, keptOut_awake, State.axReg_kept]

theorem execAxisReqStop_kept {b0 : Before} (n : Nat) (s : State) (hk : Kept b0 s) : KeptOut b0 (execAxisReqStop n s) := by
  unfold execAxisReqStop
  simp (maxDischargeDepth := 40) +contextual only [hk, kept_ite, kept_upd, kept_foldl, kept_foldr, implies_true, and_self, keptOut_next, keptOut_ite, keptOut_fault, keptOut_awake, State.axReg_kept]

theorem execAxisReqQuickStop_kept {b0 : Before} (n : Nat) (s : State) (hk : Kept b0 s) : KeptOut b0 (execAxisReqQuickStop n s) := by
  unfold execAxisReqQuickStop
  simp (maxDischargeDepth := 40) +contextual only [hk, kept_ite, kept_upd, kept_foldl, kept_foldr, implies_true, and_self, keptOut_next, keptOut_ite, keptOut_fault, keptOut_awake, State.axReg_kept]

theorem execAxisReqEnable_kept {b0 : Before} (n : Nat) (s : State) (hk : Kept b0 s) : KeptOut b0 (execAxisReqEnable n s) := by
  unfold execAxisReqEnable
  simp (maxDischargeDepth := 40) +contextual only [hk, kept_ite, kept_upd, kept_foldl, kept_foldr, implies_true, and_self, keptOut_next, keptOut_ite, keptOut_fault, keptOut_awake, State.axReg_kept]

theorem execAxisReqDisable_kept {b0 : Before} (n : Nat) (s : State) (hk : Kept b0 s) : KeptOut b0 (execAxisReqDisable n s) := by
  unfold execAxisReqDisable
  simp (maxDischargeDepth := 40) +contextual only [hk, kept_ite, kept_upd, kept_foldl, kept_foldr, implies_true, and_self, keptOut_next, keptOut_ite, keptOut_fault, keptOut_awake, State.axReg_kept]

theorem execAxisReqGear_kept {b0 : Before} (n : Nat) (s : State) (hk : Kept b0 s) : KeptOut b0 (execAxisReqGear n s) := by
  unfold execAxisReqGear
  simp (maxDischargeDepth := 40) +contextual only [hk, kept_ite, kept_upd, kept_foldl, kept_foldr, implies_true, and_self, keptOut_next, keptOut_ite, keptOut_fault, keptOut_awake, State.axReg_kept]

theorem execAxisReqCam_kept {b0 : Before} (n : Nat) (s : State) (hk : Kept b0 s) : KeptOut b0 (execAxisReqCam n s) := by
  unfold execAxisReqCam
  simp (maxDischargeDepth := 40) +contextual only [hk, kept_ite, kept_upd, kept_foldl, kept_foldr, implies_true, and_self, keptOut_next, keptOut_ite, keptOut_fault, keptOut_awake, State.axReg_kept]

theorem execAxisReqTrim_kept {b0 : Before} (n : Nat) (s : State) (hk : Kept b0 s) : KeptOut b0 (execAxisReqTrim n s) := by
  unfold execAxisReqTrim
  simp (maxDischargeDepth := 40) +contextual only [hk, kept_ite, kept_upd, kept_foldl, kept_foldr, implies_true, and_self, keptOut_next, keptOut_ite, keptOut_fault, keptOut_awake, State.axReg_kept]

theorem State.axCommand_kept {b0 : Before} (s : State) (p : Pkt) (op : Nat) (safe bad : Bool) (code : Nat) (words : List Nat) (hk : Kept b0 s) : Kept b0 (State.axCommand s p op safe bad code words) := by
  unfold State.axCommand
  simp (maxDischargeDepth := 40) +contextual only [hk, kept_ite, kept_upd, kept_foldl, kept_foldr, implies_true, and_self, keptOut_next, keptOut_ite, keptOut_fault, keptOut_awake, State.command_kept, State.axEnqueue_kept]

theorem execAxisMove_kept {b0 : Before} (p : Pkt) (s : State) (hk : Kept b0 s) : KeptOut b0 (execAxisMove p s) := by
  unfold execAxisMove
  simp (maxDischargeDepth := 40) +contextual only [hk, kept_ite, kept_upd, kept_foldl, kept_foldr, implies_true, and_self, keptOut_next, keptOut_ite, keptOut_fault, keptOut_awake, State.axCommand_kept]

theorem execAxisStop_kept {b0 : Before} (p : Pkt) (s : State) (hk : Kept b0 s) : KeptOut b0 (execAxisStop p s) := by
  unfold execAxisStop
  simp (maxDischargeDepth := 40) +contextual only [hk, kept_ite, kept_upd, kept_foldl, kept_foldr, implies_true, and_self, keptOut_next, keptOut_ite, keptOut_fault, keptOut_awake, State.axCommand_kept]

theorem execAxisEnable_kept {b0 : Before} (p : Pkt) (s : State) (hk : Kept b0 s) : KeptOut b0 (execAxisEnable p s) := by
  unfold execAxisEnable
  simp (maxDischargeDepth := 40) +contextual only [hk, kept_ite, kept_upd, kept_foldl, kept_foldr, implies_true, and_self, keptOut_next, keptOut_ite, keptOut_fault, keptOut_awake, State.axCommand_kept]

theorem execAxisGear_kept {b0 : Before} (p : Pkt) (s : State) (hk : Kept b0 s) : KeptOut b0 (execAxisGear p s) := by
  unfold execAxisGear
  simp (maxDischargeDepth := 40) +contextual only [hk, kept_ite, kept_upd, kept_foldl, kept_foldr, implies_true, and_self, keptOut_next, keptOut_ite, keptOut_fault, keptOut_awake, State.axCommand_kept]

theorem execAxisCam_kept {b0 : Before} (p : Pkt) (s : State) (hk : Kept b0 s) : KeptOut b0 (execAxisCam p s) := by
  unfold execAxisCam
  simp (maxDischargeDepth := 40) +contextual only [hk, kept_ite, kept_upd, kept_foldl, kept_foldr, implies_true, and_self, keptOut_next, keptOut_ite, keptOut_fault, keptOut_awake, State.axCommand_kept]

theorem execAxisPhaseTrim_kept {b0 : Before} (p : Pkt) (s : State) (hk : Kept b0 s) : KeptOut b0 (execAxisPhaseTrim p s) := by
  unfold execAxisPhaseTrim
  simp (maxDischargeDepth := 40) +contextual only [hk, kept_ite, kept_upd, kept_foldl, kept_foldr, implies_true, and_self, keptOut_next, keptOut_ite, keptOut_fault, keptOut_awake, State.axCommand_kept]

theorem State.axConfig_kept {b0 : Before} (s : State) (p : Pkt) (n : Nat) (hk : Kept b0 s) : Kept b0 (State.axConfig s p n) := by
  unfold State.axConfig
  simp (maxDischargeDepth := 40) +contextual only [hk, kept_ite, kept_upd, kept_foldl, kept_foldr, implies_true, and_self, keptOut_next, keptOut_ite, keptOut_fault, keptOut_awake, State.setWord_kept, State.refreshSteppers_kept, State.askCommit_kept]

theorem execAxisConfig_kept {b0 : Before} (p : Pkt) (s : State) (hk : Kept b0 s) : KeptOut b0 (execAxisConfig p s) := by
  unfold execAxisConfig
  simp (maxDischargeDepth := 40) +contextual only [hk, kept_ite, kept_upd, kept_foldl, kept_foldr, implies_true, and_self, keptOut_next, keptOut_ite, keptOut_fault, keptOut_awake, State.command_kept, State.axConfig_kept]

theorem execCamTableWrite_kept {b0 : Before} (p : Pkt) (s : State) (hk : Kept b0 s) : KeptOut b0 (execCamTableWrite p s) := by
  unfold execCamTableWrite
  simp (maxDischargeDepth := 40) +contextual only [hk, kept_ite, kept_upd, kept_foldl, kept_foldr, implies_true, and_self, keptOut_next, keptOut_ite, keptOut_fault, keptOut_awake, State.command_kept, State.setWord_kept, State.done_kept]

theorem execAxisRead_kept {b0 : Before} (p : Pkt) (s : State) (hk : Kept b0 s) : KeptOut b0 (execAxisRead p s) := by
  unfold execAxisRead
  simp (maxDischargeDepth := 40) +contextual only [hk, kept_ite, kept_upd, kept_foldl, kept_foldr, implies_true, and_self, keptOut_next, keptOut_ite, keptOut_fault, keptOut_awake, State.command_kept, State.doneRes_kept]

theorem execAxisStepTable_kept {b0 : Before} (p : Pkt) (s : State) (hk : Kept b0 s) : KeptOut b0 (execAxisStepTable p s) := by
  unfold execAxisStepTable
  simp (maxDischargeDepth := 40) +contextual only [hk, kept_ite, kept_upd, kept_foldl, kept_foldr, implies_true, and_self, keptOut_next, keptOut_ite, keptOut_fault, keptOut_awake, State.command_kept, State.setWord_kept, State.done_kept]

theorem State.leadRange_kept {b0 : Before} (s : State) (g : Nat) (hk : Kept b0 s) : Kept b0 (State.leadRange s g) := by
  unfold State.leadRange
  simp (maxDischargeDepth := 40) +contextual only [hk, kept_ite, kept_upd, kept_foldl, kept_foldr, implies_true, and_self, keptOut_next, keptOut_ite, keptOut_fault, keptOut_awake, State.put_kept, State.raise_kept]

theorem State.latchEncoders_kept {b0 : Before} (s : State) (g : Nat) (hk : Kept b0 s) : Kept b0 (State.latchEncoders s g) := by
  unfold State.latchEncoders
  simp (maxDischargeDepth := 40) +contextual only [hk, kept_ite, kept_upd, kept_foldl, kept_foldr, implies_true, and_self, keptOut_next, keptOut_ite, keptOut_fault, keptOut_awake, State.latchFb2_kept, State.tickSlot_kept, State.encLatchGen_kept]

theorem State.setSpGone_kept {b0 : Before} (s : State) (g : Nat) (b : Bool) (hk : Kept b0 s) : Kept b0 (State.setSpGone s g b) := by
  unfold State.setSpGone
  simp (maxDischargeDepth := 40) +contextual only [hk, kept_ite, kept_upd, kept_foldl, kept_foldr, implies_true, and_self, keptOut_next, keptOut_ite, keptOut_fault, keptOut_awake, State.setGen_kept]

theorem State.samplePoint_kept {b0 : Before} (s : State) (g : Nat) (hk : Kept b0 s) : Kept b0 (State.samplePoint s g) := by
  unfold State.samplePoint
  simp (maxDischargeDepth := 40) +contextual only [hk, kept_ite, kept_upd, kept_foldl, kept_foldr, implies_true, and_self, keptOut_next, keptOut_ite, keptOut_fault, keptOut_awake, State.acqNow_kept, State.setSpGone_kept, State.leadRange_kept, State.latchEncoders_kept]

theorem State.jumpCore_kept {b0 : Before} (s : State) (g new c : Nat) (hk : Kept b0 s) : Kept b0 (State.jumpCore s g new c) := by
  unfold State.jumpCore
  simp (maxDischargeDepth := 40) +contextual only [hk, kept_ite, kept_upd, kept_foldl, kept_foldr, implies_true, and_self, keptOut_next, keptOut_ite, keptOut_fault, keptOut_awake, State.setMissed_kept, State.acqNow_kept]

theorem State.leaveAcq_kept {b0 : Before} (s : State) (g old c : Nat) (hk : Kept b0 s) : Kept b0 (State.leaveAcq s g old c) := by
  unfold State.leaveAcq
  simp (maxDischargeDepth := 40) +contextual only [hk, kept_ite, kept_upd, kept_foldl, kept_foldr, implies_true, and_self, keptOut_next, keptOut_ite, keptOut_fault, keptOut_awake, State.setMissed_kept]

theorem State.syncGen_kept {b0 : Before} (s : State) (bd : Nat → Nat → State → State) (g k : Nat)
    (hb : ∀ g k t, Kept b0 t → Kept b0 (bd g k t)) (h : Kept b0 s) : Kept b0 (s.syncGen bd g k) := by
  unfold State.syncGen
  dsimp only
  split
  · exact h
  · have h1 := kept_foldl (l := (List.range 8).filter (fun c => s.coreSelects g c && !s.leadBad g c)) (f := State.acqNow)
      (fun u c hu => State.acqNow_kept u c hu)
      (kept_foldl (l := (List.range 8).filter (fun c => s.coreSelects g c && !s.leadBad g c))
        (f := fun (t : State) c => t.leaveAcq g (s.posAt g k) c) (fun u c hu => State.leaveAcq_kept u _ _ _ hu)
        (State.raise_kept _ bPWM 11 (State.put_kept _ (F.PWM_STAT_SYNC_SLIP g) 1 h)))
    revert h1
    generalize List.foldl State.acqNow _ _ = s1
    intro h1
    split
    · exact hb _ _ _ h1
    · have h2 := kept_foldl (l := (List.range 8).filter (fun c => s.coreSelects g c && !s.leadBad g c))
        (f := fun (t : State) c => t.jumpCore g (s.syncPos g) c) (fun u c hu => State.jumpCore_kept u _ _ _ hu)
        (State.setSpGone_kept _ g (decide (s.ticks g - s.get (F.PWM_LEAD_LEAD g) < s.syncPos g))
          (State.newPart_kept s1 s1 g (s.syncPos g) (32 * s.posAt g k) k h1))
      split
      · exact State.samplePoint_kept _ _ h2
      · exact h2

theorem boundaryN_kept {b0 : Before} (n g k : Nat) (s : State) (h : Kept b0 s) : Kept b0 (boundaryN n g k s) := by
  induction n generalizing g k s with
  | zero => exact State.boundaryCore_kept s g k h
  | succ n ih =>
    unfold boundaryN
    exact kept_foldl (fun u e hu => State.syncGen_kept u _ _ _ (fun g k t ht => ih g k t ht) hu) (State.boundaryCore_kept s g k h)

theorem State.boundary_kept {b0 : Before} (s : State) (g k : Nat) (hk : Kept b0 s) : Kept b0 (State.boundary s g k) := by
  unfold State.boundary
  simp (maxDischargeDepth := 40) +contextual only [hk, kept_ite, kept_upd, kept_foldl, kept_foldr, implies_true, and_self, keptOut_next, keptOut_ite, keptOut_fault, keptOut_awake, boundaryN_kept]

theorem execPwmBoundary_kept {b0 : Before} (g : Nat) (s : State) (hk : Kept b0 s) : KeptOut b0 (execPwmBoundary g s) := by
  unfold execPwmBoundary
  simp (maxDischargeDepth := 40) +contextual only [hk, kept_ite, kept_upd, kept_foldl, kept_foldr, implies_true, and_self, keptOut_next, keptOut_ite, keptOut_fault, keptOut_awake, State.advanceTick_kept, State.boundary_kept]

theorem execPwmSamplePoint_kept {b0 : Before} (g : Nat) (s : State) (hk : Kept b0 s) : KeptOut b0 (execPwmSamplePoint g s) := by
  unfold execPwmSamplePoint
  simp (maxDischargeDepth := 40) +contextual only [hk, kept_ite, kept_upd, kept_foldl, kept_foldr, implies_true, and_self, keptOut_next, keptOut_ite, keptOut_fault, keptOut_awake, State.advanceTick_kept, State.samplePoint_kept]

theorem State.startAt_kept {b0 : Before} (s : State) (g : Nat) (hk : Kept b0 s) : Kept b0 (State.startAt s g) := by
  unfold State.startAt
  simp (maxDischargeDepth := 40) +contextual only [hk, kept_ite, kept_upd, kept_foldl, kept_foldr, implies_true, and_self, keptOut_next, keptOut_ite, keptOut_fault, keptOut_awake, State.startGen_kept, State.boundary_kept]

theorem execPwmEnWrite_kept {b0 : Before} (g : Nat) (b : Bool) (s : State) (hk : Kept b0 s) : KeptOut b0 (execPwmEnWrite g b s) := by
  unfold execPwmEnWrite
  simp (maxDischargeDepth := 40) +contextual only [hk, kept_ite, kept_upd, kept_foldl, kept_foldr, implies_true, and_self, keptOut_next, keptOut_ite, keptOut_fault, keptOut_awake, State.startAt_kept, State.stopGen_kept]

theorem execPwmStartWrite_kept {b0 : Before} (k : Nat) (v : Word) (s : State) (hk : Kept b0 s) : KeptOut b0 (execPwmStartWrite k v s) := by
  unfold execPwmStartWrite
  simp (maxDischargeDepth := 40) +contextual only [hk, kept_ite, kept_upd, kept_foldl, kept_foldr, implies_true, and_self, keptOut_next, keptOut_ite, keptOut_fault, keptOut_awake, State.startAt_kept]

theorem State.awaitStop_kept {b0 : Before} (s : State) (p : Pkt) (gs : List Nat) (hk : Kept b0 s) : Kept b0 (State.awaitStop s p gs) := by
  unfold State.awaitStop
  simp (maxDischargeDepth := 40) +contextual only [hk, kept_ite, kept_upd, kept_foldl, kept_foldr, implies_true, and_self, keptOut_next, keptOut_ite, keptOut_fault, keptOut_awake, State.done_kept]

theorem execPwmEnable_kept {b0 : Before} (p : Pkt) (s : State) (hk : Kept b0 s) : KeptOut b0 (execPwmEnable p s) := by
  unfold execPwmEnable
  dsimp only
  repeat' split
  all_goals simp (maxDischargeDepth := 40) +contextual only [hk, kept_ite, kept_upd, kept_foldl, kept_foldr, implies_true, and_self, keptOut_next, keptOut_ite, keptOut_fault, keptOut_awake, State.command_kept, State.startAt_kept, State.stopGen_kept, State.done_kept, State.awaitStop_kept]

theorem State.setAcqChan_kept {b0 : Before} (s : State) (c : Nat) (v : AcqChan) (hk : Kept b0 s) : Kept b0 (State.setAcqChan s c v) := by
  unfold State.setAcqChan
  simp (maxDischargeDepth := 40) +contextual only [hk, kept_ite, kept_upd, kept_foldl, kept_foldr, implies_true, and_self, keptOut_next, keptOut_ite, keptOut_fault, keptOut_awake]

theorem State.setAcqUnit_kept {b0 : Before} (s : State) (t : Nat) (v : AcqUnit) (hk : Kept b0 s) : Kept b0 (State.setAcqUnit s t v) := by
  unfold State.setAcqUnit
  simp (maxDischargeDepth := 40) +contextual only [hk, kept_ite, kept_upd, kept_foldl, kept_foldr, implies_true, and_self, keptOut_next, keptOut_ite, keptOut_fault, keptOut_awake]

theorem State.refreshBacklog_kept {b0 : Before} (s : State) (hk : Kept b0 s) : Kept b0 (State.refreshBacklog s) := by
  unfold State.refreshBacklog
  simp (maxDischargeDepth := 40) +contextual only [hk, kept_ite, kept_upd, kept_foldl, kept_foldr, implies_true, and_self, keptOut_next, keptOut_ite, keptOut_fault, keptOut_awake, State.put_kept]

theorem State.acqAppend_kept {b0 : Before} (s : State) (r : AcqRec) (hk : Kept b0 s) : Kept b0 (State.acqAppend s r) := by
  unfold State.acqAppend
  simp (maxDischargeDepth := 40) +contextual only [hk, kept_ite, kept_upd, kept_foldl, kept_foldr, implies_true, and_self, keptOut_next, keptOut_ite, keptOut_fault, keptOut_awake, State.put64_kept, State.refreshBacklog_kept]

theorem State.acqLose_kept {b0 : Before} (s : State) (r : AcqRec) (chan : Option Nat) (hk : Kept b0 s) : Kept b0 (State.acqLose s r chan) := by
  unfold State.acqLose
  dsimp only
  repeat' split
  all_goals simp (maxDischargeDepth := 40) +contextual only [hk, kept_ite, kept_upd, kept_foldl, kept_foldr, implies_true, and_self, keptOut_next, keptOut_ite, keptOut_fault, keptOut_awake, State.incSat_kept, State.raise_kept]

theorem State.acqWrite_kept {b0 : Before} (s : State) (r : AcqRec) (chan : Option Nat) (hk : Kept b0 s) : Kept b0 (State.acqWrite s r chan) := by
  unfold State.acqWrite
  simp (maxDischargeDepth := 40) +contextual only [hk, kept_ite, kept_upd, kept_foldl, kept_foldr, implies_true, and_self, keptOut_next, keptOut_ite, keptOut_fault, keptOut_awake, State.acqLose_kept, State.acqAppend_kept]

theorem State.acqTime_kept {b0 : Before} (s : State) (stepped : Bool) (step : Int) (hk : Kept b0 s) : Kept b0 (State.acqTime s stepped step) := by
  unfold State.acqTime
  simp (maxDischargeDepth := 40) +contextual only [hk, kept_ite, kept_upd, kept_foldl, kept_foldr, implies_true, and_self, keptOut_next, keptOut_ite, keptOut_fault, keptOut_awake, State.acqWrite_kept]

theorem State.acqFire_kept {b0 : Before} (s : State) (ts : Nat) (hk : Kept b0 s) : Kept b0 (State.acqFire s ts) := by
  unfold State.acqFire
  simp (maxDischargeDepth := 40) +contextual only [hk, kept_ite, kept_upd, kept_foldl, kept_foldr, implies_true, and_self, keptOut_next, keptOut_ite, keptOut_fault, keptOut_awake, State.put_kept, State.put64_kept, State.raise_kept, State.acqWrite_kept, State.msix_kept]

theorem State.acqTrigger_kept {b0 : Before} (s : State) (ts : Nat) (hk : Kept b0 s) : Kept b0 (State.acqTrigger s ts) := by
  unfold State.acqTrigger
  simp (maxDischargeDepth := 40) +contextual only [hk, kept_ite, kept_upd, kept_foldl, kept_foldr, implies_true, and_self, keptOut_next, keptOut_ite, keptOut_fault, keptOut_awake, State.stopping_kept, State.acqFire_kept, State.raise_kept]

theorem State.unitChange_kept {b0 : Before} (s : State) (t ts : Nat) (pulse : Bool) (v : AcqUnit) (hk : Kept b0 s) : Kept b0 (State.unitChange s t ts pulse v) := by
  unfold State.unitChange
  simp (maxDischargeDepth := 40) +contextual only [hk, kept_ite, kept_upd, kept_foldl, kept_foldr, implies_true, and_self, keptOut_next, keptOut_ite, keptOut_fault, keptOut_awake, State.setAcqUnit_kept, State.put_kept, State.incSat_kept]

theorem State.unitsChange_kept {b0 : Before} (s : State) (ts : Nat) (f : State → State) (hf : ∀ t, Kept b0 t → Kept b0 (f t))
    (h : Kept b0 s) : Kept b0 (s.unitsChange ts f) := by
  unfold State.unitsChange
  dsimp only
  split
  · exact State.acqTrigger_kept _ _ (hf _ h)
  · exact hf _ h

theorem State.unitValue_kept {b0 : Before} (s : State) (t : Nat) (x : Int) (ts : Nat) (hk : Kept b0 s) : Kept b0 (State.unitValue s t x ts) := by
  unfold State.unitValue
  split <;> simp (maxDischargeDepth := 40) +contextual only [hk, kept_ite, kept_upd, kept_foldl, kept_foldr, implies_true, and_self, keptOut_next, keptOut_ite, keptOut_fault, keptOut_awake, State.unitChange_kept, State.setAcqUnit_kept]

theorem State.unitsValue_kept {b0 : Before} (s : State) (c : Nat) (x : Int) (ts : Nat) (hk : Kept b0 s) : Kept b0 (State.unitsValue s c x ts) := by
  unfold State.unitsValue
  simp (maxDischargeDepth := 40) +contextual only [hk, kept_ite, kept_upd, kept_foldl, kept_foldr, implies_true, and_self, keptOut_next, keptOut_ite, keptOut_fault, keptOut_awake, State.unitsChange_kept, State.unitValue_kept]

theorem State.acqEvent_kept {b0 : Before} (s : State) (src ts : Nat) (hk : Kept b0 s) : Kept b0 (State.acqEvent s src ts) := by
  unfold State.acqEvent
  simp (maxDischargeDepth := 40) +contextual only [hk, kept_ite, kept_upd, kept_foldl, kept_foldr, implies_true, and_self, keptOut_next, keptOut_ite, keptOut_fault, keptOut_awake, State.unitsChange_kept, State.unitChange_kept]

theorem State.acqClose_kept {b0 : Before} (s : State) (c : Nat) (short : Bool) (hk : Kept b0 s) : Kept b0 (State.acqClose s c short) := by
  unfold State.acqClose
  simp (maxDischargeDepth := 40) +contextual only [hk, kept_ite, kept_upd, kept_foldl, kept_foldr, implies_true, and_self, keptOut_next, keptOut_ite, keptOut_fault, keptOut_awake, State.setAcqChan_kept, State.acqWrite_kept]

theorem State.acqTake_kept {b0 : Before} (s0 : State) (c : Nat) (x : Int) (ts : Nat) (src : Bool) (a : Nat) (hk : Kept b0 s0) : Kept b0 (State.acqTake s0 c x ts src a) := by
  unfold State.acqTake
  simp (maxDischargeDepth := 40) +contextual only [hk, kept_ite, kept_upd, kept_foldl, kept_foldr, implies_true, and_self, keptOut_next, keptOut_ite, keptOut_fault, keptOut_awake, State.setAcqChan_kept, State.incSat_kept, State.raise_kept, State.puti_kept, State.unitsValue_kept, State.acqClose_kept]

theorem State.acqValue_kept {b0 : Before} (s : State) (sig edge : Nat) (hk : Kept b0 s) : Kept b0 (State.acqValue s sig edge) := by
  unfold State.acqValue
  simp (maxDischargeDepth := 40) +contextual only [hk, kept_ite, kept_upd, kept_foldl, kept_foldr, implies_true, and_self, keptOut_next, keptOut_ite, keptOut_fault, keptOut_awake, State.stopping_kept, State.acqTake_kept]

theorem execAcqValue_kept {b0 : Before} (sig edge : Nat) (s : State) (hk : Kept b0 s) : KeptOut b0 (execAcqValue sig edge s) := by
  unfold execAcqValue
  simp (maxDischargeDepth := 40) +contextual only [hk, kept_ite, kept_upd, kept_foldl, kept_foldr, implies_true, and_self, keptOut_next, keptOut_ite, keptOut_fault, keptOut_awake, State.acqValue_kept]

theorem State.refreshSpill_kept {b0 : Before} (s : State) (hk : Kept b0 s) : Kept b0 (State.refreshSpill s) := by
  unfold State.refreshSpill
  simp (maxDischargeDepth := 40) +contextual only [hk, kept_ite, kept_upd, kept_foldl, kept_foldr, implies_true, and_self, keptOut_next, keptOut_ite, keptOut_fault, keptOut_awake, State.put_kept]

theorem State.spillRec_kept {b0 : Before} (s : State) (cs : List Nat) (undo : Bool) (hk : Kept b0 s) : Kept b0 (State.spillRec s cs undo) := by
  unfold State.spillRec
  simp (maxDischargeDepth := 40) +contextual only [hk, kept_ite, kept_upd, kept_foldl, kept_foldr, implies_true, and_self, keptOut_next, keptOut_ite, keptOut_fault, keptOut_awake, State.acqWrite_kept]

theorem State.spillStep_kept {b0 : Before} (s : State) (hk : Kept b0 s) : Kept b0 (State.spillStep s) := by
  unfold State.spillStep
  simp (maxDischargeDepth := 40) +contextual only [hk, kept_ite, kept_upd, kept_foldl, kept_foldr, implies_true, and_self, keptOut_next, keptOut_ite, keptOut_fault, keptOut_awake, State.put_kept, State.refreshSpill_kept, State.spillRec_kept, State.raise_kept, State.msix_kept]

theorem State.spillUndo_kept {b0 : Before} (s : State) (hk : Kept b0 s) : Kept b0 (State.spillUndo s) := by
  unfold State.spillUndo
  split <;> simp (maxDischargeDepth := 40) +contextual only [hk, kept_ite, kept_upd, kept_foldl, kept_foldr, implies_true, and_self, keptOut_next, keptOut_ite, keptOut_fault, keptOut_awake, State.put_kept, State.refreshSpill_kept, State.spillRec_kept, State.raise_kept, State.msix_kept]

theorem State.spillCheck_kept {b0 : Before} (s : State) (hk : Kept b0 s) : Kept b0 (State.spillCheck s) := by
  unfold State.spillCheck
  simp (maxDischargeDepth := 40) +contextual only [hk, kept_ite, kept_upd, kept_foldl, kept_foldr, implies_true, and_self, keptOut_next, keptOut_ite, keptOut_fault, keptOut_awake, State.spillStep_kept, State.spillUndo_kept]

theorem execSpillwayCheck_kept {b0 : Before} (s : State) (hk : Kept b0 s) : KeptOut b0 (execSpillwayCheck s) := by
  unfold execSpillwayCheck
  simp (maxDischargeDepth := 40) +contextual only [hk, kept_ite, kept_upd, kept_foldl, kept_foldr, implies_true, and_self, keptOut_next, keptOut_ite, keptOut_fault, keptOut_awake, State.advanceTo_kept, State.spillCheck_kept]

theorem State.acqIdle_kept {b0 : Before} (s : State) (hk : Kept b0 s) : Kept b0 (State.acqIdle s) := by
  unfold State.acqIdle
  simp (maxDischargeDepth := 40) +contextual only [hk, kept_ite, kept_upd, kept_foldl, kept_foldr, implies_true, and_self, keptOut_next, keptOut_ite, keptOut_fault, keptOut_awake, State.put_kept, State.refreshSpill_kept, State.refreshBacklog_kept]

theorem State.acqPretrig_kept {b0 : Before} (s : State) (hk : Kept b0 s) : Kept b0 (State.acqPretrig s) := by
  unfold State.acqPretrig
  simp (maxDischargeDepth := 40) +contextual only [hk, kept_ite, kept_upd, kept_foldl, kept_foldr, implies_true, and_self, keptOut_next, keptOut_ite, keptOut_fault, keptOut_awake, State.put_kept, State.refreshBacklog_kept, State.acqFire_kept]

theorem State.captureEnd_kept {b0 : Before} (s : State) (ts : Nat) (trunc : Bool) (hk : Kept b0 s) : Kept b0 (State.captureEnd s ts trunc) := by
  unfold State.captureEnd
  simp (maxDischargeDepth := 40) +contextual only [hk, kept_ite, kept_upd, kept_foldl, kept_foldr, implies_true, and_self, keptOut_next, keptOut_ite, keptOut_fault, keptOut_awake, State.acqWrite_kept]

theorem execPosttrigEnd_kept {b0 : Before} (s : State) (hk : Kept b0 s) : KeptOut b0 (execPosttrigEnd s) := by
  unfold execPosttrigEnd
  simp (maxDischargeDepth := 40) +contextual only [hk, kept_ite, kept_upd, kept_foldl, kept_foldr, implies_true, and_self, keptOut_next, keptOut_ite, keptOut_fault, keptOut_awake, State.stopping_kept, State.advanceTo_kept, State.captureEnd_kept, State.put_kept]

theorem execDrainDone_kept {b0 : Before} (s : State) (hk : Kept b0 s) : KeptOut b0 (execDrainDone s) := by
  unfold execDrainDone
  simp (maxDischargeDepth := 40) +contextual only [hk, kept_ite, kept_upd, kept_foldl, kept_foldr, implies_true, and_self, keptOut_next, keptOut_ite, keptOut_fault, keptOut_awake, State.stopping_kept, State.raise_kept, State.msix_kept, State.put_kept, State.acqIdle_kept]

theorem execHoldoffExpiry_kept {b0 : Before} (s : State) (hk : Kept b0 s) : KeptOut b0 (execHoldoffExpiry s) := by
  unfold execHoldoffExpiry
  simp (maxDischargeDepth := 40) +contextual only [hk, kept_ite, kept_upd, kept_foldl, kept_foldr, implies_true, and_self, keptOut_next, keptOut_ite, keptOut_fault, keptOut_awake, State.advanceTo_kept, State.acqPretrig_kept]

theorem State.handover_kept {b0 : Before} (s : State) (n : Nat) (hk : Kept b0 s) : Kept b0 (State.handover s n) := by
  unfold State.handover
  split <;> simp (maxDischargeDepth := 40) +contextual only [hk, kept_ite, kept_upd, kept_foldl, kept_foldr, implies_true, and_self, keptOut_next, keptOut_ite, keptOut_fault, keptOut_awake, State.put64_kept, State.refreshBacklog_kept, State.msix_kept, State.stopping_kept, State.acqIdle_kept]

theorem execBufferHandover_kept {b0 : Before} (n : Nat) (s : State) (hk : Kept b0 s) : KeptOut b0 (execBufferHandover n s) := by
  unfold execBufferHandover
  simp (maxDischargeDepth := 40) +contextual only [hk, kept_ite, kept_upd, kept_foldl, kept_foldr, implies_true, and_self, keptOut_next, keptOut_ite, keptOut_fault, keptOut_awake, State.handover_kept]

theorem State.acqHalt_kept {b0 : Before} (s : State) (hk : Kept b0 s) : Kept b0 (State.acqHalt s) := by
  unfold State.acqHalt
  simp (maxDischargeDepth := 40) +contextual only [hk, kept_ite, kept_upd, kept_foldl, kept_foldr, implies_true, and_self, keptOut_next, keptOut_ite, keptOut_fault, keptOut_awake, State.msix_kept]

theorem State.acqArm_kept {b0 : Before} (s : State) (hk : Kept b0 s) : Kept b0 (State.acqArm s) := by
  unfold State.acqArm
  simp (maxDischargeDepth := 40) +contextual only [hk, kept_ite, kept_upd, kept_foldl, kept_foldr, implies_true, and_self, keptOut_next, keptOut_ite, keptOut_fault, keptOut_awake, State.put64_kept, State.put_kept, State.acqPretrig_kept, State.refreshBacklog_kept]

theorem State.stopHandover_kept {b0 : Before} (s : State) (hk : Kept b0 s) : Kept b0 (State.stopHandover s) := by
  unfold State.stopHandover
  simp (maxDischargeDepth := 40) +contextual only [hk, kept_ite, kept_upd, kept_foldl, kept_foldr, implies_true, and_self, keptOut_next, keptOut_ite, keptOut_fault, keptOut_awake, State.fresh_kept, State.handover_kept]

theorem State.acqStop_kept {b0 : Before} (s : State) (discard : Bool) (hk : Kept b0 s) : Kept b0 (State.acqStop s discard) := by
  unfold State.acqStop
  simp (maxDischargeDepth := 40) +contextual only [hk, kept_ite, kept_upd, kept_foldl, kept_foldr, implies_true, and_self, keptOut_next, keptOut_ite, keptOut_fault, keptOut_awake, State.acqClose_kept, State.stopHandover_kept, State.stopping_kept, State.captureEnd_kept, State.acqIdle_kept, State.put_kept]

theorem execAcqTimeTrigger_kept {b0 : Before} (t : Nat) (s : State) (hk : Kept b0 s) : KeptOut b0 (execAcqTimeTrigger t s) := by
  unfold execAcqTimeTrigger
  simp (maxDischargeDepth := 40) +contextual only [hk, kept_ite, kept_upd, kept_foldl, kept_foldr, implies_true, and_self, keptOut_next, keptOut_ite, keptOut_fault, keptOut_awake, State.advanceTo_kept, State.unitsChange_kept, State.unitChange_kept]

theorem execAcqChannel_kept {b0 : Before} (p : Pkt) (s : State) (hk : Kept b0 s) : KeptOut b0 (execAcqChannel p s) := by
  unfold execAcqChannel
  simp (maxDischargeDepth := 40) +contextual only [hk, kept_ite, kept_upd, kept_foldl, kept_foldr, implies_true, and_self, keptOut_next, keptOut_ite, keptOut_fault, keptOut_awake, State.command_kept, State.setWord_kept, State.done_kept]

theorem State.unitWrite_kept {b0 : Before} (s : State) (t v : Nat) (hk : Kept b0 s) : Kept b0 (State.unitWrite s t v) := by
  unfold State.unitWrite
  simp (maxDischargeDepth := 40) +contextual only [hk, kept_ite, kept_upd, kept_foldl, kept_foldr, implies_true, and_self, keptOut_next, keptOut_ite, keptOut_fault, keptOut_awake, State.setWord_kept, State.put_kept, State.setAcqUnit_kept]

theorem execAcqTrigger_kept {b0 : Before} (p : Pkt) (s : State) (hk : Kept b0 s) : KeptOut b0 (execAcqTrigger p s) := by
  unfold execAcqTrigger
  simp (maxDischargeDepth := 40) +contextual only [hk, kept_ite, kept_upd, kept_foldl, kept_foldr, implies_true, and_self, keptOut_next, keptOut_ite, keptOut_fault, keptOut_awake, State.command_kept, State.setWord_kept, State.put_kept, State.put64_kept, State.unitWrite_kept, State.done_kept]

theorem execAcqArm_kept {b0 : Before} (p : Pkt) (s : State) (hk : Kept b0 s) : KeptOut b0 (execAcqArm p s) := by
  unfold execAcqArm
  simp (maxDischargeDepth := 40) +contextual only [hk, kept_ite, kept_upd, kept_foldl, kept_foldr, implies_true, and_self, keptOut_next, keptOut_ite, keptOut_fault, keptOut_awake, State.command_kept, State.fresh_kept, State.put64_kept, State.setWord_kept, State.put_kept, State.acqArm_kept, State.done_kept]

theorem execAcqStop_kept {b0 : Before} (p : Pkt) (s : State) (hk : Kept b0 s) : KeptOut b0 (execAcqStop p s) := by
  unfold execAcqStop
  simp (maxDischargeDepth := 40) +contextual only [hk, kept_ite, kept_upd, kept_foldl, kept_foldr, implies_true, and_self, keptOut_next, keptOut_ite, keptOut_fault, keptOut_awake, State.command_kept, State.acqStop_kept, State.done_kept]

theorem State.releaseBufs_kept {b0 : Before} (s : State) (m : Nat) (hk : Kept b0 s) : Kept b0 (State.releaseBufs s m) := by
  unfold State.releaseBufs
  simp (maxDischargeDepth := 40) +contextual only [hk, kept_ite, kept_upd, kept_foldl, kept_foldr, implies_true, and_self, keptOut_next, keptOut_ite, keptOut_fault, keptOut_awake]

theorem execAcqStream_kept {b0 : Before} (p : Pkt) (s : State) (hk : Kept b0 s) : KeptOut b0 (execAcqStream p s) := by
  unfold execAcqStream
  simp (maxDischargeDepth := 40) +contextual only [hk, kept_ite, kept_upd, kept_foldl, kept_foldr, implies_true, and_self, keptOut_next, keptOut_ite, keptOut_fault, keptOut_awake, State.command_kept, State.releaseBufs_kept, State.done_kept]

theorem execAcqStatus_kept {b0 : Before} (p : Pkt) (s : State) (hk : Kept b0 s) : KeptOut b0 (execAcqStatus p s) := by
  unfold execAcqStatus
  simp (maxDischargeDepth := 40) +contextual only [hk, kept_ite, kept_upd, kept_foldl, kept_foldr, implies_true, and_self, keptOut_next, keptOut_ite, keptOut_fault, keptOut_awake, State.command_kept, State.doneRes_kept]

theorem State.measureRes_kept {b0 : Before} (s : State) (l : List AcqPt) (trig : Nat) (hk : Kept b0 s) : Kept b0 (State.measureRes s l trig).2 := by
  unfold State.measureRes
  simp (maxDischargeDepth := 40) +contextual only [hk, kept_ite, kept_upd, kept_foldl, kept_foldr, implies_true, and_self, keptOut_next, keptOut_ite, keptOut_fault, keptOut_awake]

theorem execAcqMeasure_kept {b0 : Before} (p : Pkt) (s : State) (h : Kept b0 s) : KeptOut b0 (execAcqMeasure p s) := by
  unfold execAcqMeasure
  rw [keptOut_next]
  refine State.command_kept s p _ _ _ (fun t ht => ?_) h
  split
  · exact State.done_kept _ _ _ ht
  · exact State.doneRes_kept _ _ _ (State.measureRes_kept _ _ _ ht)

theorem State.setTimeSt_kept {b0 : Before} (s : State) (st src : Nat) (force : Bool) (hk : Kept b0 s) : Kept b0 (State.setTimeSt s st src force) := by
  unfold State.setTimeSt
  simp (maxDischargeDepth := 40) +contextual only [hk, kept_ite, kept_upd, kept_foldl, kept_foldr, implies_true, and_self, keptOut_next, keptOut_ite, keptOut_fault, keptOut_awake, State.put_kept, State.postSev_kept, State.acqTime_kept, State.timeSync_kept]

theorem State.firstSample_kept {b0 : Before} (s : State) (hk : Kept b0 s) : Kept b0 (State.firstSample s) := by
  unfold State.firstSample
  simp (maxDischargeDepth := 40) +contextual only [hk, kept_ite, kept_upd, kept_foldl, kept_foldr, implies_true, and_self, keptOut_next, keptOut_ite, keptOut_fault, keptOut_awake]

theorem State.activeLost_kept {b0 : Before} (s : State) (hk : Kept b0 s) : Kept b0 (State.activeLost s) := by
  unfold State.activeLost
  simp (maxDischargeDepth := 40) +contextual only [hk, kept_ite, kept_upd, kept_foldl, kept_foldr, implies_true, and_self, keptOut_next, keptOut_ite, keptOut_fault, keptOut_awake, State.setRate_kept, State.setTimeSt_kept, State.raise_kept]

theorem State.sourceLost_kept {b0 : Before} (s : State) (src : Nat) (hk : Kept b0 s) : Kept b0 (State.sourceLost s src) := by
  unfold State.sourceLost
  simp (maxDischargeDepth := 40) +contextual only [hk, kept_ite, kept_upd, kept_foldl, kept_foldr, implies_true, and_self, keptOut_next, keptOut_ite, keptOut_fault, keptOut_awake, State.activeLost_kept]

theorem State.sourceBack_kept {b0 : Before} (s : State) (src : Nat) (hk : Kept b0 s) : Kept b0 (State.sourceBack s src) := by
  unfold State.sourceBack
  simp (maxDischargeDepth := 40) +contextual only [hk, kept_ite, kept_upd, kept_foldl, kept_foldr, implies_true, and_self, keptOut_next, keptOut_ite, keptOut_fault, keptOut_awake, State.setTimeSt_kept, State.firstSample_kept]

theorem State.cmpPast_kept {b0 : Before} (s : State) (n : Nat) (hk : Kept b0 s) : Kept b0 (State.cmpPast s n) := by
  unfold State.cmpPast
  simp (maxDischargeDepth := 40) +contextual only [hk, kept_ite, kept_upd, kept_foldl, kept_foldr, implies_true, and_self, keptOut_next, keptOut_ite, keptOut_fault, keptOut_awake, State.put64_kept, State.put_kept, State.raise_kept]

theorem State.capRestamp_kept {b0 : Before} (s : State) (n : Nat) (hk : Kept b0 s) : Kept b0 (State.capRestamp s n) := by
  unfold State.capRestamp
  simp (maxDischargeDepth := 40) +contextual only [hk, kept_ite, kept_upd, kept_foldl, kept_foldr, implies_true, and_self, keptOut_next, keptOut_ite, keptOut_fault, keptOut_awake]

theorem State.stepTime_kept {b0 : Before} (s : State) (d : Int) (hk : Kept b0 s) : Kept b0 (State.stepTime s d) := by
  unfold State.stepTime
  simp (maxDischargeDepth := 40) +contextual only [hk, kept_ite, kept_upd, kept_foldl, kept_foldr, implies_true, and_self, keptOut_next, keptOut_ite, keptOut_fault, keptOut_awake, State.capRestamp_kept, State.markTime_kept, State.setFine_kept, State.firstSample_kept, State.schedStep_kept, State.raise_kept, State.post_kept, State.timeSync_kept, State.acqTime_kept, State.cmpPast_kept]

theorem State.servo_kept {b0 : Before} (s : State) (o : Int) (n : Nat) (hk : Kept b0 s) : Kept b0 (State.servo s o n) := by
  unfold State.servo
  simp (maxDischargeDepth := 40) +contextual only [hk, kept_ite, kept_upd, kept_foldl, kept_foldr, implies_true, and_self, keptOut_next, keptOut_ite, keptOut_fault, keptOut_awake, State.setRate_kept]

theorem State.judgeLock_kept {b0 : Before} (s : State) (o : Int) (hk : Kept b0 s) : Kept b0 (State.judgeLock s o) := by
  unfold State.judgeLock
  simp (maxDischargeDepth := 40) +contextual only [hk, kept_ite, kept_upd, kept_foldl, kept_foldr, implies_true, and_self, keptOut_next, keptOut_ite, keptOut_fault, keptOut_awake, State.setTimeSt_kept, State.raise_kept]

theorem State.timeSample_kept {b0 : Before} (s : State) (o : Int) (hk : Kept b0 s) : Kept b0 (State.timeSample s o) := by
  unfold State.timeSample
  simp (maxDischargeDepth := 40) +contextual only [hk, kept_ite, kept_upd, kept_foldl, kept_foldr, implies_true, and_self, keptOut_next, keptOut_ite, keptOut_fault, keptOut_awake, State.puti_kept, State.sourceBack_kept, State.stepTime_kept, State.judgeLock_kept, State.servo_kept]

theorem State.selWritten_kept {b0 : Before} (s : State) (sel : Nat) (hk : Kept b0 s) : Kept b0 (State.selWritten s sel) := by
  unfold State.selWritten
  simp (maxDischargeDepth := 40) +contextual only [hk, kept_ite, kept_upd, kept_foldl, kept_foldr, implies_true, and_self, keptOut_next, keptOut_ite, keptOut_fault, keptOut_awake, State.put_kept, State.firstSample_kept, State.setTimeSt_kept, State.raise_kept]

theorem State.timeSrcWrite_kept {b0 : Before} (s : State) (v : Nat) (hk : Kept b0 s) : Kept b0 (State.timeSrcWrite s v) := by
  unfold State.timeSrcWrite
  simp (maxDischargeDepth := 40) +contextual only [hk, kept_ite, kept_upd, kept_foldl, kept_foldr, implies_true, and_self, keptOut_next, keptOut_ite, keptOut_fault, keptOut_awake, State.reject_kept, State.put_kept, State.selWritten_kept]

theorem execTimeSrcWrite_kept {b0 : Before} (v : Word) (s : State) (hk : Kept b0 s) : KeptOut b0 (execTimeSrcWrite v s) := by
  unfold execTimeSrcWrite
  simp (maxDischargeDepth := 40) +contextual only [hk, kept_ite, kept_upd, kept_foldl, kept_foldr, implies_true, and_self, keptOut_next, keptOut_ite, keptOut_fault, keptOut_awake, State.timeSrcWrite_kept]

theorem State.setPtp_kept {b0 : Before} (s : State) (src : Nat) (b : Bool) (hk : Kept b0 s) : Kept b0 (State.setPtp s src b) := by
  unfold State.setPtp
  simp (maxDischargeDepth := 40) +contextual only [hk, kept_ite, kept_upd, kept_foldl, kept_foldr, implies_true, and_self, keptOut_next, keptOut_ite, keptOut_fault, keptOut_awake]

theorem State.ptpOffset_kept {b0 : Before} (s : State) (v : Nat) (hk : Kept b0 s) : Kept b0 (State.ptpOffset s v) := by
  unfold State.ptpOffset
  split <;> simp (maxDischargeDepth := 40) +contextual only [hk, kept_ite, kept_upd, kept_foldl, kept_foldr, implies_true, and_self, keptOut_next, keptOut_ite, keptOut_fault, keptOut_awake, State.setPtp_kept, State.timeSample_kept]

theorem execPtpOffsetWrite_kept {b0 : Before} (v : Word) (s : State) (hk : Kept b0 s) : KeptOut b0 (execPtpOffsetWrite v s) := by
  unfold execPtpOffsetWrite
  simp (maxDischargeDepth := 40) +contextual only [hk, kept_ite, kept_upd, kept_foldl, kept_foldr, implies_true, and_self, keptOut_next, keptOut_ite, keptOut_fault, keptOut_awake, State.ptpOffset_kept]

theorem State.dropSource_kept {b0 : Before} (s : State) (src : Nat) (hk : Kept b0 s) : Kept b0 (State.dropSource s src) := by
  unfold State.dropSource
  simp (maxDischargeDepth := 40) +contextual only [hk, kept_ite, kept_upd, kept_foldl, kept_foldr, implies_true, and_self, keptOut_next, keptOut_ite, keptOut_fault, keptOut_awake, State.setPtp_kept]

theorem execTimeSourceLost_kept {b0 : Before} (src : Nat) (s : State) (hk : Kept b0 s) : KeptOut b0 (execTimeSourceLost src s) := by
  unfold execTimeSourceLost
  simp (maxDischargeDepth := 40) +contextual only [hk, kept_ite, kept_upd, kept_foldl, kept_foldr, implies_true, and_self, keptOut_next, keptOut_ite, keptOut_fault, keptOut_awake, State.dropSource_kept, State.sourceLost_kept]

theorem execHoldLimitExpiry_kept {b0 : Before} (s : State) (hk : Kept b0 s) : KeptOut b0 (execHoldLimitExpiry s) := by
  unfold execHoldLimitExpiry
  simp (maxDischargeDepth := 40) +contextual only [hk, kept_ite, kept_upd, kept_foldl, kept_foldr, implies_true, and_self, keptOut_next, keptOut_ite, keptOut_fault, keptOut_awake, State.setTimeSt_kept, State.firstSample_kept, State.setRate_kept]

theorem State.tickGroups_kept {b0 : Before} (s : State) (mask : Nat) (hk : Kept b0 s) : Kept b0 (State.tickGroups s mask) := by
  unfold State.tickGroups
  simp (maxDischargeDepth := 40) +contextual only [hk, kept_ite, kept_upd, kept_foldl, kept_foldr, implies_true, and_self, keptOut_next, keptOut_ite, keptOut_fault, keptOut_awake, State.tickSlot_kept]

theorem State.cmpPin_kept {b0 : Before} (s : State) (n : Nat) (hk : Kept b0 s) : Kept b0 (State.cmpPin s n) := by
  unfold State.cmpPin
  simp (maxDischargeDepth := 40) +contextual only [hk, kept_ite, kept_upd, kept_foldl, kept_foldr, implies_true, and_self, keptOut_next, keptOut_ite, keptOut_fault, keptOut_awake]

theorem State.progTrg_kept {b0 : Before} (s : State) (w2 w3 : Nat) (hk : Kept b0 s) : Kept b0 (State.progTrg s w2 w3) := by
  unfold State.progTrg
  simp (maxDischargeDepth := 40) +contextual only [hk, kept_ite, kept_upd, kept_foldl, kept_foldr, implies_true, and_self, keptOut_next, keptOut_ite, keptOut_fault, keptOut_awake]

theorem State.cmpNote_kept {b0 : Before} (s : State) (tg sched adc : Nat) (hk : Kept b0 s) : Kept b0 (State.cmpNote s tg sched adc) := by
  unfold State.cmpNote
  simp (maxDischargeDepth := 40) +contextual only [hk, kept_ite, kept_upd, kept_foldl, kept_foldr, implies_true, and_self, keptOut_next, keptOut_ite, keptOut_fault, keptOut_awake]

theorem State.cmpPulse_kept {b0 : Before} (s : State) (n : Nat) (hk : Kept b0 s) : Kept b0 (State.cmpPulse s n) := by
  unfold State.cmpPulse
  simp (maxDischargeDepth := 40) +contextual only [hk, kept_ite, kept_upd, kept_foldl, kept_foldr, implies_true, and_self, keptOut_next, keptOut_ite, keptOut_fault, keptOut_awake, State.cmpNote_kept, State.adcTriggers_kept, State.mirInputIf_kept, State.tickGroups_kept, State.eventLine_kept, State.progTrg_kept, State.cmpPin_kept, State.acqEvent_kept, State.pulse_kept]

theorem State.cmpFire_kept {b0 : Before} (s : State) (n : Nat) (hk : Kept b0 s) : Kept b0 (State.cmpFire s n) := by
  unfold State.cmpFire
  simp (maxDischargeDepth := 40) +contextual only [hk, kept_ite, kept_upd, kept_foldl, kept_foldr, implies_true, and_self, keptOut_next, keptOut_ite, keptOut_fault, keptOut_awake, State.advanceTo_kept, State.advanceTick_kept, State.cmpPulse_kept, State.put64_kept]

theorem execCmpFire_kept {b0 : Before} (n : Nat) (s : State) (hk : Kept b0 s) : KeptOut b0 (execCmpFire n s) := by
  unfold execCmpFire
  simp (maxDischargeDepth := 40) +contextual only [hk, kept_ite, kept_upd, kept_foldl, kept_foldr, implies_true, and_self, keptOut_next, keptOut_ite, keptOut_fault, keptOut_awake, State.cmpFire_kept]

theorem State.cmpEnable_kept {b0 : Before} (s : State) (n : Nat) (hk : Kept b0 s) : Kept b0 (State.cmpEnable s n) := by
  unfold State.cmpEnable
  simp (maxDischargeDepth := 40) +contextual only [hk, kept_ite, kept_upd, kept_foldl, kept_foldr, implies_true, and_self, keptOut_next, keptOut_ite, keptOut_fault, keptOut_awake, State.reject_kept, State.put_kept, State.cmpPast_kept]

theorem State.cmpCtrl_kept {b0 : Before} (s : State) (n v : Nat) (hk : Kept b0 s) : Kept b0 (State.cmpCtrl s n v) := by
  unfold State.cmpCtrl
  simp (maxDischargeDepth := 40) +contextual only [hk, kept_ite, kept_upd, kept_foldl, kept_foldr, implies_true, and_self, keptOut_next, keptOut_ite, keptOut_fault, keptOut_awake, State.put_kept, State.lockReject_kept, State.cmpEnable_kept]

theorem execCmpnCtrlWrite_kept {b0 : Before} (n : Nat) (v : Word) (s : State) (hk : Kept b0 s) : KeptOut b0 (execCmpnCtrlWrite n v s) := by
  unfold execCmpnCtrlWrite
  simp (maxDischargeDepth := 40) +contextual only [hk, kept_ite, kept_upd, kept_foldl, kept_foldr, implies_true, and_self, keptOut_next, keptOut_ite, keptOut_fault, keptOut_awake, State.cmpCtrl_kept]

theorem State.setCapFifo_kept {b0 : Before} (s : State) (n : Nat) (q : List (Nat × Bool)) (hk : Kept b0 s) : Kept b0 (State.setCapFifo s n q) := by
  unfold State.setCapFifo
  simp (maxDischargeDepth := 40) +contextual only [hk, kept_ite, kept_upd, kept_foldl, kept_foldr, implies_true, and_self, keptOut_next, keptOut_ite, keptOut_fault, keptOut_awake, State.put_kept]

theorem State.capPush_kept {b0 : Before} (s : State) (n : Nat) (e : Nat × Bool) (hk : Kept b0 s) : Kept b0 (State.capPush s n e) := by
  unfold State.capPush
  simp (maxDischargeDepth := 40) +contextual only [hk, kept_ite, kept_upd, kept_foldl, kept_foldr, implies_true, and_self, keptOut_next, keptOut_ite, keptOut_fault, keptOut_awake, State.setCapFifo_kept, State.incSat_kept, State.put_kept, State.raise_kept]

theorem State.capEdge_kept {b0 : Before} (s : State) (n : Nat) (rising : Bool) (ts : Nat) (hk : Kept b0 s) : Kept b0 (State.capEdge s n rising ts) := by
  unfold State.capEdge
  dsimp only
  repeat' split
  all_goals simp (maxDischargeDepth := 40) +contextual only [hk, kept_ite, kept_upd, kept_foldl, kept_foldr, implies_true, and_self, keptOut_next, keptOut_ite, keptOut_fault, keptOut_awake, State.capPush_kept, State.adcTriggers_kept, State.acqEvent_kept, State.pulse_kept]

theorem execCapEdge_kept {b0 : Before} (n : Nat) (rising : Bool) (samples : Nat) (s : State) (hk : Kept b0 s) : KeptOut b0 (execCapEdge n rising samples s) := by
  unfold execCapEdge
  simp (maxDischargeDepth := 40) +contextual only [hk, kept_ite, kept_upd, kept_foldl, kept_foldr, implies_true, and_self, keptOut_next, keptOut_ite, keptOut_fault, keptOut_awake, State.capEdge_kept, State.mirInputIf_kept]

theorem State.capCtrl_kept {b0 : Before} (s : State) (n v : Nat) (hk : Kept b0 s) : Kept b0 (State.capCtrl s n v) := by
  unfold State.capCtrl
  simp (maxDischargeDepth := 40) +contextual only [hk, kept_ite, kept_upd, kept_foldl, kept_foldr, implies_true, and_self, keptOut_next, keptOut_ite, keptOut_fault, keptOut_awake, State.lockReject_kept, State.setWord_kept, State.setCapFifo_kept, State.put_kept]

theorem State.setTsq_kept {b0 : Before} (s : State) (p : Nat) (q : List TxStamp) (hk : Kept b0 s) : Kept b0 (State.setTsq s p q) := by
  unfold State.setTsq
  simp (maxDischargeDepth := 40) +contextual only [hk, kept_ite, kept_upd, kept_foldl, kept_foldr, implies_true, and_self, keptOut_next, keptOut_ite, keptOut_fault, keptOut_awake, State.put_kept]

theorem State.tsqPush_kept {b0 : Before} (s : State) (p : Nat) (e : TxStamp) (hk : Kept b0 s) : Kept b0 (State.tsqPush s p e) := by
  unfold State.tsqPush
  simp (maxDischargeDepth := 40) +contextual only [hk, kept_ite, kept_upd, kept_foldl, kept_foldr, implies_true, and_self, keptOut_next, keptOut_ite, keptOut_fault, keptOut_awake, State.setTsq_kept, State.incSat_kept, State.raise_kept]

theorem State.tsqPop_kept {b0 : Before} (s : State) (p : Nat) (hk : Kept b0 s) : Kept b0 (State.tsqPop s p).2 := by
  unfold State.tsqPop
  split <;> simp (maxDischargeDepth := 40) +contextual only [hk, kept_ite, kept_upd, kept_foldl, kept_foldr, implies_true, and_self, keptOut_next, keptOut_ite, keptOut_fault, keptOut_awake, State.put_kept, State.setTsq_kept]

theorem State.ethSent_kept {b0 : Before} (s : State) (p : Nat) (ok : Bool) (stamp : Nat) (hk : Kept b0 s) : Kept b0 (State.ethSent s p ok stamp) := by
  unfold State.ethSent
  simp (maxDischargeDepth := 40) +contextual only [hk, kept_ite, kept_upd, kept_foldl, kept_foldr, implies_true, and_self, keptOut_next, keptOut_ite, keptOut_fault, keptOut_awake, State.setWord_kept, State.put_kept, State.tsqPush_kept, State.pulse_kept]

theorem execEthFrameSent_kept {b0 : Before} (port : Nat) (ok : Bool) (stamp : Nat) (s : State) (hk : Kept b0 s) : KeptOut b0 (execEthFrameSent port ok stamp s) := by
  unfold execEthFrameSent
  simp (maxDischargeDepth := 40) +contextual only [hk, kept_ite, kept_upd, kept_foldl, kept_foldr, implies_true, and_self, keptOut_next, keptOut_ite, keptOut_fault, keptOut_awake, State.ethSent_kept]

theorem State.ethRx_kept {b0 : Before} (s : State) (p len : Nat) (data : List Word) (bad : Bool) (stamp : Nat) (hk : Kept b0 s) : Kept b0 (State.ethRx s p len data bad stamp) := by
  unfold State.ethRx
  simp (maxDischargeDepth := 40) +contextual only [hk, kept_ite, kept_upd, kept_foldl, kept_foldr, implies_true, and_self, keptOut_next, keptOut_ite, keptOut_fault, keptOut_awake, State.raise_kept, State.putBytes_kept, State.setWords_kept, State.put_kept, State.pulse_kept]

theorem execEthFrameRx_kept {b0 : Before} (port len : Nat) (data : List Word) (bad : Bool) (stamp : Nat) (s : State) (hk : Kept b0 s) : KeptOut b0 (execEthFrameRx port len data bad stamp s) := by
  unfold execEthFrameRx
  simp (maxDischargeDepth := 40) +contextual only [hk, kept_ite, kept_upd, kept_foldl, kept_foldr, implies_true, and_self, keptOut_next, keptOut_ite, keptOut_fault, keptOut_awake, State.ethRx_kept]

theorem State.mdioWrite_kept {b0 : Before} (s : State) (p v : Nat) (hk : Kept b0 s) : Kept b0 (State.mdioWrite s p v) := by
  unfold State.mdioWrite
  simp (maxDischargeDepth := 40) +contextual only [hk, kept_ite, kept_upd, kept_foldl, kept_foldr, implies_true, and_self, keptOut_next, keptOut_ite, keptOut_fault, keptOut_awake, State.setWord_kept]

theorem execEthMdioGo_kept {b0 : Before} (port : Nat) (v : Word) (s : State) (hk : Kept b0 s) : KeptOut b0 (execEthMdioGo port v s) := by
  unfold execEthMdioGo
  simp (maxDischargeDepth := 40) +contextual only [hk, kept_ite, kept_upd, kept_foldl, kept_foldr, implies_true, and_self, keptOut_next, keptOut_ite, keptOut_fault, keptOut_awake, State.mdioWrite_kept]

theorem execEthMdioDone_kept {b0 : Before} (port data : Nat) (s : State) (hk : Kept b0 s) : KeptOut b0 (execEthMdioDone port data s) := by
  unfold execEthMdioDone
  simp (maxDischargeDepth := 40) +contextual only [hk, kept_ite, kept_upd, kept_foldl, kept_foldr, implies_true, and_self, keptOut_next, keptOut_ite, keptOut_fault, keptOut_awake, State.put_kept]

theorem State.ethCtrl_kept {b0 : Before} (s : State) (p v : Nat) (hk : Kept b0 s) : Kept b0 (State.ethCtrl s p v) := by
  unfold State.ethCtrl
  simp (maxDischargeDepth := 40) +contextual only [hk, kept_ite, kept_upd, kept_foldl, kept_foldr, implies_true, and_self, keptOut_next, keptOut_ite, keptOut_fault, keptOut_awake, State.lockReject_kept, State.setWord_kept, State.put_kept]

theorem execTimeConfig_kept {b0 : Before} (p : Pkt) (s : State) (hk : Kept b0 s) : KeptOut b0 (execTimeConfig p s) := by
  unfold execTimeConfig
  simp (maxDischargeDepth := 40) +contextual only [hk, kept_ite, kept_upd, kept_foldl, kept_foldr, implies_true, and_self, keptOut_next, keptOut_ite, keptOut_fault, keptOut_awake, State.command_kept, State.setWord_kept, State.put_kept, State.timeSrcWrite_kept, State.done_kept]

theorem execTimeRead_kept {b0 : Before} (p : Pkt) (ports : Nat) (s : State) (hk : Kept b0 s) : KeptOut b0 (execTimeRead p ports s) := by
  unfold execTimeRead
  simp (maxDischargeDepth := 40) +contextual only [hk, kept_ite, kept_upd, kept_foldl, kept_foldr, implies_true, and_self, keptOut_next, keptOut_ite, keptOut_fault, keptOut_awake, State.command_kept, State.doneRes_kept]

theorem State.timeStepWrite_kept {b0 : Before} (s : State) (v : Nat) (hk : Kept b0 s) : Kept b0 (State.timeStepWrite s v) := by
  unfold State.timeStepWrite
  simp (maxDischargeDepth := 40) +contextual only [hk, kept_ite, kept_upd, kept_foldl, kept_foldr, implies_true, and_self, keptOut_next, keptOut_ite, keptOut_fault, keptOut_awake, State.reject_kept, State.stepTime_kept]

theorem State.timeRateWrite_kept {b0 : Before} (s : State) (v : Nat) (hk : Kept b0 s) : Kept b0 (State.timeRateWrite s v) := by
  unfold State.timeRateWrite
  simp (maxDischargeDepth := 40) +contextual only [hk, kept_ite, kept_upd, kept_foldl, kept_foldr, implies_true, and_self, keptOut_next, keptOut_ite, keptOut_fault, keptOut_awake, State.setRate_kept, State.reject_kept]

end Sys2Proof.Machine
end

