-- ==== Sys2Proof/Laws/KeptRing.lean ====
section
/-! SUPPORT. What every operation keeps (`Kept`: the store canonical, the queue, blown fuses): the Hawser ring. One lemma per operation and
one per command, each citing the lemmas of what it calls. -/

set_option linter.unusedSimpArgs false

namespace Sys2Proof.Machine

theorem State.storeBank_kept {b0 : Before} (s : State) (b : Nat) (ws : List Nat) (hk : Kept b0 s) : Kept b0 (State.storeBank s b ws) := by
  unfold State.storeBank
  simp (maxDischargeDepth := 40) +contextual only [hk, kept_ite, kept_upd, kept_foldl, kept_foldr, implies_true, and_self, keptOut_next, keptOut_ite, keptOut_fault, keptOut_awake, State.setWords_kept]

theorem State.readBank_kept {b0 : Before} (s : State) (b : Nat) (hk : Kept b0 s) : Kept b0 (State.readBank s b) := by
  unfold State.readBank
  simp (maxDischargeDepth := 40) +contextual only [hk, kept_ite, kept_upd, kept_foldl, kept_foldr, implies_true, and_self, keptOut_next, keptOut_ite, keptOut_fault, keptOut_awake]

theorem State.commitBank_kept {b0 : Before} (s : State) (b sw : Nat) (hk : Kept b0 s) : Kept b0 (State.commitBank s b sw) := by
  unfold State.commitBank
  simp (maxDischargeDepth := 40) +contextual only [hk, kept_ite, kept_upd, kept_foldl, kept_foldr, implies_true, and_self, keptOut_next, keptOut_ite, keptOut_fault, keptOut_awake, State.put_kept, State.dropCommit_kept, State.askCommit_kept]

theorem State.commitRing_kept {b0 : Before} (s : State) (hk : Kept b0 s) : Kept b0 (State.commitRing s) := by
  unfold State.commitRing
  simp (maxDischargeDepth := 40) +contextual only [hk, kept_ite, kept_upd, kept_foldl, kept_foldr, implies_true, and_self, keptOut_next, keptOut_ite, keptOut_fault, keptOut_awake, State.activateAll_kept, State.endCommit_kept]

theorem State.ringRec_kept {b0 : Before} (s : State) (kind hi : Nat) (hk : Kept b0 s) : Kept b0 (State.ringRec s kind hi) := by
  unfold State.ringRec
  simp (maxDischargeDepth := 40) +contextual only [hk, kept_ite, kept_upd, kept_foldl, kept_foldr, implies_true, and_self, keptOut_next, keptOut_ite, keptOut_fault, keptOut_awake, State.post_kept]

theorem State.takeRank_kept {b0 : Before} (s : State) (ws : List Nat) (hk : Kept b0 s) : Kept b0 (State.takeRank s ws) := by
  unfold State.takeRank
  split <;> simp (maxDischargeDepth := 40) +contextual only [hk, kept_ite, kept_upd, kept_foldl, kept_foldr, implies_true, and_self, keptOut_next, keptOut_ite, keptOut_fault, keptOut_awake, State.put_kept]

theorem State.selRing_kept {b0 : Before} (s : State) (hk : Kept b0 s) : Kept b0 (State.selRing s) := by
  unfold State.selRing
  simp (maxDischargeDepth := 40) +contextual only [hk, kept_ite, kept_upd, kept_foldl, kept_foldr, implies_true, and_self, keptOut_next, keptOut_ite, keptOut_fault, keptOut_awake, State.selWritten_kept]

theorem State.selJoin_kept {b0 : Before} (s : State) (joins : Bool) (hk : Kept b0 s) : Kept b0 (State.selJoin s joins) := by
  unfold State.selJoin
  simp (maxDischargeDepth := 40) +contextual only [hk, kept_ite, kept_upd, kept_foldl, kept_foldr, implies_true, and_self, keptOut_next, keptOut_ite, keptOut_fault, keptOut_awake, State.selRing_kept]

theorem State.setRingSt_kept {b0 : Before} (s : State) (st : Nat) (hk : Kept b0 s) : Kept b0 (State.setRingSt s st) := by
  unfold State.setRingSt
  simp (maxDischargeDepth := 40) +contextual only [hk, kept_ite, kept_upd, kept_foldl, kept_foldr, implies_true, and_self, keptOut_next, keptOut_ite, keptOut_fault, keptOut_awake, State.put_kept, State.setErr_kept, State.setStage_kept, State.selJoin_kept]

theorem State.startWrap_kept {b0 : Before} (s : State) (p : Nat) (hk : Kept b0 s) : Kept b0 (State.startWrap s p) := by
  unfold State.startWrap
  simp (maxDischargeDepth := 40) +contextual only [hk, kept_ite, kept_upd, kept_foldl, kept_foldr, implies_true, and_self, keptOut_next, keptOut_ite, keptOut_fault, keptOut_awake, State.put_kept, State.incSat_kept]

theorem State.masterPort_kept {b0 : Before} (s : State) (p : Nat) (hk : Kept b0 s) : Kept b0 (State.masterPort s p) := by
  unfold State.masterPort
  simp (maxDischargeDepth := 40) +contextual only [hk, kept_ite, kept_upd, kept_foldl, kept_foldr, implies_true, and_self, keptOut_next, keptOut_ite, keptOut_fault, keptOut_awake, State.put_kept]

theorem State.becomeMaster_kept {b0 : Before} (s0 : State) (hk : Kept b0 s0) : Kept b0 (State.becomeMaster s0) := by
  unfold State.becomeMaster
  simp (maxDischargeDepth := 40) +contextual only [hk, kept_ite, kept_upd, kept_foldl, kept_foldr, implies_true, and_self, keptOut_next, keptOut_ite, keptOut_fault, keptOut_awake, State.put_kept, State.put64_kept, State.masterPort_kept, State.selWritten_kept]

theorem State.abandonLoad_kept {b0 : Before} (s : State) (hk : Kept b0 s) : Kept b0 (State.abandonLoad s) := by
  unfold State.abandonLoad
  simp (maxDischargeDepth := 40) +contextual only [hk, kept_ite, kept_upd, kept_foldl, kept_foldr, implies_true, and_self, keptOut_next, keptOut_ite, keptOut_fault, keptOut_awake, State.doneOpt_kept]

theorem State.giveUpRole_kept {b0 : Before} (s : State) (hk : Kept b0 s) : Kept b0 (State.giveUpRole s) := by
  unfold State.giveUpRole
  simp (maxDischargeDepth := 40) +contextual only [hk, kept_ite, kept_upd, kept_foldl, kept_foldr, implies_true, and_self, keptOut_next, keptOut_ite, keptOut_fault, keptOut_awake, State.put_kept, State.abandonLoad_kept, State.selRing_kept]

theorem State.handBack_kept {b0 : Before} (s : State) (hk : Kept b0 s) : Kept b0 (State.handBack s) := by
  unfold State.handBack
  simp (maxDischargeDepth := 40) +contextual only [hk, kept_ite, kept_upd, kept_foldl, kept_foldr, implies_true, and_self, keptOut_next, keptOut_ite, keptOut_fault, keptOut_awake, State.startWrap_kept, State.giveUpRole_kept]

theorem State.handRole_kept {b0 : Before} (s : State) (sc : Sched) (m : Option (Nat × Nat)) (hk : Kept b0 s) : Kept b0 (State.handRole s sc m) := by
  unfold State.handRole
  split <;> simp (maxDischargeDepth := 40) +contextual only [hk, kept_ite, kept_upd, kept_foldl, kept_foldr, implies_true, and_self, keptOut_next, keptOut_ite, keptOut_fault, keptOut_awake, State.put_kept, State.becomeMaster_kept, State.ringRec_kept, State.handBack_kept, State.put64_kept]

theorem State.switchBank_kept {b0 : Before} (s : State) (b : Nat) (late : Bool) (hk : Kept b0 s) : Kept b0 (State.switchBank s b late) := by
  unfold State.switchBank
  split <;> simp (maxDischargeDepth := 40) +contextual only [hk, kept_ite, kept_upd, kept_foldl, kept_foldr, implies_true, and_self, keptOut_next, keptOut_ite, keptOut_fault, keptOut_awake, State.put_kept, State.raise_kept, State.ringRec_kept, State.doneOpt_kept, State.handRole_kept, State.disarmAbsent_kept, State.setRingSt_kept]

theorem State.bankCycle_kept {b0 : Before} (s : State) (k : Nat) (hk : Kept b0 s) : Kept b0 (State.bankCycle s k) := by
  unfold State.bankCycle
  simp (maxDischargeDepth := 40) +contextual only [hk, kept_ite, kept_upd, kept_foldl, kept_foldr, implies_true, and_self, keptOut_next, keptOut_ite, keptOut_fault, keptOut_awake, State.switchBank_kept]

theorem State.refuseImage_kept {b0 : Before} (s : State) (why : Nat) (hk : Kept b0 s) : Kept b0 (State.refuseImage s why) := by
  unfold State.refuseImage
  simp (maxDischargeDepth := 40) +contextual only [hk, kept_ite, kept_upd, kept_foldl, kept_foldr, implies_true, and_self, keptOut_next, keptOut_ite, keptOut_fault, keptOut_awake, State.ringRec_kept, State.setRingSt_kept]

theorem State.acceptImage_kept {b0 : Before} (s : State) (ws : List Nat) (sw : Nat) (hk : Kept b0 s) : Kept b0 (State.acceptImage s ws sw) := by
  unfold State.acceptImage
  split <;> simp (maxDischargeDepth := 40) +contextual only [hk, kept_ite, kept_upd, kept_foldl, kept_foldr, implies_true, and_self, keptOut_next, keptOut_ite, keptOut_fault, keptOut_awake, State.refuseImage_kept, State.storeBank_kept, State.takeRank_kept, State.commitBank_kept]

theorem State.putOut_kept {b0 : Before} (s : State) (l : List (Nat × List Nat)) (hk : Kept b0 s) : Kept b0 (State.putOut s l) := by
  unfold State.putOut
  simp (maxDischargeDepth := 40) +contextual only [hk, kept_ite, kept_upd, kept_foldl, kept_foldr, implies_true, and_self, keptOut_next, keptOut_ite, keptOut_fault, keptOut_awake]

theorem State.sendClaim_kept {b0 : Before} (s : State) (hk : Kept b0 s) : Kept b0 (State.sendClaim s) := by
  unfold State.sendClaim
  simp (maxDischargeDepth := 40) +contextual only [hk, kept_ite, kept_upd, kept_foldl, kept_foldr, implies_true, and_self, keptOut_next, keptOut_ite, keptOut_fault, keptOut_awake, State.putOut_kept]

theorem State.nextClaim_kept {b0 : Before} (s : State) (hk : Kept b0 s) : Kept b0 (State.nextClaim s) := by
  unfold State.nextClaim
  simp (maxDischargeDepth := 40) +contextual only [hk, kept_ite, kept_upd, kept_foldl, kept_foldr, implies_true, and_self, keptOut_next, keptOut_ite, keptOut_fault, keptOut_awake, State.sendClaim_kept]

theorem State.enterClaim_kept {b0 : Before} (s : State) (hk : Kept b0 s) : Kept b0 (State.enterClaim s) := by
  unfold State.enterClaim
  simp (maxDischargeDepth := 40) +contextual only [hk, kept_ite, kept_upd, kept_foldl, kept_foldr, implies_true, and_self, keptOut_next, keptOut_ite, keptOut_fault, keptOut_awake, State.dropSched_kept, State.put_kept, State.setRingSt_kept, State.sendClaim_kept]

theorem State.clearRingCounters_kept {b0 : Before} (s : State) (hk : Kept b0 s) : Kept b0 (State.clearRingCounters s) := by
  unfold State.clearRingCounters
  simp (maxDischargeDepth := 40) +contextual only [hk, kept_ite, kept_upd, kept_foldl, kept_foldr, implies_true, and_self, keptOut_next, keptOut_ite, keptOut_fault, keptOut_awake, State.setWord_kept]

theorem State.ringStart_kept {b0 : Before} (s : State) (hk : Kept b0 s) : Kept b0 (State.ringStart s) := by
  unfold State.ringStart
  simp (maxDischargeDepth := 40) +contextual only [hk, kept_ite, kept_upd, kept_foldl, kept_foldr, implies_true, and_self, keptOut_next, keptOut_ite, keptOut_fault, keptOut_awake, State.put_kept, State.clearRingCounters_kept, State.startWrap_kept, State.enterClaim_kept]

theorem State.ringStop_kept {b0 : Before} (s : State) (hk : Kept b0 s) : Kept b0 (State.ringStop s) := by
  unfold State.ringStop
  simp (maxDischargeDepth := 40) +contextual only [hk, kept_ite, kept_upd, kept_foldl, kept_foldr, implies_true, and_self, keptOut_next, keptOut_ite, keptOut_fault, keptOut_awake, State.put_kept, State.giveUpRole_kept, State.abandonLoad_kept, State.dropSched_kept, State.dropSource_kept, State.sourceLost_kept]

theorem State.ringCtrl_kept {b0 : Before} (s : State) (v : Nat) (hk : Kept b0 s) : Kept b0 (State.ringCtrl s v) := by
  unfold State.ringCtrl
  simp (maxDischargeDepth := 40) +contextual only [hk, kept_ite, kept_upd, kept_foldl, kept_foldr, implies_true, and_self, keptOut_next, keptOut_ite, keptOut_fault, keptOut_awake, State.lockReject_kept, State.setWord_kept, State.put_kept, State.ringStart_kept, State.ringStop_kept]

theorem execRingRunWrite_kept {b0 : Before} (v : Word) (s : State) (hk : Kept b0 s) : KeptOut b0 (execRingRunWrite v s) := by
  unfold execRingRunWrite
  simp (maxDischargeDepth := 40) +contextual only [hk, kept_ite, kept_upd, kept_foldl, kept_foldr, implies_true, and_self, keptOut_next, keptOut_ite, keptOut_fault, keptOut_awake, State.ringCtrl_kept]

theorem State.winClaim_kept {b0 : Before} (s : State) (hk : Kept b0 s) : Kept b0 (State.winClaim s) := by
  unfold State.winClaim
  simp (maxDischargeDepth := 40) +contextual only [hk, kept_ite, kept_upd, kept_foldl, kept_foldr, implies_true, and_self, keptOut_next, keptOut_ite, keptOut_fault, keptOut_awake, State.put_kept, State.becomeMaster_kept, State.setRingSt_kept, State.ringRec_kept]

theorem State.claimBack_kept {b0 : Before} (s : State) (p round : Nat) (hk : Kept b0 s) : Kept b0 (State.claimBack s p round) := by
  unfold State.claimBack
  simp (maxDischargeDepth := 40) +contextual only [hk, kept_ite, kept_upd, kept_foldl, kept_foldr, implies_true, and_self, keptOut_next, keptOut_ite, keptOut_fault, keptOut_awake, State.put_kept, State.winClaim_kept, State.nextClaim_kept]

theorem State.claimOther_kept {b0 : Before} (s : State) (port rank uid : Nat) (ws : List Nat) (hk : Kept b0 s) : Kept b0 (State.claimOther s port rank uid ws) := by
  unfold State.claimOther
  simp (maxDischargeDepth := 40) +contextual only [hk, kept_ite, kept_upd, kept_foldl, kept_foldr, implies_true, and_self, keptOut_next, keptOut_ite, keptOut_fault, keptOut_awake, State.putOut_kept, State.put_kept]

theorem execClaimFrameRx_kept {b0 : Before} (port : Nat) (ws : List Word) (s : State) (hk : Kept b0 s) : KeptOut b0 (execClaimFrameRx port ws s) := by
  unfold execClaimFrameRx
  simp (maxDischargeDepth := 40) +contextual only [hk, kept_ite, kept_upd, kept_foldl, kept_foldr, implies_true, and_self, keptOut_next, keptOut_ite, keptOut_fault, keptOut_awake, State.claimBack_kept, State.claimOther_kept]

theorem execClaimTimeout_kept {b0 : Before} (s : State) (hk : Kept b0 s) : KeptOut b0 (execClaimTimeout s) := by
  unfold execClaimTimeout
  simp (maxDischargeDepth := 40) +contextual only [hk, kept_ite, kept_upd, kept_foldl, kept_foldr, implies_true, and_self, keptOut_next, keptOut_ite, keptOut_fault, keptOut_awake, State.put_kept, State.nextClaim_kept]

theorem execRefLossTimeout_kept {b0 : Before} (s : State) (hk : Kept b0 s) : KeptOut b0 (execRefLossTimeout s) := by
  unfold execRefLossTimeout
  simp (maxDischargeDepth := 40) +contextual only [hk, kept_ite, kept_upd, kept_foldl, kept_foldr, implies_true, and_self, keptOut_next, keptOut_ite, keptOut_fault, keptOut_awake, State.put_kept, State.enterClaim_kept]

theorem State.linkDown_kept {b0 : Before} (s : State) (p : Nat) (hk : Kept b0 s) : Kept b0 (State.linkDown s p) := by
  unfold State.linkDown
  simp (maxDischargeDepth := 40) +contextual only [hk, kept_ite, kept_upd, kept_foldl, kept_foldr, implies_true, and_self, keptOut_next, keptOut_ite, keptOut_fault, keptOut_awake, State.put_kept, State.incSat_kept, State.raise_kept, State.startWrap_kept]

theorem execRingLinkDown_kept {b0 : Before} (port : Nat) (s : State) (hk : Kept b0 s) : KeptOut b0 (execRingLinkDown port s) := by
  unfold execRingLinkDown
  simp (maxDischargeDepth := 40) +contextual only [hk, kept_ite, kept_upd, kept_foldl, kept_foldr, implies_true, and_self, keptOut_next, keptOut_ite, keptOut_fault, keptOut_awake, State.linkDown_kept]

theorem State.linkUp_kept {b0 : Before} (s : State) (p : Nat) (hk : Kept b0 s) : Kept b0 (State.linkUp s p) := by
  unfold State.linkUp
  simp (maxDischargeDepth := 40) +contextual only [hk, kept_ite, kept_upd, kept_foldl, kept_foldr, implies_true, and_self, keptOut_next, keptOut_ite, keptOut_fault, keptOut_awake, State.put_kept, State.raise_kept]

theorem execRingLinkUp_kept {b0 : Before} (port : Nat) (h1 : Bool) (s : State) (hk : Kept b0 s) : KeptOut b0 (execRingLinkUp port h1 s) := by
  unfold execRingLinkUp
  simp (maxDischargeDepth := 40) +contextual only [hk, kept_ite, kept_upd, kept_foldl, kept_foldr, implies_true, and_self, keptOut_next, keptOut_ite, keptOut_fault, keptOut_awake, State.linkUp_kept, State.incSat_kept]

theorem execTurnBackStop_kept {b0 : Before} (port : Nat) (s : State) (hk : Kept b0 s) : KeptOut b0 (execTurnBackStop port s) := by
  unfold execTurnBackStop
  simp (maxDischargeDepth := 40) +contextual only [hk, kept_ite, kept_upd, kept_foldl, kept_foldr, implies_true, and_self, keptOut_next, keptOut_ite, keptOut_fault, keptOut_awake, State.put_kept]

theorem State.resumeCheck_kept {b0 : Before} (s : State) (hk : Kept b0 s) : Kept b0 (State.resumeCheck s) := by
  unfold State.resumeCheck
  simp (maxDischargeDepth := 40) +contextual only [hk, kept_ite, kept_upd, kept_foldl, kept_foldr, implies_true, and_self, keptOut_next, keptOut_ite, keptOut_fault, keptOut_awake, State.startWrap_kept]

theorem State.toListen_kept {b0 : Before} (s : State) (hk : Kept b0 s) : Kept b0 (State.toListen s) := by
  unfold State.toListen
  simp (maxDischargeDepth := 40) +contextual only [hk, kept_ite, kept_upd, kept_foldl, kept_foldr, implies_true, and_self, keptOut_next, keptOut_ite, keptOut_fault, keptOut_awake, State.setRingSt_kept, State.incSat_kept]

theorem State.judgeBound_kept {b0 : Before} (s : State) (o : Int) (hk : Kept b0 s) : Kept b0 (State.judgeBound s o) := by
  unfold State.judgeBound
  simp (maxDischargeDepth := 40) +contextual only [hk, kept_ite, kept_upd, kept_foldl, kept_foldr, implies_true, and_self, keptOut_next, keptOut_ite, keptOut_fault, keptOut_awake, State.toListen_kept, State.setRingSt_kept]

theorem State.ringSample_kept {b0 : Before} (s : State) (o : Int) (hk : Kept b0 s) : Kept b0 (State.ringSample s o) := by
  unfold State.ringSample
  simp (maxDischargeDepth := 40) +contextual only [hk, kept_ite, kept_upd, kept_foldl, kept_foldr, implies_true, and_self, keptOut_next, keptOut_ite, keptOut_fault, keptOut_awake, State.judgeBound_kept, State.timeSample_kept]

theorem State.altSample_kept {b0 : Before} (s : State) (hk : Kept b0 s) : Kept b0 (State.altSample s) := by
  unfold State.altSample
  split <;> simp (maxDischargeDepth := 40) +contextual only [hk, kept_ite, kept_upd, kept_foldl, kept_foldr, implies_true, and_self, keptOut_next, keptOut_ite, keptOut_fault, keptOut_awake, State.ringSample_kept]

theorem State.sampleEnd_kept {b0 : Before} (s : State) (hk : Kept b0 s) : Kept b0 (State.sampleEnd s) := by
  unfold State.sampleEnd
  simp (maxDischargeDepth := 40) +contextual only [hk, kept_ite, kept_upd, kept_foldl, kept_foldr, implies_true, and_self, keptOut_next, keptOut_ite, keptOut_fault, keptOut_awake, State.toListen_kept]

theorem State.refEnd_kept {b0 : Before} (s : State) (hk : Kept b0 s) : Kept b0 (State.refEnd s) := by
  unfold State.refEnd
  simp (maxDischargeDepth := 40) +contextual only [hk, kept_ite, kept_upd, kept_foldl, kept_foldr, implies_true, and_self, keptOut_next, keptOut_ite, keptOut_fault, keptOut_awake, State.incSat_kept, State.raise_kept]

theorem State.mastersEnd_kept {b0 : Before} (s : State) (hk : Kept b0 s) : Kept b0 (State.mastersEnd s) := by
  unfold State.mastersEnd
  dsimp only
  repeat' split
  all_goals simp (maxDischargeDepth := 40) +contextual only [hk, kept_ite, kept_upd, kept_foldl, kept_foldr, implies_true, and_self, keptOut_next, keptOut_ite, keptOut_fault, keptOut_awake, State.handBack_kept, State.ringRec_kept]

theorem State.capEnd_kept {b0 : Before} (s : State) (hk : Kept b0 s) : Kept b0 (State.capEnd s) := by
  unfold State.capEnd
  simp (maxDischargeDepth := 40) +contextual only [hk, kept_ite, kept_upd, kept_foldl, kept_foldr, implies_true, and_self, keptOut_next, keptOut_ite, keptOut_fault, keptOut_awake]

theorem State.startDist_kept {b0 : Before} (s : State) (ws : List Nat) (c0 : Nat) (hk : Kept b0 s) : Kept b0 (State.startDist s ws c0) := by
  unfold State.startDist
  simp (maxDischargeDepth := 40) +contextual only [hk, kept_ite, kept_upd, kept_foldl, kept_foldr, implies_true, and_self, keptOut_next, keptOut_ite, keptOut_fault, keptOut_awake, State.storeBank_kept, State.takeRank_kept, State.commitBank_kept]

theorem State.bootDist_kept {b0 : Before} (s : State) (hk : Kept b0 s) : Kept b0 (State.bootDist s) := by
  unfold State.bootDist
  simp (maxDischargeDepth := 40) +contextual only [hk, kept_ite, kept_upd, kept_foldl, kept_foldr, implies_true, and_self, keptOut_next, keptOut_ite, keptOut_fault, keptOut_awake, State.startDist_kept, State.ringRec_kept]

theorem State.lackBlock_kept {b0 : Before} (s : State) (k : Nat) (hk : Kept b0 s) : Kept b0 (State.lackBlock s k) := by
  unfold State.lackBlock
  simp (maxDischargeDepth := 40) +contextual only [hk, kept_ite, kept_upd, kept_foldl, kept_foldr, implies_true, and_self, keptOut_next, keptOut_ite, keptOut_fault, keptOut_awake, State.dropSched_kept, State.setRingSt_kept]

theorem State.presenceEnd_kept {b0 : Before} (s : State) (hk : Kept b0 s) : Kept b0 (State.presenceEnd s) := by
  unfold State.presenceEnd
  split <;> simp (maxDischargeDepth := 40) +contextual only [hk, kept_ite, kept_upd, kept_foldl, kept_foldr, implies_true, and_self, keptOut_next, keptOut_ite, keptOut_fault, keptOut_awake, State.setNode_kept]

theorem State.cycleTime_kept {b0 : Before} (s : State) (hk : Kept b0 s) : Kept b0 (State.cycleTime s) := by
  unfold State.cycleTime
  simp (maxDischargeDepth := 40) +contextual only [hk, kept_ite, kept_upd, kept_foldl, kept_foldr, implies_true, and_self, keptOut_next, keptOut_ite, keptOut_fault, keptOut_awake, State.advanceTo_kept]

theorem State.cycleEnd_kept {b0 : Before} (s : State) (hk : Kept b0 s) : Kept b0 (State.cycleEnd s) := by
  unfold State.cycleEnd
  simp (maxDischargeDepth := 40) +contextual only [hk, kept_ite, kept_upd, kept_foldl, kept_foldr, implies_true, and_self, keptOut_next, keptOut_ite, keptOut_fault, keptOut_awake, State.altSample_kept, State.sampleEnd_kept, State.refEnd_kept, State.mastersEnd_kept, State.capEnd_kept, State.resumeCheck_kept]

theorem State.cycleOpen_kept {b0 : Before} (s : State) (k : Nat) (hk : Kept b0 s) : Kept b0 (State.cycleOpen s k) := by
  unfold State.cycleOpen
  simp (maxDischargeDepth := 40) +contextual only [hk, kept_ite, kept_upd, kept_foldl, kept_foldr, implies_true, and_self, keptOut_next, keptOut_ite, keptOut_fault, keptOut_awake, State.put_kept, State.put64_kept]

theorem State.ringSync_kept {b0 : Before} (s : State) (hk : Kept b0 s) : Kept b0 (State.ringSync s) := by
  unfold State.ringSync
  simp (maxDischargeDepth := 40) +contextual only [hk, kept_ite, kept_upd, kept_foldl, kept_foldr, implies_true, and_self, keptOut_next, keptOut_ite, keptOut_fault, keptOut_awake, State.syncGen_kept, boundaryN_kept]

theorem State.cycleDrive_kept {b0 : Before} (s : State) (k : Nat) (hk : Kept b0 s) : Kept b0 (State.cycleDrive s k) := by
  unfold State.cycleDrive
  simp (maxDischargeDepth := 40) +contextual only [hk, kept_ite, kept_upd, kept_foldl, kept_foldr, implies_true, and_self, keptOut_next, keptOut_ite, keptOut_fault, keptOut_awake, State.ringSync_kept, State.adcTriggers_kept, State.encLatchRing_kept, State.servoBoundaries_kept, State.takeSnap_kept, State.eventLine_kept, State.pulse_kept]

theorem State.ringOpen_kept {b0 : Before} (s : State) (hk : Kept b0 s) : Kept b0 (State.ringOpen s) := by
  unfold State.ringOpen
  simp (maxDischargeDepth := 40) +contextual only [hk, kept_ite, kept_upd, kept_foldl, kept_foldr, implies_true, and_self, keptOut_next, keptOut_ite, keptOut_fault, keptOut_awake, State.cycleTime_kept, State.presenceEnd_kept, State.cycleEnd_kept, State.safePoint_kept, State.commitRing_kept, State.cycleOpen_kept, State.bankCycle_kept, State.lackBlock_kept, State.bootDist_kept]

theorem State.linkSample_kept {b0 : Before} (s : State) (p : Nat) (sum : Int) (hk : Kept b0 s) : Kept b0 (State.linkSample s p sum) := by
  unfold State.linkSample
  simp (maxDischargeDepth := 40) +contextual only [hk, kept_ite, kept_upd, kept_foldl, kept_foldr, implies_true, and_self, keptOut_next, keptOut_ite, keptOut_fault, keptOut_awake, State.put_kept]

theorem State.linkExchange_kept {b0 : Before} (s : State) (p : Nat) (f : List Nat) (stamp : Nat) (hk : Kept b0 s) : Kept b0 (State.linkExchange s p f stamp) := by
  unfold State.linkExchange
  dsimp only
  repeat' split
  all_goals simp (maxDischargeDepth := 40) +contextual only [hk, kept_ite, kept_upd, kept_foldl, kept_foldr, implies_true, and_self, keptOut_next, keptOut_ite, keptOut_fault, keptOut_awake, State.linkSample_kept]

theorem State.noteTx_kept {b0 : Before} (s : State) (p k tx : Nat) (hk : Kept b0 s) : Kept b0 (State.noteTx s p k tx) := by
  unfold State.noteTx
  simp (maxDischargeDepth := 40) +contextual only [hk, kept_ite, kept_upd, kept_foldl, kept_foldr, implies_true, and_self, keptOut_next, keptOut_ite, keptOut_fault, keptOut_awake]

theorem State.sendRef_kept {b0 : Before} (s : State) (dep : Nat) (hk : Kept b0 s) : Kept b0 (State.sendRef s dep) := by
  unfold State.sendRef
  simp (maxDischargeDepth := 40) +contextual only [hk, kept_ite, kept_upd, kept_foldl, kept_foldr, implies_true, and_self, keptOut_next, keptOut_ite, keptOut_fault, keptOut_awake, State.noteTx_kept, State.putOut_kept]

theorem execReferenceFrameTx_kept {b0 : Before} (s : State) (hk : Kept b0 s) : KeptOut b0 (execReferenceFrameTx s) := by
  unfold execReferenceFrameTx
  simp (maxDischargeDepth := 40) +contextual only [hk, kept_ite, kept_upd, kept_foldl, kept_foldr, implies_true, and_self, keptOut_next, keptOut_ite, keptOut_fault, keptOut_awake, State.sendRef_kept]

theorem State.joinRing_kept {b0 : Before} (s : State) (f : List Nat) (hk : Kept b0 s) : Kept b0 (State.joinRing s f) := by
  unfold State.joinRing
  dsimp only
  repeat' split
  all_goals simp (maxDischargeDepth := 40) +contextual only [hk, kept_ite, kept_upd, kept_foldl, kept_foldr, implies_true, and_self, keptOut_next, keptOut_ite, keptOut_fault, keptOut_awake, State.put_kept, State.storeBank_kept, State.takeRank_kept, State.setRingSt_kept]

theorem State.followMaster_kept {b0 : Before} (s : State) (f : List Nat) (differs : Bool) (hk : Kept b0 s) : Kept b0 (State.followMaster s f differs) := by
  unfold State.followMaster
  simp (maxDischargeDepth := 40) +contextual only [hk, kept_ite, kept_upd, kept_foldl, kept_foldr, implies_true, and_self, keptOut_next, keptOut_ite, keptOut_fault, keptOut_awake, State.put64_kept, State.put_kept]

theorem State.heldImage_kept {b0 : Before} (s : State) (f : List Nat) (hk : Kept b0 s) : Kept b0 (State.heldImage s f) := by
  unfold State.heldImage
  split <;> simp (maxDischargeDepth := 40) +contextual only [hk, kept_ite, kept_upd, kept_foldl, kept_foldr, implies_true, and_self, keptOut_next, keptOut_ite, keptOut_fault, keptOut_awake, State.commitBank_kept]

theorem State.takePos_kept {b0 : Before} (s : State) (p : Nat) (f : List Nat) (hk : Kept b0 s) : Kept b0 (State.takePos s p f) := by
  unfold State.takePos
  simp (maxDischargeDepth := 40) +contextual only [hk, kept_ite, kept_upd, kept_foldl, kept_foldr, implies_true, and_self, keptOut_next, keptOut_ite, keptOut_fault, keptOut_awake, State.puti_kept, State.put_kept, State.puti64_kept]

theorem State.takeOffset_kept {b0 : Before} (s : State) (p : Nat) (f : List Nat) (stamp : Nat) (hk : Kept b0 s) : Kept b0 (State.takeOffset s p f stamp) := by
  unfold State.takeOffset
  simp (maxDischargeDepth := 40) +contextual only [hk, kept_ite, kept_upd, kept_foldl, kept_foldr, implies_true, and_self, keptOut_next, keptOut_ite, keptOut_fault, keptOut_awake, State.ringSample_kept]

theorem State.forwardRef_kept {b0 : Before} (s : State) (p : Nat) (f : List Nat) (stamp : Nat) (hk : Kept b0 s) : Kept b0 (State.forwardRef s p f stamp) := by
  unfold State.forwardRef
  simp (maxDischargeDepth := 40) +contextual only [hk, kept_ite, kept_upd, kept_foldl, kept_foldr, implies_true, and_self, keptOut_next, keptOut_ite, keptOut_fault, keptOut_awake, State.noteTx_kept, State.putOut_kept]

theorem State.noteMaster_kept {b0 : Before} (s : State) (f : List Nat) (hk : Kept b0 s) : Kept b0 (State.noteMaster s f) := by
  unfold State.noteMaster
  simp (maxDischargeDepth := 40) +contextual only [hk, kept_ite, kept_upd, kept_foldl, kept_foldr, implies_true, and_self, keptOut_next, keptOut_ite, keptOut_fault, keptOut_awake]

theorem State.noteRef_kept {b0 : Before} (s : State) (p : Nat) (f : List Nat) (stamp : Nat) (hk : Kept b0 s) : Kept b0 (State.noteRef s p f stamp) := by
  unfold State.noteRef
  simp (maxDischargeDepth := 40) +contextual only [hk, kept_ite, kept_upd, kept_foldl, kept_foldr, implies_true, and_self, keptOut_next, keptOut_ite, keptOut_fault, keptOut_awake, State.noteMaster_kept]

theorem State.stationRef_kept {b0 : Before} (s : State) (p : Nat) (f : List Nat) (stamp : Nat) (hk : Kept b0 s) : Kept b0 (State.stationRef s p f stamp) := by
  unfold State.stationRef
  simp (maxDischargeDepth := 40) +contextual only [hk, kept_ite, kept_upd, kept_foldl, kept_foldr, implies_true, and_self, keptOut_next, keptOut_ite, keptOut_fault, keptOut_awake, State.joinRing_kept, State.noteRef_kept, State.linkExchange_kept, State.followMaster_kept, State.heldImage_kept, State.takePos_kept, State.sourceBack_kept, State.forwardRef_kept, State.takeOffset_kept]

theorem State.lapCheck_kept {b0 : Before} (s : State) (lap : Nat) (hk : Kept b0 s) : Kept b0 (State.lapCheck s lap) := by
  unfold State.lapCheck
  split <;> simp (maxDischargeDepth := 40) +contextual only [hk, kept_ite, kept_upd, kept_foldl, kept_foldr, implies_true, and_self, keptOut_next, keptOut_ite, keptOut_fault, keptOut_awake, State.raise_kept, State.ringRec_kept]

theorem State.breakNote_kept {b0 : Before} (s : State) (p q hop : Nat) (hk : Kept b0 s) : Kept b0 (State.breakNote s p q hop) := by
  unfold State.breakNote
  simp (maxDischargeDepth := 40) +contextual only [hk, kept_ite, kept_upd, kept_foldl, kept_foldr, implies_true, and_self, keptOut_next, keptOut_ite, keptOut_fault, keptOut_awake, State.put_kept]

theorem State.capCheck_kept {b0 : Before} (s : State) (cap : Nat) (hk : Kept b0 s) : Kept b0 (State.capCheck s cap) := by
  unfold State.capCheck
  split <;> simp (maxDischargeDepth := 40) +contextual only [hk, kept_ite, kept_upd, kept_foldl, kept_foldr, implies_true, and_self, keptOut_next, keptOut_ite, keptOut_fault, keptOut_awake, State.ringRec_kept]

theorem State.masterRef_kept {b0 : Before} (s : State) (p : Nat) (f : List Nat) (stamp : Nat) (hk : Kept b0 s) : Kept b0 (State.masterRef s p f stamp) := by
  unfold State.masterRef
  simp (maxDischargeDepth := 40) +contextual only [hk, kept_ite, kept_upd, kept_foldl, kept_foldr, implies_true, and_self, keptOut_next, keptOut_ite, keptOut_fault, keptOut_awake, State.noteRef_kept, State.linkExchange_kept, State.put_kept, State.lapCheck_kept, State.put64_kept, State.breakNote_kept, State.capCheck_kept]

theorem execReferenceFrameRx_kept {b0 : Before} (port : Nat) (ws : List Word) (stamp : Nat) (s : State) (hk : Kept b0 s) : KeptOut b0 (execReferenceFrameRx port ws stamp s) := by
  unfold execReferenceFrameRx
  simp (maxDischargeDepth := 40) +contextual only [hk, kept_ite, kept_upd, kept_foldl, kept_foldr, implies_true, and_self, keptOut_next, keptOut_ite, keptOut_fault, keptOut_awake, State.masterRef_kept, State.noteRef_kept, State.linkExchange_kept, State.noteMaster_kept, State.stationRef_kept]

theorem execMasterTakeover_kept {b0 : Before} (s : State) (hk : Kept b0 s) : KeptOut b0 (execMasterTakeover s) := by
  unfold execMasterTakeover
  simp (maxDischargeDepth := 40) +contextual only [hk, kept_ite, kept_upd, kept_foldl, kept_foldr, implies_true, and_self, keptOut_next, keptOut_ite, keptOut_fault, keptOut_awake, State.advanceTo_kept, State.becomeMaster_kept, State.incSat_kept, State.ringRec_kept, State.sendRef_kept]

theorem State.countCrc_kept {b0 : Before} (s : State) (p kind : Nat) (hk : Kept b0 s) : Kept b0 (State.countCrc s p kind) := by
  unfold State.countCrc
  simp (maxDischargeDepth := 40) +contextual only [hk, kept_ite, kept_upd, kept_foldl, kept_foldr, implies_true, and_self, keptOut_next, keptOut_ite, keptOut_fault, keptOut_awake, State.incSat_kept, State.lifeAdd64_kept, State.raise_kept]

theorem State.passAnswer_kept {b0 : Before} (s : State) (sc : Sched) (seg len : Nat) (hk : Kept b0 s) : Kept b0 (State.passAnswer s sc seg len) := by
  unfold State.passAnswer
  split <;> simp (maxDischargeDepth := 40) +contextual only [hk, kept_ite, kept_upd, kept_foldl, kept_foldr, implies_true, and_self, keptOut_next, keptOut_ite, keptOut_fault, keptOut_awake, State.setRx_kept, State.setTx_kept, State.fresh_kept, State.incSat_kept, State.raise_kept]

theorem State.answerAll_kept {b0 : Before} (s : State) (sc : Sched) (h : Kept b0 s) : Kept b0 (s.answerAll sc) := by
  unfold State.answerAll
  refine kept_foldl (fun t n ht => ?_) h
  split
  · simp only [kept_ite, ht, State.passAnswer_kept, implies_true, and_self]
  · exact ht

theorem execBightFrameTx_kept {b0 : Before} (s : State) (hk : Kept b0 s) : KeptOut b0 (execBightFrameTx s) := by
  unfold execBightFrameTx
  split <;> simp (maxDischargeDepth := 40) +contextual only [hk, kept_ite, kept_upd, kept_foldl, kept_foldr, implies_true, and_self, keptOut_next, keptOut_ite, keptOut_fault, keptOut_awake, State.answerAll_kept, State.putOut_kept]

theorem State.forwardFrame_kept {b0 : Before} (s : State) (p : Nat) (b : List Nat) (t0 : Nat) (hk : Kept b0 s) : Kept b0 (State.forwardFrame s p b t0) := by
  unfold State.forwardFrame
  simp (maxDischargeDepth := 40) +contextual only [hk, kept_ite, kept_upd, kept_foldl, kept_foldr, implies_true, and_self, keptOut_next, keptOut_ite, keptOut_fault, keptOut_awake, State.incSat_kept, State.putOut_kept, State.countCrc_kept, State.raise_kept]

theorem execFrameForward_kept {b0 : Before} (port len : Nat) (ws : List Word) (t0 : Nat) (s : State) (hk : Kept b0 s) : KeptOut b0 (execFrameForward port len ws t0 s) := by
  unfold execFrameForward
  simp (maxDischargeDepth := 40) +contextual only [hk, kept_ite, kept_upd, kept_foldl, kept_foldr, implies_true, and_self, keptOut_next, keptOut_ite, keptOut_fault, keptOut_awake, State.forwardFrame_kept]

theorem State.sendOwn_kept {b0 : Before} (s : State) (ws : List Nat) (hk : Kept b0 s) : Kept b0 (State.sendOwn s ws) := by
  unfold State.sendOwn
  simp (maxDischargeDepth := 40) +contextual only [hk, kept_ite, kept_upd, kept_foldl, kept_foldr, implies_true, and_self, keptOut_next, keptOut_ite, keptOut_fault, keptOut_awake, State.putOut_kept]

theorem State.sendDist_kept {b0 : Before} (k slot room : Nat) (s : State) (h : Kept b0 s) :
    Kept b0 (State.sendDist k slot room s).1 := by
  induction k generalizing slot room s with
  | zero => exact h
  | succ k ih =>
    unfold State.sendDist
    dsimp only
    split
    · exact h
    · apply ih
      simp (maxDischargeDepth := 40) +contextual only [h, kept_ite, kept_upd, State.sendOwn_kept, implies_true, and_self]

theorem State.sendRepeat_kept {b0 : Before} (s : State) (slot room : Nat) (hk : Kept b0 s) : Kept b0 (State.sendRepeat s slot room).1 := by
  unfold State.sendRepeat
  dsimp only
  repeat' split
  all_goals simp (maxDischargeDepth := 40) +contextual only [hk, kept_ite, kept_upd, kept_foldl, kept_foldr, implies_true, and_self, keptOut_next, keptOut_ite, keptOut_fault, keptOut_awake, State.sendOwn_kept]

theorem State.sendReplies_kept {b0 : Before} (k slot room : Nat) (s : State) (h : Kept b0 s) :
    Kept b0 (State.sendReplies k slot room s).1 := by
  induction k generalizing slot room s with
  | zero => exact h
  | succ k ih =>
    have h1 (r : Reply) : Kept b0 (s.takeReply r) := State.takeReply_kept s r h
    unfold State.sendReplies
    split
    · exact h
    · split
      · exact ih _ _ _ (h1 _)
      · dsimp only
        split
        · exact ih _ _ _ (h1 _)
        · split
          · exact h
          · exact ih _ _ _ (State.sendOwn_kept _ _ (h1 _))

theorem State.txDescEnd_kept {b0 : Before} (s : State) (err : Bool) (hk : Kept b0 s) : Kept b0 (State.txDescEnd s err) := by
  unfold State.txDescEnd
  simp (maxDischargeDepth := 40) +contextual only [hk, kept_ite, kept_upd, kept_foldl, kept_foldr, implies_true, and_self, keptOut_next, keptOut_ite, keptOut_fault, keptOut_awake, State.setWord_kept, State.put_kept]

theorem State.sendQueued_kept {b0 : Before} (k slot room : Nat) (s : State) (h : Kept b0 s) :
    Kept b0 (State.sendQueued k slot room s) := by
  induction k generalizing slot room s with
  | zero => exact h
  | succ k ih =>
    unfold State.sendQueued
    dsimp only
    repeat' split
    all_goals simp (maxDischargeDepth := 40) only [h, ih, State.txDescEnd_kept, State.incSat_kept, State.putOut_kept, State.pulse_kept]

theorem State.slotTx_kept {b0 : Before} (s : State) (slot a b : Nat) (hk : Kept b0 s) : Kept b0 (State.slotTx s slot a b) := by
  unfold State.slotTx
  dsimp only
  repeat' split
  all_goals simp (maxDischargeDepth := 40) +contextual only [hk, kept_ite, kept_upd, kept_foldl, kept_foldr, implies_true, and_self, keptOut_next, keptOut_ite, keptOut_fault, keptOut_awake, State.putOut_kept, State.sendDist_kept, State.sendRepeat_kept, State.sendReplies_kept, State.sendQueued_kept]

theorem execMessageFrameTx_kept {b0 : Before} (slot : Nat) (s : State) (hk : Kept b0 s) : KeptOut b0 (execMessageFrameTx slot s) := by
  unfold execMessageFrameTx
  split <;> simp (maxDischargeDepth := 40) +contextual only [hk, kept_ite, kept_upd, kept_foldl, kept_foldr, implies_true, and_self, keptOut_next, keptOut_ite, keptOut_fault, keptOut_awake, State.slotTx_kept]

theorem State.msgToRing_kept {b0 : Before} (s : State) (b : List Nat) (stamp : Nat) (hk : Kept b0 s) : Kept b0 (State.msgToRing s b stamp) := by
  unfold State.msgToRing
  simp (maxDischargeDepth := 40) +contextual only [hk, kept_ite, kept_upd, kept_foldl, kept_foldr, implies_true, and_self, keptOut_next, keptOut_ite, keptOut_fault, keptOut_awake, State.putBytes_kept, State.setWords_kept, State.raise_kept, State.put_kept, State.pulse_kept]

theorem State.takeBlock_kept {b0 : Before} (s : State) (f : List Nat) (hk : Kept b0 s) : Kept b0 (State.takeBlock s f) := by
  unfold State.takeBlock
  simp (maxDischargeDepth := 40) +contextual only [hk, kept_ite, kept_upd, kept_foldl, kept_foldr, implies_true, and_self, keptOut_next, keptOut_ite, keptOut_fault, keptOut_awake, State.acceptImage_kept]

theorem State.acceptMsg_kept {b0 : Before} (s : State) (b : List Nat) (stamp : Nat) (hk : Kept b0 s) : Kept b0 (State.acceptMsg s b stamp) := by
  unfold State.acceptMsg
  simp (maxDischargeDepth := 40) +contextual only [hk, kept_ite, kept_upd, kept_foldl, kept_foldr, implies_true, and_self, keptOut_next, keptOut_ite, keptOut_fault, keptOut_awake, State.incSat_kept, State.raise_kept, State.msgToRing_kept, State.remoteArrive_kept, State.takeBlock_kept]

theorem State.messageRx_kept {b0 : Before} (s : State) (b : List Nat) (stamp : Nat) (hk : Kept b0 s) : Kept b0 (State.messageRx s b stamp) := by
  unfold State.messageRx
  simp (maxDischargeDepth := 40) +contextual only [hk, kept_ite, kept_upd, kept_foldl, kept_foldr, implies_true, and_self, keptOut_next, keptOut_ite, keptOut_fault, keptOut_awake, State.acceptMsg_kept]

theorem execMessageFrameRx_kept {b0 : Before} (port len : Nat) (ws : List Word) (stamp : Nat) (s : State) (hk : Kept b0 s) : KeptOut b0 (execMessageFrameRx port len ws stamp s) := by
  unfold execMessageFrameRx
  simp (maxDischargeDepth := 40) +contextual only [hk, kept_ite, kept_upd, kept_foldl, kept_foldr, implies_true, and_self, keptOut_next, keptOut_ite, keptOut_fault, keptOut_awake, State.messageRx_kept]

theorem execNodeAbsent_kept {b0 : Before} (n : Nat) (s : State) (hk : Kept b0 s) : KeptOut b0 (execNodeAbsent n s) := by
  unfold execNodeAbsent
  simp (maxDischargeDepth := 40) +contextual only [hk, kept_ite, kept_upd, kept_foldl, kept_foldr, implies_true, and_self, keptOut_next, keptOut_ite, keptOut_fault, keptOut_awake, State.setNode_kept, State.disarm_kept]

theorem State.setChunk_kept {b0 : Before} (s : State) (l : List Nat) (hk : Kept b0 s) : Kept b0 (State.setChunk s l) := by
  unfold State.setChunk
  simp (maxDischargeDepth := 40) +contextual only [hk, kept_ite, kept_upd, kept_foldl, kept_foldr, implies_true, and_self, keptOut_next, keptOut_ite, keptOut_fault, keptOut_awake]

theorem State.loadLast_kept {b0 : Before} (s : State) (p : Pkt) (img : List Nat) (hk : Kept b0 s) : Kept b0 (State.loadLast s p img) := by
  unfold State.loadLast
  split <;> simp (maxDischargeDepth := 40) +contextual only [hk, kept_ite, kept_upd, kept_foldl, kept_foldr, implies_true, and_self, keptOut_next, keptOut_ite, keptOut_fault, keptOut_awake, State.done_kept, State.setChunk_kept, State.accept_kept, State.startDist_kept]

theorem execRingScheduleLoad_kept {b0 : Before} (p : Pkt) (s : State) (hk : Kept b0 s) : KeptOut b0 (execRingScheduleLoad p s) := by
  unfold execRingScheduleLoad
  rw [keptOut_next]
  refine State.command_kept s p _ _ _ (fun t ht => ?_) hk
  try dsimp only
  repeat' split
  all_goals simp (maxDischargeDepth := 40) +contextual only [ht, kept_ite, kept_upd, kept_foldl, kept_foldr, implies_true, and_self, keptOut_next, keptOut_ite, keptOut_fault, keptOut_awake, State.command_kept, State.setChunk_kept, State.done_kept, State.loadLast_kept]

theorem execRingStart_kept {b0 : Before} (p : Pkt) (s : State) (hk : Kept b0 s) : KeptOut b0 (execRingStart p s) := by
  unfold execRingStart
  simp (maxDischargeDepth := 40) +contextual only [hk, kept_ite, kept_upd, kept_foldl, kept_foldr, implies_true, and_self, keptOut_next, keptOut_ite, keptOut_fault, keptOut_awake, State.command_kept, State.ringCtrl_kept, State.done_kept]

theorem execRingStop_kept {b0 : Before} (p : Pkt) (s : State) (hk : Kept b0 s) : KeptOut b0 (execRingStop p s) := by
  unfold execRingStop
  simp (maxDischargeDepth := 40) +contextual only [hk, kept_ite, kept_upd, kept_foldl, kept_foldr, implies_true, and_self, keptOut_next, keptOut_ite, keptOut_fault, keptOut_awake, State.command_kept, State.ringStop_kept, State.done_kept]

theorem execRingStatus_kept {b0 : Before} (p : Pkt) (s : State) (hk : Kept b0 s) : KeptOut b0 (execRingStatus p s) := by
  unfold execRingStatus
  simp (maxDischargeDepth := 40) +contextual only [hk, kept_ite, kept_upd, kept_foldl, kept_foldr, implies_true, and_self, keptOut_next, keptOut_ite, keptOut_fault, keptOut_awake, State.command_kept, State.doneRes_kept]

theorem execRingCounters_kept {b0 : Before} (p : Pkt) (s : State) (hk : Kept b0 s) : KeptOut b0 (execRingCounters p s) := by
  unfold execRingCounters
  simp (maxDischargeDepth := 40) +contextual only [hk, kept_ite, kept_upd, kept_foldl, kept_foldr, implies_true, and_self, keptOut_next, keptOut_ite, keptOut_fault, keptOut_awake, State.command_kept, State.doneRes_kept]

theorem execRingStation_kept {b0 : Before} (p : Pkt) (s : State) (hk : Kept b0 s) : KeptOut b0 (execRingStation p s) := by
  unfold execRingStation
  dsimp only
  repeat' split
  all_goals simp (maxDischargeDepth := 40) +contextual only [hk, kept_ite, kept_upd, kept_foldl, kept_foldr, implies_true, and_self, keptOut_next, keptOut_ite, keptOut_fault, keptOut_awake, State.command_kept, State.doneRes_kept]

theorem execRingMasterRank_kept {b0 : Before} (p : Pkt) (s : State) (hk : Kept b0 s) : KeptOut b0 (execRingMasterRank p s) := by
  unfold execRingMasterRank
  simp (maxDischargeDepth := 40) +contextual only [hk, kept_ite, kept_upd, kept_foldl, kept_foldr, implies_true, and_self, keptOut_next, keptOut_ite, keptOut_fault, keptOut_awake, State.command_kept, State.put_kept, State.done_kept]

end Sys2Proof.Machine
end

