-- ==== Sys2Proof/Laws/KeptProg.lean ====
section
/-! SUPPORT. What every operation keeps (`Kept`: the store canonical, the queue, blown fuses): images, the program and Recipes. One lemma per operation and
one per command, each citing the lemmas of what it calls. -/

set_option linter.unusedSimpArgs false

namespace Sys2Proof.Machine

theorem State.noteFail_kept {b0 : Before} (s : State) (code : Nat) (hk : Kept b0 s) : Kept b0 (State.noteFail s code) := by
  unfold State.noteFail
  simp (maxDischargeDepth := 40) +contextual only [hk, kept_ite, kept_upd, kept_foldl, kept_foldr, implies_true, and_self, keptOut_next, keptOut_ite, keptOut_fault, keptOut_awake, State.put_kept]

theorem State.logEntry_kept {b0 : Before} (s : State) (e : List Nat) (hk : Kept b0 s) : Kept b0 (State.logEntry s e) := by
  unfold State.logEntry
  simp (maxDischargeDepth := 40) +contextual only [hk, kept_ite, kept_upd, kept_foldl, kept_foldr, implies_true, and_self, keptOut_next, keptOut_ite, keptOut_fault, keptOut_awake, State.setWords_kept, State.put_kept, State.setWord_kept, State.raise_kept]

theorem State.putVar_kept {b0 : Before} (s : State) (v : PVar) (lo hi : Nat) (hk : Kept b0 s) : Kept b0 (State.putVar s v lo hi) := by
  unfold State.putVar
  simp (maxDischargeDepth := 40) +contextual only [hk, kept_ite, kept_upd, kept_foldl, kept_foldr, implies_true, and_self, keptOut_next, keptOut_ite, keptOut_fault, keptOut_awake, State.setImg_kept]

theorem State.applyForces_kept {b0 : Before} (s : State) (ks : List Nat) (hk : Kept b0 s) : Kept b0 (State.applyForces s ks) := by
  unfold State.applyForces
  simp (maxDischargeDepth := 40) +contextual only [hk, kept_ite, kept_upd, kept_foldl, kept_foldr, implies_true, and_self, keptOut_next, keptOut_ite, keptOut_fault, keptOut_awake, State.putVar_kept]

theorem State.setRcp_kept {b0 : Before} (s : State) (n : Nat) (r : Recipe) (hk : Kept b0 s) : Kept b0 (State.setRcp s n r) := by
  unfold State.setRcp
  simp (maxDischargeDepth := 40) +contextual only [hk, kept_ite, kept_upd, kept_foldl, kept_foldr, implies_true, and_self, keptOut_next, keptOut_ite, keptOut_fault, keptOut_awake]

theorem RcpRun.claim_kept {b0 : Before} (e : RcpRun) (n kind a : Nat) (hk : Kept b0 e.s) : Kept b0 (RcpRun.claim e n kind a).s := by
  unfold RcpRun.claim
  dsimp only
  repeat' split
  all_goals simp (maxDischargeDepth := 40) +contextual only [hk, kept_ite, kept_upd, kept_foldl, kept_foldr, implies_true, and_self, keptOut_next, keptOut_ite, keptOut_fault, keptOut_awake, State.setRcp_kept, State.setAx_kept]

theorem kept_foldlR {b0 : Before} {α : Type} {f : RcpRun → α → RcpRun} {l : List α} {e : RcpRun}
    (hf : ∀ u a, Kept b0 u.s → Kept b0 (f u a).s) (h : Kept b0 e.s) : Kept b0 (l.foldl f e).s := by
  induction l generalizing e with
  | nil => exact h
  | cons a r ih => exact ih (hf e a h)

theorem RcpRun.claims_kept {b0 : Before} (e : RcpRun) (n i : Nat) (h : Kept b0 e.s) : Kept b0 (e.claims n i).s := by
  unfold RcpRun.claims
  dsimp only
  split
  · exact RcpRun.claim_kept _ _ _ _ h
  · exact RcpRun.claim_kept _ _ _ _ h
  · exact kept_foldlR (fun u a hu => RcpRun.claim_kept _ _ _ _ hu) h
  · exact kept_foldlR (fun u a hu => RcpRun.claim_kept _ _ _ _ hu) h
  · exact h

theorem State.stepEffect_kept {b0 : Before} (s : State) (w : Nat → Nat) (hk : Kept b0 s) : Kept b0 (State.stepEffect s w) := by
  unfold State.stepEffect
  split <;> simp (maxDischargeDepth := 40) +contextual only [hk, kept_ite, kept_upd, kept_foldl, kept_foldr, implies_true, and_self, keptOut_next, keptOut_ite, keptOut_fault, keptOut_awake, State.put_kept, State.axEnqueue_kept, State.gpioLevels_kept]

theorem RcpRun.apply_kept {b0 : Before} (e : RcpRun) (n i : Nat) (h : Kept b0 e.s) : Kept b0 (e.apply n i).s := by
  have h1 := RcpRun.claims_kept e n i h
  unfold RcpRun.apply
  generalize e.claims n i = e1 at h1
  dsimp only
  have h2 : Kept b0 (if (e1.s.rcp n).action i = 4 then { e1 with imgs := e1.imgs ++ [(bits ((e1.s.rcp n).sw i 1) 23 0, (e1.s.rcp n).sw i 3, (e1.s.rcp n).sw i 2)] }
      else e1).s := by
    split <;> exact h1
  generalize (if (e1.s.rcp n).action i = 4 then { e1 with imgs := e1.imgs ++ [(bits ((e1.s.rcp n).sw i 1) 23 0, (e1.s.rcp n).sw i 3, (e1.s.rcp n).sw i 2)] }
      else e1) = e2 at h2
  cases (if e2.s.mirrors then e2.s.appCycle else none) with
  | none => exact State.stepEffect_kept _ _ h2
  | some c => exact State.mirrorCmd_kept _ _ _ h2

theorem RcpRun.setR_kept {b0 : Before} (e : RcpRun) (n : Nat) (r : Recipe) (hk : Kept b0 e.s) : Kept b0 (RcpRun.setR e n r).s := by
  unfold RcpRun.setR
  simp (maxDischargeDepth := 40) +contextual only [hk, kept_ite, kept_upd, kept_foldl, kept_foldr, implies_true, and_self, keptOut_next, keptOut_ite, keptOut_fault, keptOut_awake, State.setRcp_kept]

theorem RcpRun.walk_kept {b0 : Before} (n b fuel left : Nat) (e : RcpRun) (h : Kept b0 e.s) :
    Kept b0 (RcpRun.walk n b fuel left e).s := by
  induction fuel generalizing left e with
  | zero => exact h
  | succ fuel ih =>
    unfold RcpRun.walk
    dsimp only
    repeat' split
    all_goals simp (maxDischargeDepth := 40) only [h, ih, RcpRun.setR_kept, RcpRun.apply_kept]

theorem RcpRun.chain_kept {b0 : Before} (n fuel i : Nat) (e : RcpRun) (h : Kept b0 e.s) :
    Kept b0 (RcpRun.chain n fuel i e).s := by
  induction fuel generalizing i e with
  | zero => exact h
  | succ fuel ih =>
    unfold RcpRun.chain
    dsimp only
    repeat' split
    all_goals simp (maxDischargeDepth := 40) only [h, ih, RcpRun.apply_kept]

theorem RcpRun.abort_kept {b0 : Before} (e : RcpRun) (n cause : Nat) (steps : Bool) (hk : Kept b0 e.s) : Kept b0 (RcpRun.abort e n cause steps).s := by
  unfold RcpRun.abort
  dsimp only
  repeat' split
  all_goals simp (maxDischargeDepth := 40) +contextual only [hk, kept_ite, kept_upd, kept_foldl, kept_foldr, implies_true, and_self, keptOut_next, keptOut_ite, keptOut_fault, keptOut_awake, State.setRcp_kept, State.post_kept, RcpRun.chain_kept]

theorem RcpRun.answer_kept {b0 : Before} (e : RcpRun) (b : Nat) (p : Option Pkt) (st : Nat) (hk : Kept b0 e.s) : Kept b0 (RcpRun.answer e b p st).s := by
  unfold RcpRun.answer
  split <;> simp (maxDischargeDepth := 40) +contextual only [hk, kept_ite, kept_upd, kept_foldl, kept_foldr, implies_true, and_self, keptOut_next, keptOut_ite, keptOut_fault, keptOut_awake, State.doneAt_kept]

theorem RcpRun.request_kept {b0 : Before} (n b : Nat) (steps : Bool) (e : RcpRun) (q : RcpReq) (h : Kept b0 e.s) :
    Kept b0 (RcpRun.request n b steps e q).s := by
  unfold RcpRun.request
  dsimp only
  repeat' split
  all_goals simp (maxDischargeDepth := 40) only [h, RcpRun.answer_kept, RcpRun.setR_kept, RcpRun.abort_kept]

theorem RcpRun.requests_kept {b0 : Before} (b : Nat) (steps : Bool) (e : RcpRun) (n : Nat) (h : Kept b0 e.s) :
    Kept b0 (RcpRun.requests b steps e n).s :=
  kept_foldlR (fun _ _ hu => RcpRun.request_kept _ _ _ _ _ hu) (RcpRun.setR_kept _ _ _ h)

theorem RcpRun.boundary_kept {b0 : Before} (b : Nat) (late : List Nat) (e : RcpRun) (n : Nat) (h : Kept b0 e.s) :
    Kept b0 (RcpRun.boundary b late e n).s := by
  unfold RcpRun.boundary
  have h1 := RcpRun.requests_kept b true e n h
  dsimp only
  generalize RcpRun.requests b true e n = e1 at h1
  split
  · exact h1
  · cases (e1.s.rcp n).waitEnd b with
    | none =>
      dsimp only
      split
      · exact RcpRun.setR_kept _ _ _ h1
      · exact RcpRun.walk_kept _ _ _ _ _ h1
    | some r1 =>
      dsimp only
      split
      · exact RcpRun.setR_kept _ _ _ (RcpRun.setR_kept _ _ _ h1)
      · exact RcpRun.walk_kept _ _ _ _ _ (RcpRun.setR_kept _ _ _ h1)

theorem State.recipesAt_kept {b0 : Before} (s : State) (b : Nat) (late : List Nat) (h : Kept b0 s) :
    Kept b0 (s.recipesAt b late).s := by
  unfold State.recipesAt
  dsimp only
  split
  · exact kept_foldlR (fun u a hu => RcpRun.boundary_kept _ _ _ _ hu) h
  · exact kept_foldlR (fun u a hu => RcpRun.requests_kept _ _ _ _ hu) h

theorem State.putMasked_kept {b0 : Before} (s : State) (l : List (Nat × Nat × Nat)) (hk : Kept b0 s) : Kept b0 (State.putMasked s l) := by
  unfold State.putMasked
  simp (maxDischargeDepth := 40) +contextual only [hk, kept_ite, kept_upd, kept_foldl, kept_foldr, implies_true, and_self, keptOut_next, keptOut_ite, keptOut_fault, keptOut_awake, State.setImg_kept]

theorem execRecipeBoundary_kept {b0 : Before} (late : List Nat) (s : State) (hk : Kept b0 s) : KeptOut b0 (execRecipeBoundary late s) := by
  unfold execRecipeBoundary
  simp (maxDischargeDepth := 40) +contextual only [hk, kept_ite, kept_upd, kept_foldl, kept_foldr, implies_true, and_self, keptOut_next, keptOut_ite, keptOut_fault, keptOut_awake, State.advanceTo_kept, State.recipesAt_kept, State.putMasked_kept]

theorem State.recipeImages_kept {b0 : Before} (s : State) (b : Nat) (late : List Nat) (hk : Kept b0 s) : Kept b0 (State.recipeImages s b late) := by
  unfold State.recipeImages
  simp (maxDischargeDepth := 40) +contextual only [hk, kept_ite, kept_upd, kept_foldl, kept_foldr, implies_true, and_self, keptOut_next, keptOut_ite, keptOut_fault, keptOut_awake, State.putMasked_kept, State.advanceTo_kept, State.recipesAt_kept]

theorem State.waitsAt_kept {b0 : Before} (s : State) (hk : Kept b0 s) : Kept b0 (State.waitsAt s) := by
  unfold State.waitsAt
  simp (maxDischargeDepth := 40) +contextual only [hk, kept_ite, kept_upd, kept_foldl, kept_foldr, implies_true, and_self, keptOut_next, keptOut_ite, keptOut_fault, keptOut_awake, State.setRcp_kept]

theorem State.rcpCommand_kept {b0 : Before} (s : State) (p : Pkt) (op : Nat) (bad : Bool) (states : List Nat)
    (effect : State → State) (he : ∀ t, Kept b0 t → Kept b0 (effect t)) (h : Kept b0 s) :
    Kept b0 (s.rcpCommand p op bad states effect) := by
  unfold State.rcpCommand
  exact State.command_kept s p op _ _ he h

theorem State.rcpRequest_kept {b0 : Before} (s : State) (p : Pkt) (q : RcpReq) (hk : Kept b0 s) : Kept b0 (State.rcpRequest s p q) := by
  unfold State.rcpRequest
  simp (maxDischargeDepth := 40) +contextual only [hk, kept_ite, kept_upd, kept_foldl, kept_foldr, implies_true, and_self, keptOut_next, keptOut_ite, keptOut_fault, keptOut_awake, State.setRcp_kept]

theorem execRecipeLoad_kept {b0 : Before} (p : Pkt) (s : State) (hk : Kept b0 s) : KeptOut b0 (execRecipeLoad p s) := by
  unfold execRecipeLoad
  simp (maxDischargeDepth := 40) +contextual only [hk, kept_ite, kept_upd, kept_foldl, kept_foldr, implies_true, and_self, keptOut_next, keptOut_ite, keptOut_fault, keptOut_awake, State.command_kept, State.setRcp_kept, State.done_kept]

theorem execRecipeStart_kept {b0 : Before} (p : Pkt) (s : State) (hk : Kept b0 s) : KeptOut b0 (execRecipeStart p s) := by
  unfold execRecipeStart
  simp (maxDischargeDepth := 40) +contextual only [hk, kept_ite, kept_upd, kept_foldl, kept_foldr, implies_true, and_self, keptOut_next, keptOut_ite, keptOut_fault, keptOut_awake, State.rcpCommand_kept, State.rcpRequest_kept]

theorem execRecipePause_kept {b0 : Before} (p : Pkt) (s : State) (hk : Kept b0 s) : KeptOut b0 (execRecipePause p s) := by
  unfold execRecipePause
  simp (maxDischargeDepth := 40) +contextual only [hk, kept_ite, kept_upd, kept_foldl, kept_foldr, implies_true, and_self, keptOut_next, keptOut_ite, keptOut_fault, keptOut_awake, State.rcpCommand_kept, State.rcpRequest_kept]

theorem execRecipeResume_kept {b0 : Before} (p : Pkt) (s : State) (hk : Kept b0 s) : KeptOut b0 (execRecipeResume p s) := by
  unfold execRecipeResume
  simp (maxDischargeDepth := 40) +contextual only [hk, kept_ite, kept_upd, kept_foldl, kept_foldr, implies_true, and_self, keptOut_next, keptOut_ite, keptOut_fault, keptOut_awake, State.rcpCommand_kept, State.rcpRequest_kept]

theorem execRecipeAbort_kept {b0 : Before} (p : Pkt) (s : State) (hk : Kept b0 s) : KeptOut b0 (execRecipeAbort p s) := by
  unfold execRecipeAbort
  simp (maxDischargeDepth := 40) +contextual only [hk, kept_ite, kept_upd, kept_foldl, kept_foldr, implies_true, and_self, keptOut_next, keptOut_ite, keptOut_fault, keptOut_awake, State.rcpCommand_kept, State.rcpRequest_kept]

theorem execRecipeStatus_kept {b0 : Before} (p : Pkt) (s : State) (hk : Kept b0 s) : KeptOut b0 (execRecipeStatus p s) := by
  unfold execRecipeStatus
  simp (maxDischargeDepth := 40) +contextual only [hk, kept_ite, kept_upd, kept_foldl, kept_foldr, implies_true, and_self, keptOut_next, keptOut_ite, keptOut_fault, keptOut_awake, State.command_kept, State.doneRes_kept]

theorem execRecipeDelete_kept {b0 : Before} (p : Pkt) (s : State) (hk : Kept b0 s) : KeptOut b0 (execRecipeDelete p s) := by
  unfold execRecipeDelete
  simp (maxDischargeDepth := 40) +contextual only [hk, kept_ite, kept_upd, kept_foldl, kept_foldr, implies_true, and_self, keptOut_next, keptOut_ite, keptOut_fault, keptOut_awake, State.command_kept, State.doneOpt_kept, State.setRcp_kept, State.done_kept]

theorem State.applyDelta_kept {b0 : Before} (s : State) (d : ProgDelta) (hk : Kept b0 s) : Kept b0 (State.applyDelta s d) := by
  unfold State.applyDelta
  simp (maxDischargeDepth := 40) +contextual only [hk, kept_ite, kept_upd, kept_foldl, kept_foldr, implies_true, and_self, keptOut_next, keptOut_ite, keptOut_fault, keptOut_awake, State.setImg_kept, State.setRcp_kept]

theorem State.deltasAt_kept {b0 : Before} (s : State) (hk : Kept b0 s) : Kept b0 (State.deltasAt s) := by
  unfold State.deltasAt
  simp (maxDischargeDepth := 40) +contextual only [hk, kept_ite, kept_upd, kept_foldl, kept_foldr, implies_true, and_self, keptOut_next, keptOut_ite, keptOut_fault, keptOut_awake, State.lashI_kept, State.applyDelta_kept]

theorem State.deltaOut_kept {b0 : Before} (s : State) (hk : Kept b0 s) : Kept b0 (State.deltaOut s) := by
  unfold State.deltaOut
  simp (maxDischargeDepth := 40) +contextual only [hk, kept_ite, kept_upd, kept_foldl, kept_foldr, implies_true, and_self, keptOut_next, keptOut_ite, keptOut_fault, keptOut_awake, State.mirrorSend_kept]

theorem State.deltaSend_kept {b0 : Before} (s : State) (hk : Kept b0 s) : Kept b0 (State.deltaSend s) := by
  unfold State.deltaSend
  simp (maxDischargeDepth := 40) +contextual only [hk, kept_ite, kept_upd, kept_foldl, kept_foldr, implies_true, and_self, keptOut_next, keptOut_ite, keptOut_fault, keptOut_awake, State.deltaOut_kept, State.lashI_kept]

theorem State.switchAt_kept {b0 : Before} (s : State) (idle : Bool) (hk : Kept b0 s) : Kept b0 (State.switchAt s idle) := by
  unfold State.switchAt
  simp (maxDischargeDepth := 40) +contextual only [hk, kept_ite, kept_upd, kept_foldl, kept_foldr, implies_true, and_self, keptOut_next, keptOut_ite, keptOut_fault, keptOut_awake, State.deltaOut_kept, State.lashI_kept, State.controlSend_kept]

theorem State.progI_kept {b0 : Before} (s : State) (f : ProgInt → ProgInt) (hk : Kept b0 s) : Kept b0 (State.progI s f) := by
  unfold State.progI
  simp (maxDischargeDepth := 40) +contextual only [hk, kept_ite, kept_upd, kept_foldl, kept_foldr, implies_true, and_self, keptOut_next, keptOut_ite, keptOut_fault, keptOut_awake]

theorem State.setPt_kept {b0 : Before} (s : State) (t : Nat) (v : PTaskInt) (hk : Kept b0 s) : Kept b0 (State.setPt s t v) := by
  unfold State.setPt
  simp (maxDischargeDepth := 40) +contextual only [hk, kept_ite, kept_upd, kept_foldl, kept_foldr, implies_true, and_self, keptOut_next, keptOut_ite, keptOut_fault, keptOut_awake, State.progI_kept]

theorem State.setStn_kept {b0 : Before} (s : State) (n : Nat) (v : StnInt) (hk : Kept b0 s) : Kept b0 (State.setStn s n v) := by
  unfold State.setStn
  simp (maxDischargeDepth := 40) +contextual only [hk, kept_ite, kept_upd, kept_foldl, kept_foldr, implies_true, and_self, keptOut_next, keptOut_ite, keptOut_fault, keptOut_awake, State.progI_kept]

theorem State.forceRec_kept {b0 : Before} (s : State) (kind cause : Nat) (f : Force) (hk : Kept b0 s) : Kept b0 (State.forceRec s kind cause f) := by
  unfold State.forceRec
  simp (maxDischargeDepth := 40) +contextual only [hk, kept_ite, kept_upd, kept_foldl, kept_foldr, implies_true, and_self, keptOut_next, keptOut_ite, keptOut_fault, keptOut_awake, State.post_kept]

theorem State.setForce_kept {b0 : Before} (s : State) (f : Force) (hk : Kept b0 s) : Kept b0 (State.setForce s f) := by
  unfold State.setForce
  simp (maxDischargeDepth := 40) +contextual only [hk, kept_ite, kept_upd, kept_foldl, kept_foldr, implies_true, and_self, keptOut_next, keptOut_ite, keptOut_fault, keptOut_awake, State.progI_kept, State.forceRec_kept]

theorem State.dropForces_kept {b0 : Before} (s : State) (cause : Nat) (sel : Force → Bool) (hk : Kept b0 s) : Kept b0 (State.dropForces s cause sel) := by
  unfold State.dropForces
  simp (maxDischargeDepth := 40) +contextual only [hk, kept_ite, kept_upd, kept_foldl, kept_foldr, implies_true, and_self, keptOut_next, keptOut_ite, keptOut_fault, keptOut_awake, State.forceRec_kept, State.progI_kept]

theorem State.atReleaseOne_kept {b0 : Before} (s : State) (p : Pkt) (h : Kept b0 s) : Kept b0 (s.atReleaseOne p) := by
  unfold State.atReleaseOne
  dsimp only
  split
  · exact State.done_kept _ _ _ (kept_foldl (fun t i ht => State.setForce_kept _ _ ht) h)
  · split
    · exact State.done_kept _ _ _ (State.dropForces_kept _ _ _ h)
    · split
      · refine State.done_kept _ _ _ (kept_foldl (fun t i ht => ?_) h)
        repeat' split
        all_goals first
          | exact State.putVar_kept _ _ _ _ ht
          | exact ht
      · exact State.doneRes_kept _ _ _ h

theorem State.atReleaseAll_kept {b0 : Before} (s : State) (hk : Kept b0 s) : Kept b0 (State.atReleaseAll s) := by
  unfold State.atReleaseAll
  simp (maxDischargeDepth := 40) +contextual only [hk, kept_ite, kept_upd, kept_foldl, kept_foldr, implies_true, and_self, keptOut_next, keptOut_ite, keptOut_fault, keptOut_awake, State.atReleaseOne_kept, State.progI_kept, State.refreshForceInd_kept]

theorem State.initWords_kept {b0 : Before} (s : State) (p : PImage) (keep : Nat → Bool) (hk : Kept b0 s) : Kept b0 (State.initWords s p keep) := by
  unfold State.initWords
  simp (maxDischargeDepth := 40) +contextual only [hk, kept_ite, kept_upd, kept_foldl, kept_foldr, implies_true, and_self, keptOut_next, keptOut_ite, keptOut_fault, keptOut_awake, State.setImg_kept]

theorem State.keepVar_kept {b0 : Before} (old t : State) (v : PVar) (h : Kept b0 t) : Kept b0 (State.keepVar old t v) := by
  unfold State.keepVar
  dsimp only
  repeat' split
  all_goals simp only [h, State.setImg_kept]

theorem State.changeWords_kept {b0 : Before} (s : State) (a b : PImage) (hk : Kept b0 s) : Kept b0 (State.changeWords s a b) := by
  unfold State.changeWords
  simp (maxDischargeDepth := 40) +contextual only [hk, kept_ite, kept_upd, kept_foldl, kept_foldr, implies_true, and_self, keptOut_next, keptOut_ite, keptOut_fault, keptOut_awake, State.keepVar_kept, State.initWords_kept]

theorem State.armPresent_kept {b0 : Before} (s : State) (ns : List Nat) (hk : Kept b0 s) : Kept b0 (State.armPresent s ns) := by
  unfold State.armPresent
  simp (maxDischargeDepth := 40) +contextual only [hk, kept_ite, kept_upd, kept_foldl, kept_foldr, implies_true, and_self, keptOut_next, keptOut_ite, keptOut_fault, keptOut_awake, State.setStn_kept]

theorem State.dropComing_kept {b0 : Before} (s : State) (a b : PImage) (hk : Kept b0 s) : Kept b0 (State.dropComing s a b) := by
  unfold State.dropComing
  simp (maxDischargeDepth := 40) +contextual only [hk, kept_ite, kept_upd, kept_foldl, kept_foldr, implies_true, and_self, keptOut_next, keptOut_ite, keptOut_fault, keptOut_awake, State.forceRec_kept, State.progI_kept]

theorem State.swapBanks_kept {b0 : Before} (s : State) (hk : Kept b0 s) : Kept b0 (State.swapBanks s) := by
  unfold State.swapBanks
  split <;> simp (maxDischargeDepth := 40) +contextual only [hk, kept_ite, kept_upd, kept_foldl, kept_foldr, implies_true, and_self, keptOut_next, keptOut_ite, keptOut_fault, keptOut_awake, State.progI_kept, State.dropForces_kept, State.dropComing_kept, State.changeWords_kept, State.refreshForceInd_kept, State.logEntry_kept, State.post_kept]

theorem State.changeOver_kept {b0 : Before} (s : State) (hk : Kept b0 s) : Kept b0 (State.changeOver s) := by
  unfold State.changeOver
  split <;> simp (maxDischargeDepth := 40) +contextual only [hk, kept_ite, kept_upd, kept_foldl, kept_foldr, implies_true, and_self, keptOut_next, keptOut_ite, keptOut_fault, keptOut_awake, State.progI_kept, State.done_kept]

theorem State.changeAt_kept {b0 : Before} (s : State) (hk : Kept b0 s) : Kept b0 (State.changeAt s) := by
  unfold State.changeAt
  split <;> simp (maxDischargeDepth := 40) +contextual only [hk, kept_ite, kept_upd, kept_foldl, kept_foldr, implies_true, and_self, keptOut_next, keptOut_ite, keptOut_fault, keptOut_awake, State.changeOver_kept, State.progI_kept, State.swapBanks_kept, State.done_kept]

theorem State.countAt_kept {b0 : Before} (s : State) (hk : Kept b0 s) : Kept b0 (State.countAt s) := by
  unfold State.countAt
  simp (maxDischargeDepth := 40) +contextual only [hk, kept_ite, kept_upd, kept_foldl, kept_foldr, implies_true, and_self, keptOut_next, keptOut_ite, keptOut_fault, keptOut_awake, State.progI_kept, State.doneOpt_kept]

theorem State.keyMaps_kept {b0 : Before} (s : State) (hk : Kept b0 s) : Kept b0 (State.keyMaps s) := by
  unfold State.keyMaps
  simp (maxDischargeDepth := 40) +contextual only [hk, kept_ite, kept_upd, kept_foldl, kept_foldr, implies_true, and_self, keptOut_next, keptOut_ite, keptOut_fault, keptOut_awake, State.setImg_kept, State.raise_kept]

theorem State.writeSys_kept {b0 : Before} (s : State) (hk : Kept b0 s) : Kept b0 (State.writeSys s) := by
  unfold State.writeSys
  simp (maxDischargeDepth := 40) +contextual only [hk, kept_ite, kept_upd, kept_foldl, kept_foldr, implies_true, and_self, keptOut_next, keptOut_ite, keptOut_fault, keptOut_awake, State.setImg_kept]

theorem State.presTrigger_kept {b0 : Before} (s : State) (hk : Kept b0 s) : Kept b0 (State.presTrigger s) := by
  unfold State.presTrigger
  simp (maxDischargeDepth := 40) +contextual only [hk, kept_ite, kept_upd, kept_foldl, kept_foldr, implies_true, and_self, keptOut_next, keptOut_ite, keptOut_fault, keptOut_awake, State.progI_kept]

theorem State.mergeTriggers_kept {b0 : Before} (s : State) (hk : Kept b0 s) : Kept b0 (State.mergeTriggers s) := by
  unfold State.mergeTriggers
  simp (maxDischargeDepth := 40) +contextual only [hk, kept_ite, kept_upd, kept_foldl, kept_foldr, implies_true, and_self, keptOut_next, keptOut_ite, keptOut_fault, keptOut_awake, State.progI_kept, State.setPt_kept]

theorem State.releaseTask_kept {b0 : Before} (p : PImage) (late : List Nat) (s : State) (t : PTask) (hk : Kept b0 s) : Kept b0 (State.releaseTask p late s t) := by
  unfold State.releaseTask
  simp (maxDischargeDepth := 40) +contextual only [hk, kept_ite, kept_upd, kept_foldl, kept_foldr, implies_true, and_self, keptOut_next, keptOut_ite, keptOut_fault, keptOut_awake, State.setPt_kept, State.progI_kept]

theorem State.releaseTasks_kept {b0 : Before} (s : State) (late : List Nat) (hk : Kept b0 s) : Kept b0 (State.releaseTasks s late) := by
  unfold State.releaseTasks
  split <;> simp (maxDischargeDepth := 40) +contextual only [hk, kept_ite, kept_upd, kept_foldl, kept_foldr, implies_true, and_self, keptOut_next, keptOut_ite, keptOut_fault, keptOut_awake, State.releaseTask_kept]

theorem State.pruneLatch_kept {b0 : Before} (s : State) (hk : Kept b0 s) : Kept b0 (State.pruneLatch s) := by
  unfold State.pruneLatch
  simp (maxDischargeDepth := 40) +contextual only [hk, kept_ite, kept_upd, kept_foldl, kept_foldr, implies_true, and_self, keptOut_next, keptOut_ite, keptOut_fault, keptOut_awake, State.progI_kept]

theorem State.releasePoint_kept {b0 : Before} (s : State) (late : List Nat) (hk : Kept b0 s) : Kept b0 (State.releasePoint s late) := by
  unfold State.releasePoint
  simp (maxDischargeDepth := 40) +contextual only [hk, kept_ite, kept_upd, kept_foldl, kept_foldr, implies_true, and_self, keptOut_next, keptOut_ite, keptOut_fault, keptOut_awake, State.progI_kept, State.pruneLatch_kept, State.deltasAt_kept, State.deltaSend_kept, State.switchAt_kept, State.atReleaseAll_kept, State.changeAt_kept, State.countAt_kept, State.keyMaps_kept, State.applyForces_kept, State.writeSys_kept, State.presTrigger_kept, State.mergeTriggers_kept, State.releaseTasks_kept, State.waitsAt_kept]

theorem execReleasePoint_kept {b0 : Before} (late : List Nat) (s : State) (hk : Kept b0 s) : KeptOut b0 (execReleasePoint late s) := by
  unfold execReleasePoint
  simp (maxDischargeDepth := 40) +contextual only [hk, kept_ite, kept_upd, kept_foldl, kept_foldr, implies_true, and_self, keptOut_next, keptOut_ite, keptOut_fault, keptOut_awake, State.advanceTo_kept, State.eventLine_kept, State.releasePoint_kept]

theorem State.dirtyPages_kept {b0 : Before} (s : State) (ps : List Nat) (hk : Kept b0 s) : Kept b0 (State.dirtyPages s ps) := by
  unfold State.dirtyPages
  simp (maxDischargeDepth := 40) +contextual only [hk, kept_ite, kept_upd, kept_foldl, kept_foldr, implies_true, and_self, keptOut_next, keptOut_ite, keptOut_fault, keptOut_awake, State.progI_kept]

theorem State.varTriggers_kept {b0 : Before} (s : State) (t : Nat) (outs : List (Nat × Nat)) (h : Kept b0 s) :
    Kept b0 (s.varTriggers t outs) := by
  unfold State.varTriggers
  split
  · exact h
  · refine kept_foldl (fun u e hu => ?_) h
    split
    · exact hu
    · simp only [hu, kept_ite, State.setPt_kept, implies_true, and_self]

theorem State.taskCommit_kept {b0 : Before} (s : State) (t : Nat) (outs : List Nat) (rearm us : Nat) (hk : Kept b0 s) : Kept b0 (State.taskCommit s t outs rearm us) := by
  unfold State.taskCommit
  dsimp only
  repeat' split
  all_goals simp (maxDischargeDepth := 40) +contextual only [hk, kept_ite, kept_upd, kept_foldl, kept_foldr, implies_true, and_self, keptOut_next, keptOut_ite, keptOut_fault, keptOut_awake, State.setPt_kept, State.varTriggers_kept, State.dirtyPages_kept]

theorem execTaskCommit_kept {b0 : Before} (t : Nat) (outs : List Word) (rearm us : Nat) (s : State) (hk : Kept b0 s) : KeptOut b0 (execTaskCommit t outs rearm us s) := by
  unfold execTaskCommit
  simp (maxDischargeDepth := 40) +contextual only [hk, kept_ite, kept_upd, kept_foldl, kept_foldr, implies_true, and_self, keptOut_next, keptOut_ite, keptOut_fault, keptOut_awake, State.taskCommit_kept]

theorem State.copyOut_kept {b0 : Before} (nulls : List Nat) (s : State) (e : Nat × Nat) (hk : Kept b0 s) : Kept b0 (State.copyOut nulls s e) := by
  unfold State.copyOut
  simp (maxDischargeDepth := 40) +contextual only [hk, kept_ite, kept_upd, kept_foldl, kept_foldr, implies_true, and_self, keptOut_next, keptOut_ite, keptOut_fault, keptOut_awake, State.setImg_kept]

theorem State.countSuppress_kept {b0 : Before} (s : State) (ws : List Nat) (hk : Kept b0 s) : Kept b0 (State.countSuppress s ws) := by
  unfold State.countSuppress
  split <;> simp (maxDischargeDepth := 40) +contextual only [hk, kept_ite, kept_upd, kept_foldl, kept_foldr, implies_true, and_self, keptOut_next, keptOut_ite, keptOut_fault, keptOut_awake, State.setStn_kept]

theorem State.noteEarly_kept {b0 : Before} (s : State) (x : Nat) (ws : List (Nat × Nat)) (hk : Kept b0 s) : Kept b0 (State.noteEarly s x ws) := by
  unfold State.noteEarly
  simp (maxDischargeDepth := 40) +contextual only [hk, kept_ite, kept_upd, kept_foldl, kept_foldr, implies_true, and_self, keptOut_next, keptOut_ite, keptOut_fault, keptOut_awake, State.progI_kept]

theorem State.transferOne_kept {b0 : Before} (x : Nat) (s : State) (d : PPeriod) (hk : Kept b0 s) : Kept b0 (State.transferOne x s d) := by
  unfold State.transferOne
  simp (maxDischargeDepth := 40) +contextual only [hk, kept_ite, kept_upd, kept_foldl, kept_foldr, implies_true, and_self, keptOut_next, keptOut_ite, keptOut_fault, keptOut_awake, State.copyOut_kept, State.noteEarly_kept, State.countSuppress_kept, State.dirtyPages_kept]

theorem State.taskOverrun_kept {b0 : Before} (s : State) (x : Nat) (t : PTask) (ws : List Nat) (hk : Kept b0 s) : Kept b0 (State.taskOverrun s x t ws) := by
  unfold State.taskOverrun
  simp (maxDischargeDepth := 40) +contextual only [hk, kept_ite, kept_upd, kept_foldl, kept_foldr, implies_true, and_self, keptOut_next, keptOut_ite, keptOut_fault, keptOut_awake, State.setPt_kept, State.progI_kept, State.post_kept]

theorem State.transferTask_kept {b0 : Before} (p : PImage) (x : Nat) (s : State) (t : PTask) (hk : Kept b0 s) : Kept b0 (State.transferTask p x s t) := by
  unfold State.transferTask
  simp (maxDischargeDepth := 40) +contextual only [hk, kept_ite, kept_upd, kept_foldl, kept_foldr, implies_true, and_self, keptOut_next, keptOut_ite, keptOut_fault, keptOut_awake, State.setPt_kept, State.transferOne_kept, State.taskOverrun_kept]

theorem State.armAt_kept {b0 : Before} (s : State) (x : Nat) (hk : Kept b0 s) : Kept b0 (State.armAt s x) := by
  unfold State.armAt
  simp (maxDischargeDepth := 40) +contextual only [hk, kept_ite, kept_upd, kept_foldl, kept_foldr, implies_true, and_self, keptOut_next, keptOut_ite, keptOut_fault, keptOut_awake, State.armPresent_kept, State.done_kept, State.progI_kept]

theorem State.mirImages_kept {b0 : Before} (s : State) (hk : Kept b0 s) : Kept b0 (State.mirImages s) := by
  unfold State.mirImages
  simp (maxDischargeDepth := 40) +contextual only [hk, kept_ite, kept_upd, kept_foldl, kept_foldr, implies_true, and_self, keptOut_next, keptOut_ite, keptOut_fault, keptOut_awake, State.mirInput_kept]

theorem State.transferPoint_kept {b0 : Before} (s : State) (late : List Nat) (hk : Kept b0 s) : Kept b0 (State.transferPoint s late) := by
  unfold State.transferPoint
  dsimp only
  repeat' split
  all_goals simp (maxDischargeDepth := 40) +contextual only [hk, kept_ite, kept_upd, kept_foldl, kept_foldr, implies_true, and_self, keptOut_next, keptOut_ite, keptOut_fault, keptOut_awake, State.advanceTo_kept, State.progI_kept, State.armAt_kept, State.transferTask_kept, State.transferOne_kept, State.recipeImages_kept, State.applyForces_kept, State.mirImages_kept]

theorem execTransferPoint_kept {b0 : Before} (late : List Nat) (s : State) (hk : Kept b0 s) : KeptOut b0 (execTransferPoint late s) := by
  unfold execTransferPoint
  simp (maxDischargeDepth := 40) +contextual only [hk, kept_ite, kept_upd, kept_foldl, kept_foldr, implies_true, and_self, keptOut_next, keptOut_ite, keptOut_fault, keptOut_awake, State.transferPoint_kept]

theorem execProgChangeTimeout_kept {b0 : Before} (s : State) (hk : Kept b0 s) : KeptOut b0 (execProgChangeTimeout s) := by
  unfold execProgChangeTimeout
  simp (maxDischargeDepth := 40) +contextual only [hk, kept_ite, kept_upd, kept_foldl, kept_foldr, implies_true, and_self, keptOut_next, keptOut_ite, keptOut_fault, keptOut_awake, State.advanceTo_kept, State.changeOver_kept]

theorem State.progLoaded_kept {b0 : Before} (s : State) (p : Pkt) (ws : List Nat) (hk : Kept b0 s) : Kept b0 (State.progLoaded s p ws) := by
  unfold State.progLoaded
  dsimp only
  repeat' split
  all_goals simp (maxDischargeDepth := 40) +contextual only [hk, kept_ite, kept_upd, kept_foldl, kept_foldr, implies_true, and_self, keptOut_next, keptOut_ite, keptOut_fault, keptOut_awake, State.noteFail_kept, State.progI_kept, State.secBusy_kept, State.done_kept, State.initWords_kept, State.logEntry_kept]

theorem execProgImageVerified_kept {b0 : Before} (s : State) (hk : Kept b0 s) : KeptOut b0 (execProgImageVerified s) := by
  unfold execProgImageVerified
  split <;> simp (maxDischargeDepth := 40) +contextual only [hk, kept_ite, kept_upd, kept_foldl, kept_foldr, implies_true, and_self, keptOut_next, keptOut_ite, keptOut_fault, keptOut_awake, State.progLoaded_kept]

theorem execProgLoad_kept {b0 : Before} (p : Pkt) (s : State) (hk : Kept b0 s) : KeptOut b0 (execProgLoad p s) := by
  unfold execProgLoad
  simp (maxDischargeDepth := 40) +contextual only [hk, kept_ite, kept_upd, kept_foldl, kept_foldr, implies_true, and_self, keptOut_next, keptOut_ite, keptOut_fault, keptOut_awake, State.command_kept, State.progI_kept, State.secBusy_kept, State.accept_kept, State.done_kept]

theorem State.progStart_kept {b0 : Before} (s : State) (p : Pkt) (cold : Bool) (hk : Kept b0 s) : Kept b0 (State.progStart s p cold) := by
  unfold State.progStart
  simp (maxDischargeDepth := 40) +contextual only [hk, kept_ite, kept_upd, kept_foldl, kept_foldr, implies_true, and_self, keptOut_next, keptOut_ite, keptOut_fault, keptOut_awake, State.done_kept, State.initWords_kept, State.progI_kept, State.armPresent_kept]

theorem State.progStop_kept {b0 : Before} (s : State) (zero : Bool) (hk : Kept b0 s) : Kept b0 (State.progStop s zero) := by
  unfold State.progStop
  dsimp only
  repeat' split
  all_goals simp (maxDischargeDepth := 40) +contextual only [hk, kept_ite, kept_upd, kept_foldl, kept_foldr, implies_true, and_self, keptOut_next, keptOut_ite, keptOut_fault, keptOut_awake, State.progI_kept, State.dropForces_kept, State.refreshForceInd_kept, State.done_kept, State.doneOpt_kept]

theorem execProgRun_kept {b0 : Before} (p : Pkt) (s : State) (hk : Kept b0 s) : KeptOut b0 (execProgRun p s) := by
  unfold execProgRun
  simp (maxDischargeDepth := 40) +contextual only [hk, kept_ite, kept_upd, kept_foldl, kept_foldr, implies_true, and_self, keptOut_next, keptOut_ite, keptOut_fault, keptOut_awake, State.command_kept, State.progStart_kept, State.progStop_kept, State.done_kept, State.progI_kept]

theorem State.waitRelease_kept {b0 : Before} (s : State) (p : Pkt) (hk : Kept b0 s) : Kept b0 (State.waitRelease s p) := by
  unfold State.waitRelease
  simp (maxDischargeDepth := 40) +contextual only [hk, kept_ite, kept_upd, kept_foldl, kept_foldr, implies_true, and_self, keptOut_next, keptOut_ite, keptOut_fault, keptOut_awake, State.progI_kept, State.refreshForceInd_kept]

theorem execProgForce_kept {b0 : Before} (p : Pkt) (s : State) (hk : Kept b0 s) : KeptOut b0 (execProgForce p s) := by
  unfold execProgForce
  simp (maxDischargeDepth := 40) +contextual only [hk, kept_ite, kept_upd, kept_foldl, kept_foldr, implies_true, and_self, keptOut_next, keptOut_ite, keptOut_fault, keptOut_awake, State.command_kept, State.waitRelease_kept]

theorem execProgRelease_kept {b0 : Before} (p : Pkt) (s : State) (hk : Kept b0 s) : KeptOut b0 (execProgRelease p s) := by
  unfold execProgRelease
  simp (maxDischargeDepth := 40) +contextual only [hk, kept_ite, kept_upd, kept_foldl, kept_foldr, implies_true, and_self, keptOut_next, keptOut_ite, keptOut_fault, keptOut_awake, State.command_kept, State.waitRelease_kept]

theorem execProgChange_kept {b0 : Before} (p : Pkt) (s : State) (hk : Kept b0 s) : KeptOut b0 (execProgChange p s) := by
  unfold execProgChange
  simp (maxDischargeDepth := 40) +contextual only [hk, kept_ite, kept_upd, kept_foldl, kept_foldr, implies_true, and_self, keptOut_next, keptOut_ite, keptOut_fault, keptOut_awake, State.command_kept, State.accept_kept, State.swapBanks_kept, State.done_kept, State.progI_kept]

theorem execProgReadVar_kept {b0 : Before} (p : Pkt) (s : State) (hk : Kept b0 s) : KeptOut b0 (execProgReadVar p s) := by
  unfold execProgReadVar
  simp (maxDischargeDepth := 40) +contextual only [hk, kept_ite, kept_upd, kept_foldl, kept_foldr, implies_true, and_self, keptOut_next, keptOut_ite, keptOut_fault, keptOut_awake, State.command_kept, State.waitRelease_kept]

theorem execProgWriteVar_kept {b0 : Before} (p : Pkt) (s : State) (hk : Kept b0 s) : KeptOut b0 (execProgWriteVar p s) := by
  unfold execProgWriteVar
  simp (maxDischargeDepth := 40) +contextual only [hk, kept_ite, kept_upd, kept_foldl, kept_foldr, implies_true, and_self, keptOut_next, keptOut_ite, keptOut_fault, keptOut_awake, State.command_kept, State.waitRelease_kept]

theorem execProgStatus_kept {b0 : Before} (p : Pkt) (s : State) (hk : Kept b0 s) : KeptOut b0 (execProgStatus p s) := by
  unfold execProgStatus
  simp (maxDischargeDepth := 40) +contextual only [hk, kept_ite, kept_upd, kept_foldl, kept_foldr, implies_true, and_self, keptOut_next, keptOut_ite, keptOut_fault, keptOut_awake, State.command_kept, State.doneRes_kept, State.progI_kept]

theorem execProgReArm_kept {b0 : Before} (p : Pkt) (s : State) (hk : Kept b0 s) : KeptOut b0 (execProgReArm p s) := by
  unfold execProgReArm
  simp (maxDischargeDepth := 40) +contextual only [hk, kept_ite, kept_upd, kept_foldl, kept_foldr, implies_true, and_self, keptOut_next, keptOut_ite, keptOut_fault, keptOut_awake, State.command_kept, State.progI_kept]

end Sys2Proof.Machine
end

