-- ==== Sys2Proof/Laws/KeptLink.lean ====
section
/-! SUPPORT. What every operation keeps (`Kept`: the store canonical, the queue, blown fuses): CAN, Sluice, Splice and the Lashing. One lemma per operation and
one per command, each citing the lemmas of what it calls. -/

set_option linter.unusedSimpArgs false

namespace Sys2Proof.Machine

theorem State.endTx_kept {b0 : Before} (c res : Nat) (s : State) (m : Nat) (hk : Kept b0 s) : Kept b0 (State.endTx c res s m) := by
  unfold State.endTx
  simp (maxDischargeDepth := 40) +contextual only [hk, kept_ite, kept_upd, kept_foldl, kept_foldr, implies_true, and_self, keptOut_next, keptOut_ite, keptOut_fault, keptOut_awake, State.put_kept, State.setCan_kept, State.raise_kept]

theorem State.endAllTx_kept {b0 : Before} (s : State) (c res : Nat) (hk : Kept b0 s) : Kept b0 (State.endAllTx s c res) := by
  unfold State.endAllTx
  simp (maxDischargeDepth := 40) +contextual only [hk, kept_ite, kept_upd, kept_foldl, kept_foldr, implies_true, and_self, keptOut_next, keptOut_ite, keptOut_fault, keptOut_awake, State.endTx_kept]

theorem State.canConfig_kept {b0 : Before} (s : State) (c : Nat) (hk : Kept b0 s) : Kept b0 (State.canConfig s c) := by
  unfold State.canConfig
  simp (maxDischargeDepth := 40) +contextual only [hk, kept_ite, kept_upd, kept_foldl, kept_foldr, implies_true, and_self, keptOut_next, keptOut_ite, keptOut_fault, keptOut_awake, State.endAllTx_kept, State.setCan_kept, State.put_kept]

theorem State.canMode_kept {b0 : Before} (s : State) (c mode : Nat) (hk : Kept b0 s) : Kept b0 (State.canMode s c mode) := by
  unfold State.canMode
  simp (maxDischargeDepth := 40) +contextual only [hk, kept_ite, kept_upd, kept_foldl, kept_foldr, implies_true, and_self, keptOut_next, keptOut_ite, keptOut_fault, keptOut_awake, State.canSync_kept, State.put_kept, State.setCan_kept, State.canConfig_kept]

theorem execCanModeWrite_kept {b0 : Before} (c mode : Nat) (s : State) (hk : Kept b0 s) : KeptOut b0 (execCanModeWrite c mode s) := by
  unfold execCanModeWrite
  simp (maxDischargeDepth := 40) +contextual only [hk, kept_ite, kept_upd, kept_foldl, kept_foldr, implies_true, and_self, keptOut_next, keptOut_ite, keptOut_fault, keptOut_awake, State.canMode_kept]

theorem State.canRecover_kept {b0 : Before} (s : State) (c : Nat) (hk : Kept b0 s) : Kept b0 (State.canRecover s c) := by
  unfold State.canRecover
  simp (maxDischargeDepth := 40) +contextual only [hk, kept_ite, kept_upd, kept_foldl, kept_foldr, implies_true, and_self, keptOut_next, keptOut_ite, keptOut_fault, keptOut_awake, State.put_kept]

theorem execRecover_kept {b0 : Before} (c : Nat) (s : State) (hk : Kept b0 s) : KeptOut b0 (execRecover c s) := by
  unfold execRecover
  simp (maxDischargeDepth := 40) +contextual only [hk, kept_ite, kept_upd, kept_foldl, kept_foldr, implies_true, and_self, keptOut_next, keptOut_ite, keptOut_fault, keptOut_awake, State.canRecover_kept]

theorem execCanRecoveryDone_kept {b0 : Before} (c : Nat) (s : State) (hk : Kept b0 s) : KeptOut b0 (execCanRecoveryDone c s) := by
  unfold execCanRecoveryDone
  simp (maxDischargeDepth := 40) +contextual only [hk, kept_ite, kept_upd, kept_foldl, kept_foldr, implies_true, and_self, keptOut_next, keptOut_ite, keptOut_fault, keptOut_awake, State.put_kept]

theorem State.canApply_kept {b0 : Before} (s : State) (p : Pkt) (hk : Kept b0 s) : Kept b0 (State.canApply s p) := by
  unfold State.canApply
  simp (maxDischargeDepth := 40) +contextual only [hk, kept_ite, kept_upd, kept_foldl, kept_foldr, implies_true, and_self, keptOut_next, keptOut_ite, keptOut_fault, keptOut_awake, State.canConfig_kept, State.setCan_kept, State.setWord_kept, State.canSync_kept, State.done_kept]

theorem State.canLeave_kept {b0 : Before} (s : State) (c : Nat) (hk : Kept b0 s) : Kept b0 (State.canLeave s c) := by
  unfold State.canLeave
  simp (maxDischargeDepth := 40) +contextual only [hk, kept_ite, kept_upd, kept_foldl, kept_foldr, implies_true, and_self, keptOut_next, keptOut_ite, keptOut_fault, keptOut_awake, State.canConfig_kept, State.canApply_kept]

theorem State.canIdle_kept {b0 : Before} (s : State) (c : Nat) (hk : Kept b0 s) : Kept b0 (State.canIdle s c) := by
  unfold State.canIdle
  simp (maxDischargeDepth := 40) +contextual only [hk, kept_ite, kept_upd, kept_foldl, kept_foldr, implies_true, and_self, keptOut_next, keptOut_ite, keptOut_fault, keptOut_awake, State.put_kept, State.canLeave_kept]

theorem execCanBusIdle_kept {b0 : Before} (c : Nat) (s : State) (hk : Kept b0 s) : KeptOut b0 (execCanBusIdle c s) := by
  unfold execCanBusIdle
  simp (maxDischargeDepth := 40) +contextual only [hk, kept_ite, kept_upd, kept_foldl, kept_foldr, implies_true, and_self, keptOut_next, keptOut_ite, keptOut_fault, keptOut_awake, State.canIdle_kept]

theorem State.canStore_kept {b0 : Before} (s : State) (c m : Nat) (f : CanFrame) (hk : Kept b0 s) : Kept b0 (State.canStore s c m f) := by
  unfold State.canStore
  simp (maxDischargeDepth := 40) +contextual only [hk, kept_ite, kept_upd, kept_foldl, kept_foldr, implies_true, and_self, keptOut_next, keptOut_ite, keptOut_fault, keptOut_awake, State.put_kept, State.put64_kept, State.setWords_kept, State.raise_kept, State.incSat_kept]

theorem State.canReceive_kept {b0 : Before} (s : State) (c : Nat) (f : CanFrame) (hk : Kept b0 s) : Kept b0 (State.canReceive s c f) := by
  unfold State.canReceive
  split <;> simp (maxDischargeDepth := 40) +contextual only [hk, kept_ite, kept_upd, kept_foldl, kept_foldr, implies_true, and_self, keptOut_next, keptOut_ite, keptOut_fault, keptOut_awake, State.canStore_kept, State.incSat_kept, State.raise_kept]

theorem State.canErrSt_kept {b0 : Before} (s : State) (c : Nat) (hk : Kept b0 s) : Kept b0 (State.canErrSt s c) := by
  unfold State.canErrSt
  simp (maxDischargeDepth := 40) +contextual only [hk, kept_ite, kept_upd, kept_foldl, kept_foldr, implies_true, and_self, keptOut_next, keptOut_ite, keptOut_fault, keptOut_awake, State.put_kept, State.raise_kept]

theorem State.canRxGood_kept {b0 : Before} (s : State) (c : Nat) (hk : Kept b0 s) : Kept b0 (State.canRxGood s c) := by
  unfold State.canRxGood
  simp (maxDischargeDepth := 40) +contextual only [hk, kept_ite, kept_upd, kept_foldl, kept_foldr, implies_true, and_self, keptOut_next, keptOut_ite, keptOut_fault, keptOut_awake, State.fresh_kept, State.put_kept, State.canErrSt_kept]

theorem State.canError_kept {b0 : Before} (s : State) (c lec : Nat) (hk : Kept b0 s) : Kept b0 (State.canError s c lec) := by
  unfold State.canError
  simp (maxDischargeDepth := 40) +contextual only [hk, kept_ite, kept_upd, kept_foldl, kept_foldr, implies_true, and_self, keptOut_next, keptOut_ite, keptOut_fault, keptOut_awake, State.put_kept, State.incSat_kept]

theorem State.canRxError_kept {b0 : Before} (s : State) (c lec inc : Nat) (hk : Kept b0 s) : Kept b0 (State.canRxError s c lec inc) := by
  unfold State.canRxError
  simp (maxDischargeDepth := 40) +contextual only [hk, kept_ite, kept_upd, kept_foldl, kept_foldr, implies_true, and_self, keptOut_next, keptOut_ite, keptOut_fault, keptOut_awake, State.canError_kept, State.put_kept, State.canErrSt_kept]

theorem execCanFrameRx_kept {b0 : Before} (c : Nat) (f : CanFrame) (s0 : State) (hk : Kept b0 s0) : KeptOut b0 (execCanFrameRx c f s0) := by
  unfold execCanFrameRx
  simp (maxDischargeDepth := 40) +contextual only [hk, kept_ite, kept_upd, kept_foldl, kept_foldr, implies_true, and_self, keptOut_next, keptOut_ite, keptOut_fault, keptOut_awake, State.advanceTick_kept, State.canRxError_kept, State.canReceive_kept, State.canRxGood_kept, State.mirInputIf_kept]

theorem execRemoteFrameRx_kept {b0 : Before} (c : Nat) (s : State) (hk : Kept b0 s) : KeptOut b0 (execRemoteFrameRx c s) := by
  unfold execRemoteFrameRx
  simp (maxDischargeDepth := 40) +contextual only [hk, kept_ite, kept_upd, kept_foldl, kept_foldr, implies_true, and_self, keptOut_next, keptOut_ite, keptOut_fault, keptOut_awake, State.raise_kept, State.canRxGood_kept]

theorem State.canBusOff_kept {b0 : Before} (s : State) (c : Nat) (hk : Kept b0 s) : Kept b0 (State.canBusOff s c) := by
  unfold State.canBusOff
  simp (maxDischargeDepth := 40) +contextual only [hk, kept_ite, kept_upd, kept_foldl, kept_foldr, implies_true, and_self, keptOut_next, keptOut_ite, keptOut_fault, keptOut_awake, State.put_kept, State.raise_kept, State.endAllTx_kept, State.post_kept, State.canRecover_kept, State.canLeave_kept]

theorem State.canTxError_kept {b0 : Before} (s : State) (c lec inc : Nat) (hk : Kept b0 s) : Kept b0 (State.canTxError s c lec inc) := by
  unfold State.canTxError
  simp (maxDischargeDepth := 40) +contextual only [hk, kept_ite, kept_upd, kept_foldl, kept_foldr, implies_true, and_self, keptOut_next, keptOut_ite, keptOut_fault, keptOut_awake, State.canError_kept, State.canBusOff_kept, State.put_kept, State.canErrSt_kept]

theorem execCanBusError_kept {b0 : Before} (c lec : Nat) (e : CanErr) (s : State) (hk : Kept b0 s) : KeptOut b0 (execCanBusError c lec e s) := by
  unfold execCanBusError
  simp (maxDischargeDepth := 40) +contextual only [hk, kept_ite, kept_upd, kept_foldl, kept_foldr, implies_true, and_self, keptOut_next, keptOut_ite, keptOut_fault, keptOut_awake, State.canRxError_kept, State.canTxError_kept]
  split <;> simp (maxDischargeDepth := 40) +contextual only [hk, kept_ite, kept_upd, kept_foldl, kept_foldr, implies_true, and_self, keptOut_next, keptOut_ite, keptOut_fault, keptOut_awake, State.canRxError_kept, State.canTxError_kept]

theorem State.canTdc_kept {b0 : Before} (s : State) (c : Nat) (tdcv : Option Nat) (hk : Kept b0 s) : Kept b0 (State.canTdc s c tdcv) := by
  unfold State.canTdc
  split <;> simp (maxDischargeDepth := 40) +contextual only [hk, kept_ite, kept_upd, kept_foldl, kept_foldr, implies_true, and_self, keptOut_next, keptOut_ite, keptOut_fault, keptOut_awake, State.put_kept, State.raise_kept]

theorem State.canTxGood_kept {b0 : Before} (s : State) (c m ts : Nat) (hk : Kept b0 s) : Kept b0 (State.canTxGood s c m ts) := by
  unfold State.canTxGood
  simp (maxDischargeDepth := 40) +contextual only [hk, kept_ite, kept_upd, kept_foldl, kept_foldr, implies_true, and_self, keptOut_next, keptOut_ite, keptOut_fault, keptOut_awake, State.put64_kept, State.put_kept, State.incSat_kept, State.endTx_kept, State.canErrSt_kept, State.canReceive_kept]

theorem State.canTxEnd_kept {b0 : Before} (s : State) (c m res lec inc ts : Nat) (hk : Kept b0 s) : Kept b0 (State.canTxEnd s c m res lec inc ts) := by
  unfold State.canTxEnd
  simp (maxDischargeDepth := 40) +contextual only [hk, kept_ite, kept_upd, kept_foldl, kept_foldr, implies_true, and_self, keptOut_next, keptOut_ite, keptOut_fault, keptOut_awake, State.canTxGood_kept, State.canTxError_kept, State.endTx_kept]

theorem execCanTxEnd_kept {b0 : Before} (c m res lec inc ts : Nat) (tdcv : Option Nat) (s0 : State) (hk : Kept b0 s0) : KeptOut b0 (execCanTxEnd c m res lec inc ts tdcv s0) := by
  unfold execCanTxEnd
  simp (maxDischargeDepth := 40) +contextual only [hk, kept_ite, kept_upd, kept_foldl, kept_foldr, implies_true, and_self, keptOut_next, keptOut_ite, keptOut_fault, keptOut_awake, State.advanceTick_kept, State.canTdc_kept, State.canTxEnd_kept]

theorem State.setTxreq_kept {b0 : Before} (c : Nat) (s : State) (m : Nat) (hk : Kept b0 s) : Kept b0 (State.setTxreq c s m) := by
  unfold State.setTxreq
  simp (maxDischargeDepth := 40) +contextual only [hk, kept_ite, kept_upd, kept_foldl, kept_foldr, implies_true, and_self, keptOut_next, keptOut_ite, keptOut_fault, keptOut_awake, State.reject_kept, State.put_kept, State.setCan_kept]

theorem State.canTxreq_kept {b0 : Before} (s : State) (c k v : Nat) (hk : Kept b0 s) : Kept b0 (State.canTxreq s c k v) := by
  unfold State.canTxreq
  simp (maxDischargeDepth := 40) +contextual only [hk, kept_ite, kept_upd, kept_foldl, kept_foldr, implies_true, and_self, keptOut_next, keptOut_ite, keptOut_fault, keptOut_awake, State.setTxreq_kept]

theorem execCanTxreqWrite_kept {b0 : Before} (c k : Nat) (v : Word) (s : State) (hk : Kept b0 s) : KeptOut b0 (execCanTxreqWrite c k v s) := by
  unfold execCanTxreqWrite
  simp (maxDischargeDepth := 40) +contextual only [hk, kept_ite, kept_upd, kept_foldl, kept_foldr, implies_true, and_self, keptOut_next, keptOut_ite, keptOut_fault, keptOut_awake, State.canTxreq_kept]

theorem State.canAbort_kept {b0 : Before} (c : Nat) (onBus : Option Nat) (s : State) (m : Nat) (hk : Kept b0 s) : Kept b0 (State.canAbort c onBus s m) := by
  unfold State.canAbort
  simp (maxDischargeDepth := 40) +contextual only [hk, kept_ite, kept_upd, kept_foldl, kept_foldr, implies_true, and_self, keptOut_next, keptOut_ite, keptOut_fault, keptOut_awake, State.setCan_kept, State.endTx_kept]

theorem execCanTxabortWrite_kept {b0 : Before} (c k : Nat) (v : Word) (onBus : Option Nat) (s : State) (hk : Kept b0 s) : KeptOut b0 (execCanTxabortWrite c k v onBus s) := by
  unfold execCanTxabortWrite
  simp (maxDischargeDepth := 40) +contextual only [hk, kept_ite, kept_upd, kept_foldl, kept_foldr, implies_true, and_self, keptOut_next, keptOut_ite, keptOut_fault, keptOut_awake, State.canAbort_kept]

theorem State.clearNew_kept {b0 : Before} (s : State) (c m seq : Nat) (lost : Bool) (hk : Kept b0 s) : Kept b0 (State.clearNew s c m seq lost) := by
  unfold State.clearNew
  simp (maxDischargeDepth := 40) +contextual only [hk, kept_ite, kept_upd, kept_foldl, kept_foldr, implies_true, and_self, keptOut_next, keptOut_ite, keptOut_fault, keptOut_awake, State.put_kept]

theorem State.objStatWrite_kept {b0 : Before} (s : State) (c m v : Nat) (hk : Kept b0 s) : Kept b0 (State.objStatWrite s c m v) := by
  unfold State.objStatWrite
  simp (maxDischargeDepth := 40) +contextual only [hk, kept_ite, kept_upd, kept_foldl, kept_foldr, implies_true, and_self, keptOut_next, keptOut_ite, keptOut_fault, keptOut_awake, State.lockReject_kept, State.put_kept, State.clearNew_kept]

theorem execCanNewClear_kept {b0 : Before} (c m : Nat) (v : Word) (s : State) (hk : Kept b0 s) : KeptOut b0 (execCanNewClear c m v s) := by
  unfold execCanNewClear
  simp (maxDischargeDepth := 40) +contextual only [hk, kept_ite, kept_upd, kept_foldl, kept_foldr, implies_true, and_self, keptOut_next, keptOut_ite, keptOut_fault, keptOut_awake, State.objStatWrite_kept]

theorem execCanConfig_kept {b0 : Before} (p : Pkt) (s : State) (hk : Kept b0 s) : KeptOut b0 (execCanConfig p s) := by
  unfold execCanConfig
  simp (maxDischargeDepth := 40) +contextual only [hk, kept_ite, kept_upd, kept_foldl, kept_foldr, implies_true, and_self, keptOut_next, keptOut_ite, keptOut_fault, keptOut_awake, State.command_kept, State.setCan_kept, State.canApply_kept]

theorem execCanConfigTimeout_kept {b0 : Before} (c : Nat) (s : State) (hk : Kept b0 s) : KeptOut b0 (execCanConfigTimeout c s) := by
  unfold execCanConfigTimeout
  split <;> simp (maxDischargeDepth := 40) +contextual only [hk, kept_ite, kept_upd, kept_foldl, kept_foldr, implies_true, and_self, keptOut_next, keptOut_ite, keptOut_fault, keptOut_awake, State.advanceTo_kept, State.setCan_kept, State.done_kept]

theorem execCanObject_kept {b0 : Before} (p : Pkt) (s : State) (hk : Kept b0 s) : KeptOut b0 (execCanObject p s) := by
  unfold execCanObject
  simp (maxDischargeDepth := 40) +contextual only [hk, kept_ite, kept_upd, kept_foldl, kept_foldr, implies_true, and_self, keptOut_next, keptOut_ite, keptOut_fault, keptOut_awake, State.command_kept, State.setWords_kept, State.done_kept]

theorem execCanTransmit_kept {b0 : Before} (p : Pkt) (s : State) (hk : Kept b0 s) : KeptOut b0 (execCanTransmit p s) := by
  unfold execCanTransmit
  simp (maxDischargeDepth := 40) +contextual only [hk, kept_ite, kept_upd, kept_foldl, kept_foldr, implies_true, and_self, keptOut_next, keptOut_ite, keptOut_fault, keptOut_awake, State.command_kept, State.done_kept, State.put_kept, State.setWords_kept, State.setTxreq_kept]

theorem execCanReceive_kept {b0 : Before} (p : Pkt) (s : State) (hk : Kept b0 s) : KeptOut b0 (execCanReceive p s) := by
  unfold execCanReceive
  simp (maxDischargeDepth := 40) +contextual only [hk, kept_ite, kept_upd, kept_foldl, kept_foldr, implies_true, and_self, keptOut_next, keptOut_ite, keptOut_fault, keptOut_awake, State.command_kept, State.doneRes_kept, State.clearNew_kept]

theorem execCanStatus_kept {b0 : Before} (p : Pkt) (s : State) (hk : Kept b0 s) : KeptOut b0 (execCanStatus p s) := by
  unfold execCanStatus
  simp (maxDischargeDepth := 40) +contextual only [hk, kept_ite, kept_upd, kept_foldl, kept_foldr, implies_true, and_self, keptOut_next, keptOut_ite, keptOut_fault, keptOut_awake, State.command_kept, State.doneRes_kept, State.put_kept, State.setWords_kept, State.refreshLine_kept]

theorem State.canRegWrite_kept {b0 : Before} (s : State) (c off v : Nat) (hk : Kept b0 s) : Kept b0 (State.canRegWrite s c off v) := by
  unfold State.canRegWrite
  simp (maxDischargeDepth := 40) +contextual only [hk, kept_ite, kept_upd, kept_foldl, kept_foldr, implies_true, and_self, keptOut_next, keptOut_ite, keptOut_fault, keptOut_awake, State.lockReject_kept, State.put_kept, State.canRecover_kept, State.canMode_kept, State.reject_kept, State.setWord_kept]

theorem State.objWrite_kept {b0 : Before} (s : State) (c m o v : Nat) (hk : Kept b0 s) : Kept b0 (State.objWrite s c m o v) := by
  unfold State.objWrite
  simp (maxDischargeDepth := 40) +contextual only [hk, kept_ite, kept_upd, kept_foldl, kept_foldr, implies_true, and_self, keptOut_next, keptOut_ite, keptOut_fault, keptOut_awake, State.lockReject_kept, State.put_kept, State.setWord_kept, State.objStatWrite_kept]

theorem State.stoI_kept {b0 : Before} (s : State) (f : StoInt → StoInt) (hk : Kept b0 s) : Kept b0 (State.stoI s f) := by
  unfold State.stoI
  simp (maxDischargeDepth := 40) +contextual only [hk, kept_ite, kept_upd, kept_foldl, kept_foldr, implies_true, and_self, keptOut_next, keptOut_ite, keptOut_fault, keptOut_awake]

theorem State.setSin_kept {b0 : Before} (s : State) (i : Nat) (v : SinInt) (hk : Kept b0 s) : Kept b0 (State.setSin s i v) := by
  unfold State.setSin
  simp (maxDischargeDepth := 40) +contextual only [hk, kept_ite, kept_upd, kept_foldl, kept_foldr, implies_true, and_self, keptOut_next, keptOut_ite, keptOut_fault, keptOut_awake, State.stoI_kept]

theorem State.setStoCh_kept {b0 : Before} (s : State) (k : Nat) (v : StoCh) (hk : Kept b0 s) : Kept b0 (State.setStoCh s k v) := by
  unfold State.setStoCh
  simp (maxDischargeDepth := 40) +contextual only [hk, kept_ite, kept_upd, kept_foldl, kept_foldr, implies_true, and_self, keptOut_next, keptOut_ite, keptOut_fault, keptOut_awake, State.stoI_kept]

theorem State.setSf_kept {b0 : Before} (s : State) (j : Nat) (v : SfConn) (hk : Kept b0 s) : Kept b0 (State.setSf s j v) := by
  unfold State.setSf
  simp (maxDischargeDepth := 40) +contextual only [hk, kept_ite, kept_upd, kept_foldl, kept_foldr, implies_true, and_self, keptOut_next, keptOut_ite, keptOut_fault, keptOut_awake, State.stoI_kept]

theorem State.setChSt_kept {b0 : Before} (s : State) (k st : Nat) (hk : Kept b0 s) : Kept b0 (State.setChSt s k st) := by
  unfold State.setChSt
  simp (maxDischargeDepth := 40) +contextual only [hk, kept_ite, kept_upd, kept_foldl, kept_foldr, implies_true, and_self, keptOut_next, keptOut_ite, keptOut_fault, keptOut_awake, State.put_kept, State.setStoCh_kept, State.pulse_kept, State.postSev_kept]

theorem State.setSuSt_kept {b0 : Before} (s : State) (st : Nat) (hk : Kept b0 s) : Kept b0 (State.setSuSt s st) := by
  unfold State.setSuSt
  simp (maxDischargeDepth := 40) +contextual only [hk, kept_ite, kept_upd, kept_foldl, kept_foldr, implies_true, and_self, keptOut_next, keptOut_ite, keptOut_fault, keptOut_awake, State.put_kept, State.raise_kept, State.setChSt_kept, State.postSev_kept, State.msix_kept, State.pulse_kept, State.applyAllTrips_kept, State.mirSto_kept]

theorem State.suFault_kept {b0 : Before} (s : State) (code : Nat) (hk : Kept b0 s) : Kept b0 (State.suFault s code) := by
  unfold State.suFault
  simp (maxDischargeDepth := 40) +contextual only [hk, kept_ite, kept_upd, kept_foldl, kept_foldr, implies_true, and_self, keptOut_next, keptOut_ite, keptOut_fault, keptOut_awake, State.incSat_kept, State.stoI_kept, State.put_kept, State.setSuSt_kept]

theorem State.useCfg_kept {b0 : Before} (s : State) (ws : List Nat) (hk : Kept b0 s) : Kept b0 (State.useCfg s ws) := by
  unfold State.useCfg
  simp (maxDischargeDepth := 40) +contextual only [hk, kept_ite, kept_upd, kept_foldl, kept_foldr, implies_true, and_self, keptOut_next, keptOut_ite, keptOut_fault, keptOut_awake, State.stoI_kept, State.setWords_kept, State.put_kept]

theorem State.selfTestDone_kept {b0 : Before} (s : State) (code : Nat) (hk : Kept b0 s) : Kept b0 (State.selfTestDone s code) := by
  unfold State.selfTestDone
  simp (maxDischargeDepth := 40) +contextual only [hk, kept_ite, kept_upd, kept_foldl, kept_foldr, implies_true, and_self, keptOut_next, keptOut_ite, keptOut_fault, keptOut_awake, State.put_kept, State.suFault_kept, State.stoI_kept, State.useCfg_kept, State.setSuSt_kept, State.stageFail_kept]

theorem execSluiceSelfTestDone_kept {b0 : Before} (code : Nat) (s : State) (hk : Kept b0 s) : KeptOut b0 (execSluiceSelfTestDone code s) := by
  unfold execSluiceSelfTestDone
  simp (maxDischargeDepth := 40) +contextual only [hk, kept_ite, kept_upd, kept_foldl, kept_foldr, implies_true, and_self, keptOut_next, keptOut_ite, keptOut_fault, keptOut_awake, State.selfTestDone_kept, State.bootAdvance_kept]

theorem State.stoHold_kept {b0 : Before} (s : State) (hk : Kept b0 s) : Kept b0 (State.stoHold s) := by
  unfold State.stoHold
  simp (maxDischargeDepth := 40) +contextual only [hk, kept_ite, kept_upd, kept_foldl, kept_foldr, implies_true, and_self, keptOut_next, keptOut_ite, keptOut_fault, keptOut_awake, State.put_kept, State.setChSt_kept, State.setWord_kept, State.setSuSt_kept, State.stoI_kept, State.useCfg_kept, State.setWords_kept]

theorem execVddSafeFault_kept {b0 : Before} (below27 : Bool) (s : State) (hk : Kept b0 s) : KeptOut b0 (execVddSafeFault below27 s) := by
  unfold execVddSafeFault
  simp (maxDischargeDepth := 40) +contextual only [hk, kept_ite, kept_upd, kept_foldl, kept_foldr, implies_true, and_self, keptOut_next, keptOut_ite, keptOut_fault, keptOut_awake, State.suFault_kept, State.stoI_kept, State.stoHold_kept]

theorem execCrossMonitorWindow_kept {b0 : Before} (count : Nat) (s : State) (hk : Kept b0 s) : KeptOut b0 (execCrossMonitorWindow count s) := by
  unfold execCrossMonitorWindow
  simp (maxDischargeDepth := 40) +contextual only [hk, kept_ite, kept_upd, kept_foldl, kept_foldr, implies_true, and_self, keptOut_next, keptOut_ite, keptOut_fault, keptOut_awake, State.suFault_kept]

theorem State.inFault_kept {b0 : Before} (s : State) (i code : Nat) (hk : Kept b0 s) : Kept b0 (State.inFault s i code) := by
  unfold State.inFault
  simp (maxDischargeDepth := 40) +contextual only [hk, kept_ite, kept_upd, kept_foldl, kept_foldr, implies_true, and_self, keptOut_next, keptOut_ite, keptOut_fault, keptOut_awake, State.setSin_kept, State.put_kept, State.raise_kept]

theorem State.sampleSin_kept {b0 : Before} (s : State) (i : Nat) (v own : Bool) (hk : Kept b0 s) : Kept b0 (State.sampleSin s i v own).1 := by
  unfold State.sampleSin
  simp (maxDischargeDepth := 40) +contextual only [hk, kept_ite, kept_upd, kept_foldl, kept_foldr, implies_true, and_self, keptOut_next, keptOut_ite, keptOut_fault, keptOut_awake, State.setSin_kept, State.put_kept, State.raise_kept, State.inFault_kept]

theorem State.crossCheck_kept {b0 : Before} (s : State) (i : Nat) (v : Bool) (hk : Kept b0 s) : Kept b0 (State.crossCheck s i v) := by
  unfold State.crossCheck
  simp (maxDischargeDepth := 40) +contextual only [hk, kept_ite, kept_upd, kept_foldl, kept_foldr, implies_true, and_self, keptOut_next, keptOut_ite, keptOut_fault, keptOut_awake, State.inFault_kept]

theorem State.pairCheck_kept {b0 : Before} (s : State) (i : Nat) (hk : Kept b0 s) : Kept b0 (State.pairCheck s i) := by
  unfold State.pairCheck
  simp (maxDischargeDepth := 40) +contextual only [hk, kept_ite, kept_upd, kept_foldl, kept_foldr, implies_true, and_self, keptOut_next, keptOut_ite, keptOut_fault, keptOut_awake, State.stoI_kept, State.inFault_kept]

theorem State.sampleSins_kept {b0 : Before} (s : State) (sin : Nat) (h : Kept b0 s) : Kept b0 (s.sampleSins sin).1 := by
  unfold State.sampleSins
  dsimp only
  refine State.stoI_kept _ _ (kept_foldl (fun t k ht => State.pairCheck_kept _ _ ht) (kept_foldl1 (fun t i ht => ?_) h))
  exact State.sampleSin_kept _ _ _ _ (State.crossCheck_kept _ _ _ ht)

theorem State.stepTpo_kept {b0 : Before} (s : State) (hk : Kept b0 s) : Kept b0 (State.stepTpo s) := by
  unfold State.stepTpo
  simp (maxDischargeDepth := 40) +contextual only [hk, kept_ite, kept_upd, kept_foldl, kept_foldr, implies_true, and_self, keptOut_next, keptOut_ite, keptOut_fault, keptOut_awake, State.stoI_kept]

theorem State.lockCh_kept {b0 : Before} (s : State) (k code : Nat) (hk : Kept b0 s) : Kept b0 (State.lockCh s k code) := by
  unfold State.lockCh
  simp (maxDischargeDepth := 40) +contextual only [hk, kept_ite, kept_upd, kept_foldl, kept_foldr, implies_true, and_self, keptOut_next, keptOut_ite, keptOut_fault, keptOut_awake, State.put_kept, State.incSat_kept, State.lifeAdd64_kept, State.raise_kept, State.setChSt_kept]

theorem State.chFaults_kept {b0 : Before} (s : State) (k : Nat) (fb : Bool) (hk : Kept b0 s) : Kept b0 (State.chFaults s k fb) := by
  unfold State.chFaults
  simp (maxDischargeDepth := 40) +contextual only [hk, kept_ite, kept_upd, kept_foldl, kept_foldr, implies_true, and_self, keptOut_next, keptOut_ite, keptOut_fault, keptOut_awake, State.setStoCh_kept, State.lockCh_kept]

theorem State.chDemands_kept {b0 : Before} (s : State) (k : Nat) (hk : Kept b0 s) : Kept b0 (State.chDemands s k) := by
  unfold State.chDemands
  simp (maxDischargeDepth := 40) +contextual only [hk, kept_ite, kept_upd, kept_foldl, kept_foldr, implies_true, and_self, keptOut_next, keptOut_ite, keptOut_fault, keptOut_awake, State.incSat_kept, State.lifeAdd64_kept, State.raise_kept, State.setChSt_kept]

theorem State.chResets_kept {b0 : Before} (s : State) (k press : Nat) (hk : Kept b0 s) : Kept b0 (State.chResets s k press) := by
  unfold State.chResets
  simp (maxDischargeDepth := 40) +contextual only [hk, kept_ite, kept_upd, kept_foldl, kept_foldr, implies_true, and_self, keptOut_next, keptOut_ite, keptOut_fault, keptOut_awake, State.setChSt_kept, State.setStoCh_kept]

theorem State.chTests_kept {b0 : Before} (s : State) (k sin : Nat) (tpo : Option Nat) (fb free : Bool) (hk : Kept b0 s) : Kept b0 (State.chTests s k sin tpo fb free).1 := by
  unfold State.chTests
  dsimp only
  repeat' split
  all_goals simp (maxDischargeDepth := 40) +contextual only [hk, kept_ite, kept_upd, kept_foldl, kept_foldr, implies_true, and_self, keptOut_next, keptOut_ite, keptOut_fault, keptOut_awake, State.pulse_kept, State.setStoCh_kept, State.incSat_kept, State.lockCh_kept, State.setChSt_kept]

theorem State.chCycle_kept {b0 : Before} (sin fbs press : Nat) (tpo : Option Nat) (a : State × Bool) (k : Nat)
    (h : Kept b0 a.1) : Kept b0 (State.chCycle sin fbs press tpo a k).1 := by
  unfold State.chCycle
  dsimp only
  split
  · exact State.put_kept _ _ _ (State.put_kept _ _ _ h)
  · exact State.put_kept _ _ _ (State.chTests_kept _ _ _ _ _ _
      (State.chResets_kept _ _ _ (State.chDemands_kept _ _ (State.chFaults_kept _ _ _ (State.put_kept _ _ _ h)))))

theorem State.takeSfBits_kept {b0 : Before} (s : State) (h : Kept b0 s) : Kept b0 s.takeSfBits := by
  unfold State.takeSfBits
  refine kept_foldl (fun t j ht => ?_) h
  split
  · exact State.setSf_kept _ _ _ ht
  · exact ht

theorem State.suCycle_kept {b0 : Before} (s : State) (sin fbs diag : Nat) (h : Kept b0 s) : Kept b0 (s.suCycle sin fbs diag) := by
  unfold State.suCycle
  have h1 := State.sampleSins_kept s.takeSfBits sin (State.takeSfBits_kept s h)
  dsimp only
  generalize s.takeSfBits.sampleSins sin = r at h1
  have h2 : Kept b0 (if diag = 0 then r.1 else r.1.suFault diag) := by
    simp only [h1, kept_ite, State.suFault_kept, implies_true, and_self]
  refine State.mirSto_kept _ _ (State.applyAllTrips_kept _ (State.stoI_kept _ _ (State.stepTpo_kept _ ?_)))
  exact kept_foldl1 (fun u k hu => State.chCycle_kept _ _ _ _ _ _ hu) h2

theorem execSluiceCycle_kept {b0 : Before} (sin fb diag : Nat) (s : State) (hk : Kept b0 s) : KeptOut b0 (execSluiceCycle sin fb diag s) := by
  unfold execSluiceCycle
  simp (maxDischargeDepth := 40) +contextual only [hk, kept_ite, kept_upd, kept_foldl, kept_foldr, implies_true, and_self, keptOut_next, keptOut_ite, keptOut_fault, keptOut_awake, State.suCycle_kept]

theorem State.showConn_kept {b0 : Before} (s : State) (j : Nat) (hk : Kept b0 s) : Kept b0 (State.showConn s j) := by
  unfold State.showConn
  simp (maxDischargeDepth := 40) +contextual only [hk, kept_ite, kept_upd, kept_foldl, kept_foldr, implies_true, and_self, keptOut_next, keptOut_ite, keptOut_fault, keptOut_awake, State.put_kept]

theorem State.sfConfirm_kept {b0 : Before} (s : State) (j q b : Nat) (hk : Kept b0 s) : Kept b0 (State.sfConfirm s j q b) := by
  unfold State.sfConfirm
  simp (maxDischargeDepth := 40) +contextual only [hk, kept_ite, kept_upd, kept_foldl, kept_foldr, implies_true, and_self, keptOut_next, keptOut_ite, keptOut_fault, keptOut_awake, State.setSf_kept, State.put_kept, State.showConn_kept]

theorem State.connFault_kept {b0 : Before} (s : State) (j code : Nat) (hk : Kept b0 s) : Kept b0 (State.connFault s j code) := by
  unfold State.connFault
  simp (maxDischargeDepth := 40) +contextual only [hk, kept_ite, kept_upd, kept_foldl, kept_foldr, implies_true, and_self, keptOut_next, keptOut_ite, keptOut_fault, keptOut_awake, State.setSf_kept, State.showConn_kept, State.raise_kept]

theorem State.sfCopy_kept {b0 : Before} (s : State) (j port q b : Nat) (hk : Kept b0 s) : Kept b0 (State.sfCopy s j port q b) := by
  unfold State.sfCopy
  dsimp only
  repeat' split
  all_goals simp (maxDischargeDepth := 40) +contextual only [hk, kept_ite, kept_upd, kept_foldl, kept_foldr, implies_true, and_self, keptOut_next, keptOut_ite, keptOut_fault, keptOut_awake, State.setSf_kept, State.connFault_kept, State.sfConfirm_kept]

theorem State.safetyRx_kept {b0 : Before} (s : State) (port seg : Nat) (ws : List Nat) (valid null : Bool) (hk : Kept b0 s) : Kept b0 (State.safetyRx s port seg ws valid null) := by
  unfold State.safetyRx
  simp (maxDischargeDepth := 40) +contextual only [hk, kept_ite, kept_upd, kept_foldl, kept_foldr, implies_true, and_self, keptOut_next, keptOut_ite, keptOut_fault, keptOut_awake, State.incSat_kept, State.sfCopy_kept]

theorem State.safetyCycleEnd_kept {b0 : Before} (s : State) (hk : Kept b0 s) : Kept b0 (State.safetyCycleEnd s) := by
  unfold State.safetyCycleEnd
  simp (maxDischargeDepth := 40) +contextual only [hk, kept_ite, kept_upd, kept_foldl, kept_foldr, implies_true, and_self, keptOut_next, keptOut_ite, keptOut_fault, keptOut_awake, State.incSat_kept, State.setSf_kept]

theorem execSfWatchdog_kept {b0 : Before} (j port : Nat) (s : State) (hk : Kept b0 s) : KeptOut b0 (execSfWatchdog j port s) := by
  unfold execSfWatchdog
  simp (maxDischargeDepth := 40) +contextual only [hk, kept_ite, kept_upd, kept_foldl, kept_foldr, implies_true, and_self, keptOut_next, keptOut_ite, keptOut_fault, keptOut_awake, State.advanceTick_kept, State.put_kept, State.setSf_kept, State.connFault_kept]

theorem State.safetyTx_kept {b0 : Before} (s : State) (hk : Kept b0 s) : Kept b0 (State.safetyTx s) := by
  unfold State.safetyTx
  split <;> simp (maxDischargeDepth := 40) +contextual only [hk, kept_ite, kept_upd, kept_foldl, kept_foldr, implies_true, and_self, keptOut_next, keptOut_ite, keptOut_fault, keptOut_awake, State.stoI_kept, State.setTx_kept]

theorem State.rqAnswer_kept {b0 : Before} (s : State) (p : Pkt) (st : Nat) (hk : Kept b0 s) : Kept b0 (State.rqAnswer s p st) := by
  unfold State.rqAnswer
  split <;> simp (maxDischargeDepth := 40) +contextual only [hk, kept_ite, kept_upd, kept_foldl, kept_foldr, implies_true, and_self, keptOut_next, keptOut_ite, keptOut_fault, keptOut_awake, State.stoI_kept, State.done_kept]

theorem State.rqFinish_kept {b0 : Before} (s : State) (r : Nat) (hk : Kept b0 s) : Kept b0 (State.rqFinish s r) := by
  unfold State.rqFinish
  dsimp only
  repeat' split
  all_goals simp (maxDischargeDepth := 40) +contextual only [hk, kept_ite, kept_upd, kept_foldl, kept_foldr, implies_true, and_self, keptOut_next, keptOut_ite, keptOut_fault, keptOut_awake, State.fresh_kept, State.put_kept, State.stoI_kept, State.raise_kept, State.rqAnswer_kept]

theorem State.rqSubmit_kept {b0 : Before} (s : State) (ws : List Nat) (p : Option Pkt) (hk : Kept b0 s) : Kept b0 (State.rqSubmit s ws p) := by
  unfold State.rqSubmit
  simp (maxDischargeDepth := 40) +contextual only [hk, kept_ite, kept_upd, kept_foldl, kept_foldr, implies_true, and_self, keptOut_next, keptOut_ite, keptOut_fault, keptOut_awake, State.put_kept, State.stoI_kept, State.rqFinish_kept]

theorem State.rqPump_kept {b0 : Before} (n : Nat) (s : State) (h : Kept b0 s) : Kept b0 (State.rqPump n s) := by
  induction n generalizing s with
  | zero => exact h
  | succ n ih =>
    unfold State.rqPump
    split
    · exact h
    · split
      · exact ih _ (State.rqSubmit_kept _ _ _ (State.stoI_kept _ _ h))
      · exact h

theorem State.rqEnd_kept {b0 : Before} (s : State) (r : Nat) (hk : Kept b0 s) : Kept b0 (State.rqEnd s r) := by
  unfold State.rqEnd
  simp (maxDischargeDepth := 40) +contextual only [hk, kept_ite, kept_upd, kept_foldl, kept_foldr, implies_true, and_self, keptOut_next, keptOut_ite, keptOut_fault, keptOut_awake, State.rqFinish_kept, State.rqPump_kept]

theorem State.rqRun_kept {b0 : Before} (s : State) (code : Nat) (effect : Nat → List Nat → State → State)
    (he : ∀ a ws t, Kept b0 t → Kept b0 (effect a ws t)) (h : Kept b0 s) : Kept b0 (s.rqRun code effect) := by
  unfold State.rqRun
  split
  · exact h
  · dsimp only
    split
    · exact h
    · split
      · exact State.rqEnd_kept _ _ h
      · exact State.rqEnd_kept _ _ (he _ _ _ h)

theorem execStoReq7Write_kept {b0 : Before} (v : Word) (s : State) (hk : Kept b0 s) : KeptOut b0 (execStoReq7Write v s) := by
  unfold execStoReq7Write
  simp (maxDischargeDepth := 40) +contextual only [hk, kept_ite, kept_upd, kept_foldl, kept_foldr, implies_true, and_self, keptOut_next, keptOut_ite, keptOut_fault, keptOut_awake, State.rqSubmit_kept, State.rqPump_kept]

theorem execConfigWrite_kept {b0 : Before} (s : State) (hk : Kept b0 s) : KeptOut b0 (execConfigWrite s) := by
  unfold execConfigWrite
  simp (maxDischargeDepth := 40) +contextual only [hk, kept_ite, kept_upd, kept_foldl, kept_foldr, implies_true, and_self, keptOut_next, keptOut_ite, keptOut_fault, keptOut_awake, State.rqRun_kept, State.stoI_kept]

theorem execConfigCommit_kept {b0 : Before} (s : State) (hk : Kept b0 s) : KeptOut b0 (execConfigCommit s) := by
  unfold execConfigCommit
  simp (maxDischargeDepth := 40) +contextual only [hk, kept_ite, kept_upd, kept_foldl, kept_foldr, implies_true, and_self, keptOut_next, keptOut_ite, keptOut_fault, keptOut_awake, State.rqRun_kept, State.useCfg_kept, State.post_kept]

theorem execArm_kept {b0 : Before} (s : State) (hk : Kept b0 s) : KeptOut b0 (execArm s) := by
  unfold execArm
  simp (maxDischargeDepth := 40) +contextual only [hk, kept_ite, kept_upd, kept_foldl, kept_foldr, implies_true, and_self, keptOut_next, keptOut_ite, keptOut_fault, keptOut_awake, State.rqRun_kept, State.setSuSt_kept]

theorem execDisarm_kept {b0 : Before} (s : State) (hk : Kept b0 s) : KeptOut b0 (execDisarm s) := by
  unfold execDisarm
  simp (maxDischargeDepth := 40) +contextual only [hk, kept_ite, kept_upd, kept_foldl, kept_foldr, implies_true, and_self, keptOut_next, keptOut_ite, keptOut_fault, keptOut_awake, State.rqRun_kept, State.setSuSt_kept]

theorem execReset_kept {b0 : Before} (s : State) (hk : Kept b0 s) : KeptOut b0 (execReset s) := by
  unfold execReset
  simp (maxDischargeDepth := 40) +contextual only [hk, kept_ite, kept_upd, kept_foldl, kept_foldr, implies_true, and_self, keptOut_next, keptOut_ite, keptOut_fault, keptOut_awake, State.rqRun_kept, State.stoI_kept]

theorem execDemand_kept {b0 : Before} (s : State) (hk : Kept b0 s) : KeptOut b0 (execDemand s) := by
  unfold execDemand
  simp (maxDischargeDepth := 40) +contextual only [hk, kept_ite, kept_upd, kept_foldl, kept_foldr, implies_true, and_self, keptOut_next, keptOut_ite, keptOut_fault, keptOut_awake, State.rqRun_kept, State.stoI_kept]

theorem execRelease_kept {b0 : Before} (s : State) (hk : Kept b0 s) : KeptOut b0 (execRelease s) := by
  unfold execRelease
  simp (maxDischargeDepth := 40) +contextual only [hk, kept_ite, kept_upd, kept_foldl, kept_foldr, implies_true, and_self, keptOut_next, keptOut_ite, keptOut_fault, keptOut_awake, State.rqRun_kept, State.stoI_kept]

theorem State.clearIn_kept {b0 : Before} (s : State) (i : Nat) (hk : Kept b0 s) : Kept b0 (State.clearIn s i) := by
  unfold State.clearIn
  simp (maxDischargeDepth := 40) +contextual only [hk, kept_ite, kept_upd, kept_foldl, kept_foldr, implies_true, and_self, keptOut_next, keptOut_ite, keptOut_fault, keptOut_awake, State.setSin_kept, State.put_kept]

theorem State.clearCh_kept {b0 : Before} (s : State) (k : Nat) (hk : Kept b0 s) : Kept b0 (State.clearCh s k) := by
  unfold State.clearCh
  simp (maxDischargeDepth := 40) +contextual only [hk, kept_ite, kept_upd, kept_foldl, kept_foldr, implies_true, and_self, keptOut_next, keptOut_ite, keptOut_fault, keptOut_awake, State.put_kept, State.setChSt_kept]

theorem State.clearConn_kept {b0 : Before} (s : State) (j : Nat) (hk : Kept b0 s) : Kept b0 (State.clearConn s j) := by
  unfold State.clearConn
  simp (maxDischargeDepth := 40) +contextual only [hk, kept_ite, kept_upd, kept_foldl, kept_foldr, implies_true, and_self, keptOut_next, keptOut_ite, keptOut_fault, keptOut_awake, State.setSf_kept, State.showConn_kept]

theorem State.clearSluice_kept {b0 : Before} (s : State) (hk : Kept b0 s) : Kept b0 (State.clearSluice s) := by
  unfold State.clearSluice
  simp (maxDischargeDepth := 40) +contextual only [hk, kept_ite, kept_upd, kept_foldl, kept_foldr, implies_true, and_self, keptOut_next, keptOut_ite, keptOut_fault, keptOut_awake, State.stoI_kept, State.setSuSt_kept]

theorem execClearFault_kept {b0 : Before} (s : State) (hk : Kept b0 s) : KeptOut b0 (execClearFault s) := by
  unfold execClearFault
  simp (maxDischargeDepth := 40) +contextual only [hk, kept_ite, kept_upd, kept_foldl, kept_foldr, implies_true, and_self, keptOut_next, keptOut_ite, keptOut_fault, keptOut_awake, State.rqRun_kept, State.clearCh_kept, State.clearIn_kept, State.clearConn_kept, State.clearSluice_kept]

theorem execTestNow_kept {b0 : Before} (s : State) (hk : Kept b0 s) : KeptOut b0 (execTestNow s) := by
  unfold execTestNow
  simp (maxDischargeDepth := 40) +contextual only [hk, kept_ite, kept_upd, kept_foldl, kept_foldr, implies_true, and_self, keptOut_next, keptOut_ite, keptOut_fault, keptOut_awake, State.rqRun_kept, State.setStoCh_kept]

theorem execSluiceStatus_kept {b0 : Before} (p : Pkt) (s : State) (hk : Kept b0 s) : KeptOut b0 (execSluiceStatus p s) := by
  unfold execSluiceStatus
  simp (maxDischargeDepth := 40) +contextual only [hk, kept_ite, kept_upd, kept_foldl, kept_foldr, implies_true, and_self, keptOut_next, keptOut_ite, keptOut_fault, keptOut_awake, State.command_kept, State.doneRes_kept]

theorem execSluiceRequest_kept {b0 : Before} (p : Pkt) (s : State) (hk : Kept b0 s) : KeptOut b0 (execSluiceRequest p s) := by
  unfold execSluiceRequest
  simp (maxDischargeDepth := 40) +contextual only [hk, kept_ite, kept_upd, kept_foldl, kept_foldr, implies_true, and_self, keptOut_next, keptOut_ite, keptOut_fault, keptOut_awake, State.command_kept, State.stoI_kept, State.rqPump_kept]

theorem execSluiceRequestTimeout_kept {b0 : Before} (s : State) (hk : Kept b0 s) : KeptOut b0 (execSluiceRequestTimeout s) := by
  unfold execSluiceRequestTimeout
  split <;> simp (maxDischargeDepth := 40) +contextual only [hk, kept_ite, kept_upd, kept_foldl, kept_foldr, implies_true, and_self, keptOut_next, keptOut_ite, keptOut_fault, keptOut_awake, State.advanceTo_kept, State.stoI_kept, State.rqAnswer_kept]

theorem execVddSafeRestored_kept {b0 : Before} (s : State) (hk : Kept b0 s) : KeptOut b0 (execVddSafeRestored s) := by
  unfold execVddSafeRestored
  simp (maxDischargeDepth := 40) +contextual only [hk, kept_ite, kept_upd, kept_foldl, kept_foldr, implies_true, and_self, keptOut_next, keptOut_ite, keptOut_fault, keptOut_awake, State.stoI_kept, State.rqPump_kept]

theorem State.splRx_kept {b0 : Before} (s : State) (f : SplFrame) (ftype : Nat) (content : List Nat) (body : State → State)
    (hb : ∀ t, Kept b0 t → Kept b0 (body t)) (h : Kept b0 s) : Kept b0 (s.splRx f ftype content body) := by
  unfold State.splRx
  dsimp only
  split
  · exact h
  · split
    · exact State.raise_kept _ _ _ (State.incSat_kept _ _ h)
    · split
      · exact h
      · split
        · exact hb _ (State.incSat_kept _ _ h)
        · exact State.splOut_kept _ _ (State.incSat_kept _ _ h)

theorem State.splDown_kept {b0 : Before} (s : State) (l : Nat) (hk : Kept b0 s) : Kept b0 (State.splDown s l) := by
  unfold State.splDown
  simp (maxDischargeDepth := 40) +contextual only [hk, kept_ite, kept_upd, kept_foldl, kept_foldr, implies_true, and_self, keptOut_next, keptOut_ite, keptOut_fault, keptOut_awake, State.put_kept, State.raise_kept, State.incSat_kept, State.dropSource_kept, State.sourceLost_kept]

theorem execSpliceLinkChange_kept {b0 : Before} (l : Nat) (up : Bool) (s : State) (hk : Kept b0 s) : KeptOut b0 (execSpliceLinkChange l up s) := by
  unfold execSpliceLinkChange
  simp (maxDischargeDepth := 40) +contextual only [hk, kept_ite, kept_upd, kept_foldl, kept_foldr, implies_true, and_self, keptOut_next, keptOut_ite, keptOut_fault, keptOut_awake, State.put_kept, State.raise_kept, State.splDown_kept]

theorem State.splLearn_kept {b0 : Before} (s : State) (l src hops : Nat) (uids : List Nat) (d : Nat) (hk : Kept b0 s) : Kept b0 (State.splLearn s l src hops uids d) := by
  unfold State.splLearn
  simp (maxDischargeDepth := 40) +contextual only [hk, kept_ite, kept_upd, kept_foldl, kept_foldr, implies_true, and_self, keptOut_next, keptOut_ite, keptOut_fault, keptOut_awake, State.put_kept, State.put64_kept]

theorem State.splTime_kept {b0 : Before} (s : State) (l : Nat) (offset : Int) (hk : Kept b0 s) : Kept b0 (State.splTime s l offset) := by
  unfold State.splTime
  simp (maxDischargeDepth := 40) +contextual only [hk, kept_ite, kept_upd, kept_foldl, kept_foldr, implies_true, and_self, keptOut_next, keptOut_ite, keptOut_fault, keptOut_awake, State.timeSample_kept]

theorem execSpliceTimeFrame_kept {b0 : Before} (f : SplFrame) (offset : Int) (hops : Nat) (uids : List Nat) (s : State) (hk : Kept b0 s) : KeptOut b0 (execSpliceTimeFrame f offset hops uids s) := by
  unfold execSpliceTimeFrame
  simp (maxDischargeDepth := 40) +contextual only [hk, kept_ite, kept_upd, kept_foldl, kept_foldr, implies_true, and_self, keptOut_next, keptOut_ite, keptOut_fault, keptOut_awake, State.splRx_kept, State.put_kept, State.splEmit_kept, State.splLearn_kept, State.splTime_kept]

theorem State.signalRx_kept {b0 : Before} (s : State) (f : SplFrame) (core word ts : Nat) (hk : Kept b0 s) : Kept b0 (State.signalRx s f core word ts) := by
  unfold State.signalRx
  simp (maxDischargeDepth := 40) +contextual only [hk, kept_ite, kept_upd, kept_foldl, kept_foldr, implies_true, and_self, keptOut_next, keptOut_ite, keptOut_fault, keptOut_awake, State.incSat_kept, State.raise_kept]

theorem execSignalFrameRx_kept {b0 : Before} (f : SplFrame) (core : Nat) (word : Word) (ts : Nat) (s : State) (hk : Kept b0 s) : KeptOut b0 (execSignalFrameRx f core word ts s) := by
  unfold execSignalFrameRx
  simp (maxDischargeDepth := 40) +contextual only [hk, kept_ite, kept_upd, kept_foldl, kept_foldr, implies_true, and_self, keptOut_next, keptOut_ite, keptOut_fault, keptOut_awake, State.splRx_kept, State.signalRx_kept]

theorem State.feedSplice_kept {b0 : Before} (s : State) (key : Nat) (hk : Kept b0 s) : Kept b0 (State.feedSplice s key) := by
  unfold State.feedSplice
  simp (maxDischargeDepth := 40) +contextual only [hk, kept_ite, kept_upd, kept_foldl, kept_foldr, implies_true, and_self, keptOut_next, keptOut_ite, keptOut_fault, keptOut_awake, State.tickSlot_kept]

theorem execSignalDelivery_kept {b0 : Before} (s : State) (hk : Kept b0 s) : KeptOut b0 (execSignalDelivery s) := by
  unfold execSignalDelivery
  split <;> simp (maxDischargeDepth := 40) +contextual only [hk, kept_ite, kept_upd, kept_foldl, kept_foldr, implies_true, and_self, keptOut_next, keptOut_ite, keptOut_fault, keptOut_awake, State.advanceTo_kept, State.feedSplice_kept]

theorem execSpliceCommandRx_kept {b0 : Before} (f : SplFrame) (ws : List Word) (s : State) (hk : Kept b0 s) : KeptOut b0 (execSpliceCommandRx f ws s) := by
  unfold execSpliceCommandRx
  simp (maxDischargeDepth := 40) +contextual only [hk, kept_ite, kept_upd, kept_foldl, kept_foldr, implies_true, and_self, keptOut_next, keptOut_ite, keptOut_fault, keptOut_awake, State.splRx_kept, State.remoteArrive_kept]

theorem State.splToRing_kept {b0 : Before} (s : State) (ws : List Nat) (stamp : Nat) (hk : Kept b0 s) : Kept b0 (State.splToRing s ws stamp) := by
  unfold State.splToRing
  simp (maxDischargeDepth := 40) +contextual only [hk, kept_ite, kept_upd, kept_foldl, kept_foldr, implies_true, and_self, keptOut_next, keptOut_ite, keptOut_fault, keptOut_awake, State.putBytes_kept, State.setWords_kept, State.put_kept, State.pulse_kept]

theorem execSpliceReplyRx_kept {b0 : Before} (f : SplFrame) (ws : List Word) (stamp : Nat) (s : State) (hk : Kept b0 s) : KeptOut b0 (execSpliceReplyRx f ws stamp s) := by
  unfold execSpliceReplyRx
  simp (maxDischargeDepth := 40) +contextual only [hk, kept_ite, kept_upd, kept_foldl, kept_foldr, implies_true, and_self, keptOut_next, keptOut_ite, keptOut_fault, keptOut_awake, State.splRx_kept, State.splToRing_kept]

theorem State.splTxRing_kept {b0 : Before} (k : Nat) (s : State) (h : Kept b0 s) : Kept b0 (State.splTxRing k s) := by
  induction k generalizing s with
  | zero => exact h
  | succ k ih =>
    unfold State.splTxRing
    dsimp only
    split
    · exact h
    · refine ih _ (State.pulse_kept _ _ (State.put_kept _ _ _ (State.setWord_kept _ _ _ ?_)))
      simp only [kept_ite, h, State.splOut_kept, implies_true, and_self]

theorem State.splTail_kept {b0 : Before} (s : State) (v : Nat) (hk : Kept b0 s) : Kept b0 (State.splTail s v) := by
  unfold State.splTail
  simp (maxDischargeDepth := 40) +contextual only [hk, kept_ite, kept_upd, kept_foldl, kept_foldr, implies_true, and_self, keptOut_next, keptOut_ite, keptOut_fault, keptOut_awake, State.splTxRing_kept, State.put_kept]

theorem State.splCtrl_kept {b0 : Before} (s : State) (v : Nat) (hk : Kept b0 s) : Kept b0 (State.splCtrl s v) := by
  unfold State.splCtrl
  simp (maxDischargeDepth := 40) +contextual only [hk, kept_ite, kept_upd, kept_foldl, kept_foldr, implies_true, and_self, keptOut_next, keptOut_ite, keptOut_fault, keptOut_awake, State.splDown_kept, State.setWord_kept]

theorem State.spliceCfg_kept {b0 : Before} (s : State) (w1 w2 w3 : Nat) (hk : Kept b0 s) : Kept b0 (State.spliceCfg s w1 w2 w3) := by
  unfold State.spliceCfg
  simp (maxDischargeDepth := 40) +contextual only [hk, kept_ite, kept_upd, kept_foldl, kept_foldr, implies_true, and_self, keptOut_next, keptOut_ite, keptOut_fault, keptOut_awake, State.splCtrl_kept, State.put_kept]

theorem execSpliceConfig_kept {b0 : Before} (p : Pkt) (s : State) (hk : Kept b0 s) : KeptOut b0 (execSpliceConfig p s) := by
  unfold execSpliceConfig
  simp (maxDischargeDepth := 40) +contextual only [hk, kept_ite, kept_upd, kept_foldl, kept_foldr, implies_true, and_self, keptOut_next, keptOut_ite, keptOut_fault, keptOut_awake, State.command_kept, State.spliceCfg_kept, State.done_kept]

theorem execSpliceStatus_kept {b0 : Before} (p : Pkt) (s : State) (hk : Kept b0 s) : KeptOut b0 (execSpliceStatus p s) := by
  unfold execSpliceStatus
  simp (maxDischargeDepth := 40) +contextual only [hk, kept_ite, kept_upd, kept_foldl, kept_foldr, implies_true, and_self, keptOut_next, keptOut_ite, keptOut_fault, keptOut_awake, State.command_kept, State.doneRes_kept]

theorem State.mseqTake_kept {b0 : Before} (s : State) (q : Nat) (body again : State → State)
    (hb : ∀ t, Kept b0 t → Kept b0 (body t)) (ha : ∀ t, Kept b0 t → Kept b0 (again t)) (h : Kept b0 s) :
    Kept b0 (s.mseqTake q body again) := by
  unfold State.mseqTake
  dsimp only
  repeat' split
  · exact hb _ (State.lashI_kept _ _ h)
  · exact ha _ h
  · exact State.lashLost_kept _ _ h

theorem State.mirAccept_kept {b0 : Before} (s : State) (f : SplFrame) (body : State → State)
    (hb : ∀ t, Kept b0 t → Kept b0 (body t)) (h : Kept b0 s) : Kept b0 (s.mirAccept f body) := by
  unfold State.mirAccept
  split
  · exact h
  · split
    · exact State.lashLost_kept _ _ h
    · exact State.mseqTake_kept _ _ _ _ hb (fun _ ht => ht) h

theorem State.mirRx_kept {b0 : Before} (s : State) (f : SplFrame) (ftype : Nat) (content : List Nat)
    (body : State → State) (hb : ∀ t, Kept b0 t → Kept b0 (body t)) (h : Kept b0 s) : Kept b0 (s.mirRx f ftype content body) := by
  unfold State.mirRx
  exact State.splRx_kept s f ftype _ _ (fun t ht => State.mirAccept_kept t f body hb ht) h

theorem State.refreshSeen_kept {b0 : Before} (s : State) (hk : Kept b0 s) : Kept b0 (State.refreshSeen s) := by
  unfold State.refreshSeen
  simp (maxDischargeDepth := 40) +contextual only [hk, kept_ite, kept_upd, kept_foldl, kept_foldr, implies_true, and_self, keptOut_next, keptOut_ite, keptOut_fault, keptOut_awake, State.put_kept]

theorem State.setPartner_kept {b0 : Before} (s : State) (st : Nat) (hk : Kept b0 s) : Kept b0 (State.setPartner s st) := by
  unfold State.setPartner
  simp (maxDischargeDepth := 40) +contextual only [hk, kept_ite, kept_upd, kept_foldl, kept_foldr, implies_true, and_self, keptOut_next, keptOut_ite, keptOut_fault, keptOut_awake, State.lashI_kept, State.msix_kept]

theorem State.startSync_kept {b0 : Before} (s : State) (hk : Kept b0 s) : Kept b0 (State.startSync s) := by
  unfold State.startSync
  simp (maxDischargeDepth := 40) +contextual only [hk, kept_ite, kept_upd, kept_foldl, kept_foldr, implies_true, and_self, keptOut_next, keptOut_ite, keptOut_fault, keptOut_awake, State.lashI_kept, State.setLash_kept]

theorem State.seekPartner_kept {b0 : Before} (s : State) (c : LashControl) (hk : Kept b0 s) : Kept b0 (State.seekPartner s c) := by
  unfold State.seekPartner
  simp (maxDischargeDepth := 40) +contextual only [hk, kept_ite, kept_upd, kept_foldl, kept_foldr, implies_true, and_self, keptOut_next, keptOut_ite, keptOut_fault, keptOut_awake, State.startSync_kept, State.setLash_kept]

theorem State.snapEnd_kept {b0 : Before} (s : State) (hk : Kept b0 s) : Kept b0 (State.snapEnd s) := by
  unfold State.snapEnd
  simp (maxDischargeDepth := 40) +contextual only [hk, kept_ite, kept_upd, kept_foldl, kept_foldr, implies_true, and_self, keptOut_next, keptOut_ite, keptOut_fault, keptOut_awake, State.done_kept, State.lashI_kept, State.incSat_kept]

theorem State.seedFrom_kept {b0 : Before} (s : State) (loaded : Bool) (hk : Kept b0 s) : Kept b0 (State.seedFrom s loaded) := by
  unfold State.seedFrom
  simp (maxDischargeDepth := 40) +contextual only [hk, kept_ite, kept_upd, kept_foldl, kept_foldr, implies_true, and_self, keptOut_next, keptOut_ite, keptOut_fault, keptOut_awake, State.lashI_kept]

theorem State.controlAct_kept {b0 : Before} (s : State) (c : LashControl) (hk : Kept b0 s) : Kept b0 (State.controlAct s c) := by
  unfold State.controlAct
  simp (maxDischargeDepth := 40) +contextual only [hk, kept_ite, kept_upd, kept_foldl, kept_foldr, implies_true, and_self, keptOut_next, keptOut_ite, keptOut_fault, keptOut_awake, State.seekPartner_kept, State.setLash_kept, State.startSync_kept, State.lashI_kept, State.seedFrom_kept, State.snapEnd_kept]

theorem State.controlRx_kept {b0 : Before} (s : State) (f : SplFrame) (c : LashControl) (hk : Kept b0 s) : Kept b0 (State.controlRx s f c) := by
  unfold State.controlRx
  simp (maxDischargeDepth := 40) +contextual only [hk, kept_ite, kept_upd, kept_foldl, kept_foldr, implies_true, and_self, keptOut_next, keptOut_ite, keptOut_fault, keptOut_awake, State.put_kept, State.put64_kept, State.lashI_kept, State.refreshSeen_kept, State.setPartner_kept, State.controlAct_kept, State.lashLost_kept]

theorem execControlFrameRx_kept {b0 : Before} (f : SplFrame) (c : LashControl) (s : State) (hk : Kept b0 s) : KeptOut b0 (execControlFrameRx f c s) := by
  unfold execControlFrameRx
  simp (maxDischargeDepth := 40) +contextual only [hk, kept_ite, kept_upd, kept_foldl, kept_foldr, implies_true, and_self, keptOut_next, keptOut_ite, keptOut_fault, keptOut_awake, State.splRx_kept, State.controlRx_kept]

theorem execDeltaRx_kept {b0 : Before} (f : SplFrame) (d : ProgDelta) (last : Bool) (s : State) (hk : Kept b0 s) :
    KeptOut b0 (execDeltaRx f d last s) := by
  unfold execDeltaRx
  rw [keptOut_awake hk]
  intro _
  rw [keptOut_next]
  exact State.mirRx_kept _ _ _ _ _ (fun _ ht => State.lashI_kept _ _ ht) hk

theorem State.setMasked_kept {b0 : Before} (s : State) (a mask v : Nat) (hk : Kept b0 s) : Kept b0 (State.setMasked s a mask v) := by
  unfold State.setMasked
  simp (maxDischargeDepth := 40) +contextual only [hk, kept_ite, kept_upd, kept_foldl, kept_foldr, implies_true, and_self, keptOut_next, keptOut_ite, keptOut_fault, keptOut_awake, State.setWord_kept]

theorem State.snapClear_kept {b0 : Before} (s : State) (hk : Kept b0 s) : Kept b0 (State.snapClear s) := by
  unfold State.snapClear
  simp (maxDischargeDepth := 40) +contextual only [hk, kept_ite, kept_upd, kept_foldl, kept_foldr, implies_true, and_self, keptOut_next, keptOut_ite, keptOut_fault, keptOut_awake, State.setMasked_kept]

theorem State.loadPart_kept {b0 : Before} (s : State) (p : SnapPart) (hk : Kept b0 s) : Kept b0 (State.loadPart s p) := by
  unfold State.loadPart
  split <;> simp (maxDischargeDepth := 40) +contextual only [hk, kept_ite, kept_upd, kept_foldl, kept_foldr, implies_true, and_self, keptOut_next, keptOut_ite, keptOut_fault, keptOut_awake, State.setMasked_kept, State.setRcp_kept]

theorem State.loadSnap_kept {b0 : Before} (s : State) (ps : List SnapPart) (hk : Kept b0 s) : Kept b0 (State.loadSnap s ps) := by
  unfold State.loadSnap
  simp (maxDischargeDepth := 40) +contextual only [hk, kept_ite, kept_upd, kept_foldl, kept_foldr, implies_true, and_self, keptOut_next, keptOut_ite, keptOut_fault, keptOut_awake, State.loadPart_kept, State.snapClear_kept, State.lashI_kept]

theorem State.snapTx_kept {b0 : Before} (s : State) (hk : Kept b0 s) : Kept b0 (State.snapTx s) := by
  unfold State.snapTx
  simp (maxDischargeDepth := 40) +contextual only [hk, kept_ite, kept_upd, kept_foldl, kept_foldr, implies_true, and_self, keptOut_next, keptOut_ite, keptOut_fault, keptOut_awake, State.mirrorSend_kept, State.lashI_kept]

theorem State.bringUp_kept {b0 : Before} (s : State) (k : Nat) (hk : Kept b0 s) : Kept b0 (State.bringUp s k) := by
  unfold State.bringUp
  simp (maxDischargeDepth := 40) +contextual only [hk, kept_ite, kept_upd, kept_foldl, kept_foldr, implies_true, and_self, keptOut_next, keptOut_ite, keptOut_fault, keptOut_awake, State.snapTx_kept, State.seedTx_kept, State.seedSlot_kept]

theorem State.seedUnit_kept {b0 : Before} (s : State) (x : Seed) (hk : Kept b0 s) : Kept b0 (State.seedUnit s x) := by
  unfold State.seedUnit
  split <;> simp (maxDischargeDepth := 40) +contextual only [hk, kept_ite, kept_upd, kept_foldl, kept_foldr, implies_true, and_self, keptOut_next, keptOut_ite, keptOut_fault, keptOut_awake, State.setWords_kept, State.put_kept, State.setSlot_kept, State.setAx_kept, State.lashI_kept]

theorem State.takeDigest_kept {b0 : Before} (s : State) (k : Nat) (slots : List (List Nat)) (hk : Kept b0 s) : Kept b0 (State.takeDigest s k slots) := by
  unfold State.takeDigest
  simp (maxDischargeDepth := 40) +contextual only [hk, kept_ite, kept_upd, kept_foldl, kept_foldr, implies_true, and_self, keptOut_next, keptOut_ite, keptOut_fault, keptOut_awake, State.lashI_kept]

theorem State.digSend_kept {b0 : Before} (s : State) (k : Nat) (ws : List Nat) (hk : Kept b0 s) : Kept b0 (State.digSend s k ws) := by
  unfold State.digSend
  simp (maxDischargeDepth := 40) +contextual only [hk, kept_ite, kept_upd, kept_foldl, kept_foldr, implies_true, and_self, keptOut_next, keptOut_ite, keptOut_fault, keptOut_awake, State.put_kept, State.setWords_kept, State.mirrorSend_kept, State.setLash_kept]

theorem execDigestSend_kept {b0 : Before} (s : State) (hk : Kept b0 s) : KeptOut b0 (execDigestSend s) := by
  unfold execDigestSend
  split <;> simp (maxDischargeDepth := 40) +contextual only [hk, kept_ite, kept_upd, kept_foldl, kept_foldr, implies_true, and_self, keptOut_next, keptOut_ite, keptOut_fault, keptOut_awake, State.advanceTo_kept, State.digSend_kept]

theorem State.badDigest_kept {b0 : Before} (s : State) (hk : Kept b0 s) : Kept b0 (State.badDigest s) := by
  unfold State.badDigest
  dsimp only
  repeat' split
  all_goals simp (maxDischargeDepth := 40) +contextual only [hk, kept_ite, kept_upd, kept_foldl, kept_foldr, implies_true, and_self, keptOut_next, keptOut_ite, keptOut_fault, keptOut_awake, State.incSat_kept, State.put_kept, State.raise_kept, State.lashI_kept, State.setLash_kept, State.setPartner_kept]

theorem State.goodDigest_kept {b0 : Before} (s : State) (ws : List Nat) (hk : Kept b0 s) : Kept b0 (State.goodDigest s ws) := by
  unfold State.goodDigest
  simp (maxDischargeDepth := 40) +contextual only [hk, kept_ite, kept_upd, kept_foldl, kept_foldr, implies_true, and_self, keptOut_next, keptOut_ite, keptOut_fault, keptOut_awake, State.put_kept, State.setWords_kept, State.lashI_kept, State.setPartner_kept, State.incSat_kept, State.raise_kept, State.lashLost_kept, State.snapEnd_kept, State.setLash_kept]

theorem State.digCopy_kept {b0 : Before} (a : State × Option (List Nat)) (e : Nat × List Word) (h : Kept b0 a.1) :
    Kept b0 (State.digCopy a e).1 := by
  unfold State.digCopy
  dsimp only
  repeat' split
  all_goals simp (maxDischargeDepth := 40) only [h, State.incSat_kept, State.raise_kept, State.splOut_kept]

theorem State.digTake_kept {b0 : Before} (ws : List Nat) (s : State) (hk : Kept b0 s) : Kept b0 (State.digTake ws s) := by
  unfold State.digTake
  simp (maxDischargeDepth := 40) +contextual only [hk, kept_ite, kept_upd, kept_foldl, kept_foldr, implies_true, and_self, keptOut_next, keptOut_ite, keptOut_fault, keptOut_awake, State.goodDigest_kept, State.badDigest_kept]

theorem State.digJudge_kept {b0 : Before} (s : State) (rx : List (Nat × List Word)) (h : Kept b0 s) : Kept b0 (s.digJudge rx) := by
  unfold State.digJudge
  have h1 : Kept b0 (rx.foldl State.digCopy (s, none)).1 := kept_foldl1 (fun u e hu => State.digCopy_kept _ _ hu) h
  generalize rx.foldl State.digCopy (s, none) = r at h1
  dsimp only
  split
  · exact State.badDigest_kept _ h1
  · split
    · exact State.mseqTake_kept _ _ _ _ (fun _ ht => State.digTake_kept _ _ ht) (fun _ ht => State.badDigest_kept _ ht) h1
    · exact State.digTake_kept _ _ h1

theorem execDigestDue_kept {b0 : Before} (rx : List (Nat × List Word)) (s : State) (hk : Kept b0 s) : KeptOut b0 (execDigestDue rx s) := by
  unfold execDigestDue
  simp (maxDischargeDepth := 40) +contextual only [hk, kept_ite, kept_upd, kept_foldl, kept_foldr, implies_true, and_self, keptOut_next, keptOut_ite, keptOut_fault, keptOut_awake, State.advanceTo_kept, State.digJudge_kept]

theorem execLoneTmoExpiry_kept {b0 : Before} (s : State) (hk : Kept b0 s) : KeptOut b0 (execLoneTmoExpiry s) := by
  unfold execLoneTmoExpiry
  simp (maxDischargeDepth := 40) +contextual only [hk, kept_ite, kept_upd, kept_foldl, kept_foldr, implies_true, and_self, keptOut_next, keptOut_ite, keptOut_fault, keptOut_awake, State.advanceTo_kept, State.setLash_kept]

theorem execSnapshotTimeout_kept {b0 : Before} (s : State) (hk : Kept b0 s) : KeptOut b0 (execSnapshotTimeout s) := by
  unfold execSnapshotTimeout
  split <;> simp (maxDischargeDepth := 40) +contextual only [hk, kept_ite, kept_upd, kept_foldl, kept_foldr, implies_true, and_self, keptOut_next, keptOut_ite, keptOut_fault, keptOut_awake, State.advanceTo_kept, State.lashI_kept, State.done_kept, State.setLash_kept]

theorem execLashSwitchTimeout_kept {b0 : Before} (s : State) (hk : Kept b0 s) : KeptOut b0 (execLashSwitchTimeout s) := by
  unfold execLashSwitchTimeout
  split <;> simp (maxDischargeDepth := 40) +contextual only [hk, kept_ite, kept_upd, kept_foldl, kept_foldr, implies_true, and_self, keptOut_next, keptOut_ite, keptOut_fault, keptOut_awake, State.advanceTo_kept, State.lashI_kept, State.done_kept]

theorem State.ownImageStart_kept {b0 : Before} (s : State) (hk : Kept b0 s) : Kept b0 (State.ownImageStart s) := by
  unfold State.ownImageStart
  split <;> simp (maxDischargeDepth := 40) +contextual only [hk, kept_ite, kept_upd, kept_foldl, kept_foldr, implies_true, and_self, keptOut_next, keptOut_ite, keptOut_fault, keptOut_awake, State.initWords_kept]

theorem State.lashTakeover_kept {b0 : Before} (s : State) (hk : Kept b0 s) : Kept b0 (State.lashTakeover s) := by
  unfold State.lashTakeover
  simp (maxDischargeDepth := 40) +contextual only [hk, kept_ite, kept_upd, kept_foldl, kept_foldr, implies_true, and_self, keptOut_next, keptOut_ite, keptOut_fault, keptOut_awake, State.incSat_kept, State.raise_kept, State.lifeInc_kept, State.ownImageStart_kept, State.lashI_kept, State.setLash_kept]

theorem State.lashSwap_kept {b0 : Before} (s : State) (hk : Kept b0 s) : Kept b0 (State.lashSwap s) := by
  unfold State.lashSwap
  simp (maxDischargeDepth := 40) +contextual only [hk, kept_ite, kept_upd, kept_foldl, kept_foldr, implies_true, and_self, keptOut_next, keptOut_ite, keptOut_fault, keptOut_awake, State.incSat_kept, State.lifeInc_kept, State.reply_kept, State.lashI_kept, State.setLash_kept]

theorem State.lashLatch_kept {b0 : Before} (s : State) (hk : Kept b0 s) : Kept b0 (State.lashLatch s) := by
  unfold State.lashLatch
  simp (maxDischargeDepth := 40) +contextual only [hk, kept_ite, kept_upd, kept_foldl, kept_foldr, implies_true, and_self, keptOut_next, keptOut_ite, keptOut_fault, keptOut_awake, State.lashTakeover_kept, State.lashSwap_kept]

theorem State.pairSeen_kept {b0 : Before} (s : State) (k : Nat) (hk : Kept b0 s) : Kept b0 (State.pairSeen s k) := by
  unfold State.pairSeen
  simp (maxDischargeDepth := 40) +contextual only [hk, kept_ite, kept_upd, kept_foldl, kept_foldr, implies_true, and_self, keptOut_next, keptOut_ite, keptOut_fault, keptOut_awake, State.lashI_kept]

theorem State.lashCfg_kept {b0 : Before} (s : State) (ws : List Nat) (hk : Kept b0 s) : Kept b0 (State.lashCfg s ws) := by
  unfold State.lashCfg
  simp (maxDischargeDepth := 40) +contextual only [hk, kept_ite, kept_upd, kept_foldl, kept_foldr, implies_true, and_self, keptOut_next, keptOut_ite, keptOut_fault, keptOut_awake, State.setWord_kept, State.setWords_kept, State.setLash_kept]

theorem State.detachPartner_kept {b0 : Before} (s : State) (hk : Kept b0 s) : Kept b0 (State.detachPartner s) := by
  unfold State.detachPartner
  simp (maxDischargeDepth := 40) +contextual only [hk, kept_ite, kept_upd, kept_foldl, kept_foldr, implies_true, and_self, keptOut_next, keptOut_ite, keptOut_fault, keptOut_awake, State.controlSend_kept, State.setPartner_kept]

theorem execLashConfig_kept {b0 : Before} (p : Pkt) (s : State) (hk : Kept b0 s) : KeptOut b0 (execLashConfig p s) := by
  unfold execLashConfig
  simp (maxDischargeDepth := 40) +contextual only [hk, kept_ite, kept_upd, kept_foldl, kept_foldr, implies_true, and_self, keptOut_next, keptOut_ite, keptOut_fault, keptOut_awake, State.command_kept, State.detachPartner_kept, State.done_kept, State.lashCfg_kept]

theorem execLashStatus_kept {b0 : Before} (p : Pkt) (s : State) (hk : Kept b0 s) : KeptOut b0 (execLashStatus p s) := by
  unfold execLashStatus
  simp (maxDischargeDepth := 40) +contextual only [hk, kept_ite, kept_upd, kept_foldl, kept_foldr, implies_true, and_self, keptOut_next, keptOut_ite, keptOut_fault, keptOut_awake, State.command_kept, State.refreshSeen_kept, State.doneRes_kept]

theorem execLashSwitch_kept {b0 : Before} (p : Pkt) (s : State) (hk : Kept b0 s) : KeptOut b0 (execLashSwitch p s) := by
  unfold execLashSwitch
  simp (maxDischargeDepth := 40) +contextual only [hk, kept_ite, kept_upd, kept_foldl, kept_foldr, implies_true, and_self, keptOut_next, keptOut_ite, keptOut_fault, keptOut_awake, State.command_kept, State.lashI_kept, State.accept_kept]

theorem execLashSnapshot_kept {b0 : Before} (p : Pkt) (s : State) (hk : Kept b0 s) : KeptOut b0 (execLashSnapshot p s) := by
  unfold execLashSnapshot
  simp (maxDischargeDepth := 40) +contextual only [hk, kept_ite, kept_upd, kept_foldl, kept_foldr, implies_true, and_self, keptOut_next, keptOut_ite, keptOut_fault, keptOut_awake, State.command_kept, State.controlSend_kept, State.lashI_kept, State.accept_kept]

theorem State.latchSeg_kept {b0 : Before} (sc : Sched) (nulls : List Nat) (sf : Option Nat) (s : State) (seg : Nat) (hk : Kept b0 s) : Kept b0 (State.latchSeg sc nulls sf s seg) := by
  unfold State.latchSeg
  split <;> simp (maxDischargeDepth := 40) +contextual only [hk, kept_ite, kept_upd, kept_foldl, kept_foldr, implies_true, and_self, keptOut_next, keptOut_ite, keptOut_fault, keptOut_awake, State.setTx_kept, State.incSat_kept, State.raise_kept, State.fresh_kept]

theorem State.segmentLatch_kept {b0 : Before} (s : State) (hk : Kept b0 s) : Kept b0 (State.segmentLatch s) := by
  unfold State.segmentLatch
  split <;> simp (maxDischargeDepth := 40) +contextual only [hk, kept_ite, kept_upd, kept_foldl, kept_foldr, implies_true, and_self, keptOut_next, keptOut_ite, keptOut_fault, keptOut_awake, State.latchSeg_kept, State.safetyTx_kept]

theorem execSegmentLatch_kept {b0 : Before} (s : State) (hk : Kept b0 s) : KeptOut b0 (execSegmentLatch s) := by
  unfold execSegmentLatch
  simp (maxDischargeDepth := 40) +contextual only [hk, kept_ite, kept_upd, kept_foldl, kept_foldr, implies_true, and_self, keptOut_next, keptOut_ite, keptOut_fault, keptOut_awake, State.lashLatch_kept, State.segmentLatch_kept]

theorem State.passOwned_kept {b0 : Before} (s : State) (sc : Sched) (seg len kind : Nat) (hk : Kept b0 s) : Kept b0 (State.passOwned s sc seg len kind) := by
  unfold State.passOwned
  simp (maxDischargeDepth := 40) +contextual only [hk, kept_ite, kept_upd, kept_foldl, kept_foldr, implies_true, and_self, keptOut_next, keptOut_ite, keptOut_fault, keptOut_awake, State.passAnswer_kept]

theorem State.nodeSeen_kept {b0 : Before} (s : State) (n : Nat) (hk : Kept b0 s) : Kept b0 (State.nodeSeen s n) := by
  unfold State.nodeSeen
  simp (maxDischargeDepth := 40) +contextual only [hk, kept_ite, kept_upd, kept_foldl, kept_foldr, implies_true, and_self, keptOut_next, keptOut_ite, keptOut_fault, keptOut_awake, State.setNode_kept, State.hpJoin_kept]

theorem State.tickSegSlots_kept {b0 : Before} (s : State) (seg : Nat) (stale : Bool) (hk : Kept b0 s) : Kept b0 (State.tickSegSlots s seg stale) := by
  unfold State.tickSegSlots
  simp (maxDischargeDepth := 40) +contextual only [hk, kept_ite, kept_upd, kept_foldl, kept_foldr, implies_true, and_self, keptOut_next, keptOut_ite, keptOut_fault, keptOut_awake, State.tickRing_kept]

theorem State.mapWords_kept {b0 : Before} (s : State) (sc : Sched) (dir seg : Nat) (data : List Nat) (hk : Kept b0 s) : Kept b0 (State.mapWords s sc dir seg data) := by
  unfold State.mapWords
  simp (maxDischargeDepth := 40) +contextual only [hk, kept_ite, kept_upd, kept_foldl, kept_foldr, implies_true, and_self, keptOut_next, keptOut_ite, keptOut_fault, keptOut_awake, State.setImg_kept]

theorem State.trackPair_kept {b0 : Before} (s : State) (sc : Sched) (seg owner fresh : Nat) (null : Bool) (data : List Nat) (hk : Kept b0 s) : Kept b0 (State.trackPair s sc seg owner fresh null data) := by
  unfold State.trackPair
  simp (maxDischargeDepth := 40) +contextual only [hk, kept_ite, kept_upd, kept_foldl, kept_foldr, implies_true, and_self, keptOut_next, keptOut_ite, keptOut_fault, keptOut_awake, State.pairSeen_kept, State.setTx_kept, State.mapWords_kept]

theorem State.countRead_kept {b0 : Before} (s : State) (sc : Sched) (seg : Nat) (f : Fld) (hk : Kept b0 s) : Kept b0 (State.countRead s sc seg f) := by
  unfold State.countRead
  simp (maxDischargeDepth := 40) +contextual only [hk, kept_ite, kept_upd, kept_foldl, kept_foldr, implies_true, and_self, keptOut_next, keptOut_ite, keptOut_fault, keptOut_awake, State.incSat_kept]

theorem State.takeCopy_kept {b0 : Before} (s : State) (sc : Sched) (seg owner status : Nat) (data : List Nat) (hk : Kept b0 s) : Kept b0 (State.takeCopy s sc seg owner status data) := by
  unfold State.takeCopy
  simp (maxDischargeDepth := 40) +contextual only [hk, kept_ite, kept_upd, kept_foldl, kept_foldr, implies_true, and_self, keptOut_next, keptOut_ite, keptOut_fault, keptOut_awake, State.nodeSeen_kept, State.trackPair_kept, State.pairSeen_kept, State.setRx_kept, State.countRead_kept, State.tickSegSlots_kept, State.fresh_kept, State.mapWords_kept]

theorem State.readCopy_kept {b0 : Before} (s : State) (sc : Sched) (port seg kind owner : Nat) (ok : Bool) (ws : List Nat) (hk : Kept b0 s) : Kept b0 (State.readCopy s sc port seg kind owner ok ws) := by
  unfold State.readCopy
  simp (maxDischargeDepth := 40) +contextual only [hk, kept_ite, kept_upd, kept_foldl, kept_foldr, implies_true, and_self, keptOut_next, keptOut_ite, keptOut_fault, keptOut_awake, State.safetyRx_kept, State.takeCopy_kept]

theorem execSegmentRx_kept {b0 : Before} (port seg id len : Nat) (ws : List Word) (s : State) (hk : Kept b0 s) : KeptOut b0 (execSegmentRx port seg id len ws s) := by
  unfold execSegmentRx
  dsimp only
  repeat' split
  all_goals simp (maxDischargeDepth := 40) +contextual only [hk, kept_ite, kept_upd, kept_foldl, kept_foldr, implies_true, and_self, keptOut_next, keptOut_ite, keptOut_fault, keptOut_awake, State.incSat_kept, State.raise_kept, State.passOwned_kept, State.readCopy_kept]

theorem State.tickEnd_kept {b0 : Before} (s : State) (n : Nat) (hk : Kept b0 s) : Kept b0 (State.tickEnd s n) := by
  unfold State.tickEnd
  simp (maxDischargeDepth := 40) +contextual only [hk, kept_ite, kept_upd, kept_foldl, kept_foldr, implies_true, and_self, keptOut_next, keptOut_ite, keptOut_fault, keptOut_awake, State.tickRing_kept]

theorem State.extractionEnd_kept {b0 : Before} (s : State) (hk : Kept b0 s) : Kept b0 (State.extractionEnd s) := by
  unfold State.extractionEnd
  simp (maxDischargeDepth := 40) +contextual only [hk, kept_ite, kept_upd, kept_foldl, kept_foldr, implies_true, and_self, keptOut_next, keptOut_ite, keptOut_fault, keptOut_awake, State.tickEnd_kept, State.safetyCycleEnd_kept, State.eventLine_kept, State.pulse_kept]

theorem execExtractionEnd_kept {b0 : Before} (s : State) (hk : Kept b0 s) : KeptOut b0 (execExtractionEnd s) := by
  unfold execExtractionEnd
  simp (maxDischargeDepth := 40) +contextual only [hk, kept_ite, kept_upd, kept_foldl, kept_foldr, implies_true, and_self, keptOut_next, keptOut_ite, keptOut_fault, keptOut_awake, State.extractionEnd_kept]

end Sys2Proof.Machine
end

