-- ==== Sys2Proof/Laws/KeptSec.lean ====
section
/-! SUPPORT. What every operation keeps (`Kept`: the store canonical, the queue, blown fuses): security, the operator inputs, the late effects and register writes. One lemma per operation and
one per command, each citing the lemmas of what it calls. -/

set_option linter.unusedSimpArgs false

namespace Sys2Proof.Machine

theorem State.secI_kept {b0 : Before} (s : State) (f : SecInt → SecInt) (hk : Kept b0 s) : Kept b0 (State.secI s f) := by
  unfold State.secI
  simp (maxDischargeDepth := 40) +contextual only [hk, kept_ite, kept_upd, kept_foldl, kept_foldr, implies_true, and_self, keptOut_next, keptOut_ite, keptOut_fault, keptOut_awake]

theorem State.storeCtr_kept {b0 : Before} (s : State) (p : Pkt) (hk : Kept b0 s) : Kept b0 (State.storeCtr s p) := by
  unfold State.storeCtr
  simp (maxDischargeDepth := 40) +contextual only [hk, kept_ite, kept_upd, kept_foldl, kept_foldr, implies_true, and_self, keptOut_next, keptOut_ite, keptOut_fault, keptOut_awake, State.put_kept]

theorem State.sigVerdict_kept {b0 : Before} (s : State) (p : Pkt) (hk : Kept b0 s) : Kept b0 (State.sigVerdict s p) := by
  unfold State.sigVerdict
  simp (maxDischargeDepth := 40) +contextual only [hk, kept_ite, kept_upd, kept_foldl, kept_foldr, implies_true, and_self, keptOut_next, keptOut_ite, keptOut_fault, keptOut_awake, State.storeCtr_kept, State.raise_kept, State.done_kept]

theorem execSignatureVerifyDone_kept {b0 : Before} (s : State) (hk : Kept b0 s) : KeptOut b0 (execSignatureVerifyDone s) := by
  unfold execSignatureVerifyDone
  split <;> simp (maxDischargeDepth := 40) +contextual only [hk, kept_ite, kept_upd, kept_foldl, kept_foldr, implies_true, and_self, keptOut_next, keptOut_ite, keptOut_fault, keptOut_awake, State.secI_kept, State.secBusy_kept, State.sigVerdict_kept]

theorem State.startReport_kept {b0 : Before} (s : State) (p : Option Pkt) (nonce : List Nat) (hk : Kept b0 s) : Kept b0 (State.startReport s p nonce) := by
  unfold State.startReport
  simp (maxDischargeDepth := 40) +contextual only [hk, kept_ite, kept_upd, kept_foldl, kept_foldr, implies_true, and_self, keptOut_next, keptOut_ite, keptOut_fault, keptOut_awake, State.secI_kept, State.secBusy_kept]

theorem State.endReport_kept {b0 : Before} (s : State) (hk : Kept b0 s) : Kept b0 (State.endReport s) := by
  unfold State.endReport
  simp (maxDischargeDepth := 40) +contextual only [hk, kept_ite, kept_upd, kept_foldl, kept_foldr, implies_true, and_self, keptOut_next, keptOut_ite, keptOut_fault, keptOut_awake, State.secI_kept, State.secBusy_kept]

theorem execAttestReportDone_kept {b0 : Before} (s : State) (hk : Kept b0 s) : KeptOut b0 (execAttestReportDone s) := by
  unfold execAttestReportDone
  split <;> simp (maxDischargeDepth := 40) +contextual only [hk, kept_ite, kept_upd, kept_foldl, kept_foldr, implies_true, and_self, keptOut_next, keptOut_ite, keptOut_fault, keptOut_awake, State.endReport_kept, State.doneRes_kept]

theorem execSecAttest_kept {b0 : Before} (p : Pkt) (s : State) (hk : Kept b0 s) : KeptOut b0 (execSecAttest p s) := by
  unfold execSecAttest
  simp (maxDischargeDepth := 40) +contextual only [hk, kept_ite, kept_upd, kept_foldl, kept_foldr, implies_true, and_self, keptOut_next, keptOut_ite, keptOut_fault, keptOut_awake, State.command_kept, State.doneRes_kept, State.startReport_kept, State.accept_kept]

theorem execSecCertRead_kept {b0 : Before} (p : Pkt) (s : State) (hk : Kept b0 s) : KeptOut b0 (execSecCertRead p s) := by
  unfold execSecCertRead
  simp (maxDischargeDepth := 40) +contextual only [hk, kept_ite, kept_upd, kept_foldl, kept_foldr, implies_true, and_self, keptOut_next, keptOut_ite, keptOut_fault, keptOut_awake, State.command_kept, State.doneRes_kept]

theorem State.secGo_kept {b0 : Before} (s : State) (r : Requester) (op : Nat) (start : State → State)
    (hb : ∀ t, Kept b0 t → Kept b0 (start t)) (h : Kept b0 s) : Kept b0 (s.secGo r op start) := by
  unfold State.secGo
  split
  · exact State.reject_kept _ _ h
  · split
    · exact h
    · exact State.secBusy_kept _ (hb _ (State.secI_kept _ _ (State.put_kept _ _ _ h)))

theorem execHash_kept {b0 : Before} (r : Requester) (s : State) (hk : Kept b0 s) : KeptOut b0 (execHash r s) := by
  unfold execHash
  simp (maxDischargeDepth := 40) +contextual only [hk, kept_ite, kept_upd, kept_foldl, kept_foldr, implies_true, and_self, keptOut_next, keptOut_ite, keptOut_fault, keptOut_awake, State.secGo_kept]

theorem execVerify_kept {b0 : Before} (r : Requester) (s : State) (hk : Kept b0 s) : KeptOut b0 (execVerify r s) := by
  unfold execVerify
  simp (maxDischargeDepth := 40) +contextual only [hk, kept_ite, kept_upd, kept_foldl, kept_foldr, implies_true, and_self, keptOut_next, keptOut_ite, keptOut_fault, keptOut_awake, State.secGo_kept]

theorem State.startAttest_kept {b0 : Before} (s : State) (hk : Kept b0 s) : Kept b0 (State.startAttest s) := by
  unfold State.startAttest
  simp (maxDischargeDepth := 40) +contextual only [hk, kept_ite, kept_upd, kept_foldl, kept_foldr, implies_true, and_self, keptOut_next, keptOut_ite, keptOut_fault, keptOut_awake, State.secI_kept, State.startReport_kept]

theorem execAttest_kept {b0 : Before} (r : Requester) (s : State) (hk : Kept b0 s) : KeptOut b0 (execAttest r s) := by
  unfold execAttest
  simp (maxDischargeDepth := 40) +contextual only [hk, kept_ite, kept_upd, kept_foldl, kept_foldr, implies_true, and_self, keptOut_next, keptOut_ite, keptOut_fault, keptOut_awake, State.secGo_kept, State.startAttest_kept]

theorem State.opResult_kept {b0 : Before} (s : State) (res : Nat) (digest : List Nat) (hk : Kept b0 s) : Kept b0 (State.opResult s res digest) := by
  unfold State.opResult
  simp (maxDischargeDepth := 40) +contextual only [hk, kept_ite, kept_upd, kept_foldl, kept_foldr, implies_true, and_self, keptOut_next, keptOut_ite, keptOut_fault, keptOut_awake, State.secI_kept, State.put_kept, State.setWords_kept, State.secBusy_kept]

theorem State.opResultFree_kept {b0 : Before} (s : State) (res : Nat) (hk : Kept b0 s) : Kept b0 (State.opResultFree s res) := by
  unfold State.opResultFree
  simp (maxDischargeDepth := 40) +contextual only [hk, kept_ite, kept_upd, kept_foldl, kept_foldr, implies_true, and_self, keptOut_next, keptOut_ite, keptOut_fault, keptOut_awake, State.fresh_kept, State.opResult_kept]

theorem execSecOpDone_kept {b0 : Before} (s : State) (hk : Kept b0 s) : KeptOut b0 (execSecOpDone s) := by
  unfold execSecOpDone
  split <;> simp (maxDischargeDepth := 40) +contextual only [hk, kept_ite, kept_upd, kept_foldl, kept_foldr, implies_true, and_self, keptOut_next, keptOut_ite, keptOut_fault, keptOut_awake, State.fresh_kept, State.opResultFree_kept, State.opResult_kept, State.endReport_kept]

theorem execSecImageWrite_kept {b0 : Before} (p : Pkt) (s : State) (hk : Kept b0 s) : KeptOut b0 (execSecImageWrite p s) := by
  unfold execSecImageWrite
  simp (maxDischargeDepth := 40) +contextual only [hk, kept_ite, kept_upd, kept_foldl, kept_foldr, implies_true, and_self, keptOut_next, keptOut_ite, keptOut_fault, keptOut_awake, State.command_kept, State.secI_kept, State.secBusy_kept, State.accept_kept, State.done_kept]

theorem State.writeBank_kept {b0 : Before} (s : State) (ws : List Nat) (ty : Nat) (hk : Kept b0 s) : Kept b0 (State.writeBank s ws ty) := by
  unfold State.writeBank
  simp (maxDischargeDepth := 40) +contextual only [hk, kept_ite, kept_upd, kept_foldl, kept_foldr, implies_true, and_self, keptOut_next, keptOut_ite, keptOut_fault, keptOut_awake, State.secI_kept]

theorem State.imageWritten_kept {b0 : Before} (s : State) (p : Pkt) (ws : List Nat) (ty : Nat) (hk : Kept b0 s) : Kept b0 (State.imageWritten s p ws ty) := by
  unfold State.imageWritten
  simp (maxDischargeDepth := 40) +contextual only [hk, kept_ite, kept_upd, kept_foldl, kept_foldr, implies_true, and_self, keptOut_next, keptOut_ite, keptOut_fault, keptOut_awake, State.secI_kept, State.secBusy_kept, State.noteFail_kept, State.writeBank_kept, State.done_kept]

theorem execImageWriteDone_kept {b0 : Before} (s : State) (hk : Kept b0 s) : KeptOut b0 (execImageWriteDone s) := by
  unfold execImageWriteDone
  split <;> simp (maxDischargeDepth := 40) +contextual only [hk, kept_ite, kept_upd, kept_foldl, kept_foldr, implies_true, and_self, keptOut_next, keptOut_ite, keptOut_fault, keptOut_awake, State.imageWritten_kept]

theorem State.logCommand_kept {b0 : Before} (s : State) (p : Pkt) (kind ty x : Nat) (hk : Kept b0 s) : Kept b0 (State.logCommand s p kind ty x) := by
  unfold State.logCommand
  simp (maxDischargeDepth := 40) +contextual only [hk, kept_ite, kept_upd, kept_foldl, kept_foldr, implies_true, and_self, keptOut_next, keptOut_ite, keptOut_fault, keptOut_awake, State.fresh_kept, State.logEntry_kept]

theorem State.otpWritten_kept {b0 : Before} (s : State) (kind data : Nat) (hk : Kept b0 s) : Kept b0 (State.otpWritten s kind data) := by
  unfold State.otpWritten
  simp (maxDischargeDepth := 40) +contextual only [hk, kept_ite, kept_upd, kept_foldl, kept_foldr, implies_true, and_self, keptOut_next, keptOut_ite, keptOut_fault, keptOut_awake, State.otpMirror_kept, State.raise_kept, State.post_kept]

theorem State.command_here {b0 : Before} (s : State) (p : Pkt) (opcode : Nat) (checks : List (Bool × Nat))
    (effect : State → State) (he : firstFail checks = none → Kept b0 (effect (s.noteStart p))) (h : Kept b0 s) :
    Kept b0 (s.command p opcode checks effect) := by
  unfold State.command
  split
  · exact h
  · split
    · exact State.done_kept s p _ h
    · split
      · exact State.done_kept s p _ h
      · rename_i hf
        split
        · exact State.mirrorCmd_kept _ p _ (State.noteStart_kept s p h)
        · exact he hf

theorem bitOf_putBit_true (v n k : Nat) (h : bitOf v k = true) : bitOf (putBit v n true) k = true := by
  unfold putBit
  split
  · exact h
  · rename_i hn
    simp only [bitOf, decide_eq_true_eq, if_true] at h hn ⊢
    rcases Nat.lt_trichotomy k n with hk | hk | hk
    · obtain ⟨d, rfl⟩ : ∃ d, n = k + (d + 1) := ⟨n - k - 1, by omega⟩
      rw [Nat.pow_add, Nat.add_mul_div_left _ _ (Nat.two_pow_pos k), Nat.pow_succ]
      omega
    · exact absurd (hk ▸ h) hn
    · obtain ⟨d, rfl⟩ : ∃ d, k = n + (d + 1) := ⟨k - n - 1, by omega⟩
      rw [Nat.pow_add, ← Nat.div_div_eq_div_mul, Nat.pow_succ', ← Nat.div_div_eq_div_mul] at h ⊢
      have : (v + 2 ^ n) / 2 ^ n = v / 2 ^ n + 1 := Nat.add_div_right v (Nat.two_pow_pos n)
      rw [this]
      have e : (v / 2 ^ n + 1) / 2 = v / 2 ^ n / 2 := by omega
      rw [e]; exact h

theorem kept_revoke {b0 : Before} (s : State) (k : Nat) (h : Kept b0 s) :
    Kept b0 { s with otp := { s.otp with revoked := putBit s.otp.revoked k true } } :=
  ⟨h.1, h.2.1, { h.2.2 with revoked := fun j hj => bitOf_putBit_true _ _ _ (h.2.2.revoked j hj) }⟩

theorem kept_rollback {b0 : Before} (s : State) (v : Nat) (hv : s.otp.rbCtr ≤ v) (h : Kept b0 s) :
    Kept b0 { s with otp := { s.otp with rbCtr := v } } :=
  ⟨h.1, h.2.1, { h.2.2 with rbCtr := Nat.le_trans h.2.2.rbCtr hv }⟩

theorem State.fillSlot_kept {b0 : Before} (s : State) (e : Nat × List Nat) (h : Kept b0 s) : Kept b0 (s.fillSlot e) := by
  unfold State.fillSlot
  split
  · exact h
  · rename_i hz
    have hb : tabGet 0 b0.otp.hashes (4 + e.1) = 0 := by
      by_contra hc
      exact hz (fun h0 => hc ((h.2.2.hashes _ hc) ▸ h0))
    exact ⟨h.1, h.2.1, { h.2.2 with
      cfg := fun j hj => bitOf_putBit_true _ _ _ (h.2.2.cfg j hj)
      hashes := fun j hj => by
        have hne : j ≠ 4 + e.1 := fun he => hj (he ▸ hb)
        show tabGet 0 (tabSet 0 s.otp.hashes (4 + e.1) _) j = _
        rw [tabGet_tabSet_other _ _ _ _ _ hne]
        exact h.2.2.hashes j hj }⟩

theorem execSecKeyRevoke_kept {b0 : Before} (p : Pkt) (s : State) (hk : Kept b0 s) : KeptOut b0 (execSecKeyRevoke p s) := by
  unfold execSecKeyRevoke
  dsimp only
  rw [keptOut_next]
  refine State.command_kept s p _ _ _ (fun t ht => ?_) hk
  simp (maxDischargeDepth := 40) +contextual only [ht, kept_ite, kept_revoke, State.done_kept, State.otpWritten_kept, State.logCommand_kept, implies_true, and_self]

theorem rollback_up {s : State} {p : Pkt} {v : Nat}
    (h : firstFail [(outside (p.w 0) 0xFF || s.rollbackBad v, stBAD_PARAM)] = none) : (s.noteStart p).otp.rbCtr ≤ v := by
  have ho : (s.noteStart p).otp = s.otp := by
    unfold State.noteStart
    dsimp only
    split <;> rfl
  rw [ho]
  by_contra hc
  simp [firstFail, State.rollbackBad, Nat.lt_of_not_le hc] at h

theorem execSecRollback_kept {b0 : Before} (p : Pkt) (s : State) (hk : Kept b0 s) : KeptOut b0 (execSecRollback p s) := by
  unfold execSecRollback
  dsimp only
  rw [keptOut_next]
  refine State.command_here s p _ _ _ (fun hf => ?_) hk
  have ht := State.noteStart_kept s p hk
  simp (maxDischargeDepth := 40) +contextual only [ht, kept_ite, kept_rollback _ _ (rollback_up hf), State.done_kept, State.otpWritten_kept, State.logCommand_kept, implies_true, and_self]

theorem State.drawWords_kept {b0 : Before} (n : Nat) (s : State) (h : Kept b0 s) : Kept b0 (State.drawWords n s).2 := by
  induction n generalizing s with
  | zero => exact h
  | succ n ih => exact ih _ (State.fresh_kept s h)

theorem execSecDebugChallenge_kept {b0 : Before} (p : Pkt) (s : State) (hk : Kept b0 s) : KeptOut b0 (execSecDebugChallenge p s) := by
  unfold execSecDebugChallenge
  simp (maxDischargeDepth := 40) +contextual only [hk, kept_ite, kept_upd, kept_foldl, kept_foldr, implies_true, and_self, keptOut_next, keptOut_ite, keptOut_fault, keptOut_awake, State.command_kept, State.drawWords_kept, State.secI_kept, State.doneRes_kept]

theorem State.openDebug_kept {b0 : Before} (s : State) (level : Nat) (hk : Kept b0 s) : Kept b0 (State.openDebug s level) := by
  unfold State.openDebug
  simp (maxDischargeDepth := 40) +contextual only [hk, kept_ite, kept_upd, kept_foldl, kept_foldr, implies_true, and_self, keptOut_next, keptOut_ite, keptOut_fault, keptOut_awake, State.put_kept, State.secI_kept, State.raise_kept]

theorem execSecDebugUnlock_kept {b0 : Before} (p : Pkt) (s : State) (hk : Kept b0 s) : KeptOut b0 (execSecDebugUnlock p s) := by
  unfold execSecDebugUnlock
  simp (maxDischargeDepth := 40) +contextual only [hk, kept_ite, kept_upd, kept_foldl, kept_foldr, implies_true, and_self, keptOut_next, keptOut_ite, keptOut_fault, keptOut_awake, State.command_kept, State.openDebug_kept, State.logCommand_kept, State.done_kept]

theorem execDebugChallengeExpiry_kept {b0 : Before} (s : State) (hk : Kept b0 s) : KeptOut b0 (execDebugChallengeExpiry s) := by
  unfold execDebugChallengeExpiry
  simp (maxDischargeDepth := 40) +contextual only [hk, kept_ite, kept_upd, kept_foldl, kept_foldr, implies_true, and_self, keptOut_next, keptOut_ite, keptOut_fault, keptOut_awake, State.advanceTo_kept, State.secI_kept]

theorem State.applyKeys_kept {b0 : Before} (s : State) (hk : Kept b0 s) : Kept b0 (State.applyKeys s) := by
  unfold State.applyKeys
  simp (maxDischargeDepth := 40) +contextual only [hk, kept_ite, kept_upd, kept_foldl, kept_foldr, implies_true, and_self, keptOut_next, keptOut_ite, keptOut_fault, keptOut_awake, State.fillSlot_kept, State.otpWritten_kept, State.logEntry_kept]

theorem State.setPressed_kept {b0 : Before} (s : State) (n : Nat) (b : Bool) (hk : Kept b0 s) : Kept b0 (State.setPressed s n b) := by
  unfold State.setPressed
  simp (maxDischargeDepth := 40) +contextual only [hk, kept_ite, kept_upd, kept_foldl, kept_foldr, implies_true, and_self, keptOut_next, keptOut_ite, keptOut_fault, keptOut_awake, State.put_kept]

theorem State.touchMeasure_kept {b0 : Before} (s : State) (n c : Nat) (hk : Kept b0 s) : Kept b0 (State.touchMeasure s n c) := by
  unfold State.touchMeasure
  simp (maxDischargeDepth := 40) +contextual only [hk, kept_ite, kept_upd, kept_foldl, kept_foldr, implies_true, and_self, keptOut_next, keptOut_ite, keptOut_fault, keptOut_awake, State.put_kept, State.setPressed_kept, State.pulse_kept, State.progTrg_kept]

theorem execTouchScan_kept {b0 : Before} (counts : List Nat) (s : State) (hk : Kept b0 s) : KeptOut b0 (execTouchScan counts s) := by
  unfold execTouchScan
  simp (maxDischargeDepth := 40) +contextual only [hk, kept_ite, kept_upd, kept_foldl, kept_foldr, implies_true, and_self, keptOut_next, keptOut_ite, keptOut_fault, keptOut_awake, State.touchMeasure_kept]

theorem execTkStuck_kept {b0 : Before} (n : Nat) (s : State) (hk : Kept b0 s) : KeptOut b0 (execTkStuck n s) := by
  unfold execTkStuck
  simp (maxDischargeDepth := 40) +contextual only [hk, kept_ite, kept_upd, kept_foldl, kept_foldr, implies_true, and_self, keptOut_next, keptOut_ite, keptOut_fault, keptOut_awake, State.setPressed_kept, State.put_kept, State.raise_kept]

theorem State.hpDrop_kept {b0 : Before} (s : State) (n : Nat) (hk : Kept b0 s) : Kept b0 (State.hpDrop s n) := by
  unfold State.hpDrop
  simp (maxDischargeDepth := 40) +contextual only [hk, kept_ite, kept_upd, kept_foldl, kept_foldr, implies_true, and_self, keptOut_next, keptOut_ite, keptOut_fault, keptOut_awake, State.put_kept, State.setSlot_kept]

theorem State.hpOn_kept {b0 : Before} (s : State) (n : Nat) (hk : Kept b0 s) : Kept b0 (State.hpOn s n) := by
  unfold State.hpOn
  simp (maxDischargeDepth := 40) +contextual only [hk, kept_ite, kept_upd, kept_foldl, kept_foldr, implies_true, and_self, keptOut_next, keptOut_ite, keptOut_fault, keptOut_awake, State.put_kept]

theorem State.hpPin_kept {b0 : Before} (s : State) (n : Nat) (hk : Kept b0 s) : Kept b0 (State.hpPin s n) := by
  unfold State.hpPin
  simp (maxDischargeDepth := 40) +contextual only [hk, kept_ite, kept_upd, kept_foldl, kept_foldr, implies_true, and_self, keptOut_next, keptOut_ite, keptOut_fault, keptOut_awake, State.put_kept]

theorem State.hpMove_kept {b0 : Before} (s : State) (n : Nat) (hk : Kept b0 s) : Kept b0 (State.hpMove s n) := by
  unfold State.hpMove
  simp (maxDischargeDepth := 40) +contextual only [hk, kept_ite, kept_upd, kept_foldl, kept_foldr, implies_true, and_self, keptOut_next, keptOut_ite, keptOut_fault, keptOut_awake, State.put_kept, State.incSat_kept, State.raise_kept, State.hpDrop_kept]

theorem State.hpSee_kept {b0 : Before} (s : State) (n : Nat) (hk : Kept b0 s) : Kept b0 (State.hpSee s n) := by
  unfold State.hpSee
  simp (maxDischargeDepth := 40) +contextual only [hk, kept_ite, kept_upd, kept_foldl, kept_foldr, implies_true, and_self, keptOut_next, keptOut_ite, keptOut_fault, keptOut_awake, State.hpPin_kept, State.hpMove_kept]

theorem execHpPinChange_kept {b0 : Before} (n : Nat) (level : Bool) (s : State) (hk : Kept b0 s) : KeptOut b0 (execHpPinChange n level s) := by
  unfold execHpPinChange
  simp (maxDischargeDepth := 40) +contextual only [hk, kept_ite, kept_upd, kept_foldl, kept_foldr, implies_true, and_self, keptOut_next, keptOut_ite, keptOut_fault, keptOut_awake, State.wakeSense_kept, State.wakeCheck_kept, State.hpSee_kept]

theorem execHpDebounceExpiry_kept {b0 : Before} (n : Nat) (s0 : State) (hk : Kept b0 s0) : KeptOut b0 (execHpDebounceExpiry n s0) := by
  unfold execHpDebounceExpiry
  simp (maxDischargeDepth := 40) +contextual only [hk, kept_ite, kept_upd, kept_foldl, kept_foldr, implies_true, and_self, keptOut_next, keptOut_ite, keptOut_fault, keptOut_awake, State.hpSee_kept, State.put_kept, State.line_kept, State.lifeInc_kept, State.progTrg_kept]

theorem execHpPowerDelayExpiry_kept {b0 : Before} (n : Nat) (s0 : State) (hk : Kept b0 s0) : KeptOut b0 (execHpPowerDelayExpiry n s0) := by
  unfold execHpPowerDelayExpiry
  simp (maxDischargeDepth := 40) +contextual only [hk, kept_ite, kept_upd, kept_foldl, kept_foldr, implies_true, and_self, keptOut_next, keptOut_ite, keptOut_fault, keptOut_awake, State.hpSee_kept, State.hpOn_kept]

theorem execJoinFail_kept {b0 : Before} (n : Nat) (s : State) (hk : Kept b0 s) : KeptOut b0 (execJoinFail n s) := by
  unfold execJoinFail
  simp (maxDischargeDepth := 40) +contextual only [hk, kept_ite, kept_upd, kept_foldl, kept_foldr, implies_true, and_self, keptOut_next, keptOut_ite, keptOut_fault, keptOut_awake, State.raise_kept]

theorem execTouchConfig_kept {b0 : Before} (p : Pkt) (s : State) (hk : Kept b0 s) : KeptOut b0 (execTouchConfig p s) := by
  unfold execTouchConfig
  simp (maxDischargeDepth := 40) +contextual only [hk, kept_ite, kept_upd, kept_foldl, kept_foldr, implies_true, and_self, keptOut_next, keptOut_ite, keptOut_fault, keptOut_awake, State.command_kept, State.setWords_kept, State.done_kept]

theorem execTouchStatus_kept {b0 : Before} (p : Pkt) (s : State) (hk : Kept b0 s) : KeptOut b0 (execTouchStatus p s) := by
  unfold execTouchStatus
  simp (maxDischargeDepth := 40) +contextual only [hk, kept_ite, kept_upd, kept_foldl, kept_foldr, implies_true, and_self, keptOut_next, keptOut_ite, keptOut_fault, keptOut_awake, State.command_kept, State.doneRes_kept]

theorem execHotplugConfig_kept {b0 : Before} (p : Pkt) (s : State) (hk : Kept b0 s) : KeptOut b0 (execHotplugConfig p s) := by
  unfold execHotplugConfig
  simp (maxDischargeDepth := 40) +contextual only [hk, kept_ite, kept_upd, kept_foldl, kept_foldr, implies_true, and_self, keptOut_next, keptOut_ite, keptOut_fault, keptOut_awake, State.command_kept, State.setWords_kept, State.hpSee_kept, State.done_kept]

theorem execHotplugStatus_kept {b0 : Before} (p : Pkt) (s : State) (hk : Kept b0 s) : KeptOut b0 (execHotplugStatus p s) := by
  unfold execHotplugStatus
  simp (maxDischargeDepth := 40) +contextual only [hk, kept_ite, kept_upd, kept_foldl, kept_foldr, implies_true, and_self, keptOut_next, keptOut_ite, keptOut_fault, keptOut_awake, State.command_kept, State.doneRes_kept]

theorem execHotplugPower_kept {b0 : Before} (p : Pkt) (s : State) (hk : Kept b0 s) : KeptOut b0 (execHotplugPower p s) := by
  unfold execHotplugPower
  simp (maxDischargeDepth := 40) +contextual only [hk, kept_ite, kept_upd, kept_foldl, kept_foldr, implies_true, and_self, keptOut_next, keptOut_ite, keptOut_fault, keptOut_awake, State.command_kept, State.hpOn_kept, State.put_kept, State.hpDrop_kept, State.done_kept]

theorem State.hostLost_kept {b0 : Before} (s : State) (hk : Kept b0 s) : Kept b0 (State.hostLost s) := by
  unfold State.hostLost
  simp (maxDischargeDepth := 40) +contextual only [hk, kept_ite, kept_upd, kept_foldl, kept_foldr, implies_true, and_self, keptOut_next, keptOut_ite, keptOut_fault, keptOut_awake, State.killQueues_kept, State.acqHalt_kept]

theorem State.pcieDown_kept {b0 : Before} (s : State) (hk : Kept b0 s) : Kept b0 (State.pcieDown s) := by
  unfold State.pcieDown
  simp (maxDischargeDepth := 40) +contextual only [hk, kept_ite, kept_upd, kept_foldl, kept_foldr, implies_true, and_self, keptOut_next, keptOut_ite, keptOut_fault, keptOut_awake, State.linkUp_kept, State.pciReset_kept, State.hostLost_kept]

theorem State.pllLinksDown_kept {b0 : Before} (s : State) (pll : Nat) (hk : Kept b0 s) : Kept b0 (State.pllLinksDown s pll) := by
  unfold State.pllLinksDown
  simp (maxDischargeDepth := 40) +contextual only [hk, kept_ite, kept_upd, kept_foldl, kept_foldr, implies_true, and_self, keptOut_next, keptOut_ite, keptOut_fault, keptOut_awake, State.linkDown_kept, State.handBack_kept, State.splDown_kept, State.pcieDown_kept]

theorem execSerdesPllLock_kept {b0 : Before} (pll : Nat) (s : State) (hk : Kept b0 s) : KeptOut b0 (execSerdesPllLock pll s) := by
  unfold execSerdesPllLock
  simp (maxDischargeDepth := 40) +contextual only [hk, kept_ite, kept_upd, kept_foldl, kept_foldr, implies_true, and_self, keptOut_next, keptOut_ite, keptOut_fault, keptOut_awake, State.put_kept]

theorem execSerdesPllUnlock_kept {b0 : Before} (pll : Nat) (s : State) (hk : Kept b0 s) : KeptOut b0 (execSerdesPllUnlock pll s) := by
  unfold execSerdesPllUnlock
  simp (maxDischargeDepth := 40) +contextual only [hk, kept_ite, kept_upd, kept_foldl, kept_foldr, implies_true, and_self, keptOut_next, keptOut_ite, keptOut_fault, keptOut_awake, State.put_kept, State.raise_kept, State.pllLinksDown_kept]

theorem State.clockLoss_kept {b0 : Before} (s : State) (hk : Kept b0 s) : Kept b0 (State.clockLoss s) := by
  unfold State.clockLoss
  simp (maxDischargeDepth := 40) +contextual only [hk, kept_ite, kept_upd, kept_foldl, kept_foldr, implies_true, and_self, keptOut_next, keptOut_ite, keptOut_fault, keptOut_awake, State.put_kept, State.applyAllTrips_kept]

theorem execCrystalLoss_kept {b0 : Before} (s : State) (hk : Kept b0 s) : KeptOut b0 (execCrystalLoss s) := by
  unfold execCrystalLoss
  simp (maxDischargeDepth := 40) +contextual only [hk, kept_ite, kept_upd, kept_foldl, kept_foldr, implies_true, and_self, keptOut_next, keptOut_ite, keptOut_fault, keptOut_awake, State.put_kept, State.clockLoss_kept]

theorem execPllLossOfLock_kept {b0 : Before} (s : State) (hk : Kept b0 s) : KeptOut b0 (execPllLossOfLock s) := by
  unfold execPllLossOfLock
  simp (maxDischargeDepth := 40) +contextual only [hk, kept_ite, kept_upd, kept_foldl, kept_foldr, implies_true, and_self, keptOut_next, keptOut_ite, keptOut_fault, keptOut_awake, State.clockLoss_kept]

theorem State.romStart_kept {b0 : Before} (s : State) (hk : Kept b0 s) : Kept b0 (State.romStart s) := by
  unfold State.romStart
  simp (maxDischargeDepth := 40) +contextual only [hk, kept_ite, kept_upd, kept_foldl, kept_foldr, implies_true, and_self, keptOut_next, keptOut_ite, keptOut_fault, keptOut_awake, State.put_kept]

theorem State.enterRecovery_kept {b0 : Before} (s : State) (hk : Kept b0 s) : Kept b0 (State.enterRecovery s) := by
  unfold State.enterRecovery
  simp (maxDischargeDepth := 40) +contextual only [hk, kept_ite, kept_upd, kept_foldl, kept_foldr, implies_true, and_self, keptOut_next, keptOut_ite, keptOut_fault, keptOut_awake, State.put_kept, State.setStage_kept]

theorem State.haltBoot_kept {b0 : Before} (s : State) (hk : Kept b0 s) : Kept b0 (State.haltBoot s) := by
  unfold State.haltBoot
  simp (maxDischargeDepth := 40) +contextual only [hk, kept_ite, kept_upd, kept_foldl, kept_foldr, implies_true, and_self, keptOut_next, keptOut_ite, keptOut_fault, keptOut_awake]

theorem State.bootEnd_kept {b0 : Before} (s : State) (r : BootChain) (hk : Kept b0 s) : Kept b0 (State.bootEnd s r) := by
  unfold State.bootEnd
  split <;> simp (maxDischargeDepth := 40) +contextual only [hk, kept_ite, kept_upd, kept_foldl, kept_foldr, implies_true, and_self, keptOut_next, keptOut_ite, keptOut_fault, keptOut_awake, State.haltBoot_kept, State.stageFail_kept, State.noteFail_kept, State.setStage_kept, State.enterRecovery_kept, State.put_kept, State.raise_kept, State.logEntry_kept, State.applyKeys_kept, State.setWord_kept]

theorem execBootChainDone_kept {b0 : Before} (r : BootChain) (s : State) (hk : Kept b0 s) : KeptOut b0 (execBootChainDone r s) := by
  unfold execBootChainDone
  simp (maxDischargeDepth := 40) +contextual only [hk, kept_ite, kept_upd, kept_foldl, kept_foldr, implies_true, and_self, keptOut_next, keptOut_ite, keptOut_fault, keptOut_awake, State.romStart_kept, State.enterRecovery_kept, State.bootEnd_kept]

theorem State.setReady_kept {b0 : Before} (s : State) (hk : Kept b0 s) : Kept b0 (State.setReady s) := by
  unfold State.setReady
  simp (maxDischargeDepth := 40) +contextual only [hk, kept_ite, kept_upd, kept_foldl, kept_foldr, implies_true, and_self, keptOut_next, keptOut_ite, keptOut_fault, keptOut_awake, State.put_kept, State.msix_kept]

theorem State.noteForces_kept {b0 : Before} (s : State) (hk : Kept b0 s) : Kept b0 (State.noteForces s) := by
  unfold State.noteForces
  simp (maxDischargeDepth := 40) +contextual only [hk, kept_ite, kept_upd, kept_foldl, kept_foldr, implies_true, and_self, keptOut_next, keptOut_ite, keptOut_fault, keptOut_awake, State.post_kept]

theorem State.restorePair_kept {b0 : Before} (s : State) (hk : Kept b0 s) : Kept b0 (State.restorePair s) := by
  unfold State.restorePair
  dsimp only
  repeat' split
  all_goals simp (maxDischargeDepth := 40) +contextual only [hk, kept_ite, kept_upd, kept_foldl, kept_foldr, implies_true, and_self, keptOut_next, keptOut_ite, keptOut_fault, keptOut_awake, State.spliceCfg_kept, State.lashCfg_kept]

theorem State.fwWrites_kept {b0 : Before} (s : State) (hk : Kept b0 s) : Kept b0 (State.fwWrites s) := by
  unfold State.fwWrites
  split <;> simp (maxDischargeDepth := 40) +contextual only [hk, kept_ite, kept_upd, kept_foldl, kept_foldr, implies_true, and_self, keptOut_next, keptOut_ite, keptOut_fault, keptOut_awake, State.put64_kept, State.put_kept, State.setWords_kept]

theorem execFwInitDone_kept {b0 : Before} (s : State) (hk : Kept b0 s) : KeptOut b0 (execFwInitDone s) := by
  unfold execFwInitDone
  simp (maxDischargeDepth := 40) +contextual only [hk, kept_ite, kept_upd, kept_foldl, kept_foldr, implies_true, and_self, keptOut_next, keptOut_ite, keptOut_fault, keptOut_awake, State.fwWrites_kept, State.post_kept, State.noteForces_kept, State.timeSync_kept, State.setReady_kept, State.restorePair_kept, State.calGo_kept, State.setStage_kept]

theorem execD3hotEntry_kept {b0 : Before} (s : State) (hk : Kept b0 s) : KeptOut b0 (execD3hotEntry s) := by
  unfold execD3hotEntry
  simp (maxDischargeDepth := 40) +contextual only [hk, kept_ite, kept_upd, kept_foldl, kept_foldr, implies_true, and_self, keptOut_next, keptOut_ite, keptOut_fault, keptOut_awake, State.hostLost_kept]

theorem State.functionReset_kept {b0 : Before} (s : State) (hk : Kept b0 s) : Kept b0 (State.functionReset s) := by
  unfold State.functionReset
  simp (maxDischargeDepth := 40) +contextual only [hk, kept_ite, kept_upd, kept_foldl, kept_foldr, implies_true, and_self, keptOut_next, keptOut_ite, keptOut_fault, keptOut_awake, State.pciReset_kept, State.hostLost_kept]

theorem execFunctionLevelReset_kept {b0 : Before} (s : State) (hk : Kept b0 s) : KeptOut b0 (execFunctionLevelReset s) := by
  unfold execFunctionLevelReset
  simp (maxDischargeDepth := 40) +contextual only [hk, kept_ite, kept_upd, kept_foldl, kept_foldr, implies_true, and_self, keptOut_next, keptOut_ite, keptOut_fault, keptOut_awake, State.functionReset_kept]

theorem execPcieLinkDown_kept {b0 : Before} (s : State) (hk : Kept b0 s) : KeptOut b0 (execPcieLinkDown s) := by
  unfold execPcieLinkDown
  simp (maxDischargeDepth := 40) +contextual only [hk, kept_ite, kept_upd, kept_foldl, kept_foldr, implies_true, and_self, keptOut_next, keptOut_ite, keptOut_fault, keptOut_awake, State.pcieDown_kept]

theorem execFirmwareFatal_kept {b0 : Before} (code : Nat) (s : State) (hk : Kept b0 s) : KeptOut b0 (execFirmwareFatal code s) := by
  unfold execFirmwareFatal
  simp (maxDischargeDepth := 40) +contextual only [hk, kept_ite, kept_upd, kept_foldl, kept_foldr, implies_true, and_self, keptOut_next, keptOut_ite, keptOut_fault, keptOut_awake, State.put_kept, State.msix_kept, State.post_kept, State.noteResign_kept]

theorem execUncorrectableEccError_kept {b0 : Before} (mem : Nat) (s : State) (hk : Kept b0 s) : KeptOut b0 (execUncorrectableEccError mem s) := by
  unfold execUncorrectableEccError
  simp (maxDischargeDepth := 40) +contextual only [hk, kept_ite, kept_upd, kept_foldl, kept_foldr, implies_true, and_self, keptOut_next, keptOut_ite, keptOut_fault, keptOut_awake, State.assertReset_kept, State.noteResign_kept]

theorem State.reqStandby_kept {b0 : Before} (s : State) (hk : Kept b0 s) : Kept b0 (State.reqStandby s) := by
  unfold State.reqStandby
  simp (maxDischargeDepth := 40) +contextual only [hk, kept_ite, kept_upd, kept_foldl, kept_foldr, implies_true, and_self, keptOut_next, keptOut_ite, keptOut_fault, keptOut_awake, State.put_kept, State.raise_kept, State.wakeCheck_kept]

theorem execPwrReqStandby_kept {b0 : Before} (s : State) (hk : Kept b0 s) : KeptOut b0 (execPwrReqStandby s) := by
  unfold execPwrReqStandby
  simp (maxDischargeDepth := 40) +contextual only [hk, kept_ite, kept_upd, kept_foldl, kept_foldr, implies_true, and_self, keptOut_next, keptOut_ite, keptOut_fault, keptOut_awake, State.reqStandby_kept]

theorem State.gateAdc_kept {b0 : Before} (s : State) (c : Nat) (hk : Kept b0 s) : Kept b0 (State.gateAdc s c) := by
  unfold State.gateAdc
  simp (maxDischargeDepth := 40) +contextual only [hk, kept_ite, kept_upd, kept_foldl, kept_foldr, implies_true, and_self, keptOut_next, keptOut_ite, keptOut_fault, keptOut_awake, State.put_kept, State.setCore_kept]

theorem execStandbyGate_kept {b0 : Before} (s : State) (hk : Kept b0 s) : KeptOut b0 (execStandbyGate s) := by
  unfold execStandbyGate
  simp (maxDischargeDepth := 40) +contextual only [hk, kept_ite, kept_upd, kept_foldl, kept_foldr, implies_true, and_self, keptOut_next, keptOut_ite, keptOut_fault, keptOut_awake, State.wakeCheck_kept, State.gateAdc_kept, State.holdGpio_kept, State.lifetimeFlush_kept, State.put_kept]

theorem State.powerStandby_kept {b0 : Before} (s : State) (p : Pkt) (hk : Kept b0 s) : Kept b0 (State.powerStandby s p) := by
  unfold State.powerStandby
  simp (maxDischargeDepth := 40) +contextual only [hk, kept_ite, kept_upd, kept_foldl, kept_foldr, implies_true, and_self, keptOut_next, keptOut_ite, keptOut_fault, keptOut_awake, State.reply_kept, State.reqStandby_kept]

theorem State.powerAwake_kept {b0 : Before} (s : State) (p : Pkt) (st : Nat) (hk : Kept b0 s) : Kept b0 (State.powerAwake s p st) := by
  unfold State.powerAwake
  simp (maxDischargeDepth := 40) +contextual only [hk, kept_ite, kept_upd, kept_foldl, kept_foldr, implies_true, and_self, keptOut_next, keptOut_ite, keptOut_fault, keptOut_awake, State.put_kept, State.done_kept]

theorem execSysPowerState_kept {b0 : Before} (p : Pkt) (s : State) (hk : Kept b0 s) : KeptOut b0 (execSysPowerState p s) := by
  unfold execSysPowerState
  simp (maxDischargeDepth := 40) +contextual only [hk, kept_ite, kept_upd, kept_foldl, kept_foldr, implies_true, and_self, keptOut_next, keptOut_ite, keptOut_fault, keptOut_awake, State.command_kept, State.powerStandby_kept, State.powerAwake_kept]

theorem State.via_kept {b0 : Before} (s : State) (f : State → Out) (hf : ∀ t, Kept b0 t → KeptOut b0 (f t)) (h : Kept b0 s) :
    Kept b0 (s.via f) := by
  unfold State.via
  have := hf s h
  split
  · rename_i t ht; rw [ht] at this; exact this
  · exact h

theorem State.unitWord_kept {b0 : Before} (s : State) (b u off : Nat) (region lock : Bool) (a v : Nat) (hk : Kept b0 s) : Kept b0 (State.unitWord s b u off region lock a v) := by
  unfold State.unitWord
  split <;> simp (maxDischargeDepth := 40) +contextual only [hk, kept_ite, kept_upd, kept_foldl, kept_foldr, implies_true, and_self, keptOut_next, keptOut_ite, keptOut_fault, keptOut_awake, State.lockReject_kept, State.setWord_kept, State.reject_kept]

theorem State.stageWord_kept {b0 : Before} (s : State) (b u a v : Nat) (hk : Kept b0 s) : Kept b0 (State.stageWord s b u a v) := by
  unfold State.stageWord
  split <;> simp (maxDischargeDepth := 40) +contextual only [hk, kept_ite, kept_upd, kept_foldl, kept_foldr, implies_true, and_self, keptOut_next, keptOut_ite, keptOut_fault, keptOut_awake, State.reject_kept, State.setWord_kept]

theorem State.plainWord_kept {b0 : Before} (s : State) (a v : Nat) (hk : Kept b0 s) : Kept b0 (State.plainWord s a v) := by
  unfold State.plainWord
  simp (maxDischargeDepth := 40) +contextual only [hk, kept_ite, kept_upd, kept_foldl, kept_foldr, implies_true, and_self, keptOut_next, keptOut_ite, keptOut_fault, keptOut_awake, State.unitWord_kept]

theorem State.lockWord_kept {b0 : Before} (s : State) (b u : Nat) (lock : Bool) (a v : Nat) (hk : Kept b0 s) : Kept b0 (State.lockWord s b u lock a v) := by
  unfold State.lockWord
  simp (maxDischargeDepth := 40) +contextual only [hk, kept_ite, kept_upd, kept_foldl, kept_foldr, implies_true, and_self, keptOut_next, keptOut_ite, keptOut_fault, keptOut_awake, State.unitWord_kept]

theorem State.ctrlWord_kept {b0 : Before} (s : State) (b v : Nat) (hk : Kept b0 s) : Kept b0 (State.ctrlWord s b v) := by
  unfold State.ctrlWord
  split <;> simp (maxDischargeDepth := 40) +contextual only [hk, kept_ite, kept_upd, kept_foldl, kept_foldr, implies_true, and_self, keptOut_next, keptOut_ite, keptOut_fault, keptOut_awake, State.lockReject_kept, State.put_kept, State.refreshPf_kept, State.reject_kept]

theorem State.stickyWord_kept {b0 : Before} (s : State) (b v : Nat) (hk : Kept b0 s) : Kept b0 (State.stickyWord s b v) := by
  unfold State.stickyWord
  simp (maxDischargeDepth := 40) +contextual only [hk, kept_ite, kept_upd, kept_foldl, kept_foldr, implies_true, and_self, keptOut_next, keptOut_ite, keptOut_fault, keptOut_awake, State.put_kept, State.refreshLine_kept]

theorem State.startCommit_kept {b0 : Before} (n : Nat) (s : State) (u : Nat) (hk : Kept b0 s) : Kept b0 (State.startCommit n s u) := by
  unfold State.startCommit
  simp (maxDischargeDepth := 40) +contextual only [hk, kept_ite, kept_upd, kept_foldl, kept_foldr, implies_true, and_self, keptOut_next, keptOut_ite, keptOut_fault, keptOut_awake, State.askCommit_kept, State.acqNow_kept, State.commitAdc_kept, State.commitPwm_kept, State.commitLoop_kept, State.commitAxis_kept, State.commitRing_kept]

theorem State.commitKey_kept {b0 : Before} (s : State) (b v : Nat) (hk : Kept b0 s) : Kept b0 (State.commitKey s b v) := by
  unfold State.commitKey
  simp (maxDischargeDepth := 40) +contextual only [hk, kept_ite, kept_upd, kept_foldl, kept_foldr, implies_true, and_self, keptOut_next, keptOut_ite, keptOut_fault, keptOut_awake, State.reject_kept, State.startCommit_kept]

theorem execBlkCommitWrite_kept {b0 : Before} (base : Nat) (v : Word) (s : State) (hk : Kept b0 s) : KeptOut b0 (execBlkCommitWrite base v s) := by
  unfold execBlkCommitWrite
  simp (maxDischargeDepth := 40) +contextual only [hk, kept_ite, kept_upd, kept_foldl, kept_foldr, implies_true, and_self, keptOut_next, keptOut_ite, keptOut_fault, keptOut_awake, State.commitKey_kept]

theorem State.abandon_kept {b0 : Before} (s : State) (b : Nat) (hk : Kept b0 s) : Kept b0 (State.abandon s b) := by
  unfold State.abandon
  dsimp only
  repeat' split
  all_goals simp (maxDischargeDepth := 40) +contextual only [hk, kept_ite, kept_upd, kept_foldl, kept_foldr, implies_true, and_self, keptOut_next, keptOut_ite, keptOut_fault, keptOut_awake, State.advanceTick_kept, State.abandonAt_kept]

theorem execCommitAbandon_kept {b0 : Before} (base : Nat) (s : State) (hk : Kept b0 s) : KeptOut b0 (execCommitAbandon base s) := by
  unfold execCommitAbandon
  simp (maxDischargeDepth := 40) +contextual only [hk, kept_ite, kept_upd, kept_foldl, kept_foldr, implies_true, and_self, keptOut_next, keptOut_ite, keptOut_fault, keptOut_awake, State.abandon_kept]

theorem State.commonWord_kept {b0 : Before} (s : State) (b o v : Nat) (hk : Kept b0 s) : Kept b0 (State.commonWord s b o v) := by
  unfold State.commonWord
  simp (maxDischargeDepth := 40) +contextual only [hk, kept_ite, kept_upd, kept_foldl, kept_foldr, implies_true, and_self, keptOut_next, keptOut_ite, keptOut_fault, keptOut_awake, State.ctrlWord_kept, State.stickyWord_kept, State.setWord_kept, State.refreshLine_kept, State.commitKey_kept]

theorem State.sysWord_kept {b0 : Before} (s : State) (o v : Nat) (hk : Kept b0 s) : Kept b0 (State.sysWord s o v) := by
  unfold State.sysWord
  simp (maxDischargeDepth := 40) +contextual only [hk, kept_ite, kept_upd, kept_foldl, kept_foldr, implies_true, and_self, keptOut_next, keptOut_ite, keptOut_fault, keptOut_awake, State.plainWord_kept, State.mirrorCause_kept, State.via_kept, State.armOutputs_kept, execSysWdogCtrlWrite_kept, execSysWdogKickWrite_kept, execSysSwrstWrite_kept]

theorem State.secWord_kept {b0 : Before} (s : State) (r : Requester) (o v : Nat) (hk : Kept b0 s) : Kept b0 (State.secWord s r o v) := by
  unfold State.secWord
  simp (maxDischargeDepth := 40) +contextual only [hk, kept_ite, kept_upd, kept_foldl, kept_foldr, implies_true, and_self, keptOut_next, keptOut_ite, keptOut_fault, keptOut_awake, State.reject_kept, State.put_kept, State.secGo_kept, State.startAttest_kept, State.plainWord_kept]

theorem State.srcWord_kept {b0 : Before} (s : State) (n v : Nat) (hk : Kept b0 s) : Kept b0 (State.srcWord s n v) := by
  unfold State.srcWord
  simp (maxDischargeDepth := 40) +contextual only [hk, kept_ite, kept_upd, kept_foldl, kept_foldr, implies_true, and_self, keptOut_next, keptOut_ite, keptOut_fault, keptOut_awake, State.reject_kept, State.setWord_kept, State.setReleased_kept, State.line_kept, State.hostDeliver_kept]

theorem State.irqWord_kept {b0 : Before} (s : State) (o v : Nat) (hk : Kept b0 s) : Kept b0 (State.irqWord s o v) := by
  unfold State.irqWord
  simp (maxDischargeDepth := 40) +contextual only [hk, kept_ite, kept_upd, kept_foldl, kept_foldr, implies_true, and_self, keptOut_next, keptOut_ite, keptOut_fault, keptOut_awake, State.via_kept, State.reqStandby_kept, State.reject_kept, State.plainWord_kept, State.wakeCheck_kept, State.hostSweep_kept, State.srcWord_kept, execPwrReqRun_kept, execPwrReqIdle_kept, execIrqPendWrite_kept, execIrqComplete_kept]
  split <;> simp (maxDischargeDepth := 40) +contextual only [hk, kept_ite, kept_upd, kept_foldl, kept_foldr, implies_true, and_self, keptOut_next, keptOut_ite, keptOut_fault, keptOut_awake, State.via_kept, State.reqStandby_kept, State.reject_kept, State.plainWord_kept, State.wakeCheck_kept, State.hostSweep_kept, State.srcWord_kept, execPwrReqRun_kept, execPwrReqIdle_kept, execIrqPendWrite_kept, execIrqComplete_kept]

theorem State.schedWord_kept {b0 : Before} (s : State) (r : Requester) (o v : Nat) (hk : Kept b0 s) : Kept b0 (State.schedWord s r o v) := by
  unfold State.schedWord
  simp (maxDischargeDepth := 40) +contextual only [hk, kept_ite, kept_upd, kept_foldl, kept_foldr, implies_true, and_self, keptOut_next, keptOut_ite, keptOut_fault, keptOut_awake, State.schedCmd_kept, State.lockWord_kept]

theorem State.timeWord_kept {b0 : Before} (s : State) (o v : Nat) (hk : Kept b0 s) : Kept b0 (State.timeWord s o v) := by
  unfold State.timeWord
  simp (maxDischargeDepth := 40) +contextual only [hk, kept_ite, kept_upd, kept_foldl, kept_foldr, implies_true, and_self, keptOut_next, keptOut_ite, keptOut_fault, keptOut_awake, State.timeSrcWrite_kept, State.timeRateWrite_kept, State.ptpOffset_kept, State.cmpCtrl_kept, State.lockWord_kept, State.capCtrl_kept, State.plainWord_kept]

theorem State.adcCtrlWord_kept {b0 : Before} (s : State) (c v : Nat) (hk : Kept b0 s) : Kept b0 (State.adcCtrlWord s c v) := by
  unfold State.adcCtrlWord
  simp (maxDischargeDepth := 40) +contextual only [hk, kept_ite, kept_upd, kept_foldl, kept_foldr, implies_true, and_self, keptOut_next, keptOut_ite, keptOut_fault, keptOut_awake, State.acqNow_kept, State.trigWrite_kept, State.armWrite_kept, State.calGo_kept]

theorem State.adcRegWord_kept {b0 : Before} (s : State) (o v : Nat) (hk : Kept b0 s) : Kept b0 (State.adcRegWord s o v) := by
  unfold State.adcRegWord
  simp (maxDischargeDepth := 40) +contextual only [hk, kept_ite, kept_upd, kept_foldl, kept_foldr, implies_true, and_self, keptOut_next, keptOut_ite, keptOut_fault, keptOut_awake, State.refWrite_kept, State.adcTriggers_kept, State.lockWord_kept, State.adcCtrlWord_kept, State.winCtrlWrite_kept, State.plainWord_kept]

theorem State.pwmCtrlWord_kept {b0 : Before} (s : State) (g v : Nat) (hk : Kept b0 s) : Kept b0 (State.pwmCtrlWord s g v) := by
  unfold State.pwmCtrlWord
  simp (maxDischargeDepth := 40) +contextual only [hk, kept_ite, kept_upd, kept_foldl, kept_foldr, implies_true, and_self, keptOut_next, keptOut_ite, keptOut_fault, keptOut_awake, State.tripClr_kept, State.setLoadnow_kept, State.startAt_kept, State.stopGen_kept]

theorem State.pwmWord_kept {b0 : Before} (s : State) (o v : Nat) (hk : Kept b0 s) : Kept b0 (State.pwmWord s o v) := by
  unfold State.pwmWord
  simp (maxDischargeDepth := 40) +contextual only [hk, kept_ite, kept_upd, kept_foldl, kept_foldr, implies_true, and_self, keptOut_next, keptOut_ite, keptOut_fault, keptOut_awake, State.via_kept, State.setTripPin_kept, State.lockReject_kept, State.reject_kept, State.setGrp_kept, State.lockWord_kept, State.pwmCtrlWord_kept, State.shadowWrite_kept, State.plainWord_kept, execPwmStartWrite_kept]

theorem State.injWord_kept {b0 : Before} (s : State) (i o v : Nat) (hk : Kept b0 s) : Kept b0 (State.injWord s i o v) := by
  unfold State.injWord
  simp (maxDischargeDepth := 40) +contextual only [hk, kept_ite, kept_upd, kept_foldl, kept_foldr, implies_true, and_self, keptOut_next, keptOut_ite, keptOut_fault, keptOut_awake, State.lockWord_kept, State.via_kept, execInjGo_kept]

theorem State.loopWord_kept {b0 : Before} (s : State) (o v : Nat) (hk : Kept b0 s) : Kept b0 (State.loopWord s o v) := by
  unfold State.loopWord
  simp (maxDischargeDepth := 40) +contextual only [hk, kept_ite, kept_upd, kept_foldl, kept_foldr, implies_true, and_self, keptOut_next, keptOut_ite, keptOut_fault, keptOut_awake, State.slotReqWrite_kept, State.stickyClear_kept, State.lockWord_kept, State.injWord_kept, State.plainWord_kept]

theorem State.loopMemWord_kept {b0 : Before} (s : State) (a v : Nat) (hk : Kept b0 s) : Kept b0 (State.loopMemWord s a v) := by
  unfold State.loopMemWord
  dsimp only
  repeat' split
  all_goals simp (maxDischargeDepth := 40) +contextual only [hk, kept_ite, kept_upd, kept_foldl, kept_foldr, implies_true, and_self, keptOut_next, keptOut_ite, keptOut_fault, keptOut_awake, State.unitWord_kept, State.refreshModels_kept, State.refreshSv_kept]

theorem State.camWord_kept {b0 : Before} (s : State) (a v : Nat) (hk : Kept b0 s) : Kept b0 (State.camWord s a v) := by
  unfold State.camWord
  dsimp only
  repeat' split
  all_goals simp (maxDischargeDepth := 40) +contextual only [hk, kept_ite, kept_upd, kept_foldl, kept_foldr, implies_true, and_self, keptOut_next, keptOut_ite, keptOut_fault, keptOut_awake, State.lockReject_kept, State.unitWord_kept]

theorem State.axWord_kept {b0 : Before} (s : State) (n o v : Nat) (hk : Kept b0 s) : Kept b0 (State.axWord s n o v) := by
  unfold State.axWord
  split <;> simp (maxDischargeDepth := 40) +contextual only [hk, kept_ite, kept_upd, kept_foldl, kept_foldr, implies_true, and_self, keptOut_next, keptOut_ite, keptOut_fault, keptOut_awake, State.axReg_kept, State.reject_kept, State.axStickyClear_kept, State.setWord_kept, State.lockWord_kept, State.refreshSteppers_kept]

theorem State.encWord_kept {b0 : Before} (s : State) (n o v : Nat) (hk : Kept b0 s) : Kept b0 (State.encWord s n o v) := by
  unfold State.encWord
  simp (maxDischargeDepth := 40) +contextual only [hk, kept_ite, kept_upd, kept_foldl, kept_foldr, implies_true, and_self, keptOut_next, keptOut_ite, keptOut_fault, keptOut_awake, State.encCfgWrite_kept, State.encErrClear_kept, State.lockWord_kept]

theorem State.motionWord_kept {b0 : Before} (s : State) (o v : Nat) (hk : Kept b0 s) : Kept b0 (State.motionWord s o v) := by
  unfold State.motionWord
  simp (maxDischargeDepth := 40) +contextual only [hk, kept_ite, kept_upd, kept_foldl, kept_foldr, implies_true, and_self, keptOut_next, keptOut_ite, keptOut_fault, keptOut_awake, State.axWord_kept, State.lockWord_kept, State.encWord_kept, State.plainWord_kept]

theorem State.ringWord_kept {b0 : Before} (s : State) (o v : Nat) (hk : Kept b0 s) : Kept b0 (State.ringWord s o v) := by
  unfold State.ringWord
  simp (maxDischargeDepth := 40) +contextual only [hk, kept_ite, kept_upd, kept_foldl, kept_foldr, implies_true, and_self, keptOut_next, keptOut_ite, keptOut_fault, keptOut_awake, State.ringCtrl_kept, State.reject_kept, State.setWord_kept, State.readBank_kept, State.lockWord_kept]

theorem State.canWord_kept {b0 : Before} (s : State) (c o v : Nat) (hk : Kept b0 s) : Kept b0 (State.canWord s c o v) := by
  unfold State.canWord
  simp (maxDischargeDepth := 40) +contextual only [hk, kept_ite, kept_upd, kept_foldl, kept_foldr, implies_true, and_self, keptOut_next, keptOut_ite, keptOut_fault, keptOut_awake, State.canRegWrite_kept, State.canTxreq_kept, State.via_kept, State.objWrite_kept, State.plainWord_kept, execCanTxabortWrite_kept]

theorem State.ethWord_kept {b0 : Before} (s : State) (o v : Nat) (hk : Kept b0 s) : Kept b0 (State.ethWord s o v) := by
  unfold State.ethWord
  simp (maxDischargeDepth := 40) +contextual only [hk, kept_ite, kept_upd, kept_foldl, kept_foldr, implies_true, and_self, keptOut_next, keptOut_ite, keptOut_fault, keptOut_awake, State.ethCtrl_kept, State.mdioWrite_kept, State.lockWord_kept]

theorem State.acqWord_kept {b0 : Before} (s : State) (o v : Nat) (hk : Kept b0 s) : Kept b0 (State.acqWord s o v) := by
  unfold State.acqWord
  simp (maxDischargeDepth := 40) +contextual only [hk, kept_ite, kept_upd, kept_foldl, kept_foldr, implies_true, and_self, keptOut_next, keptOut_ite, keptOut_fault, keptOut_awake, State.lockWord_kept, State.acqArm_kept, State.acqStop_kept, State.lockReject_kept, State.unitWrite_kept]

theorem State.stoWord_kept {b0 : Before} (s : State) (o v : Nat) (hk : Kept b0 s) : Kept b0 (State.stoWord s o v) := by
  unfold State.stoWord
  simp (maxDischargeDepth := 40) +contextual only [hk, kept_ite, kept_upd, kept_foldl, kept_foldr, implies_true, and_self, keptOut_next, keptOut_ite, keptOut_fault, keptOut_awake, State.via_kept, State.plainWord_kept, execStoReq7Write_kept]

theorem State.opioWord_kept {b0 : Before} (s : State) (o v : Nat) (hk : Kept b0 s) : Kept b0 (State.opioWord s o v) := by
  unfold State.opioWord
  simp (maxDischargeDepth := 40) +contextual only [hk, kept_ite, kept_upd, kept_foldl, kept_foldr, implies_true, and_self, keptOut_next, keptOut_ite, keptOut_fault, keptOut_awake, State.lockWord_kept, State.hpSee_kept, State.plainWord_kept]

theorem State.spliceWord_kept {b0 : Before} (s : State) (o v : Nat) (hk : Kept b0 s) : Kept b0 (State.spliceWord s o v) := by
  unfold State.spliceWord
  simp (maxDischargeDepth := 40) +contextual only [hk, kept_ite, kept_upd, kept_foldl, kept_foldr, implies_true, and_self, keptOut_next, keptOut_ite, keptOut_fault, keptOut_awake, State.lockReject_kept, State.splCtrl_kept, State.splTail_kept, State.lockWord_kept, State.setLash_kept]

theorem State.doorbellWord_kept {b0 : Before} (s : State) (o v : Nat) (hk : Kept b0 s) : Kept b0 (State.doorbellWord s o v) := by
  unfold State.doorbellWord
  dsimp only
  repeat' split
  all_goals simp (maxDischargeDepth := 40) +contextual only [hk, kept_ite, kept_upd, kept_foldl, kept_foldr, implies_true, and_self, keptOut_next, keptOut_ite, keptOut_fault, keptOut_awake, State.via_kept, State.setWord_kept, State.put_kept, State.lockReject_kept, State.plainWord_kept, execQnctlWrite_kept, execQnsqTailWrite_kept, execQncqHeadWrite_kept]

theorem State.windowWord_kept {b0 : Before} (s : State) (o v : Nat) (hk : Kept b0 s) : Kept b0 (State.windowWord s o v) := by
  unfold State.windowWord
  dsimp only
  repeat' split
  all_goals simp (maxDischargeDepth := 40) +contextual only [hk, kept_ite, kept_upd, kept_foldl, kept_foldr, implies_true, and_self, keptOut_next, keptOut_ite, keptOut_fault, keptOut_awake, State.setWord_kept, State.msix_kept]

theorem State.hostifWord_kept {b0 : Before} (s : State) (r : Requester) (o v : Nat) (hk : Kept b0 s) : Kept b0 (State.hostifWord s r o v) := by
  unfold State.hostifWord
  split <;> simp (maxDischargeDepth := 40) +contextual only [hk, kept_ite, kept_upd, kept_foldl, kept_foldr, implies_true, and_self, keptOut_next, keptOut_ite, keptOut_fault, keptOut_awake, State.doorbellWord_kept, State.windowWord_kept]

theorem State.gpioWord_kept {b0 : Before} (s : State) (o v : Nat) (hk : Kept b0 s) : Kept b0 (State.gpioWord s o v) := by
  unfold State.gpioWord
  simp (maxDischargeDepth := 40) +contextual only [hk, kept_ite, kept_upd, kept_foldl, kept_foldr, implies_true, and_self, keptOut_next, keptOut_ite, keptOut_fault, keptOut_awake, State.via_kept, State.gpioCfgWrite_kept, State.plainWord_kept, execGpioSetWrite_kept, execGpioClrWrite_kept]

theorem State.evrecWord_kept {b0 : Before} (s : State) (r : Requester) (o v : Nat) (hk : Kept b0 s) : Kept b0 (State.evrecWord s r o v) := by
  unfold State.evrecWord
  simp (maxDischargeDepth := 40) +contextual only [hk, kept_ite, kept_upd, kept_foldl, kept_foldr, implies_true, and_self, keptOut_next, keptOut_ite, keptOut_fault, keptOut_awake, State.via_kept, State.plainWord_kept, execEvrecWrGo_kept]

theorem State.regWord_kept {b0 : Before} (s : State) (r : Requester) (a v : Nat) (hk : Kept b0 s) : Kept b0 (State.regWord s r a v) := by
  unfold State.regWord
  dsimp only
  repeat' split
  all_goals simp (maxDischargeDepth := 40) +contextual only [hk, kept_ite, kept_upd, kept_foldl, kept_foldr, implies_true, and_self, keptOut_next, keptOut_ite, keptOut_fault, keptOut_awake, State.commonWord_kept, State.canWord_kept, State.reject_kept, State.stageWord_kept, State.sysWord_kept, State.secWord_kept, State.irqWord_kept, State.schedWord_kept, State.timeWord_kept, State.adcRegWord_kept, State.pwmWord_kept, State.loopWord_kept, State.motionWord_kept, State.ringWord_kept, State.ethWord_kept, State.acqWord_kept, State.stoWord_kept, State.evrecWord_kept, State.opioWord_kept, State.spliceWord_kept, State.hostifWord_kept, State.gpioWord_kept, State.loopMemWord_kept, State.camWord_kept]

theorem State.setPairRd_kept {b0 : Before} (s : State) (r : Requester) (a : Nat) (v : PairRead) (hk : Kept b0 s) : Kept b0 (State.setPairRd s r a v) := by
  unfold State.setPairRd
  simp (maxDischargeDepth := 40) +contextual only [hk, kept_ite, kept_upd, kept_foldl, kept_foldr, implies_true, and_self, keptOut_next, keptOut_ite, keptOut_fault, keptOut_awake]

theorem State.setPairWr_kept {b0 : Before} (s : State) (r : Requester) (a : Nat) (v : PairWrite) (hk : Kept b0 s) : Kept b0 (State.setPairWr s r a v) := by
  unfold State.setPairWr
  simp (maxDischargeDepth := 40) +contextual only [hk, kept_ite, kept_upd, kept_foldl, kept_foldr, implies_true, and_self, keptOut_next, keptOut_ite, keptOut_fault, keptOut_awake]

theorem State.pairValue_kept {b0 : Before} (s : State) (r : Requester) (a : Nat) (hk : Kept b0 s) : Kept b0 (State.pairValue s r a).2 := by
  unfold State.pairValue
  dsimp only
  repeat' split
  all_goals simp (maxDischargeDepth := 40) +contextual only [hk, kept_ite, kept_upd, kept_foldl, kept_foldr, implies_true, and_self, keptOut_next, keptOut_ite, keptOut_fault, keptOut_awake, State.setCapFifo_kept, State.tsqPop_kept]

theorem State.pairLoRead_kept {b0 : Before} (s : State) (r : Requester) (a : Nat) (hk : Kept b0 s) : Kept b0 (State.pairLoRead s r a) := by
  unfold State.pairLoRead
  simp (maxDischargeDepth := 40) +contextual only [hk, kept_ite, kept_upd, kept_foldl, kept_foldr, implies_true, and_self, keptOut_next, keptOut_ite, keptOut_fault, keptOut_awake, State.pairValue_kept, State.setPairRd_kept]

theorem State.pairHiRead_kept {b0 : Before} (s : State) (r : Requester) (a : Nat) (hk : Kept b0 s) : Kept b0 (State.pairHiRead s r a) := by
  unfold State.pairHiRead
  simp (maxDischargeDepth := 40) +contextual only [hk, kept_ite, kept_upd, kept_foldl, kept_foldr, implies_true, and_self, keptOut_next, keptOut_ite, keptOut_fault, keptOut_awake, State.setPairRd_kept, State.raise_kept]

theorem State.pairLoWrite_kept {b0 : Before} (s : State) (r : Requester) (a v : Nat) (hk : Kept b0 s) : Kept b0 (State.pairLoWrite s r a v) := by
  unfold State.pairLoWrite
  simp (maxDischargeDepth := 40) +contextual only [hk, kept_ite, kept_upd, kept_foldl, kept_foldr, implies_true, and_self, keptOut_next, keptOut_ite, keptOut_fault, keptOut_awake, State.setPairWr_kept]

theorem State.pairApply_kept {b0 : Before} (s : State) (r : Requester) (a lo hi : Nat) (hk : Kept b0 s) : Kept b0 (State.pairApply s r a lo hi) := by
  unfold State.pairApply
  simp (maxDischargeDepth := 40) +contextual only [hk, kept_ite, kept_upd, kept_foldl, kept_foldr, implies_true, and_self, keptOut_next, keptOut_ite, keptOut_fault, keptOut_awake, State.timeStepWrite_kept, State.reject_kept, State.put64_kept, State.regWord_kept]

theorem State.pairHiWrite_kept {b0 : Before} (s : State) (r : Requester) (a v : Nat) (hk : Kept b0 s) : Kept b0 (State.pairHiWrite s r a v) := by
  unfold State.pairHiWrite
  simp (maxDischargeDepth := 40) +contextual only [hk, kept_ite, kept_upd, kept_foldl, kept_foldr, implies_true, and_self, keptOut_next, keptOut_ite, keptOut_fault, keptOut_awake, State.setPairWr_kept, State.pairApply_kept, State.raise_kept]

theorem State.pciWrite_kept {b0 : Before} (s : State) (o v : Nat) (hk : Kept b0 s) : Kept b0 (State.pciWrite s o v) := by
  unfold State.pciWrite
  simp (maxDischargeDepth := 40) +contextual only [hk, kept_ite, kept_upd, kept_foldl, kept_foldr, implies_true, and_self, keptOut_next, keptOut_ite, keptOut_fault, keptOut_awake, State.pciSet_kept, State.functionReset_kept, State.hostLost_kept]

theorem State.hostOwnWrite_kept {b0 : Before} (s : State) (a v : Nat) (hk : Kept b0 s) : Kept b0 (State.hostOwnWrite s a v) := by
  unfold State.hostOwnWrite
  simp (maxDischargeDepth := 40) +contextual only [hk, kept_ite, kept_upd, kept_foldl, kept_foldr, implies_true, and_self, keptOut_next, keptOut_ite, keptOut_fault, keptOut_awake, State.pciWrite_kept, State.msixWrite_kept]

theorem State.busWrite_kept {b0 : Before} (s : State) (r : Requester) (a size v : Nat) (hk : Kept b0 s) : Kept b0 (State.busWrite s r a size v) := by
  unfold State.busWrite
  split <;> simp (maxDischargeDepth := 40) +contextual only [hk, kept_ite, kept_upd, kept_foldl, kept_foldr, implies_true, and_self, keptOut_next, keptOut_ite, keptOut_fault, keptOut_awake, State.putBytes_kept, State.reject_kept, State.pairLoWrite_kept, State.pairHiWrite_kept, State.regWord_kept, State.hostOwnWrite_kept]

theorem execRegisterWrite_kept {b0 : Before} (r : Requester) (addr size : Nat) (v : Word) (s : State) (hk : Kept b0 s) : KeptOut b0 (execRegisterWrite r addr size v s) := by
  unfold execRegisterWrite
  simp (maxDischargeDepth := 40) +contextual only [hk, kept_ite, kept_upd, kept_foldl, kept_foldr, implies_true, and_self, keptOut_next, keptOut_ite, keptOut_fault, keptOut_awake, State.busWrite_kept]

theorem State.readEffect_kept {b0 : Before} (s t : State) (r : Requester) (a : Nat) (e : s.readEffect r a = some t) (h : Kept b0 s) :
    Kept b0 t := by
  unfold State.readEffect at e
  dsimp only at e
  repeat' split at e
  all_goals first
    | contradiction
    | (injection e with e; subst e; exact State.via_kept _ _ (fun u hu => execAdcFifoRead_kept _ u hu) h)
    | (injection e with e; subst e; exact State.via_kept _ _ (fun u hu => execIrqClaim_kept _ u hu) h)
    | (injection e with e; subst e; exact State.via_kept _ _ (fun u hu => execSchedDispRead_kept _ u hu) h)
    | (injection e with e; subst e; exact State.via_kept _ _ (fun u hu => execSchedPfRead_kept _ u hu) h)

theorem State.busRead_kept {b0 : Before} (s : State) (r : Requester) (a size : Nat) (h : Kept b0 s) : Kept b0 (s.busRead r a size) := by
  unfold State.busRead
  split
  · exact h
  · split
    · exact h
    · split
      · rename_i e; exact State.readEffect_kept _ _ _ _ e h
      · exact h
  · exact h
  · exact h

theorem execPairLoRead_kept {b0 : Before} (r : Requester) (addr size : Nat) (s : State) (hk : Kept b0 s) : KeptOut b0 (execPairLoRead r addr size s) := by
  unfold execPairLoRead
  simp (maxDischargeDepth := 40) +contextual only [hk, kept_ite, kept_upd, kept_foldl, kept_foldr, implies_true, and_self, keptOut_next, keptOut_ite, keptOut_fault, keptOut_awake, State.pairLoRead_kept, State.busRead_kept]

theorem execPairHiRead_kept {b0 : Before} (r : Requester) (addr size : Nat) (s : State) (hk : Kept b0 s) : KeptOut b0 (execPairHiRead r addr size s) := by
  unfold execPairHiRead
  simp (maxDischargeDepth := 40) +contextual only [hk, kept_ite, kept_upd, kept_foldl, kept_foldr, implies_true, and_self, keptOut_next, keptOut_ite, keptOut_fault, keptOut_awake, State.pairHiRead_kept, State.busRead_kept]

theorem execPairLoWrite_kept {b0 : Before} (r : Requester) (addr : Nat) (v : Word) (s : State) (hk : Kept b0 s) : KeptOut b0 (execPairLoWrite r addr v s) := by
  unfold execPairLoWrite
  simp (maxDischargeDepth := 40) +contextual only [hk, kept_ite, kept_upd, kept_foldl, kept_foldr, implies_true, and_self, keptOut_next, keptOut_ite, keptOut_fault, keptOut_awake, State.busWrite_kept]

theorem execPairHiWrite_kept {b0 : Before} (r : Requester) (addr : Nat) (v : Word) (s : State) (hk : Kept b0 s) : KeptOut b0 (execPairHiWrite r addr v s) := by
  unfold execPairHiWrite
  simp (maxDischargeDepth := 40) +contextual only [hk, kept_ite, kept_upd, kept_foldl, kept_foldr, implies_true, and_self, keptOut_next, keptOut_ite, keptOut_fault, keptOut_awake, State.busWrite_kept]

theorem mirLow_kept {b0 : Before} (p : Pkt) (s : State) (hk : Kept b0 s) : KeptOut b0 (mirLow p s) := by
  unfold mirLow
  split <;> simp (maxDischargeDepth := 40) +contextual only [hk, kept_ite, kept_upd, kept_foldl, kept_foldr, implies_true, and_self, keptOut_next, keptOut_ite, keptOut_fault, keptOut_awake, State.done_kept, execSysReset_kept, execSysArm_kept, execSysPowerState_kept, execSysWakeConfig_kept, execSysRemotePermit_kept, execTimeConfig_kept, execLoopConfig_kept, execLoopOpen_kept, execLoopClose_kept, execLoopCoefWrite_kept, execLoopSetpoint_kept, execLoopManual_kept, execLoopObserver_kept, execLoopSafe_kept, execLoopSupervise_kept, execLoopStep_kept, execLoopSweep_kept, execLoopRelease_kept, execLoopStickyClear_kept, execAxisConfig_kept, execAxisMove_kept, execAxisStop_kept, execAxisEnable_kept, execAxisGear_kept, execAxisCam_kept, execCamTableWrite_kept, execAxisPhaseTrim_kept, execAxisStepTable_kept]

theorem mirMid_kept {b0 : Before} (p : Pkt) (s : State) (hk : Kept b0 s) : KeptOut b0 (mirMid p s) := by
  unfold mirMid
  split <;> simp (maxDischargeDepth := 40) +contextual only [hk, kept_ite, kept_upd, kept_foldl, kept_foldr, implies_true, and_self, keptOut_next, keptOut_ite, keptOut_fault, keptOut_awake, State.done_kept, execRecipeLoad_kept, execRecipeStart_kept, execRecipePause_kept, execRecipeResume_kept, execRecipeAbort_kept, execRecipeDelete_kept, execProgLoad_kept, execProgRun_kept, execProgForce_kept, execProgRelease_kept, execProgChange_kept, execProgWriteVar_kept, execProgReArm_kept, execAcqChannel_kept, execAcqTrigger_kept, execAcqArm_kept, execAcqStop_kept, execAcqStream_kept, execRingScheduleLoad_kept, execRingStart_kept, execRingStop_kept, execRingMasterRank_kept, execSecImageWrite_kept, execSecKeyRevoke_kept, execSecRollback_kept]

theorem mirHigh_kept {b0 : Before} (p : Pkt) (s : State) (hk : Kept b0 s) : KeptOut b0 (mirHigh p s) := by
  unfold mirHigh
  split <;> simp (maxDischargeDepth := 40) +contextual only [hk, kept_ite, kept_upd, kept_foldl, kept_foldr, implies_true, and_self, keptOut_next, keptOut_ite, keptOut_fault, keptOut_awake, State.done_kept, execRecClear_kept, execRecWrite_kept, execAdcConfig_kept, execAdcCalibrate_kept, execAdcSequence_kept, execPwmConfig_kept, execPwmDuty_kept, execPwmTripClear_kept, execPwmEnable_kept, execGpioConfig_kept, execGpioWrite_kept, execEncConfig_kept, execCanConfig_kept, execCanObject_kept, execCanTransmit_kept, execTouchConfig_kept, execHotplugConfig_kept, execHotplugPower_kept]

theorem execMirrored_kept {b0 : Before} (p : Pkt) (s : State) (hk : Kept b0 s) : KeptOut b0 (execMirrored p s) := by
  unfold execMirrored
  simp (maxDischargeDepth := 40) +contextual only [hk, kept_ite, kept_upd, kept_foldl, kept_foldr, implies_true, and_self, keptOut_next, keptOut_ite, keptOut_fault, keptOut_awake, mirLow_kept, mirMid_kept, mirHigh_kept]

theorem State.mirAction_kept {b0 : Before} (s : State) (p : Pkt) (lost : Bool) (hk : Kept b0 s) : Kept b0 (State.mirAction s p lost) := by
  unfold State.mirAction
  simp (maxDischargeDepth := 40) +contextual only [hk, kept_ite, kept_upd, kept_foldl, kept_foldr, implies_true, and_self, keptOut_next, keptOut_ite, keptOut_fault, keptOut_awake, State.stepEffect_kept, State.setRcp_kept]

theorem State.mirApply_kept {b0 : Before} (s : State) (c at' : Nat) (p : Pkt) (lost : Bool) (hk : Kept b0 s) : Kept b0 (State.mirApply s c at' p lost) := by
  unfold State.mirApply
  simp (maxDischargeDepth := 40) +contextual only [hk, kept_ite, kept_upd, kept_foldl, kept_foldr, implies_true, and_self, keptOut_next, keptOut_ite, keptOut_fault, keptOut_awake, State.lashI_kept, State.mirAction_kept, State.via_kept, execMirrored_kept]

theorem State.mirAll_kept {b0 : Before} (at' : Nat) (l : List (Nat × Pkt)) (s : State) (h : Kept b0 s) : Kept b0 (State.mirAll at' l s) := by
  induction l generalizing s with
  | nil => exact h
  | cons e r ih => exact ih _ (State.mirApply_kept _ _ _ _ _ h)

theorem State.mirRun_kept {b0 : Before} (s : State) (k : Nat) (h : Kept b0 s) : Kept b0 (s.mirRun k) := by
  unfold State.mirRun
  exact State.setQ_kept _ _ _ (State.mirAll_kept _ _ _ (State.lashI_kept _ _ h))

theorem execRingCycleStart_kept {b0 : Before} (s : State) (hk : Kept b0 s) : KeptOut b0 (execRingCycleStart s) := by
  unfold execRingCycleStart
  simp (maxDischargeDepth := 40) +contextual only [hk, kept_ite, kept_upd, kept_foldl, kept_foldr, implies_true, and_self, keptOut_next, keptOut_ite, keptOut_fault, keptOut_awake, State.ringOpen_kept, State.mirRun_kept, State.cycleDrive_kept, State.takeDigest_kept, State.bringUp_kept]

theorem State.mirTake_kept {b0 : Before} (s : State) (c : Nat) (p : Pkt) (status : Nat) (hk : Kept b0 s) : Kept b0 (State.mirTake s c p status) := by
  unfold State.mirTake
  simp (maxDischargeDepth := 40) +contextual only [hk, kept_ite, kept_upd, kept_foldl, kept_foldr, implies_true, and_self, keptOut_next, keptOut_ite, keptOut_fault, keptOut_awake, State.lashLost_kept, State.mirrorSend_kept, State.lashI_kept]

theorem execMCmdRx_kept {b0 : Before} (f : SplFrame) (c : Nat) (p : Pkt) (status : Nat) (s : State) (hk : Kept b0 s) : KeptOut b0 (execMCmdRx f c p status s) := by
  unfold execMCmdRx
  simp (maxDischargeDepth := 40) +contextual only [hk, kept_ite, kept_upd, kept_foldl, kept_foldr, implies_true, and_self, keptOut_next, keptOut_ite, keptOut_fault, keptOut_awake, State.mirRx_kept, State.mirTake_kept]

theorem State.mirEncIn_kept {b0 : Before} (s : State) (n : Nat) (pos : Int) (err : Bool) (hk : Kept b0 s) : Kept b0 (State.mirEncIn s n pos err) := by
  unfold State.mirEncIn
  simp (maxDischargeDepth := 40) +contextual only [hk, kept_ite, kept_upd, kept_foldl, kept_foldr, implies_true, and_self, keptOut_next, keptOut_ite, keptOut_fault, keptOut_awake, State.puti64_kept, State.put_kept, State.line_kept, State.encRelease_kept]

theorem State.mirItem_kept {b0 : Before} (s : State) (x : MirItem) (hk : Kept b0 s) : Kept b0 (State.mirItem s x) := by
  unfold State.mirItem
  split <;> simp (maxDischargeDepth := 40) +contextual only [hk, kept_ite, kept_upd, kept_foldl, kept_foldr, implies_true, and_self, keptOut_next, keptOut_ite, keptOut_fault, keptOut_awake, State.adcDeliver_kept, State.mirEncIn_kept, State.capEdge_kept, State.gpioIn_kept, State.canReceive_kept, State.tickGroups_kept, State.trip_kept, State.slotTrip_kept, State.lashI_kept, State.setImg_kept]

theorem State.mirIn_kept {b0 : Before} (s : State) (c : Nat) (x : MirItem) (hk : Kept b0 s) : Kept b0 (State.mirIn s c x) := by
  unfold State.mirIn
  simp (maxDischargeDepth := 40) +contextual only [hk, kept_ite, kept_upd, kept_foldl, kept_foldr, implies_true, and_self, keptOut_next, keptOut_ite, keptOut_fault, keptOut_awake, State.lashI_kept, State.mirItem_kept]

theorem State.mirInputRx_kept {b0 : Before} (s : State) (c : Nat) (x : MirItem) (hk : Kept b0 s) : Kept b0 (State.mirInputRx s c x) := by
  unfold State.mirInputRx
  simp (maxDischargeDepth := 40) +contextual only [hk, kept_ite, kept_upd, kept_foldl, kept_foldr, implies_true, and_self, keptOut_next, keptOut_ite, keptOut_fault, keptOut_awake, State.lashI_kept, State.lashLost_kept, State.mirIn_kept]

theorem execMInputRx_kept {b0 : Before} (f : SplFrame) (c : Nat) (item : MirItem) (s : State) (hk : Kept b0 s) : KeptOut b0 (execMInputRx f c item s) := by
  unfold execMInputRx
  simp (maxDischargeDepth := 40) +contextual only [hk, kept_ite, kept_upd, kept_foldl, kept_foldr, implies_true, and_self, keptOut_next, keptOut_ite, keptOut_fault, keptOut_awake, State.mirRx_kept, State.mirInputRx_kept]

theorem State.snapRx_kept {b0 : Before} (s : State) (part : SnapPart) (last : Bool) (hk : Kept b0 s) : Kept b0 (State.snapRx s part last) := by
  unfold State.snapRx
  simp (maxDischargeDepth := 40) +contextual only [hk, kept_ite, kept_upd, kept_foldl, kept_foldr, implies_true, and_self, keptOut_next, keptOut_ite, keptOut_fault, keptOut_awake, State.lashI_kept, State.loadSnap_kept, State.mirIn_kept, State.controlSend_kept]

theorem execSnapRx_kept {b0 : Before} (f : SplFrame) (part : SnapPart) (last : Bool) (s : State) (hk : Kept b0 s) : KeptOut b0 (execSnapRx f part last s) := by
  unfold execSnapRx
  simp (maxDischargeDepth := 40) +contextual only [hk, kept_ite, kept_upd, kept_foldl, kept_foldr, implies_true, and_self, keptOut_next, keptOut_ite, keptOut_fault, keptOut_awake, State.mirRx_kept, State.snapRx_kept]

theorem State.seedRx_kept {b0 : Before} (s : State) (x : Seed) (hk : Kept b0 s) : Kept b0 (State.seedRx s x) := by
  unfold State.seedRx
  simp (maxDischargeDepth := 40) +contextual only [hk, kept_ite, kept_upd, kept_foldl, kept_foldr, implies_true, and_self, keptOut_next, keptOut_ite, keptOut_fault, keptOut_awake, State.seedUnit_kept, State.mirRun_kept]

theorem execSeedRx_kept {b0 : Before} (f : SplFrame) (seed : Seed) (s : State) (hk : Kept b0 s) : KeptOut b0 (execSeedRx f seed s) := by
  unfold execSeedRx
  simp (maxDischargeDepth := 40) +contextual only [hk, kept_ite, kept_upd, kept_foldl, kept_foldr, implies_true, and_self, keptOut_next, keptOut_ite, keptOut_fault, keptOut_awake, State.mirRx_kept, State.seedRx_kept]

/-- A tick, or what passes in place of one, keeps the store, the queue and the fuses. -/
theorem State.idle_kept {b0 : Before} (s : State) (h : Kept b0 s) : Kept b0 s.idle := by
  unfold State.idle
  split
  · exact ⟨h.1, h.2.1, h.2.2⟩
  · split
    · dsimp only
      split
      · exact State.expireDue_kept _ (State.advance_kept s 1 h)
      · exact State.advance_kept s 1 h
    · exact h

end Sys2Proof.Machine
end

