-- ==== Sys2Proof/Laws/Ops.lean ====
section
/-! SUPPORT. What the operations that many commands share do, said once. -/

namespace Sys2Proof.Machine

/-- R81: an accepted packet has its effect. -/
theorem command_accepts {s : State} {p : Pkt} {op : Nat} {checks : List (Bool × Nat)} {effect : State → State}
    (h : s.accepts p op checks) : s.command p op checks effect = effect (s.noteStart p) := by
  obtain ⟨h0, h1, h2, h3⟩ := h
  unfold State.command
  rw [h0, h1, h2, h3]
  rfl

/-- R79: a packet whose opcode joins no queue of requests leaves no mark when it starts. -/
theorem noteStart_off {s : State} {p : Pkt} (h : p.joins = false) : s.noteStart p = s := by
  simp [State.noteStart, h]

/-- R81: a packet that passes the common checks of an opcode has that opcode. -/
theorem opcode_of_precheck {s : State} {p : Pkt} {op : Nat} (h : s.precheck p op = none) : p.opcode = op := by
  by_contra hn
  simp [State.precheck, hn] at h

/-- R81: an accepted packet of an opcode that joins no queue of requests has its effect on the state itself. -/
theorem command_lone {s : State} {p : Pkt} {op : Nat} {checks : List (Bool × Nat)} {effect : State → State}
    (h : s.accepts p op checks) (hj : joinOps.contains op = false) : s.command p op checks effect = effect s := by
  have hp : p.joins = false := by
    unfold Pkt.joins
    rw [opcode_of_precheck h.2.1]
    exact hj
  rw [command_accepts h, noteStart_off hp]

/-- R79: a packet whose turn has not come does not start. -/
theorem command_waits {s : State} {p : Pkt} {op : Nat} {checks : List (Bool × Nat)} {effect : State → State}
    (h : s.mustWait p = true) : s.command p op checks effect = s := by
  unfold State.command
  rw [h]
  rfl

/-- R81: a packet that fails a common check is answered, and nothing else happens. -/
theorem command_precheck {s : State} {p : Pkt} {op st : Nat} {checks : List (Bool × Nat)} {effect : State → State}
    (hw : s.mustWait p = false) (h : s.precheck p op = some st) : s.command p op checks effect = s.done p st := by
  unfold State.command
  rw [hw, h]
  rfl

/-- R81: a packet that fails a check of its opcode is answered, and nothing else happens. -/
theorem command_refused {s : State} {p : Pkt} {op st : Nat} {checks : List (Bool × Nat)} {effect : State → State}
    (hw : s.mustWait p = false) (h : s.precheck p op = none) (hc : firstFail checks = some st) : s.command p op checks effect = s.done p st := by
  unfold State.command
  rw [hw, h, hc]
  rfl

/-- R431: an accepted packet that the mirror stream carries waits for its cycle. -/
theorem command_mirrored {s : State} {p : Pkt} {op c : Nat} {checks : List (Bool × Nat)} {effect : State → State}
    (hw : s.mustWait p = false) (h : s.precheck p op = none) (hc : firstFail checks = none) (hm : s.mirrorCycle p op = some c) :
    s.command p op checks effect = (s.noteStart p).mirrorCmd p c := by
  unfold State.command
  rw [hw, h, hc, hm]
  rfl

/-- R422-R425: a good frame for this device at a link that is up is counted and taken. -/
theorem splRx_taken {s : State} {f : SplFrame} {ty : Nat} {content : List Nat} {body : State → State} (hl : f.link < 2)
    (hu : s.splUp f.link = true) (hc : f.crcOk = true) (hn : content.length ≤ 1021) (hd : f.dst = s.get F.SPL_ID) :
    s.splRx f ty content body = body (s.incSat (F.SPLL_RX_FRAMES f.link)) := by
  unfold State.splRx
  simp [Nat.not_le.mpr hl, hu, hc, hd, Nat.not_lt.mpr hn]

/-- R429, R442: a frame of the mirror stream that is taken advances the sequence number and has its effect. -/
theorem mirAccept_taken {s : State} {f : SplFrame} {body : State → State} (h : s.mirTakes f = true) :
    s.mirAccept f body = body (s.lashI (fun v => { v with seqRx := some f.mseq })) := by
  unfold State.mirTakes at h
  simp only [Bool.and_eq_true, decide_eq_true_eq] at h
  obtain ⟨⟨⟨⟨h1, h2⟩, h3⟩, h4⟩, h5⟩ := h
  have hd : s.mseqStep f.mseq = 1 := by
    unfold State.mseqStep
    cases hq : s.lash.seqRx with
    | none => rfl
    | some q => rw [hq] at h5; simpa using h5
  have hs : s.standby = true := by
    unfold State.standby
    rw [Bool.or_comm]
    exact h3
  unfold State.mirAccept State.mseqTake
  simp only [h1, h2, hs, h4, hd, ne_eq, not_true_eq_false, decide_false, Bool.not_true, Bool.or_false, Bool.false_eq_true, if_false, if_true]

theorem mirRx_taken {s : State} {f : SplFrame} {ty : Nat} {content : List Nat} {body : State → State} (hl : f.link < 2)
    (hu : s.splUp f.link = true) (hc : f.crcOk = true) (hn : content.length ≤ 1021) (hd : f.dst = s.get F.SPL_ID)
    (h : (s.incSat (F.SPLL_RX_FRAMES f.link)).mirTakes f = true) :
    s.mirRx f ty content body = body ((s.incSat (F.SPLL_RX_FRAMES f.link)).lashI (fun v => { v with seqRx := some f.mseq })) := by
  unfold State.mirRx
  rw [splRx_taken hl hu hc hn hd]
  exact mirAccept_taken h

/-- A state whose clock was set and whose tick count was raised: the queue stays. Said for any clock value, since the kernel
must not compute one. -/
theorem clock_pending (s : State) (v : Int) (n : Nat) :
    ({ s.setFine v with time := { (s.setFine v).time with tick := (s.setFine v).time.tick + n } } : State).pending = s.pending := rfl

theorem clock_tick (s : State) (v : Int) (n : Nat) :
    ({ s.setFine v with time := { (s.setFine v).time with tick := (s.setFine v).time.tick + n } } : State).time.tick = s.time.tick + n := rfl

/-- R477, R480: while the units that STANDBY stops run, an event of one has its effect. -/
theorem awake_on {s : State} {o : Host.Outcome State Fault Refusal} (h : s.runs = true) : s.awake o = o := if_pos h

/-- R36, R480: otherwise it has none. -/
theorem awake_off {s : State} {o : Host.Outcome State Fault Refusal} (h : s.runs = false) : s.awake o = .next s := by
  unfold State.awake
  simp [h]

theorem clock_frame (s : State) (v : Int) (n : Nat) : ∃ i : TimeInt,
    ({ s.setFine v with time := { (s.setFine v).time with tick := (s.setFine v).time.tick + n } } : State) = { s with time := i } := ⟨_, rfl⟩

/-- R89: ticks of CTL_CLK change the timebase alone. -/
theorem advance_frame (s : State) (n : Nat) : ∃ i : TimeInt, s.advance n = { s with time := i } := by
  unfold State.advance
  split
  · exact clock_frame s _ n
  · exact ⟨s.time, rfl⟩

/-- R89: ticks of CTL_CLK leave every word of the device. -/
theorem advance_words (s : State) (n : Nat) : (s.advance n).words = s.words := by
  obtain ⟨i, e⟩ := advance_frame s n
  rw [e]

theorem advance_sys (s : State) (n : Nat) : (s.advance n).sys = s.sys := by
  obtain ⟨i, e⟩ := advance_frame s n
  rw [e]

/-- R89: ticks of CTL_CLK leave the queue. -/
theorem advance_pending (s : State) (n : Nat) : (s.advance n).pending = s.pending := by
  unfold State.advance
  split
  · exact clock_pending s _ n
  · rfl

/-- R36, R89: while CTL_CLK runs, the tick counter counts its ticks. -/
theorem advance_tick (s : State) (n : Nat) (h : s.clocked = true) : (s.advance n).time.tick = s.time.tick + n := by
  unfold State.advance
  rw [if_pos h]
  exact clock_tick s _ n

end Sys2Proof.Machine
end

