-- ==== Sys2Proof/Tests/Slice0.lean ====
section
/-! SUPPORT. Tests: ill-formed commands that WellFormed refuses, small steps whose results follow from the spec, and for every
clause of the statements a witness that its hypotheses can be met. -/

namespace Sys2Proof.Tests

open Sys2Proof Sys2Proof.Machine

set_option Elab.async false
set_option linter.unusedVariables false

/-! ### Well-formedness -/

/-- A frame header of a Splice link in its ranges. -/
def gf : SplFrame := { link := 0, dst := 0, src := 0, schema := 0, mseq := 0, crcOk := true }

/-- Readings of nine rails. -/
def gh : Health := { rails := List.replicate 9 0 }

/-- Every check of a packet, of a frame, of a reading of the rails and of a mirrored input refuses a term that fails it alone. -/
theorem test_wf_parts_refuse :
    ([{ queue := 5 }, { uid := 2 ^ 64 }, { tag := 1024 }, { rsvd := 32 }, { opcode := 65536 }, { seq := 65536 }, { len := 65536, params := List.replicate 16384 0 }, { len := 4 }, { trailer := 65536 }, { mir := true }] : List Pkt).all (fun p => !p.wf) = true ∧
    ([{ gf with link := 2 }, { gf with dst := 16 }, { gf with src := 4 }, { gf with schema := 256 }, { gf with mseq := 2 ^ 24 }] :
      List SplFrame).all (fun f => !f.wf) = true ∧
    ([{ id := 2 ^ 29 }, { dlc := 16 }, { data := List.replicate 65 0 }, { data := [256] }] : List CanFrame).all (fun f => !f.wf) = true ∧
    ([{}, { gh with outside := 512 }] : List Health).all (fun h => !h.wf) = true ∧
    ([.adc 8 0 0 0, .adc 0 16 0 0, .enc 16 0 false, .cap 32 false 0, .gpio 64 false, .can 4 {}, .can 0 { dlc := 16 }, .tick 65536,
      .trip 48 false, .sto 12 false, .img 262144 0] : List MirItem).all (fun x => !x.wf) = true ∧
    Requester.wf (.core 8) = false := by decide +kernel

/-- The same parts in their ranges are well formed. -/
theorem test_wf_parts_accept :
    Pkt.wf {} = true ∧ gf.wf = true ∧ CanFrame.wf {} = true ∧ gh.wf = true ∧ MirItem.wf (.tick 65535) = true ∧
    Requester.wf (.core 7) = true := by decide +kernel

/-- Each of these commands has one operand out of its range, and is refused. -/
theorem test_wf_commands_refuse_0 :
    ([
      .serdesPllLock 3, .serdesPllUnlock 3, .registerWrite .debug (2 ^ 40) 4 0,
      .registerWrite (.core 8) 0x20000000 4 0, .registerWrite .debug 0x20000000 3 0, .blkCommitWrite 538116096 0,
      .blkCommitWrite 0x1FFFFFFF 0, .commitAbandon 538116096, .commitAbandon 0x1FFFFFFF,
      .pairLoRead .debug (2 ^ 40) 4, .pairLoRead (.core 8) 0x20000000 4, .pairLoRead .debug 0x20000000 3,
      .pairLoRead .debug 0x20000002 4, .pairHiRead .debug (2 ^ 40) 4, .pairHiRead (.core 8) 0x20000000 4,
      .pairHiRead .debug 0x20000000 3, .pairHiRead .debug 0x20000002 4, .pairLoWrite .debug (2 ^ 40) 0,
      .pairLoWrite (.core 8) 0x20000000 0, .pairLoWrite .debug 0x20000002 0, .pairHiWrite .debug (2 ^ 40) 0,
      .pairHiWrite (.core 8) 0x20000000 0, .pairHiWrite .debug 0x20000002 0, .qnsqTailWrite 4 0, .qncqHeadWrite 4 0,
      .qnctlWrite 4 0, .packetFetch 5 [] false, .packetFetch 0 [(4, [])] false, .replyPost 5 false,
      .queueCoalTimeout 4, .sysHealth { queue := 5 } gh, .sysHealth {} {}, .timeSourceLost 5, .cmpFire 32,
      .cmpnCtrlWrite 32 0, .capEdge 32 false 1, .capEdge 0 false 0, .ethFrameSent 2 false 0,
      .ethFrameRx 2 0 [] false 0, .ethFrameRx 0 16384 [] false 0, .ethMdioGo 2 0, .ethMdioDone 2 0,
      .ethMdioDone 0 65536, .adcResult 8 0, .adcResult 0 (2 ^ 20), .adcFifoRead 8, .adcArmWrite 8 0, .calGo 8,
      .adcCalDone 8 none, .slotSample 512 0
    ] : List Instr).all (fun i => !i.wf) = true := by decide +kernel

/-- Each of these commands has one operand out of its range, and is refused. -/
theorem test_wf_commands_refuse_1 :
    ([
      .fbTmoExpiry 512, .slotRequestTimeout 512 0, .slotReqOpen 512, .slotReqClose 512, .slotReqObserver 512,
      .slotReqSafe 512, .slotReqRelease 512, .injGo 4, .pwmBoundary 48, .pwmSamplePoint 48, .pwmEnWrite 48 false,
      .pwmStartWrite 2 0, .loadnow 48, .tripClr 48, .tripPinAssert 16 0, .tripPinDeassert 16 0, .coreDebugHalt 8,
      .coreDebugResume 8, .gpioSetWrite 2 0, .gpioClrWrite 2 0, .gpioInputChange 64 false 0, .outMismatch 64,
      .servoBoundary 1125899906842624, .axisReqPush 96, .axisReqStop 96, .axisReqQuickStop 96, .axisReqEnable 96,
      .axisReqDisable 96, .axisReqGear 96, .axisReqCam 96, .axisReqTrim 96, .encEdge 16 false false 1,
      .encEdge 0 false false 0, .encIndex 16 false 1, .encIndex 0 false 0, .ssiTransferDone 16 0 false,
      .encErrClr 16, .encErrHoldExpiry 16, .referenceFrameRx 2 [] 0, .segmentRx 2 0 0 0 [], .segmentRx 0 512 0 0 [],
      .segmentRx 0 0 4294967296 0 [], .segmentRx 0 0 0 65536 [], .frameForward 2 0 [] 0, .frameForward 0 65536 [] 0,
      .messageFrameTx 256, .messageFrameRx 2 0 [] 0, .messageFrameRx 0 65536 [] 0, .claimFrameRx 2 [], .ringLinkDown 2
    ] : List Instr).all (fun i => !i.wf) = true := by decide +kernel

/-- Each of these commands has one operand out of its range, and is refused. -/
theorem test_wf_commands_refuse_2 :
    ([
      .ringLinkUp 2 false, .turnBackStop 2, .nodeAbsent 128, .create 8 0, .signal 8 0 0, .wait 8 0 0 false false,
      .yield 8, .sleep 8 0 false, .exit 8, .schedDispRead 8, .schedPfRead 8, .schedEventLine 16, .schedTimeout 256,
      .schedSleepExpiry 256, .qmemUe 4294967296, .taskCommit 256 [] 0 0, .acqValue 8192 0, .acqValue 0 2,
      .bufferHandover 64, .canModeWrite 4 0, .canModeWrite 0 4, .canBusIdle 4, .canFrameRx 4 {},
      .canFrameRx 0 { dlc := 16 }, .canTxreqWrite 4 0 0, .canTxreqWrite 0 4 0, .canTxEnd 4 0 0 0 0 0 none,
      .canTxEnd 0 128 0 0 0 0 none, .canTxEnd 0 0 8 0 0 0 none, .canTxEnd 0 0 0 8 0 0 none,
      .canTxabortWrite 4 0 0 none, .canTxabortWrite 0 4 0 none, .recover 4, .canRecoveryDone 4, .canNewClear 4 0 0,
      .canNewClear 0 128 0, .sluiceCycle 65536 0 0, .sluiceCycle 0 4096 0, .sfWatchdog 16 0, .sfWatchdog 0 2,
      .spliceLinkChange 2 false, .spliceTimeFrame gf 0 4 [], .spliceTimeFrame { gf with link := 2 } 0 0 [],
      .signalFrameRx gf 8 0 0, .signalFrameRx { gf with link := 2 } 0 0 0, .spliceCommandRx { gf with link := 2 } [],
      .spliceReplyRx { gf with link := 2 } [] 0, .controlFrameRx { gf with link := 2 } {},
      .mCmdRx gf 4294967296 {} 0, .mCmdRx { gf with link := 2 } 0 {} 0
    ] : List Instr).all (fun i => !i.wf) = true := by decide +kernel

/-- Each of these commands has one operand out of its range, and is refused. -/
theorem test_wf_commands_refuse_3 :
    ([
      .mCmdRx gf 0 { queue := 5 } 0, .mInputRx gf 4294967296 (.tick 0), .mInputRx { gf with link := 2 } 0 (.tick 0),
      .mInputRx gf 0 (.tick 65536), .deltaRx { gf with link := 2 } {} false,
      .snapRx { gf with link := 2 } (.words 0 []) false, .seedRx { gf with link := 2 } (.slot 0 0 0 [] [] []),
      .hash (.core 8), .verify (.core 8), .attest (.core 8), .irqEdge 384 none, .irqClaim 9, .irqComplete 9 0,
      .irqPendWrite 12 0, .irqGroupTimeout 32, .wakeLatch 32, .evrecWrGo (.core 8) 0, .lifetimeSample {},
      .mramRefreshSlice 101 false none, .tkStuck 24, .hpPinChange 16 false, .hpDebounceExpiry 16,
      .hpPowerDelayExpiry 16, .joinFail 16, .canConfigTimeout 4, .acqTimeTrigger 4, .canBusError 4 0 .rec1,
      .canBusError 0 8 .rec1, .remoteFrameRx 4, .uncorrectableEccError 5, .firmwareFatal 65536, .msixUnmask 64
    ] : List Instr).all (fun i => !i.wf) = true := by decide +kernel

/-! ### States and packets for the tests -/

/-- A packet of queue 0 with opcode `o` and the parameter words `ws`. -/
def pk (o : Nat) (ws : List Nat) : Pkt :=
  { opcode := o, len := 4 * ws.length, params := ws.map (fun w => Word.of w) }

/-- The state after reset with the system PLL locked and some fields set. -/
def mk (l : List (Fld × Nat)) : State := ((F.SYS_CLK_STAT_PLL_LOCK, 1) :: l).foldl (fun (s : State) e => s.put e.1 e.2) State.reset

/-- A good frame on Splice link 0, from device 0 to device 0. -/
def fr : SplFrame := { link := 0, dst := 0, src := 0, schema := 0, mseq := 1, crcOk := true }

/-- A schedule of one node, this one, with a segment of two words and a message slot. -/
def sch : Sched :=
  { id := 7, cycleNs := 1000000, nseg := 1, nslot := 1, nnodes := 1, bightLen := 64, wdog := 2, nodes := [(0, 0, 0)],
    segs := [(2, 0, 0, 0, 0, 0)], slots := [(64, 0, 10000, 20000)] }

/-- The schedule `sch` is in force, the ring OPERATIONAL; further fields are set. -/
def ringed (l : List (Fld × Nat)) : State :=
  let s := mk ((F.RING_STAT_STATE, rsOPERATIONAL) :: l)
  { s with ring := { s.ring with inForce := true, banks := [(0, some sch)] } }

/-- Splice link 0 is up. -/
def splOn : State := mk [(sdsLock 0, 1), (splEn 0, 1), (splUpBit 0, 1)]

/-- Splice link 0 is up and is a mirror link, and the Lashing is in state `st`. -/
def mirOn (st : Nat) : State :=
  mk [(sdsLock 0, 1), (splEn 0, 1), (splUpBit 0, 1), (F.LASH_EN, 1), (F.LASH_MIRROR, 1), (F.SPLICE_BLK_STAT_LASH_STATE, st)]

/-- The checks of an ACQ_ARM with a buffer of 1 MiB, but for the size of the memory. -/
theorem arm_fits (b : Bool) (h : b = false) :
    firstFail [(outside ((pk opAcqArm [0, 20, 128, 1, 0]).w 0) 0xF6 || decide ((pk opAcqArm [0, 20, 128, 1, 0]).w 1 < 20) ||
        decide (31 < (pk opAcqArm [0, 20, 128, 1, 0]).w 1) || b ||
        decide (2 ^ (pk opAcqArm [0, 20, 128, 1, 0]).w 1 < (pk opAcqArm [0, 20, 128, 1, 0]).w 2 * 8192) ||
        decide ((pk opAcqArm [0, 20, 128, 1, 0]).w 3 = 0), stBAD_PARAM),
      ((mk [(F.ACQC_EN 0, 1)]).acqSt ≠ aqIDLE || !(List.range 256).any (fun c => (mk [(F.ACQC_EN 0, 1)]).on (F.ACQC_EN c)),
        stNOT_PERMITTED)] = none := by
  subst h
  decide +kernel

/-! ### Small steps -/

/-- The state after reset keeps the canonical form, and no word of bits spells a command. -/
theorem test_reset_canonical : State.reset.canonical = true := by decide +kernel
theorem test_no_word_spells_a_command : decodeTableWord 32 0x1234 = none := rfl

/-- CRC-32C of the nine characters 1 to 9 (its published check value). -/
theorem test_crc32c : crc32c [0x31, 0x32, 0x33, 0x34, 0x35, 0x36, 0x37, 0x38, 0x39] = 0xE3069283 := by decide +kernel

/-- R42, R54: any value but the key leaves the device running and sets CFG_REJECT. -/
theorem test_swrst_wrong_key : (match exec (.sysSwrstWrite 1) State.reset with
    | .next u => (u.sys.inReset, u.on (F.BLK_STICKY bSYS)) | _ => (true, false)) = (false, true) := by decide +kernel

/-- R24: a store of a core outside the map faults and one of the debug port does not. -/
theorem test_store_outside_map : (match exec (.registerWrite (.core 0) 0x30000000 4 1) State.reset with
    | .fault (.accessFault a) => a | _ => 0) = 0x30000000 := by decide +kernel
theorem test_debug_store_outside_map : (match exec (.registerWrite .debug 0x30000000 4 1) State.reset with
    | .next t => t == State.reset | _ => false) = true := by decide +kernel

/-- R9: a byte write to a register writes nothing. -/
theorem test_byte_write_to_register : (match exec (.registerWrite (.core 0) (bSYS + 0x70) 1 1) State.reset with
    | .next t => t == State.reset | _ => false) = true := by decide +kernel

/-- R36, R89: a tick is 2.5 ns once the PLL has locked. -/
theorem test_tick : (match step (mk [(F.SYS_CLK_STAT_PLL_LOCK, 1)]) with | .next t => (t.time.ns, t.time.frac, t.time.tick) | _ => (0, 0, 0)) =
    (2, 2 ^ 31, 1) := by decide +kernel

/-- R321: CREATE with an empty affinity is BAD_ARG, and with a good one the task is offered to core 2. -/
theorem test_create_bad : (match exec (.create 0 0x00000005) State.reset with | .next t => t.get (F.SCHEDC_STATUS 0) | _ => 0) =
    resBAD_ARG := by decide +kernel
theorem test_create_offers : (match exec (.create 0 0x00040305) State.reset with
    | .next t => (t.get (F.SCHEDC_STATUS 0), t.choice 2, (t.task 5).prio) | _ => (0, none, 0)) = (resOK, some 5, 3) := by decide +kernel

/-- R81: a packet of the right opcode and a wrong length is answered BAD_LENGTH and has no effect. -/
theorem test_bad_length : (match exec (.sysArm { pk opSysArm [0, 0] with queue := 4 }) State.reset with
    | .next t => ((t.q 4).held.map Reply.status, t.on F.SYS_ARM_OUTEN) | _ => ([], true)) = ([stBAD_LENGTH], false) := by decide +kernel

/-- R247: one quadrature edge with A leading counts up by one in x4 mode. -/
theorem test_encoder_counts : (match exec (.encEdge 0 true false 1) (mk [(F.ENC_EN 0, 1)]) with
    | .next t => t.geti64 (F.ENC_POS_LO 0) | _ => 0) = 1 := by decide +kernel

/-- R199: a trip keeps a generator from starting. -/
theorem test_tripped_generator_stays : (match exec (.pwmEnWrite 0 true) (mk [(F.PWM_STAT_TRIPPED 0, 1)]) with
    | .next t => t.genRuns 0 | _ => true) = false := by decide +kernel
theorem test_generator_starts : (match exec (.pwmEnWrite 0 true) State.reset with
    | .next t => t.genRuns 0 | _ => false) = true := by decide +kernel

/-- R142: round to nearest, ties to even. -/
theorem test_rne : (rne 5 1, rne 7 1, rne (-5) 1) = (2, 4, -2) := by decide +kernel

/-- R186: the sine table at its quarter points. -/
theorem test_sine : (sinTab 0, sinTab 1024, sinTab 3072) = (0, 2147483647, -2147483647) := by decide +kernel

/-- R36: no tick passes before the PLL has locked. -/
theorem test_no_tick_before_lock : (match step State.reset with | .next t => t.time.tick | _ => 1) = 0 := by decide +kernel

/-- R248: an edge that did not stay for FILT + 1 samples is not taken. -/
theorem test_encoder_filter : (match exec (.encEdge 0 true false 1) (mk [(F.ENC_EN 0, 1), (F.ENC_FILT 0, 1)]) with
    | .next t => t.geti64 (F.ENC_POS_LO 0) | _ => 1) = 0 := by decide +kernel

/-- R100: an edge that did not stay for FILTER + 1 samples captures nothing. -/
theorem test_capture_filter : (match exec (.capEdge 0 true 2) (mk [(F.CAP_CTRL_EN 0, 1), (F.CAP_CTRL_FILTER 0, 2)]) with
    | .next t => t == mk [(F.CAP_CTRL_EN 0, 1), (F.CAP_CTRL_FILTER 0, 2)] | _ => false) = true := by decide +kernel

/-- R9: a byte read of a register answers 0. -/
theorem test_byte_read_of_register : (match exec (.pairLoRead (.core 0) 0x20040110 1) State.reset with
    | .next t => t.answer | _ => 1) = 0 := by decide +kernel

/-- R480: in STANDBY a generator takes no boundary. -/
theorem test_standby_stops_boundary : (match exec (.pwmBoundary 0) (mk [(F.PWM_STAT_RUN 0, 1), (F.IRQ_BLK_STAT_POWER, 3)]) with
    | .next t => t == mk [(F.PWM_STAT_RUN 0, 1), (F.IRQ_BLK_STAT_POWER, 3)] | _ => false) = true := by decide +kernel

/-! ### Witnesses of the statements on properties -/

/-- Hypotheses of IdleStepIsATick. -/
theorem wit_IdleStepIsATick_0 : ∃ s : State, s.pending = [] ∧ s.sys.inReset = false ∧ s.on F.SYS_CLK_STAT_PLL_LOCK = true ∧
    s.get F.IRQ_BLK_STAT_POWER ≠ 3 := ⟨mk [], by decide +kernel⟩
theorem wit_IdleStepIsATick_0_standby : ∃ s : State, s.pending = [] ∧ s.sys.inReset = false ∧ s.on F.SYS_CLK_STAT_PLL_LOCK = true ∧
    s.get F.IRQ_BLK_STAT_POWER = 3 := ⟨mk [(F.IRQ_BLK_STAT_POWER, 3)], by decide +kernel⟩
theorem wit_IdleStepIsATick_1 : ∃ s : State, s.pending = [] ∧ s.sys.inReset = false ∧ s.on F.SYS_CLK_STAT_PLL_LOCK = false :=
  ⟨State.reset, rfl, rfl, by decide +kernel⟩
theorem wit_IdleStepIsATick_2 : ∃ s : State, s.pending = [] ∧ s.sys.inReset = true :=
  ⟨{ State.reset with sys := { State.reset.sys with inReset := true } }, rfl, rfl⟩

/-- Hypotheses of StepTakesOneCommand. -/
theorem wit_StepTakesOneCommand : ∃ (s t : State) (c : Instr) (rest : List Instr),
    s.canonical = true ∧ s.pending = c :: rest ∧ step s = .next t :=
  ⟨{ State.reset with pending := [.irqEdge 0 none, .xtalOk] }, _, .irqEdge 0 none, [.xtalOk], by decide +kernel, rfl, rfl⟩

/-- Hypotheses of StepKeepsStoreCanonical and of StepOnlyBurnsFuses: a command, and an idle step. -/
theorem wit_StepKeepsStoreCanonical : ∃ s t : State, s.canonical = true ∧ step s = .next t :=
  ⟨{ State.reset with pending := [.loadnow 3] }, _, by decide +kernel, rfl⟩
theorem wit_StepOnlyBurnsFuses : ∃ s t : State, s.canonical = true ∧ step s = .next t :=
  ⟨State.reset, _, by decide +kernel, rfl⟩

/-- Hypotheses of OnlyRefusedAccessesStop: an address outside the map. -/
theorem wit_OnlyRefusedAccessesStop_0 : ∃ (r : Requester) (a n : Nat) (s : State), s.accessFaults r a n = true :=
  ⟨.core 0, 0x30000000, 4, State.reset, by decide +kernel⟩
theorem wit_OnlyRefusedAccessesStop_1 : ∃ (r : Requester) (a : Nat) (s : State), s.accessFaults r a 4 = true :=
  ⟨.core 7, 0x1FFFFFFE, State.reset, by decide +kernel⟩

/-- After reset no packet of queue 0 waits. -/
theorem mustWait_reset (p : Pkt) (h : p.queue = 0) : State.reset.mustWait p = false := by
  have hc : ∀ b u, State.reset.pktPending b u = false := fun _ _ => rfl
  unfold State.mustWait State.commitWaits
  have hf : (State.reset.q 0).flight = [] := rfl
  simp [hc, h, hf]

/-- Hypotheses of PrecheckRefusesEveryPacket, for whichever opcode: a packet whose length is wrong, and one of another opcode. -/
theorem wit_PrecheckRefusesEveryPacket (o : Nat) : ∃ (p : Pkt) (s : State) (st : Nat), s.mustWait p = false ∧ s.precheck p o = some st :=
  ⟨{ opcode := o, len := 1 }, State.reset, stBAD_LENGTH, mustWait_reset _ rfl, by simp [State.precheck]⟩
theorem wit_PrecheckRefusesEveryPacket_opcode (o : Nat) : ∃ (p : Pkt) (s : State) (st : Nat), s.mustWait p = false ∧ s.precheck p o = some st :=
  ⟨{ opcode := o + 1 }, State.reset, stBAD_OPCODE, mustWait_reset _ rfl, by simp [State.precheck]⟩

/-- A packet with FENCE whose predecessor has not ended must wait. -/
theorem wit_PrecheckRefusesEveryPacket_wait : ∃ (p : Pkt) (s : State), s.mustWait p = true :=
  ⟨{ tag := 1, fence := true }, { State.reset with host := { State.reset.host with queues := [(0, { flight := [{ tag := 0 }, { tag := 1 }] })] } }, by decide +kernel⟩

/-- Hypotheses of RecoveryServesFiveOpcodes: a packet of another queue, one of another opcode, one that is served. -/
theorem wit_RecoveryServesFiveOpcodes_0 : ∃ (p : Pkt) (s : State), opLenOk p = true ∧ p.params.length * 4 = p.len ∧ (p.queue = 4 → p.len ≤ 1024) ∧
    (p.noReply && opFlagA p.opcode) = false ∧
    (p.queue < 4 && (p.signed || opFlagS p.opcode) && !(p.signed && s.sigOk p)) = false ∧ s.stage = STAGE_RECOVERY ∧
    p.queue ≠ 0 ∧ p.opcode = opSysInfo :=
  ⟨{ pk opSysInfo [] with queue := 1 }, mk [(F.SYS_BOOT_STAT_STAGE, STAGE_RECOVERY)], by decide +kernel⟩
theorem wit_RecoveryServesFiveOpcodes_1 : ∃ (p : Pkt) (s : State), opLenOk p = true ∧ p.params.length * 4 = p.len ∧ (p.queue = 4 → p.len ≤ 1024) ∧
    (p.noReply && opFlagA p.opcode) = false ∧
    (p.queue < 4 && (p.signed || opFlagS p.opcode) && !(p.signed && s.sigOk p)) = false ∧ s.stage = STAGE_RECOVERY ∧
    p.opcode ∉ [opSysInfo, opSysBootStatus, opSysReset, opSecCertRead, opSecImageWrite] :=
  ⟨pk opRecHead [], mk [(F.SYS_BOOT_STAT_STAGE, STAGE_RECOVERY)], by decide +kernel⟩
theorem wit_RecoveryServesFiveOpcodes_2 : ∃ (p : Pkt) (s : State), opLenOk p = true ∧ p.params.length * 4 = p.len ∧ (p.queue = 4 → p.len ≤ 1024) ∧
    (p.noReply && opFlagA p.opcode) = false ∧
    (p.queue < 4 && (p.signed || opFlagS p.opcode) && !(p.signed && s.sigOk p)) = false ∧ s.stage = STAGE_RECOVERY ∧
    p.queue = 0 ∧ p.mir = false ∧ p.opcode ∈ [opSysInfo, opSysBootStatus, opSecCertRead] :=
  ⟨pk opSysInfo [], mk [(F.SYS_BOOT_STAT_STAGE, STAGE_RECOVERY)], by decide +kernel⟩

/-- A commit of generator 47 is pending. -/
def pend47 : State := { State.reset with commits := [{ base := bPWM, unit := 47, since := 0 }] }

/-- Hypotheses of PendingCommitRefusesStaging: the key, a staged register of the last generator, a core's write to one. -/
theorem wit_PendingCommitRefusesStaging_0 : ∃ (b : Nat) (s : State),
    b ∈ [bADC, bPWM, bLOOP, bMOTION, bRING] ∧ s.canonical = true ∧ s.cmtPending b = true := ⟨bPWM, pend47, by decide +kernel⟩
theorem wit_PendingCommitRefusesStaging_1 : ∃ (b u a : Nat) (r : RegRow) (l : List Nat) (s : State),
    b ∈ [bADC, bPWM, bLOOP, bMOTION, bRING] ∧ b + 0x80 ≤ a ∧ a < b + 0xF800 ∧ regAt a = some (r, l) ∧ r.fields ≠ [] ∧
    r.fields.all isStg = true ∧ s.canonical = true ∧ s.commitPending b u = true :=
  ⟨bPWM, 47, bPWM + 0x100 + 0x20 * 47 + 16, ((regAt (bPWM + 0x100 + 0x20 * 47 + 16)).getD ({ off := 0, dims := [], fields := [] }, [])).1,
    ((regAt (bPWM + 0x100 + 0x20 * 47 + 16)).getD ({ off := 0, dims := [], fields := [] }, [])).2, pend47, by decide +kernel⟩
theorem wit_PendingCommitRefusesStaging_2 : ∃ (n k o : Nat) (s : State),
    n < 48 ∧ k < 5 ∧ (o = 0x100 ∨ o = 0x900) ∧ s.canonical = true ∧ s.commitPending bPWM n = true := ⟨47, 4, 0x900, pend47, by decide +kernel⟩

/-- Two sources are pending at target 0, both deliverable, 200 with the higher priority. -/
def two : State :=
  ((mk [(F.IRQS_EN 100, 1), (F.IRQS_PRIO 100, 3), (F.IRQS_EN 200, 1), (F.IRQS_PRIO 200, 5)]).setPend 100 true).setPend 200 true

/-- Hypotheses of ClaimTakesTheBestSource: nothing pending; the best of two; one source, two targets. -/
theorem wit_ClaimTakesTheBestSource_0 : ∃ (t : Nat) (s : State), t < 8 ∧ s.canonical = true ∧ ∀ n < 384, s.deliverable t n = false :=
  ⟨7, State.reset, by decide, by decide +kernel, by decide +kernel⟩
theorem wit_ClaimTakesTheBestSource_1 : ∃ (t n : Nat) (s : State), t < 8 ∧ n < 384 ∧ s.canonical = true ∧ s.deliverable t n = true ∧
    ∀ m < 384, s.deliverable t m = true →
      s.get (F.IRQS_PRIO m) < s.get (F.IRQS_PRIO n) ∨ (s.get (F.IRQS_PRIO m) = s.get (F.IRQS_PRIO n) ∧ n ≤ m) :=
  ⟨0, 200, two, by decide, by decide, by decide +kernel, by decide +kernel, by decide +kernel⟩
theorem wit_ClaimTakesTheBestSource_2 : ∃ (t t' n : Nat) (s : State), s.deliverable t n = true ∧ s.deliverable t' n = true :=
  ⟨0, 0, 100, two, by decide +kernel⟩

/-- The claim takes source 200 and leaves 100 pending. -/
theorem test_claim_best : (match exec (.irqClaim 0) two with | .next u => (u.answer % 512, u.irqPend 100, u.irqPend 200) | _ => (0, false, true)) =
    (200, true, false) := by decide +kernel

/-- Hypotheses of StuckKeyIsReleased, at the last key. -/
theorem wit_StuckKeyIsReleased_0 : ∃ (n : Nat) (s : State), n < 24 ∧ s.canonical = true ∧ s.runs = true ∧ s.on (F.TK_EN n) = true ∧
    s.pressed n = true ∧ s.get (F.TK_STUCK n) ≠ 0 ∧ s.irqPend (266 + n) = false :=
  ⟨23, mk [(F.TK_EN 23, 1), (F.OPIO_PRESSED, 2 ^ 23), (F.TK_STUCK 23, 1)], by decide +kernel⟩
theorem wit_StuckKeyIsReleased_1 : ∃ (n : Nat) (s : State), s.get (F.TK_STUCK n) = 0 := ⟨0, mk [(F.TK_STUCK 0, 0)], by decide +kernel⟩

/-- Hypotheses of StandbyStopsUnits. -/
theorem wit_StandbyStopsUnits : ∃ s : State, s.get F.IRQ_BLK_STAT_POWER = 3 := ⟨mk [(F.IRQ_BLK_STAT_POWER, 3)], by decide +kernel⟩

/-- Hypotheses of ResetKeepsWhatSurvives, with its conditions on the kind. -/
theorem wit_ResetKeepsWhatSurvives : ∃ (k : ResetKind) (s : State), s.canonical = true ∧ k ≠ .por ∧ k ≠ .wdog ∧ s.sec.writes = [] :=
  ⟨.pin, State.reset, by decide +kernel⟩

/-- Hypotheses of HostLossLeavesThePress. -/
theorem wit_HostLossLeavesThePress : ∃ (c : Instr) (s : State),
    (c = .pcieLinkDown ∧ s.host.linkUp = true ∨ c = .functionLevelReset ∨ c = .d3hotEntry) ∧ s.canonical = true :=
  ⟨.pcieLinkDown, { State.reset with host := { State.reset.host with linkUp := true } }, Or.inl ⟨rfl, rfl⟩, by decide +kernel⟩

/-- Hypotheses of SchedulerCommandsStayInSched, ReadOpcodesOnlyAnswer, OperatorInputsNeverReachSluice. -/
theorem wit_SchedulerCommandsStayInSched : ∃ (k : Nat) (a : Word) (c : Instr), c ∈ [Instr.create k a, .yield k] := ⟨7, 0, .yield 7, by simp⟩
theorem wit_SchedulerCommandsStayInSched_1 : ∃ (t : Nat) (c : Instr), c ∈ [Instr.schedTimeout t, .schedSleepExpiry t] := ⟨255, .schedTimeout 255, by simp⟩
theorem wit_ReadOpcodesOnlyAnswer : ∃ (p : Pkt) (c : Instr), p.noReply = false ∧ State.reset.canonical = true ∧ c ∈ [Instr.sysInfo p, .secCertRead p] :=
  ⟨pk opSecCertRead [0, 0], .secCertRead (pk opSecCertRead [0, 0]), rfl, by decide +kernel, by simp⟩
theorem wit_OperatorInputsNeverReachSluice : ∃ (n : Nat) (s t : State) (c : Instr),
    c ∈ [Instr.tkStuck n, .joinFail n] ∧ exec c s = .next t := ⟨23, State.reset, _, .tkStuck 23, by simp, rfl⟩

/-- Conditions of the three cases of REFERENCE_FRAME_RX in RingCycleCommandsComplete. -/
theorem wit_RingCycleCommandsComplete_4_own : ∃ (f : List Nat) (s : State), s.timeMaster = true ∧ iw f 6 + 2 ^ 32 * iw f 7 = s.otp.uid :=
  ⟨List.replicate 16 0, ringed [(F.RING_STAT_ROLE, 1)], by decide +kernel⟩
theorem wit_RingCycleCommandsComplete_4_other : ∃ (f : List Nat) (s : State), s.timeMaster = true ∧ iw f 6 + 2 ^ 32 * iw f 7 ≠ s.otp.uid :=
  ⟨List.replicate 16 1, ringed [(F.RING_STAT_ROLE, 1)], by decide +kernel⟩
theorem wit_RingCycleCommandsComplete_4_station : ∃ (f : List Nat) (port stamp : Nat) (s : State), s.timeMaster = false ∧
    s.ringSt ≠ rsDOWN ∧ s.guardian port f 64 stamp = none :=
  ⟨List.replicate 16 0, 0, 0, mk [(F.RING_STAT_STATE, rsCLAIM)], by decide +kernel⟩

/-- A packet that would stage a unit for which another packet's commit waits must wait. -/
theorem wit_PrecheckRefusesEveryPacket_commit : ∃ (p : Pkt) (s : State), s.mustWait p = true :=
  ⟨pk opAdcSequence [0, 1], { State.reset with commits := [{ base := bADC, unit := 0, since := 0, pkt := some {} }] }, by decide +kernel⟩

/-- The second case of StuckKeyIsReleased where the unit does not run. -/
theorem wit_StuckKeyIsReleased_2 : ∃ s : State, s.runs = false := ⟨mk [(F.IRQ_BLK_STAT_POWER, 3)], by decide +kernel⟩
theorem wit_RingCycleCommandsComplete_4_cut : ∃ (f : List Nat) (port stamp : Nat) (s : State), s.timeMaster = false ∧
    s.ringSt ≠ rsDOWN ∧ (s.guardian port f 64 stamp).isSome = true :=
  ⟨0x400001 :: List.replicate 15 0, 0, 1000000000, ringed [], by decide +kernel⟩

/-! ### Witnesses of the statements on completion -/

/-- A safety configuration without inputs, channels or connections in use, and a CONFIG_COMMIT of it. -/
def stg : List Nat := [0x10000, 0, 0, 1] ++ List.replicate 73 0 ++ [0x5e0ea514]
def stgReq : List Nat := [0x2000000, 0x5e0ea514, 0x0, 0x0, 0x0, 0x0, 0x0, 0x9cecf4d6]

/-- The CRC of that configuration, in parts: its first words, then the bytes that are 0. -/
theorem crc_head : ([0x10000, 0, 0, 1].flatMap wordBytes).foldl crc32cByte 0xFFFFFFFF = 0x34cd9aeb := by decide +kernel
theorem crc_zeros_1 : (List.replicate 73 0).foldl crc32cByte 0x34cd9aeb = 0xb9dffabe := by decide +kernel
theorem crc_zeros_2 : (List.replicate 73 0).foldl crc32cByte 0xb9dffabe = 0xdee87aec := by decide +kernel
theorem crc_zeros_3 : (List.replicate 73 0).foldl crc32cByte 0xdee87aec = 0x20fb51a4 := by decide +kernel
theorem crc_zeros_4 : (List.replicate 73 0).foldl crc32cByte 0x20fb51a4 = 0xa1f15aeb := by decide +kernel

/-- A list in five parts, one after the other. -/
theorem crc_parts (l1 l2 l3 l4 l5 : List Nat) (c0 c1 c2 c3 c4 c5 : Nat) (a1 : l1.foldl crc32cByte c0 = c1)
    (a2 : l2.foldl crc32cByte c1 = c2) (a3 : l3.foldl crc32cByte c2 = c3) (a4 : l4.foldl crc32cByte c3 = c4)
    (a5 : l5.foldl crc32cByte c4 = c5) : (l1 ++ (l2 ++ (l3 ++ (l4 ++ l5)))).foldl crc32cByte c0 = c5 := by
  rw [List.foldl_append, a1, List.foldl_append, a2, List.foldl_append, a3, List.foldl_append, a4, a5]

theorem crc_of (l bs : List Nat) (c : Nat) (h : l.flatMap wordBytes = bs) (hc : bs.foldl crc32cByte 0xFFFFFFFF = c) :
    crc32cWords l = Nat.xor c 0xFFFFFFFF := by
  subst h
  subst hc
  rfl

theorem stg_bytes : (stg.take 77).flatMap wordBytes = [0x10000, 0, 0, 1].flatMap wordBytes ++ (List.replicate 73 0 ++
    (List.replicate 73 0 ++ (List.replicate 73 0 ++ List.replicate 73 0))) := by decide +kernel

theorem crc_stg : crc32cWords (stg.take 77) = 0x5e0ea514 :=
  (crc_of _ _ _ stg_bytes (crc_parts _ _ _ _ _ _ _ _ _ _ _ crc_head crc_zeros_1 crc_zeros_2 crc_zeros_3 crc_zeros_4)).trans
    (by decide)

theorem stg_good : safetyBad stg 0x5e0ea514 = false := by
  unfold safetyBad
  rw [crc_stg]
  decide +kernel

theorem commit_param (s : State) (arg : Nat) (ws : List Nat) : s.rqParamBad 2 arg ws = safetyBad s.stagingWords (iw ws 1) := rfl

/-- The request to commit it is accepted in SAFE. -/
theorem stg_ok : State.rqCheck { mk [(F.STO_BLK_STAT_STATE, suSAFE)] with sto := { State.reset.sto with
    req := some (stgReq, none), staging := stg } } stgReq = rqOK := by
  have h : State.stagingWords { mk [(F.STO_BLK_STAT_STATE, suSAFE)] with sto := { State.reset.sto with
    req := some (stgReq, none), staging := stg } } = stg := by decide +kernel
  have hc : bits (iw stgReq 0) 31 24 = 2 := by decide
  have hx : iw stgReq 1 = 0x5e0ea514 := by decide
  unfold State.rqCheck
  rw [if_neg (by decide +kernel), if_neg (by decide +kernel), if_neg (by decide +kernel)]
  rw [if_neg]
  rw [hc, commit_param, h, hx, stg_good]
  decide

theorem wit_ResetCommandsComplete_0 : ∃ (lowNs : Nat) (s : State),
    (1000 ≤ lowNs) :=
  ⟨1000, mk [], by decide +kernel⟩

theorem wit_ResetCommandsComplete_1 : ∃ (lowNs : Nat) (s : State),
    (1000 ≤ lowNs) :=
  ⟨1000, mk [], by decide +kernel⟩

theorem wit_ResetCommandsComplete_3 : ∃ (s : State),
    (¬(s.get F.SEC_BLK_STAT_DBG_LEVEL = 0)) :=
  ⟨mk [(F.SEC_BLK_STAT_DBG_LEVEL, 1)], by decide +kernel⟩

theorem wit_ResetCommandsComplete_4 : ∃ (bootIf pcieRefsel : Bool) (s : State),
    (¬(!s.sys.inReset || s.sys.pllLossPending || s.sys.xtalGone)) :=
  ⟨false, false, { mk [] with sys := { State.reset.sys with inReset := true } }, by decide +kernel⟩

theorem wit_ResetCommandsComplete_5 : ∃ (s : State),
    ((s.sys.pllLossPending)) :=
  ⟨{ mk [] with sys := { State.reset.sys with pllLossPending := true } }, by decide +kernel⟩

theorem wit_ResetCommandsComplete_6 : ∃ (s : State),
    ((s.wdogRuns)) :=
  ⟨mk [(F.SYS_WDOG_CTRL_EN, 1)], by decide +kernel⟩

theorem wit_ResetCommandsComplete_8 : ∃ (v : Word) (s : State),
    (v ≠ 0x00003C96) :=
  ⟨0, mk [], by decide +kernel⟩

theorem wit_ResetCommandsComplete_9 : ∃ (s : State),
    ((s.sys.swResetPending)) :=
  ⟨{ mk [] with sys := { State.reset.sys with swResetPending := true } }, by decide +kernel⟩

theorem wit_ResetCommandsComplete_11 : ∃ (mem : Nat) (s : State),
    (mem ≠ 3) ∧ (mem ≤ 4) :=
  ⟨0, mk [], by decide +kernel⟩

theorem wit_ClockBootAndWatchdogComplete_1 : ∃ (s : State),
    (¬(s.sys.inReset || !s.on F.SYS_CLK_STAT_XTAL_OK || s.on F.SYS_CLK_STAT_PLL_LOCK)) :=
  ⟨State.reset.put F.SYS_CLK_STAT_XTAL_OK 1, by decide +kernel⟩

theorem wit_ClockBootAndWatchdogComplete_2 : ∃ (pll : Nat) (s : State),
    (¬(s.sys.inReset || !s.sdsEnabled pll)) :=
  ⟨0, mk [(splEn 0, 1)], by decide +kernel⟩

theorem wit_ClockBootAndWatchdogComplete_3 : ∃ (pll : Nat) (s : State),
    (¬(3 ≤ pll || !s.on (sdsLock pll))) :=
  ⟨0, mk [(sdsLock 0, 1)], by decide +kernel⟩

theorem wit_ClockBootAndWatchdogComplete_5 : ∃ (s : State),
    (¬(s.sys.inReset)) :=
  ⟨mk [], by decide +kernel⟩

theorem wit_ClockBootAndWatchdogComplete_6 : ∃ (r : BootChain) (s : State),
    (¬(s.stage ≠ STAGE_ROM || s.sys.bootHalted)) :=
  ⟨.flashRead, mk [(F.SYS_BOOT_STAT_STAGE, 1)], by decide +kernel⟩

theorem wit_ClockBootAndWatchdogComplete_7 : ∃ (ok : Bool) (s : State),
    (¬(s.stage ≠ STAGE_DRAM_TRAIN || s.sys.bootHalted)) :=
  ⟨false, mk [(F.SYS_BOOT_STAT_STAGE, 2)], by decide +kernel⟩

theorem wit_ClockBootAndWatchdogComplete_8 : ∃ (s : State),
    (¬(s.stage ≠ STAGE_FW_INIT)) :=
  ⟨mk [(F.SYS_BOOT_STAT_STAGE, 3)], by decide +kernel⟩

theorem wit_ClockBootAndWatchdogComplete_9 : ∃ (s : State),
    (¬(s.stage ≠ STAGE_RING_JOIN)) :=
  ⟨mk [(F.SYS_BOOT_STAT_STAGE, 6)], by decide +kernel⟩

theorem wit_ClockBootAndWatchdogComplete_11 : ∃ (v : Word) (s : State),
    (v ≠ 0x0000C35A) :=
  ⟨0, mk [], by decide +kernel⟩

theorem wit_ClockBootAndWatchdogComplete_12 : ∃ (v : Word) (s : State),
    (s.on F.SYS_WDOG_CTRL_EN = false) :=
  ⟨0, mk [], by decide +kernel⟩

theorem wit_ClockBootAndWatchdogComplete_13 : ∃ (v : Word) (s : State),
    (s.on F.SYS_WDOG_CTRL_EN = true) :=
  ⟨0, mk [(F.SYS_WDOG_CTRL_EN, 1)], by decide +kernel⟩

theorem wit_ClockBootAndWatchdogComplete_14 : ∃ (s : State),
    ((s.wdogRuns)) :=
  ⟨mk [(F.SYS_WDOG_CTRL_EN, 1)], by decide +kernel⟩

theorem wit_ClockBootAndWatchdogComplete_15 : ∃ (v : Word) (s : State),
    (bitOf v.toNat 0 = true) :=
  ⟨1, mk [], by decide +kernel⟩

theorem wit_RegisterAccessComplete_0 : ∃ (r : Requester) (addr size : Nat) (v : Word) (s : State),
    (s.accessFaults r addr size = false) :=
  ⟨.core 0, 0x20000000, 4, 0, mk [], by decide +kernel⟩

theorem wit_RegisterAccessComplete_1 : ∃ (base : Nat) (v : Word) (s : State),
    (v.toNat = 0xA5) ∧ (s.cmtPending base = false) :=
  ⟨bPWM, 0xA5, mk [], by decide +kernel⟩

theorem wit_RegisterAccessComplete_3 : ∃ (r : Requester) (addr : Nat) (s : State),
    (s.accessFaults r addr 4 = false) ∧ (s.regionAt r addr = 4) ∧ (isPair addr = true) :=
  ⟨.core 0, 0x20040100, mk [], by decide +kernel⟩

theorem wit_RegisterAccessComplete_4 : ∃ (r : Requester) (addr size : Nat) (s : State),
    (s.accessFaults r addr size = false) ∧ (s.regionAt r addr ≠ 4 ∨ size ≠ 4 ∨ isPair addr = false) :=
  ⟨.core 0, 0x20040104, 2, mk [], by decide +kernel⟩

theorem wit_RegisterAccessComplete_5 : ∃ (r : Requester) (addr : Nat) (s : State),
    (s.accessFaults r addr 4 = false) ∧ (s.regionAt r addr = 4) ∧ (isPair (addr - 4) = true) :=
  ⟨.core 0, 0x20040104, mk [], by decide +kernel⟩

theorem wit_RegisterAccessComplete_6 : ∃ (r : Requester) (addr size : Nat) (s : State),
    (s.accessFaults r addr size = false) ∧ (s.regionAt r addr ≠ 4 ∨ size ≠ 4 ∨ isPair (addr - 4) = false) :=
  ⟨.core 0, 0x20040120, 4, mk [], by decide +kernel⟩

theorem wit_RegisterAccessComplete_7 : ∃ (r : Requester) (addr : Nat) (v : Word) (s : State),
    (s.accessFaults r addr 4 = false) :=
  ⟨.core 0, 0x20040120, 0, mk [], by decide +kernel⟩

theorem wit_RegisterAccessComplete_8 : ∃ (r : Requester) (addr : Nat) (v : Word) (s : State),
    (s.accessFaults r addr 4 = false) :=
  ⟨.core 0, 0x20040124, 0, mk [], by decide +kernel⟩

theorem wit_HostQueueCommandsComplete_0 : ∃ (n : Nat) (v : Word) (s : State),
    (¬(4 ≤ n)) :=
  ⟨0, 0, mk [], by decide +kernel⟩

theorem wit_HostQueueCommandsComplete_1 : ∃ (n : Nat) (v : Word) (s : State),
    let size := s.cqSize n
    let u := (bits v.toNat 14 0 + size - s.get (F.Q_CQ_HEAD_HEAD n) % size) % size
    let q := s.q n
    ((n < 4)) :=
  ⟨0, 0, mk [], by decide +kernel⟩

theorem wit_HostQueueCommandsComplete_2 : ∃ (n : Nat) (v : Word) (s : State),
    (n < 4) ∧ (bitOf v.toNat 0 = true) ∧ (s.get (F.Q_STAT_STATE n) = 0) :=
  ⟨0, 1, mk [], by decide +kernel⟩

theorem wit_HostQueueCommandsComplete_3 : ∃ (n : Nat) (v : Word) (s : State),
    (n < 4) ∧ (bitOf v.toNat 0 = false) ∧ (s.get (F.Q_STAT_STATE n) = 1 ∨ s.get (F.Q_STAT_STATE n) = 3) :=
  ⟨0, 0, mk [(F.Q_STAT_STATE 0, 1)], by decide +kernel⟩

theorem wit_HostQueueCommandsComplete_4 : ∃ (n : Nat) (mem : List (Nat × List Word)) (s : State),
    (n < 4) ∧ (s.packetWaits mem n = true) ∧ (s.outranked mem n = false) :=
  ⟨0, [(0, [0, 0, 0, 0])], mk [(F.STAT_BOOT_READY, 1), (F.Q_SIZE_SQ_LOG 0, 4), (F.Q_SQ_TAIL_TAIL 0, 1), (F.Q_STAT_STATE 0, 1)], by decide +kernel⟩

theorem wit_HostQueueCommandsComplete_5 : ∃ (mem : List (Nat × List Word)) (d : Bool) (s : State),
    (s.packetWaits mem 4 = true) ∧ (s.outranked mem 4 = false) :=
  ⟨[], false, { mk [(F.STAT_BOOT_READY, 1)] with host := { State.reset.host with q4wait := [{ queue := 4 }] } }, by decide +kernel⟩

theorem wit_HostQueueCommandsComplete_6 : ∃ (n : Nat) (mem : List (Nat × List Word)) (s : State),
    (n < 4) ∧ (s.get (F.Q_STAT_STATE n) = 1) :=
  ⟨0, [], mk [(F.Q_STAT_STATE 0, 1)], by decide +kernel⟩

theorem wit_HostQueueCommandsComplete_7 : ∃ (p : Pkt) (s : State),
    (s.sec.sigWait.find? (fun q => !s.mustWait q) = some p) :=
  ⟨{}, { mk [] with sec := { State.reset.sec with sigWait := [{}] } }, by decide +kernel⟩

theorem wit_HostQueueCommandsComplete_9 : ∃ (n : Nat) (s : State),
    (n ≠ 4) ∧ (s.get (F.Q_STAT_STATE n) ≠ 0) :=
  ⟨0, mk [(F.Q_STAT_STATE 0, 1)], by decide +kernel⟩

theorem wit_HostQueueCommandsComplete_10 : ∃ (n : Nat) (s : State),
    (n ≠ 4) ∧ (s.get (F.Q_STAT_STATE n) = 1) :=
  ⟨0, mk [(F.Q_STAT_STATE 0, 1)], by decide +kernel⟩

theorem wit_HostQueueCommandsComplete_11 : ∃ (n : Nat) (s : State),
    (¬(s.get (F.Q_COAL_TIME n) = 0 ∨ (s.q n).unsignalled = 0)) :=
  ⟨0, { mk [(F.Q_COAL_TIME 0, 1)] with host := { State.reset.host with queues := [(0, { unsignalled := 1 })] } }, by decide +kernel⟩

theorem wit_HostLinkCommandsComplete_0 : ∃ (s : State),
    (s.host.linkUp = true) :=
  ⟨{ mk [] with host := { State.reset.host with linkUp := true } }, by decide +kernel⟩

theorem wit_HostLinkCommandsComplete_3 : ∃ (s : State),
    ((s.on F.STAT_BOOT_READY)) :=
  ⟨mk [(F.STAT_BOOT_READY, 1)], by decide +kernel⟩

theorem wit_HostLinkCommandsComplete_4 : ∃ (code : Nat) (s : State),
    (¬(s.on F.STAT_BOOT_FATAL)) :=
  ⟨0, mk [], by decide +kernel⟩

theorem wit_HostLinkCommandsComplete_5 : ∃ (s : State),
    (¬(s.sys.inReset || !s.on F.SYS_CLK_STAT_SDS_PCIE_LOCK || s.host.linkUp)) :=
  ⟨mk [(F.SYS_CLK_STAT_SDS_PCIE_LOCK, 1)], by decide +kernel⟩

theorem wit_SystemPacketsComplete_0 : ∃ (p : Pkt) (s : State),
    (s.accepts p opSysNop []) :=
  ⟨pk opSysNop [], mk [], by decide +kernel⟩

theorem wit_SystemPacketsComplete_1 : ∃ (p : Pkt) (s : State),
    (s.accepts p opSysInfo []) :=
  ⟨pk opSysInfo [], mk [], by decide +kernel⟩

theorem wit_SystemPacketsComplete_2 : ∃ (p : Pkt) (s : State),
    (s.accepts p opSysReset [(p.w 0 ≠ 0x3C96, stBAD_PARAM)]) :=
  ⟨pk opSysReset [15510], mk [], by decide +kernel⟩

theorem wit_SystemPacketsComplete_3 : ∃ (p : Pkt) (s : State),
    (s.accepts p opSysArm []) ∧ (s.fwRun = true) :=
  ⟨pk opSysArm [], mk [(F.SYS_BOOT_STAT_STAGE, 7)], by decide +kernel⟩

theorem wit_SystemPacketsComplete_4 : ∃ (p : Pkt) (s : State),
    (s.accepts p opSysBootStatus []) :=
  ⟨pk opSysBootStatus [], mk [], by decide +kernel⟩

theorem wit_SystemPacketsComplete_5 : ∃ (p : Pkt) (s : State),
    (s.accepts p opSysPowerState [(2 < p.w 0, stBAD_PARAM)]) ∧ (p.w 0 ≠ 2) :=
  ⟨pk opSysPowerState [0], mk [], by decide +kernel⟩

theorem wit_SystemPacketsComplete_6 : ∃ (p : Pkt) (s : State),
    (s.accepts p opSysPowerState [(2 < p.w 0, stBAD_PARAM)]) ∧ (p.w 0 = 2) ∧ (s.standbyDenied = 0) ∧ (s.standbyRefuse = 0) :=
  ⟨pk opSysPowerState [2], mk [], by decide +kernel⟩

theorem wit_SystemPacketsComplete_7 : ∃ (p : Pkt) (s : State),
    (s.accepts p opSysWakeConfig [(s.get F.IRQ_BLK_STAT_POWER = 2, stBUSY)]) :=
  ⟨pk opSysWakeConfig [0, 0, 0], mk [], by decide +kernel⟩

theorem wit_SystemPacketsComplete_8 : ∃ (p : Pkt) (s : State),
    (s.accepts p opSysRemotePermit [(p.queue = 4, stNOT_PERMITTED),
     (bitOf (p.w 0) 0 || bitOf (p.w 0) 14 || bitOf (p.w 0) 15 || bits (p.w 0) 31 16 ≠ 0, stBAD_PARAM)]) :=
  ⟨pk opSysRemotePermit [0], mk [], by decide +kernel⟩

theorem wit_SystemPacketsComplete_9 : ∃ (p : Pkt) (h : Health) (s : State),
    (s.accepts p opSysHealth [(p.w 0 ≥ 2, stBAD_PARAM)]) :=
  ⟨pk opSysHealth [0], {}, mk [], by decide +kernel⟩

theorem wit_TimeEventsComplete_2 : ∃ (src : Nat) (s : State),
    (1 ≤ src) ∧ (src ≤ 4) :=
  ⟨1, mk [], by decide +kernel⟩

theorem wit_TimeEventsComplete_3 : ∃ (s : State),
    let fb := s.get F.TIME_SRC_FALLBACK
    (¬(s.timeSt ≠ tmHOLDOVER)) :=
  ⟨mk [(F.TIME_BLK_STAT_STATE, tmHOLDOVER)], by decide +kernel⟩

theorem wit_TimeEventsComplete_4 : ∃ (n : Nat) (s : State),
    ((s.clocked && decide (n < 32) && s.on (F.CMP_CTRL_EN n) && (s.on (F.CMP_CTRL_PERIODIC n) || !bitOf s.time.fired n))) :=
  ⟨0, mk [(F.CMP_CTRL_EN 0, 1)], by decide +kernel⟩

theorem wit_TimeEventsComplete_5 : ∃ (n : Nat) (v : Word) (s : State),
    ((n < 32)) :=
  ⟨0, 0, mk [], by decide +kernel⟩

theorem wit_TimeEventsComplete_6 : ∃ (n : Nat) (rising : Bool) (samples : Nat) (s : State),
    ((n < 32 && !s.mirCap n && s.on (F.CAP_CTRL_EN n) && decide (s.get (F.CAP_CTRL_FILTER n) < samples) &&
      edgeOk (s.get (F.CAP_CTRL_EDGE n)) rising)) :=
  ⟨0, true, 1, mk [(F.CAP_CTRL_EN 0, 1)], by decide +kernel⟩

theorem wit_TimePacketsAndEthernetComplete_0 : ∃ (p : Pkt) (s : State),
    (s.accepts p opTimeConfig [(timeConfigBad p, stBAD_PARAM), (isPtp (bits (p.w 0) 2 0) && s.ringRuns && !s.timeMaster, stNOT_PERMITTED)]) :=
  ⟨pk opTimeConfig (List.replicate 14 0), mk [], by decide +kernel⟩

theorem wit_TimePacketsAndEthernetComplete_1 : ∃ (p : Pkt) (ports : Nat) (s : State),
    (s.accepts p opTimeRead []) :=
  ⟨pk opTimeRead [], 0, mk [], by decide +kernel⟩

theorem wit_TimePacketsAndEthernetComplete_2 : ∃ (port : Nat) (ok : Bool) (stamp : Nat) (s : State),
    (s.runs = true) ∧ ((port < 2 && s.on F.SYS_ARM_OUTEN && s.on (F.ETH_CTRL_EN port) &&
      decide (s.get (F.ETH_TX_IDX_HEAD port) ≠ s.get (F.ETH_TX_IDX_TAIL port)))) :=
  ⟨0, false, 0, mk [(F.ETH_CTRL_EN 0, 1), (F.ETH_TX_IDX_HEAD 0, 1), (F.SYS_ARM_OUTEN, 1)], by decide +kernel⟩

theorem wit_TimePacketsAndEthernetComplete_3 : ∃ (port len : Nat) (data : List Word) (bad : Bool) (stamp : Nat) (s : State),
    (s.runs = true) ∧ ((port < 2 && s.on F.SYS_ARM_OUTEN && s.on (F.ETH_CTRL_EN port) && s.ethTakes port data)) :=
  ⟨0, 0, [], false, 0, mk [(F.ETH_CTRL_EN 0, 1), (F.ETH_CTRL_PROMISC 0, 1), (F.SYS_ARM_OUTEN, 1)], by decide +kernel⟩

theorem wit_TimePacketsAndEthernetComplete_4 : ∃ (port : Nat) (v : Word) (s : State),
    ((port < 2)) :=
  ⟨0, 0, mk [], by decide +kernel⟩

theorem wit_TimePacketsAndEthernetComplete_5 : ∃ (port data : Nat) (s : State),
    (s.runs = true) ∧ ((port < 2 && s.on (F.ETH_MDIO_GO port))) :=
  ⟨0, 0, mk [(F.ETH_MDIO_GO 0, 1)], by decide +kernel⟩

theorem wit_AdcEventsComplete_1 : ∃ (c raw : Nat) (s : State),
    (s.runs = true) ∧ ((decide (c < 8) && (s.core c).running)) :=
  ⟨0, 0, { mk [] with adc := { State.reset.adc with cores := [(0, { running := true })] } }, by decide +kernel⟩

theorem wit_AdcEventsComplete_2 : ∃ (c : Nat) (s : State),
    ((c < 8)) :=
  ⟨0, mk [], by decide +kernel⟩

theorem wit_AdcEventsComplete_4 : ∃ (s : State),
    (s.runs = true) ∧ ((s.adc.settling && !s.sys.inReset)) :=
  ⟨mk [], by decide +kernel⟩

theorem wit_AdcEventsComplete_5 : ∃ (c : Nat) (v : Word) (s : State),
    ((c < 8)) :=
  ⟨0, 0, mk [], by decide +kernel⟩

theorem wit_AdcEventsComplete_6 : ∃ (c : Nat) (s : State),
    ((c < 8)) :=
  ⟨0, mk [], by decide +kernel⟩

theorem wit_AdcEventsComplete_7 : ∃ (c : Nat) (factors : Option (Nat × Nat × List Nat)) (s : State),
    (s.runs = true) ∧ ((decide (c < 8) && s.calBusy c && s.on F.ADC_BLK_STAT_REF_SETTLED)) :=
  ⟨0, none, mk [(F.ADC_BLK_STAT_REF_SETTLED, 1), (F.ADC_BLK_STAT_CAL_BUSY, 1)], by decide +kernel⟩

theorem wit_AdcEventsComplete_9 : ∃ (s : State),
    (¬(s.on F.ADC_BLK_STAT_REF_SETTLED)) :=
  ⟨mk [], by decide +kernel⟩

theorem wit_AdcEventsComplete_10 : ∃ (p : Pkt) (s : State),
    ((s.adc.readWait.any (fun w => w.pkt = p))) :=
  ⟨{}, { mk [] with adc := { State.reset.adc with readWait := [{ pkt := {}, core := 0, lost := false, started := false }] } }, by decide +kernel⟩

theorem wit_AdcPacketsComplete_0 : ∃ (p : Pkt) (s : State),
    (s.accepts p opAdcConfig [(adcConfigBad p, stBAD_PARAM), (s.adcConfigBusy p, stBUSY),
     ((List.range 8).any (fun c => cfgDisarms p c && s.adcArmed c && s.coreFeeds c), stLOOP_CLOSED)]) :=
  ⟨pk opAdcConfig (List.replicate 12 0), mk [], by decide +kernel⟩

theorem wit_AdcPacketsComplete_1 : ∃ (p : Pkt) (s : State),
    let cs := (List.range 8).filter (fun c => bitOf (p.w 0) c)
    (s.accepts p opAdcCalibrate [(decide (p.w 0 = 0) || outside (p.w 0) 0xFF, stBAD_PARAM), (cs.any (fun c => s.adcArmed c || s.calBusy c), stBUSY)]) :=
  ⟨pk opAdcCalibrate [1], mk [], by decide +kernel⟩

theorem wit_AdcPacketsComplete_2 : ∃ (p : Pkt) (s : State),
    let c := bits (p.w 0) 2 0
    (s.accepts p opAdcSequence [(outside (p.w 0) 7 || decide (p.w 1 = 0) || decide (16 < p.w 1) ||
        (List.range 16).any (fun k => outside (p.w (k + 2)) 0xFFF3F), stBAD_PARAM),
     (s.keyPending bADC, stBUSY)]) :=
  ⟨pk opAdcSequence [0, 1, 0, 0, 0, 0, 0, 0, 0, 0, 0, 0, 0, 0, 0, 0, 0, 0], mk [], by decide +kernel⟩

theorem wit_AdcPacketsComplete_3 : ∃ (p : Pkt) (s : State),
    let c := bits (p.w 0) 2 0
    let n := bits (p.w 0) 22 16
    let trig := bitOf (p.w 0) 9
    (s.accepts p opAdcRead [(outside (p.w 0) 0x7F0307 || decide (n = 0) || decide (64 < n), stBAD_PARAM),
     (trig && !(s.on (F.ADC_CTRL_ARM c) && bitOf (s.get (F.ADC_CTRL_TRIG_EN c)) 0), stNOT_PERMITTED)]) :=
  ⟨pk opAdcRead [65536], mk [], by decide +kernel⟩

theorem wit_LoopEventsComplete_0 : ∃ (n late : Nat) (s : State),
    (s.runs = true) ∧ (s.loop.q0.head? = some n) :=
  ⟨0, 0, { mk [] with loop := { State.reset.loop with q0 := [0] } }, by decide +kernel⟩

theorem wit_LoopEventsComplete_1 : ∃ (n late : Nat) (s : State),
    (s.runs = true) ∧ (s.loop.q0.head? ≠ some n) ∧ (s.loop.q1.head? = some n) :=
  ⟨0, 0, { mk [] with loop := { State.reset.loop with q1 := [0] } }, by decide +kernel⟩

theorem wit_LoopEventsComplete_2 : ∃ (n : Nat) (s : State),
    (s.runs = true) ∧ ((n < 512 && decide (s.tickSrc n = 0) && !s.waiting n)) :=
  ⟨0, mk [], by decide +kernel⟩

theorem wit_LoopEventsComplete_3 : ∃ (n k : Nat) (r : SlotReq) (s : State),
    ((s.slot n).reqs[k]? = some r) :=
  ⟨0, 0, { kind := 1 }, { mk [] with loop := { State.reset.loop with slots := [(0, { reqs := [{ kind := 1 }] })] } }, by decide +kernel⟩

theorem wit_LoopEventsComplete_4 : ∃ (s : State),
    let k := s.gridNext 20000 s.time.snapGrid
    let s1 := s.advanceTo (20000 * k)
    (s.runs = true) ∧ (¬(s.ringRuns)) :=
  ⟨mk [], by decide +kernel⟩

theorem wit_LoopEventsComplete_5 : ∃ (n : Nat) (s : State),
    (n < 512) ∧ (s.reqSafe n 1 = false) ∧ (firstFail (s.reqChecks n 1) = none) :=
  ⟨0, mk [], by decide +kernel⟩

theorem wit_LoopEventsComplete_6 : ∃ (n : Nat) (s : State),
    (n < 512) ∧ (s.reqSafe n 2 = false) ∧ (firstFail (s.reqChecks n 2) = none) :=
  ⟨0, mk [(F.LOOP_SLOT_STAT_STATE 0, slCLOSED)], by decide +kernel⟩

theorem wit_LoopEventsComplete_7 : ∃ (n : Nat) (s : State),
    (n < 512) ∧ (s.reqSafe n 3 = false) ∧ (firstFail (s.reqChecks n 3) = none) :=
  ⟨0, mk [(F.LOOP_SLOT_STAT_STATE 0, slOBSERVER)], by decide +kernel⟩

theorem wit_LoopEventsComplete_8 : ∃ (n : Nat) (s : State),
    (n < 512) ∧ (s.slotSt n ≠ slIDLE) ∧ (s.slotSt n ≠ slSAFE) :=
  ⟨0, mk [(F.LOOP_SLOT_STAT_STATE 0, slOPEN)], by decide +kernel⟩

theorem wit_LoopEventsComplete_9 : ∃ (n : Nat) (s : State),
    (n < 512) ∧ (s.reqSafe n 5 = false) ∧ (firstFail (s.reqChecks n 5) = none) :=
  ⟨0, mk [(F.LOOP_SLOT_STAT_STATE 0, slOPEN)], by decide +kernel⟩

theorem wit_LoopEventsComplete_10 : ∃ (i : Nat) (s : State),
    (i < 4) ∧ (s.on (F.INJ_BUSY i) = false) ∧ (s.get (F.INJ_MODE i) = 1 ∨ s.get (F.INJ_MODE i) = 2) ∧ (s.injAllowed (s.get (F.INJ_SLOT i)) = true) ∧ (s.injOf (s.get (F.INJ_SLOT i)) = none) ∧ ((s.get (F.INJ_MODE i) = 1 → 0 < bits (s.get (F.INJ_INC i)) 10 0 ∧ bits (s.get (F.INJ_INC i)) 10 0 ≤ 1020)) :=
  ⟨0, mk [(F.LOOP_SLOT_STAT_STATE 0, slOPEN), (F.INJ_MODE 0, 1), (F.INJ_INC 0, 1020)], by decide +kernel⟩

theorem wit_LoopPacketsComplete_0 : ∃ (p : Pkt) (s : State),
    let n := bits (p.w 0) 8 0
    let only := bitOf (p.w 0) 16
    (s.accepts p opLoopConfig [(outside (p.w 0) 0x101FF || badLimits (sgn 32 (p.w 16)) (sgn 32 (p.w 17)) (sgn 32 (p.w 19)) ||
        (!only && s.configBad n (fun i => p.w (i + 1))), stBAD_PARAM),
     (!only && s.slotRuns n, stLOOP_CLOSED),
     (s.cmtPending bLOOP, stBUSY)]) :=
  ⟨pk opLoopConfig (List.replicate 20 0), mk [], by decide +kernel⟩

theorem wit_LoopPacketsComplete_1 : ∃ (p : Pkt) (s : State),
    let n := bits (p.w 0) 8 0
    (s.accepts p opLoopOpen ((s.reqSafe n 1, stSAFE_STATE) :: (outside (p.w 0) 0x101FF, stBAD_PARAM) :: s.reqChecks n 1)) :=
  ⟨pk opLoopOpen [0], mk [], by decide +kernel⟩

theorem wit_LoopPacketsComplete_2 : ∃ (p : Pkt) (s : State),
    let n := bits (p.w 0) 8 0
    (s.accepts p opLoopClose ((s.reqSafe n 2, stSAFE_STATE) :: (outside (p.w 0) 0x1FF, stBAD_PARAM) :: s.reqChecks n 2)) :=
  ⟨pk opLoopClose [0], mk [(F.LOOP_SLOT_STAT_STATE 0, slCLOSED)], by decide +kernel⟩

theorem wit_LoopPacketsComplete_3 : ∃ (p : Pkt) (s : State),
    let n := bits (p.w 0) 8 0
    let order := bitOf (p.w 1) 0
    (s.accepts p opLoopCoefWrite [(outside (p.w 0) 0x1FF, stBAD_PARAM),
     (bits (p.w 1) 31 16 ≠ 1, stVERSION_MISMATCH),
     (decide (crc32cWords ((List.range 8).map (fun i => p.w (i + 1))) ≠ p.w 9), stBAD_PARAM),
     (bits (p.w 1) 15 1 ≠ 0 || (!order && (decide (p.w 5 ≠ 0) || decide (p.w 8 ≠ 0))), stBAD_PARAM),
     (s.slotRuns n, stLOOP_CLOSED)]) :=
  ⟨pk opLoopCoefWrite [0, 65537, 1, 2, 3, 4, 5, 6, 7, 2969120644], mk [], by decide +kernel⟩

theorem wit_LoopPacketsComplete_4 : ∃ (p : Pkt) (s : State),
    let n := bits (p.w 0) 8 0
    (s.accepts p opLoopSetpoint [(outside (p.w 0) 0x1FF, stBAD_PARAM),
     (decide (1 < s.get (F.SLOT_CFG0_SP_SRC n)) || s.owned (6, n, 0), stNOT_PERMITTED)]) :=
  ⟨pk opLoopSetpoint [0, 0, 0], mk [], by decide +kernel⟩

theorem wit_LoopPacketsComplete_5 : ∃ (p : Pkt) (s : State),
    let n := bits (p.w 0) 8 0
    let v := sgn 32 (p.w 1)
    (s.accepts p opLoopManual [(outside (p.w 0) 0x1FF || decide (v < (s.lim n).min) || decide ((s.lim n).max < v), stBAD_PARAM),
     (s.slotSt n ≠ slOPEN, stNOT_PERMITTED)]) :=
  ⟨pk opLoopManual [0, 0], mk [(F.LOOP_SLOT_STAT_STATE 0, slOPEN)], by decide +kernel⟩

theorem wit_LoopPacketsComplete_6 : ∃ (p : Pkt) (s : State),
    (s.accepts p opLoopRead [(outside (p.w 0) 0x1FF, stBAD_PARAM)]) :=
  ⟨pk opLoopRead [0], mk [], by decide +kernel⟩

theorem wit_LoopPacketsComplete_7 : ∃ (p : Pkt) (s : State),
    let n := bits (p.w 0) 8 0
    let only := bitOf (p.w 0) 24
    let load := bitOf (p.w 0) 25
    let st := s.slotSt n
    (s.accepts p opLoopObserver ([(outside (p.w 0) 0x31F01FF, stBAD_PARAM),
      (load && bits (p.w 1) 31 16 ≠ 1, stVERSION_MISMATCH),
      (load && (decide (crc32cWords ((List.range 98).map (fun i => p.w (i + 1))) ≠ p.w 99) || modelBad (p.w 1)), stBAD_PARAM)] ++
     s.observerChecks p ++
     [(!only && (s.slot n).reqs.isEmpty && (st ≠ slOPEN && st ≠ slCLOSED && st ≠ slOBSERVER), stNOT_PERMITTED),
      (!only && decide (4 ≤ (s.slot n).reqs.length), stQUEUE_FULL)])) :=
  ⟨pk opLoopObserver [0], mk [(F.LOOP_SLOT_STAT_STATE 0, slOPEN), (F.SLOT_MODEL 0, 0x80000000)], by decide +kernel⟩

theorem wit_LoopPacketsComplete_8 : ∃ (p : Pkt) (s : State),
    let n := bits (p.w 0) 8 0
    (s.accepts p opLoopSafe [(outside (p.w 0) 0x1FF, stBAD_PARAM), (s.slotSt n = slIDLE || s.slotSt n = slSAFE, stNOT_PERMITTED)]) :=
  ⟨pk opLoopSafe [0], mk [(F.LOOP_SLOT_STAT_STATE 0, slOPEN)], by decide +kernel⟩

theorem wit_LoopPacketsComplete_9 : ∃ (p : Pkt) (s : State),
    let n := bits (p.w 0) 8 0
    (s.accepts p opLoopSupervise [(outside (p.w 0) 0x1FF || superviseBad p, stBAD_PARAM), (s.slotRuns n, stLOOP_CLOSED)]) :=
  ⟨pk opLoopSupervise [0, 0, 0, 0, 0, 0, 0, 0, 0, 0, 0], mk [], by decide +kernel⟩

theorem wit_LoopPacketsComplete_10 : ∃ (p : Pkt) (i : Nat) (s : State),
    let n := bits (p.w 0) 8 0
    let stop := decide (p.w 1 = 0) && (s.injOf n).isSome
    (s.accepts p opLoopStep [(outside (p.w 0) 0x1FF || outside (p.w 2) 0x302 || bits (p.w 2) 9 8 = 3 || (decide (p.w 4 = 0) || decide (1020 < p.w 4)), stBAD_PARAM),
     (!stop && !s.injAllowed n, stNOT_PERMITTED), (!stop && (s.freeInj.isNone || (s.injOf n).isSome), stBUSY)]) ∧ (stop = false) ∧ (s.freeInj = some i) :=
  ⟨pk opLoopStep [0, 5, 0, 0, 1020], 0, mk [(F.LOOP_SLOT_STAT_STATE 0, slOPEN)], by decide +kernel⟩

theorem wit_LoopPacketsComplete_11 : ∃ (p : Pkt) (i : Nat) (s : State),
    let n := bits (p.w 0) 8 0
    let stop := decide (p.w 1 = 0) && (s.injOf n).isSome
    let badInc (x : Nat) : Bool := decide (x = 0) || decide (2 ^ 31 < x)
    let m := bits (p.w 5) 23 16
    let k := bits (p.w 5) 7 0
    (s.accepts p opLoopSweep [(outside (p.w 0) 0x1FF || outside (p.w 2) 0x302 || bits (p.w 2) 9 8 = 3 || (badInc (p.w 3) || badInc (p.w 4) || decide (m = 0) || decide (k < 2) || outside (p.w 5) 0xFFFF00FF), stBAD_PARAM),
     (!stop && !s.injAllowed n, stNOT_PERMITTED), (!stop && (s.freeInj.isNone || (s.injOf n).isSome), stBUSY)]) ∧ (stop = false) ∧ (s.freeInj = some i) :=
  ⟨pk opLoopSweep [0, 5, 0, 1, 2147483648, 65538], 0, mk [(F.LOOP_SLOT_STAT_STATE 0, slCLOSED)], by decide +kernel⟩

theorem wit_LoopPacketsComplete_12 : ∃ (p : Pkt) (s : State),
    let n := bits (p.w 0) 8 0
    (s.accepts p opLoopRelease ((outside (p.w 0) 0x1FF, stBAD_PARAM) :: s.reqChecks n 5)) :=
  ⟨pk opLoopRelease [0], mk [(F.LOOP_SLOT_STAT_STATE 0, slOPEN)], by decide +kernel⟩

theorem wit_LoopPacketsComplete_13 : ∃ (p : Pkt) (s : State),
    (s.accepts p opLoopStickyClear [(outside (p.w 0) 0x1FF, stBAD_PARAM)]) :=
  ⟨pk opLoopStickyClear [0, 0], mk [], by decide +kernel⟩

theorem wit_PwmEventsComplete_0 : ∃ (g : Nat) (s : State),
    (s.runs = true) ∧ ((decide (g < 48) && s.genRuns g)) :=
  ⟨0, mk [(F.PWM_STAT_RUN 0, 1)], by decide +kernel⟩

theorem wit_PwmEventsComplete_1 : ∃ (g : Nat) (s : State),
    (s.runs = true) ∧ ((decide (g < 48) && s.genRuns g && !(s.gen g).spGone)) :=
  ⟨0, mk [(F.PWM_STAT_RUN 0, 1)], by decide +kernel⟩

theorem wit_PwmEventsComplete_2 : ∃ (g : Nat) (b : Bool) (s : State),
    ((g < 48)) :=
  ⟨0, false, mk [], by decide +kernel⟩

theorem wit_PwmEventsComplete_4 : ∃ (g : Nat) (s : State),
    ((g < 48)) :=
  ⟨0, mk [], by decide +kernel⟩

theorem wit_PwmEventsComplete_5 : ∃ (g : Nat) (s : State),
    ((g < 48)) :=
  ⟨0, mk [], by decide +kernel⟩

theorem wit_PwmEventsComplete_6 : ∃ (k samples : Nat) (s : State),
    ((s.pinPasses k samples)) :=
  ⟨0, 1, mk [], by decide +kernel⟩

theorem wit_PwmEventsComplete_7 : ∃ (k samples : Nat) (s : State),
    ((s.pinPasses k samples)) :=
  ⟨0, 1, mk [], by decide +kernel⟩

theorem wit_PwmEventsComplete_8 : ∃ (c : Nat) (s : State),
    ((c < 8 && decide (s.get F.SEC_BLK_STAT_DBG_LEVEL ≠ 0))) :=
  ⟨0, mk [(F.SEC_BLK_STAT_DBG_LEVEL, 1)], by decide +kernel⟩

theorem wit_PwmEventsComplete_9 : ∃ (c : Nat) (s : State),
    ((c < 8)) :=
  ⟨0, mk [], by decide +kernel⟩

theorem wit_PwmPacketsComplete_0 : ∃ (p : Pkt) (s : State),
    (bitOf (p.w 0) 31 = true) ∧ (s.accepts p opPwmConfig
      [(outside (p.w 0) 0x80000000 || (List.range 16).any (fun k => outside (p.w (k + 1)) 0x1FF), stBAD_PARAM),
       ((List.range 16).any (fun k =>
          decide ((s.word (F.PWM_TRIPPIN_POL k).addr).toNat ≠ p.w (k + 1)) && s.pinLocked k), stBUSY)]) :=
  ⟨pk opPwmConfig [2147483648, 0, 0, 0, 0, 0, 0, 0, 0, 0, 0, 0, 0, 0, 0, 0, 0], mk [], by decide +kernel⟩

theorem wit_PwmPacketsComplete_1 : ∃ (p : Pkt) (s : State),
    let g := bits (p.w 0) 5 0
    (bitOf (p.w 0) 31 = false) ∧ (s.accepts p opPwmConfig
      [(pwmConfigBad p, stBAD_PARAM),
       (decide ((s.word (F.PWM_GRP_DBG_EN g).addr).toNat ≠ p.w 6) && s.grpLocked g, stNOT_PERMITTED),
       (s.keyPending bPWM, stBUSY)]) :=
  ⟨pk opPwmConfig [0, 256, 0, 0, 0, 0, 0], mk [], by decide +kernel⟩

theorem wit_PwmPacketsComplete_2 : ∃ (p : Pkt) (s : State),
    let g := bits (p.w 0) 5 0
    let m := bits (p.w 0) 12 8
    let fs := [0, 1, 2, 3, 4].filter (fun f => bitOf m f)
    (s.accepts p opPwmDuty [(decide (48 ≤ g) || outside (p.w 0) 0x11F3F || fs.any (fun f => outside (p.w (f + 1)) (dutyMask f)) ||
        (bitOf m 0 && decide (p.w 1 < 8)), stBAD_PARAM),
     ((bitOf m 1 && s.dutyOwned g 1) || (bitOf m 2 && s.dutyOwned g 2), stNOT_PERMITTED)]) :=
  ⟨pk opPwmDuty [0, 0, 0, 0, 0, 0], mk [], by decide +kernel⟩

theorem wit_PwmPacketsComplete_3 : ∃ (p : Pkt) (s : State),
    let g := bits (p.w 0) 5 0
    (s.accepts p opPwmTripClear [(decide (48 ≤ g) || outside (p.w 0) 0x3F, stBAD_PARAM)]) :=
  ⟨pk opPwmTripClear [0], mk [], by decide +kernel⟩

theorem wit_PwmPacketsComplete_4 : ∃ (p : Pkt) (s : State),
    let en := bitOf (p.w 0) 0
    let gs := (List.range 48).filter (fun g => bitOf (p.w 1 + 2 ^ 32 * p.w 2) g)
    let starts := gs.filter (fun g => !s.genRuns g)
    (s.accepts p opPwmEnable [(en && starts.any (fun g => s.groupSafe (s.get (F.PWM_GRP_STO_GRP g))), stSAFE_STATE),
     (outside (p.w 0) 1 || outside (p.w 2) 0xFFFF, stBAD_PARAM),
     (en && starts.any (fun g => s.on (F.PWM_STAT_TRIPPED g)), stTRIP_ACTIVE),
     (!en && gs.any (fun g => s.genRuns g && s.dutyClosed g), stLOOP_CLOSED)]) :=
  ⟨pk opPwmEnable [0, 0, 0], mk [], by decide +kernel⟩

theorem wit_GpioCommandsComplete_2 : ∃ (n : Nat) (level : Bool) (samples : Nat) (s : State),
    ((n < 64)) :=
  ⟨0, false, 0, mk [], by decide +kernel⟩

theorem wit_GpioCommandsComplete_3 : ∃ (n : Nat) (s : State),
    ((decide (n < 64) && s.on (F.GPIO_CFG_MISM_EN n) && s.pinDiffers n)) :=
  ⟨0, mk [(F.GPIO_CFG_MISM_EN 0, 1), (F.GPIO_CFG_FUNC 0, 1), (F.GPIO_OUT0, 1), (F.SYS_ARM_OUTEN, 1)], by decide +kernel⟩

theorem wit_GpioCommandsComplete_4 : ∃ (p : Pkt) (s : State),
    let first := bits (p.w 0) 5 0
    let n := bits (p.w 0) 14 8
    let ix := List.range n
    (s.accepts p opGpioConfig [(decide (64 < first + n) || decide (n = 0) || outside (p.w 0) 0x7F3F ||
        ix.any (fun i => outside (p.w (i + 1)) 0xFF003F87 || decide (5 ≤ bits (p.w (i + 1)) 2 0) ||
          decide (bits (p.w (i + 1)) 9 8 = 3)), stBAD_PARAM),
     (ix.any (fun i => s.funcLocked (first + i) (p.w (i + 1))), stNOT_PERMITTED)]) :=
  ⟨pk opGpioConfig [256, 1], mk [], by decide +kernel⟩

theorem wit_GpioCommandsComplete_5 : ∃ (p : Pkt) (s : State),
    let m := p.w 1 + 2 ^ 32 * p.w 2
    (s.accepts p opGpioWrite [((List.range 64).any (fun n => bitOf m n && (decide (s.gpioFunc n ≠ 1) || s.owned (5, n, 0))), stNOT_PERMITTED)]) :=
  ⟨pk opGpioWrite [0, 0, 0, 0, 0], mk [], by decide +kernel⟩

theorem wit_GpioCommandsComplete_6 : ∃ (p : Pkt) (s : State),
    (s.accepts p opGpioRead []) :=
  ⟨pk opGpioRead [], mk [], by decide +kernel⟩

theorem wit_AxisRequestsComplete_0 : ∃ (k : Nat) (s : State),
    (s.runs = true) ∧ (¬(s.ringRuns || decide (20000 * k + 20000 ≤ s.now))) :=
  ⟨0, mk [], by decide +kernel⟩

theorem wit_AxisRequestsComplete_1 : ∃ (n : Nat) (s : State),
    (n < 96) ∧ let r : AxReq := { code := 1, words := (List.range 8).map (fun i => s.get (F.AX_MOVE n i)) }
    (((s.ax n).reqs = [] → s.axReqStatus n r = stDONE)) :=
  ⟨0, mk [(F.AX_STATE 0, axSTANDSTILL), (F.AXL_VMAX 0, 100), (F.AXL_AMAX 0, 100), (F.AXL_DMAX 0, 100), (F.AXL_JMAX 0, 100), (F.AXL_QDEC 0, 100)], by decide +kernel⟩

theorem wit_AxisRequestsComplete_2 : ∃ (n : Nat) (s : State),
    (n < 96) ∧ let r : AxReq := { code := 2, words := [] }
    (((s.ax n).reqs = [] → s.axReqStatus n r = stDONE)) :=
  ⟨0, mk [(F.AX_STATE 0, axMOVING), (F.AXL_VMAX 0, 100), (F.AXL_AMAX 0, 100), (F.AXL_DMAX 0, 100), (F.AXL_JMAX 0, 100), (F.AXL_QDEC 0, 100)], by decide +kernel⟩

theorem wit_AxisRequestsComplete_3 : ∃ (n : Nat) (s : State),
    (n < 96) ∧ let r : AxReq := { code := 3, words := [] }
    (((s.ax n).reqs = [] → s.axReqStatus n r = stDONE)) :=
  ⟨0, mk [(F.AX_STATE 0, axMOVING), (F.AXL_VMAX 0, 100), (F.AXL_AMAX 0, 100), (F.AXL_DMAX 0, 100), (F.AXL_JMAX 0, 100), (F.AXL_QDEC 0, 100)], by decide +kernel⟩

theorem wit_AxisRequestsComplete_4 : ∃ (n : Nat) (s : State),
    (n < 96) ∧ let r : AxReq := { code := 4, words := [] }
    (((s.ax n).reqs = [] → s.axReqStatus n r = stDONE)) :=
  ⟨0, mk [(F.AX_STATE 0, axDISABLED), (F.AXL_VMAX 0, 100), (F.AXL_AMAX 0, 100), (F.AXL_DMAX 0, 100), (F.AXL_JMAX 0, 100), (F.AXL_QDEC 0, 100), (F.AX_CFG_STO_GRP 0, 15)], by decide +kernel⟩

theorem wit_AxisRequestsComplete_5 : ∃ (n : Nat) (s : State),
    (n < 96) ∧ let r : AxReq := { code := 5, words := [] }
    (((s.ax n).reqs = [] → s.axReqStatus n r = stDONE)) :=
  ⟨0, mk [], by decide +kernel⟩

theorem wit_AxisRequestsComplete_6 : ∃ (n : Nat) (s : State),
    (n < 96) ∧ let r : AxReq := { code := 6, words := [] }
    (((s.ax n).reqs = [] → s.axReqStatus n r = stDONE)) :=
  ⟨0, mk [(F.AX_STATE 0, axSTANDSTILL), (F.AXL_VMAX 0, 100), (F.AXL_AMAX 0, 100), (F.AXL_DMAX 0, 100), (F.AXL_JMAX 0, 100), (F.AXL_QDEC 0, 100), (F.AX_GEAR_DEN 0, 1)], by decide +kernel⟩

theorem wit_AxisRequestsComplete_7 : ∃ (n : Nat) (s : State),
    (n < 96) ∧ let r : AxReq := { code := 7, words := [] }
    (((s.ax n).reqs = [] → s.axReqStatus n r = stDONE)) :=
  ⟨0, mk [(F.AX_STATE 0, axSTANDSTILL), (F.AXL_VMAX 0, 100), (F.AXL_AMAX 0, 100), (F.AXL_DMAX 0, 100), (F.AXL_JMAX 0, 100), (F.AXL_QDEC 0, 100), (F.AX_CAM_MCYC 0, 1)], by decide +kernel⟩

theorem wit_AxisRequestsComplete_8 : ∃ (n : Nat) (s : State),
    (n < 96) ∧ let r : AxReq := { code := 8, words := [s.get (F.AX_TRIM_DELTA n)] }
    (((s.ax n).reqs = [] → s.axReqStatus n r = stDONE)) :=
  ⟨0, mk [(F.AX_STATE 0, axGEARED), (F.AXL_VMAX 0, 100), (F.AXL_AMAX 0, 100), (F.AXL_DMAX 0, 100), (F.AXL_JMAX 0, 100), (F.AXL_QDEC 0, 100)], by decide +kernel⟩

theorem wit_AxisPacketsComplete_0 : ∃ (p : Pkt) (s : State),
    let n := bits (p.w 0) 6 0
    let only := bitOf (p.w 0) 16
    let soft := if only then s.on (F.AX_CFG_SOFTLIM_EN n) else bitOf (p.w 1) 30
    let step := if only then s.on (F.AX_CFG_STEPPER n) else bitOf (p.w 1) 31
    (s.accepts p opAxisConfig [(outside (p.w 0) 0x1007F || decide (96 ≤ n) || (!only && s.axWordsBad p n) || axSetBad soft step (fun i => p.w (9 + i)), stBAD_PARAM),
     (!only && s.axRuns n, stNOT_PERMITTED),
     (s.commits.any (fun c => c.base = bMOTION && c.pkt = none), stBUSY)]) :=
  ⟨pk opAxisConfig [0, 0, 0, 0, 0, 0, 0, 0, 0, 1, 1, 1, 1, 1, 0, 0, 0, 0, 0], mk [], by decide +kernel⟩

theorem wit_AxisPacketsComplete_1 : ∃ (p : Pkt) (s : State),
    let n := bits (p.w 0) 6 0
    let r : AxReq := { code := 1, words := pktWs p 1 8, pkt := some p }
    (s.accepts p opAxisMove [(false, stSAFE_STATE), (outside (p.w 0) 0x7F || decide (96 ≤ n) || false, stBAD_PARAM)]) ∧ (((s.ax n).reqs = [] → (s.noteStart p).axReqStatus n r = stDONE)) :=
  ⟨pk opAxisMove [0, 0, 0, 0, 0, 0, 0, 0, 0], mk [(F.AX_STATE 0, axSTANDSTILL), (F.AXL_VMAX 0, 100), (F.AXL_AMAX 0, 100), (F.AXL_DMAX 0, 100), (F.AXL_JMAX 0, 100), (F.AXL_QDEC 0, 100)], by decide +kernel⟩

theorem wit_AxisPacketsComplete_2 : ∃ (p : Pkt) (s : State),
    let n := bits (p.w 0) 6 0
    let r : AxReq := { code := (if bitOf (p.w 1) 0 then 3 else 2), words := [], pkt := some p }
    (s.accepts p opAxisStop [(false, stSAFE_STATE), (outside (p.w 0) 0x7F || decide (96 ≤ n) || outside (p.w 1) 1, stBAD_PARAM)]) ∧ (((s.ax n).reqs = [] → (s.noteStart p).axReqStatus n r = stDONE)) :=
  ⟨pk opAxisStop [0, 0], mk [(F.AX_STATE 0, axMOVING), (F.AXL_VMAX 0, 100), (F.AXL_AMAX 0, 100), (F.AXL_DMAX 0, 100), (F.AXL_JMAX 0, 100), (F.AXL_QDEC 0, 100)], by decide +kernel⟩

theorem wit_AxisPacketsComplete_3 : ∃ (p : Pkt) (s : State),
    let n := bits (p.w 0) 6 0
    let r : AxReq := { code := (if bitOf (p.w 1) 0 then 4 else 5), words := [], pkt := some p }
    (s.accepts p opAxisEnable [(s.enableUnsafe p, stSAFE_STATE), (outside (p.w 0) 0x7F || decide (96 ≤ n) || outside (p.w 1) 1, stBAD_PARAM)]) ∧ (((s.ax n).reqs = [] → (s.noteStart p).axReqStatus n r = stDONE)) :=
  ⟨pk opAxisEnable [0, 0], mk [], by decide +kernel⟩

theorem wit_AxisPacketsComplete_4 : ∃ (p : Pkt) (s : State),
    let n := bits (p.w 0) 6 0
    let r : AxReq := { code := 6, words := pktWs p 1 5, pkt := some p }
    (s.accepts p opAxisGear [(false, stSAFE_STATE), (outside (p.w 0) 0x7F || decide (96 ≤ n) || false, stBAD_PARAM)]) ∧ (((s.ax n).reqs = [] → (s.noteStart p).axReqStatus n r = stDONE)) :=
  ⟨pk opAxisGear [0, 0, 0, 1, 0, 0], mk [(F.AX_STATE 0, axSTANDSTILL), (F.AXL_VMAX 0, 100), (F.AXL_AMAX 0, 100), (F.AXL_DMAX 0, 100), (F.AXL_JMAX 0, 100), (F.AXL_QDEC 0, 100)], by decide +kernel⟩

theorem wit_AxisPacketsComplete_5 : ∃ (p : Pkt) (s : State),
    let n := bits (p.w 0) 6 0
    let r : AxReq := { code := 7, words := pktWs p 1 5, pkt := some p }
    (s.accepts p opAxisCam [(false, stSAFE_STATE), (outside (p.w 0) 0x7F || decide (96 ≤ n) || false, stBAD_PARAM)]) ∧ (((s.ax n).reqs = [] → (s.noteStart p).axReqStatus n r = stDONE)) :=
  ⟨pk opAxisCam [0, 0, 0, 1, 0, 0], mk [(F.AX_STATE 0, axSTANDSTILL), (F.AXL_VMAX 0, 100), (F.AXL_AMAX 0, 100), (F.AXL_DMAX 0, 100), (F.AXL_JMAX 0, 100), (F.AXL_QDEC 0, 100)], by decide +kernel⟩

theorem wit_AxisPacketsComplete_6 : ∃ (p : Pkt) (s : State),
    let t := bits (p.w 0) 4 0
    let first := bits (p.w 1) 11 0
    let n := p.w 2
    (s.accepts p opCamTableWrite [(outside (p.w 0) 0x1F || outside (p.w 1) 0xFFF || n = 0 || decide (510 < n) || decide (4096 < first + n), stBAD_PARAM),
     (s.camUsed t, stNOT_PERMITTED)]) :=
  ⟨pk opCamTableWrite [0, 0, 1, 5, 6], mk [], by decide +kernel⟩

theorem wit_AxisPacketsComplete_7 : ∃ (p : Pkt) (s : State),
    let n := bits (p.w 0) 6 0
    let r : AxReq := { code := 8, words := pktWs p 1 1, pkt := some p }
    (s.accepts p opAxisPhaseTrim [(false, stSAFE_STATE), (outside (p.w 0) 0x7F || decide (96 ≤ n) || false, stBAD_PARAM)]) ∧ (((s.ax n).reqs = [] → (s.noteStart p).axReqStatus n r = stDONE)) :=
  ⟨pk opAxisPhaseTrim [0, 0], mk [(F.AX_STATE 0, axGEARED), (F.AXL_VMAX 0, 100), (F.AXL_AMAX 0, 100), (F.AXL_DMAX 0, 100), (F.AXL_JMAX 0, 100), (F.AXL_QDEC 0, 100)], by decide +kernel⟩

theorem wit_AxisPacketsComplete_8 : ∃ (p : Pkt) (s : State),
    let n := bits (p.w 0) 6 0
    (s.accepts p opAxisRead [(outside (p.w 0) 0x7F || decide (96 ≤ n), stBAD_PARAM)]) :=
  ⟨pk opAxisRead [0], mk [], by decide +kernel⟩

theorem wit_AxisPacketsComplete_9 : ∃ (p : Pkt) (s : State),
    let wave := bitOf (p.w 0) 16
    let k := bits (p.w 0) 3 0
    (s.accepts p opAxisStepTable [(outside (p.w 0) 0x1000F || (wave && (List.range 257).any (fun i => bitOf (p.w (i + 1)) 31)), stBAD_PARAM),
     (if wave then s.anyStepper else s.stepTabUsed k, stBUSY)]) :=
  ⟨pk opAxisStepTable [0, 0, 0, 0, 0, 0, 0, 0, 0, 0, 0], mk [], by decide +kernel⟩

theorem wit_EncoderCommandsComplete_0 : ∃ (n : Nat) (a b : Bool) (samples : Nat) (s : State),
    (s.runs = true) ∧ ((decide (n < 16) && !s.mirEnc n && s.encPasses n samples)) :=
  ⟨0, false, false, 1, mk [], by decide +kernel⟩

theorem wit_EncoderCommandsComplete_1 : ∃ (n : Nat) (level : Bool) (samples : Nat) (s : State),
    (s.runs = true) ∧ ((decide (n < 16) && !s.mirEnc n && s.encPasses n samples)) :=
  ⟨0, false, 1, mk [], by decide +kernel⟩

theorem wit_EncoderCommandsComplete_2 : ∃ (n raw : Nat) (lineLow : Bool) (s : State),
    (s.runs = true) ∧ ((decide (n < 16) && s.on (F.ENC_EN n) && s.get (F.ENC_MODE n) = mdSSI && s.on (F.ENC_BUSY n) && (s.encI n).tmEnd = none)) :=
  ⟨0, 0, false, mk [(F.ENC_EN 0, 1), (F.ENC_MODE 0, mdSSI), (F.ENC_BUSY 0, 1)], by decide +kernel⟩

theorem wit_EncoderCommandsComplete_3 : ∃ (n : Nat) (s : State),
    ((n < 16)) :=
  ⟨0, mk [], by decide +kernel⟩

theorem wit_EncoderCommandsComplete_4 : ∃ (n : Nat) (s : State),
    (s.runs = true) ∧ ((decide (n < 16) && !s.mirEnc n && s.on (F.ENC_ERR n) && decide (s.get (F.ENC_ERR_HOLD n) ≠ 0))) :=
  ⟨0, mk [(F.ENC_ERR 0, 1), (F.ENC_ERR_HOLD 0, 1)], by decide +kernel⟩

theorem wit_EncoderCommandsComplete_5 : ∃ (p : Pkt) (s : State),
    let n := bits (p.w 0) 3 0
    let stays := s.on (F.ENC_EN n) && bitOf (p.w 1) 31
    let clears := s.on (F.ENC_EN n) && !bitOf (p.w 1) 31
    let changes := decide (Nat.land (s.word (F.ENC_EN n).addr).toNat encCfgLock ≠ Nat.land (p.w 1) encCfgLock) ||
    decide ((s.word (F.ENC_SSI_HALF n).addr).toNat ≠ p.w 2) || decide ((s.word (F.ENC_MAXJUMP n).addr).toNat ≠ p.w 3)
    (s.accepts p opEncConfig [(encConfigBad p, stBAD_PARAM), (stays && (changes || bitOf (p.w 0) 16), stNOT_PERMITTED),
     (clears && s.encFeeds n, stLOOP_CLOSED), (clears && s.encOnAxis n, stBUSY)]) :=
  ⟨pk opEncConfig [0, 0, 21102592, 0, 0, 0, 0], mk [], by decide +kernel⟩

theorem wit_EncoderCommandsComplete_6 : ∃ (p : Pkt) (s : State),
    let n := bits (p.w 0) 3 0
    (s.accepts p opEncRead [(outside (p.w 0) 0xF, stBAD_PARAM)]) :=
  ⟨pk opEncRead [0], mk [], by decide +kernel⟩

theorem wit_RingCycleCommandsComplete_0 : ∃ (s : State),
    (s.runs = true) ∧ (s.ringRuns = true) ∧ (s.ringOpen.ringRuns = true) :=
  ⟨ringed [], by decide +kernel⟩

theorem wit_RingCycleCommandsComplete_1 : ∃ (s : State),
    (s.runs = true) ∧ ((s.ringRuns)) :=
  ⟨ringed [], by decide +kernel⟩

theorem wit_RingCycleCommandsComplete_2 : ∃ (s : State),
    (s.runs = true) ∧ ((s.timeMaster)) :=
  ⟨ringed [(F.RING_STAT_ROLE, 1)], by decide +kernel⟩

theorem wit_RingCycleCommandsComplete_3 : ∃ (sc : Sched) (s : State),
    (s.runs = true) ∧ (s.curSched = some sc) ∧ (s.timeMaster = true) :=
  ⟨sch, ringed [(F.RING_STAT_ROLE, 1)], by decide +kernel⟩

theorem wit_RingCycleCommandsComplete_4 : ∃ (port : Nat) (ws : List Word) (stamp : Nat) (s : State),
    let f := ws.map (fun w => w.toNat)
    (s.runs = true) ∧ (s.ringSt ≠ rsDOWN) ∧ (port < 2) ∧ (f.length = 16) ∧ (crcKind f = 0) ∧ (iw f 0 / 2 ^ 16 = 64) ∧ (iw f 0 % 256 = 1) ∧ (s.on (wrapBit port) = false) :=
  ⟨0, [Word.of 0x400001, Word.of 0x0, Word.of 0x0, Word.of 0x0, Word.of 0x0, Word.of 0x0, Word.of 0x0, Word.of 0x0, Word.of 0x0, Word.of 0x0, Word.of 0x0, Word.of 0x0, Word.of 0x0, Word.of 0x0, Word.of 0x0, Word.of 0xf277d8f7], 0, ringed [(F.RING_STAT_ROLE, 1)], by decide +kernel⟩

theorem wit_RingCycleCommandsComplete_5 : ∃ (port seg id len : Nat) (ws : List Word) (s : State) (sc : Sched) (n a kind owner x y : Nat),
    let l := ws.map (fun w => w.toNat)
    (s.runs = true) ∧ (s.curSched = some sc) ∧ (sc.seg? seg = some (n, a, kind, owner, x, y)) ∧ (port < 2) ∧ (s.on (wrapBit port) = false) ∧ (s.ringRuns = true) ∧ (id = sc.id) ∧ (len = sc.bightLen) ∧ (ws.length = n + 2) :=
  ⟨0, 0, 7, 64, [Word.of 0x0, Word.of 0x0, Word.of 0x0, Word.of 0x2b60b55d], ringed [], sch, 2, 0, 0, 0, 0, 0, by decide +kernel⟩

theorem wit_RingCycleCommandsComplete_6 : ∃ (s : State),
    (s.runs = true) ∧ ((s.ringRuns && s.curSched.isSome && !s.ring.ended)) :=
  ⟨{ ringed [] with ring := { (ringed []).ring with ended := false } }, by decide +kernel⟩

theorem wit_RingCycleCommandsComplete_7 : ∃ (port len : Nat) (ws : List Word) (t0 : Nat) (s : State),
    (s.runs = true) ∧ (¬(s.ringSt = rsDOWN || decide (2 ≤ port) || decide (len < 4) || s.on (wrapBit port))) :=
  ⟨0, 16, [Word.of 0x0, Word.of 0x0, Word.of 0x0, Word.of 0x2b60b55d], 0, ringed [], by decide +kernel⟩

theorem wit_RingCycleCommandsComplete_8 : ∃ (slot : Nat) (s : State) (i owner a b : Nat),
    (s.runs = true) ∧ (s.slotTable[slot]? = some (i, owner, a, b)) ∧ ((s.ringSt = rsBOOTSTRAP ∧ s.timeMaster = true) ∨ (s.ringSt = rsOPERATIONAL ∧ owner = s.ownNodeNo)) ∧ (s.on F.RING_CTRL_ACY_TX_EN = true) ∧ (s.ring.noMsg = false) :=
  ⟨0, ringed [(F.RING_CTRL_ACY_TX_EN, 1)], 64, 0, 10000, 20000, by decide +kernel⟩

theorem wit_RingCycleCommandsComplete_9 : ∃ (port len : Nat) (ws : List Word) (stamp : Nat) (s : State),
    let b := frameBytes ws len
    (s.runs = true) ∧ (s.ringRuns = true) ∧ (port < 2) ∧ (s.on (wrapBit port) = false) ∧ (s.messageOk port b stamp = true) :=
  ⟨0, 20, [Word.of 0x140003, Word.of 0x0, Word.of 0x0, Word.of 0x0, Word.of 0x565120a5], 0, ringed [(F.RING_STAT_ROLE, 1)], by decide +kernel⟩

theorem wit_RingMasterCommandsComplete_1 : ∃ (port : Nat) (ws : List Word) (s : State),
    let f := ws.map (fun w => w.toNat)
    (s.runs = true) ∧ (s.ringSt = rsCLAIM) ∧ (port < 2) ∧ (f.length = 8) ∧ (crcKind f = 0) ∧ (iw f 0 / 2 ^ 16 = 32) ∧ (iw f 0 % 256 = 4) ∧ (s.on (wrapBit port) = false) :=
  ⟨0, [Word.of 0x200004, Word.of 0x0, Word.of 0x0, Word.of 0x0, Word.of 0x0, Word.of 0x0, Word.of 0x0, Word.of 0xd3ca2a8e], mk [(F.RING_STAT_STATE, rsCLAIM)], by decide +kernel⟩

theorem wit_RingMasterCommandsComplete_2 : ∃ (s : State),
    (s.runs = true) ∧ ((s.ringSt = rsCLAIM && s.candidate && !s.on F.RING_WITHDRAWN)) :=
  ⟨mk [(F.RING_STAT_STATE, rsCLAIM), (F.RING_CTRL_RANK, 0)], by decide +kernel⟩

theorem wit_RingMasterCommandsComplete_3 : ∃ (s : State),
    (s.runs = true) ∧ ((s.ringRuns && !s.timeMaster && decide (256 ≤ s.ring.refMiss))) :=
  ⟨{ ringed [] with ring := { (ringed []).ring with refMiss := 256 } }, by decide +kernel⟩

theorem wit_RingMasterCommandsComplete_4 : ∃ (s : State),
    (s.runs = true) ∧ ((s.ringSt = rsOPERATIONAL && !s.timeMaster && s.candidate && !s.ring.refHA && !s.ring.refHB)) :=
  ⟨ringed [(F.RING_CTRL_RANK, 0)], by decide +kernel⟩

theorem wit_RingMasterCommandsComplete_5 : ∃ (port : Nat) (s : State),
    ((port < 2 && s.on (linkBit port))) :=
  ⟨0, mk [(linkBit 0, 1)], by decide +kernel⟩

theorem wit_RingMasterCommandsComplete_6 : ∃ (port : Nat) (h1 : Bool) (s : State),
    ((decide (port < 2) && !s.on (linkBit port) && s.on (portEn port) && s.on (sdsLock (if s.h1 then 1 else 0)) && !s.sys.inReset)) :=
  ⟨0, false, mk [(portEn 0, 1), (sdsLock 0, 1)], by decide +kernel⟩

theorem wit_RingMasterCommandsComplete_7 : ∃ (port : Nat) (s : State),
    let up := tabGet 0 s.ring.upSince port
    (s.runs = true) ∧ ((port < 2 && s.on (wrapBit port) && s.get F.RING_CYCLE_NUM % 4096 = 0 && up ≠ 0 && decide (up - 1 + 1000000 ≤ s.now))) :=
  ⟨0, { mk [(wrapBit 0, 1)] with ring := { State.reset.ring with upSince := [(0, 1)] }, time := { State.reset.time with ns := 1000000 } }, by decide +kernel⟩

theorem wit_RingMasterCommandsComplete_8 : ∃ (n : Nat) (s : State),
    (s.runs = true) ∧ (((s.nodeI n).present && decide (s.ringWdog ≤ (s.nodeI n).since))) :=
  ⟨0, { mk [] with ring := { State.reset.ring with nodes := [(0, { present := true, since := 1 })] } }, by decide +kernel⟩

theorem wit_RingPacketsComplete_0 : ∃ (p : Pkt) (s : State),
    (s.accepts p opRingScheduleLoad [(outside (p.w 0) 0xE0000000 || outside (p.w 1) 0x3FFFC, stBAD_PARAM)]) :=
  ⟨pk opRingScheduleLoad [0, 0, 0], mk [], by decide +kernel⟩

theorem wit_RingPacketsComplete_1 : ∃ (p : Pkt) (s : State),
    (s.accepts p opRingStart [(outside (p.w 0) 0xE, stBAD_PARAM),
     (s.on F.RING_CTRL_RUN || !(s.stage = STAGE_RING_JOIN || s.stage = STAGE_OPERATIONAL), stNOT_PERMITTED)]) :=
  ⟨pk opRingStart [0], mk [(F.SYS_BOOT_STAT_STAGE, STAGE_OPERATIONAL)], by decide +kernel⟩

theorem wit_RingPacketsComplete_2 : ∃ (p : Pkt) (s : State),
    (s.accepts p opRingStop [(outside (p.w 0) 1, stBAD_PARAM), (!bitOf (p.w 0) 0 && s.ringFeedsLoop, stLOOP_CLOSED)]) :=
  ⟨pk opRingStop [0], mk [], by decide +kernel⟩

theorem wit_RingPacketsComplete_3 : ∃ (p : Pkt) (s : State),
    (s.accepts p opRingStatus []) :=
  ⟨pk opRingStatus [], mk [], by decide +kernel⟩

theorem wit_RingPacketsComplete_4 : ∃ (p : Pkt) (s : State),
    (s.accepts p opRingCounters []) :=
  ⟨pk opRingCounters [], mk [], by decide +kernel⟩

theorem wit_RingPacketsComplete_5 : ∃ (p : Pkt) (s : State),
    let row := s.bankSched.bind (fun sc => (sc.nodes.find? (fun e => e.2.2 = p.w 0)).map (fun e => (sc, e)))
    (s.accepts p opRingStation [(outside (p.w 0) 0x7F || row.isNone, stBAD_PARAM)]) :=
  ⟨pk opRingStation [0], ringed [], by decide +kernel⟩

theorem wit_RingPacketsComplete_6 : ∃ (p : Pkt) (s : State),
    (s.accepts p opRingMasterRank [(outside (p.w 0) 0xF || (decide (4 ≤ p.w 0) && decide (p.w 0 ≤ 14)), stBAD_PARAM), (s.on F.RING_CTRL_RUN, stNOT_PERMITTED)]) :=
  ⟨pk opRingMasterRank [0], mk [], by decide +kernel⟩

theorem wit_SchedulerCommandsComplete_0 : ∃ (c : Nat) (arg0 : Word) (s : State),
    (c < 8) :=
  ⟨0, 0, mk [], by decide +kernel⟩

theorem wit_SchedulerCommandsComplete_1 : ∃ (c : Nat) (arg0 arg1 : Word) (s : State),
    (c < 8) :=
  ⟨0, 0, 0, mk [], by decide +kernel⟩

theorem wit_SchedulerCommandsComplete_2 : ∃ (c : Nat) (arg0 arg1 : Word) (nowait forever : Bool) (s : State),
    (c < 8) :=
  ⟨0, 0, 0, false, false, mk [], by decide +kernel⟩

theorem wit_SchedulerCommandsComplete_3 : ∃ (c : Nat) (s : State),
    (c < 8) :=
  ⟨0, mk [], by decide +kernel⟩

theorem wit_SchedulerCommandsComplete_4 : ∃ (c : Nat) (arg1 : Word) (forever : Bool) (s : State),
    (c < 8) :=
  ⟨0, 0, false, mk [], by decide +kernel⟩

theorem wit_SchedulerCommandsComplete_5 : ∃ (c : Nat) (s : State),
    (c < 8) :=
  ⟨0, mk [], by decide +kernel⟩

theorem wit_SchedulerCommandsComplete_6 : ∃ (c t : Nat) (s : State),
    (c < 8) ∧ (s.choice c = some t) :=
  ⟨0, 0, mk [(F.SCHEDC_DISP_VALID 0, 1)], by decide +kernel⟩

theorem wit_SchedulerCommandsComplete_7 : ∃ (c t : Nat) (s : State),
    (c < 8) ∧ (s.on F.SCHED_BLK_CTRL_PREFETCH = true) ∧ (s.headFor c = some t) :=
  ⟨0, 0, { mk [(F.SCHED_BLK_CTRL_PREFETCH, 1)] with sched := { State.reset.sched with tasks := [(0, { st := .ready, affinity := 1 })], levels := [(0, [0])] } }, by decide +kernel⟩

theorem wit_SchedulerCommandsComplete_8 : ∃ (e : Nat) (s : State),
    (s.runs = true) :=
  ⟨0, mk [], by decide +kernel⟩

theorem wit_SchedulerCommandsComplete_9 : ∃ (t d : Nat) (s : State),
    (s.runs = true) ∧ ((s.task t).st = .waiting) ∧ ((s.task t).deadline = some d) :=
  ⟨0, 0, { mk [] with sched := { State.reset.sched with tasks := [(0, { st := .waiting, deadline := some 0 })] } }, by decide +kernel⟩

theorem wit_SchedulerCommandsComplete_10 : ∃ (t d : Nat) (s : State),
    (s.runs = true) ∧ ((s.task t).st = .sleeping) ∧ ((s.task t).deadline = some d) :=
  ⟨0, 0, { mk [] with sched := { State.reset.sched with tasks := [(0, { st := .sleeping, deadline := some 0 })] } }, by decide +kernel⟩

theorem wit_SchedulerCommandsComplete_11 : ∃ (offset : Nat) (s : State),
    (¬(s.on F.SCHED_BLK_STAT_FALLBACK)) :=
  ⟨0, mk [], by decide +kernel⟩

theorem wit_ProgramEventsComplete_0 : ∃ (late : List Nat) (s : State),
    let k := s.gridNext 20000 s.time.relGrid
    let s1 := s.advanceTo (20000 * k)
    (s.runs = true) :=
  ⟨[], mk [], by decide +kernel⟩

theorem wit_ProgramEventsComplete_1 : ∃ (t : Nat) (outs : List Word) (rearm us : Nat) (s : State),
    (s.runs = true) ∧ (((s.pt t).executing)) :=
  ⟨0, [], 0, 0, { mk [] with prog := { State.reset.prog with tasks := [(0, { executing := true })] } }, by decide +kernel⟩

theorem wit_ProgramEventsComplete_2 : ∃ (late : List Nat) (s : State),
    (s.runs = true) ∧ ((s.nextXfer ≤ s.prog.points + s.xferAhead)) :=
  ⟨[], mk [], by decide +kernel⟩

theorem wit_ProgramEventsComplete_3 : ∃ (s : State),
    ((s.prog.change.isSome)) :=
  ⟨{ mk [] with prog := { State.reset.prog with change := some ({}, false, 1) } }, by decide +kernel⟩

theorem wit_ProgramEventsComplete_4 : ∃ (p : Pkt) (ws : List Nat) (r : List (Pkt × List Nat)) (s : State),
    (s.prog.loads = (p, ws) :: r) :=
  ⟨{}, [], [], { mk [] with prog := { State.reset.prog with loads := [({}, [])] } }, by decide +kernel⟩

theorem wit_ProgramPacketsComplete_0 : ∃ (p : Pkt) (s : State),
    let off := p.w 1
    let data := (p.params.drop 2).map (fun w => w.toNat)
    (s.accepts p opProgLoad [(outside (p.w 0) 0x80000000 || !(off = 0 || off = 4 * s.prog.chunk.length), stBAD_PARAM),
     (s.prog.st = pgCHANGING, stBUSY)]) :=
  ⟨pk opProgLoad [0, 0, 0], mk [], by decide +kernel⟩

theorem wit_ProgramPacketsComplete_1 : ∃ (p : Pkt) (s : State),
    let run := bitOf (p.w 0) 0
    (s.accepts p opProgRun [(outside (p.w 0) 7 || (run && s.stnsBad (s.prog.active.getD {})), stBAD_PARAM),
     (s.prog.st = pgEMPTY, stNOT_PERMITTED)]) :=
  ⟨pk opProgRun [1], { mk [] with prog := { State.reset.prog with st := pgSTOPPED } }, by decide +kernel⟩

theorem wit_ProgramPacketsComplete_2 : ∃ (p : Pkt) (s : State),
    let n := bits (p.w 0) 6 0
    let ids := (List.range n).map (fun i => p.w (1 + 4 * i))
    let bad := (List.range n).any (fun i => match s.progVar? (p.w (1 + 4 * i)) with
      | some v => decide (v.ty ≠ p.w (2 + 4 * i))
      | none => true)
    (s.accepts p opProgForce [(outside (p.w 0) 0x7F || n = 0 || decide (64 < n) || bad, stBAD_PARAM), (decide (1024 < s.forceCount ids), stQUEUE_FULL),
     (ids.any s.forceClash, stFORCES_PRESENT)]) :=
  ⟨pk opProgForce [1, 5, 3, 0, 0], { mk [] with prog := { State.reset.prog with st := pgRUNNING, active := some { vars := [{ id := 5, bit := 0, word := 0, kind := 1, ty := 3 }] } } }, by decide +kernel⟩

theorem wit_ProgramPacketsComplete_3 : ∃ (p : Pkt) (s : State),
    (s.accepts p opProgRelease [(outside (p.w 0) 0x8000007F || decide (64 < bits (p.w 0) 6 0), stBAD_PARAM)]) :=
  ⟨pk opProgRelease [0], mk [], by decide +kernel⟩

theorem wit_ProgramPacketsComplete_4 : ∃ (p : Pkt) (s : State),
    let rel := bitOf (p.w 0) 0
    (s.accepts p opProgChange [(outside (p.w 0) 1 || s.stnsBad (s.prog.spare.getD {}), stBAD_PARAM),
     (s.prog.st = pgEMPTY || s.prog.spare.isNone, stNOT_PERMITTED), (s.prog.st = pgCHANGING, stBUSY),
     (!rel && s.forcesAffected, stFORCES_PRESENT)]) :=
  ⟨pk opProgChange [0, 0], { mk [] with prog := { State.reset.prog with st := pgRUNNING, spare := some { vars := [{ id := 5, bit := 0, word := 0, kind := 1, ty := 3 }] } } }, by decide +kernel⟩

theorem wit_ProgramPacketsComplete_5 : ∃ (p : Pkt) (s : State),
    let n := bits (p.w 0) 6 0
    (s.accepts p opProgReadVar [(outside (p.w 0) 0x7F || n = 0 || decide (64 < n) || (List.range n).any (fun i => (s.progVar? (p.w (1 + i))).isNone), stBAD_PARAM)]) :=
  ⟨pk opProgReadVar [1, 5], { mk [] with prog := { State.reset.prog with st := pgRUNNING, active := some { vars := [{ id := 5, bit := 0, word := 0, kind := 1, ty := 3 }] } } }, by decide +kernel⟩

theorem wit_ProgramPacketsComplete_6 : ∃ (p : Pkt) (s : State),
    let n := bits (p.w 0) 6 0
    let ids := (List.range n).map (fun i => p.w (1 + 3 * i))
    let forced := s.prog.forces.map (fun f => f.varId) ++ s.comingForces.map (fun e => e.1)
    (s.accepts p opProgWriteVar [(outside (p.w 0) 0x7F || n = 0 || decide (64 < n) || ids.any (fun i => match s.progVar? i with
        | some v => decide (v.kind = 0)
        | none => true), stBAD_PARAM),
     (ids.any forced.contains, stNOT_PERMITTED)]) :=
  ⟨pk opProgWriteVar [1, 5, 0, 0], { mk [] with prog := { State.reset.prog with st := pgRUNNING, active := some { vars := [{ id := 5, bit := 0, word := 0, kind := 1, ty := 3 }] } } }, by decide +kernel⟩

theorem wit_ProgramPacketsComplete_7 : ∃ (p : Pkt) (s : State),
    (s.accepts p opProgStatus [(outside (p.w 0) 1, stBAD_PARAM)]) :=
  ⟨pk opProgStatus [0], mk [], by decide +kernel⟩

theorem wit_ProgramPacketsComplete_8 : ∃ (p : Pkt) (s : State),
    let m := p.w 1 + 2 ^ 32 * p.w 2 + 2 ^ 64 * p.w 3 + 2 ^ 96 * p.w 4
    (s.accepts p opProgReArm [(decide (p.w 0 ≠ 0), stBAD_PARAM)]) :=
  ⟨pk opProgReArm [0, 0, 0, 0, 0], mk [], by decide +kernel⟩

theorem wit_RecipeCommandsComplete_0 : ∃ (late : List Nat) (s : State),
    (s.runs = true) :=
  ⟨[], mk [], by decide +kernel⟩

theorem wit_RecipeCommandsComplete_1 : ∃ (p : Pkt) (s : State),
    let n := rcpNo p
    let r := s.rcp n
    let off := p.w 1
    let data := (p.params.drop 2).map (fun w => w.toNat)
    (s.accepts p opRecipeLoad [(outside (p.w 0) 0x8000003F || !(off = 0 || off = 4 * r.chunk.length) ||
        decide (16 + 32 * 4096 < off + 4 * data.length), stBAD_PARAM),
     (r.st = rcRUNNING || r.st = rcPAUSED, stNOT_PERMITTED)]) :=
  ⟨pk opRecipeLoad [0, 0, 0], mk [], by decide +kernel⟩

theorem wit_RecipeCommandsComplete_2 : ∃ (p : Pkt) (s : State),
    (s.accepts p opRecipeStart
      [(outside (p.w 0) 0x3F || (outside (p.w 1) 0xFFF || decide ((s.rcp (rcpNo p)).last < p.w 1)), stBAD_PARAM), (!([rcREADY, rcDONE, rcABORTED] : List Nat).contains (s.rcp (rcpNo p)).st, stNOT_PERMITTED)]) :=
  ⟨pk opRecipeStart [0, 0], { mk [] with prog := { State.reset.prog with recipes := [(0, { st := rcREADY })] } }, by decide +kernel⟩

theorem wit_RecipeCommandsComplete_3 : ∃ (p : Pkt) (s : State),
    (s.accepts p opRecipePause
      [(outside (p.w 0) 0x3F || false, stBAD_PARAM), (!([rcRUNNING] : List Nat).contains (s.rcp (rcpNo p)).st, stNOT_PERMITTED)]) :=
  ⟨pk opRecipePause [0], { mk [] with prog := { State.reset.prog with recipes := [(0, { st := rcRUNNING })] } }, by decide +kernel⟩

theorem wit_RecipeCommandsComplete_4 : ∃ (p : Pkt) (s : State),
    (s.accepts p opRecipeResume
      [(outside (p.w 0) 0x3F || false, stBAD_PARAM), (!([rcPAUSED] : List Nat).contains (s.rcp (rcpNo p)).st, stNOT_PERMITTED)]) :=
  ⟨pk opRecipeResume [0], { mk [] with prog := { State.reset.prog with recipes := [(0, { st := rcPAUSED })] } }, by decide +kernel⟩

theorem wit_RecipeCommandsComplete_5 : ∃ (p : Pkt) (s : State),
    (s.accepts p opRecipeAbort
      [(outside (p.w 0) 0x3F || false, stBAD_PARAM), (!([rcRUNNING, rcPAUSED] : List Nat).contains (s.rcp (rcpNo p)).st, stNOT_PERMITTED)]) :=
  ⟨pk opRecipeAbort [0], { mk [] with prog := { State.reset.prog with recipes := [(0, { st := rcRUNNING })] } }, by decide +kernel⟩

theorem wit_RecipeCommandsComplete_6 : ∃ (p : Pkt) (s : State),
    (s.accepts p opRecipeStatus [(outside (p.w 0) 0x3F, stBAD_PARAM)]) :=
  ⟨pk opRecipeStatus [0], mk [], by decide +kernel⟩

theorem wit_RecipeCommandsComplete_7 : ∃ (p : Pkt) (s : State),
    let r := s.rcp (rcpNo p)
    (s.accepts p opRecipeDelete [(outside (p.w 0) 0x3F, stBAD_PARAM), (r.st = rcRUNNING || r.st = rcPAUSED, stNOT_PERMITTED)]) :=
  ⟨pk opRecipeDelete [0], mk [], by decide +kernel⟩

theorem wit_AcquisitionEventsComplete_0 : ∃ (sig edge : Nat) (s : State),
    (s.runs = true) :=
  ⟨0, 0, mk [], by decide +kernel⟩

theorem wit_AcquisitionEventsComplete_1 : ∃ (s : State),
    let k := s.gridNext 1000000 s.time.spillGrid
    let s1 := s.advanceTo (1000000 * k)
    (s.runs = true) ∧ ((s.acqSt = aqSTREAM || s.acqSt = aqPOSTTRIG || s.acqSt = aqDRAIN)) :=
  ⟨mk [(F.ACQ_BLK_STAT_STATE, aqSTREAM)], by decide +kernel⟩

theorem wit_AcquisitionEventsComplete_2 : ∃ (s : State),
    (s.runs = true) ∧ ((s.acqSt = aqPOSTTRIG && !s.acq.stopping)) :=
  ⟨mk [(F.ACQ_BLK_STAT_STATE, aqPOSTTRIG)], by decide +kernel⟩

theorem wit_AcquisitionEventsComplete_3 : ∃ (s : State),
    (s.runs = true) ∧ ((s.acqSt = aqDRAIN && s.acq.recs.isEmpty && !s.acq.stopping)) :=
  ⟨mk [(F.ACQ_BLK_STAT_STATE, aqDRAIN)], by decide +kernel⟩

theorem wit_AcquisitionEventsComplete_4 : ∃ (s : State),
    (s.runs = true) ∧ ((s.acqSt = aqHOLDOFF)) :=
  ⟨mk [(F.ACQ_BLK_STAT_STATE, aqHOLDOFF)], by decide +kernel⟩

theorem wit_AcquisitionEventsComplete_5 : ∃ (n : Nat) (s : State),
    (s.runs = true) ∧ ((s.acqDelivers)) :=
  ⟨0, mk [(F.ACQ_BLK_STAT_STATE, aqSTREAM)], by decide +kernel⟩

theorem wit_AcquisitionEventsComplete_6 : ∃ (t : Nat) (s : State),
    (s.runs = true) ∧ ((decide (t < 4) && s.unitsRun && s.on (F.ACQT_EN t) && s.get (F.ACQT_KIND t) = 5 && !(s.acqUnit t).timed)) :=
  ⟨0, mk [(F.ACQ_BLK_STAT_STATE, aqPRETRIG), (F.ACQT_EN 0, 1), (F.ACQT_KIND 0, 5)], by decide +kernel⟩

theorem wit_AcquisitionPacketsComplete_0 : ∃ (p : Pkt) (s : State),
    let map := bitOf (p.w 0) 31
    let first := bits (p.w 0) 26 16
    let n := bits (p.w 0) 9 0
    let bad (w : Nat) : Bool := if map then outside w 0x8003FFFF else (outside w 0xFFCF1FFF || !sigOkId (bits w 12 0))
    (s.accepts p opAcqChannel [(outside (p.w 0) 0x87FF03FF || decide ((if map then 2048 else 256) < first + n) ||
        (List.range n).any (fun i => bad (p.w (1 + i))), stBAD_PARAM),
     (s.acqSt ≠ aqIDLE, stNOT_PERMITTED)]) :=
  ⟨pk opAcqChannel [0], mk [], by decide +kernel⟩

theorem wit_AcquisitionPacketsComplete_1 : ∃ (p : Pkt) (s : State),
    let us := (List.range 4).filter (fun t => bitOf (p.w 0) t)
    let ix := List.range us.length
    let w (i k : Nat) : Nat := p.w (2 + 5 * i + k)
    (s.accepts p opAcqTrigger [(outside (p.w 0) 0xF || outside (p.w 1) 0xFF || ix.any (fun i => outside (w i 0) 0xF8FFFFFF || decide (6 ≤ bits (w i 0) 30 28) ||
        (bits (w i 0) 30 28 = 4 && decide (64 ≤ bits (w i 0) 23 16))), stBAD_PARAM),
     (s.acqSt ≠ aqIDLE || us.any (fun t => s.on (F.ACQT_EN t)), stNOT_PERMITTED)]) :=
  ⟨pk opAcqTrigger [0, 0], mk [], by decide +kernel⟩

theorem wit_AcquisitionPacketsComplete_2 : ∃ (p : Pkt) (s : State),
    let log := p.w 1
    (s.accepts p opAcqArm [(outside (p.w 0) 0xF6 || decide (log < 20) || decide (31 < log) || decide (Config.dramMiB * 2 ^ 19 < 2 ^ log) ||
        decide (2 ^ log < p.w 2 * 8192) || decide (p.w 3 = 0), stBAD_PARAM),
     (s.acqSt ≠ aqIDLE || !(List.range 256).any (fun c => s.on (F.ACQC_EN c)), stNOT_PERMITTED)]) :=
  ⟨pk opAcqArm [0, 20, 128, 1, 0], mk [(F.ACQC_EN 0, 1)], by
    refine ⟨by decide +kernel, by decide +kernel, ?_, by decide +kernel⟩
    exact arm_fits _ (decide_eq_false (by
      show ¬(2 + Config.dramAbove.val) * 2 ^ 19 < 2 ^ 20
      omega))⟩

theorem wit_AcquisitionPacketsComplete_3 : ∃ (p : Pkt) (s : State),
    (s.accepts p opAcqStop [(outside (p.w 0) 1, stBAD_PARAM)]) :=
  ⟨pk opAcqStop [0], mk [], by decide +kernel⟩

theorem wit_AcquisitionPacketsComplete_4 : ∃ (p : Pkt) (s : State),
    (bits (p.w 0) 1 0 = 1) ∧ (s.accepts p opAcqStream [(outside (p.w 0) 3, stBAD_PARAM)]) :=
  ⟨pk opAcqStream [1, 1, 0], mk [], by decide +kernel⟩

theorem wit_AcquisitionPacketsComplete_5 : ∃ (p : Pkt) (s : State),
    let n := bits (p.w 0) 15 8
    (bits (p.w 0) 1 0 = 0) ∧ (s.accepts p opAcqStream
      [(outside (p.w 0) 0xFF03 || decide (bits (p.w 0) 1 0 ≠ 0) || n = 0 || decide (64 < n) || (streamBufs p n).any bufBad, stBAD_PARAM),
       (s.acq.bufs.any AcqBuf.handed, stNOT_PERMITTED)]) :=
  ⟨pk opAcqStream [256, 4096, 1, 65536], mk [], by decide +kernel⟩

theorem wit_AcquisitionPacketsComplete_6 : ∃ (p : Pkt) (s : State),
    (s.accepts p opAcqStatus [(decide (p.w 0 ≠ 0), stBAD_PARAM)]) :=
  ⟨pk opAcqStatus [0], mk [], by decide +kernel⟩

theorem wit_AcquisitionPacketsComplete_7 : ∃ (p : Pkt) (s : State),
    let c := bits (p.w 0) 7 0
    (s.accepts p opAcqMeasure [(outside (p.w 0) 0xFF || !bitOf (s.acqRed c) 3, stBAD_PARAM), (!s.captureHeld, stNOT_PERMITTED)]) :=
  ⟨pk opAcqMeasure [0], { mk [(F.ACQC_RED 0, 8)] with acq := { State.reset.acq with capture := some ([{ words := [] }], 0) } }, by decide +kernel⟩

theorem wit_CanEventsComplete_0 : ∃ (c mode : Nat) (s : State),
    ((c < 4)) :=
  ⟨0, 0, mk [], by decide +kernel⟩

theorem wit_CanEventsComplete_1 : ∃ (c : Nat) (s : State),
    (s.runs = true) ∧ ((c < 4)) :=
  ⟨0, mk [], by decide +kernel⟩

theorem wit_CanEventsComplete_2 : ∃ (c : Nat) (f : CanFrame) (s0 : State),
    let s := s0.advanceTick f.ts
    let g := s.canStamp f
    (s0.runs = true) ∧ (¬(4 ≤ c || s0.mirCan c || !s0.canOn c)) :=
  ⟨0, {}, mk [(F.CAN_STATE 0, cnACTIVE)], by decide +kernel⟩

theorem wit_CanEventsComplete_3 : ∃ (c k : Nat) (v : Word) (s : State),
    ((c < 4 && k < 4)) :=
  ⟨0, 0, 0, mk [], by decide +kernel⟩

theorem wit_CanEventsComplete_4 : ∃ (c m res lec inc ts : Nat) (tdcv : Option Nat) (s0 : State),
    let s := s0.advanceTick ts
    (s0.runs = true) ∧ ((c < 4 && m < 128 && s.canOn c && (s.canMd c = 3 || (s.canMd c = 1 && s.on F.SYS_ARM_OUTEN)) &&
      decide (1 ≤ res) && decide (res ≤ 3) && decide (lec ≤ 6) && (inc = 0 || inc = 8) && s.canOffered c m ts)) :=
  ⟨0, 0, 1, 0, 0, 0, none, mk [(F.CAN_STATE 0, cnACTIVE), (F.CAN_MODE 0, 1), (F.CANO_DIR 0 0, 1), (F.CANO_TXREQ 0 0, 1), (F.SYS_ARM_OUTEN, 1)], by decide +kernel⟩

theorem wit_CanEventsComplete_5 : ∃ (c k : Nat) (v : Word) (onBus : Option Nat) (s : State),
    (c < 4) ∧ (k < 4) :=
  ⟨0, 0, 0, none, mk [], by decide +kernel⟩

theorem wit_CanEventsComplete_6 : ∃ (c : Nat) (s : State),
    ((c < 4)) :=
  ⟨0, mk [], by decide +kernel⟩

theorem wit_CanEventsComplete_7 : ∃ (c : Nat) (s : State),
    (s.runs = true) ∧ ((c < 4 && s.canSt c = cnRECOVERING)) :=
  ⟨0, mk [(F.CAN_STATE 0, cnRECOVERING)], by decide +kernel⟩

theorem wit_CanEventsComplete_8 : ∃ (c m : Nat) (v : Word) (s : State),
    ((c < 4 && m < 128)) :=
  ⟨0, 0, 0, mk [], by decide +kernel⟩

theorem wit_CanEventsComplete_9 : ∃ (c : Nat) (p : Pkt) (e : Nat) (r : List (Pkt × Nat)) (s : State),
    ((s.canI c).cfg = (p, e) :: r) :=
  ⟨0, {}, 0, [], { mk [] with can := [(0, { cfg := [({}, 0)] })] }, by decide +kernel⟩

theorem wit_CanEventsComplete_10 : ∃ (c lec : Nat) (e : CanErr) (s : State),
    (s.runs = true) ∧ ((c < 4 && s.canOn c && decide (1 ≤ lec) && decide (lec ≤ 6))) :=
  ⟨0, 1, .tec8, mk [(F.CAN_STATE 0, cnACTIVE)], by decide +kernel⟩

theorem wit_CanEventsComplete_11 : ∃ (c : Nat) (s : State),
    (s.runs = true) ∧ ((c < 4 && s.canOn c)) :=
  ⟨0, mk [(F.CAN_STATE 0, cnACTIVE)], by decide +kernel⟩

theorem wit_CanPacketsComplete_0 : ∃ (p : Pkt) (s : State),
    let c := canNo p
    (s.accepts p opCanConfig [(outside (p.w 0) 3 || outside (p.w 1) 0x73 || outside (p.w 2) 0xFFFFFF7F || outside (p.w 3) 0x1FF1F0F ||
        outside (p.w 4) 0x8000007F || nbtBad (p.w 2) || dbtBad (p.w 3), stBAD_PARAM)]) :=
  ⟨pk opCanConfig [0, 0, 256, 0, 0], mk [], by decide +kernel⟩

theorem wit_CanPacketsComplete_1 : ∃ (p : Pkt) (s : State),
    let c := canNo p
    let m := canObj p
    let clears := s.on (F.CANO_EN c m) && !bitOf (p.w 1) 31
    (s.accepts p opCanObject [(outside (p.w 0) 0x7F03 || outside (p.w 1) 0xFF000000 || outside (p.w 2) 0x1FFFFFFF || outside (p.w 3) 0x1FFFFFFF, stBAD_PARAM),
     (s.objLocked c m && !clears, stBUSY)]) :=
  ⟨pk opCanObject [0, 0, 0, 0], mk [], by decide +kernel⟩

theorem wit_CanPacketsComplete_2 : ∃ (p : Pkt) (s : State),
    let c := canNo p
    let m := canObj p
    let st := s.canSt c
    (s.accepts p opCanTransmit [(outside (p.w 0) 0x7F03 || outside (p.w 1) 0xF, stBAD_PARAM),
     (!s.on (F.CANO_DIR c m) || st = cnCONFIG || s.get (F.CAN_MODE c) = 2 || st = cnBUS_OFF ||
        (s.on (F.CANO_FDF c m) && !s.on (F.CAN_FD_EN c)), stNOT_PERMITTED), (s.on (F.CANO_TXREQ c m), stQUEUE_FULL)]) :=
  ⟨pk opCanTransmit (List.replicate 18 0), mk [(F.CAN_STATE 0, cnACTIVE), (F.CANO_DIR 0 0, 1)], by decide +kernel⟩

theorem wit_CanPacketsComplete_3 : ∃ (p : Pkt) (s : State),
    let c := canNo p
    let ms := (List.range 4).flatMap (fun k => objsOf k (p.w (k + 1)))
    let now := ms.take 48
    (s.accepts p opCanReceive [(outside (p.w 0) 0x10003, stBAD_PARAM)]) :=
  ⟨pk opCanReceive [0, 0, 0, 0, 0], mk [], by decide +kernel⟩

theorem wit_CanPacketsComplete_4 : ∃ (p : Pkt) (s : State),
    let c := canNo p
    let b := bCAN c
    (s.accepts p opCanStatus [(outside (p.w 0) 0x10003, stBAD_PARAM)]) :=
  ⟨pk opCanStatus [0], mk [], by decide +kernel⟩

theorem wit_SluiceEventsComplete_0 : ∃ (count : Nat) (s : State),
    (((decide (count < 3600) || decide (4400 < count)) && !s.sto.held)) :=
  ⟨0, mk [], by decide +kernel⟩

theorem wit_SluiceEventsComplete_1 : ∃ (p : Pkt) (s : State),
    (s.accepts p opSluiceStatus []) :=
  ⟨pk opSluiceStatus [], mk [], by decide +kernel⟩

theorem wit_SluiceEventsComplete_2 : ∃ (p : Pkt) (s : State),
    (s.accepts p opSluiceRequest []) :=
  ⟨pk opSluiceRequest [0, 0, 0, 0, 0, 0, 0, 0], mk [], by decide +kernel⟩

theorem wit_SluiceEventsComplete_3 : ∃ (sin fb diag : Nat) (s : State),
    (¬(s.suSt = suTEST || s.sto.held || decide (7 < diag))) :=
  ⟨0, 0, 0, mk [(F.STO_BLK_STAT_STATE, suARMED)], by decide +kernel⟩

theorem wit_SluiceEventsComplete_4 : ∃ (code : Nat) (s : State),
    ((s.suSt = suTEST && !s.sto.held && decide (code ≤ 7))) :=
  ⟨0, mk [], by decide +kernel⟩

theorem wit_SluiceEventsComplete_6 : ∃ (j port : Nat) (s : State),
    let f := if port = 0 then F.STO_CONN_OK_B j else F.STO_CONN_OK_A j
    ((j < 16 && port < 2 && s.on f && s.connEn j)) :=
  ⟨0, 0, { mk [(F.STO_CONN_OK_B 0, 1)] with sto := { State.reset.sto with cfg := (List.replicate 44 0) ++ [0x18000] } }, by decide +kernel⟩

theorem wit_SluiceEventsComplete_7 : ∃ (v : Word) (s : State),
    let ws := (List.range 7).map (iw s.sto.mail) ++ [v.toNat]
    (¬(s.sto.req.isSome)) :=
  ⟨0, mk [], by decide +kernel⟩

theorem wit_SluiceEventsComplete_8 : ∃ (p : Pkt) (e : Nat) (r : List (Pkt × Nat)) (s : State),
    (s.sto.expiry = (p, e) :: r) :=
  ⟨{}, 0, [], { mk [] with sto := { State.reset.sto with expiry := [({}, 0)] } }, by decide +kernel⟩

theorem wit_SluiceRequestsComplete_0 : ∃ (ws : List Nat) (p : Option Pkt) (s : State),
    (s.sto.req = some (ws, p)) ∧ (bits (iw ws 0) 31 24 = 1) ∧ (s.sto.held = false) ∧ (s.rqCheck ws = rqOK) :=
  ⟨[0x1000100, 0x0, 0x0, 0x0, 0x0, 0x0, 0x0, 0xf11e4d8a], none, { mk [(F.STO_BLK_STAT_STATE, suSAFE)] with sto := { State.reset.sto with req := some ([0x1000100, 0x0, 0x0, 0x0, 0x0, 0x0, 0x0, 0xf11e4d8a], none) } }, by decide +kernel⟩

theorem wit_SluiceRequestsComplete_1 : ∃ (ws : List Nat) (p : Option Pkt) (s : State),
    (s.sto.req = some (ws, p)) ∧ (bits (iw ws 0) 31 24 = 2) ∧ (s.sto.held = false) ∧ (s.rqCheck ws = rqOK) :=
  ⟨stgReq, none, { mk [(F.STO_BLK_STAT_STATE, suSAFE)] with sto := { State.reset.sto with req := some (stgReq, none), staging := stg } }, by decide +kernel, by decide +kernel, by decide +kernel, stg_ok⟩

theorem wit_SluiceRequestsComplete_2 : ∃ (ws : List Nat) (p : Option Pkt) (s : State),
    (s.sto.req = some (ws, p)) ∧ (bits (iw ws 0) 31 24 = 3) ∧ (s.sto.held = false) ∧ (s.rqCheck ws = rqOK) :=
  ⟨[0x3000000, 0x0, 0x0, 0x0, 0x0, 0x0, 0x0, 0x69ca94c4], none, { mk [(F.STO_BLK_STAT_STATE, suSAFE), (F.STO_BLK_STAT_CFG_VALID, 1)] with sto := { State.reset.sto with req := some ([0x3000000, 0x0, 0x0, 0x0, 0x0, 0x0, 0x0, 0x69ca94c4], none) } }, by decide +kernel⟩

theorem wit_SluiceRequestsComplete_3 : ∃ (ws : List Nat) (p : Option Pkt) (s : State),
    (s.sto.req = some (ws, p)) ∧ (bits (iw ws 0) 31 24 = 4) ∧ (s.sto.held = false) ∧ (s.rqCheck ws = rqOK) :=
  ⟨[0x4000000, 0x0, 0x0, 0x0, 0x0, 0x0, 0x0, 0xa60d0e04], none, { mk [(F.STO_BLK_STAT_STATE, suARMED)] with sto := { State.reset.sto with req := some ([0x4000000, 0x0, 0x0, 0x0, 0x0, 0x0, 0x0, 0xa60d0e04], none) } }, by decide +kernel⟩

theorem wit_SluiceRequestsComplete_4 : ∃ (ws : List Nat) (p : Option Pkt) (s : State),
    (s.sto.req = some (ws, p)) ∧ (bits (iw ws 0) 31 24 = 5) ∧ (s.sto.held = false) ∧ (s.rqCheck ws = rqOK) :=
  ⟨[0x5000001, 0x0, 0x0, 0x0, 0x0, 0x0, 0x0, 0xe013ee9b], none, { mk [(F.STO_BLK_STAT_STATE, suARMED)] with sto := { State.reset.sto with req := some ([0x5000001, 0x0, 0x0, 0x0, 0x0, 0x0, 0x0, 0xe013ee9b], none) } }, by decide +kernel⟩

theorem wit_SluiceRequestsComplete_5 : ∃ (ws : List Nat) (p : Option Pkt) (s : State),
    (s.sto.req = some (ws, p)) ∧ (bits (iw ws 0) 31 24 = 6) ∧ (s.sto.held = false) ∧ (s.rqCheck ws = rqOK) :=
  ⟨[0x6000001, 0x0, 0x0, 0x0, 0x0, 0x0, 0x0, 0x762685a0], none, { mk [(F.STO_BLK_STAT_STATE, suARMED)] with sto := { State.reset.sto with req := some ([0x6000001, 0x0, 0x0, 0x0, 0x0, 0x0, 0x0, 0x762685a0], none) } }, by decide +kernel⟩

theorem wit_SluiceRequestsComplete_6 : ∃ (ws : List Nat) (p : Option Pkt) (s : State),
    (s.sto.req = some (ws, p)) ∧ (bits (iw ws 0) 31 24 = 7) ∧ (s.sto.held = false) ∧ (s.rqCheck ws = rqOK) :=
  ⟨[0x7000001, 0x0, 0x0, 0x0, 0x0, 0x0, 0x0, 0x435a349], none, { mk [(F.STO_BLK_STAT_STATE, suARMED)] with sto := { State.reset.sto with req := some ([0x7000001, 0x0, 0x0, 0x0, 0x0, 0x0, 0x0, 0x435a349], none) } }, by decide +kernel⟩

theorem wit_SluiceRequestsComplete_7 : ∃ (ws : List Nat) (p : Option Pkt) (s : State),
    (s.sto.req = some (ws, p)) ∧ (bits (iw ws 0) 31 24 = 8) ∧ (s.sto.held = false) ∧ (s.rqCheck ws = rqOK) :=
  ⟨[0x8000001, 0x0, 0x0, 0x0, 0x0, 0x0, 0x0, 0x7817da7f], none, { mk [(F.STO_BLK_STAT_STATE, suARMED)] with sto := { State.reset.sto with req := some ([0x8000001, 0x0, 0x0, 0x0, 0x0, 0x0, 0x0, 0x7817da7f], none) } }, by decide +kernel⟩

theorem wit_SluiceRequestsComplete_8 : ∃ (ws : List Nat) (p : Option Pkt) (s : State),
    (s.sto.req = some (ws, p)) ∧ (bits (iw ws 0) 31 24 = 9) ∧ (s.sto.held = false) ∧ (s.rqCheck ws = rqOK) :=
  ⟨[0x9000001, 0x0, 0x0, 0x0, 0x0, 0x0, 0x0, 0xa04fc96], none, { mk [(F.STO_BLK_STAT_STATE, suARMED)] with sto := { State.reset.sto with req := some ([0x9000001, 0x0, 0x0, 0x0, 0x0, 0x0, 0x0, 0xa04fc96], none) } }, by decide +kernel⟩

theorem wit_SpliceCommandsComplete_0 : ∃ (l : Nat) (s : State),
    (l < 2) ∧ (s.on (splEn l) = true) ∧ (s.on (splUpBit l) = false) ∧ (s.on (sdsLock 0) = true) :=
  ⟨0, mk [(splEn 0, 1), (sdsLock 0, 1)], by decide +kernel⟩

theorem wit_SpliceCommandsComplete_1 : ∃ (l : Nat) (s : State),
    (l < 2) ∧ (s.on (splEn l) = true) ∧ (s.on (splUpBit l) = true) :=
  ⟨0, splOn, by decide +kernel⟩

theorem wit_SpliceCommandsComplete_2 : ∃ (f : SplFrame) (offset : Int) (hops : Nat) (uids : List Nat) (s : State),
    (s.runs = true) ∧ (f.link < 2) ∧ (s.splUp f.link = true) ∧ (f.crcOk = true) ∧ ((timeWords hops uids).length ≤ 1021) ∧ (f.dst = s.get F.SPL_ID) :=
  ⟨fr, 0, 0, [], splOn, by decide +kernel⟩

theorem wit_SpliceCommandsComplete_3 : ∃ (f : SplFrame) (core : Nat) (word : Word) (ts : Nat) (s : State),
    (s.runs = true) ∧ (f.link < 2) ∧ (s.splUp f.link = true) ∧ (f.crcOk = true) ∧ (([word.toNat, core] ++ w64 ts).length ≤ 1021) ∧ (f.dst = s.get F.SPL_ID) :=
  ⟨fr, 0, 0, 0, splOn, by decide +kernel⟩

theorem wit_SpliceCommandsComplete_4 : ∃ (e : SigHeld) (r : List SigHeld) (s : State),
    (s.runs = true) ∧ (s.splice.sigs = e :: r) :=
  ⟨{}, [], { mk [] with splice := { State.reset.splice with sigs := [{}] } }, by decide +kernel⟩

theorem wit_SpliceCommandsComplete_5 : ∃ (f : SplFrame) (ws : List Word) (s : State),
    (s.runs = true) ∧ (f.link < 2) ∧ (s.splUp f.link = true) ∧ (f.crcOk = true) ∧ ((ws.map (fun w => w.toNat)).length ≤ 1021) ∧ (f.dst = s.get F.SPL_ID) :=
  ⟨fr, [], splOn, by decide +kernel⟩

theorem wit_SpliceCommandsComplete_6 : ∃ (f : SplFrame) (ws : List Word) (stamp : Nat) (s : State),
    let l := ws.map (fun w => w.toNat)
    (s.runs = true) ∧ (f.link < 2) ∧ (s.splUp f.link = true) ∧ (f.crcOk = true) ∧ (l.length ≤ 1021) ∧ (f.dst = s.get F.SPL_ID) :=
  ⟨fr, [], 0, splOn, by decide +kernel⟩

theorem wit_LashingStreamsComplete_0 : ∃ (f : SplFrame) (c : LashControl) (s : State),
    (s.runs = true) ∧ (f.link < 2) ∧ (s.splUp f.link = true) ∧ (f.crcOk = true) ∧ ((controlWords c).length ≤ 1021) ∧ (f.dst = s.get F.SPL_ID) :=
  ⟨fr, {}, splOn, by decide +kernel⟩

theorem wit_LashingStreamsComplete_1 : ∃ (f : SplFrame) (c : Nat) (p : Pkt) (status : Nat) (s : State),
    (s.runs = true) ∧ (f.link < 2) ∧ (s.splUp f.link = true) ∧ (f.crcOk = true) ∧ ((cmdWords c p status).length ≤ 1021) ∧ (f.dst = s.get F.SPL_ID) ∧ ((s.incSat (F.SPLL_RX_FRAMES f.link)).mirTakes f = true) :=
  ⟨fr, 0, {}, 0, mirOn lsSTANDBY, by decide +kernel⟩

theorem wit_LashingStreamsComplete_2 : ∃ (f : SplFrame) (c : Nat) (item : MirItem) (s : State),
    (s.runs = true) ∧ (f.link < 2) ∧ (s.splUp f.link = true) ∧ (f.crcOk = true) ∧ ((c :: itemWords item).length ≤ 1021) ∧ (f.dst = s.get F.SPL_ID) ∧ ((s.incSat (F.SPLL_RX_FRAMES f.link)).mirTakes f = true) :=
  ⟨fr, 0, .tick 0, mirOn lsSTANDBY, by decide +kernel⟩

theorem wit_LashingStreamsComplete_3 : ∃ (f : SplFrame) (d : ProgDelta) (last : Bool) (s : State),
    (s.runs = true) ∧ (f.link < 2) ∧ (s.splUp f.link = true) ∧ (f.crcOk = true) ∧ ((deltaWords d last).length ≤ 1021) ∧ (f.dst = s.get F.SPL_ID) ∧ ((s.incSat (F.SPLL_RX_FRAMES f.link)).mirTakes f = true) :=
  ⟨fr, {}, false, mirOn lsSTANDBY, by decide +kernel⟩

theorem wit_LashingStreamsComplete_4 : ∃ (f : SplFrame) (part : SnapPart) (last : Bool) (s : State),
    (s.runs = true) ∧ (f.link < 2) ∧ (s.splUp f.link = true) ∧ (f.crcOk = true) ∧ ((snapWords part last).length ≤ 1021) ∧ (f.dst = s.get F.SPL_ID) ∧ ((s.incSat (F.SPLL_RX_FRAMES f.link)).mirTakes f = true) :=
  ⟨fr, .words 0 [], false, mirOn lsSYNCING, by decide +kernel⟩

theorem wit_LashingStreamsComplete_5 : ∃ (f : SplFrame) (seed : Seed) (s : State),
    (s.runs = true) ∧ (f.link < 2) ∧ (s.splUp f.link = true) ∧ (f.crcOk = true) ∧ ((seedWords seed).length ≤ 1021) ∧ (f.dst = s.get F.SPL_ID) ∧ ((s.incSat (F.SPLL_RX_FRAMES f.link)).mirTakes f = true) :=
  ⟨fr, .slot 0 0 0 [] [] [], { mirOn lsSYNCING with lash := { State.reset.lash with loaded := true } }, by decide +kernel⟩

theorem wit_LashingStreamsComplete_6 : ∃ (x d : Dig) (r : List Dig) (s : State),
    (s.runs = true) ∧ (s.lash.digs = x :: d :: r) ∧ (s.on F.LASH_EN = true) ∧ (s.lashPaired = true) ∧ (s.ringRuns = true) :=
  ⟨{}, {}, [], { ringed [(F.LASH_EN, 1), (F.SPLICE_BLK_STAT_LASH_STATE, lsACTIVE)] with lash := { State.reset.lash with digs := [{}, {}] } }, by decide +kernel⟩

theorem wit_LashingStreamsComplete_7 : ∃ (rx : List (Nat × List Word)) (s : State),
    (s.runs = true) ∧ ((s.on F.LASH_EN && s.ringRuns &&
      (s.lashSt = lsSTANDBY || (s.lashSt = lsACTIVE && s.lash.partner ≠ 0) || (s.lashSt = lsSYNCING && s.seedDone)))) :=
  ⟨[], ringed [(F.LASH_EN, 1), (F.SPLICE_BLK_STAT_LASH_STATE, lsSTANDBY)], by decide +kernel⟩

theorem wit_LashingStreamsComplete_8 : ∃ (s : State),
    let tmo := s.lash.since + 10000000 * max 1 (s.get F.LASH_LONE_TMO)
    (s.runs = true) ∧ (s.lashSt = lsSEEKING) ∧ (s.lash.seen = 0 ∨ s.lash.seen + 1000000 ≤ (s.advanceTo tmo).now) ∧ ((∀ k r, s.lash.pairCyc = k :: r → s.ringRuns = false ∨ k + 16 ≤ s.get F.RING_CYCLE_NUM)) :=
  ⟨mk [(F.SPLICE_BLK_STAT_LASH_STATE, lsSEEKING)], by decide +kernel, by decide +kernel, by decide +kernel, by
    intro k r h
    have h1 : ([] : List Nat) = k :: r := h
    cases h1⟩

theorem wit_LashingStreamsComplete_9 : ∃ (p : Pkt) (e : Nat) (r : List (Pkt × Nat)) (s : State),
    (s.lash.snapPkt = (p, e) :: r) :=
  ⟨{}, 0, [], { mk [] with lash := { State.reset.lash with snapPkt := [({}, 0)] } }, by decide +kernel⟩

theorem wit_LashingStreamsComplete_10 : ∃ (s : State),
    (s.lash.snapPkt = []) ∧ (s.lashSt = lsSYNCING) :=
  ⟨mk [(F.SPLICE_BLK_STAT_LASH_STATE, lsSYNCING)], by decide +kernel⟩

theorem wit_LashingStreamsComplete_11 : ∃ (p : Pkt) (e : Nat) (r : List (Pkt × Nat)) (s : State),
    (s.lash.switchPkt = (p, e) :: r) ∧ (s.lash.switchCyc = none) :=
  ⟨{}, 0, [], { mk [] with lash := { State.reset.lash with switchPkt := [({}, 0)] } }, by decide +kernel⟩

theorem wit_LashSplicePacketsComplete_0 : ∃ (p : Pkt) (s : State),
    let op := bits (p.w 0) 1 0
    let paired := s.lash.partner = lsSYNCING || s.lash.partner = lsSTANDBY
    let ws := (p.params.drop 1).map (fun w => w.toNat)
    (s.accepts p opLashConfig [(s.lashCfgBad p, stBAD_PARAM), (op = 0 && s.lashSt = lsACTIVE && paired, stNOT_PERMITTED), (op = 1 && s.lashSt ≠ lsACTIVE, stNOT_PERMITTED)]) :=
  ⟨pk opLashConfig [1, 0, 0, 0, 0, 0, 0, 0, 0, 0, 0, 0], mk [(F.SPLICE_BLK_STAT_LASH_STATE, lsACTIVE)], by decide +kernel⟩

theorem wit_LashSplicePacketsComplete_1 : ∃ (p : Pkt) (s : State),
    (s.accepts p opLashStatus []) :=
  ⟨pk opLashStatus [], mk [], by decide +kernel⟩

theorem wit_LashSplicePacketsComplete_2 : ∃ (p : Pkt) (s : State),
    (s.accepts p opLashSwitch [(p.w 0 ≠ 0, stBAD_PARAM), (s.lashSt ≠ lsACTIVE || s.lash.partner ≠ lsSTANDBY, stNOT_PERMITTED)]) :=
  ⟨pk opLashSwitch [0, 0], { mk [(F.SPLICE_BLK_STAT_LASH_STATE, lsACTIVE)] with lash := { State.reset.lash with partner := lsSTANDBY } }, by decide +kernel⟩

theorem wit_LashSplicePacketsComplete_3 : ∃ (p : Pkt) (s : State),
    (s.accepts p opLashSnapshot [(p.w 0 ≠ 0, stBAD_PARAM), (s.lashSt ≠ lsACTIVE || !(s.lash.partner = lsSEEKING || s.lash.partner = lsLOST), stNOT_PERMITTED),
     (!schemaOk (s.get F.LASH_OWN_SCHEMA) (s.get F.LASH_PARTNER_SCHEMA), stVERSION_MISMATCH)]) :=
  ⟨pk opLashSnapshot [0], { mk [(F.SPLICE_BLK_STAT_LASH_STATE, lsACTIVE)] with lash := { State.reset.lash with partner := lsLOST } }, by decide +kernel⟩

theorem wit_LashSplicePacketsComplete_4 : ∃ (p : Pkt) (s : State),
    let off := [0, 1].filter (fun l => s.on (splEn l) && !bitOf (p.w 1) l)
    let cores := (List.range 8).filter (fun c => bitOf (s.get F.SPL_CORES) c && !bitOf (p.w 3) c)
    let paired := s.lash.partner = lsSYNCING || s.lash.partner = lsSTANDBY
    (s.accepts p opSpliceConfig [(spliceCfgBad p, stBAD_PARAM),
     (off.any (fun l => s.mirrorLinks.contains l) && s.on F.LASH_EN && paired, stNOT_PERMITTED),
     (off.any s.splFeeds || cores.any s.splCoreFeeds, stLOOP_CLOSED)]) :=
  ⟨pk opSpliceConfig [0, 0, 0, 0], mk [], by decide +kernel⟩

theorem wit_LashSplicePacketsComplete_5 : ∃ (p : Pkt) (s : State),
    (s.accepts p opSpliceStatus []) :=
  ⟨pk opSpliceStatus [], mk [], by decide +kernel⟩

theorem wit_SecurityOperationsComplete_0 : ∃ (r : Requester) (s : State),
    (s.domainOf r = 0) ∧ (s.sec.op = none) :=
  ⟨.core 0, mk [], by decide +kernel⟩

theorem wit_SecurityOperationsComplete_1 : ∃ (r : Requester) (s : State),
    (s.domainOf r = 0) ∧ (s.sec.op = none) :=
  ⟨.core 0, mk [], by decide +kernel⟩

theorem wit_SecurityOperationsComplete_2 : ∃ (r : Requester) (s : State),
    (s.domainOf r = 0) ∧ (s.sec.op = none) :=
  ⟨.core 0, mk [], by decide +kernel⟩

theorem wit_SecurityOperationsComplete_3 : ∃ (s : State),
    (s.sec.op = some 1) ∧ (rangeOk s.opAddr (s.get F.SEC_LEN) = true) :=
  ⟨{ mk [(F.SEC_ADDR_LO, 0x08000000)] with sec := { State.reset.sec with op := some 1 } }, by decide +kernel⟩

theorem wit_SecurityOperationsComplete_4 : ∃ (s : State),
    (s.sec.op = some 2) ∧ (rangeOk s.opAddr (s.get F.SEC_LEN) = true) :=
  ⟨{ mk [(F.SEC_ADDR_LO, 0x08000000)] with sec := { State.reset.sec with op := some 2 } }, by decide +kernel⟩

theorem wit_SecurityOperationsComplete_5 : ∃ (op : Nat) (s : State),
    (s.sec.op = some op) ∧ (op ≤ 2) ∧ (rangeOk s.opAddr (s.get F.SEC_LEN) = false) :=
  ⟨1, { mk [] with sec := { State.reset.sec with op := some 1 } }, by decide +kernel⟩

theorem wit_SecurityOperationsComplete_6 : ∃ (s : State),
    (s.sec.op = some 3) :=
  ⟨{ mk [] with sec := { State.reset.sec with op := some 3 } }, by decide +kernel⟩

theorem wit_SecurityOperationsComplete_7 : ∃ (p : Pkt) (s : State),
    (s.sec.attPkt = some p) :=
  ⟨{}, { mk [] with sec := { State.reset.sec with attPkt := some {} } }, by decide +kernel⟩

theorem wit_SecurityOperationsComplete_8 : ∃ (s : State),
    ((s.sec.challenge.isSome)) :=
  ⟨{ mk [] with sec := { State.reset.sec with challenge := some [] } }, by decide +kernel⟩

theorem wit_SecurityOperationsComplete_9 : ∃ (p : Pkt) (ty : Nat) (ws : List Nat) (r : List (Pkt × Nat × List Nat)) (s : State),
    (s.sec.writes = (p, ty, ws) :: r) :=
  ⟨{}, 0, [], [], { mk [] with sec := { State.reset.sec with writes := [({}, 0, [])] } }, by decide +kernel⟩

theorem wit_SecurityPacketsComplete_0 : ∃ (p : Pkt) (s : State),
    let len := 4 * s.sec.report.length
    (s.accepts p opSecAttest (if bitOf (p.w 0) 0 then
      [(outside (p.w 0) 1, stBAD_PARAM), (s.sec.report.isEmpty, stNOT_PERMITTED), (decide (len ≤ p.w 1), stBAD_PARAM)]
    else
      [(outside (p.w 0) 1, stBAD_PARAM), (s.get F.SEC_BLK_STAT_DBG_LEVEL = 2, stNOT_PERMITTED), (s.sec.attBusy, stBUSY)])) :=
  ⟨pk opSecAttest [0, 0, 0, 0, 0, 0, 0, 0, 0], mk [], by decide +kernel⟩

theorem wit_SecurityPacketsComplete_1 : ∃ (p : Pkt) (s : State),
    (s.accepts p opSecCertRead [(outside (p.w 0) 1, stBAD_PARAM)]) :=
  ⟨pk opSecCertRead [0, 0], mk [], by decide +kernel⟩

theorem wit_SecurityPacketsComplete_2 : ∃ (p : Pkt) (s : State),
    let ty := bits (p.w 0) 7 0
    let data := (p.params.drop 2).map (fun w => w.toNat)
    (s.accepts p opSecImageWrite [(outside (p.w 0) 0x800000FF || !([tyLOADER, tyFIRMWARE, tyCORE_CODE, tyKEYS].contains ty) || !s.chunkFits ty (p.w 1), stBAD_PARAM)]) :=
  ⟨{ pk opSecImageWrite [0x80000003, 0, 0] with signed := true }, { State.reset with host := { State.reset.host with verified := [(0, 0, 0, 4)] } }, by decide +kernel⟩

theorem wit_SecurityPacketsComplete_3 : ∃ (p : Pkt) (s : State),
    let k := bits (p.w 0) 2 0
    (s.accepts p opSecKeyRevoke [(outside (p.w 0) 7, stBAD_PARAM), (!bitOf s.otp.revoked k && (s.lastOfClass k || s.signedRunning k), stNOT_PERMITTED)]) :=
  ⟨{ pk opSecKeyRevoke [5] with signed := true }, { State.reset with host := { State.reset.host with verified := [(0, 0, 0, 4)] }, otp := { State.reset.otp with hashes := [(4, 1), (5, 1)] } }, by decide +kernel⟩

theorem wit_SecurityPacketsComplete_4 : ∃ (p : Pkt) (s : State),
    (s.accepts p opSecDebugChallenge []) :=
  ⟨pk opSecDebugChallenge [], mk [], by decide +kernel⟩

theorem wit_SecurityPacketsComplete_5 : ∃ (p : Pkt) (s : State),
    let level := bits (p.w 0) 1 0
    (s.accepts p opSecDebugUnlock [(outside (p.w 0) 3 || level = 0 || level = 3, stBAD_PARAM), (bitOf s.otp.cfg 1, stNOT_PERMITTED),
     (s.sec.challenge ≠ some ((List.range 8).map (fun i => p.w (1 + i))), stBAD_PARAM)]) :=
  ⟨{ pk opSecDebugUnlock [1, 0, 0, 0, 0, 0, 0, 0, 0] with signed := true }, { State.reset with host := { State.reset.host with verified := [(0, 0, 0, 4)] }, sec := { State.reset.sec with challenge := some (List.replicate 8 0) } }, by decide +kernel⟩

theorem wit_SecurityPacketsComplete_6 : ∃ (p : Pkt) (s : State),
    let v := bits (p.w 0) 7 0
    (s.accepts p opSecRollback [(outside (p.w 0) 0xFF || s.rollbackBad v, stBAD_PARAM)]) :=
  ⟨{ pk opSecRollback [1] with signed := true }, { mk [(F.SEC_LDR_SVN, 1), (F.SEC_FW_SVN, 1)] with host := { State.reset.host with verified := [(0, 0, 0, 4)] } }, by decide +kernel⟩

theorem wit_InterruptCommandsComplete_0 : ∃ (n : Nat) (s : State),
    (irqHasLine n = true) :=
  ⟨0, mk [], by decide +kernel⟩

theorem wit_InterruptCommandsComplete_1 : ∃ (n : Nat) (l : Bool) (s : State),
    (irqHasLine n = true) :=
  ⟨0, false, mk [], by decide +kernel⟩

theorem wit_InterruptCommandsComplete_2 : ∃ (t : Nat) (s : State),
    (t < 8) :=
  ⟨0, mk [], by decide +kernel⟩

theorem wit_InterruptCommandsComplete_3 : ∃ (t : Nat) (v : Word) (s : State),
    let n := bits v.toNat 8 0
    let s1 := s.setInService n false
    (t < 8) ∧ (s.irqInService n = true) ∧ (s.get (F.IRQS_TARGET n) = t) :=
  ⟨0, 0, mk [(F.IRQ_INSV 0, 1)], by decide +kernel⟩

theorem wit_InterruptCommandsComplete_5 : ∃ (g : Nat) (s : State),
    ((s.on (F.IRQG_HOLDING g) && decide (s.get (F.IRQG_TIME g) ≠ 0))) :=
  ⟨0, mk [(F.IRQG_HOLDING 0, 1), (F.IRQG_TIME 0, 1)], by decide +kernel⟩

theorem wit_PowerCommandsComplete_0 : ∃ (s : State),
    ((s.get F.IRQ_BLK_STAT_POWER = 1)) :=
  ⟨mk [(F.IRQ_BLK_STAT_POWER, 1)], by decide +kernel⟩

theorem wit_PowerCommandsComplete_1 : ∃ (s : State),
    ((s.get F.IRQ_BLK_STAT_POWER = 0)) :=
  ⟨mk [], by decide +kernel⟩

theorem wit_PowerCommandsComplete_2 : ∃ (s : State),
    (s.get F.IRQ_BLK_STAT_POWER < 2) ∧ (s.standbyRefuse = 0) :=
  ⟨mk [], by decide +kernel⟩

theorem wit_PowerCommandsComplete_4 : ∃ (s : State),
    (¬(s.get F.IRQ_BLK_STAT_POWER ≠ 2)) :=
  ⟨mk [(F.IRQ_BLK_STAT_POWER, 2)], by decide +kernel⟩

theorem wit_PowerCommandsComplete_5 : ∃ (w : Nat) (s : State),
    ((s.irq.sensing && decide (w < 32))) :=
  ⟨0, { mk [] with irq := { State.reset.irq with sensing := true } }, by decide +kernel⟩

theorem wit_RecorderEventsComplete_0 : ∃ (r : Rec) (q : List Rec) (s : State),
    (s.ev.queue = r :: q) ∧ (r.clear = none) ∧ (r.answer = none) :=
  ⟨{ code := 0, source := 0, dataLo := 0, dataHi := 0, sev := 0 }, [], { mk [] with ev := { State.reset.ev with queue := [{ code := 0, source := 0, dataLo := 0, dataHi := 0, sev := 0 }] } }, by decide +kernel⟩

theorem wit_RecorderEventsComplete_1 : ∃ (r : Rec) (p : Pkt) (q : List Rec) (s : State),
    (s.ev.queue = r :: q) ∧ (r.clear = none) ∧ (r.answer = some p) :=
  ⟨{ code := 0, source := 0, dataLo := 0, dataHi := 0, sev := 0, answer := some {} }, {}, [], { mk [] with ev := { State.reset.ev with queue := [{ code := 0, source := 0, dataLo := 0, dataHi := 0, sev := 0, answer := some {} }] } }, by decide +kernel⟩

theorem wit_RecorderEventsComplete_2 : ∃ (r : Rec) (p : Pkt) (upto key : Nat) (q : List Rec) (s : State),
    (s.ev.queue = r :: q) ∧ (r.clear = some (p, upto, key)) :=
  ⟨{ code := 0, source := 0, dataLo := 0, dataHi := 0, sev := 0, clear := some ({}, 0, 4) }, {}, 0, 4, [], { mk [] with ev := { State.reset.ev with queue := [{ code := 0, source := 0, dataLo := 0, dataHi := 0, sev := 0, clear := some ({}, 0, 4) }] } }, by decide +kernel⟩

theorem wit_RecorderEventsComplete_3 : ∃ (r : Requester) (v : Word) (s : State),
    (s.domainOf r = 0 ∨ 0xF800 ≤ s.get F.EVREC_CODE) :=
  ⟨.core 0, 0, mk [], by decide +kernel⟩

theorem wit_RecorderEventsComplete_5 : ∃ (s : State),
    (s.ev.flushDue = true) :=
  ⟨{ mk [] with ev := { State.reset.ev with flushDue := true } }, by decide +kernel⟩

theorem wit_RecorderEventsComplete_6 : ∃ (s : State),
    ((s.ev.syncDue)) :=
  ⟨{ mk [] with ev := { State.reset.ev with syncDue := true } }, by decide +kernel⟩

theorem wit_RecorderPacketsComplete_0 : ∃ (p : Pkt) (s : State),
    (s.accepts p opRecRead [(bits (p.w 1) 6 0 = 0 || p.w 1 ≥ 128, stBAD_PARAM)]) :=
  ⟨pk opRecRead [0, 1], mk [], by decide +kernel⟩

theorem wit_RecorderPacketsComplete_1 : ∃ (p : Pkt) (s : State),
    (s.accepts p opRecClear [(s.sigKey p < 4, stAUTH_FAILED), (256 ≤ s.get F.EVREC_CLEARS, stNOT_PERMITTED)]) :=
  ⟨{ pk opRecClear [0] with signed := true }, { State.reset with host := { State.reset.host with verified := [(0, 0, 0, 4)] } }, by decide +kernel⟩

theorem wit_RecorderPacketsComplete_2 : ∃ (p : Pkt) (s : State),
    (s.accepts p opRecHead []) :=
  ⟨pk opRecHead [], mk [], by decide +kernel⟩

theorem wit_RecorderPacketsComplete_3 : ∃ (p : Pkt) (s : State),
    let area := bits (p.w 0) 1 0
    let first := bits (p.w 0) 23 16
    let count := bits (p.w 0) 30 24
    (s.accepts p opLifeRead [(2 ≤ area || outside (p.w 0) 0x7FFF0003, stBAD_PARAM),
     (area = 1 && (count = 0 || decide (s.get F.EVREC_CLEARS < first + count)), stBAD_PARAM)]) :=
  ⟨pk opLifeRead [0], mk [], by decide +kernel⟩

theorem wit_RecorderPacketsComplete_4 : ∃ (p : Pkt) (s : State),
    let code := bits (p.w 0) 15 0
    (s.accepts p opRecWrite [(code < 0xF000 || 0xF7FF < code || 4 ≤ p.w 3, stBAD_PARAM)]) :=
  ⟨pk opRecWrite [61440, 0, 0, 0], mk [], by decide +kernel⟩

theorem wit_OperatorEventsComplete_0 : ∃ (counts : List Nat) (s : State),
    (s.runs = true) :=
  ⟨[], mk [], by decide +kernel⟩

theorem wit_OperatorEventsComplete_1 : ∃ (n : Nat) (s : State),
    (s.runs = true) ∧ ((n < 24 && s.on (F.TK_EN n) && s.pressed n && decide (s.get (F.TK_STUCK n) ≠ 0))) :=
  ⟨0, mk [(F.TK_EN 0, 1), (F.OPIO_PRESSED, 1), (F.TK_STUCK 0, 1)], by decide +kernel⟩

theorem wit_OperatorEventsComplete_2 : ∃ (n : Nat) (level : Bool) (s : State),
    (¬(16 ≤ n || bitOf s.opio.raw n = level)) :=
  ⟨0, false, mk [], by decide +kernel⟩

theorem wit_OperatorEventsComplete_3 : ∃ (n : Nat) (s0 : State),
    let s := s0.hpSee n
    (s0.runs = true) ∧ (s.hpRuns n = true) ∧ (s.get (F.HP_STATE n) = hpINSERTING) ∧ (s.on (F.HP_PIN n) = true) :=
  ⟨0, { mk [(F.HP_EN 0, 1), (F.SYS_ARM_OUTEN, 1), (F.HP_POL 0, 1), (F.HP_STATE 0, hpINSERTING)] with opio := { State.reset.opio with raw := 1 } }, by decide +kernel⟩

theorem wit_OperatorEventsComplete_4 : ∃ (n : Nat) (s0 : State),
    let s := s0.hpSee n
    (s0.runs = true) ∧ (s.hpRuns n = true) ∧ (s.get (F.HP_STATE n) = hpREMOVING) ∧ (s.on (F.HP_PIN n) = false) :=
  ⟨0, { mk [(F.HP_EN 0, 1), (F.SYS_ARM_OUTEN, 1), (F.HP_POL 0, 1), (F.HP_STATE 0, hpREMOVING)] with opio := { State.reset.opio with raw := 0 } }, by decide +kernel⟩

theorem wit_OperatorEventsComplete_5 : ∃ (n : Nat) (s0 : State),
    let s := s0.hpSee n
    (s0.runs = true) :=
  ⟨0, mk [], by decide +kernel⟩

theorem wit_OperatorEventsComplete_6 : ∃ (n : Nat) (s : State),
    (s.runs = true) ∧ ((s.hpRuns n && decide (s.get (F.HP_STATE n) = hpPOWERED) && decide (s.get (F.HP_JOIN_TMO n) ≠ 0))) :=
  ⟨0, mk [(F.HP_EN 0, 1), (F.SYS_ARM_OUTEN, 1), (F.HP_STATE 0, hpPOWERED), (F.HP_JOIN_TMO 0, 1)], by decide +kernel⟩

theorem wit_OperatorPacketsComplete_0 : ∃ (p : Pkt) (s : State),
    let n := bits (p.w 0) 4 0
    let a := bOPIO + 0x100 + 0x10 * n
    (s.accepts p opTouchConfig [(23 < n || outside (p.w 0) 0x1F || outside (p.w 1) 0x8F0FFF00 || outside (p.w 3) 0x9F03FFFF, stBAD_PARAM),
     (n < 24 && s.opioLocked p a 0x0F0FFF00 0xFFFFFFFF, stNOT_PERMITTED)]) :=
  ⟨pk opTouchConfig [0, 0, 0, 0], mk [], by decide +kernel⟩

theorem wit_OperatorPacketsComplete_1 : ∃ (p : Pkt) (s : State),
    (s.accepts p opTouchStatus [(outside (p.w 0) 0x1F, stBAD_PARAM)]) :=
  ⟨pk opTouchStatus [0], mk [], by decide +kernel⟩

theorem wit_OperatorPacketsComplete_2 : ∃ (p : Pkt) (s : State),
    let n := bits (p.w 0) 4 0
    let a := bOPIO + 0x400 + 0x10 * n
    (s.accepts p opHotplugConfig [(15 < n || outside (p.w 0) 0x1F || outside (p.w 1) 0xE0FFFFFF || outside (p.w 2) 0xFF00FFFF, stBAD_PARAM),
     (n < 16 && s.opioLocked p a 0x60FFFFFF 0xFF00FFFF, stNOT_PERMITTED)]) :=
  ⟨pk opHotplugConfig [0, 0, 0], mk [], by decide +kernel⟩

theorem wit_OperatorPacketsComplete_3 : ∃ (p : Pkt) (s : State),
    (s.accepts p opHotplugStatus [(outside (p.w 0) 0x1F, stBAD_PARAM)]) :=
  ⟨pk opHotplugStatus [0], mk [], by decide +kernel⟩

theorem wit_OperatorPacketsComplete_4 : ∃ (p : Pkt) (s : State),
    let n := bits (p.w 0) 4 0
    let on := bitOf (p.w 1) 0
    let st := s.get (F.HP_STATE n)
    let lit := decide (st = hpPOWERED) || decide (st = hpJOINED)
    (s.accepts p opHotplugPower [(15 < n || outside (p.w 0) 0x1F || outside (p.w 1) 1, stBAD_PARAM),
     (n < 16 && on && !(s.hpRuns n && decide (st = hpDELAY)), stNOT_PERMITTED),
     (!on && lit && s.hpCloses n, stLOOP_CLOSED)]) :=
  ⟨pk opHotplugPower [0, 0], mk [], by decide +kernel⟩

end Sys2Proof.Tests
end

/-! What a step keeps, from the laws of the single commands: the store canonical, the queue behind the command, and blown fuses (`Kept`). -/

namespace Sys2Proof.Machine

/-- Fuses that stay as they are count as blown no further. -/
theorem OtpInt.burnsTo_refl (o : OtpInt) : o.BurnsTo o :=
  ⟨rfl, rfl, rfl, rfl, fun _ h => h, fun _ h => h, le_rfl, fun _ _ => rfl⟩

/-- A canonical state keeps its own queue and its own fuses. -/
theorem kept_self {s : State} (h : s.canonical = true) : Kept ⟨s.pending, s.otp⟩ s :=
  ⟨h, rfl, s.otp.burnsTo_refl⟩

/-- Every command keeps the store, the queue and the fuses: each by the law of its own effect. -/
theorem exec_kept {b0 : Before} (i : Instr) (s : State) (hk : Kept b0 s) : KeptOut b0 (exec i s) := by
  cases i with
  | porAssert lowNs => exact execPorAssert_kept lowNs s hk
  | sysResetnAssert lowNs => exact execSysResetnAssert_kept lowNs s hk
  | supplyUnderVoltage => exact execSupplyUnderVoltage_kept s hk
  | debugResetRequest => exact execDebugResetRequest_kept s hk
  | resetRelease bootIf pcieRefsel => exact execResetRelease_kept bootIf pcieRefsel s hk
  | xtalOk => exact execXtalOk_kept s hk
  | pllLock => exact execPllLock_kept s hk
  | serdesPllLock pll => exact execSerdesPllLock_kept pll s hk
  | serdesPllUnlock pll => exact execSerdesPllUnlock_kept pll s hk
  | crystalLoss => exact execCrystalLoss_kept s hk
  | pllLossOfLock => exact execPllLossOfLock_kept s hk
  | pllLossReset => exact execPllLossReset_kept s hk
  | crossMonitorWindow count => exact execCrossMonitorWindow_kept count s hk
  | bootChainDone r => exact execBootChainDone_kept r s hk
  | dramTrainDone ok => exact execDramTrainDone_kept ok s hk
  | fwInitDone => exact execFwInitDone_kept s hk
  | ringJoinTimeout => exact execRingJoinTimeout_kept s hk
  | sysWdogKickWrite v => exact execSysWdogKickWrite_kept v s hk
  | sysWdogCtrlWrite v => exact execSysWdogCtrlWrite_kept v s hk
  | wdogWarn => exact execWdogWarn_kept s hk
  | wdogTimeout => exact execWdogTimeout_kept s hk
  | sysSwrstWrite v => exact execSysSwrstWrite_kept v s hk
  | sysArmWrite v => exact execSysArmWrite_kept v s hk
  | registerWrite r addr size v => exact execRegisterWrite_kept r addr size v s hk
  | blkCommitWrite base v => exact execBlkCommitWrite_kept base v s hk
  | commitAbandon base => exact execCommitAbandon_kept base s hk
  | pairLoRead r addr size => exact execPairLoRead_kept r addr size s hk
  | pairHiRead r addr size => exact execPairHiRead_kept r addr size s hk
  | pairLoWrite r addr v => exact execPairLoWrite_kept r addr v s hk
  | pairHiWrite r addr v => exact execPairHiWrite_kept r addr v s hk
  | qnsqTailWrite n v => exact execQnsqTailWrite_kept n v s hk
  | qncqHeadWrite n v => exact execQncqHeadWrite_kept n v s hk
  | qnctlWrite n v => exact execQnctlWrite_kept n v s hk
  | packetFetch n mem dmaError => exact execPacketFetch_kept n mem dmaError s hk
  | signatureVerifyDone => exact execSignatureVerifyDone_kept s hk
  | replyPost n dmaError => exact execReplyPost_kept n dmaError s hk
  | queueCoalTimeout n => exact execQueueCoalTimeout_kept n s hk
  | pcieLinkDown => exact execPcieLinkDown_kept s hk
  | functionLevelReset => exact execFunctionLevelReset_kept s hk
  | d3hotEntry => exact execD3hotEntry_kept s hk
  | statHeartbeat => exact execStatHeartbeat_kept s hk
  | sysNop p => exact execSysNop_kept p s hk
  | sysInfo p => exact execSysInfo_kept p s hk
  | sysReset p => exact execSysReset_kept p s hk
  | sysResetTakesEffect => exact execSysResetTakesEffect_kept s hk
  | sysArm p => exact execSysArm_kept p s hk
  | sysBootStatus p => exact execSysBootStatus_kept p s hk
  | sysPowerState p => exact execSysPowerState_kept p s hk
  | sysWakeConfig p => exact execSysWakeConfig_kept p s hk
  | sysRemotePermit p => exact execSysRemotePermit_kept p s hk
  | sysHealth p h => exact execSysHealth_kept p h s hk
  | sluiceStatus p => exact execSluiceStatus_kept p s hk
  | sluiceRequest p => exact execSluiceRequest_kept p s hk
  | timeConfig p => exact execTimeConfig_kept p s hk
  | timeRead p ports => exact execTimeRead_kept p ports s hk
  | timeSrcWrite v => exact execTimeSrcWrite_kept v s hk
  | ptpOffsetWrite v => exact execPtpOffsetWrite_kept v s hk
  | timeSourceLost src => exact execTimeSourceLost_kept src s hk
  | holdLimitExpiry => exact execHoldLimitExpiry_kept s hk
  | cmpFire n => exact execCmpFire_kept n s hk
  | cmpnCtrlWrite n v => exact execCmpnCtrlWrite_kept n v s hk
  | capEdge n rising samples => exact execCapEdge_kept n rising samples s hk
  | ethFrameSent port ok stamp => exact execEthFrameSent_kept port ok stamp s hk
  | ethFrameRx port len data bad stamp => exact execEthFrameRx_kept port len data bad stamp s hk
  | ethMdioGo port v => exact execEthMdioGo_kept port v s hk
  | ethMdioDone port data => exact execEthMdioDone_kept port data s hk
  | adcSwtrigWrite v => exact execAdcSwtrigWrite_kept v s hk
  | adcResult c raw => exact execAdcResult_kept c raw s hk
  | adcFifoRead c => exact execAdcFifoRead_kept c s hk
  | adcRefWrite v => exact execAdcRefWrite_kept v s hk
  | refSettled => exact execRefSettled_kept s hk
  | adcArmWrite c v => exact execAdcArmWrite_kept c v s hk
  | calGo c => exact execCalGo_kept c s hk
  | adcCalDone c factors => exact execAdcCalDone_kept c factors s hk
  | avddLow => exact execAvddLow_kept s hk
  | avddReturn => exact execAvddReturn_kept s hk
  | adcConfig p => exact execAdcConfig_kept p s hk
  | adcCalibrate p => exact execAdcCalibrate_kept p s hk
  | adcSequence p => exact execAdcSequence_kept p s hk
  | adcRead p => exact execAdcRead_kept p s hk
  | slotSample n late => exact execSlotSample_kept n late s hk
  | fbTmoExpiry n => exact execFbTmoExpiry_kept n s hk
  | slotRequestTimeout n k => exact execSlotRequestTimeout_kept n k s hk
  | snapshotTick => exact execSnapshotTick_kept s hk
  | slotReqOpen n => exact execSlotReqOpen_kept n s hk
  | slotReqClose n => exact execSlotReqClose_kept n s hk
  | slotReqObserver n => exact execSlotReqObserver_kept n s hk
  | slotReqSafe n => exact execSlotReqSafe_kept n s hk
  | slotReqRelease n => exact execSlotReqRelease_kept n s hk
  | injGo k => exact execInjGo_kept k s hk
  | loopConfig p => exact execLoopConfig_kept p s hk
  | loopOpen p => exact execLoopOpen_kept p s hk
  | loopClose p => exact execLoopClose_kept p s hk
  | loopCoefWrite p => exact execLoopCoefWrite_kept p s hk
  | loopSetpoint p => exact execLoopSetpoint_kept p s hk
  | loopManual p => exact execLoopManual_kept p s hk
  | loopRead p => exact execLoopRead_kept p s hk
  | loopObserver p => exact execLoopObserver_kept p s hk
  | loopSafe p => exact execLoopSafe_kept p s hk
  | loopSupervise p => exact execLoopSupervise_kept p s hk
  | loopStep p => exact execLoopStep_kept p s hk
  | loopSweep p => exact execLoopSweep_kept p s hk
  | loopRelease p => exact execLoopRelease_kept p s hk
  | loopStickyClear p => exact execLoopStickyClear_kept p s hk
  | pwmBoundary g => exact execPwmBoundary_kept g s hk
  | pwmSamplePoint g => exact execPwmSamplePoint_kept g s hk
  | pwmEnWrite g b => exact execPwmEnWrite_kept g b s hk
  | pwmStartWrite k v => exact execPwmStartWrite_kept k v s hk
  | loadnow g => exact execLoadnow_kept g s hk
  | tripClr g => exact execTripClr_kept g s hk
  | tripPinAssert k samples => exact execTripPinAssert_kept k samples s hk
  | tripPinDeassert k samples => exact execTripPinDeassert_kept k samples s hk
  | coreDebugHalt c => exact execCoreDebugHalt_kept c s hk
  | coreDebugResume c => exact execCoreDebugResume_kept c s hk
  | pwmConfig p => exact execPwmConfig_kept p s hk
  | pwmDuty p => exact execPwmDuty_kept p s hk
  | pwmTripClear p => exact execPwmTripClear_kept p s hk
  | pwmEnable p => exact execPwmEnable_kept p s hk
  | gpioSetWrite k v => exact execGpioSetWrite_kept k v s hk
  | gpioClrWrite k v => exact execGpioClrWrite_kept k v s hk
  | gpioInputChange n level samples => exact execGpioInputChange_kept n level samples s hk
  | outMismatch n => exact execOutMismatch_kept n s hk
  | gpioConfig p => exact execGpioConfig_kept p s hk
  | gpioWrite p => exact execGpioWrite_kept p s hk
  | gpioRead p => exact execGpioRead_kept p s hk
  | servoBoundary k => exact execServoBoundary_kept k s hk
  | axisReqPush n => exact execAxisReqPush_kept n s hk
  | axisReqStop n => exact execAxisReqStop_kept n s hk
  | axisReqQuickStop n => exact execAxisReqQuickStop_kept n s hk
  | axisReqEnable n => exact execAxisReqEnable_kept n s hk
  | axisReqDisable n => exact execAxisReqDisable_kept n s hk
  | axisReqGear n => exact execAxisReqGear_kept n s hk
  | axisReqCam n => exact execAxisReqCam_kept n s hk
  | axisReqTrim n => exact execAxisReqTrim_kept n s hk
  | axisConfig p => exact execAxisConfig_kept p s hk
  | axisMove p => exact execAxisMove_kept p s hk
  | axisStop p => exact execAxisStop_kept p s hk
  | axisEnable p => exact execAxisEnable_kept p s hk
  | axisGear p => exact execAxisGear_kept p s hk
  | axisCam p => exact execAxisCam_kept p s hk
  | camTableWrite p => exact execCamTableWrite_kept p s hk
  | axisPhaseTrim p => exact execAxisPhaseTrim_kept p s hk
  | axisRead p => exact execAxisRead_kept p s hk
  | axisStepTable p => exact execAxisStepTable_kept p s hk
  | encEdge n a b samples => exact execEncEdge_kept n a b samples s hk
  | encIndex n level samples => exact execEncIndex_kept n level samples s hk
  | ssiTransferDone n raw lineLow => exact execSsiTransferDone_kept n raw lineLow s hk
  | encErrClr n => exact execEncErrClr_kept n s hk
  | encErrHoldExpiry n => exact execEncErrHoldExpiry_kept n s hk
  | encConfig p => exact execEncConfig_kept p s hk
  | encRead p => exact execEncRead_kept p s hk
  | ringCycleStart => exact execRingCycleStart_kept s hk
  | segmentLatch => exact execSegmentLatch_kept s hk
  | referenceFrameTx => exact execReferenceFrameTx_kept s hk
  | bightFrameTx => exact execBightFrameTx_kept s hk
  | referenceFrameRx port ws stamp => exact execReferenceFrameRx_kept port ws stamp s hk
  | segmentRx port seg id len ws => exact execSegmentRx_kept port seg id len ws s hk
  | extractionEnd => exact execExtractionEnd_kept s hk
  | frameForward port len ws t0 => exact execFrameForward_kept port len ws t0 s hk
  | messageFrameTx slot => exact execMessageFrameTx_kept slot s hk
  | messageFrameRx port len ws stamp => exact execMessageFrameRx_kept port len ws stamp s hk
  | ringRunWrite v => exact execRingRunWrite_kept v s hk
  | claimFrameRx port ws => exact execClaimFrameRx_kept port ws s hk
  | claimTimeout => exact execClaimTimeout_kept s hk
  | refLossTimeout => exact execRefLossTimeout_kept s hk
  | masterTakeover => exact execMasterTakeover_kept s hk
  | ringLinkDown port => exact execRingLinkDown_kept port s hk
  | ringLinkUp port h1 => exact execRingLinkUp_kept port h1 s hk
  | turnBackStop port => exact execTurnBackStop_kept port s hk
  | nodeAbsent n => exact execNodeAbsent_kept n s hk
  | ringScheduleLoad p => exact execRingScheduleLoad_kept p s hk
  | ringStart p => exact execRingStart_kept p s hk
  | ringStop p => exact execRingStop_kept p s hk
  | ringStatus p => exact execRingStatus_kept p s hk
  | ringCounters p => exact execRingCounters_kept p s hk
  | ringStation p => exact execRingStation_kept p s hk
  | ringMasterRank p => exact execRingMasterRank_kept p s hk
  | create c arg0 => exact execCreate_kept c arg0 s hk
  | signal c arg0 arg1 => exact execSignal_kept c arg0 arg1 s hk
  | wait c arg0 arg1 nowait forever => exact execWait_kept c arg0 arg1 nowait forever s hk
  | yield c => exact execYield_kept c s hk
  | sleep c arg1 forever => exact execSleep_kept c arg1 forever s hk
  | exit c => exact execExit_kept c s hk
  | schedDispRead c => exact execSchedDispRead_kept c s hk
  | schedPfRead c => exact execSchedPfRead_kept c s hk
  | schedEventLine e => exact execSchedEventLine_kept e s hk
  | schedTimeout t => exact execSchedTimeout_kept t s hk
  | schedSleepExpiry t => exact execSchedSleepExpiry_kept t s hk
  | qmemUe offset => exact execQmemUe_kept offset s hk
  | releasePoint late => exact execReleasePoint_kept late s hk
  | taskCommit t outs rearm us => exact execTaskCommit_kept t outs rearm us s hk
  | transferPoint late => exact execTransferPoint_kept late s hk
  | progChangeTimeout => exact execProgChangeTimeout_kept s hk
  | progLoad p => exact execProgLoad_kept p s hk
  | progRun p => exact execProgRun_kept p s hk
  | progForce p => exact execProgForce_kept p s hk
  | progRelease p => exact execProgRelease_kept p s hk
  | progChange p => exact execProgChange_kept p s hk
  | progReadVar p => exact execProgReadVar_kept p s hk
  | progWriteVar p => exact execProgWriteVar_kept p s hk
  | progStatus p => exact execProgStatus_kept p s hk
  | progReArm p => exact execProgReArm_kept p s hk
  | recipeBoundary late => exact execRecipeBoundary_kept late s hk
  | recipeLoad p => exact execRecipeLoad_kept p s hk
  | recipeStart p => exact execRecipeStart_kept p s hk
  | recipePause p => exact execRecipePause_kept p s hk
  | recipeResume p => exact execRecipeResume_kept p s hk
  | recipeAbort p => exact execRecipeAbort_kept p s hk
  | recipeStatus p => exact execRecipeStatus_kept p s hk
  | recipeDelete p => exact execRecipeDelete_kept p s hk
  | acqValue sig edge => exact execAcqValue_kept sig edge s hk
  | spillwayCheck => exact execSpillwayCheck_kept s hk
  | posttrigEnd => exact execPosttrigEnd_kept s hk
  | drainDone => exact execDrainDone_kept s hk
  | holdoffExpiry => exact execHoldoffExpiry_kept s hk
  | bufferHandover n => exact execBufferHandover_kept n s hk
  | acqChannel p => exact execAcqChannel_kept p s hk
  | acqTrigger p => exact execAcqTrigger_kept p s hk
  | acqArm p => exact execAcqArm_kept p s hk
  | acqStop p => exact execAcqStop_kept p s hk
  | acqStream p => exact execAcqStream_kept p s hk
  | acqStatus p => exact execAcqStatus_kept p s hk
  | acqMeasure p => exact execAcqMeasure_kept p s hk
  | canModeWrite c mode => exact execCanModeWrite_kept c mode s hk
  | canBusIdle c => exact execCanBusIdle_kept c s hk
  | canFrameRx c f => exact execCanFrameRx_kept c f s hk
  | canTxreqWrite c k v => exact execCanTxreqWrite_kept c k v s hk
  | canTxEnd c m res lec inc ts tdcv => exact execCanTxEnd_kept c m res lec inc ts tdcv s hk
  | canTxabortWrite c k v onBus => exact execCanTxabortWrite_kept c k v onBus s hk
  | recover c => exact execRecover_kept c s hk
  | canRecoveryDone c => exact execCanRecoveryDone_kept c s hk
  | canNewClear c m v => exact execCanNewClear_kept c m v s hk
  | canConfig p => exact execCanConfig_kept p s hk
  | canObject p => exact execCanObject_kept p s hk
  | canTransmit p => exact execCanTransmit_kept p s hk
  | canReceive p => exact execCanReceive_kept p s hk
  | canStatus p => exact execCanStatus_kept p s hk
  | sluiceCycle sin fb diag => exact execSluiceCycle_kept sin fb diag s hk
  | sluiceSelfTestDone code => exact execSluiceSelfTestDone_kept code s hk
  | vddSafeFault below27 => exact execVddSafeFault_kept below27 s hk
  | sfWatchdog j port => exact execSfWatchdog_kept j port s hk
  | stoReq7Write v => exact execStoReq7Write_kept v s hk
  | configWrite => exact execConfigWrite_kept s hk
  | configCommit => exact execConfigCommit_kept s hk
  | arm => exact execArm_kept s hk
  | disarm => exact execDisarm_kept s hk
  | reset => exact execReset_kept s hk
  | demand => exact execDemand_kept s hk
  | release => exact execRelease_kept s hk
  | clearFault => exact execClearFault_kept s hk
  | testNow => exact execTestNow_kept s hk
  | spliceLinkChange l up => exact execSpliceLinkChange_kept l up s hk
  | spliceTimeFrame f offset hops uids => exact execSpliceTimeFrame_kept f offset hops uids s hk
  | signalFrameRx f core word ts => exact execSignalFrameRx_kept f core word ts s hk
  | signalDelivery => exact execSignalDelivery_kept s hk
  | spliceCommandRx f ws => exact execSpliceCommandRx_kept f ws s hk
  | spliceReplyRx f ws stamp => exact execSpliceReplyRx_kept f ws stamp s hk
  | controlFrameRx f c => exact execControlFrameRx_kept f c s hk
  | mCmdRx f c p status => exact execMCmdRx_kept f c p status s hk
  | mInputRx f c item => exact execMInputRx_kept f c item s hk
  | deltaRx f d last => exact execDeltaRx_kept f d last s hk
  | snapRx f part last => exact execSnapRx_kept f part last s hk
  | seedRx f seed => exact execSeedRx_kept f seed s hk
  | digestSend => exact execDigestSend_kept s hk
  | digestDue rx => exact execDigestDue_kept rx s hk
  | loneTmoExpiry => exact execLoneTmoExpiry_kept s hk
  | snapshotTimeout => exact execSnapshotTimeout_kept s hk
  | lashConfig p => exact execLashConfig_kept p s hk
  | lashStatus p => exact execLashStatus_kept p s hk
  | lashSwitch p => exact execLashSwitch_kept p s hk
  | lashSnapshot p => exact execLashSnapshot_kept p s hk
  | spliceConfig p => exact execSpliceConfig_kept p s hk
  | spliceStatus p => exact execSpliceStatus_kept p s hk
  | hash r => exact execHash_kept r s hk
  | verify r => exact execVerify_kept r s hk
  | attest r => exact execAttest_kept r s hk
  | secOpDone => exact execSecOpDone_kept s hk
  | attestReportDone => exact execAttestReportDone_kept s hk
  | secAttest p => exact execSecAttest_kept p s hk
  | secCertRead p => exact execSecCertRead_kept p s hk
  | secImageWrite p => exact execSecImageWrite_kept p s hk
  | secKeyRevoke p => exact execSecKeyRevoke_kept p s hk
  | secDebugChallenge p => exact execSecDebugChallenge_kept p s hk
  | secDebugUnlock p => exact execSecDebugUnlock_kept p s hk
  | debugChallengeExpiry => exact execDebugChallengeExpiry_kept s hk
  | secRollback p => exact execSecRollback_kept p s hk
  | irqEdge n level => exact execIrqEdge_kept n level s hk
  | irqClaim t => exact execIrqClaim_kept t s hk
  | irqComplete t v => exact execIrqComplete_kept t v s hk
  | irqPendWrite k v => exact execIrqPendWrite_kept k v s hk
  | irqGroupTimeout g => exact execIrqGroupTimeout_kept g s hk
  | pwrReqRun => exact execPwrReqRun_kept s hk
  | pwrReqIdle => exact execPwrReqIdle_kept s hk
  | pwrReqStandby => exact execPwrReqStandby_kept s hk
  | standbyGate => exact execStandbyGate_kept s hk
  | standbyEntryTimeout => exact execStandbyEntryTimeout_kept s hk
  | wakeLatch w => exact execWakeLatch_kept w s hk
  | recordWrite => exact execRecordWrite_kept s hk
  | evrecWrGo r v => exact execEvrecWrGo_kept r v s hk
  | lifetimeSample h => exact execLifetimeSample_kept h s hk
  | lifetimeFlush => exact execLifetimeFlush_kept s hk
  | timeSync => exact execTimeSync_kept s hk
  | mramRefreshSlice percent ended ecc => exact execMramRefreshSlice_kept percent ended ecc s hk
  | recRead p => exact execRecRead_kept p s hk
  | recClear p => exact execRecClear_kept p s hk
  | recHead p => exact execRecHead_kept p s hk
  | lifeRead p => exact execLifeRead_kept p s hk
  | recWrite p => exact execRecWrite_kept p s hk
  | touchScan counts => exact execTouchScan_kept counts s hk
  | tkStuck n => exact execTkStuck_kept n s hk
  | hpPinChange n level => exact execHpPinChange_kept n level s hk
  | hpDebounceExpiry n => exact execHpDebounceExpiry_kept n s hk
  | hpPowerDelayExpiry n => exact execHpPowerDelayExpiry_kept n s hk
  | joinFail n => exact execJoinFail_kept n s hk
  | touchConfig p => exact execTouchConfig_kept p s hk
  | touchStatus p => exact execTouchStatus_kept p s hk
  | hotplugConfig p => exact execHotplugConfig_kept p s hk
  | hotplugStatus p => exact execHotplugStatus_kept p s hk
  | hotplugPower p => exact execHotplugPower_kept p s hk
  | lashSwitchTimeout => exact execLashSwitchTimeout_kept s hk
  | adcReadTimeout p => exact execAdcReadTimeout_kept p s hk
  | canConfigTimeout c => exact execCanConfigTimeout_kept c s hk
  | sluiceRequestTimeout => exact execSluiceRequestTimeout_kept s hk
  | progImageVerified => exact execProgImageVerified_kept s hk
  | imageWriteDone => exact execImageWriteDone_kept s hk
  | acqTimeTrigger t => exact execAcqTimeTrigger_kept t s hk
  | canBusError c lec e => exact execCanBusError_kept c lec e s hk
  | remoteFrameRx c => exact execRemoteFrameRx_kept c s hk
  | uncorrectableEccError mem => exact execUncorrectableEccError_kept mem s hk
  | firmwareFatal code => exact execFirmwareFatal_kept code s hk
  | pcieLinkUp => exact execPcieLinkUp_kept s hk
  | msixUnmask v => exact execMsixUnmask_kept v s hk
  | vddSafeRestored => exact execVddSafeRestored_kept s hk

/-- A step keeps the canonical store, leaves the queue its command stood before, and only blows fuses. -/
theorem step_kept {s t : State} (hc : s.canonical = true) (h : step s = .next t) : Kept ⟨s.pending.tail, s.otp⟩ t := by
  unfold step at h
  split at h
  case h_1 hq =>
    cases h
    have hk := kept_self hc
    rw [hq] at hk ⊢
    exact State.idle_kept s hk
  case h_2 c rest hq =>
    have hk := exec_kept c { s with pending := rest } (kept_self hc)
    rw [h, keptOut_next] at hk
    rw [hq]
    exact hk

/-- Settles O4: the store is part of what `step_kept` says every step keeps. -/
theorem stepKeepsStoreCanonical : Obligations.StepKeepsStoreCanonical := by
  intro s t hc h
  obtain ⟨hcanonical, -, -⟩ := step_kept hc h
  exact hcanonical

end Sys2Proof.Machine

/-! Accesses by address (R24, R25, R28, R34), the writes of a commit key (R31, R32), and which commands can fault. -/

namespace Sys2Proof.Machine

/-! ### Accesses: a fault, or the effect of the access -/

/-- R24, R25: what the five access commands share: the fault where the access is refused, otherwise the next state `t`. -/
def State.accessOut (s : State) (r : Requester) (a n : Nat) (t : State) : Out :=
  if s.accessFaults r a n then .fault (.accessFault a) else .next t

theorem accessOut_refused {s : State} {r : Requester} {a n : Nat} (t : State) (h : s.accessFaults r a n = true) :
    s.accessOut r a n t = .fault (.accessFault a) := if_pos h

theorem accessOut_allowed {s : State} {r : Requester} {a n : Nat} (t : State) (h : s.accessFaults r a n = false) :
    s.accessOut r a n t = .next t := if_neg (by simp [h])

theorem exec_registerWrite (r : Requester) (a n : Nat) (v : Word) (s : State) :
    exec (.registerWrite r a n v) s = s.accessOut r a n (s.busWrite r a n v.toNat) := rfl

theorem exec_pairLoRead (r : Requester) (a n : Nat) (s : State) : exec (.pairLoRead r a n) s =
    s.accessOut r a n (if s.regionAt r a = 4 && n = 4 && isPair a then s.pairLoRead r a else s.busRead r a n) := rfl

theorem exec_pairHiRead (r : Requester) (a n : Nat) (s : State) : exec (.pairHiRead r a n) s =
    s.accessOut r a n (if s.regionAt r a = 4 && n = 4 && isPair (a - 4) then s.pairHiRead r a else s.busRead r a n) := rfl

theorem exec_pairLoWrite (r : Requester) (a : Nat) (v : Word) (s : State) :
    exec (.pairLoWrite r a v) s = s.accessOut r a 4 (s.busWrite r a 4 v.toNat) := rfl

theorem exec_pairHiWrite (r : Requester) (a : Nat) (v : Word) (s : State) :
    exec (.pairHiWrite r a v) s = s.accessOut r a 4 (s.busWrite r a 4 v.toNat) := rfl

/-- R31, R32: an accepted key commits every unit that the masks of the block select. -/
theorem commitKey_accepted {s : State} {b : Nat} (h : s.cmtPending b = false) :
    s.commitKey b 0xA5 = (s.maskUnits ((b - 0x20000000) / 0x10000)).foldl (State.startCommit ((b - 0x20000000) / 0x10000)) s := by
  simp [State.commitKey, h]

/-- R32: a pending commit of the block refuses every key. -/
theorem commitKey_pending {s : State} {b : Nat} (v : Nat) (h : s.cmtPending b = true) : s.commitKey b v = s.reject b := by
  simp [State.commitKey, h]

/-- R34: a read of half a pair: the rule of the pairs at a register of one, the read of a word elsewhere. -/
theorem pairRead_choice {p : Bool} {n g : Nat} (x y : State) (h : g ≠ 4 ∨ n ≠ 4 ∨ p = false) :
    (if g = 4 && n = 4 && p then x else y) = y := by
  refine if_neg fun hc => ?_
  simp only [Bool.and_eq_true, decide_eq_true_eq] at hc
  obtain ⟨⟨hg, hn⟩, hp⟩ := hc
  rcases h with h | h | h
  · exact h hg
  · exact h hn
  · simp [hp] at h

/-- Settles O21: each access is its effect behind the fault that does not come, and the key its commits. -/
theorem registerAccessComplete : Obligations.RegisterAccessComplete := by
  refine ⟨fun r a n v s h => ?_, fun b v s hv hp => ?_, fun b s => rfl, fun r a s h hg hp => ?_, fun r a n s h hc => ?_,
    fun r a s h hg hp => ?_, fun r a n s h hc => ?_, fun r a v s h => ?_, fun r a v s h => ?_⟩
  · rw [exec_registerWrite, accessOut_allowed _ h]
  · rw [← commitKey_accepted hp, ← hv]
    rfl
  · rw [exec_pairLoRead, accessOut_allowed _ h]
    simp [hg, hp]
  · rw [exec_pairLoRead, accessOut_allowed _ h, pairRead_choice _ _ hc]
  · rw [exec_pairHiRead, accessOut_allowed _ h]
    simp [hg, hp]
  · rw [exec_pairHiRead, accessOut_allowed _ h, pairRead_choice _ _ hc]
  · rw [exec_pairLoWrite, accessOut_allowed _ h]
  · rw [exec_pairHiWrite, accessOut_allowed _ h]

/-! ### Every other command ends in a next state -/

/-- The command ends in a next state. -/
def Ends (o : Out) : Prop := ∃ t, o = .next t

theorem ends_next (t : State) : Ends (.next t) := ⟨t, rfl⟩

/-- R36, R480: an event ends in a next state, whether its unit runs or not. -/
theorem ends_awake {s : State} {o : Out} (h : Ends o) : Ends (s.awake o) := by
  cases hr : s.runs
  · exact awake_off (o := o) hr ▸ ends_next s
  · exact (awake_on (o := o) hr).symm ▸ h

/-- R24, R25: command `c` is an access of requester `r` to `n` bytes at address `a`. -/
def IsAccess (c : Instr) (r : Requester) (a n : Nat) : Prop :=
  (∃ v, c = .registerWrite r a n v) ∨ c = .pairLoRead r a n ∨ c = .pairHiRead r a n ∨
    (n = 4 ∧ ∃ v, c = .pairLoWrite r a v ∨ c = .pairHiWrite r a v)

/-- The command ends in a next state, or is an access that the map refuses. -/
def EndsOrRefused (c : Instr) (s : State) : Prop :=
  Ends (exec c s) ∨ ∃ r a n, s.accessFaults r a n = true ∧ IsAccess c r a n

theorem access_endsOrRefused {c : Instr} {s : State} {r : Requester} {a n : Nat} (t : State)
    (he : exec c s = s.accessOut r a n t) (hc : IsAccess c r a n) : EndsOrRefused c s := by
  cases h : s.accessFaults r a n
  · exact .inl ⟨t, he.trans (accessOut_allowed t h)⟩
  · exact .inr ⟨r, a, n, h, hc⟩

/-- The events are awake-guarded, the accesses may fault; the meaning of every other command is a next state by its form. -/
theorem exec_endsOrRefused (c : Instr) (s : State) : EndsOrRefused c s := by
  cases c with
  | registerWrite r a n v => exact access_endsOrRefused _ (exec_registerWrite r a n v s) (.inl ⟨v, rfl⟩)
  | pairLoRead r a n => exact access_endsOrRefused _ (exec_pairLoRead r a n s) (.inr (.inl rfl))
  | pairHiRead r a n => exact access_endsOrRefused _ (exec_pairHiRead r a n s) (.inr (.inr (.inl rfl)))
  | pairLoWrite r a v => exact access_endsOrRefused _ (exec_pairLoWrite r a v s) (.inr (.inr (.inr ⟨rfl, v, .inl rfl⟩)))
  | pairHiWrite r a v => exact access_endsOrRefused _ (exec_pairHiWrite r a v s) (.inr (.inr (.inr ⟨rfl, v, .inr rfl⟩)))
  | schedEventLine | schedTimeout | schedSleepExpiry | slotSample | fbTmoExpiry | snapshotTick | adcResult | refSettled
  | adcCalDone | encEdge | encIndex | ssiTransferDone | encErrHoldExpiry | servoBoundary | pwmBoundary | pwmSamplePoint
  | acqValue | spillwayCheck | posttrigEnd | drainDone | holdoffExpiry | bufferHandover | acqTimeTrigger | ethFrameSent
  | ethFrameRx | ethMdioDone | claimFrameRx | claimTimeout | refLossTimeout | turnBackStop | referenceFrameTx
  | referenceFrameRx | masterTakeover | bightFrameTx | frameForward | messageFrameTx | messageFrameRx | nodeAbsent
  | recipeBoundary | releasePoint | taskCommit | transferPoint | canRecoveryDone | canBusIdle | canFrameRx | remoteFrameRx
  | canBusError | canTxEnd | spliceTimeFrame | signalFrameRx | signalDelivery | spliceCommandRx | spliceReplyRx
  | controlFrameRx | deltaRx | digestSend | digestDue | loneTmoExpiry | segmentLatch | segmentRx | extractionEnd | touchScan
  | tkStuck | hpDebounceExpiry | hpPowerDelayExpiry | joinFail | ringCycleStart | mCmdRx | mInputRx | snapRx | seedRx =>
    exact .inl (ends_awake (ends_next _))
  | _ => exact .inl (ends_next _)

/-- Settles O7: the fault is in the form of the five access commands, and no other command has one. -/
theorem onlyRefusedAccessesStop : Obligations.OnlyRefusedAccessesStop := by
  refine ⟨fun r a n v s h => ⟨?_, ?_, ?_⟩, fun r a v s h => ⟨?_, ?_⟩, exec_endsOrRefused⟩
  · rw [exec_registerWrite, accessOut_refused _ h]
  · rw [exec_pairLoRead, accessOut_refused _ h]
  · rw [exec_pairHiRead, accessOut_refused _ h]
  · rw [exec_pairLoWrite, accessOut_refused _ h]
  · rw [exec_pairHiWrite, accessOut_refused _ h]

end Sys2Proof.Machine

/-! A pending commit refuses keys and staging writes (R32): what a refused write leaves, the two operations that write staged
words, and a core's way to every staged word of PWM through the bus and the register map. -/

namespace Sys2Proof.Machine

/-! ### What CFG_REJECT changes -/

/-- R32: from `s` to `t` a write was refused at the block at base `b`: CFG_REJECT is set, the pending commits stay, and so does every
word but the block's sticky flags and those of the interrupt controller. -/
def RefusedAt (b : Nat) (s t : State) : Prop :=
  t.commits = s.commits ∧ bitOf (t.get (F.BLK_STICKY b)) 0 = true ∧
    ∀ a, a < 0x20020000 ∨ 0x20030000 ≤ a → a ≠ b + 0xC → t.word a = s.word a

/-- R26: the blocks with staged registers lie above IRQ and have sources of their own. -/
theorem stagedBlock_above {b : Nat} (h : b ∈ [bADC, bPWM, bLOOP, bMOTION, bRING]) : blockSource b < 512 ∧ 0x20030000 ≤ b := by
  revert b
  decide

theorem bitOf_putBit_zero (v : Nat) : bitOf (putBit v 0 true % 2 ^ 32) 0 = true := by
  simp only [putBit, bitOf, Nat.pow_zero, Nat.div_one, decide_eq_true_eq, if_true]
  split <;> omega

theorem reject_refusedAt {b : Nat} (hb : b ∈ [bADC, bPWM, bLOOP, bMOTION, bRING]) {s : State} (hc : s.canonical = true) :
    RefusedAt b s (s.reject b) := by
  obtain ⟨hsrc, hbase⟩ := stagedBlock_above hb
  refine ⟨?_, ?_, fun a ha hs => raise_word s b 0 a hsrc ha hs⟩
  · obtain ⟨w, h, i, e⟩ := raise_frame s b 0 hsrc
    rw [State.reject, e]
  · rw [State.reject, raise_sticky s b 0 hsrc (by omega) hc]
    exact bitOf_putBit_zero _

/-! ### The two operations that write staged words -/

/-- R28: a row whose fields are all staged has none that a running unit locks. -/
theorem staged_notLocked {fs : List RegField} (h : fs.all isStg = true) (old v : Nat) : fs.any (fieldRefused old v) = false := by
  rw [List.any_eq_false]
  intro f hf
  have hs : f.acc = .stg := by simpa [isStg] using List.all_eq_true.mp h f hf
  simp [fieldRefused, hs]

theorem staged_any {fs : List RegField} (hn : fs ≠ []) (h : fs.all isStg = true) : fs.any isStg = true := by
  obtain ⟨f, hf⟩ := List.exists_mem_of_ne_nil fs hn
  exact List.any_eq_true.mpr ⟨f, hf, List.all_eq_true.mp h f hf⟩

/-- R32: a write to a register of staged fields, while its unit's commit is pending, is refused. -/
theorem unitWord_pending {b u a : Nat} {r : RegRow} {l : List Nat} {s : State} (off : Nat) (region lock : Bool) (v : Nat)
    (hr : regAt a = some (r, l)) (hn : r.fields ≠ []) (hs : r.fields.all isStg = true) (hp : s.commitPending b u = true) :
    s.unitWord b u off region lock a v =
      (s.setWord a (Word.of (wordNew lock (s.word a).toNat v r.fields))).reject b := by
  unfold State.unitWord
  simp only [hr, staged_notLocked hs, staged_any hn hs, Bool.and_false, Bool.not_true, Bool.false_eq_true, if_false]
  exact if_pos hp

/-- R32: a write to a staged copy, while its unit's commit is pending, is refused. -/
theorem stageWord_pending {b u a : Nat} {r : RegRow} {l : List Nat} {s : State} (v : Nat)
    (hr : regAt a = some (r, l)) (hp : s.commitPending b u = true) : s.stageWord b u (a + 0x800) v = s.reject b := by
  unfold State.stageWord
  rw [Nat.add_sub_cancel, hr]
  exact if_pos hp

/-- R32: from `s` to `t` the staged copy at address `a` and the pending commits stayed, and CFG_REJECT of the block is set. -/
def LeavesCopy (b a : Nat) (s t : State) : Prop :=
  t.word a = s.word a ∧ t.commits = s.commits ∧ bitOf (t.get (F.BLK_STICKY b)) 0 = true

section
variable {b u a : Nat} {r : RegRow} {l : List Nat} {s : State} (v : Nat) (hb : b ∈ [bADC, bPWM, bLOOP, bMOTION, bRING])
  (ha : b + 0x80 ≤ a) (hr : regAt a = some (r, l)) (hc : s.canonical = true) (hp : s.commitPending b u = true)
include hb ha hr hc hp

theorem unitWord_leavesCopy (off : Nat) (region lock : Bool) (hn : r.fields ≠ []) (hs : r.fields.all isStg = true) :
    LeavesCopy b (a + 0x800) s (s.unitWord b u off region lock a v) := by
  rw [unitWord_pending off region lock v hr hn hs hp]
  obtain ⟨-, hbase⟩ := stagedBlock_above hb
  obtain ⟨hcommits, hbit, hword⟩ := reject_refusedAt hb (setWord_canonical s a (Word.of (wordNew lock (s.word a).toNat v r.fields)) hc)
  exact ⟨(hword _ (by omega) (by omega)).trans (word_setWord_other s a _ _ (by omega)), hcommits, hbit⟩

theorem stageWord_leavesCopy : LeavesCopy b (a + 0x800) s (s.stageWord b u (a + 0x800) v) := by
  rw [stageWord_pending v hr hp]
  obtain ⟨-, hbase⟩ := stagedBlock_above hb
  obtain ⟨hcommits, hbit, hword⟩ := reject_refusedAt hb hc
  exact ⟨hword _ (by omega) (by omega), hcommits, hbit⟩

end

/-! ### The register that a register map has at an offset -/

/-- R26: the row holds offset `o`: it stands there for some values of its indices. -/
def RegRow.holds (r : RegRow) (o : Nat) : Prop := r.off ≤ o ∧ (dimIndex (o - r.off) r.dims).isSome = true

@[simp] theorem dimIndex_nil_isSome (d : Nat) : (dimIndex d []).isSome = decide (d = 0) := by
  by_cases h : d = 0 <;> simp [dimIndex, h]

@[simp] theorem dimIndex_cons_isSome (d s n : Nat) (r : List (Nat × Nat)) :
    (dimIndex d ((s, n) :: r)).isSome = (decide (d / s < n) && (dimIndex (d % s) r).isSome) := by
  by_cases h : d / s < n <;> simp [dimIndex, h]

/-- R26: a row without an index holds its own offset alone. -/
theorem holds_nil (off o : Nat) (fs : List RegField) : RegRow.holds ⟨off, [], fs⟩ o ↔ o = off := by
  simp only [RegRow.holds, dimIndex_nil_isSome, decide_eq_true_eq]
  omega

/-- R26: a row with one index holds the offsets of its stride, as many as it counts. -/
theorem holds_stride (off d n o : Nat) (fs : List RegField) :
    RegRow.holds ⟨off, [(d, n)], fs⟩ o ↔ off ≤ o ∧ (o - off) / d < n ∧ (o - off) % d = 0 := by
  simp [RegRow.holds]

/-- A row that does not hold the offset is passed over. -/
theorem findRow_skip {r : RegRow} {t : List RegRow} {o : Nat} (h : ¬r.holds o) : findRow (r :: t) o = findRow t o := by
  rw [findRow]
  split
  · next hle =>
    split
    · next ix hix => exact absurd ⟨hle, by rw [hix]; rfl⟩ h
    · rfl
  · rfl

theorem findRow_none {rows : List RegRow} {o : Nat} (h : ∀ r ∈ rows, ¬r.holds o) : findRow rows o = none := by
  induction rows with
  | nil => rfl
  | cons q t ih => exact (findRow_skip (h q List.mem_cons_self)).trans (ih fun r hr => h r (List.mem_cons_of_mem q hr))

/-- What is true of every row that holds the offset is true of the one that is found there. -/
theorem findRow_of_holds {P : RegRow → Prop} {rows : List RegRow} {o : Nat} (hex : ∃ r ∈ rows, r.holds o)
    (hall : ∀ r ∈ rows, r.holds o → P r) : ∃ r l, findRow rows o = some (r, l) ∧ P r := by
  induction rows with
  | nil => simp at hex
  | cons q t ih =>
    by_cases hq : q.holds o
    · have ⟨hoff, hdim⟩ := hq
      obtain ⟨l, hl⟩ := Option.isSome_iff_exists.mp hdim
      exact ⟨q, l, by simp [findRow, hoff, hl], hall q List.mem_cons_self hq⟩
    · rw [findRow_skip hq]
      obtain ⟨r, hr, ho⟩ := hex
      exact ih ⟨r, (List.mem_cons.mp hr).resolve_left (fun e => hq (e ▸ ho)), ho⟩ (fun r hr => hall r (List.mem_cons_of_mem q hr))

/-! ### PWM's window -/

theorem bPWM_eq : bPWM = 0x20060000 := rfl

/-- R26: an address of PWM's window shows the block's number and the offset. -/
theorem pwm_window {o : Nat} (ho : o < 0x10000) : (bPWM + o - 0x20000000) / 0x10000 = 6 ∧ (bPWM + o) % 0x10000 = o := by
  have hb := bPWM_eq
  omega

/-- R26: above the common registers, the registers of PWM are those of its own register map. -/
theorem regAt_pwm {o : Nat} (ho : 0x80 ≤ o ∧ o < 0x10000) : regAt (bPWM + o) = findRow RegTable.pwmRows o := by
  have hb := bPWM_eq
  obtain ⟨h1, -⟩ := pwm_window ho.2
  have h2 : (bPWM + o - 0x20000000) % 0x10000 = o := by omega
  have h3 : commonRow 6 o = none := by
    simp (disch := omega) [commonRow, if_neg]
  unfold regAt
  rw [if_pos (by omega), h1, h2]
  exact congrArg (mergeRow · _) h3

/-- R24: a core's access to PWM's window reaches registers. -/
theorem regionAt_pwm (s : State) (c : Nat) {a : Nat} (ha : bPWM ≤ a ∧ a < bPWM + 0x10000) : s.regionAt (.core c) a = 4 := by
  have hb := bPWM_eq
  unfold State.regionAt regionOf
  rw [if_neg (by simp), if_neg (by simp), if_neg (by omega), if_neg (by omega), if_neg (by omega), if_neg (by omega),
    if_neg (by omega), if_pos (by omega)]

/-- R24, R25: it does not fault. -/
theorem accessFaults_pwm (s : State) (c : Nat) {a : Nat} (ha : bPWM ≤ a ∧ a + 3 < bPWM + 0x10000) :
    s.accessFaults (.core c) a 4 = false := by
  have h1 : s.regionAt (.core c) a = 4 := regionAt_pwm s c (by omega)
  have h2 : s.regionAt (.core c) (a + (4 - 1)) = 4 := regionAt_pwm s c (by omega)
  have h3 : s.tcmBarred (.core c) a = false := by
    have hb := bPWM_eq
    have h : ¬a < 0x04200000 := by omega
    simp [State.tcmBarred, h]
  unfold State.accessFaults
  rw [h1, h2, h3]
  rfl

/-- R34: no 64-bit value of PWM is written as a pair. -/
theorem isPairWrite_pwm {a : Nat} (ha : bPWM ≤ a ∧ a < bPWM + 0x10000) : isPairWrite a = false := by
  have hb := bPWM_eq
  simp only [isPairWrite, pairWrites, List.any_cons, List.any_nil, inRow, dimIndex_nil_isSome, dimIndex_cons_isSome,
    Bool.or_eq_false_iff, Bool.and_eq_false_iff, decide_eq_false_iff_not, and_true]
  and_intros <;> omega

/-- R9, R28: a core's write of an aligned word in PWM's window is a write to that register. -/
theorem busWrite_pwm (s : State) (c v : Nat) {o : Nat} (ho : 4 ≤ o ∧ o < 0x10000) (h4 : o % 4 = 0) :
    s.busWrite (.core c) (bPWM + o) 4 v = s.regWord (.core c) (bPWM + o) v := by
  have hb := bPWM_eq
  have ha : (bPWM + o) % 4 = 0 := by omega
  unfold State.busWrite
  rw [regionAt_pwm s c (by omega)]
  simp [ha, isPairWrite_pwm (a := bPWM + o) (by omega), isPairWrite_pwm (a := bPWM + o - 4) (by omega)]

/-! ### The staged words of a PWM generator -/

section
variable {n k o : Nat} (hn : n < 48) (hk : k < 5) (ho : o = 0x100 + 0x20 * n + 4 * k)
include hn hk ho

/-- R30: at each of the five words stands a register of staged fields. -/
theorem regAt_pwmStaged : ∃ r l, regAt (bPWM + o) = some (r, l) ∧ r.fields ≠ [] ∧ r.fields.all isStg = true := by
  rw [regAt_pwm (by omega), ho]
  refine findRow_of_holds ⟨RegTable.pwmRows[7 + k]'(by simp [RegTable.pwmRows, RegTable.pwmRows0]; omega), List.getElem_mem _, ?_⟩ ?_
  · interval_cases k <;> simp only [RegTable.pwmRows, RegTable.pwmRows0, List.getElem_cons_succ, List.getElem_cons_zero,
      holds_stride] <;> omega
  · simp only [RegTable.pwmRows, RegTable.pwmRows0, List.forall_mem_cons, holds_nil, holds_stride]
    simp [isStg]
    omega

/-- R30: at their copies no other register stands. -/
theorem regAt_pwmCopy : regAt (bPWM + o + 0x800) = none := by
  rw [Nat.add_assoc, regAt_pwm (by omega), ho]
  refine findRow_none ?_
  simp only [RegTable.pwmRows, RegTable.pwmRows0, List.forall_mem_cons, holds_nil, holds_stride, List.not_mem_nil,
    IsEmpty.forall_iff, implies_true, and_true]
  and_intros <;> omega

/-- R28, R30: a write to one of the words is a write to a word of the generator, with its lock. -/
theorem regWord_pwmStaged (s : State) (r : Requester) (v : Nat) :
    s.regWord r (bPWM + o) v = s.unitWord bPWM n o false (s.genRuns n) (bPWM + o) v := by
  have hcopy : isStagedCopy (bPWM + o) = false := by
    obtain ⟨q, l, hr, -, -⟩ := regAt_pwmStaged hn hk ho
    simp [isStagedCopy, hr]
  have hg : (o - 0x100) / 32 = n := by omega
  have hk' : o % 32 ≠ 0x14 := by omega
  have hlt : 0x100 ≤ o ∧ o < 0x700 := by omega
  clear ho
  have hb := bPWM_eq
  obtain ⟨hblk, hoff⟩ := pwm_window (o := o) (by omega)
  simp (disch := omega) [State.regWord, State.pwmWord, State.lockWord, stagedBad, hblk, hoff, hcopy, hg, hk', if_neg, if_pos]

/-- R30: a write to the copy of one of the words stages it for the generator. -/
theorem regWord_pwmCopy (s : State) (r : Requester) (v : Nat) :
    s.regWord r (bPWM + o + 0x800) v = s.stageWord bPWM n (bPWM + o + 0x800) v := by
  have hcopy : isStagedCopy (bPWM + o + 0x800) = true := by
    obtain ⟨q, l, hr, hf, hs⟩ := regAt_pwmStaged hn hk ho
    simp only [isStagedCopy, regAt_pwmCopy hn hk ho, Nat.add_sub_cancel, hr, staged_any hf hs]
    rfl
  have hg : stagedUnit 6 o = n := by
    simp only [stagedUnit]
    omega
  have hlt : 0x100 ≤ o ∧ o < 0x700 := by omega
  clear ho
  have hb := bPWM_eq
  have hwin := pwm_window (o := o + 0x800) (by omega)
  rw [← Nat.add_assoc] at hwin
  obtain ⟨hblk, hoff⟩ := hwin
  have hbase : blkBase 6 = bPWM := rfl
  unfold State.regWord
  rw [if_pos (by omega), hblk, hoff]
  simp (disch := omega) [stagedBad, hcopy, hg, hbase, if_neg]

end

/-- R32: a core's write to a staged word of a generator whose commit is pending, or to the copy of one. -/
theorem busWrite_pwm_leavesCopy {n k b : Nat} {s : State} (c v : Nat) (hn : n < 48) (hk : k < 5) (hw : b = 0x100 ∨ b = 0x900)
    (hc : s.canonical = true) (hp : s.commitPending bPWM n = true) :
    LeavesCopy bPWM (bPWM + 0x900 + 0x20 * n + 4 * k) s (s.busWrite (.core c) (bPWM + b + 0x20 * n + 4 * k) 4 v) := by
  obtain ⟨o, ho⟩ : ∃ o, o = 0x100 + 0x20 * n + 4 * k := ⟨_, rfl⟩
  have hlo : bPWM + 0x80 ≤ bPWM + o := by omega
  have hcopy : bPWM + 0x900 + 0x20 * n + 4 * k = bPWM + o + 0x800 := by omega
  have hword : bPWM + 0x100 + 0x20 * n + 4 * k = bPWM + o := by simp only [ho, Nat.add_assoc]
  obtain ⟨r, l, hr, hf, hs⟩ := regAt_pwmStaged hn hk ho
  rcases hw with rfl | rfl
  · rw [hcopy, hword, busWrite_pwm s c v (by omega) (by omega), regWord_pwmStaged hn hk ho]
    exact unitWord_leavesCopy v (by decide) hlo hr hc hp _ _ _ hf hs
  · rw [hcopy, Nat.add_assoc, busWrite_pwm s c v (by omega) (by omega), ← Nat.add_assoc, regWord_pwmCopy hn hk ho]
    exact stageWord_leavesCopy v (by decide) hlo hr hc hp

/-- Settles O10: each of these writes is `State.reject`, which leaves the commits and every word but the sticky flags. -/
theorem pendingCommitRefusesStaging : Obligations.PendingCommitRefusesStaging := by
  refine ⟨fun b v s hb hc hp => ?_, fun b u off a v region lock r l s hb hlo _ hr hn hs hc hp =>
    unitWord_leavesCopy v hb hlo hr hc hp off region lock hn hs, fun b u a v r l s hb hlo _ hr hc hp =>
    stageWord_leavesCopy v hb hlo hr hc hp, fun c n k o v s hn hk ho hc hp => ?_⟩
  · exact ⟨s.reject b, congrArg Host.Outcome.next (commitKey_pending v.toNat hp), reject_refusedAt hb hc⟩
  · obtain ⟨hword, hcommits, hbit⟩ := busWrite_pwm_leavesCopy c v.toNat hn hk ho hc hp
    have hfault : s.accessFaults (.core c) (bPWM + o + 0x20 * n + 4 * k) 4 = false := accessFaults_pwm s c (by omega)
    exact ⟨_, (exec_registerWrite ..).trans (accessOut_allowed _ hfault), hcommits, hword, hbit⟩

end Sys2Proof.Machine

/-! The step as a whole (R36, R89, R320, R446, R448, R456): a step only blows fuses, and an idle step is one tick of CTL_CLK. -/

namespace Sys2Proof.Machine

/-- Settles O5: the blown fuses are part of what `step_kept` says every step keeps. -/
theorem stepOnlyBurnsFuses : Obligations.StepOnlyBurnsFuses := by
  intro s t hc h
  obtain ⟨-, -, hburns⟩ := step_kept hc h
  exact hburns

/-! ### What the expiry of a task can change -/

/-- R317, R320: `t` is `s` but for words and the scheduler's tables. -/
def SchedOnly (s t : State) : Prop := ∃ w h, t = { s with words := w, sched := h }

theorem SchedOnly.refl (s : State) : SchedOnly s s := ⟨s.words, s.sched, rfl⟩

theorem SchedOnly.trans {s t u : State} (h : SchedOnly s t) (k : SchedOnly t u) : SchedOnly s u := by
  obtain ⟨w, i, rfl⟩ := h
  obtain ⟨w', i', rfl⟩ := k
  exact ⟨w', i', rfl⟩

theorem SchedOnly.pending {s t : State} (h : SchedOnly s t) : t.pending = s.pending := by
  obtain ⟨w, i, rfl⟩ := h
  rfl

theorem SchedOnly.time {s t : State} (h : SchedOnly s t) : t.time = s.time := by
  obtain ⟨w, i, rfl⟩ := h
  rfl

theorem put_schedOnly (s : State) (f : Fld) (v : Nat) : SchedOnly s (s.put f v) := ⟨_, s.sched, rfl⟩

theorem setTask_schedOnly (s : State) (t : Nat) (k : Task) : SchedOnly s (s.setTask t k) := ⟨s.words, _, rfl⟩

theorem foldl_schedOnly {α : Type} (f : State → α → State) (l : List α) (s : State) (hf : ∀ t a, SchedOnly t (f t a)) :
    SchedOnly s (l.foldl f s) := by
  induction l generalizing s with
  | nil => exact .refl s
  | cons a r ih => exact (hf s a).trans (ih (f s a))

theorem enqueue_schedOnly (s : State) (t : Nat) (head : Bool) : SchedOnly s (s.enqueue t head) := by
  unfold State.enqueue
  dsimp only
  split
  · exact setTask_schedOnly s t _
  · exact ⟨s.words, _, rfl⟩

theorem offer_schedOnly (s : State) (c t : Nat) : SchedOnly s (s.offer c t) := by
  have h := setTask_schedOnly s t { s.task t with st := .running }
  unfold State.offer
  dsimp only
  split
  · exact h.trans (put_schedOnly ..)
  · exact ((h.trans (put_schedOnly ..)).trans (put_schedOnly ..)).trans (put_schedOnly ..)

/-- R318: a choice that is displaced becomes ready in turn. -/
theorem makeReady_schedOnly (n : Nat) (s : State) (t : Nat) (head : Bool) : SchedOnly s (s.makeReady n t head) := by
  induction n generalizing s t head with
  | zero => exact enqueue_schedOnly s t head
  | succ n ih =>
    unfold State.makeReady
    split
    · exact enqueue_schedOnly s t head
    · split
      · exact enqueue_schedOnly s t head
      · split
        · exact offer_schedOnly ..
        · exact (offer_schedOnly ..).trans (ih ..)

theorem refreshPf_schedOnly (s : State) : SchedOnly s s.refreshPf := by
  unfold State.refreshPf
  split
  · exact foldl_schedOnly _ _ _ fun u c => put_schedOnly u _ _
  · exact .refl s

theorem wakeTask_schedOnly (s : State) (t : Nat) (head : Bool) : SchedOnly s (s.wakeTask t head) :=
  (makeReady_schedOnly ..).trans (refreshPf_schedOnly _)

theorem taskExpire_schedOnly (s : State) (t : Nat) : SchedOnly s (s.taskExpire t) := by
  unfold State.taskExpire
  dsimp only
  split
  · exact (setTask_schedOnly ..).trans (wakeTask_schedOnly ..)
  · exact (setTask_schedOnly ..).trans (wakeTask_schedOnly ..)
  · exact .refl s

theorem expireDue_schedOnly (s : State) : SchedOnly s s.expireDue := foldl_schedOnly _ _ _ taskExpire_schedOnly

/-! ### The idle step -/

theorem step_empty {s : State} (h : s.pending = []) : step s = .next s.idle := by
  simp [step, h]

/-- R36, R480: after a tick the same units run as before. -/
theorem advance_runs (s : State) (n : Nat) : (s.advance n).runs = s.runs := by
  obtain ⟨i, e⟩ := advance_frame s n
  rw [e]
  rfl

theorem clocked_of_lock {s : State} (hr : s.sys.inReset = false) (hl : s.on F.SYS_CLK_STAT_PLL_LOCK = true) : s.clocked = true := by
  simp [State.clocked, hr, hl]

theorem idle_clocked {s : State} (hr : s.sys.inReset = false) (hl : s.on F.SYS_CLK_STAT_PLL_LOCK = true) :
    s.idle = if s.runs then (s.advance 1).expireDue else s.advance 1 := by
  unfold State.idle
  rw [if_neg (by simp [hr]), if_pos hl]
  dsimp only
  rw [advance_runs]

theorem idle_running {s : State} (hr : s.sys.inReset = false) (hl : s.on F.SYS_CLK_STAT_PLL_LOCK = true)
    (hp : s.get F.IRQ_BLK_STAT_POWER ≠ 3) : s.idle = (s.advance 1).expireDue := by
  rw [idle_clocked hr hl, if_pos (by simp [State.runs, clocked_of_lock hr hl, hp])]

theorem idle_standby {s : State} (hr : s.sys.inReset = false) (hl : s.on F.SYS_CLK_STAT_PLL_LOCK = true)
    (hp : s.get F.IRQ_BLK_STAT_POWER = 3) : s.idle = s.advance 1 := by
  rw [idle_clocked hr hl, if_neg (by simp [State.runs, hp])]

theorem idle_unlocked {s : State} (hr : s.sys.inReset = false) (hl : s.on F.SYS_CLK_STAT_PLL_LOCK = false) : s.idle = s := by
  simp [State.idle, hr, hl]

theorem idle_inReset {s : State} (hr : s.sys.inReset = true) : s.idle = { s with sys := { s.sys with sameCycle := false } } := by
  simp [State.idle, hr]

/-- R36, R89: idling queues nothing, and counts one tick where CTL_CLK runs. -/
theorem idle_queue_and_tick (s : State) : s.idle.pending = s.pending ∧
    s.idle.time.tick = s.time.tick + (if s.sys.inReset = false ∧ s.on F.SYS_CLK_STAT_PLL_LOCK = true then 1 else 0) := by
  cases hr : s.sys.inReset with
  | true =>
    rw [idle_inReset hr]
    simp
  | false =>
    cases hl : s.on F.SYS_CLK_STAT_PLL_LOCK with
    | false =>
      rw [idle_unlocked hr hl]
      simp
    | true =>
      have hk : SchedOnly (s.advance 1) s.idle := by
        rw [idle_clocked hr hl]
        split
        · exact expireDue_schedOnly _
        · exact .refl _
      rw [hk.pending, hk.time, advance_pending, advance_tick s 1 (clocked_of_lock hr hl)]
      simp

/-- Settles O2: each branch of `State.idle` by its equation. -/
theorem idleStepIsATick : Obligations.IdleStepIsATick := by
  intro s hq
  rw [step_empty hq]
  refine ⟨fun hr hl hp => ?_, fun hr hl hp => ?_, fun hr hl => ?_, fun hr => ?_, s.idle, rfl, ?_⟩
  · rw [idle_running hr hl hp]
  · rw [idle_standby hr hl hp]
  · rw [idle_unlocked hr hl]
  · rw [idle_inReset hr]
  · rw [← hq]
    exact idle_queue_and_tick s

end Sys2Proof.Machine

/-! The commands of reset, clocks, start-up, watchdog and arming, the system opcodes, and the Sluice's events and opcodes complete
(chapters 02 and 16): each is its own effect behind its guard. -/

namespace Sys2Proof.Machine

/-- A command behind a guard that holds. -/
theorem next_pos {c : Prop} [Decidable c] {a b : State} (h : c) : (.next (if c then a else b) : Out) = .next a :=
  congrArg _ (if_pos h)

/-- A command behind a guard that fails. -/
theorem next_neg {c : Prop} [Decidable c] {a b : State} (h : ¬c) : (.next (if c then a else b) : Out) = .next b :=
  congrArg _ (if_neg h)

/-- R41: a reset pin that is low for 1 us and longer passes the filter. -/
theorem resetPin_long {lowNs : Nat} (s : State) (k : ResetKind) (h : 1000 ≤ lowNs) : s.resetPin k lowNs = s.assertReset k := by
  have hopen : ¬(500 ≤ lowNs ∧ lowNs < 1000) := by omega
  have hlong : ¬lowNs < 500 := by omega
  simp [State.resetPin, State.pinFilter, hopen, hlong, h]

/-- Settles O19: each trigger is the reset of its kind behind its guard. -/
theorem resetCommandsComplete : Obligations.ResetCommandsComplete :=
  ⟨fun _ s h => congrArg Host.Outcome.next (resetPin_long s .por h), -- POR_ASSERT
    fun _ s h => congrArg Host.Outcome.next (resetPin_long s .pin h), -- SYS_RESETN_ASSERT
    fun _ => rfl, -- SUPPLY_UNDER_VOLTAGE
    fun _ h => next_neg h, -- DEBUG_RESET_REQUEST
    fun _ _ _ h => next_neg h, -- RESET_RELEASE
    fun _ h => next_pos h, -- PLL_LOSS_RESET
    fun _ h => next_pos h, -- WDOG_TIMEOUT
    fun _ => next_pos rfl, fun _ _ h => next_neg h, -- SYS_SWRST_WRITE
    fun _ h => next_pos h, -- SYS_RESET_TAKES_EFFECT
    fun _ => next_pos rfl, fun _ _ h hm => (next_neg h).trans (next_pos hm)⟩ -- UNCORRECTABLE_ECC_ERROR

/-- Settles O20: each command is its effect behind the guard of its stage. -/
theorem clockBootAndWatchdogComplete : Obligations.ClockBootAndWatchdogComplete :=
  ⟨fun _ => rfl, -- XTAL_OK
    fun _ h => next_neg h, -- PLL_LOCK
    fun _ _ h => next_neg h, fun _ _ h => next_neg h, -- SERDES_PLL_LOCK, SERDES_PLL_UNLOCK
    fun _ => rfl, -- CRYSTAL_LOSS
    fun _ h => next_neg h, -- PLL_LOSS_OF_LOCK
    fun _ _ h => next_neg h, fun _ _ h => next_neg h, -- BOOT_CHAIN_DONE, DRAM_TRAIN_DONE
    fun _ h => next_neg h, fun _ h => next_neg h, -- FW_INIT_DONE, RING_JOIN_TIMEOUT
    fun _ => next_pos rfl, fun _ _ h => next_neg h, -- SYS_WDOG_KICK_WRITE
    fun _ _ h => next_neg (ne_true_of_eq_false h), fun _ _ h => next_pos h, -- SYS_WDOG_CTRL_WRITE
    fun _ h => next_pos h, -- WDOG_WARN
    fun _ _ h => next_pos h⟩ -- SYS_ARM_WRITE

/-! ### System opcodes -/

/-- R486: STANDBY is asked for where nothing denies it. -/
theorem powerStandby_granted {s : State} (p : Pkt) (hd : s.standbyDenied = 0) (hr : s.standbyRefuse = 0) :
    s.powerStandby p = { s with irq := { s.irq with pwrPkts := s.irq.pwrPkts ++ [p] } }.reqStandby := by
  simp [State.powerStandby, hd, hr]

/-- R81: the row of an opcode that joins no queue of requests, with an accepted packet: its effect. -/
theorem next_command {s : State} {p : Pkt} {op : Nat} {checks : List (Bool × Nat)} {effect : State → State}
    (h : s.accepts p op checks) (hj : joinOps.contains op = false) :
    (.next (s.command p op checks effect) : Out) = .next (effect s) := congrArg _ (command_lone h hj)

/-- Settles O24: an accepted packet has its opcode's effect; SYS_ARM and SYS_POWER_STATE choose theirs. -/
theorem systemPacketsComplete : Obligations.SystemPacketsComplete :=
  ⟨fun _ _ h => next_command h rfl, -- SYS_NOP
    fun _ _ h => next_command h rfl, -- SYS_INFO
    fun _ _ h => next_command h rfl, -- SYS_RESET
    fun _ _ h hr => (next_command h rfl).trans (next_pos hr), -- SYS_ARM
    fun _ _ h => next_command h rfl, -- SYS_BOOT_STATUS
    fun _ _ h hw => (next_command h rfl).trans (next_neg hw), -- SYS_POWER_STATE
    fun p _ h hw hd hr => (next_command h rfl).trans ((next_pos hw).trans (congrArg Host.Outcome.next (powerStandby_granted p hd hr))),
    fun _ _ h => next_command h rfl, -- SYS_WAKE_CONFIG
    fun _ _ h => next_command h rfl, -- SYS_REMOTE_PERMIT
    fun _ _ _ h => next_command h rfl⟩ -- SYS_HEALTH

/-! ### The Sluice -/

/-- R412: the oldest waiting packet is answered with TIMEOUT when its 1 ms has ended. -/
theorem exec_sluiceRequestTimeout {p : Pkt} {e : Nat} {r : List (Pkt × Nat)} {s : State} (h : s.sto.expiry = (p, e) :: r) :
    exec .sluiceRequestTimeout s =
      .next (((s.advanceTo e).stoI (fun t => { t with waiting := t.waiting.erase p })).rqAnswer p stTIMEOUT) := by
  change execSluiceRequestTimeout s = _
  unfold execSluiceRequestTimeout
  rw [h]

/-- Settles O48: each event is its effect behind its guard, and each accepted packet its opcode's effect. -/
theorem sluiceEventsComplete : Obligations.SluiceEventsComplete :=
  ⟨fun _ _ h => next_pos h, -- CROSS_MONITOR_WINDOW
    fun _ _ h => next_command h rfl, -- SLUICE_STATUS
    fun _ _ h => next_command h rfl, -- SLUICE_REQUEST
    fun _ _ _ _ h => next_neg h, -- SLUICE_CYCLE
    fun _ _ h => next_pos h, -- SLUICE_SELF_TEST_DONE
    fun _ _ => rfl, -- VDD_SAFE_FAULT
    fun _ _ _ h => next_pos h, -- SF_WATCHDOG
    fun _ _ h => next_neg h, -- STO_REQ7_WRITE
    fun _ _ _ _ h => exec_sluiceRequestTimeout h, -- SLUICE_REQUEST_TIMEOUT
    fun _ => rfl⟩ -- VDD_SAFE_RESTORED

end Sys2Proof.Machine

/-! What a reset leaves (R42, R43, R44): a reset keeps the words that survive its kind, and then writes a few words of its own. -/

namespace Sys2Proof.Machine

/-! ### Writes to known words -/

/-- `t` is `s` but for words at addresses of `A`. -/
def WritesAt (A : Nat → Prop) (s t : State) : Prop := (∃ w, t = { s with words := w }) ∧ ∀ a, ¬A a → t.word a = s.word a

section
variable {A : Nat → Prop}

theorem WritesAt.refl (s : State) : WritesAt A s s := ⟨⟨s.words, rfl⟩, fun _ _ => rfl⟩

theorem WritesAt.trans {s t u : State} (h : WritesAt A s t) (k : WritesAt A t u) : WritesAt A s u := by
  refine ⟨?_, fun a ha => (k.2 a ha).trans (h.2 a ha)⟩
  obtain ⟨w, rfl⟩ := h.1
  obtain ⟨w', rfl⟩ := k.1
  exact ⟨w', rfl⟩

theorem setWord_writesAt (s : State) {a : Nat} (v : Word) (ha : A a) : WritesAt A s (s.setWord a v) :=
  ⟨⟨_, rfl⟩, fun b hb => word_setWord_other s a b v fun e => hb (e ▸ ha)⟩

theorem put_writesAt (s : State) {f : Fld} (v : Nat) (hf : A f.addr) : WritesAt A s (s.put f v) := setWord_writesAt s _ hf

theorem put64_writesAt (s : State) {f : Fld} (v : Nat) (hlo : A f.addr) (hhi : A (f.addr + 4)) : WritesAt A s (s.put64 f v) :=
  (setWord_writesAt s _ hlo).trans (setWord_writesAt _ _ hhi)

theorem foldl_writesAt {α : Type} (f : State → α → State) (l : List α) (s : State) (hf : ∀ a ∈ l, ∀ t, WritesAt A t (f t a)) :
    WritesAt A s (l.foldl f s) := by
  induction l generalizing s with
  | nil => exact .refl s
  | cons a r ih => exact (hf a List.mem_cons_self s).trans (ih (f s a) fun b hb => hf b (List.mem_cons_of_mem _ hb))

/-- Writes made while the state's own record of SYS was another one. -/
theorem WritesAt.withSys {s t : State} {y : SysInt} (h : WritesAt A { s with sys := y } t) : WritesAt A s { t with sys := s.sys } := by
  obtain ⟨⟨w, rfl⟩, hw⟩ := h
  exact ⟨⟨w, rfl⟩, hw⟩

end

/-! ### The words a reset writes -/

/-- R43, R44, R63, R446, R494: the words that a reset writes: the two lifetime copies and the running values, cause and count, the
recorder's refresh progress and power cycles, and the words that show the cause and OTP. -/
def resetWrites (a : Nat) : Prop :=
  (0x10200000 ≤ a ∧ a < 0x10200800) ∨ lifeRun ≤ a ∨
  a ∈ [0x20000060, 0x20000084, 0x200E0078, 0x200E0080, 0x20112004, 0x20112010, 0x20112014, 0x20010060, 0x20010064, 0x20010068]

theorem resetWrites_lifeRun (i : Nat) : resetWrites (lifeRun + i) := .inr (.inl (Nat.le_add_right ..))

theorem resetWrites_copy {c i : Nat} (h : i < 0x400) : resetWrites (0x10200000 + 0x400 * (c % 2) + i) := .inl (by omega)

theorem lifetimeFlush_writes (s : State) :
    ∃ t n, WritesAt resetWrites s t ∧ s.lifetimeFlush = { t with ev := { t.ev with nextCopy := n } } := by
  refine ⟨_, _, ?_, rfl⟩
  refine ((setWord_writesAt s _ (resetWrites_lifeRun 4)).trans (foldl_writesAt _ _ _ fun i hi t => ?_)).trans
    (setWord_writesAt _ _ (resetWrites_copy (by decide)))
  have hlt : i < 255 := List.mem_range.mp hi
  exact setWord_writesAt t _ (resetWrites_copy (by omega))

theorem lifetimeRestore_writes (s : State) : WritesAt resetWrites s s.lifetimeRestore :=
  ((foldl_writesAt _ _ s fun _ _ t => setWord_writesAt t _ (resetWrites_lifeRun _)).trans
    (setWord_writesAt _ _ (resetWrites_lifeRun _))).trans (setWord_writesAt _ _ (resetWrites_lifeRun _))

theorem noteCause_writes (s : State) (k : ResetKind) : WritesAt resetWrites s (s.noteCause k) := by
  have hcause : resetWrites 0x20000060 := .inr (.inr (by decide))
  unfold State.noteCause
  dsimp only
  split
  · exact ((setWord_writesAt s _ hcause).trans (put_writesAt _ _ hcause)).trans (put_writesAt _ _ hcause)
  · split
    · exact put_writesAt s _ hcause
    · exact (put_writesAt s _ hcause).trans (put_writesAt _ _ hcause)

theorem mirrorCause_writes (s : State) : WritesAt resetWrites s s.mirrorCause :=
  setWord_writesAt s _ (.inr (.inr (by decide)))

theorem otpMirror_writes (s : State) : WritesAt resetWrites s s.otpMirror :=
  ((((put64_writesAt s _ (.inr (.inr (by decide))) (.inr (.inr (by decide)))).trans
    (put_writesAt _ _ (.inr (.inr (by decide))))).trans (put_writesAt _ _ (.inr (.inr (by decide))))).trans
    (put_writesAt _ _ (.inr (.inr (by decide))))).trans (put_writesAt _ _ (.inr (.inr (by decide))))

/-! ### What survives -/

/-- R494: what a reset of kind `k` finds: any but a power-on reset flushes the lifetime values first. -/
def State.beforeReset (s : State) (k : ResetKind) : State := if k = .por then s else s.lifetimeFlush

/-- R43: what a reset of kind `k` leaves of `s`, before it writes a word of its own. -/
def State.resetBase (s : State) (k : ResetKind) : State :=
  { words := s.words.filter (fun e => survives k e.1)
    free := s.free
    otp := s.otp
    mram := if k = .por then { s.cutWrite with permit := 0 } else s.cutWrite
    ev := { nextCopy := s.ev.nextCopy }
    sys := { inReset := true, pllLossPending := s.sys.pllLossPending && k ≠ .pllLoss, xtalGone := s.sys.xtalGone,
             porSeen := k = .por || (s.sys.inReset && s.sys.porSeen), sameCycle := !s.sys.inReset || s.sys.sameCycle,
             forcesLost := max s.prog.forces.length s.sys.forcesLost, tjMax := if k = .por then none else s.sys.tjMax,
             railHist := if k = .por then 0 else s.sys.railHist }
    sto := { held := s.sto.held, vddBad := s.sto.vddBad }
    pending := s.pending }

/-- R12, R44, R63: the writes that every reset makes; the cause is noted with the record `y` of SYS before the reset. -/
theorem resetMirrors_writes (s : State) (y : SysInt) (k : ResetKind) : WritesAt resetWrites s
    ({ { s with sys := y }.noteCause k with sys := s.sys }.put F.EVREC_PROGRESS 0).mirrorCause.otpMirror := by
  have hcause := (noteCause_writes { s with sys := y } k).withSys
  have hprogress := hcause.trans (put_writesAt (f := F.EVREC_PROGRESS) _ 0 (.inr (.inr (by decide))))
  exact (hprogress.trans (mirrorCause_writes _)).trans (otpMirror_writes _)

/-- R42: a reset is what it leaves, and the words it then writes. -/
theorem assertReset_writes (s : State) (k : ResetKind) :
    WritesAt resetWrites ((s.beforeReset k).resetBase k) (s.assertReset k) := by
  have hcycles : resetWrites F.EVREC_PWRCYC.addr := .inr (.inr (by decide))
  have hcount : resetWrites F.SYS_RESET_COUNT_COUNT.addr := .inr (.inr (by decide))
  unfold State.assertReset
  extract_lets u cut base sys caused t restored cycles
  have hmirrors : WritesAt resetWrites base t := resetMirrors_writes base _ k
  have hbase : (s.beforeReset k).resetBase k = base := rfl
  rw [hbase]
  split
  · exact ((hmirrors.trans (lifetimeRestore_writes t)).trans (put_writesAt _ _ hcycles)).trans
      (setWord_writesAt _ _ (resetWrites_lifeRun _))
  · split
    · exact hmirrors
    · exact hmirrors.trans (put_writesAt _ _ hcount)

theorem beforeReset_frame (s : State) (k : ResetKind) : ∃ w e, s.beforeReset k = { s with words := w, ev := e } := by
  unfold State.beforeReset
  split
  · exact ⟨s.words, s.ev, rfl⟩
  · obtain ⟨t, n, ⟨⟨w, rfl⟩, -⟩, e⟩ := lifetimeFlush_writes s
    exact ⟨w, _, e⟩

theorem beforeReset_word (s : State) (k : ResetKind) {a : Nat} (ha : ¬resetWrites a) : (s.beforeReset k).word a = s.word a := by
  unfold State.beforeReset
  split
  · rfl
  · obtain ⟨t, n, ⟨-, hw⟩, e⟩ := lifetimeFlush_writes s
    rw [e]
    exact hw a ha

theorem tabGet_filter {α : Type} (d : α) (t : List (Nat × α)) (p : Nat → Bool) {k : Nat} (h : p k = true) :
    tabGet d (t.filter fun e => p e.1) k = tabGet d t k := by
  induction t with
  | nil => rfl
  | cons e r ih =>
    by_cases hk : k = e.1
    · simp [tabGet, ← hk, h]
    · cases hp : p e.1 <;> simp [tabGet, hp, hk, ih]

/-- R43: a word that survives, and that the reset does not write itself. -/
theorem assertReset_word (s : State) (k : ResetKind) {a : Nat} (hs : survives k a = true) (ha : ¬resetWrites a) :
    (s.assertReset k).word a = s.word a := by
  obtain ⟨-, hw⟩ := assertReset_writes s k
  calc (s.assertReset k).word a = ((s.beforeReset k).resetBase k).word a := hw a ha
    _ = (s.beforeReset k).word a := tabGet_filter _ _ (survives k) hs
    _ = s.word a := beforeReset_word s k ha

/-- R455: an image write that is cut off costs its bank; the remote permissions stay. -/
theorem cutWrite_permit (s : State) : s.cutWrite.permit = s.mram.permit := by
  unfold State.cutWrite
  split <;> rfl

theorem cutWrite_idle {s : State} (h : s.sec.writes = []) : s.cutWrite = s.mram := by
  simp [State.cutWrite, h]

/-- R42, R43: every record of the state after a reset is that of `State.resetBase`; those of OTP, the queue and MRAM go back to `s`. -/
theorem assertReset_records (s : State) (k : ResetKind) :
    (s.assertReset k).otp = s.otp ∧ (s.assertReset k).pending = s.pending ∧ (s.assertReset k).sys.inReset = true ∧
    (s.assertReset k).mram.permit = (if k = .por then 0 else s.mram.permit) ∧
    (s.sec.writes = [] → (s.assertReset k).mram = { s.mram with permit := if k = .por then 0 else s.mram.permit }) := by
  obtain ⟨⟨w, hafter⟩, -⟩ := assertReset_writes s k
  obtain ⟨w', e, hbefore⟩ := beforeReset_frame s k
  have hpermit : (s.beforeReset k).cutWrite.permit = s.mram.permit := by rw [cutWrite_permit, hbefore]
  have hidle : s.sec.writes = [] → (s.beforeReset k).cutWrite = s.mram := fun h => by
    rw [cutWrite_idle (by rw [hbefore]; exact h), hbefore]
  rw [hafter]
  refine ⟨by rw [hbefore]; rfl, by rw [hbefore]; rfl, rfl, ?_, fun h => ?_⟩
  · dsimp only [State.resetBase]
    split
    · rfl
    · exact hpermit
  · dsimp only [State.resetBase]
    rw [hidle h]
    split <;> rfl

/-- R43, R44: the fault latch of the Sluice and the control word of the watchdog are no words that a reset writes. -/
theorem not_resetWrites_latch : ¬resetWrites 0x200D0064 := by
  unfold resetWrites lifeRun
  decide

theorem not_resetWrites_watchdog : ¬resetWrites 0x20000070 := by
  unfold resetWrites lifeRun
  decide

/-- Settles O13: the records of `assertReset_records`, and two words that survive. -/
theorem resetKeepsWhatSurvives : Obligations.ResetKeepsWhatSurvives := by
  intro k s _
  obtain ⟨hotp, hqueue, hreset, hpermit, hmram⟩ := assertReset_records s k
  refine ⟨hotp, hqueue, hreset, fun hk => ?_, hmram, fun hk => ?_, fun hk hw => ?_⟩
  · rw [hpermit, if_neg hk]
  · exact assertReset_word s k (by simp [survives, isKeptWord, hk]) not_resetWrites_latch
  · exact assertReset_word s k (by simp [survives, isKeptWord, hk, hw]) not_resetWrites_watchdog

end Sys2Proof.Machine

/-! Opcodes that read (R55, R74, R79, R81): an answer to a packet changes the host queues alone, and the row of an opcode that reads
answers its packet, whatever its checks say. -/

namespace Sys2Proof.Machine

/-- R61: the fields of the status word of queue `q` beside INFLIGHT. -/
def statusFields (q : Nat) : List Fld := [F.Q_STAT_SQ_HEAD q, F.Q_STAT_CFG_REJ q, F.Q_STAT_ERR q, F.Q_STAT_STATE q]

/-- `t` is `s` but for the records of the host queues and INFLIGHT of queue `q`. -/
def AnswersOn (q : Nat) (s t : State) : Prop :=
  (∃ h w, t = { s with host := h, words := w }) ∧ (∀ a, a ≠ (F.Q_STAT_INFLIGHT q).addr → t.word a = s.word a) ∧
  (s.canonical = true → t.canonical = true ∧ ∀ f ∈ statusFields q, t.get f = s.get f)

section
variable {q : Nat}

theorem AnswersOn.refl (s : State) : AnswersOn q s s := ⟨⟨s.host, s.words, rfl⟩, fun _ _ => rfl, fun hc => ⟨hc, fun _ _ => rfl⟩⟩

theorem AnswersOn.trans {s t u : State} (h : AnswersOn q s t) (k : AnswersOn q t u) : AnswersOn q s u := by
  obtain ⟨⟨o, w, rfl⟩, hword, hcanon⟩ := h
  obtain ⟨⟨o', w', rfl⟩, kword, kcanon⟩ := k
  refine ⟨⟨o', w', rfl⟩, fun a ha => (kword a ha).trans (hword a ha), fun hc => ?_⟩
  obtain ⟨hc', hget⟩ := hcanon hc
  obtain ⟨hc'', kget⟩ := kcanon hc'
  exact ⟨hc'', fun f hf => (kget f hf).trans (hget f hf)⟩

theorem host_answersOn (s : State) (h : HostInt) : AnswersOn q s { s with host := h } :=
  ⟨⟨h, s.words, rfl⟩, fun _ _ => rfl, fun hc => ⟨hc, fun _ _ => rfl⟩⟩

theorem setQ_answersOn (s : State) (n : Nat) (v : QInt) : AnswersOn q s (s.setQ n v) := host_answersOn s _

/-- R61: INFLIGHT lies apart from the other fields of its word. -/
theorem statusFields_apart {f : Fld} (hf : f ∈ statusFields q) :
    (f.hi < 32 ∧ f.lo ≤ f.hi) ∧ (f.hi < (F.Q_STAT_INFLIGHT q).lo ∨ (F.Q_STAT_INFLIGHT q).hi < f.lo) := by
  simp only [statusFields, List.mem_cons, List.not_mem_nil, or_false] at hf
  rcases hf with rfl | rfl | rfl | rfl <;> simp [F.Q_STAT_SQ_HEAD, F.Q_STAT_CFG_REJ, F.Q_STAT_ERR, F.Q_STAT_STATE, F.Q_STAT_INFLIGHT]

theorem put_inflight_answersOn (s : State) (v : Nat) : AnswersOn q s (s.put (F.Q_STAT_INFLIGHT q) v) := by
  refine ⟨⟨s.host, _, rfl⟩, fun a ha => word_setWord_other s _ a _ ha, fun hc => ⟨put_canonical s _ v hc, fun f hf => ?_⟩⟩
  obtain ⟨hbits, hapart⟩ := statusFields_apart hf
  exact get_put_apart s (F.Q_STAT_INFLIGHT q) f v hc (by decide : 16 < 32 ∧ 10 ≤ 16) hbits hapart

theorem setFlight_answersOn (s : State) (l : List Flight) : AnswersOn q s (s.setFlight q l) := by
  unfold State.setFlight
  dsimp only
  split
  · exact (setQ_answersOn s q _).trans (put_inflight_answersOn _ _)
  · exact setQ_answersOn s q _

end

theorem dropVerified_answersOn (s : State) (p : Pkt) (last dup : Bool) : AnswersOn p.queue s (s.dropVerified p last dup) := by
  unfold State.dropVerified
  split
  · exact host_answersOn s _
  · exact .refl s

theorem noteEnd_answersOn (s : State) (p : Pkt) (last refused : Bool) : AnswersOn p.queue s (s.noteEnd p last refused) := by
  unfold State.noteEnd
  dsimp only
  split
  · exact .refl s
  · split
    · exact setFlight_answersOn s _
    · exact setFlight_answersOn s _

/-- R74: the reply to a packet that asks for one. -/
theorem reply_answersOn {p : Pkt} (hp : p.noReply = false) (s : State) (status : Nat) (res : List Nat) (time : Nat) (last refused : Bool) :
    AnswersOn p.queue s (s.reply p status res time last refused) := by
  have hended := (dropVerified_answersOn s p last refused).trans (noteEnd_answersOn _ p last refused)
  unfold State.reply
  rw [hp]
  dsimp only
  rw [if_neg Bool.false_ne_true]
  split
  · exact hended
  · exact hended.trans (setQ_answersOn _ _ _)

/-- R81, R430: an opcode that changes no state and joins no queue of requests, whose effect is to answer with what it read, only
answers: it waits, is refused, or gives its result. -/
theorem command_answersOn {p : Pkt} (hp : p.noReply = false) (s : State) {op : Nat} (checks : List (Bool × Nat)) (res : State → List Nat)
    (hw : opFlagW op = false) (hj : joinOps.contains op = false) :
    AnswersOn p.queue s (s.command p op checks (fun t => t.doneRes p (res t))) := by
  cases hwait : s.mustWait p with
  | true => rw [command_waits hwait]; exact .refl s
  | false =>
    cases hpre : s.precheck p op with
    | some st => rw [command_precheck hwait hpre]; exact reply_answersOn hp ..
    | none =>
      cases hfail : firstFail checks with
      | some st => rw [command_refused hwait hpre hfail]; exact reply_answersOn hp ..
      | none =>
        have hmirror : s.mirrorCycle p op = none := by simp [State.mirrorCycle, opMirrored, hw]
        rw [command_lone ⟨hwait, hpre, hfail, hmirror⟩ hj]
        exact reply_answersOn hp ..

/-- The command ends in a next state that differs from `s` in the host queues alone. -/
def AnswersOut (q : Nat) (s : State) (o : Out) : Prop := ∃ t, o = .next t ∧ AnswersOn q s t

/-- The row of an opcode that reads. -/
theorem command_answersOut {p : Pkt} (hp : p.noReply = false) (s : State) {op : Nat} (checks : List (Bool × Nat)) (res : State → List Nat)
    (hw : opFlagW op = false) (hj : joinOps.contains op = false) :
    AnswersOut p.queue s (.next (s.command p op checks (fun t => t.doneRes p (res t)))) :=
  ⟨_, rfl, command_answersOn hp s checks res hw hj⟩

/-- R55, R56, R115, R167, R219, R246, R315, R363, R381, R421, R445, R467, R499, R508: the rows of the opcodes that read. -/
theorem readOpcode_answersOut {p : Pkt} (hp : p.noReply = false) (n : Nat) (s : State) {c : Instr}
    (hc : c ∈ [.sysInfo p, .sysBootStatus p, .timeRead p n, .loopRead p, .gpioRead p, .axisRead p, .ringStatus p, .ringCounters p,
      .recipeStatus p, .acqStatus p, .spliceStatus p, .recRead p, .recHead p, .lifeRead p, .touchStatus p, .hotplugStatus p,
      .sluiceStatus p, .secCertRead p]) : AnswersOut p.queue s (exec c s) := by
  simp only [List.mem_cons, List.not_mem_nil, or_false] at hc
  rcases hc with rfl | rfl | rfl | rfl | rfl | rfl | rfl | rfl | rfl | rfl | rfl | rfl | rfl | rfl | rfl | rfl | rfl | rfl <;>
    exact command_answersOut hp s _ _ rfl rfl

/-- Settles O16: what `AnswersOn` says of each of the rows. -/
theorem readOpcodesOnlyAnswer : Obligations.ReadOpcodesOnlyAnswer := by
  intro p n s c hp hc hmem
  obtain ⟨t, hexec, ⟨h, w, rfl⟩, hword, hcanon⟩ := readOpcode_answersOut hp n s hmem
  obtain ⟨-, hget⟩ := hcanon hc
  exact ⟨_, hexec, rfl, hword, hget⟩

end Sys2Proof.Machine

/-! Host commands (chapter 03): the queue of commands and its front, the common checks of a packet and RECOVERY (R79, R81, R86),
the loss of the host (R58), and the host queues and the link (R57, R61, R63, R68, R71, R84, R462) complete. -/

namespace Sys2Proof.Machine

/-! ### The queue of commands -/

/-- With a command at the front of the queue, a step is that command on the queue's rest. -/
theorem step_front {s : State} {c : Instr} {rest : List Instr} (h : s.pending = c :: rest) :
    step s = exec c { s with pending := rest } := by
  simp [step, h]

/-- Settles O1: the step at a queue that is not empty. -/
theorem stepRunsFrontCommand : Obligations.StepRunsFrontCommand := fun _ _ _ => step_front rfl

/-- Settles O3: the queue behind the command is part of what `step_kept` says every step keeps. -/
theorem stepTakesOneCommand : Obligations.StepTakesOneCommand := by
  intro s t c rest hc hq h
  obtain ⟨-, hqueue, -⟩ := step_kept hc h
  rwa [hq] at hqueue

/-! ### The common checks of a packet -/

/-- R81: behind the checks of length, flag A and signature, permission decides: that of the queue (R86, R87) and that of a STANDBY (R437). -/
theorem precheck_of_signed {p : Pkt} {s : State} (hlen : opLenOk p = true) (hwords : p.params.length * 4 = p.len)
    (hremote : p.queue = 4 → p.len ≤ 1024) (haccept : (p.noReply && opFlagA p.opcode) = false)
    (hsig : (p.queue < 4 && (p.signed || opFlagS p.opcode) && !(p.signed && s.sigOk p)) = false) :
    s.precheck p p.opcode = if !s.remoteOk p || !s.recoveryOk p then some stNOT_PERMITTED
      else if opFlagW p.opcode && s.standby && !p.mir then some stNOT_PERMITTED else none := by
  have hfits : (!opLenOk p || p.params.length * 4 ≠ p.len || (p.queue = 4 && decide (1024 < p.len))) = false := by
    simpa [hlen, hwords] using hremote
  unfold State.precheck
  rw [if_neg (not_not.mpr rfl), hfits, haccept, hsig]
  rfl

/-- R86: what RECOVERY lets through comes from Q0 and carries one of the five opcodes. -/
theorem recoveryOk_iff {p : Pkt} {s : State} (h : s.stage = STAGE_RECOVERY) : s.recoveryOk p = true ↔
    p.queue = 0 ∧ p.opcode ∈ [opSysInfo, opSysBootStatus, opSysReset, opSecCertRead, opSecImageWrite] := by
  simp [State.recoveryOk, h]

/-- R81, R86: of the five opcodes, three only read: a STANDBY serves them, and RECOVERY serves them on Q0. -/
theorem recoveryReads_served : ∀ o ∈ [opSysInfo, opSysBootStatus, opSecCertRead], opFlagW o = false ∧
    o ∈ [opSysInfo, opSysBootStatus, opSysReset, opSecCertRead, opSecImageWrite] := by decide

/-- R87: the mask of groups is for remote packets. -/
theorem remoteOk_local {p : Pkt} (s : State) (h : p.queue ≠ 4) : s.remoteOk p = true := by
  simp [State.remoteOk, h]

/-- Settles O9: behind length and signature, RECOVERY's permission decides. -/
theorem recoveryServesFiveOpcodes : Obligations.RecoveryServesFiveOpcodes := by
  intro p s hlen hwords hremote haccept hsig hstage
  rw [precheck_of_signed hlen hwords hremote haccept hsig]
  refine ⟨fun hother => ?_, fun hq hmir hop => ?_⟩
  · have hrefused : s.recoveryOk p = false := by
      rw [← Bool.not_eq_true, recoveryOk_iff hstage]
      tauto
    rw [hrefused, if_pos (by simp)]
  · obtain ⟨hread, hserved⟩ := recoveryReads_served _ hop
    rw [remoteOk_local s (by omega), (recoveryOk_iff hstage).mpr ⟨hq, hserved⟩, hread]
    rfl

/-! ### The row of an opcode -/

/-- R79, R81: the row is a host command of opcode `op`: it has some checks of its own and some effect. -/
def CommandRow (row : Pkt → Instr) (op : Nat) : Prop :=
  ∀ p s, ∃ checks effect, exec (row p) s = .next (s.command p op checks effect)

/-- R79, R81: a host command waits, and answers what a common check refuses. -/
theorem packetRow_of_commandRow {row : Pkt → Instr} {op : Nat} (h : CommandRow row op) : PacketRow row op := by
  intro p s
  obtain ⟨checks, effect, hexec⟩ := h p s
  exact ⟨fun hwait => hexec.trans (congrArg _ (command_waits hwait)),
    fun st hturn hfail => hexec.trans (congrArg _ (command_precheck hturn hfail))⟩

/-- A choice between two host commands of one opcode is one. -/
theorem exists_command_ite {s : State} {p : Pkt} {op : Nat} {c : Prop} [Decidable c] {l l' : List (Bool × Nat)} {f f' : State → State} :
    ∃ checks effect, (.next (if c then s.command p op l f else s.command p op l' f') : Out) = .next (s.command p op checks effect) := by
  split <;> exact ⟨_, _, rfl⟩

/-- R158, R167: a state command of a slot is a host command. -/
theorem exists_command_reqCommand {s : State} {p : Pkt} {op kind mask : Nat} {manual : Bool} :
    ∃ checks effect, (.next (s.reqCommand p op kind mask manual) : Out) = .next (s.command p op checks effect) := by
  unfold State.reqCommand
  exact ⟨_, _, rfl⟩

/-- R188, R192: a command that injects is a host command. -/
theorem exists_command_injCommand {s : State} {p : Pkt} {op mode : Nat} {bad : Bool} {start : State → Nat → State} :
    ∃ checks effect, (.next (s.injCommand p op mode bad start) : Out) = .next (s.command p op checks effect) := by
  unfold State.injCommand
  exact ⟨_, _, rfl⟩

/-- R246: a motion command is a host command. -/
theorem exists_command_axCommand {s : State} {p : Pkt} {op code : Nat} {safe bad : Bool} {words : List Nat} :
    ∃ checks effect, (.next (s.axCommand p op safe bad code words) : Out) = .next (s.command p op checks effect) := by
  unfold State.axCommand
  exact ⟨_, _, rfl⟩

/-- R167: LOOP_OPEN and LOOP_CLOSE. -/
theorem slotState_packetRows : PacketRow .loopOpen opLoopOpen ∧ PacketRow .loopClose opLoopClose :=
  ⟨packetRow_of_commandRow fun _ _ => exists_command_reqCommand, packetRow_of_commandRow fun _ _ => exists_command_reqCommand⟩

/-- R192: LOOP_STEP and LOOP_SWEEP. -/
theorem injection_packetRows : PacketRow .loopStep opLoopStep ∧ PacketRow .loopSweep opLoopSweep :=
  ⟨packetRow_of_commandRow fun _ _ => exists_command_injCommand, packetRow_of_commandRow fun _ _ => exists_command_injCommand⟩

/-- R246: the opcodes whose effect is a request to an axis. -/
theorem axisRequest_packetRows : PacketRow .axisMove opAxisMove ∧ PacketRow .axisStop opAxisStop ∧ PacketRow .axisEnable opAxisEnable ∧
    PacketRow .axisGear opAxisGear ∧ PacketRow .axisCam opAxisCam ∧ PacketRow .axisPhaseTrim opAxisPhaseTrim := by
  and_intros <;> exact packetRow_of_commandRow fun _ _ => exists_command_axCommand

/-- R214, R370: PWM_CONFIG sets the trip pins or a generator, ACQ_STREAM returns buffers or sets them. -/
theorem twoForm_packetRows : PacketRow .pwmConfig opPwmConfig ∧ PacketRow .acqStream opAcqStream :=
  ⟨packetRow_of_commandRow fun _ _ => exists_command_ite, packetRow_of_commandRow fun _ _ => exists_command_ite⟩

/-- R56, R115: SYS_HEALTH and TIME_READ, whose rows carry what the device measures besides the packet. -/
theorem measured_packetRows : (∀ h : Health, PacketRow (fun p => .sysHealth p h) opSysHealth) ∧
    ∀ ports : Nat, PacketRow (fun p => .timeRead p ports) opTimeRead :=
  ⟨fun _ => packetRow_of_commandRow fun _ _ => ⟨_, _, rfl⟩, fun _ => packetRow_of_commandRow fun _ _ => ⟨_, _, rfl⟩⟩

/-- Settles O8: the row of every opcode is a host command. -/
theorem precheckRefusesEveryPacket : Obligations.PrecheckRefusesEveryPacket := by
  unfold Obligations.PrecheckRefusesEveryPacket
  simp only [slotState_packetRows, injection_packetRows, axisRequest_packetRows, twoForm_packetRows, measured_packetRows,
    implies_true, true_and]
  and_intros
  all_goals exact packetRow_of_commandRow fun _ _ => ⟨_, _, rfl⟩

/-! ### The loss of the host -/

/-- R26, R58: `t` is `s` but for words of HOSTIF and the host's records; and is canonical where `s` is. -/
def HostifOnly (s t : State) : Prop :=
  (∀ a, a < 0x20110000 ∨ 0x20120000 ≤ a → t.word a = s.word a) ∧ (s.canonical = true → t.canonical = true) ∧
  ∃ w h, t = { s with words := w, host := h }

theorem HostifOnly.trans {s t u : State} (h : HostifOnly s t) (k : HostifOnly t u) : HostifOnly s u := by
  obtain ⟨hword, hcanon, w, o, rfl⟩ := h
  obtain ⟨kword, kcanon, w', o', rfl⟩ := k
  exact ⟨fun a ha => (kword a ha).trans (hword a ha), fun hc => kcanon (hcanon hc), w', o', rfl⟩

theorem host_hostifOnly (s : State) (h : HostInt) : HostifOnly s { s with host := h } :=
  ⟨fun _ _ => rfl, id, s.words, h, rfl⟩

theorem put_hostifOnly (s : State) (f : Fld) (v : Nat) (h : 0x20110000 ≤ f.addr ∧ f.addr < 0x20120000) : HostifOnly s (s.put f v) :=
  ⟨fun a ha => word_setWord_other s f.addr a _ (by omega), put_canonical s f v, _, s.host, rfl⟩

theorem killQueue_hostifOnly (s : State) {n : Nat} (hn : n < 4) : HostifOnly s (s.killQueue n) :=
  (((host_hostifOnly s _).trans (put_hostifOnly _ (F.Q_CTL_EN n) 0 (by simp only [F.Q_CTL_EN]; omega))).trans
    (put_hostifOnly _ (F.Q_STAT_STATE n) 0 (by simp only [F.Q_STAT_STATE]; omega))).trans
    (put_hostifOnly _ (F.Q_STAT_INFLIGHT n) 0 (by simp only [F.Q_STAT_INFLIGHT]; omega))

/-- R61: the state of a queue lies apart from INFLIGHT of every queue, and from the enables. -/
theorem get_state_put_inflight (s : State) (q n v : Nat) (hc : s.canonical = true) :
    (s.put (F.Q_STAT_INFLIGHT n) v).get (F.Q_STAT_STATE q) = s.get (F.Q_STAT_STATE q) :=
  get_put_apart s _ _ v hc (by decide : 16 < 32 ∧ 10 ≤ 16) (by decide : 2 < 32 ∧ 0 ≤ 2) (.inl (by decide : 2 < 10))

theorem get_state_put_enable (s : State) (q n v : Nat) :
    (s.put (F.Q_CTL_EN n) v).get (F.Q_STAT_STATE q) = s.get (F.Q_STAT_STATE q) :=
  get_put_other s _ _ v (by simp only [F.Q_CTL_EN, F.Q_STAT_STATE]; omega)

/-- R58: a queue is disabled once it has been, or is now. -/
theorem killQueue_disables {s : State} {q n : Nat} (hc : s.canonical = true)
    (h : q = n ∨ s.get (F.Q_STAT_STATE q) = 0) : (s.killQueue n).get (F.Q_STAT_STATE q) = 0 := by
  have hcleared : ((s.setQ n { gen := (s.q n).gen }).put (F.Q_CTL_EN n) 0).canonical = true := put_canonical _ _ 0 hc
  unfold State.killQueue
  rw [get_state_put_inflight _ _ _ _ (put_canonical _ _ 0 hcleared)]
  by_cases hqn : q = n
  · rw [hqn]
    exact get_put_same _ (F.Q_STAT_STATE n) 0 hcleared (by decide : 2 < 32) (by decide : 0 ≤ 2)
  · rw [get_put_other _ _ _ _ (by simp only [F.Q_STAT_STATE]; omega), get_state_put_enable]
    exact h.resolve_left hqn

/-- R58: the queues of a list are disabled, and so are those that were. -/
theorem foldl_killQueue_disables {q : Nat} (l : List Nat) (hl : ∀ n ∈ l, n < 4) (s : State) (hc : s.canonical = true)
    (h : q ∈ l ∨ s.get (F.Q_STAT_STATE q) = 0) : (l.foldl State.killQueue s).get (F.Q_STAT_STATE q) = 0 := by
  induction l generalizing s with
  | nil => simpa using h
  | cons n r ih =>
    obtain ⟨hn, hr⟩ := List.forall_mem_cons.mp hl
    obtain ⟨-, hcanon, -⟩ := killQueue_hostifOnly s hn
    refine ih hr _ (hcanon hc) ?_
    rw [List.mem_cons] at h
    rcases h with (h | h) | h
    · exact .inr (killQueue_disables hc (.inl h))
    · exact .inl h
    · exact .inr (killQueue_disables hc (.inr h))

theorem killQueues_disables {s : State} {q : Nat} (hc : s.canonical = true) (hq : q < 4) :
    s.killQueues.get (F.Q_STAT_STATE q) = 0 :=
  foldl_killQueue_disables [0, 1, 2, 3] (by decide) s hc (.inl (by simp; omega))

theorem killQueues_hostifOnly (s : State) : HostifOnly s s.killQueues :=
  (((killQueue_hostifOnly s (by decide)).trans (killQueue_hostifOnly _ (by decide))).trans (killQueue_hostifOnly _ (by decide))).trans
    (killQueue_hostifOnly _ (by decide))

/-- R84: a message to the host, sent or kept pending, is a record of the host's. -/
theorem msix_frame (s : State) (v : Nat) : ∃ h, s.msix v = { s with host := h } := by
  unfold State.msix
  split <;> exact ⟨_, rfl⟩

/-- R370, R372: delivery to the host stops, and the host is told where the engine is not IDLE. -/
theorem acqHalt_frame (s : State) : ∃ h, s.acqHalt = { s with host := h, acq := { s.acq with halted := true } } := by
  unfold State.acqHalt
  dsimp only
  split
  · obtain ⟨h, e⟩ := msix_frame { s with acq := { s.acq with halted := true } } 9
    exact ⟨h, e⟩
  · exact ⟨s.host, rfl⟩

/-- R58: what is lost with the host: the four queues, and the stream to it. -/
theorem hostLost_spec (s : State) (hc : s.canonical = true) :
    (∀ q < 4, s.hostLost.get (F.Q_STAT_STATE q) = 0) ∧
    (∀ a, a < 0x20110000 ∨ 0x20120000 ≤ a → s.hostLost.word a = s.word a) ∧
    ∃ w h, s.hostLost = { s with words := w, host := h, acq := { s.acq with halted := true } } := by
  obtain ⟨hword, -, w, h, hkill⟩ := killQueues_hostifOnly s
  obtain ⟨h', hhalt⟩ := acqHalt_frame s.killQueues
  have hwords : s.hostLost.words = s.killQueues.words := by rw [State.hostLost, hhalt]
  refine ⟨fun q hq => ?_, fun a ha => ?_, w, h', ?_⟩
  · rw [State.get, State.word, hwords]
    exact killQueues_disables hc hq
  · rw [State.word, hwords]
    exact hword a ha
  · rw [State.hostLost, hhalt, hkill]

/-- R57, R58: link down, function level reset and D3hot lose the host; the first two reset the function before. -/
theorem hostLoss_exec {c : Instr} {s : State}
    (h : c = .pcieLinkDown ∧ s.host.linkUp = true ∨ c = .functionLevelReset ∨ c = .d3hotEntry) :
    ∃ o, exec c s = .next { s with host := o }.hostLost := by
  rcases h with ⟨rfl, hup⟩ | rfl | rfl
  · exact ⟨_, next_pos hup⟩
  · exact ⟨_, rfl⟩
  · exact ⟨s.host, rfl⟩

/-- R61: a disabled host queue posts no reply. -/
theorem exec_replyPost_disabled {q : Nat} {s : State} (e : Bool) (hq : q ≠ 4) (h : s.get (F.Q_STAT_STATE q) = 0) :
    exec (.replyPost q e) s = .next s := (next_neg hq).trans (next_pos h)

/-- Settles O14: each of the three commands loses the host, and nothing else than its records before that. -/
theorem hostLossLeavesThePress : Obligations.HostLossLeavesThePress := by
  intro c s hcmd hc
  obtain ⟨o, hexec⟩ := hostLoss_exec hcmd
  obtain ⟨hoff, hword, w, h, hframe⟩ := hostLost_spec { s with host := o } hc
  refine ⟨_, hexec, fun q hq => ⟨hoff q hq, fun e => exec_replyPost_disabled e (by omega) (hoff q hq)⟩, hword, ?_⟩
  rw [hframe]

/-! ### Host queues -/

/-- R79, R81: a complete packet that no higher queue outranks is fetched; DMA errors are those of host queues. -/
theorem exec_packetFetch_waiting {n : Nat} {mem : List (Nat × List Word)} {d : Bool} {s : State} (hn : n ≤ 4) (hd : d = false ∨ n = 4)
    (hw : s.packetWaits mem n = true) (ho : s.outranked mem n = false) :
    exec (.packetFetch n mem d) s = .next (if n = 4 then s.fetchRemote else s.fetchHost (s.headPkt mem n)) := by
  have herror : ¬(d && decide (n < 4) && s.get (F.Q_STAT_STATE n) = 1) = true := by
    rcases hd with rfl | rfl <;> simp
  exact (next_neg (Nat.not_lt.mpr hn)).trans ((next_neg herror).trans (next_neg (by simp [hw, ho])))

/-- R61: a DMA error at the fetch stops an active host queue. -/
theorem exec_packetFetch_dmaError {n : Nat} (mem : List (Nat × List Word)) {s : State} (hn : n < 4) (h : s.get (F.Q_STAT_STATE n) = 1) :
    exec (.packetFetch n mem true) s = .next (s.stopQueue n 6) :=
  (next_neg (by omega)).trans (next_pos (by simp [hn, h]))

/-- R81, R462: the oldest signed packet that waits for no FENCE gets its verdict. -/
theorem exec_signatureVerifyDone {p : Pkt} {s : State} (h : s.sec.sigWait.find? (fun q => !s.mustWait q) = some p) :
    exec .signatureVerifyDone s = .next ((s.secI (fun v => { v with sigWait := v.sigWait.erase p })).secBusy.sigVerdict p) := by
  change execSignatureVerifyDone s = _
  unfold execSignatureVerifyDone
  rw [h]

/-- R61: an active queue is not disabled. -/
theorem active_ne_disabled {s : State} {n : Nat} (h : s.get (F.Q_STAT_STATE n) = 1) : ¬s.get (F.Q_STAT_STATE n) = 0 := by
  omega

/-- Settles O22: each command is its effect behind the guards of its queue. -/
theorem hostQueueCommandsComplete : Obligations.HostQueueCommandsComplete :=
  ⟨fun _ _ _ h => next_neg h, -- QNSQ_TAIL_WRITE
    fun _ _ _ => next_pos, -- QNCQ_HEAD_WRITE
    fun _ _ _ hn hv hs => (next_neg (Nat.not_le.mpr hn)).trans ((next_pos hv).trans (next_pos hs)), -- QNCTL_WRITE
    fun _ _ _ hn hv hs => (next_neg (Nat.not_le.mpr hn)).trans ((next_neg (ne_true_of_eq_false hv)).trans (next_pos hs)),
    fun _ _ _ hn hw ho => (exec_packetFetch_waiting hn.le (.inl rfl) hw ho).trans (next_neg hn.ne), -- PACKET_FETCH
    fun _ _ _ hw ho => exec_packetFetch_waiting le_rfl (.inr rfl) hw ho,
    fun _ mem _ hn hs => exec_packetFetch_dmaError mem hn hs,
    fun _ _ h => exec_signatureVerifyDone h, -- SIGNATURE_VERIFY_DONE
    fun _ _ => rfl, -- REPLY_POST
    fun _ _ hn hs => (next_neg hn).trans (next_neg hs),
    fun _ _ hn hs => (next_neg hn).trans ((next_neg (active_ne_disabled hs)).trans ((next_pos rfl).trans (next_pos hs))),
    fun _ _ h => next_neg h⟩ -- QUEUE_COAL_TIMEOUT

/-! ### The link, the heartbeat and the vectors -/

/-- Settles O23: each command is its effect behind its guard. -/
theorem hostLinkCommandsComplete : Obligations.HostLinkCommandsComplete :=
  ⟨fun _ h => next_pos h, -- PCIE_LINK_DOWN
    fun _ => rfl, fun _ => rfl, -- FUNCTION_LEVEL_RESET, D3HOT_ENTRY
    fun _ h => next_pos h, -- STAT_HEARTBEAT
    fun _ _ h => next_neg h, -- FIRMWARE_FATAL
    fun _ h => next_neg h, -- PCIE_LINK_UP
    fun _ _ => rfl⟩ -- MSIX_UNMASK

end Sys2Proof.Machine

/-! The timebase and plant Ethernet (chapter 04): the events of both and the time opcodes complete, each its own effect behind its
guard. -/

namespace Sys2Proof.Machine

/-- R477: an event of a unit that STANDBY stops, behind a guard that holds while these units run. -/
theorem awake_next_pos {s a b : State} {c : Prop} [Decidable c] (hr : s.runs = true) (h : c) :
    s.awake (.next (if c then a else b)) = .next a := (awake_on hr).trans (next_pos h)

/-- Settles O25: each write is its effect, and each event its effect behind its guard; HOLD_LIMIT_EXPIRY does nothing outside HOLDOVER. -/
theorem timeEventsComplete : Obligations.TimeEventsComplete :=
  ⟨fun _ _ => rfl, fun _ _ => rfl, -- TIME_SRC_WRITE, PTP_OFFSET_WRITE
    fun _ _ hlo hhi => next_pos ⟨hlo, hhi⟩, -- TIME_SOURCE_LOST
    fun _ hholdover => next_neg hholdover, -- HOLD_LIMIT_EXPIRY
    fun _ _ h => next_pos h, -- CMP_FIRE
    fun _ _ _ hn => next_pos hn, -- CMPN_CTRL_WRITE
    fun _ _ _ _ h => next_pos h⟩ -- CAP_EDGE

/-- Settles O26: an accepted packet has its opcode's effect, and an event at a port its effect behind its guard; frames and the end
of an MDIO access come only while the port's unit runs. -/
theorem timePacketsAndEthernetComplete : Obligations.TimePacketsAndEthernetComplete :=
  ⟨fun _ _ h => next_command h rfl, -- TIME_CONFIG
    fun _ _ _ h => next_command h rfl, -- TIME_READ
    fun _ _ _ _ hr h => awake_next_pos hr h, -- ETH_FRAME_SENT
    fun _ _ _ _ _ _ hr h => awake_next_pos hr h, -- ETH_FRAME_RX
    fun _ _ _ hport => next_pos hport, -- ETH_MDIO_GO
    fun _ _ _ hr h => awake_next_pos hr h⟩ -- ETH_MDIO_DONE

end Sys2Proof.Machine

/-! The converters (chapter 05): the events of the cores and of their reference, and the converter opcodes, complete, each its own
effect behind its guard. -/

namespace Sys2Proof.Machine

/-- Settles O27: register writes, reads and supply events are their effects on a core that exists; results, settling and the end of
a calibration come only while the converters run; AVDD that returns restarts settling only where the reference had not settled. -/
theorem adcEventsComplete : Obligations.AdcEventsComplete :=
  ⟨fun _ _ => rfl, -- ADC_SWTRIG_WRITE
    fun _ _ _ hr h => awake_next_pos hr h, -- ADC_RESULT
    fun _ _ hcore => next_pos hcore, -- ADC_FIFO_READ
    fun _ _ => rfl, -- ADC_REF_WRITE
    fun _ hr h => awake_next_pos hr h, -- REF_SETTLED
    fun _ _ _ hcore => next_pos hcore, -- ADC_ARM_WRITE
    fun _ _ hcore => next_pos hcore, -- CAL_GO
    fun _ _ _ hr h => awake_next_pos hr h, -- ADC_CAL_DONE
    fun _ => rfl, -- AVDD_LOW
    fun _ hunsettled => next_neg hunsettled, -- AVDD_RETURN
    fun _ _ hwaiting => next_pos hwaiting⟩ -- ADC_READ_TIMEOUT

/-- Settles O28: no converter opcode joins a queue of requests, so an accepted packet has its opcode's effect on the state itself. -/
theorem adcPacketsComplete : Obligations.AdcPacketsComplete :=
  ⟨fun _ _ h => next_command h rfl, -- ADC_CONFIG
    fun _ _ h => next_command h rfl, -- ADC_CALIBRATE
    fun _ _ h => next_command h rfl, -- ADC_SEQUENCE
    fun _ _ h => next_command h rfl⟩ -- ADC_READ

end Sys2Proof.Machine

/-! The loop engine (chapters 06 and 07): its events and the loop opcodes complete, each its own effect behind its guard. -/

namespace Sys2Proof.Machine

/-! ### Events and slot requests -/

/-- R158: a time-out of a request that waits answers it with TIMEOUT, after its device time. -/
theorem exec_slotRequestTimeout {n k : Nat} {r : SlotReq} {s : State} (h : (s.slot n).reqs[k]? = some r) :
    exec (.slotRequestTimeout n k) s = .next (
      let t := s.advanceTo r.tmo
      ((t.setSlot n { t.slot n with reqs := (t.slot n).reqs.eraseIdx k }).refreshPend n).answerReq n { r with cyc := none } stTIMEOUT) := by
  change execSlotRequestTimeout n k s = _
  unfold execSlotRequestTimeout
  rw [h]

/-- R158, R166: a code of REQ other than SAFE whose checks pass joins the slot's queue. -/
theorem slotReqWrite_queues {s : State} {n kind : Nat} (hn : n < 512) (hkind : 1 ≤ kind ∧ kind ≤ 5 ∧ kind ≠ 4)
    (hsafe : s.reqSafe n kind = false) (hchecks : firstFail (s.reqChecks n kind) = none) :
    s.slotReqWrite n kind = s.queueReq n { kind := kind } := by
  obtain ⟨hlow, hhigh, hnotSafe⟩ := hkind
  have hcode : ¬(kind = 0 ∨ 5 < kind) := by omega
  simp [State.slotReqWrite, Nat.not_le.mpr hn, hnotSafe, hcode, hsafe, hchecks]

/-- R158, R166: REQ = SAFE takes a slot that is neither IDLE nor in SAFE there at once. -/
theorem slotReqWrite_safe {s : State} {n : Nat} (hn : n < 512) (hidle : s.slotSt n ≠ slIDLE) (hsafe : s.slotSt n ≠ slSAFE) :
    s.slotReqWrite n 4 = s.safeNow n := by
  simp [State.slotReqWrite, Nat.not_le.mpr hn, hidle, hsafe]

/-- R191: GO starts an injector that is free, on a slot that permits an injection and has none, with a sample count in range. -/
theorem exec_injGo {i : Nat} {s : State} (hi : i < 4) (hfree : s.on (F.INJ_BUSY i) = false)
    (hmode : s.get (F.INJ_MODE i) = 1 ∨ s.get (F.INJ_MODE i) = 2) (hallowed : s.injAllowed (s.get (F.INJ_SLOT i)) = true)
    (hnone : s.injOf (s.get (F.INJ_SLOT i)) = none)
    (hcount : s.get (F.INJ_MODE i) = 1 → 0 < bits (s.get (F.INJ_INC i)) 10 0 ∧ bits (s.get (F.INJ_INC i)) 10 0 ≤ 1020) :
    exec (.injGo i) s = .next (s.startInj i {}) := by
  have hgoes : ¬(4 ≤ i ∨ s.on (F.INJ_BUSY i) ∨ s.get (F.INJ_MODE i) = 0 ∨ s.get (F.INJ_MODE i) = 3) := by
    simp only [hfree, Bool.false_eq_true, false_or]
    omega
  exact (next_neg hgoes).trans (next_neg (by simpa [hallowed, hnone, Nat.pos_iff_ne_zero] using hcount))

/-- Settles O29: each event is its effect behind its guard; the pipelines and the snapshot come only while the loop engine runs. -/
theorem loopEventsComplete : Obligations.LoopEventsComplete :=
  ⟨fun _ _ _ hr h => (awake_on hr).trans (next_pos h), -- SLOT_SAMPLE
    fun _ _ _ hr h0 h1 => (awake_on hr).trans ((next_neg h0).trans (next_pos h1)),
    fun _ _ hr h => awake_next_pos hr h, -- FB_TMO_EXPIRY
    fun _ _ _ _ => exec_slotRequestTimeout, -- SLOT_REQUEST_TIMEOUT
    fun _ hr h => (awake_on hr).trans (next_neg h), -- SNAPSHOT_TICK
    fun _ _ hn hs hc => congrArg Host.Outcome.next (slotReqWrite_queues hn (by decide) hs hc), -- SLOT_REQ_OPEN
    fun _ _ hn hs hc => congrArg Host.Outcome.next (slotReqWrite_queues hn (by decide) hs hc), -- SLOT_REQ_CLOSE
    fun _ _ hn hs hc => congrArg Host.Outcome.next (slotReqWrite_queues hn (by decide) hs hc), -- SLOT_REQ_OBSERVER
    fun _ _ hn hidle hsafe => congrArg Host.Outcome.next (slotReqWrite_safe hn hidle hsafe), -- SLOT_REQ_SAFE
    fun _ _ hn hs hc => congrArg Host.Outcome.next (slotReqWrite_queues hn (by decide) hs hc), -- SLOT_REQ_RELEASE
    fun _ _ => exec_injGo⟩ -- INJ_GO

/-! ### Loop opcodes -/

/-- R79, R81: the row of any opcode, with an accepted packet: its effect on the state that notes the packet's start. -/
theorem next_command_started {s : State} {p : Pkt} {op : Nat} {checks : List (Bool × Nat)} {effect : State → State}
    (h : s.accepts p op checks) : (.next (s.command p op checks effect) : Out) = .next (effect (s.noteStart p)) :=
  congrArg _ (command_accepts h)

/-- R158, R167: an accepted LOOP_OPEN or LOOP_CLOSE joins the requests of its slot. -/
theorem reqCommand_queues {s : State} {p : Pkt} {op kind mask : Nat} (manual : Bool) :
    let n := bits (p.w 0) 8 0
    s.accepts p op ((s.reqSafe n kind, stSAFE_STATE) :: (outside (p.w 0) mask, stBAD_PARAM) :: s.reqChecks n kind) →
    s.reqCommand p op kind mask manual = (s.noteStart p).queueReq n { kind := kind, pkt := some p, manual := manual } := by
  intro n haccepts
  unfold State.reqCommand
  rw [command_accepts haccepts]

/-- R192: an accepted LOOP_STEP or LOOP_SWEEP that does not stop an injection starts the lowest free injector, with its operands. -/
theorem injCommand_starts {s : State} {p : Pkt} {op mode i : Nat} {bad : Bool} {start : State → Nat → State}
    (hj : joinOps.contains op = false) :
    let n := bits (p.w 0) 8 0
    let stop := decide (p.w 1 = 0) && (s.injOf n).isSome
    s.accepts p op [(outside (p.w 0) 0x1FF || outside (p.w 2) 0x302 || bits (p.w 2) 9 8 = 3 || bad, stBAD_PARAM),
      (!stop && !s.injAllowed n, stNOT_PERMITTED), (!stop && (s.freeInj.isNone || (s.injOf n).isSome), stBUSY)] →
    stop = false → s.freeInj = some i →
    s.injCommand p op mode bad start =
      start ((((((s.put (F.INJ_SLOT i) n).put (F.INJ_MODE i) mode).put (F.INJ_MEAS i) (bits (p.w 2) 9 8)).put (F.INJ_AT i)
        (bits (p.w 2) 1 1)).put (F.INJ_AMP i) (p.w 1)).accept p) i := by
  intro n stop haccepts hstarts hfree
  unfold State.injCommand
  rw [command_lone haccepts hj, if_neg (ne_true_of_eq_false hstarts), hfree]

/-- Settles O30: an accepted packet has its opcode's effect, on the state that notes its start where the opcode joins a slot's
requests; LOOP_STEP and LOOP_SWEEP start an injector. -/
theorem loopPacketsComplete : Obligations.LoopPacketsComplete :=
  ⟨fun _ _ h => next_command h rfl, -- LOOP_CONFIG
    fun _ _ h => congrArg Host.Outcome.next (reqCommand_queues _ h), -- LOOP_OPEN
    fun _ _ h => congrArg Host.Outcome.next (reqCommand_queues _ h), -- LOOP_CLOSE
    fun _ _ h => next_command h rfl, -- LOOP_COEF_WRITE
    fun _ _ h => next_command h rfl, -- LOOP_SETPOINT
    fun _ _ h => next_command h rfl, -- LOOP_MANUAL
    fun _ _ h => next_command h rfl, -- LOOP_READ
    fun _ _ h => next_command_started h, -- LOOP_OBSERVER
    fun _ _ h => next_command_started h, -- LOOP_SAFE
    fun _ _ h => next_command h rfl, -- LOOP_SUPERVISE
    fun _ _ _ h hstarts hfree => congrArg Host.Outcome.next (injCommand_starts rfl h hstarts hfree), -- LOOP_STEP
    fun _ _ _ h hstarts hfree => congrArg Host.Outcome.next (injCommand_starts rfl h hstarts hfree), -- LOOP_SWEEP
    fun _ _ h => next_command_started h, -- LOOP_RELEASE
    fun _ _ h => next_command h rfl⟩ -- LOOP_STICKY_CLEAR

end Sys2Proof.Machine

/-! The pulse-width generators and the general pins (chapter 08): their events and opcodes complete, each its own effect behind its
guard. -/

namespace Sys2Proof.Machine

/-! ### Pulse width -/

/-- Settles O31: each event is its effect behind its guard; a boundary and a sample point come only while the generators' units run
(R477), and a start write has no guard. -/
theorem pwmEventsComplete : Obligations.PwmEventsComplete :=
  ⟨fun _ _ hr h => awake_next_pos hr h, -- PWM_BOUNDARY
    fun _ _ hr h => awake_next_pos hr h, -- PWM_SAMPLE_POINT
    fun _ _ _ hgen => next_pos hgen, -- PWM_EN_WRITE
    fun _ _ _ => rfl, -- PWM_START_WRITE
    fun _ _ hgen => next_pos hgen, -- LOADNOW
    fun _ _ hgen => next_pos hgen, -- TRIP_CLR
    fun _ _ _ hpasses => next_pos hpasses, -- TRIP_PIN_ASSERT
    fun _ _ _ hpasses => next_pos hpasses, -- TRIP_PIN_DEASSERT
    fun _ _ hunlocked => next_pos hunlocked, -- CORE_DEBUG_HALT
    fun _ _ hcore => next_pos hcore⟩ -- CORE_DEBUG_RESUME

/-- Settles O32: no pulse-width opcode joins a queue of requests, so an accepted packet has its opcode's effect on the state itself;
PINS chooses that of PWM_CONFIG. -/
theorem pwmPacketsComplete : Obligations.PwmPacketsComplete :=
  ⟨fun _ _ hpins h => (next_pos hpins).trans (next_command h rfl), -- PWM_CONFIG
    fun _ _ hgen h => (next_neg (ne_true_of_eq_false hgen)).trans (next_command h rfl),
    fun _ _ h => next_command h rfl, -- PWM_DUTY
    fun _ _ h => next_command h rfl, -- PWM_TRIP_CLEAR
    fun _ _ h => next_command h rfl⟩ -- PWM_ENABLE

/-! ### General pins -/

/-- Settles O33: set and clear writes have no guard, an event at a pin is its effect behind its guard, and an accepted packet has its
opcode's effect. -/
theorem gpioCommandsComplete : Obligations.GpioCommandsComplete :=
  ⟨fun _ _ _ => rfl, fun _ _ _ => rfl, -- GPIO_SET_WRITE, GPIO_CLR_WRITE
    fun _ _ _ _ hpin => next_pos hpin, -- GPIO_INPUT_CHANGE
    fun _ _ hdiffers => next_pos hdiffers, -- OUT_MISMATCH
    fun _ _ h => next_command h rfl, -- GPIO_CONFIG
    fun _ _ h => next_command h rfl, -- GPIO_WRITE
    fun _ _ h => next_command h rfl⟩ -- GPIO_READ

end Sys2Proof.Machine

/-! The axes and the encoders (chapter 09): the servo boundary, the requests to axes, the axis opcodes and the encoders complete; a
request joins the queue of its axis. -/

namespace Sys2Proof.Machine

/-! ### Requests to axes -/

/-- R223, R226: a request that waits behind another, or whose check passes, joins the requests of its axis. -/
theorem axEnqueue_joins {s : State} {n : Nat} {r : AxReq} (hfirst : (s.ax n).reqs = [] → s.axReqStatus n r = stDONE) :
    s.axEnqueue n r = s.setAx n { s.ax n with reqs := (s.ax n).reqs ++ [{ r with tick := r.tick + s.time.tick }] } := by
  have hstatus : (if (s.ax n).reqs.isEmpty then s.axReqStatus n r else stDONE) = stDONE := by
    split
    · exact hfirst (List.isEmpty_iff.mp ‹_›)
    · rfl
  exact if_pos hstatus

/-- R245: a code that core code writes to REQ of an axis that exists is a request without a packet. -/
theorem next_axReg {s : State} {n code : Nat} {words : List Nat} (hn : n < 96) :
    let r : AxReq := { code := code, words := words }
    ((s.ax n).reqs = [] → s.axReqStatus n r = stDONE) →
    (.next (s.axReg n code words) : Out) =
      .next (s.setAx n { s.ax n with reqs := (s.ax n).reqs ++ [{ r with tick := r.tick + s.time.tick }] }) :=
  fun hfirst => (next_pos hn).trans (congrArg Host.Outcome.next (axEnqueue_joins hfirst))

/-- Settles O34: while the ring does not run the servo boundary is its effect (R222), and each code of REQ is a request without a packet. -/
theorem axisRequestsComplete : Obligations.AxisRequestsComplete :=
  ⟨fun _ _ hr hring => (awake_on hr).trans (next_neg hring), -- SERVO_BOUNDARY
    fun _ _ => next_axReg, -- AXIS_REQ_PUSH
    fun _ _ => next_axReg, -- AXIS_REQ_STOP
    fun _ _ => next_axReg, -- AXIS_REQ_QUICK_STOP
    fun _ _ => next_axReg, -- AXIS_REQ_ENABLE
    fun _ _ => next_axReg, -- AXIS_REQ_DISABLE
    fun _ _ => next_axReg, -- AXIS_REQ_GEAR
    fun _ _ => next_axReg, -- AXIS_REQ_CAM
    fun _ _ => next_axReg⟩ -- AXIS_REQ_TRIM

/-! ### Axis opcodes -/

/-- R79: the start of a packet leaves the axes as they are. -/
theorem noteStart_ax (s : State) (p : Pkt) (n : Nat) : (s.noteStart p).ax n = s.ax n := by
  simp only [State.noteStart]
  split <;> rfl

/-- R246: an accepted packet that asks something of an axis joins the requests of the axis, on the state that notes its start. -/
theorem next_axCommand {s : State} {p : Pkt} {op code : Nat} {safe bad : Bool} {words : List Nat} :
    let n := bits (p.w 0) 6 0
    let r : AxReq := { code := code, words := words, pkt := some p }
    let t := s.noteStart p
    s.accepts p op [(safe, stSAFE_STATE), (outside (p.w 0) 0x7F || decide (96 ≤ n) || bad, stBAD_PARAM)] →
    ((s.ax n).reqs = [] → t.axReqStatus n r = stDONE) →
    (.next (s.axCommand p op safe bad code words) : Out) =
      .next (t.setAx n { t.ax n with reqs := (t.ax n).reqs ++ [{ r with tick := r.tick + t.time.tick }] }) := by
  intro n r t haccepts hfirst
  have hfirst' : (t.ax n).reqs = [] → t.axReqStatus n r = stDONE := by
    rwa [noteStart_ax]
  exact (next_command_started (effect := fun u => u.axEnqueue n r) haccepts).trans
    (congrArg Host.Outcome.next (axEnqueue_joins hfirst'))

/-- Settles O35: an accepted packet that asks something of an axis joins its requests; any other has its opcode's effect. -/
theorem axisPacketsComplete : Obligations.AxisPacketsComplete :=
  ⟨fun _ _ h => next_command h rfl, -- AXIS_CONFIG
    fun _ _ => next_axCommand, -- AXIS_MOVE
    fun _ _ => next_axCommand, -- AXIS_STOP
    fun _ _ => next_axCommand, -- AXIS_ENABLE
    fun _ _ => next_axCommand, -- AXIS_GEAR
    fun _ _ => next_axCommand, -- AXIS_CAM
    fun _ _ h => next_command h rfl, -- CAM_TABLE_WRITE
    fun _ _ => next_axCommand, -- AXIS_PHASE_TRIM
    fun _ _ h => next_command h rfl, -- AXIS_READ
    fun _ _ h => next_command h rfl⟩ -- AXIS_STEP_TABLE

/-! ### Encoders -/

/-- Settles O36: each event is its effect behind its guard; what comes from the pins and the error hold comes only while the encoders'
units run (R477), and an accepted packet has its opcode's effect. -/
theorem encoderCommandsComplete : Obligations.EncoderCommandsComplete :=
  ⟨fun _ _ _ _ _ hr hpasses => awake_next_pos hr hpasses, -- ENC_EDGE
    fun _ _ _ _ hr hpasses => awake_next_pos hr hpasses, -- ENC_INDEX
    fun _ _ _ _ hr htransfer => awake_next_pos hr htransfer, -- SSI_TRANSFER_DONE
    fun _ _ hn => next_pos hn, -- ENC_ERR_CLR
    fun _ _ hr hheld => awake_next_pos hr hheld, -- ENC_ERR_HOLD_EXPIRY
    fun _ _ h => next_command h rfl, -- ENC_CONFIG
    fun _ _ h => next_command h rfl⟩ -- ENC_READ

end Sys2Proof.Machine

/-! The ring cycle and the frames (chapter 10): the start and the latch of a cycle and the frames that this node sends, receives and
forwards complete, each its own effect behind its guard. -/

namespace Sys2Proof.Machine

/-! ### The cycle -/

/-- R259: a cycle that the node opens, and that leaves the ring running, runs mirrored commands and drives what follows it. -/
theorem exec_ringCycleStart {s : State} (hr : s.runs = true) (hring : s.ringRuns = true) (hopens : s.ringOpen.ringRuns = true) :
    exec .ringCycleStart s = .next (
      let t := s.ringOpen
      let k := t.get F.RING_CYCLE_NUM
      (((t.mirRun k).cycleDrive k).takeDigest k t.slotRecs).bringUp k) :=
  (awake_on hr).trans ((next_neg (by simp [hring])).trans (next_neg (by simp [hopens])))

/-! ### Frames sent -/

/-- R268, R273: under a schedule in force the master samples its ANSWER segments, and the bight frame leaves on each port whose link
is up. -/
theorem exec_bightFrameTx {sc : Sched} {s : State} (hr : s.runs = true) (hsched : s.curSched = some sc) (hmaster : s.timeMaster = true) :
    exec .bightFrameTx s = .next (
      let t := s.answerAll sc
      t.putOut (t.upPorts.map (fun p => (p, toBytes (t.bightFrame sc p))))) := by
  change execBightFrameTx s = _
  unfold execBightFrameTx
  rw [awake_on hr, hsched]
  exact next_pos hmaster

/-- R276: message frames leave in a slot of the slot table that this node owns, or that it has as master of a ring in BOOTSTRAP. -/
theorem exec_messageFrameTx {slot i owner a b : Nat} {s : State} (hr : s.runs = true)
    (hslot : s.slotTable[slot]? = some (i, owner, a, b))
    (hmine : (s.ringSt = rsBOOTSTRAP ∧ s.timeMaster = true) ∨ (s.ringSt = rsOPERATIONAL ∧ owner = s.ownNodeNo))
    (henabled : s.on F.RING_CTRL_ACY_TX_EN = true) (hmsg : s.ring.noMsg = false) :
    exec (.messageFrameTx slot) s = .next (s.slotTx slot a b) := by
  change execMessageFrameTx slot s = _
  unfold execMessageFrameTx
  rw [awake_on hr, hslot]
  exact next_pos (by simpa [henabled, hmsg] using hmine)

/-! ### Frames received -/

/-- R262: a good reference frame at a port where frames are not turned back is the master's own, another master's, one that the
slot guardian cuts at a station, or one that a station takes. -/
theorem exec_referenceFrameRx_good {port stamp : Nat} {ws : List Word} {s : State} (hr : s.runs = true) :
    let f := ws.map (fun w => w.toNat)
    s.ringSt ≠ rsDOWN → port < 2 → f.length = 16 → crcKind f = 0 → iw f 0 / 2 ^ 16 = 64 → iw f 0 % 256 = 1 →
    s.on (wrapBit port) = false →
    exec (.referenceFrameRx port ws stamp) s = .next (
      if s.timeMaster then
        (if iw f 6 + 2 ^ 32 * iw f 7 = s.otp.uid then s.masterRef port f stamp else (s.noteRef port f stamp).linkExchange port f stamp)
      else if (s.guardian port f 64 stamp).isSome then s.noteMaster f
      else s.stationRef port f stamp) := by
  intro f hup hport hlen hcrc hsize htype hwrap
  refine (awake_on hr).trans (next_neg ?_)
  -- `hsize` speaks of `2 ^ 16`, which has to stay as it is
  simp [-Nat.reducePow, f, hup, hport, hlen, hcrc, hsize, htype, hwrap]

/-- R266, R269: segment `seg` of a bight frame of the schedule in force, of its length, passes as owned where this node
writes it and is read otherwise; a copy with a bad CRC is counted at its port. -/
theorem exec_segmentRx {port seg id len n a kind owner x y : Nat} {ws : List Word} {s : State} {sc : Sched} (hr : s.runs = true)
    (hsched : s.curSched = some sc) (hseg : sc.seg? seg = some (n, a, kind, owner, x, y)) (hport : port < 2)
    (hwrap : s.on (wrapBit port) = false) (hring : s.ringRuns = true) (hid : id = sc.id) (hbight : len = sc.bightLen)
    (hwords : ws.length = n + 2) :
    let l := ws.map (fun w => w.toNat)
    exec (.segmentRx port seg id len ws) s = .next (
      let ok := decide (crcKind l = 0)
      let s1 := if ok then s else (s.incSat (F.RPORT_SEG_CRC_ERR port)).raise bRING 8
      if s1.writesOwner sc owner then s1.passOwned sc seg n kind else s1.readCopy sc port seg kind owner ok l) := by
  intro l
  change execSegmentRx port seg id len ws s = _
  unfold execSegmentRx
  rw [awake_on hr, hsched]
  dsimp only
  rw [hseg]
  refine (next_neg (by simp [hport, hwrap, hring, hid, hbight, hwords])).trans ?_
  simp only [decide_eq_true_eq, l]

/-- Settles O37: each command is its effect behind its guard while the ring's units run; a good reference frame is taken by its source
and this node's role, and a segment by its owner. -/
theorem ringCycleCommandsComplete : Obligations.RingCycleCommandsComplete :=
  ⟨fun _ => exec_ringCycleStart, -- RING_CYCLE_START
    fun _ hr hring => awake_next_pos hr hring, -- SEGMENT_LATCH
    fun _ hr hmaster => awake_next_pos hr hmaster, -- REFERENCE_FRAME_TX
    fun _ _ => exec_bightFrameTx, -- BIGHT_FRAME_TX
    fun _ _ _ _ hr hup hport hlen hcrc hsize htype hwrap => -- REFERENCE_FRAME_RX
      have hgood := exec_referenceFrameRx_good hr hup hport hlen hcrc hsize htype hwrap
      ⟨fun hmaster hown => hgood.trans ((next_pos hmaster).trans (next_pos hown)),
        fun hmaster hother => hgood.trans ((next_pos hmaster).trans (next_neg hother)),
        fun hstation hcut => hgood.trans ((next_neg (ne_true_of_eq_false hstation)).trans (next_pos hcut)),
        fun hstation hkept =>
          hgood.trans ((next_neg (ne_true_of_eq_false hstation)).trans (next_neg (ne_true_of_eq_false hkept)))⟩,
    fun _ _ _ _ _ _ _ _ _ _ _ _ _ => exec_segmentRx, -- SEGMENT_RX
    fun _ hr hextracts => awake_next_pos hr hextracts, -- EXTRACTION_END
    fun _ _ _ _ _ hr hpasses => (awake_on hr).trans (next_neg hpasses), -- FRAME_FORWARD
    fun _ _ _ _ _ _ => exec_messageFrameTx, -- MESSAGE_FRAME_TX
    fun _ _ _ _ _ hr hring hport hwrap hok => -- MESSAGE_FRAME_RX
      awake_next_pos hr (by simp [hring, hport, hwrap, hok])⟩

end Sys2Proof.Machine

/-! The ring's master and faults (chapter 11): ring control, claim frames, time-outs, takeover, links and absent nodes, and the ring
opcodes complete, each its own effect behind its guard. -/

namespace Sys2Proof.Machine

/-! ### Control, claim and faults -/

/-- R290: in CLAIM a good claim frame at a port where frames are not turned back is this candidate's own, which came back, or another
device's. -/
theorem exec_claimFrameRx_good {port : Nat} {ws : List Word} {s : State} (hr : s.runs = true) :
    let f := ws.map (fun w => w.toNat)
    s.ringSt = rsCLAIM → port < 2 → f.length = 8 → crcKind f = 0 → iw f 0 / 2 ^ 16 = 32 → iw f 0 % 256 = 4 →
    s.on (wrapBit port) = false →
    exec (.claimFrameRx port ws) s = .next (
      if s.candidate && iw f 2 + 2 ^ 32 * iw f 3 = s.otp.uid then s.claimBack (bits (iw f 0) 8 8) (iw f 5 % 256)
      else s.claimOther port (bits (iw f 1) 19 16) (iw f 2 + 2 ^ 32 * iw f 3) f) := by
  intro f hclaim hport hlen hcrc hsize htype hwrap
  refine (awake_on hr).trans (next_neg ?_)
  -- `hsize` speaks of `2 ^ 16`, which has to stay as it is
  simp [-Nat.reducePow, f, hclaim, hport, hlen, hcrc, hsize, htype, hwrap]

/-- Settles O38: a write of the ring's control has no guard, and each event is its effect behind its guard; all but the link events
come only while the ring's units run (R477). -/
theorem ringMasterCommandsComplete : Obligations.RingMasterCommandsComplete :=
  ⟨fun _ _ => rfl, -- RING_RUN_WRITE
    fun _ _ _ => exec_claimFrameRx_good, -- CLAIM_FRAME_RX
    fun _ hr hclaims => awake_next_pos hr hclaims, -- CLAIM_TIMEOUT
    fun _ hr hlost => awake_next_pos hr hlost, -- REF_LOSS_TIMEOUT
    fun _ hr hbackup => awake_next_pos hr hbackup, -- MASTER_TAKEOVER
    fun _ _ hup => next_pos hup, -- RING_LINK_DOWN
    fun _ _ _ hready => next_pos hready, -- RING_LINK_UP
    fun _ _ hr hstops => awake_next_pos hr hstops, -- TURN_BACK_STOP
    fun _ _ hr hsilent => awake_next_pos hr hsilent⟩ -- NODE_ABSENT

/-! ### Ring opcodes -/

/-- Settles O39: no ring opcode joins a queue of requests, so an accepted packet has its opcode's effect on the state itself. -/
theorem ringPacketsComplete : Obligations.RingPacketsComplete :=
  ⟨fun _ _ h => next_command h rfl, -- RING_SCHEDULE_LOAD
    fun _ _ h => next_command h rfl, -- RING_START
    fun _ _ h => next_command h rfl, -- RING_STOP
    fun _ _ h => next_command h rfl, -- RING_STATUS
    fun _ _ h => next_command h rfl, -- RING_COUNTERS
    fun _ _ h => next_command h rfl, -- RING_STATION
    fun _ _ h => next_command h rfl⟩ -- RING_MASTER_RANK

end Sys2Proof.Machine

/-! The task scheduler, the program and its recipes (chapters 12 and 13): their events and opcodes complete, each its own effect behind
its guard. -/

namespace Sys2Proof.Machine

/-! ### The scheduler's commands -/

/-- R319: a read of SCHED_DISPc that finds a choice switches to it. -/
theorem exec_schedDispRead_choice {c t : Nat} {s : State} (hc : c < 8) (hchoice : s.choice c = some t) :
    exec (.schedDispRead c) s = .next
      (({ s with answer := (s.word (F.SCHEDC_DISP_TASK c).addr).toNat }.setWord (F.SCHEDC_DISP_TASK c).addr 0).switchTo c t) := by
  change execSchedDispRead c s = _
  unfold execSchedDispRead
  rw [hchoice]
  exact next_pos hc

/-- R327: in prefetch-slot mode a read of SCHED_PFc that finds a task switches to it. -/
theorem exec_schedPfRead_head {c t : Nat} {s : State} (hc : c < 8) (hmode : s.on F.SCHED_BLK_CTRL_PREFETCH = true)
    (hhead : s.headFor c = some t) :
    exec (.schedPfRead c) s = .next (({ s with answer := s.pfWord c }.dequeue t).switchTo c t) := by
  change execSchedPfRead c s = _
  unfold execSchedPfRead
  rw [hhead, hmode]
  exact next_pos hc

/-- R317, R323: the time-out of a waiting task expires at its deadline. -/
theorem exec_schedTimeout_waiting {t d : Nat} {s : State} (hr : s.runs = true) (hst : (s.task t).st = .waiting)
    (hd : (s.task t).deadline = some d) : exec (.schedTimeout t) s = .next ((s.advanceTo d).schedAt id) := by
  change execSchedTimeout t s = _
  unfold execSchedTimeout
  rw [hst, hd]
  exact awake_on hr

/-- R317, R323: the sleep of a task ends at its deadline. -/
theorem exec_schedSleepExpiry_sleeping {t d : Nat} {s : State} (hr : s.runs = true) (hst : (s.task t).st = .sleeping)
    (hd : (s.task t).deadline = some d) : exec (.schedSleepExpiry t) s = .next ((s.advanceTo d).schedAt id) := by
  change execSchedSleepExpiry t s = _
  unfold execSchedSleepExpiry
  rw [hst, hd]
  exact awake_on hr

/-- Settles O40: an operation of a core that exists is its effect, a read is the switch to what it finds, and an event line or an
expiry comes only while the scheduler's unit runs (R477). -/
theorem schedulerCommandsComplete : Obligations.SchedulerCommandsComplete :=
  ⟨fun _ _ _ hc => next_pos hc, -- CREATE
    fun _ _ _ _ hc => next_pos hc, -- SIGNAL
    fun _ _ _ _ _ _ hc => next_pos hc, -- WAIT
    fun _ _ hc => next_pos hc, -- YIELD
    fun _ _ _ _ hc => next_pos hc, -- SLEEP
    fun _ _ hc => next_pos hc, -- EXIT
    fun _ _ _ => exec_schedDispRead_choice, -- SCHED_DISP_READ
    fun _ _ _ => exec_schedPfRead_head, -- SCHED_PF_READ
    fun _ _ hr => awake_on hr, -- SCHED_EVENT_LINE
    fun _ _ _ => exec_schedTimeout_waiting, -- SCHED_TIMEOUT
    fun _ _ _ => exec_schedSleepExpiry_sleeping, -- SCHED_SLEEP_EXPIRY
    fun _ _ h => next_neg h⟩ -- QMEM_UE

/-! ### The program -/

/-- R361: the image that was loaded first is verified first. -/
theorem exec_progImageVerified {p : Pkt} {ws : List Nat} {r : List (Pkt × List Nat)} {s : State} (h : s.prog.loads = (p, ws) :: r) :
    exec .progImageVerified s = .next (s.progLoaded p ws) := by
  change execProgImageVerified s = _
  unfold execProgImageVerified
  rw [h]

/-- Settles O41: each event is its effect behind its guard; release points, task commits and transfer points come only while the
program's unit runs (R477). -/
theorem programEventsComplete : Obligations.ProgramEventsComplete :=
  ⟨fun _ _ hr => awake_on hr, -- RELEASE_POINT
    fun _ _ _ _ _ hr h => awake_next_pos hr h, -- TASK_COMMIT
    fun _ _ hr h => awake_next_pos hr h, -- TRANSFER_POINT
    fun _ h => next_pos h, -- PROG_CHANGE_TIMEOUT
    fun _ _ _ _ h => exec_progImageVerified h⟩ -- PROG_IMAGE_VERIFIED

/-- Settles O42: an accepted packet has its opcode's effect, on the state that notes its start where the opcode waits for a release
point. -/
theorem programPacketsComplete : Obligations.ProgramPacketsComplete :=
  ⟨fun _ _ h => next_command h rfl, -- PROG_LOAD
    fun _ _ h => next_command h rfl, -- PROG_RUN
    fun _ _ h => next_command_started h, -- PROG_FORCE
    fun _ _ h => next_command_started h, -- PROG_RELEASE
    fun _ _ h => next_command h rfl, -- PROG_CHANGE
    fun _ _ h => next_command_started h, -- PROG_READ_VAR
    fun _ _ h => next_command_started h, -- PROG_WRITE_VAR
    fun _ _ h => next_command h rfl, -- PROG_STATUS
    fun _ _ h => next_command h rfl⟩ -- PROG_RE_ARM

/-! ### Recipes -/

/-- Settles O43: the boundary comes only while the recipes' unit runs (R477); an accepted packet has its opcode's effect, on the state
that notes its start where the opcode waits for the boundary. -/
theorem recipeCommandsComplete : Obligations.RecipeCommandsComplete :=
  ⟨fun _ _ hr => awake_on hr, -- RECIPE_BOUNDARY
    fun _ _ h => next_command h rfl, -- RECIPE_LOAD
    fun _ _ h => next_command_started h, -- RECIPE_START
    fun _ _ h => next_command_started h, -- RECIPE_PAUSE
    fun _ _ h => next_command_started h, -- RECIPE_RESUME
    fun _ _ h => next_command_started h, -- RECIPE_ABORT
    fun _ _ h => next_command h rfl, -- RECIPE_STATUS
    fun _ _ h => next_command h rfl⟩ -- RECIPE_DELETE

end Sys2Proof.Machine

/-! The scheduler stays in its own block (R317, R319, R321, R322, R323, R324, R327): its operations write its tables and words of SCHED
alone. -/

namespace Sys2Proof.Machine

/-- `t` is `s` but for the scheduler's tables, words of SCHED (R26) and the answer of a read. -/
def StaysInSched (s t : State) : Prop :=
  (∃ w h a, t = { s with words := w, sched := h, answer := a }) ∧ ∀ i, (i < 0x20030000 ∨ 0x20040000 ≤ i) → t.word i = s.word i

namespace StaysInSched

theorem refl (s : State) : StaysInSched s s := ⟨⟨s.words, s.sched, s.answer, rfl⟩, fun _ _ => rfl⟩

theorem trans {s t u : State} (h : StaysInSched s t) (k : StaysInSched t u) : StaysInSched s u := by
  obtain ⟨⟨w, i, a, rfl⟩, hword⟩ := h
  obtain ⟨⟨w', i', a', rfl⟩, kword⟩ := k
  exact ⟨⟨w', i', a', rfl⟩, fun j hj => (kword j hj).trans (hword j hj)⟩

theorem answer (s : State) (a : Nat) : StaysInSched s { s with answer := a } := ⟨⟨s.words, s.sched, a, rfl⟩, fun _ _ => rfl⟩

theorem tables (s : State) (h : SchedInt) : StaysInSched s { s with sched := h } := ⟨⟨s.words, h, s.answer, rfl⟩, fun _ _ => rfl⟩

theorem setWord (s : State) {a : Nat} (v : Word) (ha : 0x20030000 ≤ a ∧ a < 0x20040000) : StaysInSched s (s.setWord a v) :=
  ⟨⟨_, s.sched, s.answer, rfl⟩, fun i hi => word_setWord_other s a i v (by omega)⟩

theorem put (s : State) {f : Fld} (v : Nat) (hf : 0x20030000 ≤ f.addr ∧ f.addr < 0x20040000) : StaysInSched s (s.put f v) :=
  setWord s _ hf

theorem foldl {α : Type} (f : State → α → State) (l : List α) (s : State) (hf : ∀ a ∈ l, ∀ t, StaysInSched t (f t a)) :
    StaysInSched s (l.foldl f s) := by
  induction l generalizing s with
  | nil => exact refl s
  | cons a r ih => exact (hf a List.mem_cons_self s).trans (ih (f s a) fun b hb => hf b (List.mem_cons_of_mem _ hb))

end StaysInSched

theorem setTask_staysInSched (s : State) (t : Nat) (k : Task) : StaysInSched s (s.setTask t k) := .tables s _

/-! ### Words of a core -/

/-- R319, R321, R327: the fields of core `c` that operations and reads write. -/
def coreFields (c : Nat) : List Fld :=
  [F.SCHEDC_ARG0 c, F.SCHEDC_ARG1 c, F.SCHEDC_STATUS c, F.SCHEDC_BITS c, F.SCHEDC_DISP_VALID c, F.SCHEDC_DISP_STATUS c,
   F.SCHEDC_DISP_TASK c, F.SCHEDC_DISPB c, F.SCHEDC_CUR_VALID c, F.SCHEDC_CUR_TASK c, F.SCHED_PF c]

/-- R26: they are words of SCHED. -/
theorem coreFields_inSched {c : Nat} (hc : c < 8) : ∀ f ∈ coreFields c, 0x20030000 ≤ f.addr ∧ f.addr < 0x20040000 := by
  simp only [coreFields, List.forall_mem_cons, F.SCHEDC_ARG0, F.SCHEDC_ARG1, F.SCHEDC_STATUS, F.SCHEDC_BITS, F.SCHEDC_DISP_VALID,
    F.SCHEDC_DISP_STATUS, F.SCHEDC_DISP_TASK, F.SCHEDC_DISPB, F.SCHEDC_CUR_VALID, F.SCHEDC_CUR_TASK, F.SCHED_PF, List.not_mem_nil,
    IsEmpty.forall_iff, implies_true, and_true]
  omega

section
variable {s : State} {c : Nat} (hc : c < 8)
include hc

theorem setWord_core_staysInSched {f : Fld} (v : Word) (hf : f ∈ coreFields c) : StaysInSched s (s.setWord f.addr v) :=
  .setWord s v (coreFields_inSched hc f hf)

theorem put_core_staysInSched {f : Fld} (v : Nat) (hf : f ∈ coreFields c) : StaysInSched s (s.put f v) :=
  .put s v (coreFields_inSched hc f hf)

/-- A field of a core is written last. -/
theorem StaysInSched.thenPut {u : State} (h : StaysInSched u s) {f : Fld} (v : Nat) (hf : f ∈ coreFields c) :
    StaysInSched u (s.put f v) := h.trans (put_core_staysInSched hc v hf)

theorem StaysInSched.thenRes {u : State} (h : StaysInSched u s) (v : Nat) : StaysInSched u (s.schedRes c v) :=
  h.thenPut hc v (by simp [coreFields])

end

/-! ### Tasks become ready and take cores -/

theorem enqueue_staysInSched (s : State) (t : Nat) (head : Bool) : StaysInSched s (s.enqueue t head) := by
  unfold State.enqueue
  dsimp only
  split
  · exact setTask_staysInSched s t _
  · exact .tables s _

theorem dequeue_staysInSched (s : State) (t : Nat) : StaysInSched s (s.dequeue t) := .tables s _

theorem offer_staysInSched (s : State) {c : Nat} (t : Nat) (hc : c < 8) : StaysInSched s (s.offer c t) := by
  have h := setTask_staysInSched s t { s.task t with st := .running }
  unfold State.offer
  dsimp only
  split
  · exact h.thenPut hc _ (by simp [coreFields])
  · exact ((h.thenPut hc _ (by simp [coreFields])).thenPut hc _ (by simp [coreFields])).thenPut hc _ (by simp [coreFields])

/-- R318: a task takes one of the eight cores. -/
theorem pickCore_lt {s : State} {t c : Nat} (h : s.pickCore t = some c) : c < 8 := by
  have hall : ∀ b, s.pickCore t = some b → b < 8 := by
    unfold State.pickCore
    refine List.foldlRecOn (motive := fun o : Option Nat => ∀ b, o = some b → b < 8) _ _ (by simp) fun best hbest a ha => ?_
    have ha8 : a < 8 := List.mem_range.mp ha
    split
    · split
      · simpa using ha8
      · split
        · simpa using ha8
        · exact hbest
    · exact hbest
  exact hall c h

/-- R318, R319: a task that becomes ready, and in turn each choice that is displaced. -/
theorem makeReady_staysInSched (n : Nat) (s : State) (t : Nat) (head : Bool) : StaysInSched s (s.makeReady n t head) := by
  induction n generalizing s t head with
  | zero => exact enqueue_staysInSched s t head
  | succ n ih =>
    unfold State.makeReady
    split
    · exact enqueue_staysInSched s t head
    · split
      · exact enqueue_staysInSched s t head
      · next c hcore =>
        have hoffer := offer_staysInSched s t (pickCore_lt hcore)
        split
        · exact hoffer
        · exact hoffer.trans (ih ..)

theorem refreshPf_staysInSched (s : State) : StaysInSched s s.refreshPf := by
  unfold State.refreshPf
  split
  · exact .foldl _ _ _ fun c hc u => put_core_staysInSched (List.mem_range.mp hc) _ (by simp [coreFields])
  · exact .refl s

theorem wakeTask_staysInSched (s : State) (t : Nat) (head : Bool) : StaysInSched s (s.wakeTask t head) :=
  (makeReady_staysInSched ..).trans (refreshPf_staysInSched _)

/-- A task's row changes, and the task becomes ready. -/
theorem setTask_wakeTask_staysInSched (s : State) (t : Nat) (k : Task) (head : Bool) :
    StaysInSched s ((s.setTask t k).wakeTask t head) := (setTask_staysInSched ..).trans (wakeTask_staysInSched ..)

theorem freeCore_staysInSched (s : State) {c : Nat} (hc : c < 8) : StaysInSched s (s.freeCore c) := by
  unfold State.freeCore
  refine StaysInSched.trans ?_ (refreshPf_staysInSched _)
  split
  · exact .refl s
  · split
    · exact .refl s
    · exact (dequeue_staysInSched ..).trans (offer_staysInSched _ _ hc)

theorem signalTask_staysInSched (s : State) (t v : Nat) : StaysInSched s (s.signalTask t v) := by
  unfold State.signalTask
  dsimp only
  split
  · exact setTask_wakeTask_staysInSched ..
  · exact setTask_staysInSched ..

/-- R317: the current task of a core leaves it. -/
theorem leaveCore_staysInSched (s : State) {c : Nat} (t : Nat) (k : Task) (hc : c < 8) : StaysInSched s (s.leaveCore c t k) :=
  (((setTask_staysInSched s t k).thenPut hc _ (by simp [coreFields])).thenPut hc _ (by simp [coreFields])).trans
    (freeCore_staysInSched _ hc)

/-- R319, R322: a core switches to a task. -/
theorem switchTo_staysInSched (s : State) {c : Nat} (t : Nat) (hc : c < 8) : StaysInSched s (s.switchTo c t) := by
  have h := (((setTask_staysInSched s t { s.task t with st := .running, status := 0, matched := 0 }).thenPut hc
    (f := F.SCHEDC_DISPB c) (s.task t).matched (by simp [coreFields])).thenPut hc (f := F.SCHEDC_CUR_VALID c) 1
    (by simp [coreFields])).thenPut hc (f := F.SCHEDC_CUR_TASK c) t (by simp [coreFields])
  unfold State.switchTo
  dsimp only
  split
  · exact h.trans (refreshPf_staysInSched _)
  · exact h.trans (wakeTask_staysInSched ..)

/-! ### Expiries, and the tick of an operation -/

theorem taskExpire_staysInSched (s : State) (t : Nat) : StaysInSched s (s.taskExpire t) := by
  unfold State.taskExpire
  dsimp only
  split
  · exact setTask_wakeTask_staysInSched ..
  · exact setTask_wakeTask_staysInSched ..
  · exact .refl s

theorem expireTill_staysInSched (lim n : Nat) (s : State) : StaysInSched s (State.expireTill lim n s) := by
  induction n generalizing s with
  | zero => exact .refl s
  | succ n ih =>
    unfold State.expireTill
    split
    · exact (taskExpire_staysInSched ..).trans (ih _)
    · exact .refl s

theorem expireDue_staysInSched (s : State) : StaysInSched s s.expireDue :=
  .foldl _ _ _ fun t _ u => taskExpire_staysInSched u t

theorem schedSettle_staysInSched (s : State) : StaysInSched s s.schedSettle := by
  unfold State.schedSettle
  split
  · split
    · exact .refl s
    · exact expireDue_staysInSched s
  · exact expireDue_staysInSched s

/-- R320: what was due before, the operation, and what is due on its tick. -/
theorem schedAt_staysInSched (s : State) {f : State → State} (hf : ∀ t, StaysInSched t (f t)) : StaysInSched s (s.schedAt f) :=
  ((expireTill_staysInSched ..).trans (hf _)).trans (schedSettle_staysInSched _)

/-! ### The operations -/

theorem opCreate_staysInSched (s : State) {c : Nat} (arg0 : Nat) (hc : c < 8) : StaysInSched s (s.opCreate c arg0) := by
  unfold State.opCreate
  dsimp only
  split
  · exact (StaysInSched.refl s).thenRes hc _
  · split
    · exact (StaysInSched.refl s).thenRes hc _
    · split
      · exact (StaysInSched.refl s).thenRes hc _
      · exact (setTask_wakeTask_staysInSched ..).thenRes hc _

theorem opSignal_staysInSched (s : State) {c : Nat} (arg0 arg1 : Nat) (hc : c < 8) : StaysInSched s (s.opSignal c arg0 arg1) := by
  unfold State.opSignal
  dsimp only
  split
  · exact (StaysInSched.refl s).thenRes hc _
  · split
    · exact (StaysInSched.refl s).thenRes hc _
    · split
      · exact (StaysInSched.refl s).thenRes hc _
      · exact (signalTask_staysInSched ..).thenRes hc _

theorem opWait_staysInSched (s : State) {c : Nat} (mask arg1 : Nat) (nowait forever : Bool) (hc : c < 8) :
    StaysInSched s (s.opWait c mask arg1 nowait forever) := by
  unfold State.opWait
  split
  · exact (StaysInSched.refl s).thenRes hc _
  · dsimp only
    split
    · exact (StaysInSched.refl s).thenRes hc _
    · split
      · exact ((setTask_staysInSched ..).thenPut hc _ (by simp [coreFields])).thenRes hc _
      · split
        · exact (StaysInSched.refl s).thenRes hc _
        · exact leaveCore_staysInSched s _ _ hc

theorem opYield_staysInSched (s : State) {c : Nat} (hc : c < 8) : StaysInSched s (s.opYield c) := by
  unfold State.opYield
  split
  · exact (StaysInSched.refl s).thenRes hc _
  · next t _ =>
    have hqueued := enqueue_staysInSched s t false
    have hleft := (hqueued.thenPut hc (f := F.SCHEDC_CUR_VALID c) 0 (by simp [coreFields])).thenPut hc (f := F.SCHEDC_CUR_TASK c) 0
      (by simp [coreFields])
    refine StaysInSched.thenRes hc ?_ _
    split
    · exact hleft.trans (refreshPf_staysInSched _)
    · split
      · exact (hqueued.trans (dequeue_staysInSched ..)).trans (offer_staysInSched _ t hc)
      · exact ((hleft.trans (freeCore_staysInSched _ hc)).trans (dequeue_staysInSched ..)).trans (wakeTask_staysInSched ..)

theorem opSleep_staysInSched (s : State) {c : Nat} (arg1 : Nat) (forever : Bool) (hc : c < 8) :
    StaysInSched s (s.opSleep c arg1 forever) := by
  unfold State.opSleep
  split
  · exact (StaysInSched.refl s).thenRes hc _
  · split
    · exact (StaysInSched.refl s).thenRes hc _
    · exact leaveCore_staysInSched s _ _ hc

theorem opExit_staysInSched (s : State) {c : Nat} (hc : c < 8) : StaysInSched s (s.opExit c) := by
  unfold State.opExit
  split
  · exact (StaysInSched.refl s).thenRes hc _
  · exact leaveCore_staysInSched s _ _ hc

theorem eventLine_staysInSched (s : State) (e : Nat) : StaysInSched s (s.eventLine e) := by
  unfold State.eventLine
  dsimp only
  split
  · exact .refl s
  · exact signalTask_staysInSched ..

/-- R321: the arguments of an operation. -/
theorem schedArgs_staysInSched (s : State) {c : Nat} (a0 a1 : Word) (hc : c < 8) : StaysInSched s (s.schedArgs c a0 a1) :=
  (setWord_core_staysInSched hc a0 (by simp [coreFields])).trans (setWord_core_staysInSched hc a1 (by simp [coreFields]))

/-! ### The commands -/

/-- The command ends in a next state that stays in SCHED. -/
def SchedOut (s : State) (o : Out) : Prop := ∃ u, o = .next u ∧ StaysInSched s u

/-- An operation of a core, or none where the core does not exist. -/
theorem onCore_schedOut {c : Nat} {s t : State} (h : c < 8 → StaysInSched s t) : SchedOut s (onCore c s t) := by
  unfold onCore
  split
  · next hc => exact ⟨t, rfl, h hc⟩
  · exact ⟨s, rfl, .refl s⟩

/-- R477: an event, or none while the scheduler's unit does not run. -/
theorem awake_schedOut {s t : State} (h : StaysInSched s t) : SchedOut s (s.awake (.next t)) := by
  unfold State.awake
  split
  · exact ⟨t, rfl, h⟩
  · exact ⟨s, rfl, .refl s⟩

theorem schedDispRead_schedOut (c : Nat) (s : State) : SchedOut s (exec (.schedDispRead c) s) := by
  refine onCore_schedOut fun hc => ?_
  have hanswer := StaysInSched.answer s (s.word (F.SCHEDC_DISP_TASK c).addr).toNat
  split
  · exact hanswer
  · exact (hanswer.trans (setWord_core_staysInSched hc _ (by simp [coreFields]))).trans (switchTo_staysInSched _ _ hc)

theorem schedPfRead_schedOut (c : Nat) (s : State) : SchedOut s (exec (.schedPfRead c) s) := by
  refine onCore_schedOut fun hc => ?_
  split
  · exact .answer s 0
  · have hanswer := StaysInSched.answer s (s.pfWord c)
    dsimp only
    split
    · exact hanswer
    · exact (hanswer.trans (dequeue_staysInSched ..)).trans (switchTo_staysInSched _ _ hc)

/-- R317, R319, R321, R322, R324, R327: each operation, each read and an event line. -/
theorem schedCommand_schedOut (k v : Nat) (a b : Word) (x y : Bool) (s : State) {c : Instr}
    (hc : c ∈ [.create k a, .signal k a b, .wait k a b x y, .yield k, .sleep k b y, .exit k, .schedDispRead k, .schedPfRead k,
      .schedEventLine v]) : SchedOut s (exec c s) := by
  simp only [List.mem_cons, List.not_mem_nil, or_false] at hc
  rcases hc with rfl | rfl | rfl | rfl | rfl | rfl | rfl | rfl | rfl
  · exact onCore_schedOut fun hk => (setWord_core_staysInSched hk a (by simp [coreFields])).trans
      (schedAt_staysInSched _ fun t => opCreate_staysInSched t _ hk)
  · exact onCore_schedOut fun hk => (schedArgs_staysInSched s a b hk).trans
      (schedAt_staysInSched _ fun t => opSignal_staysInSched t _ _ hk)
  · exact onCore_schedOut fun hk => (schedArgs_staysInSched s a b hk).trans
      (schedAt_staysInSched _ fun t => opWait_staysInSched t _ _ x y hk)
  · exact onCore_schedOut fun hk => schedAt_staysInSched s fun t => opYield_staysInSched t hk
  · exact onCore_schedOut fun hk => (setWord_core_staysInSched hk b (by simp [coreFields])).trans
      (schedAt_staysInSched _ fun t => opSleep_staysInSched t _ y hk)
  · exact onCore_schedOut fun hk => schedAt_staysInSched s fun t => opExit_staysInSched t hk
  · exact schedDispRead_schedOut k s
  · exact schedPfRead_schedOut k s
  · exact awake_schedOut (schedAt_staysInSched s fun t => eventLine_staysInSched t v)

/-- R317, R323: the command stays in SCHED, from the state itself or from the one at the deadline of task `t`. -/
def ExpiryOut (t : Nat) (s : State) (o : Out) : Prop :=
  ∃ v, (v = s ∨ ∃ d, (s.task t).deadline = some d ∧ v = s.advanceTo d) ∧ SchedOut v o

theorem expiryOut_none (t : Nat) (s : State) : ExpiryOut t s (.next s) := ⟨s, .inl rfl, s, rfl, .refl s⟩

theorem expiryOut_deadline {t d : Nat} {s : State} (hd : (s.task t).deadline = some d) :
    ExpiryOut t s (.next ((s.advanceTo d).schedAt id)) :=
  ⟨s.advanceTo d, .inr ⟨d, hd, rfl⟩, _, rfl, schedAt_staysInSched _ .refl⟩

theorem awake_expiryOut {t : Nat} {s : State} {o : Out} (h : ExpiryOut t s o) : ExpiryOut t s (s.awake o) := by
  unfold State.awake
  split
  · exact h
  · exact expiryOut_none t s

theorem schedTimeout_expiryOut (t : Nat) (s : State) : ExpiryOut t s (exec (.schedTimeout t) s) := by
  refine awake_expiryOut ?_
  split
  · next hd => exact expiryOut_deadline hd
  · exact expiryOut_none t s

theorem schedSleepExpiry_expiryOut (t : Nat) (s : State) : ExpiryOut t s (exec (.schedSleepExpiry t) s) := by
  refine awake_expiryOut ?_
  split
  · next hd => exact expiryOut_deadline hd
  · exact expiryOut_none t s

/-- R317: the two expiries of a task. -/
theorem schedExpiry_expiryOut {t : Nat} {s : State} {c : Instr} (hc : c ∈ [.schedTimeout t, .schedSleepExpiry t]) :
    ExpiryOut t s (exec c s) := by
  simp only [List.mem_cons, List.not_mem_nil, or_false] at hc
  rcases hc with rfl | rfl
  · exact schedTimeout_expiryOut t s
  · exact schedSleepExpiry_expiryOut t s

/-- Settles O15: what `StaysInSched` says of each of the commands. -/
theorem schedulerCommandsStayInSched : Obligations.SchedulerCommandsStayInSched := by
  refine ⟨fun k v a b x y s c hc => ?_, fun t s c hc => ?_⟩
  · obtain ⟨u, hexec, ⟨w, h, r, rfl⟩, hword⟩ := schedCommand_schedOut k v a b x y s hc
    exact ⟨_, hexec, hword, rfl⟩
  · obtain ⟨v, hv, u, hexec, ⟨w, h, r, rfl⟩, hword⟩ := schedExpiry_expiryOut hc
    exact ⟨_, v, hexec, hv, hword, rfl⟩

end Sys2Proof.Machine

/-! The acquisition engine (chapter 14): its events and opcodes complete, each its own effect behind its guard. -/

namespace Sys2Proof.Machine

/-- R375: the spillway is checked in STREAM, POSTTRIG and DRAIN. -/
theorem exec_spillwayCheck {s : State} (hr : s.runs = true) :
    let k := s.gridNext 1000000 s.time.spillGrid
    let t := s.advanceTo (1000000 * k)
    (s.acqSt = aqSTREAM || s.acqSt = aqPOSTTRIG || s.acqSt = aqDRAIN) = true →
    exec .spillwayCheck s = .next ({ t with time := { t.time with spillGrid := k + 1 } }.spillCheck) := by
  intro k t hstate
  exact awake_next_pos hr (by simpa [or_assoc] using hstate)

/-- Settles O44: each event is its effect behind its guard, while the engine's unit runs (R477). -/
theorem acquisitionEventsComplete : Obligations.AcquisitionEventsComplete :=
  ⟨fun _ _ _ hr => awake_on hr, -- ACQ_VALUE
    fun _ => exec_spillwayCheck, -- SPILLWAY_CHECK
    fun _ hr h => awake_next_pos hr h, -- POSTTRIG_END
    fun _ hr h => awake_next_pos hr h, -- DRAIN_DONE
    fun _ hr h => awake_next_pos hr h, -- HOLDOFF_EXPIRY
    fun _ _ hr h => awake_next_pos hr h, -- BUFFER_HANDOVER
    fun _ _ hr h => awake_next_pos hr h⟩ -- ACQ_TIME_TRIGGER

/-- Settles O45: no acquisition opcode joins a queue of requests, so an accepted packet has its opcode's effect on the state itself; OP
chooses that of ACQ_STREAM. -/
theorem acquisitionPacketsComplete : Obligations.AcquisitionPacketsComplete :=
  ⟨fun _ _ h => next_command h rfl, -- ACQ_CHANNEL
    fun _ _ h => next_command h rfl, -- ACQ_TRIGGER
    fun _ _ h => next_command h rfl, -- ACQ_ARM
    fun _ _ h => next_command h rfl, -- ACQ_STOP
    fun _ _ hop h => (next_pos hop).trans (next_command h rfl), -- ACQ_STREAM
    fun _ _ hop h => (next_neg (by omega)).trans (next_command h rfl),
    fun _ _ h => next_command h rfl, -- ACQ_STATUS
    fun _ _ h => next_command h rfl⟩ -- ACQ_MEASURE

end Sys2Proof.Machine

/-! The CAN controllers (chapter 15): their events and opcodes complete, each its own effect behind its guard. -/

namespace Sys2Proof.Machine

/-- R396: the oldest CAN_CONFIG that waits for its controller is answered with TIMEOUT. -/
theorem exec_canConfigTimeout {c : Nat} {p : Pkt} {e : Nat} {r : List (Pkt × Nat)} {s : State} (h : (s.canI c).cfg = (p, e) :: r) :
    exec (.canConfigTimeout c) s = .next (((s.advanceTo e).setCan c { s.canI c with cfg := r }).done p stTIMEOUT) := by
  change execCanConfigTimeout c s = _
  unfold execCanConfigTimeout
  rw [h]

/-- Settles O46: each write is its effect on a controller that exists, and each event of the bus its effect behind its guard while the
controllers' unit runs (R477). -/
theorem canEventsComplete : Obligations.CanEventsComplete :=
  ⟨fun _ _ _ hc => next_pos hc, -- CAN_MODE_WRITE
    fun _ _ hr hc => awake_next_pos hr hc, -- CAN_BUS_IDLE
    fun _ _ _ hr hlistens => (awake_on hr).trans (next_neg hlistens), -- CAN_FRAME_RX
    fun _ _ _ _ h => next_pos h, -- CAN_TXREQ_WRITE
    fun _ _ _ _ _ _ _ _ hr h => awake_next_pos hr h, -- CAN_TX_END
    fun _ _ _ _ _ hc hk => next_pos (by simp [hc, hk]), -- CAN_TXABORT_WRITE
    fun _ _ hc => next_pos hc, -- RECOVER
    fun _ _ hr h => awake_next_pos hr h, -- CAN_RECOVERY_DONE
    fun _ _ _ _ h => next_pos h, -- CAN_NEW_CLEAR
    fun _ _ _ _ _ => exec_canConfigTimeout, -- CAN_CONFIG_TIMEOUT
    fun _ _ _ _ hr h => awake_next_pos hr h, -- CAN_BUS_ERROR
    fun _ _ hr h => awake_next_pos hr h⟩ -- REMOTE_FRAME_RX

/-- Settles O47: no CAN opcode joins a queue of requests, so an accepted packet has its opcode's effect on the state itself. -/
theorem canPacketsComplete : Obligations.CanPacketsComplete :=
  ⟨fun _ _ h => next_command h rfl, -- CAN_CONFIG
    fun _ _ h => next_command h rfl, -- CAN_OBJECT
    fun _ _ h => next_command h rfl, -- CAN_TRANSMIT
    fun _ _ h => next_command h rfl, -- CAN_RECEIVE
    fun _ _ h => next_command h rfl⟩ -- CAN_STATUS

end Sys2Proof.Machine

/-! Requests to the Sluice (chapter 16), the Splice links and the Lashing (chapter 17): requests, events and opcodes complete, each its own
effect behind its guard. -/

namespace Sys2Proof.Machine

/-! ### Requests to the Sluice -/

/-- R415, R416: a request in the mailbox whose check passes has its effect and ends with the code OK. -/
theorem rqRun_passes {code : Nat} {effect : Nat → List Nat → State → State} {ws : List Nat} {p : Option Pkt} {s : State}
    (hreq : s.sto.req = some (ws, p)) (hcode : bits (iw ws 0) 31 24 = code) (hcheck : s.rqCheck ws = rqOK) :
    s.rqRun code effect = (effect (bits (iw ws 0) 23 0) ws s).rqEnd rqOK := by
  unfold State.rqRun
  rw [hreq]
  simp [hcode, hcheck]

/-- R416: the row of a request is the effect of its code. -/
theorem next_rqRun {code : Nat} {effect : Nat → List Nat → State → State} {ws : List Nat} {p : Option Pkt} {s : State}
    (hreq : s.sto.req = some (ws, p)) (hcode : bits (iw ws 0) 31 24 = code) (hcheck : s.rqCheck ws = rqOK) :
    (.next (s.rqRun code effect) : Out) = .next ((effect (bits (iw ws 0) 23 0) ws s).rqEnd rqOK) :=
  congrArg _ (rqRun_passes hreq hcode hcheck)

/-- Settles O49: each request is the effect of its code, and ends with OK. -/
theorem sluiceRequestsComplete : Obligations.SluiceRequestsComplete :=
  ⟨fun _ _ _ hreq hcode _ hcheck => next_rqRun hreq hcode hcheck, -- CONFIG_WRITE
    fun _ _ _ hreq hcode _ hcheck => next_rqRun hreq hcode hcheck, -- CONFIG_COMMIT
    fun _ _ _ hreq hcode _ hcheck => next_rqRun hreq hcode hcheck, -- ARM
    fun _ _ _ hreq hcode _ hcheck => next_rqRun hreq hcode hcheck, -- DISARM
    fun _ _ _ hreq hcode _ hcheck => next_rqRun hreq hcode hcheck, -- RESET
    fun _ _ _ hreq hcode _ hcheck => next_rqRun hreq hcode hcheck, -- DEMAND
    fun _ _ _ hreq hcode _ hcheck => next_rqRun hreq hcode hcheck, -- RELEASE
    fun _ _ _ hreq hcode _ hcheck => next_rqRun hreq hcode hcheck, -- CLEAR_FAULT
    fun _ _ _ hreq hcode _ hcheck => next_rqRun hreq hcode hcheck⟩ -- TEST_NOW

/-! ### Splice links -/

/-- R422: an enabled link whose PLL is locked comes up. -/
theorem exec_spliceLinkChange_up {l : Nat} {s : State} (hl : l < 2) (hen : s.on (splEn l) = true) (hdown : s.on (splUpBit l) = false)
    (hlock : s.on (sdsLock 0) = true) :
    exec (.spliceLinkChange l true) s = .next ((s.put (splUpBit l) 1).raise bSPLICE 8) :=
  (next_neg (by simp [hl, hen, hdown])).trans ((next_pos rfl).trans (next_pos hlock))

/-- R422: an enabled link that is up goes down. -/
theorem exec_spliceLinkChange_down {l : Nat} {s : State} (hl : l < 2) (hen : s.on (splEn l) = true) (hup : s.on (splUpBit l) = true) :
    exec (.spliceLinkChange l false) s = .next (s.splDown l) :=
  (next_neg (by simp [hl, hen, hup])).trans (next_neg Bool.false_ne_true)

/-- R423, R424: the row of a good frame for this device is the effect of its type, once the frame is counted. -/
theorem awake_splRx {s : State} {f : SplFrame} {ty : Nat} {content : List Nat} {body : State → State} (hr : s.runs = true)
    (hl : f.link < 2) (hu : s.splUp f.link = true) (hc : f.crcOk = true) (hn : content.length ≤ 1021) (hd : f.dst = s.get F.SPL_ID) :
    s.awake (.next (s.splRx f ty content body)) = .next (body (s.incSat (F.SPLL_RX_FRAMES f.link))) :=
  (awake_on hr).trans (congrArg _ (splRx_taken hl hu hc hn hd))

/-- R427: the signal that was held first is delivered at its instant. -/
theorem exec_signalDelivery {e : SigHeld} {r : List SigHeld} {s : State} (hr : s.runs = true) (h : s.splice.sigs = e :: r) :
    exec .signalDelivery s = .next (
      let t := s.advanceTo e.at'
      let v : AdcRes := { word := e.word, ts := e.ts, seq := t.loop.seq + 1 }
      { t with splice := { t.splice with sigs := r, res := tabSet {} t.splice.res e.key v } }.feedSplice e.key) := by
  change execSignalDelivery s = _
  unfold execSignalDelivery
  rw [awake_on hr, h]

/-- Settles O50: a link change is its effect behind its guard, and a good frame for this device the effect of its type. -/
theorem spliceCommandsComplete : Obligations.SpliceCommandsComplete :=
  ⟨fun _ _ => exec_spliceLinkChange_up, fun _ _ => exec_spliceLinkChange_down, -- SPLICE_LINK_CHANGE
    fun _ _ _ _ _ => awake_splRx, -- SPLICE_TIME_FRAME
    fun _ _ _ _ _ => awake_splRx, -- SIGNAL_FRAME_RX
    fun _ _ _ => exec_signalDelivery, -- SIGNAL_DELIVERY
    fun _ _ _ => awake_splRx, -- SPLICE_COMMAND_RX
    fun _ _ _ _ => awake_splRx⟩ -- SPLICE_REPLY_RX

/-! ### Lashing streams -/

/-- R429, R442: the row of a good frame of the mirror stream that is taken is the effect of its type. -/
theorem awake_mirRx {s : State} {f : SplFrame} {ty : Nat} {content : List Nat} {body : State → State} (hr : s.runs = true)
    (hl : f.link < 2) (hu : s.splUp f.link = true) (hc : f.crcOk = true) (hn : content.length ≤ 1021) (hd : f.dst = s.get F.SPL_ID)
    (h : (s.incSat (F.SPLL_RX_FRAMES f.link)).mirTakes f = true) :
    s.awake (.next (s.mirRx f ty content body)) =
      .next (body ((s.incSat (F.SPLL_RX_FRAMES f.link)).lashI (fun v => { v with seqRx := some f.mseq }))) :=
  (awake_on hr).trans (congrArg _ (mirRx_taken hl hu hc hn hd h))

/-- R435, R436: the digest of the cycle before the latest is sent to a partner, while the ring runs. -/
theorem exec_digestSend {x d : Dig} {r : List Dig} {s : State} (hr : s.runs = true) (hdigs : s.lash.digs = x :: d :: r)
    (hen : s.on F.LASH_EN = true) (hpaired : s.lashPaired = true) (hring : s.ringRuns = true) :
    exec .digestSend s = .next ((s.advanceTo (s.get64 F.RING_CYC_START_LO + 1000)).digSend d.k d.digWords) := by
  change execDigestSend s = _
  unfold execDigestSend
  rw [awake_on hr, hdigs]
  exact next_pos (by simp [hen, hpaired, hring])

/-- R437: a device that seeks becomes ACTIVE alone where it has not seen a partner for 1 ms, and no copy of a pair segment in the last 16
cycles of a running ring. -/
theorem exec_loneTmoExpiry {s : State} :
    let tmo := s.lash.since + 10000000 * max 1 (s.get F.LASH_LONE_TMO)
    s.runs = true → s.lashSt = lsSEEKING → s.lash.seen = 0 ∨ s.lash.seen + 1000000 ≤ (s.advanceTo tmo).now →
    (∀ k r, s.lash.pairCyc = k :: r → s.ringRuns = false ∨ k + 16 ≤ s.get F.RING_CYCLE_NUM) →
    exec .loneTmoExpiry s = .next ((s.advanceTo tmo).setLash lsACTIVE) := by
  intro tmo hr hseeks halone hquiet
  have halone' : (!(decide (s.lash.seen ≠ 0) && decide ((s.advanceTo tmo).now < s.lash.seen + 1000000))) = true := by
    rcases halone with h | h
    · simp [h]
    · simp [Nat.not_lt.mpr h]
  refine (awake_on hr).trans (next_pos ?_)
  rw [halone']
  cases hpair : s.lash.pairCyc with
  | nil => simp [hseeks]
  | cons k r =>
    rcases hquiet k r hpair with h | h
    · simp [hseeks, h]
    · simp [hseeks, h]

/-- R440: the oldest waiting LASH_SNAPSHOT is answered with TIMEOUT. -/
theorem exec_snapshotTimeout_packet {p : Pkt} {e : Nat} {r : List (Pkt × Nat)} {s : State} (h : s.lash.snapPkt = (p, e) :: r) :
    exec .snapshotTimeout s = .next (((s.advanceTo e).lashI (fun v => { v with snapPkt := r })).done p stTIMEOUT) := by
  change execSnapshotTimeout s = _
  unfold execSnapshotTimeout
  rw [h]

/-- R440: a device that synchronises gives up after its 500 ms. -/
theorem exec_snapshotTimeout_syncing {s : State} (hnone : s.lash.snapPkt = []) (hsyncs : s.lashSt = lsSYNCING) :
    exec .snapshotTimeout s = .next ((s.advanceTo (s.lash.since + 500000000)).setLash lsLOST) := by
  change execSnapshotTimeout s = _
  unfold execSnapshotTimeout
  rw [hnone]
  exact next_pos hsyncs

/-- R441: the oldest waiting LASH_SWITCH is answered with TIMEOUT, while no cycle for the switch is set. -/
theorem exec_lashSwitchTimeout {p : Pkt} {e : Nat} {r : List (Pkt × Nat)} {s : State} (h : s.lash.switchPkt = (p, e) :: r)
    (hunset : s.lash.switchCyc = none) :
    exec .lashSwitchTimeout s = .next (((s.advanceTo e).lashI (fun v => { v with switchPkt := r })).done p stTIMEOUT) := by
  change execLashSwitchTimeout s = _
  unfold execLashSwitchTimeout
  rw [h, hunset]
  exact next_pos rfl

/-- Settles O51: a good frame that is taken is the effect of its type, and digests and time-outs are their effects behind their
guards. -/
theorem lashingStreamsComplete : Obligations.LashingStreamsComplete :=
  ⟨fun _ _ _ => awake_splRx, -- CONTROL_FRAME_RX
    fun _ _ _ _ _ => awake_mirRx, -- M_CMD_RX
    fun _ _ _ _ => awake_mirRx, -- M_INPUT_RX
    fun _ _ _ _ => awake_mirRx, -- DELTA_RX
    fun _ _ _ _ => awake_mirRx, -- SNAP_RX
    fun _ _ _ => awake_mirRx, -- SEED_RX
    fun _ _ _ _ => exec_digestSend, -- DIGEST_SEND
    fun _ _ hr h => awake_next_pos hr h, -- DIGEST_DUE
    fun _ => exec_loneTmoExpiry, -- LONE_TMO_EXPIRY
    fun _ _ _ _ => exec_snapshotTimeout_packet, fun _ => exec_snapshotTimeout_syncing, -- SNAPSHOT_TIMEOUT
    fun _ _ _ _ => exec_lashSwitchTimeout⟩ -- LASH_SWITCH_TIMEOUT

/-! ### Lashing and Splice opcodes -/

/-- Settles O52: none of these opcodes joins a queue of requests, so an accepted packet has its opcode's effect on the state itself. -/
theorem lashSplicePacketsComplete : Obligations.LashSplicePacketsComplete :=
  ⟨fun _ _ h => next_command h rfl, -- LASH_CONFIG
    fun _ _ h => next_command h rfl, -- LASH_STATUS
    fun _ _ h => next_command h rfl, -- LASH_SWITCH
    fun _ _ h => next_command h rfl, -- LASH_SNAPSHOT
    fun _ _ h => next_command h rfl, -- SPLICE_CONFIG
    fun _ _ h => next_command h rfl⟩ -- SPLICE_STATUS

end Sys2Proof.Machine

/-! Security (chapter 18): its operations and opcodes complete, each its own effect behind its guard. -/

namespace Sys2Proof.Machine

/-- R466: an operation that domain 0 starts while none runs. -/
theorem secGo_starts {s : State} {r : Requester} {op : Nat} {start : State → State} (hd : s.domainOf r = 0) (hfree : s.sec.op = none) :
    s.secGo r op start = (start ((s.put F.SEC_OP op).secI (fun v => { v with op := some op }))).secBusy := by
  simp [State.secGo, hd, hfree]

/-- R466: the row of an operation that domain 0 starts. -/
theorem next_secGo {s : State} {r : Requester} {op : Nat} {start : State → State} (hd : s.domainOf r = 0) (hfree : s.sec.op = none) :
    (.next (s.secGo r op start) : Out) = .next ((start ((s.put F.SEC_OP op).secI (fun v => { v with op := some op }))).secBusy) :=
  congrArg _ (secGo_starts hd hfree)

/-- R466: the end of a hash or a verification of a range outside memory: a free result and a free digest. -/
theorem exec_secOpDone_badRange {op : Nat} {s : State} (hop : s.sec.op = some op) (hle : op ≤ 2)
    (hrange : rangeOk s.opAddr (s.get F.SEC_LEN) = false) :
    exec .secOpDone s = .next (s.fresh.2.opResultFree (s.fresh.1 % 16)) := by
  change execSecOpDone s = _
  unfold execSecOpDone
  rw [hop, hrange]
  exact next_pos (by simp [hle])

/-- R466: the end of a hash of a range in memory. -/
theorem exec_secOpDone_hash {s : State} (hop : s.sec.op = some 1) (hrange : rangeOk s.opAddr (s.get F.SEC_LEN) = true) :
    exec .secOpDone s = .next (s.opResult vfOK (sha384 s.opWords (s.get F.SEC_LEN))) := by
  change execSecOpDone s = _
  unfold execSecOpDone
  rw [hop, hrange]
  exact (next_neg (by simp)).trans (next_pos rfl)

/-- R466: the end of a verification of a range in memory. -/
theorem exec_secOpDone_verify {s : State} (hop : s.sec.op = some 2) (hrange : rangeOk s.opAddr (s.get F.SEC_LEN) = true) :
    exec .secOpDone s = .next (s.opResultFree (s.verifyImage s.opWords (bits (iw s.opWords 1) 23 16))) := by
  change execSecOpDone s = _
  unfold execSecOpDone
  rw [hop, hrange]
  exact (next_neg (by simp)).trans ((next_neg (by decide)).trans (next_pos rfl))

/-- R460, R466: the end of an attestation. -/
theorem exec_secOpDone_attest {s : State} (hop : s.sec.op = some 3) :
    exec .secOpDone s = .next (s.endReport.opResultFree vfOK) := by
  change execSecOpDone s = _
  unfold execSecOpDone
  rw [hop]
  exact (next_neg (by simp)).trans ((next_neg (by decide)).trans ((next_neg (by decide)).trans (next_pos rfl)))

/-- R460: the end of a report that a packet asked for. -/
theorem exec_attestReportDone {p : Pkt} {s : State} (h : s.sec.attPkt = some p) :
    exec .attestReportDone s = .next (s.endReport.doneRes p [4 * s.sec.attWords.length + 16608]) := by
  change execAttestReportDone s = _
  unfold execAttestReportDone
  rw [h]

/-- R455: the image that was handed over first is written first. -/
theorem exec_imageWriteDone {p : Pkt} {ty : Nat} {ws : List Nat} {r : List (Pkt × Nat × List Nat)} {s : State}
    (h : s.sec.writes = (p, ty, ws) :: r) : exec .imageWriteDone s = .next (s.imageWritten p ws ty) := by
  change execImageWriteDone s = _
  unfold execImageWriteDone
  rw [h]

/-- Settles O53: an operation starts where none runs, and each end is its effect on what runs. -/
theorem securityOperationsComplete : Obligations.SecurityOperationsComplete :=
  ⟨fun _ _ => next_secGo, fun _ _ => next_secGo, fun _ _ => next_secGo, -- HASH, VERIFY, ATTEST
    fun _ => exec_secOpDone_hash, fun _ => exec_secOpDone_verify, -- SEC_OP_DONE
    fun _ _ => exec_secOpDone_badRange, fun _ => exec_secOpDone_attest,
    fun _ _ => exec_attestReportDone, -- ATTEST_REPORT_DONE
    fun _ h => next_pos h, -- DEBUG_CHALLENGE_EXPIRY
    fun _ _ _ _ _ => exec_imageWriteDone⟩ -- IMAGE_WRITE_DONE

/-- Settles O54: no security opcode joins a queue of requests, so an accepted packet has its opcode's effect on the state itself. -/
theorem securityPacketsComplete : Obligations.SecurityPacketsComplete :=
  ⟨fun _ _ h => next_command h rfl, -- SEC_ATTEST
    fun _ _ h => next_command h rfl, -- SEC_CERT_READ
    fun _ _ h => next_command h rfl, -- SEC_IMAGE_WRITE
    fun _ _ h => next_command h rfl, -- SEC_KEY_REVOKE
    fun _ _ h => next_command h rfl, -- SEC_DEBUG_CHALLENGE
    fun _ _ h => next_command h rfl, -- SEC_DEBUG_UNLOCK
    fun _ _ h => next_command h rfl⟩ -- SEC_ROLLBACK

end Sys2Proof.Machine

/-! Interrupts and power (chapter 19): their commands complete, each its own effect behind its guard. -/

namespace Sys2Proof.Machine

/-! ### Interrupts -/

/-- R472: completion of a source that is in service and goes to this target. -/
theorem exec_irqComplete_served {t : Nat} {v : Word} {s : State} :
    let n := bits v.toNat 8 0
    let u := s.setInService n false
    t < 8 → s.irqInService n = true → s.get (F.IRQS_TARGET n) = t →
    exec (.irqComplete t v) s =
      .next (if irqIsLevel n && u.irqLine n then ((u.setPend n true).setReleased n true).wakeCheck else u) := by
  intro n u ht hserved htarget
  exact (next_neg (Nat.not_le.mpr ht)).trans (next_pos (by simp [n, hserved, htarget]))

/-- Settles O55: each command is its effect behind its guard; a pending write has none. -/
theorem interruptCommandsComplete : Obligations.InterruptCommandsComplete :=
  ⟨fun _ _ hline => next_neg (by simp [hline]), fun _ _ _ hline => next_neg (by simp [hline]), -- IRQ_EDGE
    fun _ _ ht => next_neg (Nat.not_le.mpr ht), -- IRQ_CLAIM
    fun _ _ _ => exec_irqComplete_served, -- IRQ_COMPLETE
    fun _ _ _ => rfl, -- IRQ_PEND_WRITE
    fun _ _ hheld => next_pos hheld⟩ -- IRQ_GROUP_TIMEOUT

/-! ### Power states -/

/-- R479: STANDBY is asked for in RUN or IDLE where nothing refuses it. -/
theorem reqStandby_granted {s : State} (hp : s.get F.IRQ_BLK_STAT_POWER < 2) (hr : s.standbyRefuse = 0) :
    s.reqStandby =
      { (s.put F.IRQ_BLK_STAT_POWER 2).put F.IRQ_WAKE_LATCH 0 with irq := { s.irq with sensing := true } }.wakeCheck := by
  simp [State.reqStandby, hr, Nat.not_le.mpr hp]

/-- Settles O56: each request and each event is its effect behind its guard; the gating instant has none. -/
theorem powerCommandsComplete : Obligations.PowerCommandsComplete :=
  ⟨fun _ h => next_pos h, fun _ h => next_pos h, -- PWR_REQ_RUN, PWR_REQ_IDLE
    fun _ hp hr => congrArg Host.Outcome.next (reqStandby_granted hp hr), -- PWR_REQ_STANDBY
    fun _ => rfl, -- STANDBY_GATE
    fun _ h => next_neg h, -- STANDBY_ENTRY_TIMEOUT
    fun _ _ h => next_pos h⟩ -- WAKE_LATCH

end Sys2Proof.Machine

/-! The recorder (chapter 20): its events and opcodes complete, each its own effect behind its guard. -/

namespace Sys2Proof.Machine

/-- R489: the record at the front is written. -/
theorem exec_recordWrite_plain {r : Rec} {q : List Rec} {s : State} (hq : s.ev.queue = r :: q) (hclear : r.clear = none)
    (hanswer : r.answer = none) : exec .recordWrite s = .next ({ s with ev := { s.ev with queue := q } }.writeRec r) := by
  change execRecordWrite s = _
  unfold execRecordWrite
  rw [hq]
  dsimp only
  rw [hclear, hanswer]

/-- R489, R499: the packet that waits for its record is answered with the record's sequence number. -/
theorem exec_recordWrite_answered {r : Rec} {p : Pkt} {q : List Rec} {s : State} (hq : s.ev.queue = r :: q) (hclear : r.clear = none)
    (hanswer : r.answer = some p) :
    exec .recordWrite s = .next (({ s with ev := { s.ev with queue := q } }.writeRec r).doneRes p [s.get F.EVREC_HEAD]) := by
  change execRecordWrite s = _
  unfold execRecordWrite
  rw [hq]
  dsimp only
  rw [hclear, hanswer]
  rfl

/-- R493: a clear at the front of the queue clears. -/
theorem exec_recordWrite_clear {r : Rec} {p : Pkt} {upto key : Nat} {q : List Rec} {s : State} (hq : s.ev.queue = r :: q)
    (hclear : r.clear = some (p, upto, key)) :
    exec .recordWrite s = .next ({ s with ev := { s.ev with queue := q } }.writeClear r p upto key) := by
  change execRecordWrite s = _
  unfold execRecordWrite
  rw [hq]
  dsimp only
  rw [hclear]

/-- Settles O57: the record at the front is written by its kind; the other events are their effects behind their guards. -/
theorem recorderEventsComplete : Obligations.RecorderEventsComplete :=
  ⟨fun _ _ _ => exec_recordWrite_plain, fun _ _ _ _ => exec_recordWrite_answered, -- RECORD_WRITE
    fun _ _ _ _ _ _ => exec_recordWrite_clear,
    fun _ _ _ h => next_pos h, -- EVREC_WR_GO
    fun _ _ => rfl, -- LIFETIME_SAMPLE
    fun _ h => next_pos h, -- LIFETIME_FLUSH
    fun _ h => next_pos h, -- TIME_SYNC
    fun _ _ _ _ => rfl⟩ -- MRAM_REFRESH_SLICE

/-- Settles O58: no recorder opcode joins a queue of requests, so an accepted packet has its opcode's effect on the state itself. -/
theorem recorderPacketsComplete : Obligations.RecorderPacketsComplete :=
  ⟨fun _ _ h => next_command h rfl, -- REC_READ
    fun _ _ h => next_command h rfl, -- REC_CLEAR
    fun _ _ h => next_command h rfl, -- REC_HEAD
    fun _ _ h => next_command h rfl, -- LIFE_READ
    fun _ _ h => next_command h rfl⟩ -- REC_WRITE

end Sys2Proof.Machine

/-! Touch channels and connectors (chapter 21): their events and opcodes complete, each its own effect behind its guard. -/

namespace Sys2Proof.Machine

/-- R503: a module that stays in through the debounce time is inserted. -/
theorem exec_hpDebounceExpiry_inserted {n : Nat} {s : State} :
    let t := s.hpSee n
    s.runs = true → t.hpRuns n = true → t.get (F.HP_STATE n) = hpINSERTING → t.on (F.HP_PIN n) = true →
    exec (.hpDebounceExpiry n) s =
      .next ((((t.put (F.HP_STATE n) hpDELAY).line (290 + n) true).lifeInc (0x340 + 4 * n)).progTrg (2 ^ (8 + n)) 0) := by
  intro t hr hruns hstate hpin
  exact (awake_on hr).trans (next_pos (by simp [t, hruns, hstate, hpin]))

/-- R503: a module that stays out through the debounce time is removed. -/
theorem exec_hpDebounceExpiry_removed {n : Nat} {s : State} :
    let t := s.hpSee n
    s.runs = true → t.hpRuns n = true → t.get (F.HP_STATE n) = hpREMOVING → t.on (F.HP_PIN n) = false →
    exec (.hpDebounceExpiry n) s =
      .next (((t.put (F.HP_STATE n) hpEMPTY).line (290 + n) false).progTrg (2 ^ (8 + n)) 0) := by
  intro t hr hruns hstate hpin
  exact (awake_on hr).trans ((next_neg (by simp [t, hpin])).trans (next_pos (by simp [t, hruns, hstate, hpin])))

/-- Settles O59: each event is its effect behind its guard; all but a change at a pin come only while the inputs' unit runs (R477). -/
theorem operatorEventsComplete : Obligations.OperatorEventsComplete :=
  ⟨fun _ _ hr => awake_on hr, -- TOUCH_SCAN
    fun _ _ hr h => awake_next_pos hr h, -- TK_STUCK
    fun _ _ _ h => next_neg h, -- HP_PIN_CHANGE
    fun _ _ => exec_hpDebounceExpiry_inserted, fun _ _ => exec_hpDebounceExpiry_removed, -- HP_DEBOUNCE_EXPIRY
    fun _ _ hr => awake_on hr, -- HP_POWER_DELAY_EXPIRY
    fun _ _ hr h => awake_next_pos hr h⟩ -- JOIN_FAIL

/-- Settles O60: no operator opcode joins a queue of requests, so an accepted packet has its opcode's effect on the state itself. -/
theorem operatorPacketsComplete : Obligations.OperatorPacketsComplete :=
  ⟨fun _ _ h => next_command h rfl, -- TOUCH_CONFIG
    fun _ _ h => next_command h rfl, -- TOUCH_STATUS
    fun _ _ h => next_command h rfl, -- HOTPLUG_CONFIG
    fun _ _ h => next_command h rfl, -- HOTPLUG_STATUS
    fun _ _ h => next_command h rfl⟩ -- HOTPLUG_POWER

end Sys2Proof.Machine

/-! Single bits of a field that holds one bit per source, key or channel, and what a claim takes (R471). -/

namespace Sys2Proof.Machine

/-! ### Bits of a number and of a field -/

theorem bitOf_eq_testBit (v n : Nat) : bitOf v n = v.testBit n := Nat.testBit_eq_decide_div_mod_eq.symm

theorem bitOf_eq_bits (v n : Nat) : bitOf v n = decide (bits v n n = 1) := by
  simp [bitOf, bits]

/-- Setting or clearing a bit replaces a field of one bit. -/
theorem putBit_eq_setBits (v n : Nat) (b : Bool) : putBit v n b = setBits v n n (b2n b) := by
  have hone : bits v n n < 2 := (Nat.mod_lt _ (Nat.two_pow_pos _)).trans_eq (by simp)
  by_cases h : bits v n n = 1
  · have hle : 2 ^ n ≤ v := by
      by_contra hlt
      simp [bits, Nat.div_eq_of_lt (Nat.not_le.mp hlt)] at h
    cases b with
    | false => simp [putBit, setBits, bitOf_eq_bits, h, b2n]
    | true =>
      simp only [putBit, setBits, bitOf_eq_bits, h, b2n, decide_true, if_true, Nat.sub_self]
      omega
  · have h0 : bits v n n = 0 := by omega
    cases b <;> simp [putBit, setBits, bitOf_eq_bits, h0, b2n]

theorem bitOf_putBit (v k j : Nat) (b : Bool) : bitOf (putBit v k b) j = if j = k then b else bitOf v j := by
  rw [putBit_eq_setBits]
  split
  · next h =>
    rw [h, bitOf_eq_bits, bits_setBits_same]
    cases b <;> simp [b2n]
  · next h =>
    rw [bitOf_eq_bits, bits_setBits_apart _ _ _ _ _ _ le_rfl le_rfl (by omega), bitOf_eq_bits]

theorem bitOf_mod {v n j : Nat} (h : j < n) : bitOf (v % 2 ^ n) j = bitOf v j := by
  simp [bitOf_eq_testBit, Nat.testBit_mod_two_pow, h]

/-- One bit of a field that starts at bit 0 is set or cleared. -/
theorem bitOf_get_putBit {s : State} {f : Fld} {k j : Nat} (b : Bool) (hc : s.canonical = true) (hf : f.hi < 32 ∧ f.lo = 0)
    (hj : j ≤ f.hi) : bitOf ((s.put f (putBit (s.get f) k b)).get f) j = if j = k then b else bitOf (s.get f) j := by
  obtain ⟨hhi, hlo⟩ := hf
  rw [get_put_same s f _ hc hhi (by omega), bitOf_mod (by omega), bitOf_putBit]

/-- R470: PEND of a source after PEND of one was written. -/
theorem setPend_irqPend {s : State} (n m : Nat) (b : Bool) (hc : s.canonical = true) :
    (s.setPend n b).irqPend m = if m = n then b else s.irqPend m := by
  unfold State.setPend State.irqPend
  by_cases hw : m / 32 = n / 32
  · rw [hw, bitOf_get_putBit b hc ⟨(by decide : 31 < 32), rfl⟩ (by simp only [F.IRQ_PEND]; omega)]
    exact if_congr (by omega) rfl rfl
  · rw [get_put_other _ _ _ _ (by simp only [F.IRQ_PEND]; omega), if_neg (by rintro rfl; exact hw rfl)]

/-- R471: the in-service bit of a source after that of one was written. -/
theorem setInService_irqInService {s : State} (n m : Nat) (b : Bool) (hc : s.canonical = true) :
    (s.setInService n b).irqInService m = if m = n then b else s.irqInService m := by
  unfold State.setInService State.irqInService
  by_cases hw : m / 32 = n / 32
  · rw [hw, bitOf_get_putBit b hc ⟨(by decide : 31 < 32), rfl⟩ (by simp only [F.IRQ_INSV]; omega)]
    exact if_congr (by omega) rfl rfl
  · rw [get_put_other _ _ _ _ (by simp only [F.IRQ_INSV]; omega), if_neg (by rintro rfl; exact hw rfl)]

theorem put_irqPend (s : State) {f : Fld} (v m : Nat) (h : (F.IRQ_PEND (m / 32)).addr ≠ f.addr) :
    (s.put f v).irqPend m = s.irqPend m := by
  rw [State.irqPend, get_put_other s f _ v h, ← State.irqPend]

theorem put_irqInService (s : State) {f : Fld} (v m : Nat) (h : (F.IRQ_INSV (m / 32)).addr ≠ f.addr) :
    (s.put f v).irqInService m = s.irqInService m := by
  rw [State.irqInService, get_put_other s f _ v h, ← State.irqInService]

/-! ### The best source -/

/-- R471: source `m` goes before source `j`: a higher PRIO, or the lower number among equals. -/
def State.before (s : State) (m j : Nat) : Prop :=
  s.get (F.IRQS_PRIO j) < s.get (F.IRQS_PRIO m) ∨ (s.get (F.IRQS_PRIO j) = s.get (F.IRQS_PRIO m) ∧ m ≤ j)

theorem before_antisymm {s : State} {m j : Nat} (h : s.before m j) (k : s.before j m) : m = j := by
  unfold State.before at h k
  omega

/-- R471: `best` is the source below `k` that is deliverable to target `t` and goes before all such, or none where there is none. -/
def State.IsBest (s : State) (t k : Nat) (best : Option Nat) : Prop :=
  match best with
  | none => ∀ j < k, s.deliverable t j = false
  | some m => m < k ∧ s.deliverable t m = true ∧ ∀ j < k, s.deliverable t j = true → s.before m j

/-- R471: the better of the best source so far and source `n`. -/
def State.betterOf (s : State) (t : Nat) (best : Option Nat) (n : Nat) : Option Nat :=
  if s.deliverable t n then
    match best with
    | none => some n
    | some m => if s.get (F.IRQS_PRIO m) < s.get (F.IRQS_PRIO n) then some n else best
  else best

theorem bestSource_eq (s : State) (t : Nat) : s.bestSource t = (List.range 384).foldl (s.betterOf t) none := rfl

theorem betterOf_skip {s : State} {t n : Nat} (best : Option Nat) (h : s.deliverable t n = false) : s.betterOf t best n = best := by
  simp [State.betterOf, h]

theorem betterOf_none {s : State} {t n : Nat} (h : s.deliverable t n = true) : s.betterOf t none n = some n := by
  simp [State.betterOf, h]

theorem betterOf_some {s : State} {t n : Nat} (m : Nat) (h : s.deliverable t n = true) :
    s.betterOf t (some m) n = if s.get (F.IRQS_PRIO m) < s.get (F.IRQS_PRIO n) then some n else some m := by
  simp [State.betterOf, h]

/-- The sources below `k + 1` are those below `k` and source `k`. -/
theorem betterOf_isBest {s : State} {t k : Nat} {best : Option Nat} (h : s.IsBest t k best) :
    s.IsBest t (k + 1) (s.betterOf t best k) := by
  cases hk : s.deliverable t k with
  | false =>
    rw [betterOf_skip best hk]
    cases best with
    | none => exact Nat.forall_lt_succ_right.mpr ⟨h, hk⟩
    | some m =>
      obtain ⟨hm, hdeliv, hbest⟩ := h
      exact ⟨hm.trans k.lt_succ_self, hdeliv, Nat.forall_lt_succ_right.mpr ⟨hbest, by simp [hk]⟩⟩
  | true =>
    have hself : s.before k k := .inr ⟨rfl, le_rfl⟩
    cases best with
    | none =>
      rw [betterOf_none hk]
      exact ⟨k.lt_succ_self, hk, Nat.forall_lt_succ_right.mpr ⟨fun j hj hd => by simp [h j hj] at hd, fun _ => hself⟩⟩
    | some m =>
      obtain ⟨hm, hdeliv, hbest⟩ := h
      rw [betterOf_some m hk]
      split
      · refine ⟨k.lt_succ_self, hk, Nat.forall_lt_succ_right.mpr ⟨fun j hj hd => ?_, fun _ => hself⟩⟩
        have hmj := hbest j hj hd
        unfold State.before at hmj ⊢
        omega
      · refine ⟨hm.trans k.lt_succ_self, hdeliv, Nat.forall_lt_succ_right.mpr ⟨hbest, fun _ => ?_⟩⟩
        unfold State.before
        omega

theorem foldl_isBest (s : State) (t k : Nat) : s.IsBest t k ((List.range k).foldl (s.betterOf t) none) := by
  induction k with
  | zero => exact fun j hj => absurd hj (Nat.not_lt_zero j)
  | succ k ih =>
    rw [List.range_succ, List.foldl_append]
    exact betterOf_isBest ih

theorem bestSource_isBest (s : State) (t : Nat) : s.IsBest t 384 (s.bestSource t) := foldl_isBest s t 384

/-- R471: with no source deliverable there is no best one. -/
theorem bestSource_none {s : State} {t : Nat} (h : ∀ n < 384, s.deliverable t n = false) : s.bestSource t = none := by
  have hbest := bestSource_isBest s t
  cases hb : s.bestSource t with
  | none => rfl
  | some m =>
    rw [hb] at hbest
    obtain ⟨hm, hdeliv, -⟩ := hbest
    simp [h m hm] at hdeliv

/-- R471: the best source is the one that goes before every deliverable source. -/
theorem bestSource_some {s : State} {t n : Nat} (hn : n < 384) (hd : s.deliverable t n = true)
    (hfirst : ∀ m < 384, s.deliverable t m = true → s.before n m) : s.bestSource t = some n := by
  have hbest := bestSource_isBest s t
  cases hb : s.bestSource t with
  | none =>
    rw [hb] at hbest
    simp [hbest n hn] at hd
  | some m =>
    rw [hb] at hbest
    obtain ⟨hm, hdeliv, hmfirst⟩ := hbest
    rw [before_antisymm (hmfirst n hn hd) (hfirst m hm hdeliv)]

/-! ### A claim -/

theorem exec_irqClaim {t : Nat} (s : State) (ht : t < 8) :
    exec (.irqClaim t) s = .next { s.claim t with answer := ((s.claim t).word (F.IRQT_CLAIM_SOURCE t).addr).toNat } :=
  next_neg (Nat.not_le.mpr ht)

/-- R471: the answer of a claim shows VALID and SOURCE as they stand after it. -/
theorem claimAnswer_valid (u : State) (t : Nat) : bitOf (u.word (F.IRQT_CLAIM_SOURCE t).addr).toNat 31 = u.on (F.IRQT_CLAIM_VALID t) := by
  have hone : u.get (F.IRQT_CLAIM_VALID t) < 2 := get_lt u _
  have hbit : bitOf (u.word (F.IRQT_CLAIM_SOURCE t).addr).toNat 31 = decide (u.get (F.IRQT_CLAIM_VALID t) = 1) := bitOf_eq_bits ..
  rw [hbit, State.on]
  interval_cases u.get (F.IRQT_CLAIM_VALID t) <;> rfl

theorem claimAnswer_source (u : State) (t : Nat) :
    bits (u.word (F.IRQT_CLAIM_SOURCE t).addr).toNat 8 0 = u.get (F.IRQT_CLAIM_SOURCE t) := rfl

/-- R471: a claim that finds nothing deliverable. -/
theorem claim_empty {s : State} {t : Nat} (h : s.bestSource t = none) :
    s.claim t = ((s.put (F.IRQT_CLAIM_VALID t) 0).put (F.IRQT_CLAIM_SOURCE t) 0).incSat (F.IRQT_CLAIM_EMPTY t) := by
  simp [State.claim, h]

/-- R471: a claim that takes a source. -/
theorem claim_takes {s : State} {t n : Nat} (h : s.bestSource t = some n) :
    s.claim t = ((((s.setPend n false).setReleased n false).setInService n true).put (F.IRQT_CLAIM_VALID t) 1).put
      (F.IRQT_CLAIM_SOURCE t) n := by
  simp [State.claim, h]

/-- R485: the fields of target `t` that a claim writes. -/
def claimFields (t : Nat) : List Fld := [F.IRQT_CLAIM_VALID t, F.IRQT_CLAIM_SOURCE t, F.IRQT_CLAIM_EMPTY t]

/-- R485: they lie behind PEND and in-service of every source. -/
theorem claimFields_addr {t : Nat} : ∀ f ∈ claimFields t, 0x20020200 ≤ f.addr := by
  simp only [claimFields, List.forall_mem_cons, F.IRQT_CLAIM_VALID, F.IRQT_CLAIM_SOURCE, F.IRQT_CLAIM_EMPTY, List.not_mem_nil,
    IsEmpty.forall_iff, implies_true, and_true]
  omega

/-- From `s` to `u` PEND and in-service of every source stayed. -/
def SourcesStay (s u : State) : Prop := ∀ m < 384, u.irqPend m = s.irqPend m ∧ u.irqInService m = s.irqInService m

theorem SourcesStay.trans {s u v : State} (h : SourcesStay s u) (k : SourcesStay u v) : SourcesStay s v := fun m hm =>
  ⟨(k m hm).1.trans (h m hm).1, (k m hm).2.trans (h m hm).2⟩

theorem put_claim_sourcesStay (s : State) {f : Fld} {t : Nat} (v : Nat) (hf : f ∈ claimFields t) : SourcesStay s (s.put f v) := by
  have hlow := claimFields_addr f hf
  exact fun m hm => ⟨put_irqPend s v m (by simp only [F.IRQ_PEND]; omega), put_irqInService s v m (by simp only [F.IRQ_INSV]; omega)⟩

section
variable {s : State} (t : Nat) (hc : s.canonical = true)
include hc

/-- R485: SOURCE stands beside VALID. -/
theorem put_source_keeps_valid (v : Nat) : (s.put (F.IRQT_CLAIM_SOURCE t) v).get (F.IRQT_CLAIM_VALID t) = s.get (F.IRQT_CLAIM_VALID t) :=
  get_put_apart s _ _ v hc (by decide : 8 < 32 ∧ 0 ≤ 8) (by decide : 31 < 32 ∧ 31 ≤ 31) (.inr (by decide : 8 < 31))

/-- R471: with nothing deliverable VALID is 0, CLAIM_EMPTY counts, held at its largest value, and no source changes. -/
theorem claim_empty_spec (h : s.bestSource t = none) :
    (s.claim t).on (F.IRQT_CLAIM_VALID t) = false ∧
    (s.claim t).get (F.IRQT_CLAIM_EMPTY t) = min (s.get (F.IRQT_CLAIM_EMPTY t) + 1) (2 ^ 32 - 1) ∧ SourcesStay s (s.claim t) := by
  rw [claim_empty h]
  have hvalid := put_canonical s (F.IRQT_CLAIM_VALID t) 0 hc
  have hsource := put_canonical _ (F.IRQT_CLAIM_SOURCE t) 0 hvalid
  have hcount : ((s.put (F.IRQT_CLAIM_VALID t) 0).put (F.IRQT_CLAIM_SOURCE t) 0).get (F.IRQT_CLAIM_EMPTY t) =
      s.get (F.IRQT_CLAIM_EMPTY t) := by
    rw [get_put_other _ _ _ _ (by simp [F.IRQT_CLAIM_EMPTY, F.IRQT_CLAIM_SOURCE]),
      get_put_other _ _ _ _ (by simp [F.IRQT_CLAIM_EMPTY, F.IRQT_CLAIM_VALID])]
  unfold State.incSat
  refine ⟨?_, ?_, ?_⟩
  · rw [State.on, get_put_other _ _ _ _ (by simp [F.IRQT_CLAIM_EMPTY, F.IRQT_CLAIM_VALID]), put_source_keeps_valid t hvalid,
      get_put_same s _ _ hc (by decide : 31 < 32) (by decide : 31 ≤ 31)]
    rfl
  · rw [get_put_same _ _ _ hsource (by decide : 31 < 32) (by decide : 0 ≤ 31), hcount]
    exact Nat.mod_eq_of_lt (by simp only [F.IRQT_CLAIM_EMPTY]; omega)
  · exact ((put_claim_sourcesStay s 0 (t := t) (by simp [claimFields])).trans
      (put_claim_sourcesStay _ 0 (t := t) (by simp [claimFields]))).trans (put_claim_sourcesStay _ _ (t := t) (by simp [claimFields]))

/-- R471: a source that is claimed is no longer pending, is in service, and is what the claim names; the others stay. -/
theorem claim_takes_spec {n : Nat} (hn : n < 384) (h : s.bestSource t = some n) :
    (s.claim t).on (F.IRQT_CLAIM_VALID t) = true ∧ (s.claim t).get (F.IRQT_CLAIM_SOURCE t) = n ∧
    (s.claim t).irqPend n = false ∧ (s.claim t).irqInService n = true ∧
    ∀ m < 384, m ≠ n → (s.claim t).irqPend m = s.irqPend m ∧ (s.claim t).irqInService m = s.irqInService m := by
  rw [claim_takes h]
  obtain ⟨u, hu⟩ : ∃ u, u = ((s.setPend n false).setReleased n false).setInService n true := ⟨_, rfl⟩
  have hpended : ((s.setPend n false).setReleased n false).canonical = true := put_canonical s _ _ hc
  have hcanon : u.canonical = true := hu ▸ put_canonical _ _ _ hpended
  have hvalid := put_canonical u (F.IRQT_CLAIM_VALID t) 1 hcanon
  have hstay : SourcesStay u ((u.put (F.IRQT_CLAIM_VALID t) 1).put (F.IRQT_CLAIM_SOURCE t) n) :=
    (put_claim_sourcesStay u 1 (t := t) (by simp [claimFields])).trans (put_claim_sourcesStay _ n (t := t) (by simp [claimFields]))
  have hpend : ∀ m < 384, u.irqPend m = if m = n then false else s.irqPend m := fun m hm => by
    rw [hu, State.setInService, put_irqPend _ _ m (by simp only [F.IRQ_PEND, F.IRQ_INSV]; omega)]
    exact setPend_irqPend n m false hc
  have hserve : ∀ m < 384, u.irqInService m = if m = n then true else s.irqInService m := fun m hm => by
    rw [hu, setInService_irqInService n m true hpended]
    exact if_congr Iff.rfl rfl (put_irqInService s _ m (by simp only [F.IRQ_PEND, F.IRQ_INSV]; omega))
  rw [← hu]
  refine ⟨?_, ?_, ?_, ?_, fun m hm hne => ?_⟩
  · rw [State.on, put_source_keeps_valid t hvalid, get_put_same u _ _ hcanon (by decide : 31 < 32) (by decide : 31 ≤ 31)]
    rfl
  · rw [get_put_same _ _ _ hvalid (by decide : 8 < 32) (by decide : 0 ≤ 8)]
    exact Nat.mod_eq_of_lt (by simp only [F.IRQT_CLAIM_SOURCE]; omega)
  · rw [(hstay n hn).1, hpend n hn, if_pos rfl]
  · rw [(hstay n hn).2, hserve n hn, if_pos rfl]
  · rw [(hstay m hm).1, (hstay m hm).2, hpend m hm, hserve m hm, if_neg hne, if_neg hne]
    exact ⟨rfl, rfl⟩

end

/-- R470: a source is deliverable to the target its TARGET names. -/
theorem deliverable_target {s : State} {t n : Nat} (h : s.deliverable t n = true) : s.get (F.IRQS_TARGET n) = t := by
  simp only [State.deliverable, Bool.and_eq_true, decide_eq_true_eq] at h
  obtain ⟨⟨⟨⟨-, htarget⟩, -⟩, -⟩, -⟩ := h
  exact htarget

/-- Settles O11: a claim takes the best source, which is the first of the deliverable ones. -/
theorem claimTakesTheBestSource : Obligations.ClaimTakesTheBestSource := by
  refine ⟨fun t s ht hc hnone => ?_, fun t n s ht hn hc hd hfirst => ?_, fun t t' n s h h' => ?_⟩
  · obtain ⟨hvalid, hcount, hstay⟩ := claim_empty_spec t hc (bestSource_none hnone)
    exact ⟨_, exec_irqClaim s ht, (claimAnswer_valid _ t).trans hvalid, hcount, hstay⟩
  · obtain ⟨hvalid, hsource, hpend, hserve, hstay⟩ := claim_takes_spec t hc hn (bestSource_some hn hd hfirst)
    exact ⟨_, exec_irqClaim s ht, (claimAnswer_valid _ t).trans hvalid, (claimAnswer_source _ t).trans hsource, hpend, hserve, hstay⟩
  · rw [← deliverable_target h, deliverable_target h']

end Sys2Proof.Machine

/-! In STANDBY the units that it stops do nothing (R477, R480): the rows of their events are guarded by the clocks that STANDBY stops. -/

namespace Sys2Proof.Machine

/-- R477: in STANDBY the units that it stops do not run. -/
theorem runs_standby {s : State} (h : s.get F.IRQ_BLK_STAT_POWER = 3) : s.runs = false := by
  simp [State.runs, h]

/-- Settles O18: each row is an event of a unit that STANDBY stops, and such an event does nothing while its unit does not run. -/
theorem standbyStopsUnits : Obligations.StandbyStopsUnits := by
  intro s hstandby
  have hstopped : s.runs = false := runs_standby hstandby
  and_intros
  all_goals
    intros
    exact awake_off hstopped

end Sys2Proof.Machine

/-! A stuck key is released by force (R501): the flag it raises leaves the keys, and makes no other source pending. -/

namespace Sys2Proof.Machine

/-! ### What makes a source pending -/

/-- From `s` to `t` source `m` was not made pending; and `t` is canonical where `s` is. -/
def NotMadePending (m : Nat) (s t : State) : Prop :=
  (s.canonical = true → t.canonical = true) ∧ (s.canonical = true → s.irqPend m = false → t.irqPend m = false)

section
variable {m : Nat}

theorem NotMadePending.refl (s : State) : NotMadePending m s s := ⟨id, fun _ => id⟩

theorem NotMadePending.trans {s t u : State} (h : NotMadePending m s t) (k : NotMadePending m t u) : NotMadePending m s u := by
  obtain ⟨hcanon, hpend⟩ := h
  obtain ⟨kcanon, kpend⟩ := k
  exact ⟨kcanon ∘ hcanon, fun hc hs => kpend (hcanon hc) (hpend hc hs)⟩

theorem vectors_notMadePending (s : State) (h : HostInt) (i : IrqInt) : NotMadePending m s { s with host := h, irq := i } :=
  ⟨id, fun _ => id⟩

theorem put_notMadePending (s : State) {f : Fld} (v : Nat) (hf : (F.IRQ_PEND (m / 32)).addr ≠ f.addr) : NotMadePending m s (s.put f v) :=
  ⟨put_canonical s f v, fun _ hpend => (put_irqPend s v m hf).trans hpend⟩

theorem setPend_notMadePending (s : State) {n : Nat} {b : Bool} (h : b = false ∨ m ≠ n) : NotMadePending m s (s.setPend n b) := by
  refine ⟨put_canonical s _ _, fun hc hpend => ?_⟩
  rw [setPend_irqPend n m b hc, hpend]
  rcases h with rfl | h
  · exact ite_self _
  · exact if_neg h

theorem foldl_notMadePending {α : Type} (f : State → α → State) (l : List α) (s : State) (hf : ∀ t a, NotMadePending m t (f t a)) :
    NotMadePending m s (l.foldl f s) := by
  induction l generalizing s with
  | nil => exact .refl s
  | cons a r ih => exact (hf s a).trans (ih (f s a))

theorem setReleased_notMadePending (s : State) (n : Nat) (b : Bool) : NotMadePending m s (s.setReleased n b) :=
  vectors_notMadePending s s.host _

theorem msix_notMadePending (s : State) (v : Nat) : NotMadePending m s (s.msix v) := by
  unfold State.msix
  split <;> exact vectors_notMadePending s _ s.irq

/-- R84: delivery to the host clears PEND. -/
theorem hostDeliver_notMadePending (s : State) (n : Nat) : NotMadePending m s (s.hostDeliver n) := by
  unfold State.hostDeliver
  split
  · exact ((setPend_notMadePending s (.inl rfl)).trans (setReleased_notMadePending ..)).trans (msix_notMadePending ..)
  · exact .refl s

theorem wakeSense_notMadePending (s : State) (n : Nat) (b : Bool) : NotMadePending m s (s.wakeSense n b) := by
  unfold State.wakeSense
  split
  · exact .refl s
  · split
    · exact put_notMadePending s _ (by simp only [F.IRQ_PEND, F.IRQ_WAKE_LATCH]; omega)
    · exact .refl s

section
variable (hm : m < 384)
include hm

/-- R475: a group that fires delivers its members. -/
theorem groupFire_notMadePending (s : State) (g : Nat) : NotMadePending m s (s.groupFire g) :=
  ((((foldl_notMadePending _ _ s fun t n => setReleased_notMadePending t n true).trans
    (put_notMadePending _ (f := F.IRQG_HELD g) 0 (by simp only [F.IRQ_PEND, F.IRQG_HELD]; omega))).trans
    (put_notMadePending _ (f := F.IRQG_HOLDING g) 0 (by simp only [F.IRQ_PEND, F.IRQG_HOLDING]; omega))).trans
    (put_notMadePending _ (f := F.IRQG_FIRES g) _ (by simp only [F.IRQ_PEND, F.IRQG_FIRES]; omega))).trans
    (foldl_notMadePending _ _ _ hostDeliver_notMadePending)

theorem groupHold_notMadePending (s : State) (n : Nat) : NotMadePending m s (s.groupHold n) := by
  have hcount : ∀ (u : State) (g : Nat), NotMadePending m u ((u.incSat (F.IRQG_HELD g)).put (F.IRQG_HOLDING g) 1) := fun u g =>
    (put_notMadePending u (f := F.IRQG_HELD g) _ (by simp only [F.IRQ_PEND, F.IRQG_HELD]; omega)).trans
      (put_notMadePending _ (f := F.IRQG_HOLDING g) 1 (by simp only [F.IRQ_PEND, F.IRQG_HOLDING]; omega))
  unfold State.groupHold
  extract_lets g src s0 s1
  have hstart : NotMadePending m s s0 := by
    unfold s0
    split
    · exact .refl s
    · exact vectors_notMadePending s s.host _
  split
  · exact (hstart.trans (hcount _ _)).trans (groupFire_notMadePending hm ..)
  · exact hstart.trans (hcount _ _)

/-- R470: an edge makes its own source pending. -/
theorem edgeCore_notMadePending (s : State) {n : Nat} (hn : m ≠ n) : NotMadePending m s (s.edgeCore n) := by
  unfold State.edgeCore
  dsimp only
  split
  · exact (setPend_notMadePending s (.inr hn)).trans (hostDeliver_notMadePending ..)
  · exact (setPend_notMadePending s (.inr hn)).trans (groupHold_notMadePending hm ..)

/-- R469: a line makes its own source pending. -/
theorem lineCore_notMadePending (s : State) {n : Nat} (l : Bool) (hn : m ≠ n) : NotMadePending m s (s.lineCore n l) := by
  have hraw := vectors_notMadePending (m := m) s s.host { s.irq with raw := putBit s.irq.raw n l }
  unfold State.lineCore
  extract_lets old src s0 s1 before after s2
  have hsensed : NotMadePending m s s1 := by
    unfold s1
    split
    · exact hraw
    · exact hraw.trans (wakeSense_notMadePending ..)
  have hline : NotMadePending m s s2 := hsensed.trans
    (put_notMadePending _ (f := F.IRQ_LINE (n / 32)) _ (by simp only [F.IRQ_PEND, F.IRQ_LINE]; omega))
  split
  · exact hline.trans (edgeCore_notMadePending hm _ hn)
  · exact hline

/-- R27, R468: a flag that is raised makes the source of its block pending. -/
theorem raise_notMadePending (s : State) {b : Nat} (n : Nat) (hb : m ≠ blockSource b) (ha : 0x20030000 ≤ b) :
    NotMadePending m s (s.raise b n) :=
  (put_notMadePending s (f := F.BLK_STICKY b) _ (by simp only [F.IRQ_PEND, F.BLK_STICKY]; omega)).trans
    (lineCore_notMadePending hm _ _ hb)

end

end

/-! ### The key, and the flag of a stuck key -/

theorem bOPIO_eq : bOPIO = 0x200F0000 := rfl

/-- R468: OPIO's source is number 15. -/
theorem blockSource_opio : blockSource bOPIO = 15 := rfl

/-- R27: a flag of OPIO leaves every other word of the block. -/
theorem raise_opio_get (s : State) (n : Nat) {f : Fld} (hf : 0x200F0010 ≤ f.addr) : (s.raise bOPIO n).get f = s.get f := by
  have hb := bOPIO_eq
  rw [State.get, raise_word s bOPIO n f.addr (by decide) (by omega) (by omega), ← State.get]

/-- R500: a key's bit after that of one was written. -/
theorem setPressed_pressed {s : State} {n m : Nat} (b : Bool) (hc : s.canonical = true) (hm : m < 24) :
    (s.setPressed n b).pressed m = if m = n then b else s.pressed m :=
  bitOf_get_putBit b hc (by decide) (Nat.le_of_lt_succ hm)

/-- R27: TK_STUCK is bit 10 of BLK_STICKY. -/
theorem raise_opio_tkStuck (s : State) (hc : s.canonical = true) : (s.raise bOPIO 10).on F.OPIO_BLK_STICKY_TK_STUCK = true := by
  have hbit : bitOf ((s.raise bOPIO 10).get (F.BLK_STICKY bOPIO)) 10 = true := by
    rw [raise_sticky s bOPIO 10 (by decide) (by decide) hc, bitOf_mod (by decide), bitOf_putBit, if_pos rfl]
  have hword : (s.raise bOPIO 10).get (F.BLK_STICKY bOPIO) = ((s.raise bOPIO 10).word 0x200F000C).toNat := by
    simp [State.get, bits, F.BLK_STICKY, bOPIO_eq, Nat.mod_eq_of_lt (BitVec.isLt _)]
  rw [hword, bitOf_eq_bits, decide_eq_true_eq] at hbit
  simp [State.on, State.get, F.OPIO_BLK_STICKY_TK_STUCK, hbit]

/-- R501: the key is released, its bit in OPIO_TK_STUCK is set, and its baseline takes the present count. -/
def State.releaseKey (s : State) (n : Nat) : State :=
  ((s.setPressed n false).put F.OPIO_STUCK (putBit (s.get F.OPIO_STUCK) n true)).put (F.TK_BASE n) (s.get (F.TK_COUNT n))

/-- R501: a key that has been pressed for STUCK seconds is released, and TK_STUCK is raised. -/
theorem exec_tkStuck_pressed {n : Nat} {s : State} (hr : s.runs = true) (hn : n < 24) (hen : s.on (F.TK_EN n) = true)
    (hpressed : s.pressed n = true) (hstuck : s.get (F.TK_STUCK n) ≠ 0) :
    exec (.tkStuck n) s = .next ((s.releaseKey n).raise bOPIO 10) :=
  awake_next_pos hr (by simp [hn, hen, hpressed, hstuck])

/-- R501: with STUCK = 0, and while the unit does not run, nothing happens. -/
theorem exec_tkStuck_none {n : Nat} {s : State} (h : s.get (F.TK_STUCK n) = 0 ∨ s.runs = false) : exec (.tkStuck n) s = .next s := by
  cases hr : s.runs with
  | false => exact awake_off hr
  | true => exact (awake_on hr).trans (next_neg (by simp [h.resolve_right (by simp [hr])]))

section
variable {s : State} {n : Nat} (hc : s.canonical = true)
include hc

theorem setPressed_canonical (b : Bool) : (s.setPressed n b).canonical = true := put_canonical s _ _ hc

theorem releaseKey_canonical : (s.releaseKey n).canonical = true :=
  put_canonical _ _ _ (put_canonical _ _ _ (setPressed_canonical hc false))

theorem releaseKey_pressed {m : Nat} (hm : m < 24) : (s.releaseKey n).pressed m = if m = n then false else s.pressed m := by
  rw [← setPressed_pressed false hc hm, State.releaseKey, State.pressed,
    get_put_other _ _ _ _ (by simp only [F.OPIO_PRESSED, F.TK_BASE]; omega), get_put_other _ _ _ _ (by decide), ← State.pressed]

theorem releaseKey_stuck {m : Nat} (hm : m < 24) :
    bitOf ((s.releaseKey n).get F.OPIO_STUCK) m = if m = n then true else bitOf (s.get F.OPIO_STUCK) m := by
  have hsame : (s.setPressed n false).get F.OPIO_STUCK = s.get F.OPIO_STUCK := get_put_other s F.OPIO_PRESSED _ _ (by decide)
  rw [State.releaseKey, get_put_other _ _ _ _ (by simp only [F.OPIO_STUCK, F.TK_BASE]; omega), ← hsame]
  exact bitOf_get_putBit true (setPressed_canonical hc false) (by decide) (Nat.le_of_lt_succ hm)

theorem releaseKey_base : (s.releaseKey n).get (F.TK_BASE n) = s.get (F.TK_COUNT n) := by
  rw [State.releaseKey, get_put_same _ _ _ (put_canonical _ _ _ (setPressed_canonical hc false)) (by decide : 31 < 32)
    (by decide : 16 ≤ 31)]
  exact Nat.mod_eq_of_lt (get_lt s (F.TK_COUNT n))

end

theorem releaseKey_irqPend (s : State) (n : Nat) {m : Nat} (hm : m < 384) : (s.releaseKey n).irqPend m = s.irqPend m := by
  rw [State.releaseKey, put_irqPend _ _ _ (by simp only [F.IRQ_PEND, F.TK_BASE]; omega),
    put_irqPend _ _ _ (by simp only [F.IRQ_PEND, F.OPIO_STUCK]; omega)]
  exact put_irqPend s _ _ (by simp only [F.IRQ_PEND, F.OPIO_PRESSED]; omega)

/-- Settles O12: the key's words are those of `State.releaseKey`, which the flag leaves; the flag makes source 15 pending alone. -/
theorem stuckKeyIsReleased : Obligations.StuckKeyIsReleased := by
  refine ⟨fun n s hn hc hr hen hpressed hstuck => ?_, fun n s h => exec_tkStuck_none h⟩
  have hcanon := releaseKey_canonical (n := n) hc
  have hkeys : ∀ m < 24, ((s.releaseKey n).raise bOPIO 10).pressed m = if m = n then false else s.pressed m := fun m hm =>
    (congrArg (bitOf · m) (raise_opio_get _ 10 (by decide))).trans (releaseKey_pressed hc hm)
  have hbits : ∀ m < 24, bitOf (((s.releaseKey n).raise bOPIO 10).get F.OPIO_STUCK) m =
      if m = n then true else bitOf (s.get F.OPIO_STUCK) m := fun m hm =>
    (congrArg (bitOf · m) (raise_opio_get _ 10 (by decide))).trans (releaseKey_stuck hc hm)
  refine ⟨_, exec_tkStuck_pressed hr hn hen hpressed hstuck, ?_, fun m hm hne => ?_, ?_, fun m hm hne => ?_,
    raise_opio_tkStuck _ hcanon, ?_, fun hpend => ?_⟩
  · rw [hkeys n hn, if_pos rfl]
  · rw [hkeys m hm, if_neg hne]
  · rw [hbits n hn, if_pos rfl]
  · rw [hbits m hm, if_neg hne]
  · rw [raise_opio_get _ 10 (by simp only [F.TK_BASE]; omega), releaseKey_base hc]
  · obtain ⟨-, hraise⟩ := raise_notMadePending (m := 266 + n) (by omega) (s.releaseKey n) (b := bOPIO) 10
      (by rw [blockSource_opio]; omega) (by decide)
    exact hraise hcanon ((releaseKey_irqPend s n (by omega)).trans hpend)

end Sys2Proof.Machine

/-! Operator inputs never reach the Sluice (R506): replies, records, interrupts, wake-ups and the mirror stream keep its state and its
words, and so does each command of the touch channels and the connectors. -/

namespace Sys2Proof.Machine

/-- R26, R506: the state of the Sluice and every word of its block are in `t` as they are in `s`. -/
def SluiceStays (s t : State) : Prop := t.sto = s.sto ∧ ∀ a, 0x200D0000 ≤ a → a < 0x200E0000 → t.word a = s.word a

namespace SluiceStays

theorem refl (s : State) : SluiceStays s s := ⟨rfl, fun _ _ _ => rfl⟩

theorem trans {s t u : State} (h : SluiceStays s t) (k : SluiceStays t u) : SluiceStays s u := by
  obtain ⟨hsto, hword⟩ := h
  obtain ⟨ksto, kword⟩ := k
  exact ⟨ksto.trans hsto, fun a hlo hhi => (kword a hlo hhi).trans (hword a hlo hhi)⟩

/-- Records other than the Sluice's change. -/
theorem records {s t : State} (hsto : t.sto = s.sto) (hwords : t.words = s.words) : SluiceStays s t :=
  ⟨hsto, fun a _ _ => congrArg (storeGet · a) hwords⟩

theorem irq (s : State) (i : IrqInt) : SluiceStays s { s with irq := i } := records rfl rfl

theorem prog (s : State) (i : ProgInt) : SluiceStays s { s with prog := i } := records rfl rfl

theorem lash (s : State) (i : LashInt) : SluiceStays s { s with lash := i } := records rfl rfl

theorem setWord (s : State) {a : Nat} (v : Word) (ha : a < 0x200D0000 ∨ 0x200E0000 ≤ a) : SluiceStays s (s.setWord a v) :=
  ⟨rfl, fun b hlo hhi => word_setWord_other s a b v (by omega)⟩

theorem put (s : State) {f : Fld} (v : Nat) (hf : f.addr < 0x200D0000 ∨ 0x200E0000 ≤ f.addr) : SluiceStays s (s.put f v) :=
  setWord s _ hf

theorem incSat (s : State) {f : Fld} (hf : f.addr < 0x200D0000 ∨ 0x200E0000 ≤ f.addr) : SluiceStays s (s.incSat f) :=
  put s _ hf

theorem foldl {α : Type} (f : State → α → State) (l : List α) (s : State) (hf : ∀ a ∈ l, ∀ t, SluiceStays t (f t a)) :
    SluiceStays s (l.foldl f s) := by
  induction l generalizing s with
  | nil => exact refl s
  | cons a r ih => exact (hf a List.mem_cons_self s).trans (ih (f s a) fun b hb => hf b (List.mem_cons_of_mem _ hb))

/-- R468: words of IRQ, the vectors and the controller's state change. -/
theorem ofIrqOnly {s t : State} (h : IrqOnly s t) : SluiceStays s t := by
  obtain ⟨hword, -, w, o, i, rfl⟩ := h
  exact ⟨rfl, fun a hlo _ => hword a (.inr (by omega))⟩

end SluiceStays

/-! ### Flags, records and replies -/

/-- R27: a flag of a block other than the Sluice. -/
theorem raise_sluiceStays (s : State) {b : Nat} (n : Nat) (hb : b ∈ [bIRQ, bOPIO, bEVREC]) : SluiceStays s (s.raise b n) := by
  have haddr : blockSource b < 512 ∧ (b + 0xC < 0x200D0000 ∨ 0x200E0000 ≤ b + 0xC) := by
    revert b
    decide
  exact (SluiceStays.put s (f := F.BLK_STICKY b) _ haddr.2).trans (.ofIrqOnly (refreshLine_irqOnly _ b haddr.1))

/-- R489: a record joins the queue, or is dropped and counted. -/
theorem postRec_sluiceStays (s : State) (r : Rec) : SluiceStays s (s.postRec r) := by
  unfold State.postRec
  split
  · exact .records rfl rfl
  · exact ((SluiceStays.records rfl rfl).trans (.incSat _ (f := F.EVREC_DROP) (by decide))).trans (raise_sluiceStays _ 9 (by decide))

theorem setFlight_sluiceStays (s : State) (n : Nat) (l : List Flight) : SluiceStays s (s.setFlight n l) := by
  unfold State.setFlight
  dsimp only
  split
  · exact (SluiceStays.records rfl rfl).trans (.put _ (f := F.Q_STAT_INFLIGHT n) _ (by simp only [F.Q_STAT_INFLIGHT]; omega))
  · exact .records rfl rfl

theorem noteEnd_sluiceStays (s : State) (p : Pkt) (last refused : Bool) : SluiceStays s (s.noteEnd p last refused) := by
  unfold State.noteEnd
  dsimp only
  split
  · exact .refl s
  · split <;> exact setFlight_sluiceStays ..

theorem dropVerified_sluiceStays (s : State) (p : Pkt) (last dup : Bool) : SluiceStays s (s.dropVerified p last dup) := by
  unfold State.dropVerified
  split
  · exact .records rfl rfl
  · exact .refl s

/-- R74: a reply is held for its queue; a packet that asks for none is counted where it fails. -/
theorem reply_sluiceStays (s : State) (p : Pkt) (status : Nat) (res : List Nat) (time : Nat) (last refused : Bool) :
    SluiceStays s (s.reply p status res time last refused) := by
  have hended := (dropVerified_sluiceStays s p last refused).trans (noteEnd_sluiceStays _ p last refused)
  unfold State.reply
  dsimp only
  split
  · split
    · exact hended
    · refine (hended.trans ?_).trans (postRec_sluiceStays _ _)
      split
      · exact .incSat _ (by simp only [F.Q_NR_ERR_COUNT]; omega)
      · exact .refl _
  · split
    · exact hended
    · exact hended.trans (.records rfl rfl)

theorem done_sluiceStays (s : State) (p : Pkt) (status : Nat) : SluiceStays s (s.done p status) := reply_sluiceStays ..

/-! ### Interrupts and wake-ups -/

theorem wakeSource_lt {w : Nat} (h : w < 32) : wakeSource w < 512 := by
  unfold wakeSource
  split_ifs <;> omega

theorem hostSweep_sluiceStays (s : State) : SluiceStays s s.hostSweep :=
  .foldl _ _ _ fun n hn t => .ofIrqOnly (hostDeliver_irqOnly t n (by have := List.mem_range.mp hn; omega))

theorem answerPower_sluiceStays (s : State) (status : Nat) : SluiceStays s (s.answerPower status) :=
  (SluiceStays.records rfl rfl).trans (.foldl _ _ _ fun p _ t => done_sluiceStays t p status)

theorem put64_sluiceStays (s : State) {f : Fld} (v : Nat) (hf : f.addr + 4 < 0x200D0000) : SluiceStays s (s.put64 f v) :=
  (SluiceStays.setWord s _ (.inl (by omega))).trans (.setWord _ _ (.inl hf))

/-- R483: the cause and the time of the wake-up, RUN, and each source whose latch is set. -/
theorem wakeSources_sluiceStays (s : State) : SluiceStays s s.wakeSources := by
  unfold State.wakeSources
  extract_lets set s2 src s3 s4
  have hcause : SluiceStays s s2 :=
    ((SluiceStays.put s (f := F.IRQ_WAKE_CAUSE_VALID) _ (.inl (by decide))).trans
      (.put _ (f := F.IRQ_WAKE_CAUSE_WAKE) _ (.inl (by decide)))).trans (put64_sluiceStays _ (f := F.IRQ_WAKE_TS_LO) _ (by decide))
  have hwoken : SluiceStays s2 s3 := ((SluiceStays.irq s2 { s2.irq with sensing := false }).trans
    (.put _ (f := F.IRQ_BLK_STAT_POWER) 0 (.inl (by decide)))).trans (raise_sluiceStays _ 8 (by decide))
  have hsources : SluiceStays s3 s4 := .foldl _ _ _ fun i hi t => by
    split
    · exact .ofIrqOnly (edgeCore_irqOnly t _ (wakeSource_lt (List.mem_range.mp hi)))
    · exact .refl t
  exact ((hcause.trans hwoken).trans hsources).trans (hostSweep_sluiceStays _)

theorem answerWoken_sluiceStays (s : State) (p : Pkt) : SluiceStays s (s.answerWoken p) := by
  unfold State.answerWoken
  exact reply_sluiceStays ..

theorem wakeUp_sluiceStays (s : State) : SluiceStays s s.wakeUp :=
  ((wakeSources_sluiceStays s).trans (.irq s.wakeSources { s.wakeSources.irq with pwrPkts := [] })).trans
    (.foldl _ _ _ fun p _ t => answerWoken_sluiceStays t p)

/-- R483, R484: a wake-up, or the end of a request for STANDBY. -/
theorem wakeCheck_sluiceStays (s : State) : SluiceStays s s.wakeCheck := by
  unfold State.wakeCheck
  split
  · exact (((SluiceStays.irq s { s.irq with sensing := false }).trans (.put _ (f := F.IRQ_BLK_STAT_POWER) 0 (.inl (by decide)))).trans
      (raise_sluiceStays _ 9 (by decide))).trans (answerPower_sluiceStays ..)
  · split
    · exact wakeUp_sluiceStays s
    · exact .refl s

theorem pulse_sluiceStays (s : State) {n : Nat} (hn : n < 512) : SluiceStays s (s.pulse n) :=
  (((SluiceStays.ofIrqOnly (wakeSense_irqOnly s n true)).trans (.ofIrqOnly (wakeSense_irqOnly _ n false))).trans
    (.ofIrqOnly (edgeCore_irqOnly _ n hn))).trans (wakeCheck_sluiceStays _)

theorem line_sluiceStays (s : State) {n : Nat} (l : Bool) (hn : n < 512) : SluiceStays s (s.line n l) :=
  (SluiceStays.ofIrqOnly (lineCore_irqOnly s n l hn)).trans (wakeCheck_sluiceStays _)

/-! ### Packets -/

theorem splEmit_sluiceStays (s : State) (fs : List (Nat × List Nat)) : SluiceStays s (s.splEmit fs) := by
  unfold State.splEmit
  dsimp only
  split
  · exact .refl s
  · exact (SluiceStays.records rfl rfl).trans
      (.foldl _ _ _ fun f _ t => .incSat t (f := F.SPLL_TX_FRAMES f.1) (by simp only [F.SPLL_TX_FRAMES]; omega))

theorem noteStart_sluiceStays (s : State) (p : Pkt) : SluiceStays s (s.noteStart p) := by
  unfold State.noteStart
  dsimp only
  split
  · exact .records rfl rfl
  · exact .refl s

/-- R431: a packet that the mirror stream carries. -/
theorem mirrorCmd_sluiceStays (s : State) (p : Pkt) (c : Nat) : SluiceStays s (s.mirrorCmd p c) :=
  ((SluiceStays.lash s _).trans (splEmit_sluiceStays _ _)).trans (.lash _ _)

/-- R81: a packet waits, is refused, is mirrored, or has its effect. -/
theorem command_sluiceStays (s : State) (p : Pkt) (op : Nat) (checks : List (Bool × Nat)) {effect : State → State}
    (h : ∀ t, SluiceStays t (effect t)) : SluiceStays s (s.command p op checks effect) := by
  unfold State.command
  split
  · exact .refl s
  · split
    · exact done_sluiceStays s p _
    · split
      · exact done_sluiceStays s p _
      · split
        · exact (noteStart_sluiceStays s p).trans (mirrorCmd_sluiceStays _ p _)
        · exact (noteStart_sluiceStays s p).trans (h _)

theorem setWords_sluiceStays (s : State) {a : Nat} (l : List Nat) (ha : 0x200E0000 ≤ a) : SluiceStays s (s.setWords a l) := by
  induction l generalizing s a with
  | nil => exact .refl s
  | cons w r ih => exact (SluiceStays.setWord s _ (.inr ha)).trans (ih _ (by omega))

/-! ### Touch channels and connectors -/

theorem setPressed_sluiceStays (s : State) (n : Nat) (b : Bool) : SluiceStays s (s.setPressed n b) :=
  (SluiceStays.put s (f := F.OPIO_PRESSED) _ (by decide)).trans (.records rfl rfl)

theorem put_count_sluiceStays (s : State) (n v : Nat) : SluiceStays s (s.put (F.TK_COUNT n) v) :=
  .put s v (by simp only [F.TK_COUNT]; omega)

theorem put_base_sluiceStays (s : State) (n v : Nat) : SluiceStays s (s.put (F.TK_BASE n) v) :=
  .put s v (by simp only [F.TK_BASE]; omega)

theorem put_hpState_sluiceStays (s : State) (n v : Nat) : SluiceStays s (s.put (F.HP_STATE n) v) :=
  .put s v (by simp only [F.HP_STATE]; omega)

theorem put_hpen_sluiceStays (s : State) (n v : Nat) : SluiceStays s (s.put (F.HP_HPEN n) v) :=
  .put s v (by simp only [F.HP_HPEN]; omega)

/-- R500: a measurement of a channel presses or releases its key, or counts. -/
theorem touchMeasure_sluiceStays (s : State) {n : Nat} (c : Nat) (hn : n < 24) : SluiceStays s (s.touchMeasure n c) := by
  have hpulse (u : State) : SluiceStays u (u.pulse (266 + n)) := pulse_sluiceStays u (by omega)
  unfold State.touchMeasure
  extract_lets d run setRun s0 pressRun s1 releaseRun
  have hcount : SluiceStays s s0 := put_count_sluiceStays s n c
  have hrun (u : State) (r : Nat) : SluiceStays u (setRun u r) := .records rfl rfl
  have hbase : SluiceStays s s1 := hcount.trans (put_base_sluiceStays s0 n _)
  split
  · split
    · exact ((hbase.trans (setPressed_sluiceStays s1 n true)).trans (hpulse _)).trans (.prog _ _)
    · exact hbase.trans (hrun s1 pressRun)
  · split
    · exact (hcount.trans (setPressed_sluiceStays s0 n false)).trans (hpulse _)
    · exact hcount.trans (hrun s0 releaseRun)

/-- R503, R504: HPEN falls, and the slots that depend on the connector are held. -/
theorem hpDrop_sluiceStays (s : State) (n : Nat) : SluiceStays s (s.hpDrop n) := by
  unfold State.hpDrop
  split
  · exact .refl s
  · split
    · exact put_hpen_sluiceStays ..
    · exact (put_hpen_sluiceStays s n 0).trans (.foldl _ _ _ fun k _ t => .records rfl rfl)

theorem hpOn_sluiceStays (s : State) (n : Nat) : SluiceStays s (s.hpOn n) :=
  ((SluiceStays.records rfl rfl).trans (put_hpen_sluiceStays _ n 1)).trans (put_hpState_sluiceStays _ n _)

theorem hpMove_sluiceStays (s : State) (n : Nat) : SluiceStays s (s.hpMove n) := by
  have hstate := put_hpState_sluiceStays s n
  unfold State.hpMove
  dsimp only
  split
  · exact .refl s
  · split
    · split
      · exact hstate _
      · split
        · exact ((hstate _).trans (.incSat _ (f := F.HP_GLITCHES n) (by simp only [F.HP_GLITCHES]; omega))).trans
            (raise_sluiceStays _ 8 (by decide))
        · exact .refl s
    · split
      · exact hstate _
      · split
        · exact (hstate _).trans (hpDrop_sluiceStays _ n)
        · exact .refl s

/-- R503: the detect input is seen, and the connector moves. -/
theorem hpSee_sluiceStays (s : State) (n : Nat) : SluiceStays s (s.hpSee n) :=
  (SluiceStays.put s (f := F.HP_PIN n) _ (by simp only [F.HP_PIN]; omega)).trans (hpMove_sluiceStays _ n)

/-! ### The commands -/

/-- The command ends in a next state in which the Sluice is as it was. -/
def SluiceOut (s : State) (o : Out) : Prop := ∃ t, o = .next t ∧ SluiceStays s t

theorem sluiceOut_next {s t : State} (h : SluiceStays s t) : SluiceOut s (.next t) := ⟨t, rfl, h⟩

theorem awake_sluiceOut {s t : State} (h : SluiceStays s t) : SluiceOut s (s.awake (.next t)) := by
  unfold State.awake
  split
  · exact sluiceOut_next h
  · exact sluiceOut_next (.refl s)

theorem touchScan_sluiceOut (cs : List Nat) (s : State) : SluiceOut s (exec (.touchScan cs) s) := by
  refine awake_sluiceOut (.foldl _ _ _ fun n hn t => ?_)
  split
  · exact touchMeasure_sluiceStays t _ (List.mem_range.mp hn)
  · exact .refl t

theorem tkStuck_sluiceOut (n : Nat) (s : State) : SluiceOut s (exec (.tkStuck n) s) := by
  refine awake_sluiceOut ?_
  split
  · exact (((setPressed_sluiceStays s n false).trans (.put _ (f := F.OPIO_STUCK) _ (by decide))).trans
      (put_base_sluiceStays ..)).trans (raise_sluiceStays _ 10 (by decide))
  · exact .refl s

/-- R503: a change at a detect input, which may wake the device. -/
theorem hpPinChange_sluiceOut (n : Nat) (b : Bool) (s : State) : SluiceOut s (exec (.hpPinChange n b) s) := by
  refine sluiceOut_next ?_
  split
  · exact .refl s
  · extract_lets src s1 s2
    have hraw : SluiceStays s s1 := .records rfl rfl
    have hwake : SluiceStays s1 s2 := by
      unfold s2
      split
      · exact (SluiceStays.ofIrqOnly (wakeSense_irqOnly ..)).trans (wakeCheck_sluiceStays _)
      · exact .refl s1
    split
    · exact (hraw.trans hwake).trans (hpSee_sluiceStays s2 n)
    · exact hraw.trans hwake

/-- R503: a connector that runs is one of sixteen. -/
theorem hpRuns_lt {s : State} {n : Nat} (h : s.hpRuns n = true) : n < 16 := by
  simp only [State.hpRuns, Bool.and_eq_true, decide_eq_true_eq] at h
  obtain ⟨⟨hn, -⟩, -⟩ := h
  exact hn

/-- R503: a connector that runs changes its state and its line. -/
theorem hpState_line_sluiceStays (s : State) {n : Nat} (v : Nat) (l : Bool) (h : s.hpRuns n = true) :
    SluiceStays s ((s.put (F.HP_STATE n) v).line (290 + n) l) := by
  have hn := hpRuns_lt h
  exact (put_hpState_sluiceStays s n v).trans (line_sluiceStays _ l (by omega))

theorem lifeInc_sluiceStays (s : State) (n : Nat) : SluiceStays s (s.lifeInc n) :=
  .setWord s _ (by simp only [lifeRun]; omega)

/-- R503: the debounce time of a connector ends. -/
theorem hpDebounceExpiry_sluiceOut (n : Nat) (s : State) : SluiceOut s (exec (.hpDebounceExpiry n) s) := by
  have hsee := hpSee_sluiceStays s n
  refine awake_sluiceOut ?_
  split
  · next h =>
    simp only [Bool.and_eq_true] at h
    obtain ⟨⟨hruns, -⟩, -⟩ := h
    exact ((hsee.trans (hpState_line_sluiceStays _ hpDELAY true hruns)).trans (lifeInc_sluiceStays ..)).trans (.prog _ _)
  · split
    · next h =>
      simp only [Bool.and_eq_true] at h
      obtain ⟨⟨hruns, -⟩, -⟩ := h
      exact (hsee.trans (hpState_line_sluiceStays _ hpEMPTY false hruns)).trans (.prog _ _)
    · exact hsee

/-- R503: the power delay of a connector ends. -/
theorem hpPowerDelayExpiry_sluiceOut (n : Nat) (s : State) : SluiceOut s (exec (.hpPowerDelayExpiry n) s) := by
  refine awake_sluiceOut ?_
  split
  · exact (hpSee_sluiceStays s n).trans (hpOn_sluiceStays _ n)
  · exact hpSee_sluiceStays s n

theorem joinFail_sluiceOut (n : Nat) (s : State) : SluiceOut s (exec (.joinFail n) s) := by
  refine awake_sluiceOut ?_
  split
  · exact raise_sluiceStays s 9 (by decide)
  · exact .refl s

/-- R508: HOTPLUG_POWER switches a connector on or off. -/
theorem hotplugPower_sluiceOut (p : Pkt) (s : State) : SluiceOut s (exec (.hotplugPower p) s) := by
  refine sluiceOut_next (command_sluiceStays s p _ _ fun t => SluiceStays.trans ?_ (done_sluiceStays _ p _))
  split
  · exact hpOn_sluiceStays t _
  · split
    · exact (put_hpState_sluiceStays ..).trans (hpDrop_sluiceStays ..)
    · exact .refl t

/-- R506: the commands of the touch channels and the connectors. -/
theorem operatorCommand_sluiceOut (n : Nat) (cs : List Nat) (b : Bool) (p : Pkt) (s : State) {c : Instr}
    (hc : c ∈ [.touchScan cs, .tkStuck n, .hpPinChange n b, .hpDebounceExpiry n, .hpPowerDelayExpiry n, .joinFail n, .touchConfig p,
      .touchStatus p, .hotplugConfig p, .hotplugStatus p, .hotplugPower p]) : SluiceOut s (exec c s) := by
  simp only [List.mem_cons, List.not_mem_nil, or_false] at hc
  rcases hc with rfl | rfl | rfl | rfl | rfl | rfl | rfl | rfl | rfl | rfl | rfl
  · exact touchScan_sluiceOut cs s
  · exact tkStuck_sluiceOut n s
  · exact hpPinChange_sluiceOut n b s
  · exact hpDebounceExpiry_sluiceOut n s
  · exact hpPowerDelayExpiry_sluiceOut n s
  · exact joinFail_sluiceOut n s
  · exact sluiceOut_next (command_sluiceStays s p _ _ fun t =>
      (setWords_sluiceStays t _ (by simp only [bOPIO]; omega)).trans (done_sluiceStays _ p _))
  · exact sluiceOut_next (command_sluiceStays s p _ _ fun t => reply_sluiceStays ..)
  · exact sluiceOut_next (command_sluiceStays s p _ _ fun t =>
      ((setWords_sluiceStays t _ (by simp only [bOPIO]; omega)).trans (hpSee_sluiceStays ..)).trans (done_sluiceStays _ p _))
  · exact sluiceOut_next (command_sluiceStays s p _ _ fun t => reply_sluiceStays ..)
  · exact hotplugPower_sluiceOut p s

/-- Settles O17: what `SluiceStays` says of each of the commands. -/
theorem operatorInputsNeverReachSluice : Obligations.OperatorInputsNeverReachSluice := by
  intro n cs b p s t c hc hexec
  obtain ⟨u, hu, hstays⟩ := operatorCommand_sluiceOut n cs b p s hc
  rw [hu] at hexec
  cases hexec
  exact hstays

end Sys2Proof.Machine
